-- ==== Sys2Proof/Word.lean ====
section
/-! DEFINITION. The word types and their plainest arithmetic: bytes, big-endian fields (R17), the two masts,
and association lists in one canonical form for sparse tables. -/
namespace Sys2Proof

/-- One byte of a packet, image or bank. -/
abbrev Byte := BitVec 8

/-- A data word of 36 bits: the memory word, the signal word and the coefficient (R39). -/
abbrev Word36 := BitVec 36

/-- The two masts of a package (R20). -/
inductive Mast where
  | a
  | b
  deriving DecidableEq, Repr

/-- The other mast. -/
def Mast.other : Mast → Mast
  | .a => .b
  | .b => .a

/-- The code of a mast in packets and records: 0 Mast A, 1 Mast B. -/
def Mast.code : Mast → Nat
  | .a => 0
  | .b => 1

/-- The mast a code of 0 or 1 names. -/
def Mast.ofCode (n : Nat) : Mast := if n = 0 then .a else .b

/-- One value per mast. -/
structure Both (α : Type) where
  a : α
  b : α
  deriving DecidableEq, Repr

/-- The value of one mast. -/
def Both.get {α : Type} (x : Both α) : Mast → α
  | .a => x.a
  | .b => x.b

/-- Replace the value of one mast. -/
def Both.set {α : Type} (x : Both α) (m : Mast) (v : α) : Both α :=
  match m with
  | .a => { x with a := v }
  | .b => { x with b := v }

/-- The same change on both masts. -/
def Both.map {α : Type} (x : Both α) (f : α → α) : Both α := { a := f x.a, b := f x.b }

/-- The same value on both masts. -/
def Both.same {α : Type} (v : α) : Both α := { a := v, b := v }

/-- A sparse table: key and value pairs, keys strictly rising. -/
abbrev Assoc (α : Type) := List (Nat × α)

/-- The value held under a key, if any. -/
def Assoc.find {α : Type} : Assoc α → Nat → Option α
  | [], _ => none
  | (k, v) :: rest, i => if k = i then some v else Assoc.find rest i

/-- The value held under a key, or a default. -/
def Assoc.getD {α : Type} (t : Assoc α) (i : Nat) (d : α) : α := (Assoc.find t i).getD d

/-- Set the value under a key, keeping the keys rising. -/
def Assoc.put {α : Type} : Assoc α → Nat → α → Assoc α
  | [], i, v => [(i, v)]
  | (k, w) :: rest, i, v =>
    if i < k then (i, v) :: (k, w) :: rest
    else if k = i then (i, v) :: rest
    else (k, w) :: Assoc.put rest i v

/-- Remove a key. -/
def Assoc.drop {α : Type} (t : Assoc α) (i : Nat) : Assoc α := t.filter (fun p => p.1 != i)

/-- The keys strictly rise. -/
def Assoc.rising {α : Type} : Assoc α → Bool
  | [] => true
  | [_] => true
  | (k, _) :: (k', v') :: rest => decide (k < k') && Assoc.rising ((k', v') :: rest)

/-- `n` bytes of `v`, most significant first (R17). -/
def be : Nat → Nat → List Byte
  | 0, _ => []
  | n + 1, v => BitVec.ofNat 8 (v / 256 ^ n) :: be n v

/-- The number a big-endian byte string holds (R17). -/
def unbe (bs : List Byte) : Nat := bs.foldl (fun acc b => acc * 256 + b.toNat) 0

/-- `n` zero bytes: a reserved field as it is returned (R18). -/
def zeros (n : Nat) : List Byte := List.replicate n 0

/-- A signed value in `n` bytes, two's complement, most significant first. -/
def beSigned (n : Nat) (v : Int) : List Byte := be n (v % (256 ^ n : Nat)).toNat

/-- Pad or cut a byte string to exactly `n` bytes with zeros. -/
def fit (n : Nat) (bs : List Byte) : List Byte := (bs ++ zeros (n - bs.length)).take n

/-- Bit `i` of a number. -/
def bit (v i : Nat) : Bool := v.testBit i

/-- The bits [hi:lo] of a number. -/
def bitsOf (v hi lo : Nat) : Nat := (v / 2 ^ lo) % 2 ^ (hi + 1 - lo)

/-- 1 for true, 0 for false. -/
def b01 (b : Bool) : Nat := if b then 1 else 0

/-- Unsigned 64-bit increment that saturates at its maximum (R504). -/
def satAdd64 (v n : Nat) : Nat := min (v + n) (2 ^ 64 - 1)

/-- Clamp a signed value to `n` bits, two's complement. -/
def clampSigned (n : Nat) (v : Int) : Int := max (-(2 ^ (n - 1))) (min v (2 ^ (n - 1) - 1))

/-- The signed value of an `n`-bit field. -/
def signedOf (n v : Nat) : Int :=
  if v % 2 ^ n < 2 ^ (n - 1) then (v % 2 ^ n : Nat) else ((v % 2 ^ n : Nat) : Int) - 2 ^ n

/-- A list with the entry at a position replaced; unchanged where the position is outside it. -/
def setAt {α : Type} (l : List α) (i : Nat) (v : α) : List α := l.set i v

/-- The entry at a position, or a default. -/
def atD {α : Type} (l : List α) (i : Nat) (d : α) : α := (l[i]?).getD d

/-- The bytes of an ASCII string given as character codes. -/
def asciiBytes (cs : List Nat) : List Byte := cs.map (BitVec.ofNat 8)

/-- Round an exact quotient to nearest, ties away from zero is never needed: halves go up. -/
def roundDiv (n : Int) (d : Nat) : Int := (2 * n + d).fdiv (2 * d)

/-- No value appears twice. -/
def distinct {α : Type} [BEq α] : List α → Bool
  | [] => true
  | x :: xs => !xs.contains x && distinct xs

/-- Keep the last `n` entries of a list. -/
def keepLast {α : Type} (n : Nat) (l : List α) : List α := l.drop (l.length - n)

end Sys2Proof
end

