-- ==== Sys2Proof/Config.lean ====
section
/-! DEFINITION. What a variant fixes (R2, R190), the constants of the manual that several chapters share, and the
free values: constants with no body, for what the spec leaves open (log entries 1 and 2). -/
namespace Sys2Proof

/-- The three variants of the family (R1, R2). -/
inductive Variant where
  | v2048V
  | v2048N
  | v1024A
  deriving DecidableEq, Repr

namespace Config

/-- FREE VALUE. The n-th fresh value the device draws where the spec says only that it is random, or leaves a value
open; the step reads and advances `State.freeCount`. Nothing constrains it. -/
opaque freeNat : Nat → Nat

/-- FREE VALUE. SHA-384 as a function of bytes (R558, R560): the digest a hash engine gives; only its being a function
of the bytes is used. -/
opaque sha384 : List Byte → List Byte

/-- FREE VALUE. AES-256-GCM or ECDSA output bytes that leave the part: a function of a purpose code and the bytes
protected. -/
opaque sealBytes : Nat → List Byte → List Byte

/-- FREE VALUE. One output sample of an asynchronous or fixed-ratio rate converter (R307, R308): the filter's
coefficients are not given, so the word is a function of the ratio, the phase and the input history. -/
opaque asrcWord : Nat → Nat → List (BitVec 36) → BitVec 36

/-- FREE VALUE. One interpolated or filtered word of the message and fallback players, whose filter coefficients the
spec does not give: a function of the input history and the sub-phase. -/
opaque firWord : Nat → List Int → Int

/-- FREE VALUE. The ASRC pool channel of a source's channel, by a number that names both (R511): the spec numbers no
channel of the pool. -/
opaque poolChannel : Nat → Nat

/-- FREE VALUE. The Route region, modulo 4, whose digest covers a sent stream's words (R64): the spec assigns streams to no
region. -/
opaque streamRegion : Nat → Nat

/-- FREE VALUE. One word of the noise of a test route, by SIGNAL and step, and where the sine of one starts and how its words are
rounded (R221): the spec gives levels and a frequency, and no words. -/
opaque testWord : Nat → Nat → BitVec 36

/-- FREE VALUE. One sample of the active video of an SDI input, by input, frame start, line and place in the line: no command
carries an SDI input's samples. -/
opaque sdiSample : Nat → Int → Nat → Nat → Nat

/-- FREE VALUE. One sample of the colour bars of a video test route (R221), by width, line and place in the line: the spec does not
say which bars. -/
opaque barSample : Nat → Nat → Nat → Nat

/-- FREE VALUE. The Captain's ratio estimate for an SDI embedder whose video timebase is not TB_0 (R334), by timebase and step. -/
opaque embedRatio : Nat → Nat → Nat

/-- FREE VALUE. The word of a row that an uncorrectable read of the datapath finds, by site and step (R250): a report's SITE names the
row alone. -/
opaque badWord : Nat → Nat → Nat

/-- FREE VALUE. The FABRIC cycles of its lag that a Route region makes up in a step (R461), by region and step: the spec does not say how
fast a pipeline does. -/
opaque routeCatchUp : Nat → Nat → Nat

/-- FREE VALUE. The output divider of the synthesis PLL of a lane region (R444): the spec gives no value. -/
opaque laneDivider : Nat → Nat

/-- Mix regions present (R2, R190). -/
def mixRegions : Variant → Nat
  | .v2048V => 4
  | .v2048N => 4
  | .v1024A => 2

/-- Clusters present (R2). -/
def clusters : Variant → Nat
  | .v2048V => 32
  | .v2048N => 32
  | .v1024A => 16

/-- Audio input channels, and as many output channels (R2). -/
def audioChannels : Variant → Nat
  | .v2048V => 2048
  | .v2048N => 2048
  | .v1024A => 1024

/-- Received streams, and as many sent streams (R2, R190). -/
def streams : Variant → Nat
  | .v2048V => 512
  | .v2048N => 512
  | .v1024A => 256

/-- SDI ports in each direction (R2). -/
def sdiPorts : Variant → Nat
  | .v2048V => 64
  | .v2048N => 0
  | .v1024A => 0

/-- Whether the video crosspoint is present (R2). -/
def hasVideo : Variant → Bool
  | .v2048V => true
  | .v2048N => true
  | .v1024A => false

/-- Working MAC units (R2). -/
def macUnits : Variant → Nat
  | .v2048V => 512
  | .v2048N => 512
  | .v1024A => 256

/-- Cluster store words (R2). -/
def storeWords : Variant → Nat
  | .v2048V => 2097152
  | .v2048N => 2097152
  | .v1024A => 1048576

/-- Active mix points, maximum (R2). -/
def mixPoints : Variant → Nat
  | .v2048V => 1048576
  | .v2048N => 1048576
  | .v1024A => 524288

/-- Ethernet-capable lane pairs (R2, R41). -/
def ethLanes : Variant → Nat
  | .v2048V => 128
  | .v2048N => 128
  | .v1024A => 32

/-- The CAPS variant code (R190). -/
def variantCode : Variant → Nat
  | .v2048V => 1
  | .v2048N => 2
  | .v1024A => 3

/-- Delay pool words (R2). -/
def delayWords : Nat := 2097152

/-- Bytes of one rig slot (R190, R262). -/
def rigSlotBytes : Nat := 16777216

/-- Replies and events a seat's ledger holds (R163). -/
def ledgerEntries : Nat := 4096

/-- Scheduled commands the package holds at most (R170). -/
def schedLimit : Nat := 1024

/-- Bytes of one outbound queue, and of the serial inbound buffer (R150, R152). -/
def queueBytes : Nat := 131072

/-- The largest packet: 40-byte header, 65,536 bytes of payload and the 16-byte tag (R138, R141). -/
def maxPacketBytes : Nat := 65592

/-- Bytes of a scratch bank (R221). -/
def bankBytes : Nat := 65536

/-- The length of one XO cycle, 40 ns, in thirds of a nanosecond (R443 and R489). -/
def xoCycle : Nat := 120

/-- The length of one CTRL cycle, 2 ns, in thirds of a nanosecond. -/
def ctrlCycle : Nat := 6

/-- One microsecond, in thirds of a nanosecond. -/
def usec : Nat := 3000

/-- One millisecond, in thirds of a nanosecond. -/
def msec : Nat := 3000000

/-- One second, in thirds of a nanosecond. -/
def second : Nat := 3000000000

end Config
end Sys2Proof
end

