-- ==== Sys2Proof/Machine/LaneState.lean ====
section
/-! DEFINITION. The serial lanes of one mast and the Stay and Shroud links they form (chapter 11). -/
namespace Sys2Proof.Machine

/-- States of a lane, with the codes of the lane gauge (R505). -/
inductive LaneSt where
  | unpowered
  | bringUp
  | up
  | down
  | retired
  | loopback
  deriving DecidableEq, Repr

/-- The gauge code of a lane state (R505). -/
def LaneSt.code : LaneSt → Nat
  | .unpowered => 0
  | .bringUp => 1
  | .up => 2
  | .down => 3
  | .retired => 4
  | .loopback => 5

/-- Receiver states of a Stay or Shroud lane (R405). -/
inductive AlignSt where
  | hunt
  | headerLock
  | aligned
  deriving DecidableEq, Repr

/-- One lane (R384 to R399, R405), by lane id: 0 to 191 media, 192 to 223 Stay, 224 to 231 Shroud, 232 management. -/
structure Lane where
  st : LaneSt
  los : Bool
  lol : Bool
  /-- Whether it has been up since it was powered, when it was powered, and whether its bring-up fault has been raised
  (R398). -/
  upOnce : Bool
  poweredAt : Nat
  bringUpFault : Bool
  /-- Loopback: 0 none, 1 near end, 2 far end (R221, R399), with the PRBS31 bit errors found. -/
  loop : Nat
  loopErrors : Nat
  /-- EYE_V in mV and EYE_H in 1/64 UI of the last 10 s, newest first, with their times (R394). -/
  eyes : List (Nat × Nat × Nat)
  align : AlignSt
  /-- FRAME of the last marker sent and of the last one received; the seeds of the received and of the sent frame (R402, R403, R405). -/
  txFrame : Nat
  rxFrame : Nat
  seed : Nat
  txSeed : Nat
  /-- Time of the last egress drop fault of the port (R390). -/
  dropAt : Option Nat
  deriving DecidableEq, Repr

/-- An unpowered lane. -/
def Lane.none : Lane :=
  { st := .unpowered, los := false, lol := false, upOnce := false, poweredAt := 0, bringUpFault := false, loop := 0,
    loopErrors := 0, eyes := [], align := .hunt, txFrame := 0, rxFrame := 0, seed := 0, txSeed := 0, dropAt := Option.none }

/-- Container sequences of one link, by class 1 to 4 (R406): the next SEQ to send, the next expected, and the SEQs held
beyond a gap with the time the gap was seen. -/
structure LinkSeq where
  sent : List Nat
  expected : List Nat
  beyond : List (Nat × Nat × Nat)
  /-- Containers skipped as lost (R406). -/
  lost : Nat
  deriving DecidableEq, Repr

/-- A link before its first container. -/
def LinkSeq.reset : LinkSeq := { sent := [0, 0, 0, 0], expected := [0, 0, 0, 0], beyond := [], lost := 0 }

/-- The next SEQs to send, once a class has sent some containers (R406). -/
def LinkSeq.send (x : LinkSeq) (cls n : Nat) : LinkSeq := { x with sent := setAt x.sent (cls - 1) ((atD x.sent (cls - 1) 0 + n) % 2 ^ 32) }

/-- A TANDEM block as received (R402). -/
structure TandemBlock where
  mast : Nat
  state : Nat
  mode : Nat
  step : Nat
  deriving DecidableEq, Repr

/-- The egress queues of one port (R390): the lengths of the frames waiting, by priority from the highest, and what of the line
is left over from the last step, in thirds of a bit. -/
structure Egress where
  queues : List (List Nat)
  credit : Nat
  deriving DecidableEq, Repr

/-- Empty queues. -/
def Egress.empty : Egress := { queues := [[], [], [], []], credit := 0 }

/-- A video packet that waits for the Stay link (R34, R54): the flow input, its sequence number, the frame it belongs to by its
timestamp, and its length in bytes. -/
structure VideoForward where
  port : Nat
  seq : Nat
  ts : Nat
  bytes : Nat
  deriving DecidableEq, Repr

/-- The lanes of one mast. -/
structure LaneMast where
  lanes : Assoc Lane
  /-- The egress queues of its ports (R390). -/
  egress : Assoc Egress
  /-- Video packets that wait for the Stay link, the last class of R34 to be served. -/
  videoOut : List VideoForward
  stay : LinkSeq
  shroud : LinkSeq
  /-- The lane on which the next TANDEM block and the next BEAT go (R407, R412). -/
  tandemNext : Nat
  beatNext : Nat
  /-- Time and content of the last valid TANDEM block received (R84, R402), and the last one sent. -/
  tandemAt : Option Nat
  tandemRx : Option TandemBlock
  tandemTx : Option TandemBlock
  /-- The Shroud link of this mast (R412), time of the last BEAT that authenticated, its step, and the last BEAT sent. -/
  shroudUp : Bool
  beatAt : Option Nat
  beatStep : Nat
  beatTx : Nat
  /-- The link key and, until the first container authenticates under it, the key it took the place of; this mast's nonce of a HELLO
  exchange that runs, and the peer's of the last; containers under the key (R411, R585). -/
  linkKey : Option (List Byte)
  formerKey : Option (List Byte)
  nonce : Option (List Byte)
  peerNonce : List Byte
  containers : Nat
  deriving DecidableEq, Repr

/-- The lanes of a mast after its reset. -/
def LaneMast.reset : LaneMast :=
  { lanes := [], egress := [], videoOut := [], stay := .reset, shroud := .reset, tandemNext := 192, beatNext := 224, tandemAt := none,
    tandemRx := none, tandemTx := none, shroudUp := false, beatAt := none, beatStep := 0, beatTx := 0, linkKey := none,
    formerKey := none, nonce := none, peerNonce := [], containers := 0 }

/-- The Shroud link key of a mast is gone, and so is its HELLO exchange (R561, R585). -/
def LaneMast.dropKey (x : LaneMast) : LaneMast := { x with linkKey := none, formerKey := none, nonce := none, peerNonce := [] }

end Sys2Proof.Machine
end

