-- ==== Sys2Proof/Machine/HalyardState.lean ====
section
/-! DEFINITION. The state of Halyard: sessions, seats, sequences, ledgers, scheduled commands, loads, and the host
port of each mast (chapters 04, 05 and 17). -/
namespace Sys2Proof.Machine

/-- The three transports of a mast (R141); the codes are those of R549. -/
inductive Transport where
  | pcie
  | csp
  | mgmt
  deriving DecidableEq, Repr

/-- The transport code of R549 and of the counter map (R505). -/
def Transport.code : Transport → Nat
  | .pcie => 0
  | .csp => 1
  | .mgmt => 2

/-- The 40-byte header of a packet (R138), big-endian. -/
def headerBytes (magic version kind opcode flags seat rsv10 hostSeq devSeq effStep len status rsv34 session : Nat) : List Byte :=
  be 2 magic ++ be 1 version ++ be 1 kind ++ be 2 opcode ++ be 2 flags ++ be 2 seat ++ be 2 rsv10 ++ be 4 hostSeq ++
    be 4 devSeq ++ be 8 effStep ++ be 4 len ++ be 2 status ++ be 2 rsv34 ++ be 4 session

/-- One packet from device to host (R138): its plaintext, the key it goes under, none where it is not encrypted (R142, R144), and
on the management Ethernet the address and port it goes to, and the IP version (R151). -/
structure Packet where
  kind : Nat
  opcode : Nat
  flags : Nat
  seat : Nat
  hostSeq : Nat
  devSeq : Nat
  effStep : Nat
  status : Nat
  session : Nat
  payload : List Byte
  key : Option (List Byte)
  dest : Nat
  ipv6 : Bool
  deriving DecidableEq, Repr

/-- The header of a packet of the device: its additional authenticated data (R138, R142). -/
def Packet.header (p : Packet) : List Byte :=
  headerBytes 0xE5A1 1 p.kind p.opcode p.flags p.seat 0 p.hostSeq p.devSeq p.effStep p.payload.length p.status 0 p.session

/-- The IV of a packet: 96 bits (R142). -/
def Packet.iv (p : Packet) : List Byte := be 1 p.kind ++ zeros 3 ++ be 4 p.hostSeq ++ be 4 p.devSeq

/-- A packet as it leaves: the header, the ciphertext and the 16-byte tag; SESSION_OPEN's reply has its plaintext and a tag of zeros
(R138, R142, R144). -/
def Packet.wire (p : Packet) : List Byte :=
  p.header ++ (match p.key with
    | none => p.payload ++ zeros 16
    | some k => fit (p.payload.length + 16) (Config.sealBytes 3 (k ++ p.iv ++ p.header ++ p.payload)))

/-- The bytes a packet takes on a transport: header, payload and tag (R138). -/
def Packet.size (p : Packet) : Nat := 56 + p.payload.length

/-- One ledger entry (R164). -/
structure LedgerEntry where
  kind : Nat
  mast : Nat
  opcode : Nat
  flags : Nat
  status : Nat
  hostSeq : Nat
  devSeq : Nat
  effStep : Nat
  payloadLen : Nat
  session : Nat
  head : List Byte
  deriving DecidableEq, Repr

/-- The reply kept for a duplicate (R158). -/
structure CachedReply where
  hostSeq : Nat
  opcode : Nat
  flags : Nat
  status : Nat
  effStep : Nat
  payload : List Byte
  deriving DecidableEq, Repr

/-- One seat (R153, R157, R162, R163). A seat that no profile item and no provisional rule defines has role 0. -/
structure SeatState where
  role : Nat
  prioLimit : Nat
  certHash : List Byte
  eventMask : Nat
  lastHostSeq : Nat
  devSeq : Nat
  ackPos : Nat
  /-- Host sequences accepted since the sequences last restarted, the last 64 (R157). -/
  accepted : List Nat
  cached : List CachedReply
  /-- Oldest first, at most 4,096 (R163). -/
  ledger : List LedgerEntry
  /-- The seat's copies of the timing sticky bits (R215). -/
  stickyAudio : Nat
  stickyVideo : Nat
  deriving DecidableEq, Repr

/-- One session, pending or open (R153, R154). -/
structure Session where
  id : Nat
  seat : Nat
  mast : Mast
  transport : Transport
  pending : Bool
  /-- Time of the opening reply (SESSION_AGE) and of the last authenticated command (R155). -/
  openedAt : Nat
  lastCmd : Nat
  /-- Source address and port of the latest authenticated command, and whether it came over IPv6 (R151). -/
  source : Nat
  ipv6 : Bool
  /-- The keys of packets from host to device, and from device to host (R142, R567). -/
  keyIn : List Byte
  keyOut : List Byte
  /-- Sequenced packets sent and commands accepted under the session's keys (R143). -/
  devUsed : Nat
  hostUsed : Nat
  deriving DecidableEq, Repr

/-- The target of a chunked load (R185). -/
inductive LoadTarget where
  | rig
  | image (kind : Nat)
  | message (index : Nat)
  deriving DecidableEq, Repr

/-- One load in progress (R185). -/
structure Load where
  target : LoadTarget
  seat : Nat
  total : Nat
  data : List Byte
  lastChunk : Nat
  deriving DecidableEq, Repr

/-- What a command reaches: the package; each mast's own data, in a read; or what its MAST field names, 0 Mast A, 1 Mast B
or 2 both, in a read of it or not (R168, R182, R183). -/
inductive Reach where
  | package
  | perMast
  | named (v : Nat)
  | readOf (v : Nat)
  deriving DecidableEq, Repr

/-- The reply to a scheduled command that waits until both masts have scheduled it (R63): its flags and fields. -/
structure DueReply where
  flags : Nat
  reach : Reach
  fields : List Byte
  deriving DecidableEq, Repr

/-- One scheduled command waiting for its effective step (R170 to R173). -/
structure SchedCmd where
  code : Nat
  payload : List Byte
  seat : Nat
  hostSeq : Nat
  effStep : Nat
  /-- Order of acceptance by the Captain (R171). -/
  order : Nat
  /-- Whether the Stoker holds the commit (R62). -/
  stokerHolds : Bool
  /-- The figure resolved for a default ramp time at acceptance, in ms (R634), or the tack kind and fade. -/
  aux : Nat
  /-- The reply that waits for the Stoker (R63). -/
  due : Option DueReply
  /-- The Primary has accepted the command, and this package applies it as its Reserve (R91). -/
  primary : Bool
  deriving DecidableEq, Repr

/-- A RAMP_DEFAULT_SET that has been accepted (R634). -/
structure RampDefault where
  effStep : Nat
  order : Nat
  ms : Nat
  deriving DecidableEq, Repr

/-- The package-wide state of Halyard (R159: both masts record the same). -/
structure Halyard where
  seats : List SeatState
  sessions : List Session
  sched : List SchedCmd
  nextOrder : Nat
  loads : List Load
  /-- The default ramp time in force, in ms (R39: 5). -/
  rampDefault : Nat
  rampDefaults : List RampDefault
  /-- Whether EV_LOCKOUT_RECORD still waits for the first session after BOOT (R130). -/
  lockoutReport : Bool
  deriving DecidableEq, Repr

/-- The host register window of one mast (R552). Fields that mirror other state (MODE, MAST_STATE, BOOT_COUNT) are
computed when read. -/
structure Window where
  intStatus : Nat
  intEnable : Nat
  intHoldoff : Nat
  cmdRingBase : Nat
  replyRingBase : Nat
  maxPacket : Nat
  ringEnable : Bool
  cmdTail : Nat
  cmdHead : Nat
  replyTail : Nat
  replyHead : Nat
  playWr : Nat
  playRd : Nat
  recWr : Nat
  recRd : Nat
  /-- The MSI-X table: 16 registers of 32 bits (4 entries of 16 bytes), vector control bit 0 masks. -/
  msixTable : List Nat
  msixPba : Nat
  /-- The latched high half of the last low-half read, and the held low half of a 64-bit write (R551). -/
  readLatch : Nat
  heldLow : Assoc Nat
  deriving DecidableEq, Repr

/-- One ring descriptor (R146): BUF_ADDR, BUF_LEN, OWN and DESC_STATUS. -/
structure Desc where
  addr : Nat
  len : Nat
  own : Bool
  status : Nat
  deriving DecidableEq, Repr

/-- One UDP datagram of the management Ethernet (R151): the lane it leaves by, the device's address, the addresses and ports. -/
structure Datagram where
  lane : Nat
  device : Nat
  srcPort : Nat
  dest : Nat
  ipv6 : Bool
  deriving DecidableEq, Repr

/-- The ring machinery behind the window (R147, R553). -/
structure RingState where
  /-- Whether a command descriptor is being fetched. -/
  fetching : Bool
  /-- Time of the last vector 0 message, and whether one is held (R553). -/
  lastMsi0 : Nat
  msi0Held : Bool
  /-- Messages signalled so far, per vector 0 to 3. -/
  msiCount : List Nat
  /-- The descriptors as the device has written them back to the command ring and the reply ring, by index (R146, R147). -/
  cmdDone : Assoc Desc
  replyDone : Assoc Desc
  deriving DecidableEq, Repr

/-- The mailbox rings of one mast (R549, R550). -/
structure Mailbox where
  inWr : Nat
  inRd : Nat
  outWr : Nat
  outRd : Nat
  deriving DecidableEq, Repr

/-- The host port of one mast: windows, queues and serial status (R145 to R152, R549 to R555). -/
structure HostPort where
  window : Window
  ring : RingState
  mailbox : Mailbox
  outPcie : List Packet
  outCsp : List Packet
  outMgmt : List Packet
  /-- Lengths of the packets delivered inbound and not yet taken by the command processor, per transport. -/
  inPcie : List Nat
  inCsp : List Nat
  inMgmt : List Nat
  /-- DISCARDED of the serial status byte (R150). -/
  cspDiscarded : Bool
  /-- ARP, neighbour discovery and ICMP echo frames answered (R151). -/
  serviceAnswers : Nat
  /-- What the last serial transfer returned after its first byte, and the packet last handed to the host. -/
  lastRead : List Byte
  lastPacket : Option Packet
  /-- The datagram that carried the management Ethernet's last packet (R151). -/
  datagram : Option Datagram
  deriving DecidableEq, Repr

/-- The outbound queue of one transport (R152). -/
def HostPort.outQ (p : HostPort) : Transport → List Packet
  | .pcie => p.outPcie
  | .csp => p.outCsp
  | .mgmt => p.outMgmt

/-- Replace the outbound queue of one transport. -/
def HostPort.setOutQ (p : HostPort) (t : Transport) (q : List Packet) : HostPort :=
  match t with
  | .pcie => { p with outPcie := q }
  | .csp => { p with outCsp := q }
  | .mgmt => { p with outMgmt := q }

/-- The inbound packets of one transport. -/
def HostPort.inQ (p : HostPort) : Transport → List Nat
  | .pcie => p.inPcie
  | .csp => p.inCsp
  | .mgmt => p.inMgmt

/-- Replace the inbound packets of one transport. -/
def HostPort.setInQ (p : HostPort) (t : Transport) (q : List Nat) : HostPort :=
  match t with
  | .pcie => { p with inPcie := q }
  | .csp => { p with inCsp := q }
  | .mgmt => { p with inMgmt := q }

/-- The window after a mast reset or a PCI Express reset (R551, R552). MSIX_TABLE: vectors masked. -/
def Window.reset : Window :=
  { intStatus := 0, intEnable := 0, intHoldoff := 0, cmdRingBase := 0, replyRingBase := 0, maxPacket := 4096,
    ringEnable := false, cmdTail := 0, cmdHead := 0, replyTail := 0, replyHead := 0, playWr := 0, playRd := 0,
    recWr := 0, recRd := 0, msixTable := [0, 0, 0, 1, 0, 0, 0, 1, 0, 0, 0, 1, 0, 0, 0, 1], msixPba := 0,
    readLatch := 0, heldLow := [] }

/-- The ring machinery after a reset. -/
def RingState.reset : RingState :=
  { fetching := false, lastMsi0 := 0, msi0Held := false, msiCount := [0, 0, 0, 0],
    cmdDone := [], replyDone := [] }

/-- The mailbox rings after a reset: each ring's data starts at 0x0040 of its half (R549). -/
def Mailbox.reset : Mailbox := { inWr := 0x40, inRd := 0x40, outWr := 0x8040, outRd := 0x8040 }

/-- The host port after a mast reset. -/
def HostPort.reset : HostPort :=
  { window := Window.reset, ring := RingState.reset, mailbox := Mailbox.reset, outPcie := [], outCsp := [],
    outMgmt := [], inPcie := [], inCsp := [], inMgmt := [], cspDiscarded := false,
    serviceAnswers := 0, lastRead := [], lastPacket := none, datagram := none }

/-- A seat that nothing defines. -/
def SeatState.none : SeatState :=
  { role := 0, prioLimit := 7, certHash := [], eventMask := 0, lastHostSeq := 0, devSeq := 0, ackPos := 0,
    accepted := [], cached := [], ledger := [], stickyAudio := 0, stickyVideo := 0 }

/-- Halyard after a power-on (R161): sequences zero, ledgers empty, no session. -/
def Halyard.reset : Halyard :=
  { seats := List.replicate 8 SeatState.none, sessions := [], sched := [], nextOrder := 0, loads := [],
    rampDefault := 5, rampDefaults := [], lockoutReport := false }

end Sys2Proof.Machine
end

