-- ==== Sys2Proof/Machine/Operands.lean ====
section
/-! DEFINITION. What arrives with a Halyard command: the 40-byte header as received (R138), and the outcomes of the
cryptographic checks, which the model takes as facts of the arrival (log entry 3). -/
namespace Sys2Proof.Machine

/-- A received packet but for its opcode and payload (R138, R139). -/
structure Hdr where
  mast : Mast
  transport : Transport
  magic : Nat
  version : Nat
  kind : Nat
  flags : Nat
  seat : Nat
  rsv10 : Nat
  hostSeq : Nat
  devSeq : Nat
  effStep : Nat
  payloadLen : Nat
  status : Nat
  rsv34 : Nat
  session : Nat
  /-- The packet's length on the transport. -/
  wireLen : Nat
  /-- Whether the tag verifies under the keys of the session named. -/
  tagOk : Bool
  /-- Source address and port, and the IP version (management Ethernet). -/
  source : Nat
  ipv6 : Bool
  deriving DecidableEq, Repr

/-- The header bytes of a command of an opcode (R138). -/
def Hdr.bytes (h : Hdr) (opcode : Nat) : List Byte :=
  headerBytes h.magic h.version h.kind opcode h.flags h.seat h.rsv10 h.hostSeq h.devSeq h.effStep h.payloadLen h.status h.rsv34
    h.session

/-- Outcomes of the checks of a SESSION_OPEN (R565, R566). -/
structure OpenFacts where
  /-- HOST_KEY is a point of the curve. -/
  keyOnCurve : Bool
  /-- The certificate binds to the header's SEAT, dates apart (R557, R564). -/
  certBinds : Bool
  notBefore : Nat
  notAfter : Nat
  signatureOk : Bool
  tokenSigOk : Bool
  /-- CERT_HASH of the token is the hash of the certificate presented. -/
  tokenHashOk : Bool
  deriving DecidableEq, Repr

/-- What an engine's reset finds of the packet in transfer (R550). -/
inductive Transfer where
  | nothing
  | unpublished
  | firstPublished
  | complete
  deriving DecidableEq, Repr

/-- Frames other than Halyard that reach the management transport (R151). -/
inductive ServiceFrame where
  | arp
  | neighbour
  | icmpEcho
  | fragment
  | other
  deriving DecidableEq, Repr

/-- A frame as a media port receives it (R388): the port, whether its FCS holds, its length with the FCS, whether it carries a VLAN
tag, its destination MAC address, and whether it is a PAUSE or priority flow control frame. -/
structure FrameFacts where
  port : Nat
  fcsOk : Bool
  length : Nat
  tagged : Bool
  dest : Nat
  pause : Bool
  deriving DecidableEq, Repr

/-- What the flow table looks up in a UDP packet that a media lane has received (R354), and the RTP facts that a check
needs (R324, R357): the version, whether padding, an extension or CSRCs are present, the marker bit, the payload length, the sequence
number and the timestamp; and the frame that carries it. -/
structure RtpFacts where
  frame : FrameFacts
  ipVer : Nat
  dest : Nat
  src : Nat
  vlan : Option Nat
  port : Nat
  ssrc : Nat
  version : Nat
  extras : Bool
  marker : Bool
  payloadLen : Nat
  seq : Nat
  ts : Nat
  deriving DecidableEq, Repr

/-- A complete block of an AES3 input as captured (R313): channel status, whether a professional block's CRCC checks, user
bytes, and whether any validity bit was set. -/
structure AesBlock where
  cs : List Byte
  crcOk : Bool
  user : List Byte
  anyValidity : Bool
  deriving DecidableEq, Repr

/-- One AES3 frame as captured (R55, R312, R313): its two 24-bit samples with their parity checks, whether it is free of
preamble and biphase violations, its phase in MEDIA cycles, the block it completes, and the mast's own ratio estimate. -/
structure AesFrame where
  port : Nat
  left : Int
  leftOk : Bool
  right : Int
  rightOk : Bool
  lineOk : Bool
  phase : Nat
  block : Option AesBlock
  estimate : Nat
  deriving DecidableEq, Repr

/-- An audio packet of an SDI input (R333): a data packet of a group, or a control packet and whether it reports
48 kHz. -/
structure SdiPacket where
  port : Nat
  group : Nat
  control : Option Bool
  checksOk : Bool
  samples : List Int
  phase : Nat
  estimate : Nat
  deriving DecidableEq, Repr

/-- The key under which the tag of a Shroud container verifies (R411, R585): the link key, the one it took the place of, or none. -/
inductive TagKey where
  | linkKey
  | former
  | none
  deriving DecidableEq, Repr

/-- A symbol that a march has found failing (R513, R523): memory id, bank, row and column. -/
structure SymFail where
  memory : Nat
  bank : Nat
  row : Nat
  column : Nat
  deriving DecidableEq, Repr

/-- What a boot phase of a mast finds (R106, R107, R135, R525, R573, R575): a blank crow's nest;
failing symbols of the march and whether a failure remains after the second march; failing MAC units, as cluster times 32
plus unit; profile copies and firmware slots whose check fails. -/
structure BootFacts where
  nestBlank : Bool
  fails : List SymFail
  still : Bool
  units : List Nat
  badProfile0 : Bool
  badProfile1 : Bool
  badFw0 : Bool
  badFw1 : Bool
  deriving DecidableEq, Repr

/-- A boot phase that finds nothing wrong. -/
def BootFacts.clean : BootFacts :=
  { nestBlank := false, fails := [], still := false, units := [], badProfile0 := false,
    badProfile1 := false, badFw0 := false, badFw1 := false }

/-- A row of samples that a video packet carries: line, first sample, samples and whether they have 12 bits; the validity
of its payload header (R357). -/
structure VideoRow where
  line : Nat
  first : Nat
  samples : List Nat
  deep : Bool
  headerOk : Bool
  deriving DecidableEq, Repr

/-- What a window found of one candidate (R418): its offset in tenths of a ppb, and whether it was present throughout and, of
a PTP candidate, on one path or on two in tolerance (R471). -/
structure WindowRow where
  cand : Nat
  offset : Int
  good : Bool
  deriving DecidableEq, Repr

/-- What an Announce states (R466). -/
structure AnnounceBody where
  gmId : Nat
  priority1 : Nat
  clockClass : Nat
  accuracy : Nat
  variance : Nat
  priority2 : Nat
  steps : Nat
  utc : Option Int
  deriving DecidableEq, Repr

/-- The bodies of PTP messages (R465 to R469): an origin or receive timestamp, the requesting port of a Delay_Resp, an
Announce; peer delay, management and signalling messages. -/
inductive PtpBody where
  | sync (twoStep : Bool) (t1 : Int)
  | followUp (t1 : Int)
  | delayReq
  | delayResp (t4 : Int) (requesting : Nat)
  | announce (a : AnnounceBody)
  | pdelay
  | management
  deriving DecidableEq, Repr

/-- A PTP message as a port receives it (R465): its transport, 0 UDP over IPv4, 1 UDP over IPv6, 2 IEEE 802.3, and its destination address;
`stamps` is the receive stamp on each timebase. -/
structure PtpMsg where
  port : Nat
  version : Nat
  minor : Nat
  domain : Nat
  transport : Nat
  dest : Nat
  source : Nat
  seq : Nat
  logInterval : Int
  correction : Int
  stamps : List Int
  body : PtpBody
  deriving DecidableEq, Repr

end Sys2Proof.Machine
end

