-- ==== Sys2Proof/Machine/MemState.lean ====
section
/-! DEFINITION. Memories as the host and the test engines see them: scratch banks, marches, repair maps and failed units
(chapters 01, 15 and 16). -/
namespace Sys2Proof.Machine

/-- One scratch bank (R516, R517): its owner (0 command processor, 1 DMA, 2 host port, 3 march engine, 4 security
engine), its bytes in canonical form (no byte listed is zero, what a wiped word reads as), whether it is withdrawn
(R499). -/
structure ScratchBank where
  owner : Nat
  data : List (Nat × Byte)
  withdrawn : Bool
  deriving DecidableEq, Repr

/-- The six masters of the bus matrix (R540): DMA's 4 channels share one port, and so do the engines of the host port. -/
inductive BusMaster where
  | cpInstr
  | cpData
  | dma
  | hostPort
  | security
  | march
  deriving DecidableEq, Repr

/-- The targets of the bus matrix (R538, R541): the halves of the mailbox, each scratch bank, the ledger of a seat, and each block of
the peripheral bus by its number. -/
inductive BusTarget where
  | bootRom
  | workingSram
  | mailboxIn
  | mailboxOut
  | scratch (bank : Nat)
  | ledger (seat : Nat)
  | headCache
  | fallbackMemory
  | peripheral (block : Nat)
  | mixBridge
  | routeBridge
  | hostWindow
  deriving DecidableEq, Repr

/-- A handover in progress (R517): the command whose reply waits. -/
structure Handover where
  hdr : Hdr
  seat : Nat
  mast : Mast
  bank : Nat
  toOwner : Nat
  startedAt : Nat
  deriving DecidableEq, Repr

/-- A march in progress (R526). TARGET: 0 scratch bank, 1 cluster store, 2 delay pool, 3 slack memory. -/
structure March where
  destroying : Bool
  target : Nat
  index : Nat
  seat : Nat
  hostSeq : Nat
  startedAt : Nat
  deriving DecidableEq, Repr

/-- One repair map entry (R528): TYPE 1 row, 2 column, 3 revoked; which copies hold it. -/
structure RepairEntry where
  typ : Nat
  memory : Nat
  bank : Nat
  spare : Nat
  index : Nat
  pending : Bool
  inOtp : Bool
  inNest : Bool
  deriving DecidableEq, Repr

/-- A test route (R124, R221). CLASS 0 audio output, 1 video output. -/
structure TestRoute where
  cls : Nat
  output : Nat
  signal : Nat
  src : Nat
  deriving DecidableEq, Repr

/-- Memories and units of one mast. -/
structure MemMast where
  banks : List ScratchBank
  march : List March
  repair : List RepairEntry
  /-- Rows retired in service since power-on (R511). -/
  rowsSpared : Nat
  /-- Banks, as memory id times 16 plus bank, that have no spare row left for a row that needed one. -/
  noSpare : List Nat
  /-- MAC units declared failed, as cluster times 32 plus physical unit, each with the step from which its position runs on the
  spare (R231); and clusters taken out (R28). -/
  unitsOut : List (Nat × Nat)
  clustersOut : Nat
  /-- The alert signal in the fallback memory; `none` is the fixed alert of the boot ROM (R580). -/
  alert : Option (List Byte)
  /-- OTP repair entries for which source 0x97 has been raised (R529). -/
  otpFull : Nat
  /-- Spares that are never assigned again, as TYPE, memory, bank and spare: found failing themselves, or given up for another
  (R527). -/
  spent : List (Nat × Nat × Nat × Nat)
  /-- Sites of uncorrectable reads of the datapath, whose words read as zero in the step to be computed (R250). -/
  badReads : List Nat
  /-- The master that each target of the bus matrix has granted last (R543). -/
  granted : List (BusTarget × BusMaster)
  deriving DecidableEq, Repr

/-- A scratch bank after a mast reset (R516). -/
def ScratchBank.reset (i : Nat) : ScratchBank := { owner := if i < 14 then 0 else 2, data := [], withdrawn := false }

/-- Memories at power-on. -/
def MemMast.reset : MemMast :=
  { banks := (List.range 16).map ScratchBank.reset, march := [], repair := [], rowsSpared := 0, noSpare := [],
    unitsOut := [], clustersOut := 0, alert := none, otpFull := 0, spent := [], badReads := [], granted := [] }

/-- Repair map entries that a map holds at most (R528). -/
def repairLimit : Nat := 1024

end Sys2Proof.Machine
end

