-- ==== Sys2Proof/Machine/ModeState.lean ====
section
/-! DEFINITION. Modes, start-up, resets and the crow's nest contents (chapter 03). -/
namespace Sys2Proof.Machine

/-- The eight modes (R97). -/
inductive Mode where
  | vault
  | watch
  | boot
  | quiet
  | service
  | alarm
  | maintain
  | lockout
  deriving DecidableEq, Repr

/-- Mode codes (R97). -/
def Mode.code : Mode → Nat
  | .vault => 0
  | .watch => 1
  | .boot => 2
  | .quiet => 3
  | .service => 4
  | .alarm => 5
  | .maintain => 6
  | .lockout => 7

/-- The mode a code from 0 to 7 names. -/
def Mode.ofCode : Nat → Option Mode
  | 0 => some .vault
  | 1 => some .watch
  | 2 => some .boot
  | 3 => some .quiet
  | 4 => some .service
  | 5 => some .alarm
  | 6 => some .maintain
  | 7 => some .lockout
  | _ => none

/-- One entry of the reset record (R191). MAST: 0 A, 1 B, 2 the package. -/
structure ResetEntry where
  cause : Nat
  mast : Nat
  bootCount : Nat
  rtc : Nat
  deriving DecidableEq, Repr

/-- The lockout record (R191). -/
structure LockoutRecord where
  valid : Bool
  mode : Nat
  source : Nat
  step : Nat
  rtc : Nat
  stateA : Nat
  stateB : Nat
  resetTries : Nat
  deriving DecidableEq, Repr

/-- A filled volatile key slot (R561, R562): PURPOSE 0 message store, 1 Shroud link; the key's value. -/
structure KeySlot where
  purpose : Nat
  key : Nat
  deriving DecidableEq, Repr

/-- The crow's nest contents kept through VAULT (R131), with the last accepted alarm stream counters (R584). -/
structure Nest where
  rtc : Nat
  rtcValid : Bool
  /-- Sub-second remainder of the RTC, in thirds of a nanosecond. -/
  rtcFrac : Nat
  tamper : Bool
  keySlots : List (Option KeySlot)
  lockout : LockoutRecord
  /-- Newest first, at most 8 (R131). -/
  resets : List ResetEntry
  /-- Last accepted COUNTER of alarm stream sources 0 to 7 (R584). -/
  streamCounters : List Nat
  /-- Whether the contents were lost with VBAT and not yet reported (R135). -/
  blank : Bool
  deriving DecidableEq, Repr

/-- The start-up of one mast (R105 to R109). -/
structure BootState where
  /-- Whether every rail has reached power-good (R105). -/
  powerGood : Bool
  /-- 0 outside BOOT; 1 to 10 for phases A to J (R106, R552). -/
  phase : Nat
  /-- Time of the power-good or reset release from which BOOT runs. -/
  startedAt : Nat
  /-- Whether this attempt is the one retry (R109). -/
  retried : Bool
  failed : Bool
  /-- Whether every phase before J has ended and the mast waits for the end step. -/
  ready : Bool
  /-- Time at which phase H ended on this mast (R47). -/
  completedAt : Nat
  /-- Whether a reset ball holds the mast in reset (R626). -/
  held : Bool
  /-- Whether the boot follows a removal of main power (R106 phase D, R131), and whether it follows a package reset (R580). -/
  powerOn : Bool
  package : Bool
  /-- Whether the fallback player and alarm-input supervision run: set at the end of phase D (R110). -/
  fallbackReady : Bool
  /-- REMAP (R539) and the watchdog's last restart (R537). -/
  remap : Bool
  firmwareOk : Bool
  watchdogAt : Nat
  /-- Whether the mast has already been resynchronised under R575 in this boot. -/
  resynced : Bool
  deriving DecidableEq, Repr

/-- What shedding has removed (R121). -/
structure Shed where
  inForce : Bool
  /-- The step the Captain has assigned for shedding, if pending, and for restoring. -/
  shedAt : Option Nat
  restoreAt : Option Nat
  mixRegions : Nat
  lanePairs : Nat
  video : Bool
  /-- Time since which both ON_BATT balls have been low while shedding is in force (R122). -/
  lowSince : Nat
  /-- Step from which restored regions fade in over 5 ms (R122). -/
  fadeFrom : Option Nat
  deriving DecidableEq, Repr

/-- A wake from WATCH in progress (R113 to R115). -/
structure Wake where
  /-- Time and step of the trigger. -/
  triggerAt : Nat
  triggerStep : Nat
  /-- Masts that have not computed W in time (R115). -/
  lateA : Bool
  lateB : Bool
  deriving DecidableEq, Repr

/-- The package's mode state (R97 to R104). -/
structure ModeState where
  mode : Mode
  base : Mode
  modeStep : Nat
  bootCount : Nat
  boot : Both BootState
  onBatt : Both Bool
  /-- Time at which an ON_BATT ball last rose. -/
  battAt : Nat
  shed : Shed
  wake : Option Wake
  /-- The step at which the entry fade to WATCH ends (R118). -/
  watchFadeEnd : Option Nat
  /-- Whether the Mix and Route dies are powered, per mast; in QUIET the video half of Route is gated (R97, R116). -/
  mixOn : Both Bool
  routeOn : Both Bool
  /-- The mast that was CAPTAIN at entry to LOCKOUT, and the mast now driving SINGLE-DRIVE fallback outputs (R128). -/
  lockCaptain : Option Mast
  fallbackDriver : Option Mast
  /-- Time since which VNEST has been below its reset level on each mast, if it is (R130). -/
  vnestLow : Both (Option Nat)
  /-- The step in which the last zone cleared, while the mode is ALARM (R119). -/
  clearedAt : Option Nat
  nest : Nest
  /-- Time of a lifecycle change whose wiping reset is due (R533). -/
  lifecycleReset : Option Nat
  /-- The time of the input change that the masts act on, while they do (R115). -/
  trigger : Option Nat
  /-- Time of the last qualified fall of each reset ball (R626). -/
  resetFall : Both (Option Nat)
  /-- The mast that becomes CAPTAIN at the end of BOOT, once phase H has settled it (R47). -/
  elect : Option Mast
  deriving DecidableEq, Repr

/-- An empty lockout record. -/
def LockoutRecord.none : LockoutRecord :=
  { valid := false, mode := 0, source := 0, step := 0, rtc := 0, stateA := 0, stateB := 0, resetTries := 0 }

/-- The crow's nest when it is found blank (R135): RTC at zero and invalid, nothing held. -/
def Nest.lost : Nest :=
  { rtc := 0, rtcValid := false, rtcFrac := 0, tamper := false, keySlots := List.replicate 8 .none,
    lockout := .none, resets := [], streamCounters := List.replicate 8 0, blank := true }

/-- The crow's nest after its first power-on: found blank (R191 cause 10). -/
def Nest.first : Nest := { Nest.lost with resets := [{ cause := 10, mast := 2, bootCount := 1, rtc := 0 }] }

/-- A mast before its power-good. -/
def BootState.off : BootState :=
  { powerGood := false, phase := 0, startedAt := 0, retried := false, failed := false, ready := false,
    completedAt := 0, held := false, powerOn := true, package := true, fallbackReady := false, remap := false, firmwareOk := false,
    watchdogAt := 0, resynced := false }

/-- No shedding. -/
def Shed.none : Shed :=
  { inForce := false, shedAt := .none, restoreAt := .none, mixRegions := 0, lanePairs := 0, video := false,
    lowSince := 0, fadeFrom := .none }

/-- The mode state at reset: BOOT of both masts begins at their power-good (R100, R105). -/
def ModeState.reset : ModeState :=
  { mode := .boot, base := .quiet, modeStep := 0, bootCount := 1, boot := .same .off, onBatt := .same false,
    battAt := 0, shed := .none, wake := .none, watchFadeEnd := .none, mixOn := .same false,
    routeOn := .same false, lockCaptain := .none, fallbackDriver := .none, vnestLow := .same .none,
    clearedAt := .none, nest := .first, lifecycleReset := .none, trigger := .none, resetFall := .same .none,
    elect := .none }

end Sys2Proof.Machine
end

