-- ==== Sys2Proof/Machine/Codes.lean ====
section
/-! DEFINITION. Status codes (R226), event codes (R227) and the opcode table (R178). -/
namespace Sys2Proof.Machine

/-! ### Status codes (R226) -/

def stOk : Nat := 0x0000
def stLedgerGap : Nat := 0x0001
def stBadSession : Nat := 0x0101
def stSeqOutOfWindow : Nat := 0x0102
def stTooLarge : Nat := 0x0103
def stBadOpcode : Nat := 0x0104
def stBadCert : Nat := 0x0105
def stNotPresent : Nat := 0x0201
def stRoleDenied : Nat := 0x0301
def stBadLifecycle : Nat := 0x0302
def stBadMode : Nat := 0x0401
def stAlarmActive : Nat := 0x0402
def stNotTandem : Nat := 0x0403
def stMastOut : Nat := 0x0404
def stBadParam : Nat := 0x0501
def stBadOffset : Nat := 0x0502
def stSingleHomed : Nat := 0x0503
def stStepTooSoon : Nat := 0x0601
def stStepTooFar : Nat := 0x0602
def stBadBoundary : Nat := 0x0603
def stQueueFull : Nat := 0x0701
def stNoSpace : Nat := 0x0702
def stBusy : Nat := 0x0703
def stWrongState : Nat := 0x0801
def stTackNoFit : Nat := 0x0802
def stCleanRefused : Nat := 0x0803
def stNoPendingOffset : Nat := 0x0804
def stNotSettled : Nat := 0x0805
def stBadSignature : Nat := 0x0806
def stRollback : Nat := 0x0807
def stBankNotOwned : Nat := 0x0808
def stRigRefused : Nat := 0x0809
def stMessageBad : Nat := 0x080A

/-- The class of a status: its high byte (R176). -/
def statusClass (st : Nat) : Nat := st / 256

/-- A one-element list where a refusal's condition holds. -/
def refuseIf (b : Bool) (st : Nat) : List Nat := if b then [st] else []

/-- The status reported among the refusals that hold: the first in the class order of R9, R176 and R180; within one
class the first listed. -/
def firstRefusal : List Nat → Option Nat
  | [] => none
  | st :: rest =>
    match firstRefusal rest with
    | none => some st
    | some st' => if statusClass st' < statusClass st then some st' else some st

/-! ### Event codes (R227) -/

def evSessionClosed : Nat := 0x0181
def evCommandDropped : Nat := 0x0182
def evLockoutRecord : Nat := 0x0281
def evModeChange : Nat := 0x0381
def evModeRefused : Nat := 0x0382
def evShed : Nat := 0x0383
def evOnBattery : Nat := 0x0384
def evRigVerified : Nat := 0x0481
def evTackDone : Nat := 0x0482
def evRampSuperseded : Nat := 0x0581
def evAudioPort : Nat := 0x0681
def evFlowUnrepaired : Nat := 0x0781
def evXptSwitched : Nat := 0x0782
def evXptSuperseded : Nat := 0x0783
def evFlowMiss : Nat := 0x0784
def evTimingState : Nat := 0x0881
def evReferenceChange : Nat := 0x0882
def evJumpRefused : Nat := 0x0883
def evReferenceDisagree : Nat := 0x0884
def evRealignDone : Nat := 0x0885
def evSwitchOver : Nat := 0x0981
def evTandemDiverge : Nat := 0x0982
def evTandemRejoin : Nat := 0x0983
def evStayDown : Nat := 0x0984
def evDualCaptain : Nat := 0x0985
def evShroudPair : Nat := 0x0986
def evShroudDown : Nat := 0x0987
def evReserveDiverge : Nat := 0x0988
def evReserveTakeover : Nat := 0x0989
def evFault : Nat := 0x0A81
def evFaultSummary : Nat := 0x0A82
def evHealth : Nat := 0x0A83
def evSnapshot : Nat := 0x0A84
def evSag : Nat := 0x0A85
def evTestDone : Nat := 0x0B81
def evTestAborted : Nat := 0x0B82
def evImageApplied : Nat := 0x0C81
def evLifecycle : Nat := 0x0C82
def evAlarmZone : Nat := 0x0D81
def evAlarmInput : Nat := 0x0D82
def evAlarmInputSolo : Nat := 0x0D83
def evMessageCheck : Nat := 0x0D84

/-! ### The opcode table (R178) -/

/-- Execution classes (R168). -/
inductive OpClass where
  | scheduled
  | immediate
  | read
  deriving DecidableEq, Repr

/-- One row of the opcode table (R178): roles by code, modes by name. -/
structure OpRow where
  code : Nat
  cls : OpClass
  roles : List Nat
  modes : List Mode
  deriving DecidableEq, Repr

/-- Roles: all five; OPR SUP INS; INS SVC; and so on (R178). -/
def rAll : List Nat := [1, 2, 3, 4, 5]
def rOSI : List Nat := [2, 3, 4]
def rOSIV : List Nat := [2, 3, 4, 5]
def rIV : List Nat := [4, 5]
def rSI : List Nat := [3, 4]
def rSIV : List Nat := [3, 4, 5]
def rS : List Nat := [3]
def rI : List Nat := [4]

/-- Mode lists of R178. -/
def mWQSAML : List Mode := [.watch, .quiet, .service, .alarm, .maintain, .lockout]
def mWQSAM : List Mode := [.watch, .quiet, .service, .alarm, .maintain]
def mWQSM : List Mode := [.watch, .quiet, .service, .maintain]
def mWQS : List Mode := [.watch, .quiet, .service]
def mQSA : List Mode := [.quiet, .service, .alarm]
def mQSAM : List Mode := [.quiet, .service, .alarm, .maintain]
def mQSM : List Mode := [.quiet, .service, .maintain]
def mSA : List Mode := [.service, .alarm]
def mM : List Mode := [.maintain]

/-- Groups 0x01 to 0x05 of the opcode table (R178). -/
def opRows1 : List OpRow :=
  [ ⟨0x0101, .immediate, rAll, mWQSAML⟩, ⟨0x0102, .immediate, rAll, mWQSAML⟩, ⟨0x0103, .immediate, rAll, mWQSAML⟩,
    ⟨0x0104, .read, rAll, mWQSAML⟩, ⟨0x0105, .immediate, rAll, mWQSAML⟩, ⟨0x0106, .read, rAll, mWQSAML⟩,
    ⟨0x0201, .read, rAll, mWQSAML⟩, ⟨0x0202, .read, rAll, mWQSAML⟩, ⟨0x0203, .read, rAll, mWQSAML⟩,
    ⟨0x0301, .read, rAll, mWQSAM⟩, ⟨0x0302, .scheduled, rOSIV, mWQSM⟩, ⟨0x0303, .scheduled, rIV, mWQSM⟩,
    ⟨0x0401, .immediate, rOSI, mQSA⟩, ⟨0x0402, .immediate, rOSI, mQSA⟩, ⟨0x0403, .scheduled, rOSI, mQSA⟩,
    ⟨0x0404, .immediate, rOSI, mQSA⟩, ⟨0x0405, .read, rAll, mQSA⟩, ⟨0x0406, .read, rAll, mQSA⟩,
    ⟨0x0501, .scheduled, rOSI, mQSA⟩, ⟨0x0502, .read, rAll, mQSA⟩, ⟨0x0503, .scheduled, rOSI, mQSA⟩,
    ⟨0x0504, .scheduled, rI, mQSA⟩, ⟨0x0505, .read, rAll, mQSA⟩ ]

/-- Groups 0x06 to 0x09 (R178). -/
def opRows2 : List OpRow :=
  [ ⟨0x0601, .scheduled, rOSI, mQSA⟩, ⟨0x0602, .read, rAll, mQSAM⟩, ⟨0x0603, .scheduled, rOSI, mQSA⟩,
    ⟨0x0604, .scheduled, rOSI, mQSA⟩, ⟨0x0605, .scheduled, rOSI, mQSA⟩, ⟨0x0606, .scheduled, rOSI, mQSA⟩,
    ⟨0x0607, .scheduled, rOSI, mQSA⟩, ⟨0x0608, .scheduled, rOSI, mSA⟩, ⟨0x0609, .scheduled, rOSI, mQSA⟩,
    ⟨0x0701, .scheduled, rOSI, mSA⟩, ⟨0x0702, .scheduled, rOSI, mSA⟩, ⟨0x0703, .read, rAll, mQSAM⟩,
    ⟨0x0704, .scheduled, rOSI, mSA⟩, ⟨0x0705, .scheduled, rOSI, mSA⟩, ⟨0x0706, .read, rAll, mQSAM⟩,
    ⟨0x0801, .read, rAll, mWQSAM⟩, ⟨0x0802, .read, rAll, mWQSAM⟩, ⟨0x0803, .read, rAll, mWQSAM⟩,
    ⟨0x0804, .read, rAll, mWQSAM⟩, ⟨0x0805, .scheduled, rSI, mWQS⟩,
    ⟨0x0901, .read, rAll, mWQSAM⟩, ⟨0x0902, .scheduled, rSIV, mWQS⟩, ⟨0x0903, .read, rAll, mQSAM⟩,
    ⟨0x0904, .read, rAll, mWQSAM⟩ ]

/-- Groups 0x0A to 0x0D (R178). -/
def opRows3 : List OpRow :=
  [ ⟨0x0A01, .read, rAll, mWQSAML⟩, ⟨0x0A02, .immediate, rOSIV, mWQSAM⟩, ⟨0x0A03, .read, rAll, mWQSAML⟩,
    ⟨0x0A04, .scheduled, rAll, mWQSAM⟩, ⟨0x0A05, .read, rAll, mWQSAM⟩, ⟨0x0A06, .read, rAll, mWQSAM⟩,
    ⟨0x0B01, .immediate, rIV, mWQSM⟩, ⟨0x0B02, .read, rIV, mWQSAM⟩, ⟨0x0B03, .immediate, rIV, mWQSM⟩,
    ⟨0x0B04, .immediate, rIV, mQSM⟩, ⟨0x0B05, .immediate, rIV, mM⟩, ⟨0x0B06, .scheduled, rIV, mM⟩,
    ⟨0x0B07, .read, rAll, mWQSAM⟩,
    ⟨0x0C01, .read, rAll, mWQSAM⟩, ⟨0x0C02, .read, rAll, mWQSAM⟩, ⟨0x0C03, .immediate, rI, mWQSM⟩,
    ⟨0x0C04, .immediate, rIV, mWQSM⟩, ⟨0x0C05, .immediate, rIV, mWQSM⟩, ⟨0x0C06, .immediate, rIV, mWQSM⟩,
    ⟨0x0C07, .immediate, rIV, mWQSM⟩, ⟨0x0C08, .immediate, rIV, mWQSM⟩, ⟨0x0C09, .immediate, rSIV, mWQSM⟩,
    ⟨0x0D01, .scheduled, rS, mWQSAM⟩, ⟨0x0D02, .scheduled, rS, mWQSAM⟩, ⟨0x0D03, .read, rAll, mWQSAM⟩,
    ⟨0x0D04, .immediate, rIV, mWQSM⟩, ⟨0x0D05, .read, rAll, mWQSAM⟩, ⟨0x0D06, .read, rAll, mWQSAM⟩,
    ⟨0x0D07, .immediate, rIV, mM⟩ ]

/-- The whole opcode table (R178). -/
def opRows : List OpRow := opRows1 ++ opRows2 ++ opRows3

/-- The row of an opcode, if the opcode is in the table. -/
def opRow (code : Nat) : Option OpRow := opRows.find? (fun r => r.code == code)

/-! ### Fields of a command payload (R181) -/

/-- The big-endian field of `n` bytes at an offset; bytes past the payload's end read as zero. -/
def fld (p : List Byte) (off n : Nat) : Nat := unbe (fit n ((p.drop off).take n))

/-- The bytes of a field. -/
def fldBytes (p : List Byte) (off n : Nat) : List Byte := fit n ((p.drop off).take n)

end Sys2Proof.Machine
end

