-- ==== Sys2Proof/Machine/RigImage.lean ====
section
/-! DEFINITION. The rig image and its parts as the device reads them (R257 to R260). Reading is total: bytes past the
image's end read as zero, and the verifier decides what is refused. -/
namespace Sys2Proof.Machine

/-- One entry of the section directory (R258). -/
structure DirEntry where
  typ : Nat
  reserved : Nat
  offset : Nat
  length : Nat
  count : Nat
  deriving DecidableEq, Repr

/-- One operation of a program block (R260): its operation word, the destination words that follow a STORE, its byte
offset in the image, and whether those words run past the block. -/
structure ROp where
  word : Nat
  dests : List Nat
  at' : Nat
  overrun : Bool
  deriving DecidableEq, Repr

/-- OP of an operation word. -/
def ROp.op (o : ROp) : Nat := bitsOf o.word 31 28
/-- Operand A. -/
def ROp.a (o : ROp) : Nat := bitsOf o.word 23 12
/-- Operand C. -/
def ROp.c (o : ROp) : Nat := bitsOf o.word 11 0
/-- DEST_COUNT of a STORE. -/
def ROp.destCount (o : ROp) : Nat := bitsOf o.word 3 0

/-- One program block (R260). -/
structure Block where
  cluster : Nat
  position : Nat
  reserved : Nat
  len : Nat
  at' : Nat
  ops : List ROp
  deriving DecidableEq, Repr

/-- INPUT item (R259). -/
structure RigInput where
  channel : Nat
  cls : Nat
  priority : Nat
  first : Nat
  count : Nat
  deriving DecidableEq, Repr

/-- DELIVERY item: a bank word (R259). `raw` is its WORD field with the reserved bits. -/
structure Delivery where
  cluster : Nat
  position : Nat
  raw : Nat
  deriving DecidableEq, Repr

/-- DELAY item (R259). -/
structure DelayItem where
  line : Nat
  count : Nat
  length : Nat
  first : Nat
  deriving DecidableEq, Repr

/-- OUTPUT item (R259). -/
structure RigOutput where
  channel : Nat
  region : Nat
  flags : Nat
  deriving DecidableEq, Repr

/-- PARAMETER item (R259). -/
structure RigParam where
  location : Nat
  range : Nat
  reserved : Nat
  deriving DecidableEq, Repr

/-- RANGE item (R259); MIN, MAX and DEFAULT as their raw 64-bit fields. -/
structure RigRange where
  format : Nat
  flags : Nat
  reserved : Nat
  min : Nat
  max : Nat
  dflt : Nat
  deriving DecidableEq, Repr

/-- SCENE item (R259). -/
structure SceneItem where
  scene : Nat
  reserved : Nat
  param : Nat
  value : Nat
  deriving DecidableEq, Repr

/-- LOOP item (R259). -/
structure LoopItem where
  node : Nat
  weight : Nat
  deriving DecidableEq, Repr

/-- RECURSIVE item (R259). -/
structure RecursiveItem where
  cluster : Nat
  position : Nat
  y1 : Nat
  y2 : Nat
  reserved : Nat
  p : Nat
  q : Nat
  deriving DecidableEq, Repr

/-- A rig as read from its image. -/
structure Rig where
  imageLen : Nat
  rigId : Nat
  variant : Nat
  rate : Nat
  alarmRegions : Nat
  clusterUse : Nat
  slotsClaimed : Nat
  wordsClaimed : Nat
  mixClaimed : Nat
  delayClaimed : Nat
  paramCount : Nat
  profileHash : List Byte
  blocks : List Block
  inputs : List RigInput
  deliveries : List Delivery
  delays : List DelayItem
  outputs : List RigOutput
  params : List RigParam
  ranges : List RigRange
  scenes : List SceneItem
  loops : List LoopItem
  recursives : List RecursiveItem
  deriving DecidableEq, Repr

/-- The directory of an image (R258). -/
def directory (b : List Byte) : List DirEntry :=
  (List.range (fld b 18 1)).map fun i =>
    let o := 128 + 16 * i
    { typ := fld b o 2, reserved := fld b (o + 2) 2, offset := fld b (o + 4) 4, length := fld b (o + 8) 4,
      count := fld b (o + 12) 4 }

/-- The directory entry of a section type, if present. -/
def dirOf (d : List DirEntry) (typ : Nat) : Option DirEntry := d.find? (fun e => e.typ == typ)

/-- The items of a section with items of a fixed size. -/
def items {α : Type} (b : List Byte) (d : List DirEntry) (typ size : Nat) (f : Nat → α) : List α :=
  match dirOf d typ with
  | none => []
  | some e => (List.range (min e.count (b.length / size))).map (fun i => f (e.offset + size * i))

/-- Read `n` words from a byte offset as operations, passing over the first `skip` of them: a STORE takes its
DEST_COUNT destination words with it, and they are not operations (R260). -/
def readOps (b : List Byte) : Nat → Nat → Nat → List ROp
  | _, 0, _ => []
  | 0, n + 1, o =>
    let w := fld b o 4
    let k := if bitsOf w 31 28 = 3 then bitsOf w 3 0 else 0
    let held := min k n
    { word := w, dests := (List.range held).map (fun i => fld b (o + 4 + 4 * i) 4), at' := o,
      overrun := decide (k > n) } :: readOps b held n (o + 4)
  | k + 1, n + 1, o => readOps b k n (o + 4)

/-- Read the program blocks of a section (R260). `fuel` is the number of blocks still to read. -/
def readBlocks (b : List Byte) : Nat → Nat → Nat → List Block
  | 0, _, _ => []
  | n + 1, o, stop =>
    if o + 8 > stop then []
    else
      let len := fld b (o + 4) 4
      let fits := min len ((stop - (o + 8)) / 4)
      { cluster := fld b o 1, position := fld b (o + 1) 1, reserved := fld b (o + 2) 2, len := len, at' := o,
        ops := readOps b 0 fits (o + 8) } :: readBlocks b n (o + 8 + 4 * len) stop

/-- Read a rig image. -/
def readRig (b : List Byte) : Rig :=
  let d := directory b
  { imageLen := fld b 8 4, rigId := fld b 12 4, variant := fld b 16 1, rate := fld b 17 1,
    alarmRegions := fld b 19 1, clusterUse := fld b 20 4, slotsClaimed := fld b 24 4, wordsClaimed := fld b 28 4,
    mixClaimed := fld b 32 4, delayClaimed := fld b 36 4, paramCount := fld b 40 4, profileHash := fldBytes b 48 48,
    blocks := match dirOf d 1 with
      | some e => readBlocks b (min e.count b.length) e.offset (min (e.offset + e.length) b.length)
      | none => [],
    inputs := items b d 2 12 (fun o =>
      { channel := fld b o 2, cls := fld b (o + 2) 1, priority := fld b (o + 3) 1, first := fld b (o + 4) 4,
        count := fld b (o + 8) 4 }),
    deliveries := items b d 3 4 (fun o =>
      { cluster := fld b o 1, position := fld b (o + 1) 1, raw := fld b (o + 2) 2 }),
    delays := items b d 4 12 (fun o =>
      { line := fld b o 2, count := fld b (o + 2) 2, length := fld b (o + 4) 4, first := fld b (o + 8) 4 }),
    outputs := items b d 5 4 (fun o => { channel := fld b o 2, region := fld b (o + 2) 1, flags := fld b (o + 3) 1 }),
    params := items b d 6 8 (fun o => { location := fld b o 4, range := fld b (o + 4) 2, reserved := fld b (o + 6) 2 }),
    ranges := items b d 7 32 (fun o =>
      { format := fld b o 1, flags := fld b (o + 1) 1, reserved := fld b (o + 2) 6, min := fld b (o + 8) 8,
        max := fld b (o + 16) 8, dflt := fld b (o + 24) 8 }),
    scenes := items b d 8 16 (fun o =>
      { scene := fld b o 2, reserved := fld b (o + 2) 2, param := fld b (o + 4) 4, value := fld b (o + 8) 8 }),
    loops := items b d 9 8 (fun o => { node := fld b o 4, weight := fld b (o + 4) 4 }),
    recursives := items b d 10 16 (fun o =>
      { cluster := fld b o 1, position := fld b (o + 1) 1, y1 := fld b (o + 2) 2, y2 := fld b (o + 4) 2,
        reserved := fld b (o + 6) 2, p := fld b (o + 8) 4, q := fld b (o + 12) 4 }) }

/-! ### Addresses and values -/

/-- The key of a bank word: cluster, position, word; the NODE form of a bank word (R259). -/
def wordKey (cluster position word : Nat) : Nat := cluster * 2 ^ 20 + position * 2 ^ 16 + word

/-- The cluster, position and word of a key. -/
def keyCluster (k : Nat) : Nat := k / 2 ^ 20 % 32
def keyPosition (k : Nat) : Nat := k / 2 ^ 16 % 16
def keyWord (k : Nat) : Nat := k % 4096

/-- The bank word of a DELIVERY item. -/
def Delivery.key (d : Delivery) : Nat := wordKey d.cluster d.position (d.raw % 4096)

/-- The bank word of a PARAMETER item. -/
def RigParam.key (p : RigParam) : Nat :=
  wordKey (bitsOf p.location 28 24) (bitsOf p.location 19 16) (bitsOf p.location 11 0)

/-- The RANGE item of a parameter. -/
def Rig.rangeOf (r : Rig) (id : Nat) : Option RigRange :=
  match r.params[id]? with
  | some p => r.ranges[p.range]?
  | none => none

/-- The signed value of a 36-bit field. -/
def val36 (v : Nat) : Int := signedOf 36 v

/-- RAMPS, ALARM_PATH and GAIN of a range. -/
def RigRange.ramps (r : RigRange) : Bool := bit r.flags 0
def RigRange.alarmPath (r : RigRange) : Bool := bit r.flags 1
def RigRange.gain (r : RigRange) : Bool := bit r.flags 2

/-- The largest magnitude in a range (R269). -/
def RigRange.magnitude (r : RigRange)   : Nat := Nat.max (val36 r.min).natAbs (val36 r.max).natAbs

/-- Whether a value lies in a range. -/
def RigRange.admits (r : RigRange) (v : Nat) : Bool := decide (val36 r.min ≤ val36 v) && decide (val36 v ≤ val36 r.max)

/-- KIND, cluster, position and target of a destination word (R260). -/
def destKind (w : Nat) : Nat := bitsOf w 31 28
def destCluster (w : Nat) : Nat := bitsOf w 20 16
def destPosition (w : Nat) : Nat := bitsOf w 15 12
def destTarget (w : Nat) : Nat := bitsOf w 11 0
/-- The delay line of a KIND 3 destination. -/
def destLine (w : Nat) : Nat := bitsOf w 11 0 + 4096 * bitsOf w 15 14
/-- The output channel of a KIND 4 destination. -/
def destChannel (w : Nat) : Nat := bitsOf w 10 0

/-- The bank word a destination of kind 0, 1 or 2 names, from the position that stores. -/
def destKey (cluster position w : Nat) : Option Nat :=
  if destKind w = 0 then some (wordKey cluster position (destTarget w))
  else if destKind w = 1 then some (wordKey cluster (destPosition w) (destTarget w))
  else if destKind w = 2 then some (wordKey (destCluster w) (destPosition w) (destTarget w))
  else none

/-- The starting value of a parameter: scene 0, or its range's DEFAULT (R259, R267). -/
def Rig.startValue (r : Rig) (id : Nat) : Nat :=
  match r.scenes.find? (fun x => x.scene == 0 && x.param == id) with
  | some x => x.value
  | none => match r.rangeOf id with
    | some g => g.dflt
    | none => 0

end Sys2Proof.Machine
end

