-- ==== Sys2Proof/Machine/MixState.lean ====
section
/-! DEFINITION. The state of the mixing datapath of one mast, and of the two rig slots (chapters 06 to 08): what the
state copy of R70 carries to a joining mast. -/
namespace Sys2Proof.Machine

/-- A fade of an S3.32 coefficient, or a parameter ramp (R240, R279). -/
structure Fade where
  u0 : Int
  u1 : Int
  start : Nat
  len : Nat
  deriving DecidableEq, Repr

/-- A coefficient that does not move. -/
def Fade.const (v : Int) : Fade := { u0 := v, u1 := v, start := 0, len := 0 }

/-- 1.0 in S3.32. -/
def unity : Int := 4294967296

/-- One entry of a cluster's ramp table (R240, R70), with the command that started it (R288). -/
structure Ramp where
  param : Nat
  key : Nat
  fade : Fade
  seat : Nat
  hostSeq : Nat
  deriving DecidableEq, Repr

/-- A rig that runs on a mast: its bank words (a word not listed is zero), the exchange words in flight, its delay
lines oldest first, its ramp table, the step from which its programs run, and its maps: the physical word of each of its bank
words, and the words of the delay pool, as first word and count, that each line stands in (R281). -/
structure RigRun where
  rig : Rig
  words : Assoc (BitVec 36)
  exch : Assoc (BitVec 36)
  lines : Assoc (List (BitVec 36))
  ramps : List Ramp
  from' : Nat
  place : Assoc Nat
  pool : Assoc (List (Nat × Nat))
  deriving DecidableEq, Repr

/-- A tack that has been accepted (R280 to R283). KIND 1 CROSSFADE, 2 STAGED, 3 HARD; a fade-in onto an EMPTY active
slot is `fadeIn` (R267). `place` and `pool` are the incoming rig's maps, which travel with the commit (R281). -/
structure TackPlan where
  kind : Nat
  fadeIn : Bool
  step : Nat
  warm : Nat
  fade : Nat
  shared : List (Nat × Nat)
  affected : List Nat
  place : Assoc Nat
  pool : Assoc (List (Nat × Nat))
  seat : Nat
  hostSeq : Nat
  deriving DecidableEq, Repr

/-- The states of the standby slot (R195). -/
inductive SlotState where
  | empty
  | loading
  | loaded
  | verifying
  | verified
  | refused
  | tackPending
  | tacking
  deriving DecidableEq, Repr

/-- Slot state codes (R195). -/
def SlotState.code : SlotState → Nat
  | .empty => 0
  | .loading => 1
  | .loaded => 2
  | .verifying => 3
  | .verified => 4
  | .refused => 5
  | .tackPending => 6
  | .tacking => 7

/-- The two rig slots, identical on both masts (R262). -/
structure RigSlots where
  active : Option (List Byte)
  state : SlotState
  image : List Byte
  /-- The command whose verification runs (R197, R228). -/
  verifySeat : Nat
  verifySeq : Nat
  plan : Option TackPlan
  deriving DecidableEq, Repr

/-- A source that a patch entry names (R208, R336). -/
structure PatchSrc where
  cls : Nat
  index : Nat
  channel : Nat
  deriving DecidableEq, Repr

/-- A route fade of an input channel (R289): its old source, and the fall of the old source's coefficient. -/
structure RouteFade where
  old : PatchSrc
  start : Nat
  len : Nat
  deriving DecidableEq, Repr

/-- The peak limiter of one output channel (R291): overlay words newest first (26 of them), the h values newest first
(24), and the gain. -/
structure Limiter where
  xs : List Int
  hs : List Nat
  g : Nat
  deriving DecidableEq, Repr

/-- A limiter after a wipe (R291). -/
def Limiter.reset : Limiter :=
  { xs := List.replicate 26 0, hs := List.replicate 24 4294967296, g := 4294967296 }

/-- One side-tone entry (R210, R293): its gain as a fade and its products of the last 3 steps, newest first. -/
structure SideTone where
  enabled : Bool
  src : Nat
  dst : Nat
  gain : Fade
  recent : List Int
  deriving DecidableEq, Repr

/-- A side-tone entry that has never been set. -/
def SideTone.reset : SideTone := { enabled := false, src := 0, dst := 0, gain := .const 0, recent := [0, 0, 0] }

/-- An alarm source: SOURCE_KIND and SOURCE_INDEX (R224). A fallback alert signal loops from its activation's start
step (R300), held in `from'`; the other kinds hold 0 there. -/
structure AlarmSource where
  kind : Nat
  index : Nat
  from' : Nat
  deriving DecidableEq, Repr

/-- One activation (R295). TRIGGER: 0 alarm input, 1 command, 2 stream; `input` tells inputs, and streams, apart. -/
structure Activation where
  trigger : Nat
  input : Nat
  priority : Nat
  source : AlarmSource
  repeats : Nat
  plays : Nat
  start : Nat
  zones : List Nat
  deriving DecidableEq, Repr

/-- The alarm sources of one zone in the overlay (R297): the one that fades out and the one that fades in. `last` is
the winner last reported, to report changes. -/
structure ZoneMix where
  outSrc : Option AlarmSource
  outFade : Fade
  inSrc : Option AlarmSource
  inFade : Fade
  last : Option (Nat × Nat × Nat × AlarmSource)
  deriving DecidableEq, Repr

/-- A zone that has had no alarm. -/
def ZoneMix.reset : ZoneMix :=
  { outSrc := none, outFade := .const 0, inSrc := none, inFade := .const 0, last := none }

/-- The mixing datapath of one mast. -/
structure Datapath where
  active : Option RigRun
  outgoing : Option RigRun
  patch : Assoc PatchSrc
  routes : Assoc RouteFade
  side : List SideTone
  limiters : Assoc Limiter
  /-- The duck coefficient of zone outputs and MUTE_IN_ALARM outputs (R296); a channel not listed has 1.0. -/
  ducks : Assoc Fade
  acts : List Activation
  zones : Assoc ZoneMix
  /-- The step at which each playing message, by number, started (R298). -/
  plays : Assoc Nat
  /-- The words that leave at this step, by output channel (R278), and the words each input channel delivered. -/
  out : Assoc (BitVec 36)
  inp : Assoc (BitVec 36)
  deriving DecidableEq, Repr

/-- A datapath after a wipe. -/
def Datapath.reset : Datapath :=
  { active := none, outgoing := none, patch := [], routes := [], side := List.replicate 16 .reset, limiters := [],
    ducks := [], acts := [], zones := [], plays := [], out := [], inp := [] }

/-- Empty rig slots (R266). -/
def RigSlots.reset : RigSlots :=
  { active := none, state := .empty, image := [], verifySeat := 0, verifySeq := 0, plan := none }

end Sys2Proof.Machine
end

