-- ==== Sys2Proof/Machine/AudioState.lean ====
section
/-! DEFINITION. Audio sources and sinks of one mast (chapter 09): configuration, which both masts hold alike, and what
each mast has received, converted and sent. -/
namespace Sys2Proof.Machine

/-- Concealment of one channel (R310): the last sample delivered, missing samples in the run so far, and faded samples
still to come after a run of 32 or more. -/
structure Conceal where
  last : Int
  run : Nat
  fading : Nat
  deriving DecidableEq, Repr

/-- A channel that has delivered nothing. -/
def Conceal.reset : Conceal := { last := 0, run := 0, fading := 0 }

/-- A converting source (R306 to R310): its concealment and recent port samples per channel, newest first, the ratio
estimate in use and this mast's own (32.32 input samples per step), the phase gathered while it is unlocked, whether
its converter has lock, the words it delivers in this step, and the Captain's estimates by step. -/
structure Feed where
  conceal : List Conceal
  hist : List (List Int)
  cur : List (BitVec 36)
  ratio : Nat
  own : Nat
  phase : Nat
  locked : Bool
  ests : Assoc Nat
  deriving DecidableEq, Repr

/-- A source of `n` channels at its start. -/
def Feed.reset (n ratio : Nat) : Feed :=
  { conceal := List.replicate n .reset, hist := List.replicate n [], cur := List.replicate n 0, ratio := ratio,
    own := ratio, phase := 0, locked := false, ests := [] }

/-- A captured frame (R55, R312): index from the port's start, a sample per channel or none where it is missing, the
phase within its step, and the step the Captain has assigned. -/
structure Captured where
  index : Nat
  /-- The channel of the first of its samples: 0 but for an SDI audio group. -/
  first : Nat
  samples : List (Option Int)
  phase : Nat
  step : Option Nat
  /-- 0 no error; 1 an error counted at capture; 2 a line error; 3 assigned, but this mast has no copy yet; 4 the same where the
  Captain's copy has an error. -/
  bad : Nat
  deriving DecidableEq, Repr

/-- A capture assignment on its way from the Captain (R55, R312): the CLASS (0 AES3 input, 4 SDI audio port) and index of the
port, the frame's index and channels, the step and phase it is assigned, and whether the Captain's copy has an error. -/
structure CaptureNote where
  cls : Nat
  port : Nat
  index : Nat
  first : Nat
  channels : Nat
  step : Nat
  phase : Nat
  bad : Bool
  deriving DecidableEq, Repr

/-- One AES3 input (R311 to R314). RATE 0xFF is none detected. -/
structure AesIn where
  enabled : Bool
  locked : Bool
  rate : Nat
  flags : Nat
  cs : List Byte
  user : List Byte
  frames : Nat
  caps : List Captured
  feed : Feed
  deriving DecidableEq, Repr

/-- One AES3 frame as an output sends it (R315, R316): whether it begins a block, with preamble Z, its two 24-bit samples, and its
channel status and user bits, alike in both subframes. -/
structure AesOutFrame where
  begins : Bool
  left : Int
  right : Int
  status : Bool
  user : Bool
  deriving DecidableEq, Repr

/-- One AES3 output, or one fallback audio ball (R203, R315 to R322). -/
structure AesOut where
  enabled : Bool
  rate : Nat
  csHost : Bool
  cs : List Byte
  start : Nat
  /-- The step of a COMMON_START that has restarted the running output, for its fades of 32 samples (R322). -/
  restart : Option Nat
  /-- The last 64 words of each subframe's channel, newest first; frames begun since the start; the channel status and the user bits of
  the block being sent; and the frames begun in the latest step (R315 to R317). -/
  hist : List (List Int)
  frames : Nat
  status : List Byte
  user : List Byte
  sent : List AesOutFrame
  deriving DecidableEq, Repr

/-- A packet held by a received stream (R324): sequence number, timestamp, the step it was originally received, and its
samples by frame. -/
structure HeldPacket where
  seq : Nat
  ts : Nat
  at' : Nat
  samples : List (List Int)
  deriving DecidableEq, Repr

/-- One received stream (R206, R323 to R328): the 60 parameter bytes and what this mast holds. `slots` is the sample
store by due time in half steps. -/
structure RxStream where
  params : List Byte
  start : Nat
  profile : Bool
  seen : Bool
  /-- The packets held: each until its last sample has left the store. -/
  held : List HeldPacket
  /-- The newest packet received so far, without its samples (R49). -/
  newest : Option HeldPacket
  slots : Assoc (List Int)
  /-- Packets missing in a row (R328), the next packet number expected, and the grid of due times. -/
  missing : Nat
  next : Nat
  grid : Nat
  /-- ASYNC: whether consumption has begun, and the sequence number of packet 0 (R327). -/
  running : Bool
  seq0 : Nat
  feed : Feed
  deriving DecidableEq, Repr

/-- One sent stream (R207, R329, R330): the 52 parameter bytes, its sequence, the frames of the packet being formed,
packets waiting for their send step with the step of their first sample, and the last one sent. -/
structure TxStream where
  params : List Byte
  start : Nat
  profile : Bool
  seq : Nat
  firstStep : Nat
  frames : List (List Int)
  waiting : List (Nat × Nat × List Byte)
  last : List Byte
  sent : Nat
  restart : Option Nat
  /-- Whether a packet formed since the start has been sent: the first takes sequence number 0 (R329). -/
  begun : Bool
  deriving DecidableEq, Repr

/-- An audio packet as an SDI output embeds it (R334): the line it stands in and its group; the samples of a data packet, or the position
and the active channels that a control packet gives. -/
inductive Embedded where
  | data (line group : Nat) (samples : List Int)
  | control (line group position active : Nat)
  deriving DecidableEq, Repr

/-- SDI audio of one port (R210, R332 to R335): groups de-embedded and embedded. -/
structure SdiAudio where
  inGroups : Nat
  outGroups : Nat
  locked : Bool
  rateOk : Bool
  frames : Nat
  caps : List Captured
  feed : Feed
  restart : Option Nat
  /-- Embedding (R334, R335): its start step, the last 64 words of each channel, newest first, samples made so far, samples waiting with
  the step from which they may leave, the frame being filled with the samples placed in it, and the packets of the latest
  step. -/
  outStart : Nat
  outHist : List (List Int)
  outMade : Nat
  fifo : List (Nat × List Int)
  frame : Int
  placed : Nat
  packets : List Embedded
  deriving DecidableEq, Repr

/-- A host audio ring (R209, R338 to R341). -/
structure HostRing where
  mast : Mast
  packing : Nat
  channels : Nat
  first : Nat
  addr : Nat
  bytes : Nat
  running : Bool
  deriving DecidableEq, Repr

/-- The report of a port's STATE (R343): the state now, the time of its last event, and whether one is held. -/
structure PortReport where
  state : Nat
  last : Option Nat
  held : Bool
  deriving DecidableEq, Repr

/-- Audio I/O of one mast. -/
structure AudioMast where
  aesIn : List AesIn
  aesOut : List AesOut
  rx : Assoc RxStream
  /-- Streams that have been disabled, while their concealed run still sounds (R310). -/
  tails : Assoc RxStream
  tx : Assoc TxStream
  sdi : Assoc SdiAudio
  play : Option HostRing
  rec' : Option HostRing
  /-- Host playback frames on their way: the step they enter the patch, and the samples or an underrun (R339). -/
  playQueue : List (Nat × Option (List Int))
  playFeed : Feed
  /-- Output words of the last 8 steps, newest first, for the recording ring (R340), and the last frame written. -/
  recQueue : List (List Int)
  recFrame : List Byte
  /-- Port reports by 65,536 times the class code plus the index (R343). -/
  reports : Assoc PortReport
  /-- Gap notices sent, and packets queued for the Stay link: stream and sequence (R49). -/
  notices : List (Nat × Nat)
  /-- Capture assignments that this mast has sent as Captain and the other has not yet received (R55). -/
  sent : List CaptureNote
  forwards : List (Nat × HeldPacket)
  /-- The inputs reported single-homed, by 65,536 times the class plus the index (R314); kept alike on both masts. When this mast's
  lock of an input last came or went, by the same key. -/
  single : List Nat
  lockMoved : Assoc Nat
  deriving DecidableEq, Repr

/-- An AES3 input at the end of BOOT: enabled, unlocked (R321). -/
def AesIn.reset : AesIn :=
  { enabled := true, locked := false, rate := 0xFF, flags := 0, cs := zeros 24, user := zeros 24, frames := 0,
    caps := [], feed := .reset 2 0 }

/-- An AES3 output with no AUDIO_SINK item: disabled (R635). -/
def AesOut.reset : AesOut :=
  { enabled := false, rate := 2, csHost := false, cs := zeros 24, start := 0, restart := none,
    hist := [[], []], frames := 0, status := zeros 24, user := zeros 24, sent := [] }

/-- SDI audio of a port with no group set. -/
def SdiAudio.reset : SdiAudio :=
  { inGroups := 0, outGroups := 0, locked := false, rateOk := false, frames := 0, caps := [], feed := .reset 16 0,
    restart := none, outStart := 0, outHist := List.replicate 16 [], outMade := 0, fifo := [], frame := 0, placed := 0,
    packets := [] }

/-- Audio I/O before any profile value is applied. -/
def AudioMast.reset : AudioMast :=
  { aesIn := List.replicate 16 .reset, aesOut := List.replicate 20 .reset, rx := [], tails := [], tx := [], sdi := [], play := none,
    rec' := none, playQueue := [], playFeed := .reset 64 4294967296, recQueue := [], recFrame := [], reports := [],
    notices := [], sent := [], forwards := [], single := [], lockMoved := [] }

end Sys2Proof.Machine
end

