-- ==== Sys2Proof/Machine/AlarmState.lean ====
section
/-! DEFINITION. Alarm inputs, alarm streams, the message store and the fallback player (chapters 02, 08, 18 and 20). -/
namespace Sys2Proof.Machine

/-- One alarm input on one mast (R629, R630). Classes: 0 normal, 1 active, 2 open, 3 short. -/
structure AlarmInput where
  /-- The class of the last sample, how many samples in a row have had it (up to 80), and the debounced class. -/
  last : Nat
  count : Nat
  /-- The time of the first sample of the class of `last` (R115). -/
  since : Nat
  deb : Nat
  changes : Nat
  /-- Failed read-backs in a row. -/
  failed : Nat
  /-- The state this mast acts on (R59): 0 normal, 1 active. -/
  acted : Nat
  /-- The Stoker's own debounce that waits for an assignment: its step and state (R59). -/
  solo : Option (Nat × Nat)
  deriving DecidableEq, Repr

/-- An input that has never been sampled. -/
def AlarmInput.reset : AlarmInput := { last := 0, count := 0, since := 0, deb := 0, changes := 0, failed := 0, acted := 0, solo := none }

/-- One change assigned to a step (R59, R584): INPUT 0 to 7, or 8 + n for a stream. -/
structure Assigned where
  input : Nat
  state : Nat
  step : Nat
  /-- When the input changed (R115). -/
  since : Nat
  deriving DecidableEq, Repr

/-- One alarm stream source (R584): the state last assigned, the time of the last accepted message, and whether its
silence has been reported. -/
structure AlarmStream where
  state : Nat
  lastAt : Option Nat
  silent : Bool
  deriving DecidableEq, Repr

/-- One fallback output under fallback drive (R301, R303): the samples of the frames that the driver has made and holds, oldest first,
frames that have left, and those of the latest step. -/
structure FallbackOut where
  held : List Int
  frames : Nat
  sent : List AesOutFrame
  deriving DecidableEq, Repr

/-- A fallback output that is not driven. -/
def FallbackOut.reset : FallbackOut := { held := [], frames := 0, sent := [] }

/-- The alarm logic of one mast. -/
structure AlarmMast where
  inputs : List AlarmInput
  assigned : List Assigned
  /-- The message store check of BOOT phase I runs, and the time of the last check, or of the end of BOOT (R106, R579). -/
  checking : Bool
  checkedAt : Option Nat
  /-- The step at which the fallback player started, while any fallback output plays (R302). -/
  playFrom : Option Nat
  /-- The fallback outputs, by number (R301). -/
  fb : List FallbackOut
  deriving DecidableEq, Repr

/-- One message (R577): sample bytes, generation, the KEY_CHECK of the key it was stored under, MSG_STATE of R225, the RTC of the last
check, whether its write to flash is under way, and chunks that have failed on each mast. -/
structure Message where
  samples : Nat
  generation : Nat
  key : Nat
  state : Nat
  checked : Nat
  data : List Byte
  writing : Bool
  badA : List Nat
  badB : List Nat
  deriving DecidableEq, Repr

/-- No message. -/
def Message.none : Message :=
  { samples := 0, generation := 0, key := 0, state := 0, checked := 0, data := [], writing := false, badA := [],
    badB := [] }

/-- A FALLBACK_TEST that plays (R225). -/
structure FallbackTest where
  mast : Mast
  output : Nat
  seat : Nat
  hostSeq : Nat
  startedAt : Nat
  deriving DecidableEq, Repr

/-- The alarm state of the package that both masts share. -/
structure AlarmShared where
  streams : List AlarmStream
  messages : List Message
  tests : List FallbackTest
  deriving DecidableEq, Repr

/-- The alarm logic of a mast at its reset. -/
def AlarmMast.reset : AlarmMast :=
  { inputs := List.replicate 8 .reset, assigned := [], checking := false, checkedAt := none, playFrom := none,
    fb := List.replicate 20 .reset }

/-- No stream heard, no message stored. -/
def AlarmShared.reset : AlarmShared :=
  { streams := List.replicate 8 { state := 0, lastAt := none, silent := false }, messages := List.replicate 64 .none,
    tests := [] }

end Sys2Proof.Machine
end

