-- ==== Sys2Proof/Machine/SecurityState.lean ====
section
/-! DEFINITION. Lifecycle, keys, the sealed profile, firmware slots and external flash (chapter 18). -/
namespace Sys2Proof.Machine

/-- FLOW_MATCH (R186). -/
structure FlowMatch where
  ipVer : Nat
  flags : Nat
  vlan : Nat
  dest : Nat
  src : Nat
  port : Nat
  ssrc : Nat
  deriving DecidableEq, Repr

/-- GLOBAL section (R570). Gains are signed S3.32 values. -/
structure GlobalItem where
  internalRate : Nat
  endMode : Nat
  packageRole : Nat
  videoPrimary : Nat
  syncRaster : Nat
  wclkRate : Nat
  ptpTransport : Nat
  shroudFence : Nat
  holdoverLimit : Nat
  xoTol : Nat
  xoDrift : Nat
  takeoverMs : Nat
  alarmMinGain : Int
  peerCertHash : List Byte
  deriving DecidableEq, Repr

/-- SEAT item (R570). -/
structure SeatItem where
  seat : Nat
  role : Nat
  prioLimit : Nat
  eventMask : Nat
  certHash : List Byte
  deriving DecidableEq, Repr

/-- TIMEBASE item (R570). -/
structure TimebaseItem where
  candidates : Nat
  frameFamily : Nat
  realignTol : Nat
  ptpDomain : Nat
  ptpProfile : Nat
  delayMode : Nat
  maxClockClass : Nat
  jumpThreshold : Nat
  gmAllow : List Nat
  deriving DecidableEq, Repr

/-- PORT item (R570). -/
structure PortItem where
  lane : Nat
  mode : Nat
  fec : Nat
  laneFlags : Nat
  ptpPorts : Nat
  tcGroup : Nat
  mast : Nat
  txSwing : Nat
  asymNs : Int
  mac : Nat
  mtu : Nat
  ipv4 : Nat
  ipv4Prefix : Nat
  ipv6Prefix0 : Nat
  ipv6Prefix1 : Nat
  ipv6a : Nat
  ipv6b : Nat
  rangeFirst : Nat
  rangeCount : Nat
  deriving DecidableEq, Repr

/-- DEST_RANGE item (R570). -/
structure DestRange where
  ipVer : Nat
  prefixLen : Nat
  address : Nat
  deriving DecidableEq, Repr

/-- MGMT item (R570). -/
structure MgmtItem where
  mast : Nat
  place : Nat
  lane : Nat
  ipv4Prefix : Nat
  mtu : Nat
  ipv6Prefix : Nat
  ipv4 : Nat
  gw4 : Nat
  ipv6 : Nat
  gw6 : Nat
  deriving DecidableEq, Repr

/-- ZONE item (R570), its outputs and floor under R294. -/
structure ZoneItem where
  zone : Nat
  floor : Nat
  outFirst : Nat
  outCount : Nat
  gain : Int
  deriving DecidableEq, Repr

/-- ALARM_INPUT item (R570); ALARM_STREAM items begin with one. -/
structure AlarmInputItem where
  input : Nat
  flags : Nat
  priority : Nat
  sourceKind : Nat
  sourceIndex : Nat
  zoneFirst : Nat
  zoneCount : Nat
  fallback : Nat
  deriving DecidableEq, Repr

/-- ALARM_STREAM item (R570). -/
structure AlarmStreamItem where
  input : AlarmInputItem
  flow : FlowMatch
  key : List Byte
  deriving DecidableEq, Repr

/-- OUTPUT_CHANNEL item (R570). -/
structure OutChanItem where
  channel : Nat
  muteInAlarm : Bool
  releaseMs : Nat
  ceiling : Int
  deriving DecidableEq, Repr

/-- AUDIO_SINK item (R570). CLASS 0 AES3 output, 1 fallback audio ball, 2 SDI embedding port. -/
structure AudioSinkItem where
  cls : Nat
  index : Nat
  flags : Nat
  rate : Nat
  userFrom : Nat
  channels : List Nat
  deriving DecidableEq, Repr

/-- VIDEO_OUTPUT item (R570). -/
structure VideoOutItem where
  output : Nat
  timebase : Nat
  family : Nat
  flags : Nat
  safe : Nat
  deriving DecidableEq, Repr

/-- STREAM item (R570): DIR and the parameter bytes of STREAM_RX_SET or STREAM_TX_SET. -/
structure StreamItem where
  dir : Nat
  params : List Byte
  deriving DecidableEq, Repr

/-- PATCH item (R570): a PATCH_SET entry and P_FLAGS. -/
structure PatchItem where
  channel : Nat
  srcClass : Nat
  flags : Nat
  srcIndex : Nat
  srcChannel : Nat
  deriving DecidableEq, Repr

/-- A sealed installation profile (R569, R570). -/
structure Profile where
  seq : Nat
  variant : Nat
  deviceCertHash : List Byte
  alertHash : List Byte
  hash : List Byte
  global : GlobalItem
  seats : List SeatItem
  timebases : List TimebaseItem
  ports : List PortItem
  ranges : List DestRange
  mgmt : List MgmtItem
  zones : List ZoneItem
  zoneOutputs : List Nat
  zoneList : List Nat
  alarmInputs : List AlarmInputItem
  alarmStreams : List AlarmStreamItem
  outChannels : List OutChanItem
  sinks : List AudioSinkItem
  videoOutputs : List VideoOutItem
  streams : List StreamItem
  patch : List PatchItem
  deriving DecidableEq, Repr

/-- A firmware image in a flash slot (R574, R575). -/
structure FwImage where
  version : Nat
  rollback : Nat
  /-- Signature and CODE_HASH verify. -/
  good : Bool
  deriving DecidableEq, Repr

/-- The external flash of one mast (R576), but for the message store. -/
structure FlashState where
  profile0 : Option Profile
  profile1 : Option Profile
  alert0 : List Byte
  alert1 : List Byte
  fw0 : Option FwImage
  fw1 : Option FwImage
  /-- Which copies are in use: profile copy, alert copy, firmware slot booted. -/
  profileUsed : Nat
  alertUsed : Nat
  fwBooted : Nat
  deriving DecidableEq, Repr

/-- Images staged by IMAGE_LOAD, whole (R222): sealed profile, firmware, alert signal. -/
structure Staging where
  profile : Option (List Byte)
  firmware : Option (List Byte)
  alert : Option (List Byte)
  deriving DecidableEq, Repr

/-- An image write to flash in progress (R223). IMAGE: 0 profile, 1 firmware. Writes run in the order of their commands. -/
structure ImageWrite where
  image : Nat
  seat : Nat
  hostSeq : Nat
  profile : Option Profile
  firmware : Option FwImage
  alert : Option (List Byte)
  startedAt : Nat
  deriving DecidableEq, Repr

/-- Lifecycle, identity and images (R556 to R576). -/
structure Security where
  /-- 0 BLANK, 1 VENDOR, 2 OWNED, 3 SEALED, 4 RETIRED (R556). -/
  lifecycle : Nat
  /-- The owner public key in OTP, empty before OWNER_ENROL and after RETIRED (R556, R559). -/
  ownerKey : List Byte
  certChain : List Byte
  leafLen : Nat
  stepping : Nat
  serial : List Byte
  /-- The identity key exists while its helper data is intact (R560, R559). -/
  identityKey : Bool
  /-- FW_VERSION of the running firmware and the OTP ROLLBACK thermometer. -/
  fwVersion : Nat
  rollback : Nat
  /-- OTP log of PROFILE_SEQ values, at most 1,024 (R572). -/
  profileSeqs : List Nat
  profile : Option Profile
  flash : Both FlashState
  staging : Staging
  writes : List ImageWrite
  /-- OTP writes of a lifecycle change that a hold-off keeps waiting: the state, and the owner key of an enrolment (R503, R533). -/
  heldOtp : List (Nat × List Byte)
  /-- Whether the security engine is held in reset by a tamper (R545, R582). -/
  engineReset : Bool
  deriving DecidableEq, Repr

/-- Flash with nothing but a bootable firmware slot. -/
def FlashState.reset : FlashState :=
  { profile0 := none, profile1 := none, alert0 := [], alert1 := [],
    fw0 := some { version := 0x01000000, rollback := 0, good := true }, fw1 := none, profileUsed := 0,
    alertUsed := 0, fwBooted := 0 }

/-- A device as the vendor ships it: VENDOR, no owner, no profile (R556: none leaves in BLANK). The certificate,
serial number and stepping are DESIGN CHOICES (log entry 5). -/
def Security.reset : Security :=
  { lifecycle := 1, ownerKey := [], certChain := [], leafLen := 0, stepping := 0x4231, serial := zeros 16,
    identityKey := false, fwVersion := 0x01000000, rollback := 0, profileSeqs := [], profile := none,
    flash := .same .reset, staging := { profile := none, firmware := none, alert := none }, writes := [], heldOtp := [],
    engineReset := false }

end Sys2Proof.Machine
end

