-- ==== Sys2Proof/Machine/VideoState.lean ====
section
/-! DEFINITION. The Route die of one mast (chapter 10): the ingress flow table, video inputs, the selection state of the
crosspoint, egress flows and cells. -/
namespace Sys2Proof.Machine

/-- One entry of the ingress flow table (R186, R206, R212, R214, R354). OWNER is a port, or a stream with bit 15 set. -/
structure FlowEntry where
  owner : Nat
  typ : Nat
  flags : Nat
  match' : List Byte
  deriving DecidableEq, Repr

/-- One video input on one mast (R350, R351, R363): recognised FORMAT, whether it delivers, the arrival of its latest
complete frame in thirds of a nanosecond of TB_0's time (none until measured), its payload rate over the last second in
bits per second (R367, R377), and whether it is locked. -/
structure VideoIn where
  fmt : Nat
  present : Bool
  arrival : Option Int
  rate : Nat
  locked : Bool
  deriving DecidableEq, Repr

/-- A video input that nothing has reached. -/
def VideoIn.none : VideoIn := { fmt := 0, present := false, arrival := Option.none, rate := 0, locked := false }

/-- The outcome of a final decision (R371). -/
inductive Decision where
  | refused
  | clean
  | unclean
  deriving DecidableEq, Repr

/-- One entry of an XPT_SWITCH or XPT_SALVO that waits for its switch frame (R369). -/
structure XptPending where
  input : Nat
  frame : Nat
  /-- The step Q in which its switch point falls. -/
  q : Nat
  cleanOnly : Bool
  order : Nat
  seat : Nat
  hostSeq : Nat
  decision : Option Decision
  /-- The timing of the outcome: none NOMINAL, or its tracking point against the frame reference, in 2,250ths of a third
  of a nanosecond. -/
  track : Option Int
  /-- The format the output will emit. -/
  fmt : Nat
  deriving DecidableEq, Repr

/-- The selection of one logical output (R64, R214, R364): input 0xFFFF where it is not connected; a tracking point
in 2,250ths of a third of a nanosecond where it is TRACKING; `black` while its connected source delivers nothing (R374). -/
structure XptOut where
  input : Nat
  clean : Bool
  fmt : Nat
  track : Option Int
  black : Bool
  /-- The time of its latest switch (R368, R373), in 2,250ths of a third of a nanosecond: its frames begin on their timing from then on,
  once the interval that an unclean switch inserts has passed. -/
  since : Int
  /-- Its input and its timing before that switch, none where it emitted nothing. -/
  before : Option (Nat × Option Int)
  pending : List XptPending
  deriving DecidableEq, Repr

/-- An output that has never been switched. -/
def XptOut.none : XptOut := { input := 0xFFFF, clean := false, fmt := 0, track := Option.none, black := false, since := 0, before := Option.none, pending := [] }

/-- An output is put into HOLD_BLACK: disconnected, at nominal timing, in its emitted format (R380). -/
def XptOut.hold (x : XptOut) : XptOut :=
  { x with input := 0xFFFF, track := Option.none, black := false, since := 0, before := Option.none }

/-- What a video output shows: nothing, black, colour bars, or an input. -/
inductive Show where
  | idle
  | black
  | bars
  | input (i : Nat)
  deriving DecidableEq, Repr

/-- A line that an SDI output sends (R348, R364, R373): the count of its frame from the epoch, its line number, what it shows, and by how
much its horizontal blanking is lengthened, in 2,250ths of a third of a nanosecond. -/
structure SdiLine where
  frame : Int
  line : Nat
  shown : Show
  stretch : Int
  deriving DecidableEq, Repr

/-- A group that a mast keeps a membership of on a port (R356), with the one source it is asked from where its entry matches a source. -/
structure Membership where
  port : Nat
  group : Nat
  source : Option Nat
  deriving DecidableEq, Repr

/-- A packet of an egress flow (R358, R359): the RTP header's sequence number, timestamp, marker, payload type and SSRC, the extended
sequence number, and the row it carries: field, line, first sample and samples, whether they have 12 bits. -/
structure VideoPkt where
  seq : Nat
  ts : Nat
  marker : Bool
  payloadType : Nat
  ssrc : Nat
  extended : Nat
  field2 : Bool
  line : Nat
  first : Nat
  samples : List Nat
  deep : Bool
  deriving DecidableEq, Repr

/-- The egress flow of one logical output (R213, R359): its 48 parameter bytes, the packets sent since it was enabled, and the ones
sent in the latest step. -/
structure FlowTx where
  params : List Byte
  count : Nat
  sent : List VideoPkt
  deriving DecidableEq, Repr

/-- A crosspoint command whose EV_XPT_SWITCHED is still to come (R211, R375). -/
structure XptJob where
  code : Nat
  order : Nat
  seat : Nat
  hostSeq : Nat
  eff : Nat
  left : Nat
  clean : Nat
  unclean : Nat
  refused : Nat
  superseded : Nat
  first : Option Nat
  deriving DecidableEq, Repr

/-- What a mast has received of a flow input (R54, R357): the newest sequence number, the timestamp and length of its packet, and the
packets missing, each with the timestamp of the frame that showed the gap. -/
structure VideoSeq where
  seq : Nat
  ts : Nat
  bytes : Nat
  missing : List (Nat × Nat)
  deriving DecidableEq, Repr

/-- The unrepaired counter of a flow input (R54): frames counted, the timestamp of the last frame marked, and the time of the last
event. -/
structure Unrepaired where
  count : Nat
  ts : Option Nat
  eventAt : Option Nat
  deriving DecidableEq, Repr

/-- A flow of which no frame is unrepaired. -/
def Unrepaired.none : Unrepaired := { count := 0, ts := Option.none, eventAt := Option.none }

/-- A row of samples in slack memory (R246, R357, R364): its line, its first sample and how many, and its data words, three 12-bit
samples to a word. -/
structure SlackRow where
  line : Nat
  first : Nat
  count : Nat
  words : List (BitVec 36)
  deriving DecidableEq, Repr

/-- Three 12-bit samples to a data word: sample 0 in bits [11:0], sample 1 in [23:12], sample 2 in [35:24] (R246). -/
def packSamples : List Nat → List (BitVec 36)
  | a :: b :: c :: rest => BitVec.ofNat 36 (a % 4096 + 4096 * (b % 4096) + 16777216 * (c % 4096)) :: packSamples rest
  | [a, b] => [BitVec.ofNat 36 (a % 4096 + 4096 * (b % 4096))]
  | [a] => [BitVec.ofNat 36 (a % 4096)]
  | [] => []

/-- Sample `i` of data words in a video memory (R246). -/
def sampleAt (words : List (BitVec 36)) (i : Nat) : Nat := (atD words (i / 3) 0).toNat / 4096 ^ (i % 3) % 4096

/-- The Route die of one mast. -/
structure VideoMast where
  flows : Assoc FlowEntry
  inputs : Assoc VideoIn
  outputs : Assoc XptOut
  tx : Assoc FlowTx
  /-- The slack buffers of outputs (R357, R364): rows of samples, oldest first, at most 5,120 words to an output. -/
  slack : Assoc (List SlackRow)
  /-- Misses since the last EV_FLOW_MISS, its time, and the latest miss (R355). -/
  misses : Nat
  missAt : Option Nat
  missAddr : Nat
  missPort : Nat
  /-- The sequence of each flow input, gap notices sent for video packets (port and sequence), and the unrepaired counters (R54). -/
  seqs : Assoc VideoSeq
  notices : List (Nat × Nat)
  unrepaired : Assoc Unrepaired
  /-- Cells declared failed, as region times 512 plus cell, each with the step from which a spare serves; outputs taken out for
  want of a spare (R381). -/
  cellsOut : List (Nat × Nat)
  outputsOut : List Nat
  /-- The groups this mast has reported that it keeps, and its latest reports: true where it leaves the group (R356). -/
  members : List Membership
  reported : List (Membership × Bool)
  /-- The lines that SDI outputs sent in the latest step. -/
  sdi : Assoc (List SdiLine)
  /-- Whether every video output is idle: the crosspoint is power-gated or shed (R380). -/
  idle : Bool
  deriving DecidableEq, Repr

/-- A Route die after a wipe. -/
def VideoMast.reset : VideoMast :=
  { flows := [], inputs := [], outputs := [], tx := [], slack := [], misses := 0, missAt := none, missAddr := 0, missPort := 0,
    seqs := [], notices := [], unrepaired := [], cellsOut := [], outputsOut := [], members := [], reported := [], sdi := [], idle := true }

/-- A Route die whose memories are wiped or whose power was gated: failed cells and the outputs taken out stay so (R27, R381). -/
def VideoMast.wiped (v : VideoMast) : VideoMast := { VideoMast.reset with cellsOut := v.cellsOut, outputsOut := v.outputsOut }

end Sys2Proof.Machine
end

