-- ==== Sys2Proof/Machine/PeerState.lean ====
section
/-! DEFINITION. What reaches a package of a paired system from the other one over the Shroud link (R89 to R92). -/
namespace Sys2Proof.Machine

/-- What the other package reports for the pairing checks (R6, R89): its CAPS record, internal rate, capture fence, firmware
version and anti-rollback counter, sealed profile, device certificate hash, and package role. -/
structure PeerFacts where
  caps : List Byte
  internalRate : Nat
  fence : Nat
  fwVersion : Nat
  rollback : Nat
  profile : Option Profile
  certHash : List Byte
  role : Nat
  deriving DecidableEq, Repr

/-- A command of the Primary with its effective step (R91): the plan of a TACK, and the figure resolved at its acceptance. -/
structure PrimaryCommand where
  code : Nat
  payload : List Byte
  seat : Nat
  hostSeq : Nat
  effStep : Nat
  aux : Nat
  plan : Option TackPlan
  deriving DecidableEq, Repr

/-- The state of the Primary's Captain that a copy carries, for a join step (R70, R71, R92). -/
structure PrimaryState where
  joinStep : Nat
  dp : Datapath
  aud : AudioMast
  vid : VideoMast
  rigs : RigSlots
  assigned : List Assigned
  /-- The state of the 8 alarm inputs that the Primary acts on. -/
  acted : List Nat
  mode : Mode
  base : Mode
  deriving DecidableEq, Repr

/-- The parts of a profile that govern alarm zones, priorities, safe states and fallback routes (R89). -/
def Profile.alarmParts (p : Profile) : List ZoneItem × List Nat × List Nat × List AlarmInputItem × List AlarmStreamItem ×
    List OutChanItem × List AudioSinkItem × List VideoOutItem :=
  (p.zones, p.zoneOutputs, p.zoneList, p.alarmInputs, p.alarmStreams, p.outChannels, p.sinks, p.videoOutputs)

end Sys2Proof.Machine
end

