-- ==== Sys2Proof/Syntax.lean ====
section
/-! DEFINITION. The commands of the block: one constructor per row of the opcode table. Halyard commands carry the header as
received and the payload; every other row carries the facts of its event: the mast `m`, and what arrives, is measured or is
decided there. -/
namespace Sys2Proof
open Sys2Proof.Machine

/-- The commands (one per row of spec/opcode_table.json, in its order). -/
inductive Instr where
  /-- SESSION_OPEN (R565). -/
  | sessionOpen (h : Hdr) (p : List Byte) (f : OpenFacts)
  /-- SESSION_CONFIRM (R188). -/
  | sessionConfirm (h : Hdr) (p : List Byte)
  /-- SESSION_CLOSE (R188). -/
  | sessionClose (h : Hdr) (p : List Byte)
  /-- SESSION_STATUS (R188). -/
  | sessionStatus (h : Hdr) (p : List Byte)
  /-- SESSION_EVENTS (R188). -/
  | sessionEvents (h : Hdr) (p : List Byte)
  /-- LEDGER_READ (R165). -/
  | ledgerRead (h : Hdr) (p : List Byte)
  /-- IDENT_GET (R189). -/
  | identGet (h : Hdr) (p : List Byte)
  /-- CAPS_GET (R190). -/
  | capsGet (h : Hdr) (p : List Byte)
  /-- LOCKOUT_RECORD_GET (R191). -/
  | lockoutRecordGet (h : Hdr) (p : List Byte)
  /-- MODE_GET (R192). -/
  | modeGet (h : Hdr) (p : List Byte)
  /-- MODE_SET (R193). -/
  | modeSet (h : Hdr) (p : List Byte)
  /-- RESET (R194). -/
  | reset (h : Hdr) (p : List Byte)
  /-- RIG_LOAD (R196). -/
  | rigLoad (h : Hdr) (p : List Byte)
  /-- RIG_VERIFY (R197). -/
  | rigVerify (h : Hdr) (p : List Byte)
  /-- TACK (R198). -/
  | tack (h : Hdr) (p : List Byte)
  /-- RIG_DISCARD (R199). -/
  | rigDiscard (h : Hdr) (p : List Byte)
  /-- RIG_STATUS (R199). -/
  | rigStatus (h : Hdr) (p : List Byte)
  /-- RIG_LATENCY (R200). -/
  | rigLatency (h : Hdr) (p : List Byte)
  /-- PARAM_SET (R201). -/
  | paramSet (h : Hdr) (p : List Byte)
  /-- PARAM_GET (R202). -/
  | paramGet (h : Hdr) (p : List Byte)
  /-- SCENE_RECALL (R202). -/
  | sceneRecall (h : Hdr) (p : List Byte)
  /-- RAMP_DEFAULT_SET (R634). -/
  | rampDefaultSet (h : Hdr) (p : List Byte)
  /-- RAMP_STATUS (R202). -/
  | rampStatus (h : Hdr) (p : List Byte)
  /-- AES_CONFIG (R203). -/
  | aesConfig (h : Hdr) (p : List Byte)
  /-- AUDIO_STATUS (R204). -/
  | audioStatus (h : Hdr) (p : List Byte)
  /-- COMMON_START (R320). -/
  | commonStart (h : Hdr) (p : List Byte)
  /-- STREAM_RX_SET (R206). -/
  | streamRxSet (h : Hdr) (p : List Byte)
  /-- STREAM_TX_SET (R207). -/
  | streamTxSet (h : Hdr) (p : List Byte)
  /-- PATCH_SET (R208). -/
  | patchSet (h : Hdr) (p : List Byte)
  /-- HOST_AUDIO_SET (R338). -/
  | hostAudioSet (h : Hdr) (p : List Byte)
  /-- SDI_AUDIO_SET (R210). -/
  | sdiAudioSet (h : Hdr) (p : List Byte)
  /-- SIDETONE_SET (R293). -/
  | sidetoneSet (h : Hdr) (p : List Byte)
  /-- XPT_SWITCH (R211). -/
  | xptSwitch (h : Hdr) (p : List Byte)
  /-- XPT_SALVO (R211). -/
  | xptSalvo (h : Hdr) (p : List Byte)
  /-- XPT_STATUS (R214). -/
  | xptStatus (h : Hdr) (p : List Byte)
  /-- FLOW_RX_SET (R212). -/
  | flowRxSet (h : Hdr) (p : List Byte)
  /-- FLOW_TX_SET (R213). -/
  | flowTxSet (h : Hdr) (p : List Byte)
  /-- FLOW_READ (R214). -/
  | flowRead (h : Hdr) (p : List Byte)
  /-- TIMEBASE_STATUS (R215). -/
  | timebaseStatus (h : Hdr) (p : List Byte)
  /-- REFERENCE_STATUS (R215). -/
  | referenceStatus (h : Hdr) (p : List Byte)
  /-- TIMING_HISTORY (R215). -/
  | timingHistory (h : Hdr) (p : List Byte)
  /-- PTP_STATUS (R215). -/
  | ptpStatus (h : Hdr) (p : List Byte)
  /-- REALIGN (R431). -/
  | realign (h : Hdr) (p : List Byte)
  /-- TANDEM_STATUS (R217). -/
  | tandemStatus (h : Hdr) (p : List Byte)
  /-- TANDEM_SWAP (R83). -/
  | tandemSwap (h : Hdr) (p : List Byte)
  /-- DIGEST_STATUS (R217). -/
  | digestStatus (h : Hdr) (p : List Byte)
  /-- SHROUD_STATUS (R217). -/
  | shroudStatus (h : Hdr) (p : List Byte)
  /-- FAULT_LOG_READ (R218). -/
  | faultLogRead (h : Hdr) (p : List Byte)
  /-- FAULT_ACK (R219). -/
  | faultAck (h : Hdr) (p : List Byte)
  /-- COUNTER_READ (R218). -/
  | counterRead (h : Hdr) (p : List Byte)
  /-- SNAPSHOT (R220). -/
  | snapshot (h : Hdr) (p : List Byte)
  /-- SNAPSHOT_READ (R220). -/
  | snapshotRead (h : Hdr) (p : List Byte)
  /-- HEALTH (R510). -/
  | health (h : Hdr) (p : List Byte)
  /-- BANK_GIVE (R517). -/
  | bankGive (h : Hdr) (p : List Byte)
  /-- BANK_HANDOVER (R517). -/
  | bankHandover (m : Mast) (i : Nat) (idle : Bool)
  /-- BANK_READ (R221). -/
  | bankRead (h : Hdr) (p : List Byte)
  /-- BANK_WRITE (R221). -/
  | bankWrite (h : Hdr) (p : List Byte)
  /-- MARCH_RUN (R526). -/
  | marchRun (h : Hdr) (p : List Byte)
  /-- LOOPBACK_SET (R399). -/
  | loopbackSet (h : Hdr) (p : List Byte)
  /-- TEST_ROUTE_SET (R221). -/
  | testRouteSet (h : Hdr) (p : List Byte)
  /-- REPAIR_MAP_READ (R530). -/
  | repairMapRead (h : Hdr) (p : List Byte)
  /-- LIFECYCLE_GET (R222). -/
  | lifecycleGet (h : Hdr) (p : List Byte)
  /-- CERT_READ (R222). -/
  | certRead (h : Hdr) (p : List Byte)
  /-- OWNER_ENROL (R222). -/
  | ownerEnrol (h : Hdr) (p : List Byte) (sigOk : Bool)
  /-- IMAGE_LOAD (R222). -/
  | imageLoad (h : Hdr) (p : List Byte)
  /-- PROFILE_APPLY (R571). -/
  | profileApply (h : Hdr) (p : List Byte) (sigOk : Bool)
  /-- FIRMWARE_APPLY (R223). -/
  | firmwareApply (h : Hdr) (p : List Byte) (sigOk : Bool)
  /-- LIFECYCLE_SET (R222). -/
  | lifecycleSet (h : Hdr) (p : List Byte) (sigOk : Bool)
  /-- KEY_PROVISION (R562). -/
  | keyProvision (h : Hdr) (p : List Byte) (key : Nat) (unwrapOk : Bool)
  /-- RTC_SET (R222). -/
  | rtcSet (h : Hdr) (p : List Byte)
  /-- ALARM_ACTIVATE (R224). -/
  | alarmActivate (h : Hdr) (p : List Byte)
  /-- ALARM_CLEAR (R224). -/
  | alarmClear (h : Hdr) (p : List Byte)
  /-- ALARM_STATUS (R225). -/
  | alarmStatus (h : Hdr) (p : List Byte)
  /-- MESSAGE_LOAD (R577). -/
  | messageLoad (h : Hdr) (p : List Byte) (sigOk : Bool)
  /-- MESSAGE_LIST (R225). -/
  | messageList (h : Hdr) (p : List Byte)
  /-- ALARM_INPUT_STATUS (R225). -/
  | alarmInputStatus (h : Hdr) (p : List Byte)
  /-- FALLBACK_TEST (R225). -/
  | fallbackTest (h : Hdr) (p : List Byte)
  /-- FALLBACK_TEST_DONE (R225). -/
  | fallbackTestDone
  /-- UNKNOWN_OPCODE (R179). -/
  | unknownOpcode (h : Hdr) (code : Nat) (p : List Byte)
  /-- HALYARD_PACKET_DISCARD (R139). -/
  | halyardPacketDiscard (h : Hdr)
  /-- SESSION_IDLE_TIMEOUT (R155). -/
  | sessionIdleTimeout
  /-- LOAD_TIMEOUT (R185). -/
  | loadTimeout (t : LoadTarget)
  /-- CMD_TAIL_DOORBELL (R147). -/
  | cmdTailDoorbell (m : Mast) (v : Nat)
  /-- COMMAND_DESCRIPTOR_DONE (R147). -/
  | commandDescriptorDone (m : Mast) (d : Desc) (dmaError : Bool)
  /-- REPLY_TAIL_DOORBELL (R147). -/
  | replyTailDoorbell (m : Mast) (v : Nat)
  /-- REPLY_PACKET_WRITE (R147). -/
  | replyPacketWrite (m : Mast) (d : Desc) (dmaError : Bool)
  /-- RING_ENABLE_WRITE (R554). -/
  | ringEnableWrite (m : Mast) (v : Nat)
  /-- INT_STATUS_CLEAR (R553). -/
  | intStatusClear (m : Mast) (v : Nat)
  /-- INT_ENABLE_WRITE (R553). -/
  | intEnableWrite (m : Mast) (v : Nat)
  /-- MSIX_HOLDOFF_EXPIRY (R553). -/
  | msixHoldoffExpiry (m : Mast)
  /-- WINDOW_HIGH_HALF_LATCH (R551). -/
  | windowHighHalfLatch (m : Mast) (write : Bool) (off v : Nat)
  /-- WINDOW_REGISTER_WRITE (R551). -/
  | windowRegisterWrite (m : Mast) (off v : Nat)
  /-- PCIE_RESET (R555). -/
  | pcieReset (m : Mast) (x : Transfer)
  /-- CSP_WRITE (R149). -/
  | cspWrite (m : Mast) (wireLen payloadLen : Nat)
  /-- CSP_READ (R150). -/
  | cspRead (m : Mast) (clocked : Nat)
  /-- CSP_STATUS (R150). -/
  | cspStatus (m : Mast)
  /-- CSP_FRAMING_DISCARD (R149). -/
  | cspFramingDiscard (m : Mast) (first : Nat)
  /-- TRANSPORT_ENGINE_RESET (R550). -/
  | transportEngineReset (m : Mast) (t : Transport) (x : Transfer)
  /-- MGMT_SERVICE_FRAME (R151). -/
  | mgmtServiceFrame (m : Mast) (f : ServiceFrame)
  /-- REMAP_WRITE (R539). -/
  | remapWrite (m : Mast) (x : BusMaster) (passed : Bool)
  /-- WATCHDOG_EXPIRY (R537). -/
  | watchdogExpiry (m : Mast)
  /-- POWER_GOOD (R105). -/
  | powerGood (m : Mast)
  /-- BOOT_PHASE_COMPLETE (R106). -/
  | bootPhaseComplete (m : Mast) (f : BootFacts)
  /-- BOOT_FAILURE (R109). -/
  | bootFailure (m : Mast)
  /-- BOOT_END (R108). -/
  | bootEnd
  /-- RESET_N_ASSERT (R626). -/
  | resetNAssert (m : Mast) (cycles : Nat)
  /-- MAIN_POWER_LOSS (R130). -/
  | mainPowerLoss
  /-- TAMPER_TRIP (R582). -/
  | tamperTrip (m : Mast) (src : Nat)
  /-- LIFECYCLE_RESET (R533). -/
  | lifecycleReset
  /-- IMAGE_WRITE_DONE (R223). -/
  | imageWriteDone (failed : Bool)
  /-- WATCH_FADE_END (R118). -/
  | watchFadeEnd
  /-- WAKE_STEP (R113). -/
  | wakeStep
  /-- LATE_WAKE (R115). -/
  | lateWake (m : Mast)
  /-- ON_BATT_CHANGE (R605). -/
  | onBattChange (m : Mast) (level : Bool)
  /-- SHED_STEP (R121). -/
  | shedStep
  /-- RESTORE_STEP (R122). -/
  | restoreStep
  /-- ALARM_INPUT_SAMPLE (R629). -/
  | alarmInputSample (m : Mast) (i v : Nat) (pulse : Bool)
  /-- ALARM_INPUT_DEBOUNCED (R629). -/
  | alarmInputDebounced (m : Mast) (i : Nat)
  /-- ALARM_TEST_PULSE (R630). -/
  | alarmTestPulse (m : Mast) (i dropMv : Nat)
  /-- ALARM_INPUT_ACTION (R59). -/
  | alarmInputAction (primary : List Assigned)
  /-- ALARM_INPUT_SOLO (R59). -/
  | alarmInputSolo (m : Mast) (i : Nat)
  /-- MESSAGE_PLAY_BOUNDARY (R298). -/
  | messagePlayBoundary (msg : Nat)
  /-- MESSAGE_CHUNK_FAILURE (R299). -/
  | messageChunkFailure (m : Mast) (msg chunk : Nat) (both : Bool)
  /-- ALARM_STREAM_MESSAGE (R584). -/
  | alarmStreamMessage (m : Mast) (n : Nat) (r : RtpFacts) (p : List Byte) (sigOk : Bool) (tai : Nat)
  /-- ALARM_STREAM_SILENCE (R584). -/
  | alarmStreamSilence (n : Nat)
  /-- STEP_BOUNDARY (R14). -/
  | stepBoundary (frame : List Byte)
  /-- PRE_START_PULSE (R454). -/
  | preStartPulse
  /-- RAMP_END (R240). -/
  | rampEnd
  /-- STEP_FAILURE (R66). -/
  | stepFailure (m : Mast) (g : Nat)
  /-- DIGEST_RECEIVED (R65). -/
  | digestReceived (m : Mast) (n : Nat)
  /-- DIGEST_COMPARE (R65). -/
  | digestCompare (n : Nat)
  /-- EFFECTIVE_STEP_APPLY (R172). -/
  | effectiveStepApply
  /-- COMMIT_RECEIVED (R62). -/
  | commitReceived (order : Nat) (primary : Option PrimaryCommand)
  /-- TACK_END (R283). -/
  | tackEnd
  /-- RIG_VERIFY_DONE (R265). -/
  | rigVerifyDone (hashOk : Bool)
  /-- SNAPSHOT_EVENT (R508). -/
  | snapshotEvent
  /-- HEALTH_EVENT (R510). -/
  | healthEvent
  /-- AUDIO_PACKET_RX (R324). -/
  | audioPacketRx (m : Mast) (r : RtpFacts) (samples : List (List Int)) (estimate : Nat)
  /-- PACKET_EXPECTED_TIMEOUT (R49). -/
  | packetExpectedTimeout (m : Mast) (st seq : Nat)
  /-- GAP_NOTICE_RX (R49). -/
  | gapNoticeRx (m : Mast) (video : Bool) (st seq : Nat)
  /-- FORWARDED_PACKET_RX (R50). -/
  | forwardedPacketRx (m : Mast) (st seq : Nat) (primary : Option HeldPacket)
  /-- PACKET_DEADLINE (R52). -/
  | packetDeadline (m : Mast) (st seq : Nat)
  /-- AUDIO_PORT_EVENT_DEFERRED (R343). -/
  | audioPortEventDeferred (m : Mast) (cls idx : Nat)
  /-- AES3_FRAME_RX (R55). -/
  | aes3FrameRx (m : Mast) (f : AesFrame)
  /-- CAPTURE_ASSIGNMENT_RX (R55). -/
  | captureAssignmentRx (m : Mast) (x : CaptureNote)
  /-- ASRC_ESTIMATE_RX (R56). -/
  | asrcEstimateRx (m : Mast) (cls idx step ratio : Nat)
  /-- ASRC_LOCK (R307). -/
  | asrcLock (m : Mast) (cls idx ratio : Nat)
  /-- AES3_INPUT_LOCK (R311). -/
  | aes3InputLock (m : Mast) (port rate : Nat)
  /-- AES3_INPUT_UNLOCK (R311). -/
  | aes3InputUnlock (m : Mast) (port : Nat)
  /-- SINGLE_HOMED_CHANGE (R314). -/
  | singleHomedChange (cls idx : Nat)
  /-- SDI_AUDIO_PACKET (R333). -/
  | sdiAudioPacket (m : Mast) (p : SdiPacket)
  /-- VIDEO_PACKET_RX (R357). -/
  | videoPacketRx (m : Mast) (r : RtpFacts) (row : VideoRow)
  /-- FLOW_MISS_EVENT (R355). -/
  | flowMissEvent (m : Mast)
  /-- FLOW_UNREPAIRED (R54). -/
  | flowUnrepaired (m : Mast) (port ts black : Nat)
  /-- MEMBERSHIP_QUERY (R356). -/
  | membershipQuery (m : Mast)
  /-- FORMAT_RECOGNISED (R350). -/
  | formatRecognised (m : Mast) (i fmt : Nat)
  /-- ARRIVAL_MEASUREMENT (R363). -/
  | arrivalMeasurement (m : Mast) (i : Nat) (arrival : Int) (rate slips : Nat)
  /-- SWITCH_FINAL_DECISION (R369). -/
  | switchFinalDecision (o : Nat) (reached : Bool)
  /-- STOKER_OWN_SWITCH_DECISION (R369). -/
  | stokerOwnSwitchDecision (o : Nat)
  /-- SWITCH_POINT (R368). -/
  | switchPoint (o : Nat)
  /-- SOURCE_CHANGE (R374). -/
  | sourceChange (o : Nat) (delivers : Bool) (black : Nat)
  /-- FABRIC_OVERLOAD (R379). -/
  | fabricOverload
  /-- CELL_CRC_MISMATCH (R381). -/
  | cellCrcMismatch (m : Mast) (region cell : Nat)
  /-- LANE_LOS (R395). -/
  | laneLos (m : Mast) (l : Nat) (on : Bool)
  /-- LANE_LOL (R395). -/
  | laneLol (m : Mast) (l : Nat) (on : Bool)
  /-- LANE_ERROR_BURST (R397). -/
  | laneErrorBurst (m : Mast) (l : Nat) (second : Bool)
  /-- LANE_SELF_TEST_RESULT (R397). -/
  | laneSelfTestResult (m : Mast) (l bitErrors : Nat)
  /-- LANE_BRINGUP_TIMEOUT (R398). -/
  | laneBringupTimeout (m : Mast) (l : Nat)
  /-- LANE_ALIGNED (R405). -/
  | laneAligned (m : Mast) (l : Nat) (a : AlignSt) (seed frame : Nat)
  /-- MARKER_SEND (R403). -/
  | markerSend (m : Mast) (l : Nat)
  /-- CONTAINER_RX (R406). -/
  | containerRx (m : Mast) (l cls seq : Nat) (blocks : List Nat) (tag : TagKey) (beat : Option Nat)
  /-- CONTAINER_SEQ_SKIP (R406). -/
  | containerSeqSkip (m : Mast) (shroud : Bool) (cls : Nat)
  /-- TANDEM_BLOCK_SEND (R407). -/
  | tandemBlockSend (m : Mast)
  /-- TANDEM_BLOCK_RX (R402). -/
  | tandemBlockRx (m : Mast) (l payload : Nat)
  /-- STAY_LINK_UP (R409). -/
  | stayLinkUp
  /-- STAY_LINK_DOWN (R84). -/
  | stayLinkDown (m : Mast)
  /-- STAY_ARBITRATION (R84). -/
  | stayArbitration
  /-- STAY_REJOIN_TIMER (R85). -/
  | stayRejoinTimer
  /-- FAULT_REPORT (R487). -/
  | faultReport (m : Mast) (src site step : Nat) (late : Bool)
  /-- TAKE_CAPTAIN (R79). -/
  | takeCaptain (m : Mast)
  /-- RELEASE_DRIVERS (R79). -/
  | releaseDrivers (m : Mast)
  /-- ABRUPT_TAKEOVER (R81). -/
  | abruptTakeover (m : Mast) (dead steerLow : Bool)
  /-- STEER_READBACK_FAULT (R627). -/
  | steerReadbackFault (m ball : Mast)
  /-- SLOT_PRELOAD_END (R72). -/
  | slotPreloadEnd
  /-- COPY_PASS_END (R71). -/
  | copyPassEnd (fits : Bool)
  /-- JOIN_STEP (R71). -/
  | joinStep
  /-- STOKER_REJOIN (R73). -/
  | stokerRejoin
  /-- JOIN_HOLD_EXPIRY (R75). -/
  | joinHoldExpiry (m : Mast)
  /-- LOG_WRITE (R493). -/
  | logWrite (m : Mast)
  /-- BURST_CLOSE (R494). -/
  | burstClose (m : Mast) (src : Nat)
  /-- TARGETED_TEST_RESULT (R498). -/
  | targetedTestResult (m : Mast) (site : Nat) (passed : Bool)
  /-- ROW_COPY_END (R499). -/
  | rowCopyEnd (m : Mast) (site : Nat)
  /-- SCRUB_READ (R519). -/
  | scrubRead (m : Mast) (memory bank row word : Nat)
  /-- FALLBACK_MEMORY_CHECK (R522). -/
  | fallbackMemoryCheck (m : Mast) (passed reloadPassed : Bool)
  /-- MESSAGE_STORE_CHECK (R579). -/
  | messageStoreCheck (m : Mast) (fails : List (Nat × Nat × Bool))
  /-- OTP_REPAIR_WRITE (R529). -/
  | otpRepairWrite (m : Mast)
  /-- WRITE_HOLDOFF_END (R503). -/
  | writeHoldoffEnd (m : Mast) (rewriteFailed : Bool)
  /-- MARCH_DONE (R526). -/
  | marchDone (m : Mast) (target index : Nat) (first again : List SymFail) (still : Bool)
  /-- TELLTALE_WINDOW_END (R418). -/
  | telltaleWindowEnd (m : Mast) (rows : List WindowRow)
  /-- CANDIDATE_ABSENT (R415). -/
  | candidateAbsent (m : Mast) (i : Nat)
  /-- TIMEBASE_LOCKED (R426). -/
  | timebaseLocked (t : Nat) (xo : Int)
  /-- HOLDOVER_LIMIT (R428). -/
  | holdoverLimit (t : Nat)
  /-- XO_CHECK (R422). -/
  | xoCheck (m : Mast) (count : Nat) (edges : Bool)
  /-- XO_CALIBRATION_UPDATE (R419). -/
  | xoCalibrationUpdate (m : Mast) (mean : Int)
  /-- PHASE_MARKER (R427). -/
  | phaseMarker (t : Nat) (offset : Int)
  /-- REALIGN_EFFECTIVE (R432). -/
  | realignEffective (t : Nat)
  /-- REALIGN_RESUME (R432). -/
  | realignResume (frame : List Byte)
  /-- PTP_MESSAGE_RX (R465). -/
  | ptpMessageRx (m : Mast) (x : PtpMsg)
  /-- SYNC_PAIR_TIMEOUT (R468). -/
  | syncPairTimeout (m : Mast) (t : Nat)
  /-- DELAY_REQ_SEND (R469). -/
  | delayReqSend (m : Mast) (t : Nat) (t3 : Int)
  /-- PTP_OFFSET_SECOND (R473). -/
  | ptpOffsetSecond (t : Nat)
  /-- JUMP_DECISION (R474). -/
  | jumpDecision (t : Nat)
  /-- RTC_UPDATE (R482). -/
  | rtcUpdate
  /-- PLL_LOSS (R447). -/
  | pllLoss (m : Mast) (p : Nat) (oscStopped : Bool)
  /-- PLL_GRACE_END (R447). -/
  | pllGraceEnd (m : Mast) (p : Nat)
  /-- PLL_RELOCK (R447). -/
  | pllRelock (m : Mast) (p : Nat)
  /-- DERAILLEUR_HANG (R451). -/
  | derailleurHang (m : Mast) (d : Nat) (toFallback newEdge oldEdge : Bool)
  /-- SYNC_DIV_EDGE (R449). -/
  | syncDivEdge (m : Mast)
  /-- FREEWHEEL_CLOSE (R453). -/
  | freewheelClose (m : Mast) (block : Nat)
  /-- FORCED_CLOSURE_TIMEOUT (R455). -/
  | forcedClosureTimeout (m : Mast) (block : Nat)
  /-- FORCED_CLOSURE_RETRY (R455). -/
  | forcedClosureRetry (m : Mast) (block : Nat) (idle : Bool)
  /-- FREQUENCY_MEASUREMENT (R457). -/
  | frequencyMeasurement (m : Mast) (tap against sel : Nat) (value : Int)
  /-- DROOP_TRIP (R459). -/
  | droopTrip (m : Mast) (g : Nat)
  /-- DROOP_STRETCH_END (R459). -/
  | droopStretchEnd (m : Mast) (g : Nat)
  /-- RAIL_WARNING_DIP (R501). -/
  | railWarningDip (m : Mast) (rail depthMv : Nat)
  /-- SAG_RECOVERY (R501). -/
  | sagRecovery (m : Mast) (rail : Nat)
  /-- RAIL_RESET_LEVEL (R594). -/
  | railResetLevel (m : Mast) (rail : Nat)
  /-- PMBUS_ALERT (R597). -/
  | pmbusAlert (m : Mast) (words : List (Option Nat))
  /-- AVS_UPDATE (R598). -/
  | avsUpdate (m : Mast) (demands : List Nat)
  /-- PMBUS_FAILURE (R600). -/
  | pmbusFailure (m : Mast) (rail confirmedMv : Nat)
  /-- TEMPERATURE_READING (R607). -/
  | temperatureReading (m : Mast) (die : Nat) (t : Int)
  /-- SHROUD_LINK_UP (R412). -/
  | shroudLinkUp (m : Mast)
  /-- SHROUD_LINK_DOWN (R412). -/
  | shroudLinkDown (m : Mast)
  /-- BEAT_SEND (R412). -/
  | beatSend (m : Mast)
  /-- HELLO_RX (R585). -/
  | helloRx (m : Mast) (nonce cert : List Byte) (tagOk : Bool)
  /-- SHROUD_REKEY (R585). -/
  | shroudRekey (m : Mast)
  /-- SHROUD_PAIRING (R89). -/
  | shroudPairing (x : PeerFacts)
  /-- SHROUD_MEASUREMENT (R410). -/
  | shroudMeasurement (rtt : Nat) (phaseNs : Int)
  /-- RESERVE_DIGEST_COMPARE (R92). -/
  | reserveDigestCompare (n : Nat) (ds : List (Option Nat)) (copy : Option PrimaryState)
  /-- RESERVE_TRACK_RETRY (R92). -/
  | reserveTrackRetry
  /-- PRESENCE_BEACON_SEND (R94). -/
  | presenceBeaconSend
  /-- PRESENCE_BEACON_RX (R94). -/
  | presenceBeaconRx (m : Mast)
  /-- TAKEOVER_DELAY_EXPIRY (R94). -/
  | takeoverDelayExpiry
  /-- BARE_POLES_NOTICE_RX (R94). -/
  | barePolesNoticeRx
  /-- RESERVE_TAKEOVER (R95). -/
  | reserveTakeover
  /-- PLL_LANE_RELOCK_TIMEOUT (R448). -/
  | pllLaneRelockTimeout (m : Mast) (r : Nat)
  /-- RESET_N_RELEASE (R626). -/
  | resetNRelease (m : Mast)
  /-- MESSAGE_WRITE_DONE (R577). -/
  | messageWriteDone (i : Nat)
  /-- TL_ALIVE_DEAD (R128). -/
  | tlAliveDead (m : Mast)
  /-- EYE_MEASUREMENT (R394). -/
  | eyeMeasurement (m : Mast) (l v h : Nat)
  deriving DecidableEq, Repr

end Sys2Proof
end

