-- ==== Sys2Proof/Machine/Arith.lean ====
section
/-! DEFINITION. The arithmetic of the datapath, exact to the bit: rounding and saturation (R235 to R238), fades and
ramps (R240, R279), the symbol code (R246 to R248) and the step digest (R64). -/
namespace Sys2Proof.Machine

/-- The signed value of a word. -/
def wordVal (w : BitVec 36) : Int := w.toInt

/-- The word of a signed value within 36 bits. -/
def wordOf (v : Int) : BitVec 36 := BitVec.ofInt 36 v

/-- The accumulator's sum: the nearer limit where the sum leaves 80 bits (R235). -/
def accSat (v : Int) : Int := clampSigned 80 v

/-- A STORE's conversion from units of 2^-60 to a signal word (R236): half up, then saturated. -/
def storeRound (acc : Int) : Int := clampSigned 36 ((acc + 2 ^ 31) / 2 ^ 32)

/-- Whether a STORE saturates (R236). -/
def storeSaturates (acc : Int) : Bool := decide (storeRound acc ≠ (acc + 2 ^ 31) / 2 ^ 32)

/-- The product of two S3.32 coefficients, rounded half up at 2^-32 (R297). -/
def coefMul (a b : Int) : Int := (a * b + 2 ^ 31) / 2 ^ 32

/-- A 24-bit port sample as a signal word, or a 16-bit one where `l16` is set (R237). -/
def portIn (l16 : Bool) (v : Int) : Int := if l16 then v * 2 ^ 13 else v * 2 ^ 5

/-- A signal word as a port sample of W bits (R238). -/
def portOut (w : Nat) (v : Int) : Int := clampSigned w ((v + 2 ^ (28 - w)) / 2 ^ (29 - w))

/-- The value of a fade in step `n` (R240): g0 + k d within it, g1 from its last step on. -/
def Fade.at' (f : Fade) (n : Nat) : Int :=
  if n < f.start then f.u0
  else if f.start + f.len ≤ n + 1 then f.u1
  else f.u0 + ((n - f.start + 1 : Nat) : Int) * (f.u1 - f.u0).tdiv (f.len : Int)

/-- Whether a fade still moves in step `n`. -/
def Fade.running (f : Fade) (n : Nat) : Bool := decide (n < f.start + f.len)

/-- A later fade on the same coefficient from step `n` (R279): it starts from the value in force in the step before. -/
def Fade.turn (f : Fade) (n len : Nat) (target : Int) : Fade :=
  { u0 := f.at' (n - 1), u1 := target, start := n, len := len }

/-- Steps in `ms` milliseconds at the internal rate (R240, R279). -/
def fadeSteps (rate48 : Bool) (ms : Nat) : Nat := ms * (if rate48 then 48 else 96)

/-- The overlay fade of 1 ms (R279). -/
def overlayFade (rate48 : Bool) : Nat := fadeSteps rate48 1

/-! ### The symbol code -/

/-- Powers of alpha (R247). -/
def alphaPow : List Nat := [0x1, 0x2, 0x4, 0x8, 0x3, 0x6, 0xC, 0xB, 0x5, 0xA, 0x7, 0xE, 0xF, 0xD, 0x9]

/-- The exponent of a non-zero symbol. -/
def alphaLog (x : Nat) : Nat := (alphaPow.findIdx? (fun y => y == x)).getD 0

/-- The product of two symbols (R247). -/
def gfMul (x y : Nat) : Nat := if x = 0 ∨ y = 0 then 0 else atD alphaPow ((alphaLog x + alphaLog y) % 15) 0

/-- Symbol `i` of a physical word (R246). -/
def symbolOf (w i : Nat) : Nat := w / 16 ^ i % 16

/-- One step of the division by g(x) = x^3 + 0x7 x^2 + 0xE x + 0x8: the remainder (s2, s1, s0) after one more symbol. -/
def rsStep (r : Nat × Nat × Nat) (d : Nat) : Nat × Nat × Nat :=
  let f := d ^^^ r.1
  (r.2.1 ^^^ gfMul f 0x7, r.2.2 ^^^ gfMul f 0xE, gfMul f 0x8)

/-- The physical word of a data word (R246, R247). -/
def rsEncode (data : Nat) : Nat :=
  let r := [8, 7, 6, 5, 4, 3, 2, 1, 0].foldl (fun r i => rsStep r (symbolOf data i)) (0, 0, 0)
  data % 2 ^ 36 * 4096 + r.1 * 256 + r.2.1 * 16 + r.2.2

/-- Syndrome j: c(alpha^j) (R248). -/
def syndrome (w j : Nat) : Nat :=
  (List.range 12).foldl (fun acc i => acc ^^^ gfMul (symbolOf w i) (atD alphaPow (i * j % 15) 0)) 0

/-- What a read of a physical word finds (R248). -/
inductive ReadResult where
  | clean
  | corrected (word : Nat)
  | uncorrectable
  deriving DecidableEq, Repr

/-- The decision of R248. -/
def rsDecode (w : Nat) : ReadResult :=
  let s0 := syndrome w 0
  let s1 := syndrome w 1
  let s2 := syndrome w 2
  if s0 = 0 ∧ s1 = 0 ∧ s2 = 0 then .clean
  else if s0 ≠ 0 ∧ s1 ≠ 0 ∧ s2 ≠ 0 ∧ gfMul s1 s1 = gfMul s0 s2 then
    let i := (alphaLog s1 + 15 - alphaLog s0) % 15
    if i ≤ 11 then .corrected (w ^^^ (s0 * 16 ^ i)) else .uncorrectable
  else .uncorrectable

/-! ### The step digest -/

/-- The generator polynomial of the digest (R64). -/
def crcPoly : BitVec 64 := 0x42F0E1EBA9EA3693#64

/-- Feed the low `n` bits of a number, most significant first (R64). -/
def crcFeed : Nat → Nat → BitVec 64 → BitVec 64
  | 0, _, c => c
  | n + 1, v, c =>
    let shifted := c <<< (1 : Nat)
    crcFeed n v (if c.getMsbD 0 != v.testBit n then shifted ^^^ crcPoly else shifted)

/-- The digest of a list of 36-bit words in step `n`, each fed as 40 bits (R64). -/
def digestWords (c : BitVec 64) (ws : List (BitVec 36)) : BitVec 64 :=
  ws.foldl (fun acc w => crcFeed 40 w.toNat acc) c

end Sys2Proof.Machine
end

