-- ==== Sys2Proof/Machine/RigVerify.lean ====
section
/-! DEFINITION. Verification of a rig image: the counts of R252 and R269, the dependency graph, the rules of R270 in
ascending order, and the latency report of R275. -/
namespace Sys2Proof.Machine

/-- What the verifier checks an image against. -/
structure VerifyCtx where
  variant : Variant
  rate48 : Bool
  profileHash : List Byte
  clusterMap : Nat
  /-- Whether the trailer equals the SHA-384 of the image (log entry 3). -/
  hashOk : Bool
  /-- Input channels whose patch source is reported single-homed. -/
  singleHomed : List Nat
  /-- Zone outputs with their zone's ZONE_FLOOR. -/
  zoneOutputs : List (Nat × Nat)
  mics : List Nat
  alarmMinGain : Int
  deriving DecidableEq, Repr

/-- Slots per position (R252). -/
def slotsPerPosition (rate48 : Bool) : Nat := if rate48 then 18749 else 9374

/-- The result of a verification: the first rule that fails with its DETAIL, or the totals. -/
structure Verdict where
  rule : Nat
  detail : Nat
  slots : Nat
  words : Nat
  deriving DecidableEq, Repr

/-- The least of a list, if any: the site that comes first in the order of DETAIL (R268). -/
def leastOf : List Nat → Option Nat
  | [] => none
  | x :: xs => match leastOf xs with
    | none => some x
    | some y => some (min x y)

/-- Pass the values of the items that fail a check. -/
def failing {α : Type} (l : List α) (bad : α → Bool) (detail : α → Nat) : List Nat := (l.filter bad).map detail

/-- Whether a list strictly rises. -/
def strictRising : List Nat → Bool
  | [] => true
  | [_] => true
  | x :: y :: r => decide (x < y) && strictRising (y :: r)

/-- Whether a list never falls. -/
def nonFalling : List Nat → Bool
  | [] => true
  | [_] => true
  | x :: y :: r => decide (x ≤ y) && nonFalling (y :: r)

/-- A list with the position of each element. -/
def indexed {α : Type} (l : List α) : List (Nat × α) := (List.range l.length).zip l

/-- DETAIL of a position and operation (R268). -/
def opDetail (cluster position index : Nat) : Nat := cluster * 2 ^ 24 + position * 2 ^ 16 + index

/-- Every operation with its block and its index within the block. -/
def Rig.allOps (r : Rig) : List (Block × Nat × ROp) :=
  (r.blocks.map (fun b => (indexed b.ops).map (fun o => (b, o.1, o.2)))).flatten

/-! ### Section checks: rules 0x0101 to 0x0107 -/

def requiredTypes : List Nat := [1, 2, 3, 5, 6, 7]

/-- Two byte ranges that share a byte. -/
def overlap (a n b m : Nat) : Bool := decide (0 < n) && decide (0 < m) && decide (a < b + m) && decide (b < a + n)

/-- Rule 0x0103: the directory. -/
def rule0103 (b : List Byte) (d : List DirEntry) : Option Nat :=
  let n := fld b 18 1
  if n < 6 || decide (n > 10) then some 0xFFFF
  else
    let dirEnd := 128 + 16 * n
    let bad (i : Nat) (e : DirEntry) : Bool :=
      e.typ = 0 || decide (e.typ > 10) || ((d.take i).any (fun x => x.typ == e.typ)) || decide (e.offset % 8 ≠ 0) ||
      decide (e.offset < dirEnd) || decide (e.offset + e.length > b.length - 48) ||
      ((indexed d).any (fun x => x.1 != i && overlap e.offset e.length x.2.offset x.2.length))
    match (indexed d).find? (fun x => bad x.1 x.2) with
    | some x => some x.1
    | none =>
      match requiredTypes.find? (fun t => !(d.any (fun e => e.typ == t))) with
      | some t => some (0x10000 + t)
      | none => none

/-- The item size of a section type other than PROGRAM (R258). -/
def itemSize : Nat → Nat
  | 2 => 12
  | 3 => 4
  | 4 => 12
  | 5 => 4
  | 6 => 8
  | 7 => 32
  | 8 => 16
  | 9 => 8
  | 10 => 16
  | _ => 0

/-- Rule 0x0104 for one section type (R258, R261). -/
def badSection (r : Rig) (c : VerifyCtx) (e : DirEntry) : Bool :=
  match e.typ with
  | 1 =>
    r.blocks.length != e.count || (r.blocks.foldl (fun a k => a + 8 + 4 * k.len) 0) != e.length ||
    !nonFalling (r.blocks.map (fun k => 256 * k.cluster + k.position)) ||
    r.blocks.any (fun k => decide (k.ops.length > slotsPerPosition c.rate48))
  | 2 =>
    e.length != 12 * e.count || decide (e.count > Config.audioChannels c.variant) ||
    !strictRising (r.inputs.map (·.channel)) ||
    r.inputs.any (fun i => decide (i.count > 512) || decide (i.first + i.count > r.deliveries.length))
  | 3 => e.length != 4 * e.count
  | 4 =>
    e.length != 12 * e.count || decide (e.count > (if c.rate48 then 16384 else 8192)) ||
    r.delays.map (·.line) != List.range r.delays.length ||
    r.delays.any (fun i => i.count = 0 || decide (i.first + i.count > r.deliveries.length))
  | 5 =>
    e.length != 4 * e.count || decide (e.count > Config.audioChannels c.variant) ||
    !strictRising (r.outputs.map (·.channel))
  | 6 =>
    e.length != 8 * e.count || decide (e.count > Config.storeWords c.variant) ||
    r.params.any (fun p => decide (p.range ≥ r.ranges.length))
  | 7 => e.length != 32 * e.count || decide (e.count > 65536)
  | 8 =>
    e.length != 16 * e.count || decide (e.count > 262144) ||
    !strictRising (r.scenes.map (fun s => s.scene * 2 ^ 32 + s.param)) || r.scenes.any (fun s => decide (s.scene > 1023))
  | 9 => e.length != 8 * e.count || decide (e.count > 65536) || !strictRising (r.loops.map (·.node))
  | 10 => e.length != 16 * e.count || decide (e.count > 65536)
  | _ => false

/-- Rule 0x0104: the lowest section type at fault. -/
def rule0104 (d : List DirEntry) (r : Rig) (c : VerifyCtx) : Option Nat :=
  leastOf (failing d (badSection r c) (·.typ))

/-- Reserved bits of a destination word (R260). Reserved KIND values are rule 0x0301's. -/
def destReserved (w : Nat) : Bool :=
  bitsOf w 27 21 != 0 ||
  (match destKind w with
   | 0 => bitsOf w 20 12 != 0
   | 1 => bitsOf w 20 16 != 0
   | 3 => bitsOf w 20 16 != 0 || bitsOf w 13 12 != 0
   | 4 => bitsOf w 20 11 != 0
   | _ => false)

/-- Reserved bits of an operation word (R260). -/
def opReserved (o : ROp) : Bool :=
  bitsOf o.word 27 24 != 0 ||
  (match o.op with
   | 0 => bitsOf o.word 23 0 != 0
   | 3 => bitsOf o.word 23 4 != 0
   | _ => false)

/-- Offsets of reserved fields that are not zero, of one program block. -/
def blockReserved (k : Block) : List Nat :=
  (if k.reserved != 0 then [k.at' + 2] else []) ++
  (k.ops.map (fun o =>
    (if opReserved o then [o.at'] else []) ++
    (indexed o.dests).filterMap (fun x => if destReserved x.2 then some (o.at' + 4 + 4 * x.1) else none))).flatten

/-- Offsets in a section of fixed items. -/
def itemReserved {α : Type} (d : List DirEntry) (typ : Nat) (l : List α) (f : α → List Nat) : List Nat :=
  match dirOf d typ with
  | none => []
  | some e => ((indexed l).map (fun x => (f x.2).map (fun o => e.offset + itemSize typ * x.1 + o))).flatten

/-- An offset where a condition holds. -/
def offIf (b : Bool) (o : Nat) : List Nat := if b then [o] else []

/-- Rule 0x0105: the byte offset of the first reserved field or bit that is not zero. -/
def rule0105 (b : List Byte) (d : List DirEntry) (r : Rig) : Option Nat :=
  leastOf (
    offIf (decide (r.alarmRegions > 15)) 19 ++ offIf (fld b 44 4 != 0) 44 ++ offIf (unbe (fldBytes b 96 32) != 0) 96 ++
    ((indexed d).map (fun x => offIf (x.2.reserved != 0) (128 + 16 * x.1 + 2))).flatten ++
    (r.blocks.map blockReserved).flatten ++
    itemReserved d 2 r.inputs (fun i => offIf (decide (i.cls > 1)) 2) ++
    itemReserved d 3 r.deliveries (fun i => offIf (decide (i.raw ≥ 4096)) 2) ++
    itemReserved d 5 r.outputs (fun i => offIf (decide (i.flags > 1)) 3) ++
    itemReserved d 6 r.params (fun i =>
      offIf (bitsOf i.location 31 29 != 0 || bitsOf i.location 23 20 != 0 || bitsOf i.location 15 12 != 0) 0 ++
      offIf (i.reserved != 0) 6) ++
    itemReserved d 7 r.ranges (fun i =>
      offIf (decide (i.flags > 7)) 1 ++ offIf (i.reserved != 0) 2 ++ offIf (decide (i.min ≥ 2 ^ 36)) 8 ++
      offIf (decide (i.max ≥ 2 ^ 36)) 16 ++ offIf (decide (i.dflt ≥ 2 ^ 36)) 24) ++
    itemReserved d 8 r.scenes (fun i => offIf (i.reserved != 0) 2 ++ offIf (decide (i.value ≥ 2 ^ 36)) 8) ++
    itemReserved d 9 r.loops (fun i =>
      offIf (decide (bitsOf i.node 31 30 > 1) || (bitsOf i.node 31 30 = 0 && (bitsOf i.node 29 25 != 0 ||
        bitsOf i.node 15 12 != 0)) || (bitsOf i.node 31 30 = 1 && bitsOf i.node 29 14 != 0)) 0) ++
    itemReserved d 10 r.recursives (fun i => offIf (i.reserved != 0) 6))

/-! ### Counts (R252, R269) -/

/-- Every delivery write the rig makes: input patch and delay line deliveries. -/
def Rig.usedDeliveries (r : Rig) : List Delivery :=
  (r.inputs.map (fun i => (r.deliveries.drop i.first).take i.count)).flatten ++
  (r.delays.map (fun i => (r.deliveries.drop i.first).take i.count)).flatten

/-- The bank words an operation writes by STORE, with the kind of each destination. -/
def storeKeys (b : Block) (o : ROp) : List (Nat × Nat) :=
  if o.op = 3 then o.dests.filterMap (fun w => (destKey b.cluster b.position w).map (fun k => (destKind w, k))) else []

/-- Slots a position spends in a step (R252): each MUL, MAC and STORE, each NOP, and each write made into its bank by
another position, the input patch, the exchange or a delay line. -/
def Rig.slotsAt (r : Rig) (cluster position : Nat) : Nat :=
  (r.blocks.foldl (fun a b => if b.cluster = cluster ∧ b.position = position then a + b.ops.length else a) 0) +
  ((r.usedDeliveries.filter (fun d => d.cluster == cluster && d.position == position)).length) +
  ((r.allOps.map (fun x => (storeKeys x.1 x.2.2).filter (fun k =>
      k.1 != 0 && keyCluster k.2 == cluster && keyPosition k.2 == position &&
      !(k.1 == 1 && x.1.cluster == cluster && x.1.position == position)))).flatten.length)

/-- Every bank word the rig uses: operands, destinations, deliveries and parameter locations (R269). -/
def Rig.usedWords (r : Rig) : List Nat :=
  ((r.allOps.map (fun x =>
      (if x.2.2.op = 1 ∨ x.2.2.op = 2 then
        [wordKey x.1.cluster x.1.position x.2.2.a, wordKey x.1.cluster x.1.position x.2.2.c] else []) ++
      (storeKeys x.1 x.2.2).map (·.2))).flatten ++ r.usedDeliveries.map (·.key) ++ r.params.map (·.key)).eraseDups

/-- The positions that hold anything. -/
def Rig.positions (r : Rig) : List (Nat × Nat) :=
  ((r.blocks.map (fun b => (b.cluster, b.position))) ++
   (r.usedWords.map (fun k => (keyCluster k, keyPosition k)))).eraseDups

/-- Total slots. -/
def Rig.slots (r : Rig) : Nat := r.positions.foldl (fun a p => a + r.slotsAt p.1 p.2) 0

/-- Words of one bank. -/
def Rig.wordsAt (r : Rig) (p : Nat × Nat) : Nat :=
  (r.usedWords.filter (fun k => keyCluster k == p.1 && keyPosition k == p.2)).length

/-- Total bank words. -/
def Rig.wordsUsed (r : Rig) : Nat := r.usedWords.length

/-- The parameter whose word a key is, if any. -/
def Rig.paramAt (r : Rig) (k : Nat) : Option Nat := r.params.findIdx? (fun p => p.key == k)

/-- Mix points: each MUL or MAC whose coefficient is a parameter with GAIN (R269). -/
def Rig.mixPoints (r : Rig) : Nat :=
  (r.allOps.filter (fun x => (x.2.2.op == 1 || x.2.2.op == 2) &&
    (match r.paramAt (wordKey x.1.cluster x.1.position x.2.2.c) with
     | some id => match r.rangeOf id with
       | some g => g.gain
       | none => false
     | none => false))).length

/-- Delay words. -/
def Rig.delayWords (r : Rig) : Nat := r.delays.foldl (fun a d => a + d.length) 0

/-- Rule 0x0107: the first claim that differs. -/
def rule0107 (r : Rig) : Option Nat :=
  leastOf (offIf (r.slotsClaimed != r.slots) 1 ++ offIf (r.wordsClaimed != r.wordsUsed) 2 ++
    offIf (r.mixClaimed != r.mixPoints) 3 ++ offIf (r.delayClaimed != r.delayWords) 4 ++
    offIf (r.paramCount != r.params.length) 5)

/-! ### The dependency graph (R269) -/

/-- Nodes: bank words and delay lines in the NODE form of R259; output channels above them. -/
def lineNode (l : Nat) : Nat := 2 ^ 30 + l
def outNode (ch : Nat) : Nat := 2 ^ 31 + ch
def inNode (ch : Nat) : Nat := 2 ^ 31 + 2 ^ 30 + ch

/-- One edge: its ends, its weight in units of 2^-32, the cycle at which its source word is read, the cycle at which
its destination is written, whether the destination word is in the same cluster, its crossing and delay cost, the
parameter that is its coefficient, and the position that computes it. -/
structure Edge where
  src : Nat
  dst : Nat
  weight : Nat
  readAt : Nat
  writeAt : Nat
  sameCluster : Bool
  cost : Nat
  param : Option Nat
  cluster : Nat
  position : Nat
  deriving DecidableEq, Repr

/-- The operations before index `k` of a block back to and including the last MUL (R269). -/
def termsOf (ops : List ROp) (k : Nat) : List (Nat × ROp) :=
  let before := (indexed ops).take k
  let fromMul := (before.reverse.findIdx? (fun x => x.2.op == 1))
  match fromMul with
  | some i => (before.drop (before.length - 1 - i)).filter (fun x => x.2.op == 1 || x.2.op == 2)
  | none => []

/-- The node a destination word stores to. -/
def destNode (b : Block) (w : Nat) : Nat :=
  match destKey b.cluster b.position w with
  | some k => k
  | none => if destKind w = 3 then lineNode (destLine w) else outNode (destChannel w)

/-- The edges of one STORE. -/
def storeEdges (r : Rig) (b : Block) (k : Nat) (o : ROp) : List Edge :=
  ((termsOf b.ops k).map (fun t =>
    let ck := wordKey b.cluster b.position t.2.c
    let par := r.paramAt ck
    let w := match par with
      | some id => match r.rangeOf id with
        | some g => if g.format = 0 then g.magnitude else 2 ^ 35
        | none => 2 ^ 35
      | none => 2 ^ 35
    o.dests.map (fun d =>
      { src := wordKey b.cluster b.position t.2.a, dst := destNode b d, weight := w, readAt := t.1, writeAt := k,
        sameCluster := decide (destKind d ≤ 1), cost := if destKind d = 2 then 1 else 0, param := par,
        cluster := b.cluster, position := b.position : Edge }))).flatten

/-- Edges from delay lines and input channels to their delivered words: weight 1.0 (R269). -/
def deliveryEdges (r : Rig) : List Edge :=
  let mk (src cost : Nat) (d : Delivery) : Edge :=
    { src := src, dst := d.key, weight := 2 ^ 32, readAt := 0, writeAt := 0, sameCluster := false, cost := cost,
      param := none, cluster := d.cluster, position := d.position }
  (r.delays.map (fun i => ((r.deliveries.drop i.first).take i.count).map (mk (lineNode i.line) i.length))).flatten ++
  (r.inputs.map (fun i => ((r.deliveries.drop i.first).take i.count).map (mk (inNode i.channel) 0))).flatten

/-- The edges of the graph; an edge whose weight is zero is absent (R269). -/
def Rig.edges (r : Rig) : List Edge :=
  ((((r.allOps.filter (fun x => x.2.2.op == 3)).map (fun x => storeEdges r x.1 x.2.1 x.2.2)).flatten) ++
    deliveryEdges r).filter (fun e => e.weight != 0)

/-- Grow a set of nodes by one edge in the forward direction, `fuel` times. -/
def reachFwd (es : List Edge) : Nat → List Nat → List Nat
  | 0, seen => seen
  | n + 1, seen =>
    let next := ((es.filter (fun e => seen.contains e.src && !seen.contains e.dst)).map (·.dst)).eraseDups
    if next.isEmpty then seen else reachFwd es n (seen ++ next)

/-- The nodes reached from a node, itself among them. -/
def reach (es : List Edge) (n : Nat) : List Nat := reachFwd es (es.length + 1) [n]

/-- Whether an input channel reaches an output channel. -/
def reaches (es : List Edge) (input output : Nat) : Bool := (reach es (inNode input)).contains (outNode output)

/-- The strongly connected component of a node, where it has two or more nodes or an edge to itself (R272). -/
def component (es : List Edge) (n : Nat) : List Nat :=
  let c := (reach es n).filter (fun m => (reach es m).contains n)
  if c.length > 1 || es.any (fun e => e.src == n && e.dst == n) then c else []

/-- Every bank word and delay line that lies in a cycle, lowest first, with its component. -/
def cycles (es : List Edge) : List (List Nat) :=
  let nodes := (es.map (·.src)).eraseDups
  ((nodes.map (component es)).filter (fun c => !c.isEmpty)).map (fun c => c.mergeSort (fun a b => decide (a ≤ b)))
    |>.eraseDups

/-! ### Rules 0x0201 to 0x0309 -/

/-- Rule 0x0204: clusters, regions and channels absent in the variant (R11). -/
def rule0204 (r : Rig) (v : Variant) : Option Nat :=
  let cl := ((List.range 32).filter (fun c => bit r.clusterUse c)) ++ r.blocks.map (·.cluster) ++
    r.usedWords.map keyCluster
  let badC := cl.filter (fun c => decide (c ≥ Config.clusters v) && decide (c < 32))
  let rg := (r.outputs.map (·.region)) ++ (List.range 4).filter (fun i => bit r.alarmRegions i)
  let badR := (rg.filter (fun i => decide (i ≥ Config.mixRegions v) && decide (i < 4))).map (· + 0x100)
  let ch := (r.inputs.map (·.channel)) ++ r.outputs.map (·.channel)
  let badCh := (ch.filter (fun i => decide (i ≥ Config.audioChannels v) && decide (i < 2048))).map (· + 0x10000)
  leastOf (badC ++ badR ++ badCh)

/-- Whether an operation comes before the block's first MUL (R270, 0x0301). -/
def beforeMul (b : Block) (k : Nat) : Bool := !((b.ops.take k).any (fun o => o.op == 1))

/-- Rule 0x0301. -/
def rule0301 (r : Rig) : Option Nat :=
  leastOf (failing r.allOps (fun x =>
    let o := x.2.2
    decide (o.op > 3) || (o.op == 3 && (o.destCount == 0 || decide (o.destCount > 8) || o.overrun)) ||
    o.dests.any (fun w => decide (destKind w > 4)) ||
    ((o.op == 2 || o.op == 3) && beforeMul x.1 x.2.1)) (fun x => opDetail x.1.cluster x.1.position x.2.1))

/-- Rule 0x0302. -/
def rule0302 (r : Rig) : Option Nat :=
  leastOf (failing (indexed r.blocks) (fun x =>
    let b := x.2
    decide (b.cluster > 31) || decide (b.position > 15) || !bit r.clusterUse b.cluster ||
    (r.blocks.take x.1).any (fun y => y.cluster == b.cluster && y.position == b.position))
    (fun x => opDetail x.2.cluster x.2.position 0))

/-- Rule 0x0303. -/
def rule0303 (r : Rig) : Option Nat :=
  let isPar (k : Nat) : Bool := (r.paramAt k).isSome
  let badC (k : Nat) : Bool := match r.paramAt k with
    | some id => match r.rangeOf id with
      | some g => g.format != 0
      | none => true
    | none => true
  match leastOf (failing r.allOps (fun x =>
      let b := x.1
      let o := x.2.2
      ((o.op == 1 || o.op == 2) &&
        (badC (wordKey b.cluster b.position o.c) || isPar (wordKey b.cluster b.position o.a))) ||
      (storeKeys b o).any (fun k => isPar k.2)) (fun x => opDetail x.1.cluster x.1.position x.2.1)) with
  | some d => some d
  | none =>
    (indexed r.params).find? (fun p => !(r.blocks.any (fun b =>
      b.cluster == keyCluster p.2.key && b.position == keyPosition p.2.key))) |>.map (·.1)

/-- The same-step writers of bank words: STOREs into their own cluster, with the cycle of the operation. -/
def Rig.storeWrites (r : Rig) : List (Nat × Nat × Nat) :=
  (r.allOps.map (fun x => ((storeKeys x.1 x.2.2).filter (fun k => k.1 != 2)).map (fun k =>
    (k.2, x.2.1, opDetail x.1.cluster x.1.position x.2.1)))).flatten

/-- Writers at the start of the step: deliveries and exchange arrivals. -/
def Rig.startWrites (r : Rig) : List Nat :=
  r.usedDeliveries.map (·.key) ++
  (r.allOps.map (fun x => ((storeKeys x.1 x.2.2).filter (fun k => k.1 == 2)).map (·.2))).flatten

/-- Rule 0x0304: reads in the write window, two writers of one word, two STOREs of one line. Operation k of a block
runs in cycle k; deliveries are written before cycle 0 (log entry 10). -/
def rule0304 (r : Rig) : Option Nat :=
  let w := r.storeWrites
  let reads := (r.allOps.filter (fun x => x.2.2.op == 1 || x.2.2.op == 2)).map (fun x =>
    (x.2.1, opDetail x.1.cluster x.1.position x.2.1,
      [wordKey x.1.cluster x.1.position x.2.2.a, wordKey x.1.cluster x.1.position x.2.2.c]))
  let badReads := failing reads (fun x => w.any (fun y =>
    x.2.2.contains y.1 && decide (y.2.1 ≤ x.1) && decide (x.1 < y.2.1 + 4))) (fun x => x.2.1)
  let later (y : Nat × Nat × Nat) : Bool :=
    r.startWrites.contains y.1 ||
    w.any (fun z => z.1 == y.1 && z.2.2 != y.2.2 &&
      (decide (z.2.1 < y.2.1) || (z.2.1 == y.2.1 && decide (z.2.2 < y.2.2))))
  let twice := r.startWrites.filter (fun k => decide ((r.startWrites.filter (· == k)).length > 1))
  let lines := (r.allOps.map (fun x => x.2.2.dests.filterMap (fun d =>
    if destKind d = 3 then some (destLine d, opDetail x.1.cluster x.1.position x.2.1) else none))).flatten
  let badLines := (indexed lines).filterMap (fun x =>
    if (lines.take x.1).any (fun y => y.1 == x.2.1 && y.2 != x.2.2) then some x.2.2 else none)
  leastOf (badReads ++ failing w later (·.2.2) ++ twice.map (fun k => opDetail (keyCluster k) (keyPosition k) 0) ++
    badLines)

/-- Rule 0x0305. -/
def rule0305 (r : Rig) : Option Nat :=
  leastOf (failing (r.allOps.filter (fun x => x.2.2.op == 3)) (fun x =>
    let ds := x.2.2.dests
    decide ((ds.filter (fun w => destKind w == 3)).length > 1) ||
    decide ((ds.filter (fun w => destKind w == 4)).length > 1) ||
    ds.any (fun w => (destKind w == 2 && destCluster w == x.1.cluster) ||
      (destKind w == 3 && decide (destLine w ≥ r.delays.length)) ||
      (destKind w == 4 && !(r.outputs.any (fun o => o.channel == destChannel w)))))
    (fun x => opDetail x.1.cluster x.1.position x.2.1))

/-- The STOREs that write an output channel: the cluster of each. -/
def Rig.outWriters (r : Rig) (ch : Nat) : List Nat :=
  (r.allOps.map (fun x => (x.2.2.dests.filter (fun w => destKind w == 4 && destChannel w == ch)).map
    (fun _ => x.1.cluster))).flatten

/-- Rule 0x0306. -/
def rule0306 (r : Rig) : Option Nat :=
  leastOf (failing r.outputs (fun o =>
    let ws := r.outWriters o.channel
    decide (ws.length > 1) || ws.isEmpty == bit o.flags 0 || ws.any (fun c => c / 8 != o.region)) (·.channel))

/-- Rule 0x0307. Every 36-bit value lies in its format. -/
def rule0307 (r : Rig) : Option Nat :=
  leastOf (failing (indexed r.ranges) (fun x =>
    let g := x.2
    decide (g.format > 1) || decide (val36 g.min > val36 g.max) || !g.admits g.dflt || (g.ramps && g.format != 0))
    (·.1))

/-- Rule 0x0308. -/
def rule0308 (r : Rig) : Option Nat :=
  leastOf (failing (indexed r.scenes) (fun x =>
    match r.rangeOf x.2.param with
    | some g => !g.admits x.2.value
    | none => true) (fun x => x.2.scene * 2 ^ 22 + x.1))

/-- Rule 0x0309. -/
def rule0309 (r : Rig) : Option Nat :=
  let written := (r.allOps.map (fun x => x.2.2.dests.filterMap (fun d =>
    if destKind d = 3 then some (destLine d) else none))).flatten
  leastOf (failing r.delays (fun d => d.length == 0 || !(written.contains d.line)) (·.line))

/-! ### Rules 0x0401 to 0x0605 -/

/-- Exchange words a cluster sends and receives. -/
def Rig.exchange (r : Rig) (c : Nat) (sent : Bool) : Nat :=
  (r.allOps.map (fun x => (storeKeys x.1 x.2.2).filter (fun k =>
    k.1 == 2 && (if sent then x.1.cluster == c else keyCluster k.2 == c)))).flatten.length

/-- Carried words: parameters, and words read in a step before they are written in it (R269). -/
def Rig.isCarried (r : Rig) (k : Nat) : Bool :=
  (r.paramAt k).isSome ||
  (let ws := (r.storeWrites.filter (fun y => y.1 == k)).map (fun y => y.2.1)
   !(r.startWrites.contains k) &&
   r.allOps.any (fun x => (x.2.2.op == 1 || x.2.2.op == 2) && wordKey x.1.cluster x.1.position x.2.2.a == k &&
     ws.all (fun w => decide (x.2.1 < w))))

/-- Carried writes per step (R269). -/
def Rig.carriedWrites (r : Rig) : Nat :=
  (r.allOps.map (fun x => if x.2.2.op = 3 then x.2.2.dests.filter (fun w => match destKey x.1.cluster x.1.position w with
    | some k => r.isCarried k
    | none => destKind w == 3) else [])).flatten.length

/-- The capacity rules 0x0401 to 0x0408, in order. -/
def rules04 (r : Rig) (c : VerifyCtx) : List (Nat × Option Nat) :=
  [ (0x0401, leastOf ((List.range 32).filter (fun i => bit r.clusterUse i && !bit c.clusterMap i))),
    (0x0402, leastOf (failing r.positions (fun p => decide (r.slotsAt p.1 p.2 > slotsPerPosition c.rate48))
      (fun p => opDetail p.1 p.2 0))),
    (0x0403, leastOf (failing r.positions (fun p => decide (r.wordsAt p > 4096)) (fun p => opDetail p.1 p.2 0))),
    (0x0404, leastOf ((List.range 32).filter (fun i => decide (r.exchange i true > 1024)))),
    (0x0405, leastOf ((List.range 32).filter (fun i => decide (r.exchange i false > 1024)))),
    (0x0406, if r.delayWords > Config.delayWords then some r.delayWords else none),
    (0x0407, if r.mixPoints > Config.mixPoints c.variant then some r.mixPoints else none),
    (0x0408, if r.carriedWrites > (if c.rate48 then 49152 else 24576) then some r.carriedWrites else none) ]

/-- The component that a RECURSIVE item names: exactly Y1 and Y2 (R273). -/
def RecursiveItem.nodes (i : RecursiveItem) : List Nat :=
  [wordKey i.cluster i.position i.y1, wordKey i.cluster i.position i.y2].mergeSort (fun a b => decide (a ≤ b))

/-- The four corners of R273 for ranges of P and Q. -/
def stableCorners (gp gq : RigRange) : Bool :=
  let one : Int := 2 ^ 32
  let eps : Int := 2 ^ 16
  [val36 gp.min, val36 gp.max].all (fun p => [val36 gq.min, val36 gq.max].all (fun q =>
    decide ((q.natAbs : Int) ≤ one - eps) && decide ((p.natAbs : Int) ≤ one - q - eps)))

/-- Whether a component's edges are those of a RECURSIVE item: Y1 to Y1 through P, Y2 to Y1 through Q, Y1 to Y2 with
weight 1.0 (R273). -/
def RecursiveItem.matches (i : RecursiveItem) (es : List Edge) : Bool :=
  let y1 := wordKey i.cluster i.position i.y1
  let y2 := wordKey i.cluster i.position i.y2
  let inside := es.filter (fun e => (e.src == y1 || e.src == y2) && (e.dst == y1 || e.dst == y2))
  decide (inside.length = 3) &&
  inside.any (fun e => e.src == y1 && e.dst == y1 && e.param == some i.p) &&
  inside.any (fun e => e.src == y2 && e.dst == y1 && e.param == some i.q) &&
  inside.any (fun e => e.src == y1 && e.dst == y2 && e.weight == 2 ^ 32)

/-- Whether every node of a component has a positive weight in LOOP. -/
def fullyWeighted (r : Rig) (c : List Nat) : Bool := c.all (fun n => r.loops.any (fun l => l.node == n && l.weight != 0))

/-- The weight of a node in LOOP. -/
def loopWeight (r : Rig) (n : Nat) : Nat := match r.loops.find? (fun l => l.node == n) with
  | some l => l.weight
  | none => 0

/-- The certificate of R272 at one node. -/
def certificateAt (r : Rig) (es : List Edge) (c : List Nat) (i : Nat) : Bool :=
  decide (50 * ((es.filter (fun e => e.dst == i && c.contains e.src)).foldl
      (fun a e => a + e.weight * loopWeight r e.src) 0) ≤ 49 * 2 ^ 32 * loopWeight r i)

/-- The feedback rules 0x0501 to 0x0503 (R272, R273). -/
def rules05 (r : Rig) (es : List Edge) : List (Nat × Option Nat) :=
  let cs := cycles es
  let open' := cs.filter (fun c => !(r.recursives.any (fun i => i.nodes == c && i.matches es)))
  [ (0x0501, leastOf ((open'.filter (fun c => !fullyWeighted r c)).map (fun c => c.headD 0))),
    (0x0502, leastOf ((open'.map (fun c => c.filter (fun i => !certificateAt r es c i))).flatten)),
    (0x0503, leastOf (failing (indexed r.recursives) (fun x =>
      !(cs.contains x.2.nodes) || !x.2.matches es ||
      (match r.rangeOf x.2.p, r.rangeOf x.2.q with
       | some gp, some gq => !stableCorners gp gq
       | _, _ => true)) (·.1))) ]

/-- The edges that lie on a path from an input to an output. -/
def pathEdges (es : List Edge) (input output : Nat) : List Edge :=
  let fwd := reach es (inNode input)
  es.filter (fun e => fwd.contains e.src && (reach es e.dst).contains (outNode output))

/-- The alarm rules 0x0601 to 0x0605 (R269, R270). -/
def rules06 (r : Rig) (c : VerifyCtx) (es : List Edge) : List (Nat × Option Nat) :=
  let zoneCh := c.zoneOutputs.map (·.1)
  let alarmIn := (r.inputs.filter (fun i => i.cls == 1)).map (·.channel)
  let alarmPairs := (alarmIn.map (fun i => (zoneCh.filter (fun o => reaches es i o)).map (fun o => (i, o)))).flatten
  [ (0x0601, leastOf (zoneCh.filter (fun o => match r.outputs.find? (fun x => x.channel == o) with
      | some x => !bit r.alarmRegions x.region
      | none => true))),
    (0x0602, leastOf (failing r.inputs (fun i => (i.cls == 1) != c.mics.contains i.channel) (·.channel))),
    (0x0603, leastOf (((r.inputs.filter (fun i => i.cls == 0)).map (fun i =>
      (c.zoneOutputs.filter (fun z => reaches es i.channel z.1 && decide (i.priority ≤ z.2))).map
        (fun z => i.channel * 2 ^ 16 + z.1))).flatten)),
    (0x0604, leastOf ((alarmPairs.filter (fun p => (pathEdges es p.1 p.2).any (fun e =>
      !bit r.alarmRegions (e.cluster / 8)))).map (fun p => p.1 * 2 ^ 16 + p.2))),
    (0x0605, leastOf ((alarmPairs.map (fun p => (pathEdges es p.1 p.2).filterMap (fun e => match e.param with
      | some id => match r.rangeOf id with
        | some g =>
          let low := if decide (val36 g.min ≤ 0) && decide (0 ≤ val36 g.max) then 0
            else Nat.min (val36 g.min).natAbs (val36 g.max).natAbs
          if !g.alarmPath || decide ((low : Int) < c.alarmMinGain) then some id else none
        | none => none
      | none => none))).flatten)) ]

/-- The first rule of a list that fails. -/
def firstRule : List (Nat × Option Nat) → Option (Nat × Nat)
  | [] => none
  | (rule, some d) :: _ => some (rule, d)
  | (_, none) :: rest => firstRule rest

/-- Verify an image (R268, R270): the first rule that fails, in ascending order. -/
def verifyImage (b : List Byte) (c : VerifyCtx) : Verdict :=
  let fail (p : Nat × Nat) (slots words : Nat) : Verdict := { rule := p.1, detail := p.2, slots := slots, words := words }
  if b.length < 176 || fld b 0 4 != 0x52494731 || fld b 4 2 != 1 || fld b 6 2 != 128 || fld b 8 4 != b.length ||
      decide (b.length > Config.rigSlotBytes) then fail (0x0101, b.length) 0 0
  else if !c.hashOk then fail (0x0102, 0) 0 0
  else
    let d := directory b
    let r := readRig b
    match firstRule [(0x0103, rule0103 b d), (0x0104, rule0104 d r c), (0x0105, rule0105 b d r),
        (0x0106, if r.rigId = 0 then some 0 else none), (0x0107, rule0107 r),
        (0x0201, if r.variant ≠ Config.variantCode c.variant then some (Config.variantCode c.variant) else none),
        (0x0202, if r.rate ≠ b01 c.rate48 then some (b01 c.rate48) else none),
        (0x0203, if r.profileHash ≠ fit 48 c.profileHash then some 0 else none), (0x0204, rule0204 r c.variant)] with
    | some p => fail p 0 0
    | none =>
      let es := r.edges
      let single := (r.inputs.filter (fun i => c.singleHomed.contains i.channel &&
        r.outputs.any (fun o => reaches es i.channel o.channel))).map (·.channel)
      match firstRule [(0x0205, leastOf single), (0x0301, rule0301 r), (0x0302, rule0302 r), (0x0303, rule0303 r),
          (0x0304, rule0304 r), (0x0305, rule0305 r), (0x0306, rule0306 r), (0x0307, rule0307 r),
          (0x0308, rule0308 r), (0x0309, rule0309 r)] with
      | some p => fail p 0 0
      | none =>
        match firstRule (rules04 r c ++ rules05 r es ++ rules06 r c es) with
        | some p => fail p r.slots r.wordsUsed
        | none => fail (0, 0) r.slots r.wordsUsed

/-! ### The latency report (R275) -/

/-- The cost of passing from one edge to the next: a same-cluster word read before its write, or within the window of
R242, adds one step. -/
def turnCost (e f : Edge) : Nat := if e.sameCluster && decide (f.readAt < e.writeAt + 4) then 1 else 0

/-- Relax the least cost at which each edge is left, once over every pair of edges. -/
def relaxOnce (es : List (Nat × Edge)) (cost : List (Option Nat)) : List (Option Nat) :=
  es.map (fun f =>
    let own := (cost[f.1]?).join
    (es.filter (fun e => e.2.dst == f.2.src)).foldl (fun best e =>
      match (cost[e.1]?).join with
      | none => best
      | some c =>
        let v := c + turnCost e.2 f.2 + f.2.cost
        match best with
        | none => some v
        | some w => some (min w v)) own)

/-- Relax `fuel` times. -/
def relax (es : List (Nat × Edge)) : Nat → List (Option Nat) → List (Option Nat)
  | 0, cost => cost
  | n + 1, cost => relax es n (relaxOnce es cost)

/-- The least cost, without fence and fixed stage, from an input to every output channel it reaches. -/
def latenciesFrom (es : List (Nat × Edge)) (input : Nat) (outs : List Nat) : List (Nat × Nat × Nat) :=
  let start := es.map (fun e => if e.2.src = inNode input then some e.2.cost else none)
  let cost := relax es es.length start
  outs.filterMap (fun o =>
    let vals := (es.filter (fun e => e.2.dst == outNode o)).filterMap (fun e => (cost[e.1]?).join)
    (leastOf vals).map (fun v => (input, o, v)))

/-- The latency report: input, output and the least E + D of the pair, in ascending order of input, then output
(R200, R275). -/
def Rig.latencies (r : Rig) : List (Nat × Nat × Nat) :=
  let es := indexed r.edges
  (r.inputs.map (fun i => latenciesFrom es i.channel (r.outputs.map (·.channel)))).flatten

end Sys2Proof.Machine
end

