-- ==== Sys2Proof/Machine/MixRun.lean ====
section
/-! DEFINITION. One step of a running rig: deliveries, parameter and ramp writes, the programs, the exchange and the
delay lines (R234 to R236, R239 to R245, R274). Operation k of a block executes in cycle k, and every write of the
step's start is made before cycle 0 (log entry 10). -/
namespace Sys2Proof.Machine

/-- A word scaled by a fade, rounded and saturated (R236, R279). -/
def scaled (v coef : Int) : Int := if coef = unity then v else storeRound (accSat (v * coef))

/-- Write a bank word; a zero word is not listed. -/
def wput (t : Assoc (BitVec 36)) (k : Nat) (v : BitVec 36) : Assoc (BitVec 36) :=
  if v = 0 then t.drop k else t.put k v

/-- Read a bank word. -/
def wget (t : Assoc (BitVec 36)) (k : Nat) : BitVec 36 := t.getD k 0

/-- What the programs of a step have done so far. -/
structure Exec where
  words : Assoc (BitVec 36)
  accs : Assoc Int
  exch : Assoc (BitVec 36)
  lines : Assoc (BitVec 36)
  outs : Assoc (BitVec 36)
  /-- Positions, as cluster times 16 plus position, whose accumulator or STORE saturated, once per occurrence. -/
  accSats : List Nat
  storeSats : List Nat
  deriving DecidableEq, Repr

/-- Write a STORE's word to one destination (R234, R244, R245). -/
def Exec.deliver (e : Exec) (b : Block) (d : Nat) (w : BitVec 36) : Exec :=
  let k := destKind d
  if k = 0 then { e with words := wput e.words (wordKey b.cluster b.position (destTarget d)) w }
  else if k = 1 then { e with words := wput e.words (wordKey b.cluster (destPosition d) (destTarget d)) w }
  else if k = 2 then { e with exch := e.exch.put (wordKey (destCluster d) (destPosition d) (destTarget d)) w }
  else if k = 3 then { e with lines := e.lines.put (destLine d) w }
  else { e with outs := e.outs.put (destChannel d) w }

/-- Execute one operation of a block (R234 to R236). `bad` names words whose read is uncorrectable: they read as zero
(R250). -/
def Exec.op (e : Exec) (bad : List Nat) (b : Block) (o : ROp) : Exec :=
  let pos := b.cluster * 16 + b.position
  let read (w : Nat) : Int :=
    let k := wordKey b.cluster b.position w
    if bad.contains k then 0 else wordVal (wget e.words k)
  let acc := e.accs.getD pos 0
  match o.op with
  | 1 => { e with accs := e.accs.put pos (read o.a * read o.c) }
  | 2 =>
    let sum := acc + read o.a * read o.c
    { e with accs := e.accs.put pos (accSat sum)
             accSats := if accSat sum = sum then e.accSats else e.accSats ++ [pos] }
  | 3 =>
    let e1 : Exec := { e with storeSats := if storeSaturates acc then e.storeSats ++ [pos] else e.storeSats }
    o.dests.foldl (fun x d => x.deliver b d (wordOf (storeRound acc))) e1
  | _ => e

/-- A block of a shed region runs nothing: what it would send to the exchange or a delay line is zero (R274). -/
def Exec.silent (e : Exec) (b : Block) : Exec :=
  b.ops.foldl (fun x o =>
    if o.op = 3 then o.dests.foldl (fun y d => if destKind d = 2 ∨ destKind d = 3 then y.deliver b d 0 else y) x
    else x) e

/-- Whether a block's region is shed. -/
def Block.isShed (b : Block) (shed : Nat) : Bool := bit shed (b.cluster / 8)

/-- Run the programs of one step, cycle by cycle (R234, R242). -/
def runPrograms (blocks : List Block) (shed : Nat) (bad : List Nat) (words : Assoc (BitVec 36)) : Exec :=
  let e0 : Exec := { words := words, accs := [], exch := [], lines := [], outs := [], accSats := [], storeSats := [] }
  let live := blocks.filter (fun b => !b.isShed shed)
  let e1 := (blocks.filter (fun b => b.isShed shed)).foldl (fun e b => e.silent b) e0
  let last := live.foldl (fun n b => Nat.max n b.ops.length) 0
  (List.range last).foldl (fun e k => live.foldl (fun x b => match b.ops[k]? with
    | some o => x.op bad b o
    | none => x) e) e1

/-- The bank words of a delivery list item. -/
def Rig.deliveryKeys (r : Rig) (first count : Nat) : List Nat :=
  ((r.deliveries.drop first).take count).map (fun d => d.key)

/-- Write the current value of every ramp into its bank word, and drop the entries whose last step has passed
(R240, R241). -/
def RigRun.ramped (r : RigRun) (n : Nat) : RigRun :=
  { r with words := r.ramps.foldl (fun t p => wput t p.key (wordOf (p.fade.at' n))) r.words
           ramps := r.ramps.filter (fun p => p.fade.running n) }

/-- The words delivered at the start of a step (R242 to R245): inputs, exchange arrivals, delay lines. -/
def RigRun.delivered (r : RigRun) (inp : Assoc (BitVec 36)) : Assoc (BitVec 36) :=
  let t1 := r.rig.inputs.foldl (fun t i =>
    (r.rig.deliveryKeys i.first i.count).foldl (fun t' k => wput t' k (inp.getD i.channel 0)) t) r.words
  let t2 := r.exch.foldl (fun t x => wput t x.1 x.2) t1
  r.rig.delays.foldl (fun t d =>
    let w := match r.lines.find d.line with
      | some (x :: _) => x
      | _ => 0
    (r.rig.deliveryKeys d.first d.count).foldl (fun t' k => wput t' k w) t) t2

/-- One step of a running rig, and what its programs did. Before its first step only its ramps move (R286). -/
def RigRun.stepRun (r0 : RigRun) (n shed : Nat) (bad : List Nat) (inp : Assoc (BitVec 36)) : RigRun × Exec :=
  let r := r0.ramped n
  if n < r.from' then
    (r, { words := r.words, accs := [], exch := [], lines := [], outs := [], accSats := [], storeSats := [] })
  else
    let e := runPrograms r.rig.blocks shed bad (r.delivered inp)
    ({ r with words := e.words
              exch := e.exch
              lines := r.rig.delays.foldl (fun t d =>
                t.put d.line ((t.getD d.line []).drop 1 ++ [e.lines.getD d.line 0])) r.lines }, e)

/-- A rig ready to run from a step: every word zero but its parameters' starting values, every line zero (R267,
R281). -/
def RigRun.fresh (rig : Rig) (n : Nat) : RigRun :=
  { rig := rig
    words := (List.range rig.params.length).foldl (fun t i => match rig.params[i]? with
      | some p => wput t p.key (BitVec.ofNat 36 (rig.startValue i))
      | none => t) []
    exch := []
    lines := rig.delays.foldl (fun t d => t.put d.line (List.replicate d.length 0)) []
    ramps := []
    from' := n
    place := []
    pool := [] }

/-- The value of a parameter now (R202). -/
def RigRun.paramValue (r : RigRun) (id : Nat) : Nat :=
  match r.rig.params[id]? with
  | some p => (wget r.words p.key).toNat
  | none => 0

end Sys2Proof.Machine
end

