-- ==== Sys2Proof/Machine/TackPlan.lean ====
section
/-! DEFINITION. The division of positions for a tack, its fit, its warm-up and its timeline (R280 to R286), and the
load of parameter writes and ramps (R241). -/
namespace Sys2Proof.Machine

/-- A position: cluster and position. -/
abbrev Pos := Nat × Nat

/-- The position whose bank a key lies in. -/
def posOf (k : Nat) : Pos := (keyCluster k, keyPosition k)

/-- The program block of a position. -/
def Rig.blockAt (r : Rig) (p : Pos) : Option Block := r.blocks.find? (fun b => b.cluster == p.1 && b.position == p.2)

/-- The words of a block: every operation word with its destination words. -/
def Block.content (b : Block) : List (Nat × List Nat) := b.ops.map (fun o => (o.word, o.dests))

/-- The same members, in any order. -/
def sameSet {α : Type} [BEq α] (a b : List α) : Bool := a.all b.contains && b.all a.contains

/-- Input channels delivered into a bank, with the words they are delivered to. -/
def Rig.inputsInto (r : Rig) (p : Pos) : List (Nat × Nat) :=
  (r.inputs.map (fun i => ((r.deliveryKeys i.first i.count).filter (fun k => posOf k == p)).map
    (fun k => (i.channel, k)))).flatten

/-- The STOREs that write a delay line: position and operation index. -/
def Rig.lineWriters (r : Rig) (line : Nat) : List (Pos × Nat) :=
  (r.allOps.filter (fun x => x.2.2.op == 3 && x.2.2.dests.any (fun d => destKind d == 3 && destLine d == line))).map
    (fun x => ((x.1.cluster, x.1.position), x.2.1))

/-- Delay lines delivered into a bank: LENGTH, writing word and delivered word (R280). -/
def Rig.linesInto (r : Rig) (p : Pos) : List (Nat × List (Pos × Nat) × Nat) :=
  (r.delays.map (fun d => ((r.deliveryKeys d.first d.count).filter (fun k => posOf k == p)).map
    (fun k => (d.length, r.lineWriters d.line, k)))).flatten

/-- Parameter words of a bank with the content of their RANGE items. -/
def Rig.paramsInto (r : Rig) (p : Pos) : List (Nat × Option RigRange) :=
  (r.params.filter (fun x => posOf x.key == p)).map (fun x => (x.key, r.ranges[x.range]?))

/-- Positions that write a word into another position's bank by STORE, exchange or delay line. -/
def Rig.writersInto (r : Rig) (p : Pos) : List Pos :=
  ((r.allOps.filter (fun x => (storeKeys x.1 x.2.2).any (fun k => posOf k.2 == p))).map
    (fun x => (x.1.cluster, x.1.position)) ++
   ((r.delays.filter (fun d => (r.deliveryKeys d.first d.count).any (fun k => posOf k == p))).map
    (fun d => (r.lineWriters d.line).map (·.1))).flatten).filter (fun q => q != p)

/-- Steps 1 and 2 of R280: whether a position is a candidate. -/
def candidate (o i : Rig) (p : Pos) : Bool :=
  (match o.blockAt p, i.blockAt p with
   | some a, some b => a.content == b.content
   | _, _ => false) &&
  sameSet (o.inputsInto p) (i.inputsInto p) && sameSet (o.linesInto p) (i.linesInto p) &&
  sameSet (o.paramsInto p) (i.paramsInto p)

/-- Steps 3 and 4 of R280: strike candidates fed by a position that is not one, until none is left to strike. -/
def strike (o i : Rig) : Nat → List Pos → List Pos
  | 0, c => c
  | n + 1, c =>
    let c' := c.filter (fun p => (o.writersInto p ++ i.writersInto p).all c.contains)
    if c'.length = c.length then c else strike o i n c'

/-- The shared positions of two rigs (R280). -/
def sharedPositions (o i : Rig) : List Pos :=
  let c := (i.blocks.map (fun b => (b.cluster, b.position))).eraseDups.filter (candidate o i)
  strike o i c.length c

/-- The position and region that write an output channel. -/
def Rig.outputOf (r : Rig) (ch : Nat) : Option (Pos × Nat) :=
  ((r.allOps.find? (fun x => x.2.2.op == 3 && x.2.2.dests.any (fun d => destKind d == 4 && destChannel d == ch))).map
    (fun x => ((x.1.cluster, x.1.position), match r.outputs.find? (fun y => y.channel == ch) with
      | some y => y.region
      | none => 0)))

/-- Output channels a rig writes. -/
def Rig.writtenOutputs (r : Rig) : List Nat := (r.outputs.filter (fun x => bit x.flags 0)).map (·.channel)

/-- The affected output channels of a tack (R280). -/
def affectedOutputs (o i : Rig) (shared : List Pos) (crossfade : Bool) : List Nat :=
  ((o.writtenOutputs ++ i.writtenOutputs).eraseDups).filter (fun ch =>
    crossfade ||
    match o.outputOf ch, i.outputOf ch with
    | some a, some b => !shared.contains a.1 || !shared.contains b.1 || a.2 != b.2
    | _, _ => true)

/-! ### Warm-up and duration (R283) -/

/-- The largest sum of E and D over the simple paths that end with an edge, walking back. -/
def longestBack (es : List Edge) : Nat → Edge → List Nat → Nat
  | 0, f, _ => f.cost
  | n + 1, f, visited =>
    f.cost + (es.filter (fun e => e.dst == f.src && !visited.contains e.src)).foldl
      (fun best e => Nat.max best (turnCost e f + longestBack es n e (e.src :: visited))) 0

/-- The warm-up W of the incoming rig over the affected outputs (R283). -/
def warmUp (i : Rig) (affected : List Nat) : Nat :=
  let es := i.edges
  ((es.filter (fun e => affected.any (fun ch => e.dst == outNode ch)))).foldl
    (fun best e => Nat.max best (longestBack es es.length e [e.dst, e.src])) 0

/-- DURATION of a tack (R267, R283). -/
def TackPlan.duration (p : TackPlan) : Nat :=
  if p.fadeIn then p.fade else if p.kind = 3 then 2 * p.fade + p.warm else p.warm + p.fade

/-- The step at which the outgoing rig's changed positions stop (R283). -/
def TackPlan.outgoingStops (p : TackPlan) : Nat :=
  if p.kind = 3 then p.step + p.fade else p.step + p.warm + p.fade

/-- The step from which the incoming rig's changed positions run (R283). -/
def TackPlan.incomingStarts (p : TackPlan) : Nat := if p.kind = 3 && !p.fadeIn then p.step + p.fade else p.step

/-- The coefficient of the outgoing rig word on an affected output (R283). -/
def TackPlan.bOut (p : TackPlan) : Fade :=
  { u0 := unity, u1 := 0, start := if p.kind = 3 then p.step else p.step + p.warm, len := p.fade }

/-- The coefficient of the incoming rig word on an affected output (R267, R283). -/
def TackPlan.bIn (p : TackPlan) : Fade :=
  { u0 := 0, u1 := unity,
    start := if p.fadeIn then p.step else if p.kind = 3 then p.step + p.fade + p.warm else p.step + p.warm,
    len := p.fade }

/-! ### Fit (R282) -/

/-- Mix points of the positions that a test picks. -/
def Rig.mixPointsOf (r : Rig) (f : Pos → Bool) : Nat :=
  (r.allOps.filter (fun x => f (x.1.cluster, x.1.position) && (x.2.2.op == 1 || x.2.2.op == 2) &&
    (match r.paramAt (wordKey x.1.cluster x.1.position x.2.2.c) with
     | some id => match r.rangeOf id with
       | some g => g.gain
       | none => false
     | none => false))).length

/-- Carried writes of an outgoing rig beside an incoming one: those of its changed positions, and those that shared ones make in a
changed position, the second writes of R281. -/
def Rig.carriedWritesBeside (r : Rig) (shared : List Pos) : Nat :=
  (r.allOps.map (fun x => if x.2.2.op = 3 then
    let own := !shared.contains (x.1.cluster, x.1.position)
    x.2.2.dests.filter (fun w => match destKey x.1.cluster x.1.position w with
      | some k => r.isCarried k && (own || !shared.contains (posOf k))
      | none => own && destKind w == 3) else [])).flatten.length

/-- Exchange words between shared positions, sent by or received in a cluster: they cross once. -/
def Rig.sharedExchange (r : Rig) (shared : List Pos) (c : Nat) (sent : Bool) : Nat :=
  (r.allOps.map (fun x => if shared.contains (x.1.cluster, x.1.position) then
    (storeKeys x.1 x.2.2).filter (fun k => k.1 == 2 && shared.contains (posOf k.2) &&
      (if sent then x.1.cluster == c else keyCluster k.2 == c)) else [])).flatten.length

/-- Delay lines whose writer is shared: shared themselves (R280). -/
def Rig.sharedLines (r : Rig) (shared : List Pos) : List DelayItem :=
  r.delays.filter (fun d => (r.lineWriters d.line).any (fun w => shared.contains w.1))

/-- Whether the load of a tack is within every limit of R282. `o` is absent where the outgoing rig does not count: a
HARD tack, or an EMPTY active slot. `ramps` says whether order 9 holds. -/
def tackFits (o : Option Rig) (i : Rig) (shared : List Pos) (clusterMap : Nat) (rate48 : Bool) (v : Variant)
    (ramps : Bool) : Bool :=
  let both (f : Rig → Nat) : Nat := f i + (match o with
    | some x => f x
    | none => 0)
  let once (n : Nat) : Nat := match o with
    | some _ => n
    | none => 0
  let used := i.clusterUse ||| (match o with
    | some x => x.clusterUse
    | none => 0)
  let places := (i.positions ++ (match o with
    | some x => x.positions
    | none => [])).eraseDups
  (List.range 32).all (fun c => !bit used c || bit clusterMap c) &&
  places.all (fun p => decide ((if shared.contains p then i.slotsAt p.1 p.2 else both (fun r => r.slotsAt p.1 p.2))
    ≤ slotsPerPosition rate48)) &&
  places.all (fun p => decide ((if shared.contains p then i.wordsAt p else both (fun r => r.wordsAt p)) ≤ 4096)) &&
  (List.range 32).all (fun c => decide (both (fun r => r.exchange c true) - once (i.sharedExchange shared c true)
    ≤ 1024)) &&
  (List.range 32).all (fun c => decide (both (fun r => r.exchange c false) - once (i.sharedExchange shared c false)
    ≤ 1024)) &&
  decide (both (fun r => r.delayWords) - once ((i.sharedLines shared).foldl (fun a d => a + d.length) 0)
    ≤ Config.delayWords) &&
  decide (both (fun r => r.delays.length) - once (i.sharedLines shared).length ≤ (if rate48 then 16384 else 8192)) &&
  decide (i.mixPoints + (match o with
    | some x => x.mixPointsOf (fun p => !shared.contains p)
    | none => 0) ≤ Config.mixPoints v) &&
  ramps &&
  decide (i.carriedWrites + (match o with
    | some x => x.carriedWritesBeside shared
    | none => 0) ≤ (if rate48 then 49152 else 24576))

/-! ### Maps (R281) -/

/-- Place the words of a rig: each bank's, in ascending order, at the lowest physical words that are not held. -/
def placeWords (words : List Nat) (held : Assoc Nat) : Assoc Nat :=
  (words.map posOf).eraseDups.flatMap (fun p =>
    let taken := (held.filter (fun x => posOf x.1 == p)).map (fun x => x.2)
    ((words.filter (fun k => posOf k == p)).mergeSort (fun a b => decide (a ≤ b))).zip
      ((List.range 4096).filter (fun w => !taken.contains w)))

/-- The free words of the delay pool from a word on, beside spans in ascending order. -/
def freeSpans : Nat → List (Nat × Nat) → List (Nat × Nat)
  | n, [] => if n < Config.delayWords then [(n, Config.delayWords - n)] else []
  | n, x :: r => (if n < x.1 then [(n, x.1 - n)] else []) ++ freeSpans (x.1 + x.2) r

/-- Take the lowest words of some spans: those taken, and what is left. -/
def takeSpans : List (Nat × Nat) → Nat → List (Nat × Nat) × List (Nat × Nat)
  | [], _ => ([], [])
  | x :: r, n =>
    if n = 0 then ([], x :: r)
    else if n < x.2 then ([(x.1, n)], (x.1 + n, x.2 - n) :: r)
    else (x :: (takeSpans r (n - x.2)).1, (takeSpans r (n - x.2)).2)

/-- Place delay lines, in ascending order, at the lowest words of the pool that are not held. -/
def placeLines (lines : List DelayItem) (held : Assoc (List (Nat × Nat))) : Assoc (List (Nat × Nat)) :=
  let taken := (held.map (fun x => x.2)).flatten.mergeSort (fun a b => decide (a.1 ≤ b.1))
  (lines.foldl (fun acc d => (acc.1 ++ [(d.line, (takeSpans acc.2 d.length).1)], (takeSpans acc.2 d.length).2))
    (([] : Assoc (List (Nat × Nat))), freeSpans 0 taken)).1

/-- The maps of a planned tack: shared words and lines stay where they are, and the others take the lowest that are free, beside
those of the outgoing rig that stay live (R281). Under HARD its changed positions have stopped before the incoming ones start. -/
def TackPlan.withMaps (p : TackPlan) (i : Rig) (place : Assoc Nat) (pool : Assoc (List (Nat × Nat))) : TackPlan :=
  let mine (k : Nat) : Bool := p.shared.contains (posOf k)
  let lines := i.sharedLines p.shared
  let keptWords := place.filter (fun x => mine x.1)
  let keptLines := pool.filter (fun x => lines.any (fun d => d.line == x.1))
  { p with
    place := keptWords ++ placeWords (i.usedWords.filter (fun k => !mine k)) (if p.kind = 3 then keptWords else place)
    pool := keptLines ++ placeLines (i.delays.filter (fun d => !lines.contains d)) (if p.kind = 3 then keptLines else pool) }

/-- Choose and plan a tack (R267, R280 to R285): the first kind that fits, or `none`. `want` is KIND of the command; the maps
are made by TackPlan.withMaps. -/
def planTack (o : Option Rig) (i : Rig) (want step fade clusterMap : Nat) (rate48 : Bool) (v : Variant) (ramps : Bool)
    (seat hostSeq : Nat) : Option TackPlan :=
  match o with
  | none =>
    if tackFits none i [] clusterMap rate48 v ramps then
      some { kind := 3, fadeIn := true, step := step, warm := 0, fade := fade, shared := [],
             affected := i.writtenOutputs, place := [], pool := [], seat := seat, hostSeq := hostSeq }
    else none
  | some old =>
    let sh := sharedPositions old i
    let mk (kind : Nat) (shared : List Pos) : TackPlan :=
      let aff := affectedOutputs old i shared (kind = 1)
      { kind := kind, fadeIn := false, step := step, warm := warmUp i aff, fade := fade, shared := shared,
        affected := aff, place := [], pool := [], seat := seat, hostSeq := hostSeq }
    let fits (kind : Nat) : Bool :=
      if kind = 1 then tackFits (some old) i [] clusterMap rate48 v ramps
      else if kind = 2 then tackFits (some old) i sh clusterMap rate48 v ramps
      else tackFits none i [] clusterMap rate48 v ramps
    let kinds := if want = 0 then [1, 2, 3] else [want]
    (kinds.find? fits).map (fun k => mk k (if k = 1 then [] else sh))

/-! ### Carrying words across (R281, R286) -/

/-- Take over what the outgoing run holds of the shared positions: their words, their lines, exchange words on the way
to them, and their ramps under the incoming PARAM_IDs (R281, R286). -/
def RigRun.adopt (inc out : RigRun) (shared : List Pos) (withRamps : Bool) : RigRun :=
  let mine (k : Nat) : Bool := shared.contains (posOf k)
  { inc with
    words := (out.words.filter (fun x => mine x.1)).foldl (fun t x => wput t x.1 x.2)
      (inc.words.filter (fun x => !mine x.1))
    exch := out.exch.filter (fun x => mine x.1)
    lines := (inc.rig.sharedLines shared).foldl (fun t d => match out.lines.find d.line with
      | some q => if q.length = d.length then t.put d.line q else t
      | none => t) inc.lines
    ramps := if withRamps then
        (out.ramps.filter (fun p => mine p.key)).filterMap (fun p =>
          (inc.rig.paramAt p.key).map (fun id => { p with param := id }))
      else inc.ramps }

/-- Start a tack on a datapath at its step T (R281, R283, R286). -/
def Datapath.startTack (d : Datapath) (p : TackPlan) (rig : Rig) : Datapath :=
  let inc : RigRun := { RigRun.fresh rig p.incomingStarts with place := p.place, pool := p.pool }
  match d.active with
  | none => { d with active := some inc, outgoing := none }
  | some out => { d with active := some (inc.adopt out p.shared true), outgoing := some out }

/-- At the step at which the outgoing rig stops under a HARD tack, the incoming one takes over its shared words
(R283). -/
def Datapath.hardSwap (d : Datapath) (p : TackPlan) : Datapath :=
  match d.active, d.outgoing with
  | some inc, some out => { d with active := some (inc.adopt out p.shared false), outgoing := none }
  | _, _ => d

/-! ### The load of ramps and writes (R241) -/

/-- One parameter write to come: its bank word, its first and last step, and whether it ramps. -/
structure WriteLoad where
  key : Nat
  start : Nat
  last : Nat
  ramps : Bool
  deriving DecidableEq, Repr

/-- Cut each entry short where another on the same word begins later, and leave out one that another accepted after it displaces at
its own step (R171, R288); entries are in order of acceptance. -/
def trimAgainst (all : List WriteLoad) : List WriteLoad → List WriteLoad
  | [] => []
  | w :: rest =>
    if rest.any (fun x => x.key == w.key && x.start == w.start) then trimAgainst all rest
    else
      let later := all.filter (fun x => x.key == w.key && decide (w.start < x.start))
      { w with last := later.foldl (fun n x => Nat.min n (x.start - 1)) w.last } :: trimAgainst all rest

/-- The entries as they meet (R288). -/
def trimLoads (ws : List WriteLoad) : List WriteLoad := trimAgainst ws ws

/-- Whether both limits of R241 hold at a step. -/
def loadsOkAt (ws : List WriteLoad) (n : Nat) : Bool :=
  let live := ws.filter (fun w => decide (w.start ≤ n) && decide (n ≤ (if w.ramps then w.last else w.start)))
  (live.map (fun w => posOf w.key)).eraseDups.all (fun p =>
    decide ((live.filter (fun w => posOf w.key == p)).length ≤ 256)) &&
  (List.range 32).all (fun c =>
    decide ((live.filter (fun w => w.ramps && keyCluster w.key == c)).length ≤ 2048))

/-- Whether both limits hold from `first` to `last`: the load rises only where an entry starts (R241). -/
def loadsOk (ws : List WriteLoad) (first last : Nat) : Bool :=
  let t := trimLoads ws
  ((first :: (t.map (·.start)).filter (fun n => decide (first ≤ n) && decide (n ≤ last))).eraseDups).all (loadsOkAt t)

end Sys2Proof.Machine
end

