-- ==== Sys2Proof/Machine/Overlay.lean ====
section
/-! DEFINITION. The chain after the rig, on one mast's datapath: activations and zone winners, ducks, the overlay pass,
the limiter and the side-tone (R278, R291 to R300), and route fades (R289, R290). -/
namespace Sys2Proof.Machine

/-! ### What the profile gives -/

/-- Output channels of a zone (R294, R570). -/
def Profile.outputsOf (p : Profile) (z : ZoneItem) : List Nat := (p.zoneOutputs.drop z.outFirst).take z.outCount

/-- The zone that an output channel belongs to, at most one (R294). -/
def Profile.zoneOf (p : Profile) (ch : Nat) : Option ZoneItem := p.zones.find? (fun z => (p.outputsOf z).contains ch)

/-- Zone outputs, each with its zone's floor. -/
def Profile.zoneFloors (p : Profile) : List (Nat × Nat) :=
  (p.zones.map (fun z => (p.outputsOf z).map (fun ch => (ch, z.floor)))).flatten

/-- Designated live fire microphones: the input channels of PATCH items with LIVE_FIRE_MIC (R570). -/
def Profile.mics (p : Profile) : List Nat := (p.patch.filter (fun x => bit x.flags 0)).map (·.channel)

/-- CEILING of an output channel (R292, R635). -/
def ceilingOf (p : Option Profile) (ch : Nat) : Int :=
  match p with
  | some x => match x.outChannels.find? (fun y => y.channel == ch) with
    | some y => y.ceiling
    | none => 0x0FFFFFEF
  | none => 0x0FFFFFEF

/-- RELEASE_MS of an output channel (R292, R635). -/
def releaseOf (p : Option Profile) (ch : Nat) : Nat :=
  match p with
  | some x => match x.outChannels.find? (fun y => y.channel == ch) with
    | some y => y.releaseMs
    | none => 100
  | none => 100

/-- MUTE_IN_ALARM channels (R294). -/
def muteInAlarm (p : Option Profile) : List Nat :=
  match p with
  | some x => (x.outChannels.filter (fun y => y.muteInAlarm)).map (·.channel)
  | none => []

/-! ### Activations and winners (R295, R296) -/

/-- The zones of an activation list, and those active. -/
def Datapath.activeZones (d : Datapath) : List Nat := (d.acts.map (fun a => a.zones)).flatten.eraseDups

/-- Whether an activation goes before another as winner: PRIORITY, then trigger code, then input index (R296). -/
def Activation.before (a b : Activation) : Bool :=
  decide (a.priority < b.priority) ||
  (a.priority == b.priority && (decide (a.trigger < b.trigger) ||
    (a.trigger == b.trigger && decide (a.input < b.input))))

/-- The winner of a zone (R296). -/
def Datapath.winner (d : Datapath) (z : Nat) : Option Activation :=
  (d.acts.filter (fun a => a.zones.contains z)).foldl (fun best a => match best with
    | none => some a
    | some b => if a.before b then some a else some b) none

/-- Two activations hold the same place on a zone (R295). -/
def Activation.samePlace (a b : Activation) : Bool :=
  a.priority == b.priority && a.trigger == b.trigger && (a.trigger == 2 || a.input == b.input)

/-- Start an activation: it replaces the holder of its place on each of its zones; an activation left without a zone
ends (R295). -/
def Datapath.activate (d : Datapath) (a : Activation) : Datapath :=
  let kept := (d.acts.map (fun x => if x.samePlace a then
    { x with zones := x.zones.filter (fun z => !a.zones.contains z) } else x)).filter (fun x => !x.zones.isEmpty)
  { d with acts := kept ++ [a] }

/-- Release, on the zones named, the activations that a test picks (R295). -/
def Datapath.release (d : Datapath) (pick : Activation → Bool) (zones : List Nat) : Datapath :=
  { d with acts := (d.acts.map (fun x => if pick x then
      { x with zones := x.zones.filter (fun z => !zones.contains z) } else x)).filter (fun x => !x.zones.isEmpty) }

/-- End every activation that a test picks (R295). -/
def Datapath.endActs (d : Datapath) (pick : Activation → Bool) : Datapath :=
  { d with acts := d.acts.filter (fun x => !pick x) }

/-- The rig rank of an output channel: the smallest PRIORITY among the inputs that reach it in the active rig, or 8
(R296). -/
def Datapath.rigRank (d : Datapath) (ch : Nat) : Nat :=
  match d.active with
  | none => 8
  | some r =>
    let es := r.rig.edges
    (r.rig.inputs.filter (fun i => reaches es i.channel ch)).foldl (fun n i => Nat.min n i.priority) 8

/-- The duck coefficient of a channel in step `n` (R296). -/
def Datapath.duckAt (d : Datapath) (ch n : Nat) : Int :=
  match d.ducks.find ch with
  | some f => f.at' n
  | none => unity

/-- Move a channel's duck towards its target, where the target changes (R296). -/
def Datapath.setDuck (d : Datapath) (ch n len : Nat) (target : Int) : Datapath :=
  let cur := match d.ducks.find ch with
    | some f => f
    | none => .const unity
  if cur.u1 = target then d else { d with ducks := d.ducks.put ch (cur.turn n len target) }

/-- One zone's change: its number, and the new winner's fields or `none` when it clears (R227, R296). -/
abbrev ZoneChange := Nat × Option (Nat × Nat × Nat × AlarmSource)

/-- What a winner shows: priority, trigger, input and source. -/
def Activation.shown (a : Activation) : Nat × Nat × Nat × AlarmSource := (a.priority, a.trigger, a.input, a.source)

/-- Follow the winner of one zone at step `n`: on a change the old source turns down and the new one rises; a source
that was still fading out is dropped (R296, R297). -/
def Datapath.followZone (d : Datapath) (p : Profile) (z : ZoneItem) (n len : Nat) : Datapath × List ZoneChange :=
  let w := d.winner z.zone
  let m := d.zones.getD z.zone ZoneMix.reset
  let now := w.map Activation.shown
  let d1 := (p.outputsOf z).foldl (fun acc ch =>
    let down := match w with
      | some a => decide (a.priority < acc.rigRank ch)
      | none => false
    acc.setDuck ch n len (if down then 0 else unity)) d
  if now = m.last then (d1, [])
  else
    let m1 : ZoneMix :=
      { outSrc := m.inSrc, outFade := m.inFade.turn n len 0, inSrc := w.map (fun a => a.source),
        inFade := match w with
          | some _ => { u0 := 0, u1 := unity, start := n, len := len }
          | none => .const 0,
        last := now }
    ({ d1 with zones := d1.zones.put z.zone m1 }, [(z.zone, now)])

/-- Whether a message still sounds: an activation uses it, or a zone's fade still carries it (R298). -/
def Datapath.sounds (d : Datapath) (n msg : Nat) : Bool :=
  d.acts.any (fun a => a.source.kind == 0 && a.source.index == msg) ||
  d.zones.any (fun z => match z.2.outSrc with
    | some x => x.kind == 0 && x.index == msg && z.2.outFade.running n
    | none => false)

/-- Play positions follow their activations (R298). -/
def Datapath.followPlays (d : Datapath) (n : Nat) : Datapath :=
  let used := (d.acts.filter (fun a => a.source.kind == 0)).map (fun a => a.source.index)
  let started := used.foldl (fun t i => match Assoc.find t i with
    | some _ => t
    | none => Assoc.put t i n) d.plays
  { d with plays := started.filter (fun x => d.sounds n x.1) }

/-- Bring the overlay up to date at step `n`: winners, ducks, MUTE_IN_ALARM and play positions (R294, R296 to R298). -/
def Datapath.follow (d : Datapath) (prof : Option Profile) (alarm : Bool) (n len : Nat) : Datapath × List ZoneChange :=
  let r := match prof with
    | none => (d, [])
    | some p => p.zones.foldl (fun acc z =>
        let x := acc.1.followZone p z n len
        (x.1, acc.2 ++ x.2)) (d, [])
  let d2 := (muteInAlarm prof).foldl (fun acc ch => acc.setDuck ch n len (if alarm then 0 else unity)) r.1
  (d2.followPlays n, r.2)

/-! ### Input words and route fades (R289, R290, R336) -/

/-- The source of an input channel. -/
def Datapath.sourceOf (d : Datapath) (ch : Nat) : PatchSrc := d.patch.getD ch { cls := 0, index := 0, channel := 0 }

/-- The word an input channel delivers in step `n`, its route fade included (R289). -/
def Datapath.inputWord (d : Datapath) (src : PatchSrc → Int) (n ch : Nat) : Int :=
  let new := src (d.sourceOf ch)
  match d.routes.find ch with
  | none => new
  | some f =>
    if n < f.start + f.len then
      let fold : Fade := { u0 := unity, u1 := 0, start := f.start, len := f.len }
      let fnew : Fade := { u0 := 0, u1 := unity, start := f.start, len := f.len }
      storeRound (accSat (src f.old * fold.at' n + new * fnew.at' n))
    else new

/-- Set a patch entry at step `n`: with a route fade where the channel is in use (R289); a running one is cut and its
new source becomes the old one (R290). The second part tells whether a fade was cut. -/
def Datapath.repatch (d : Datapath) (n len ch : Nat) (s : PatchSrc) (inUse : Bool) : Datapath × Bool :=
  let cut := match d.routes.find ch with
    | some f => decide (n < f.start + f.len)
    | none => false
  let old := d.sourceOf ch
  let patch := if s.cls = 0 then d.patch.drop ch else d.patch.put ch s
  if old = s then (d, false)
  else if inUse then
    ({ d with patch := patch, routes := d.routes.put ch { old := old, start := n, len := len } }, cut)
  else ({ d with patch := patch, routes := d.routes.drop ch }, false)

/-- Whether a channel is in use: the active rig makes it reach an output, an activation takes it, or an enabled
side-tone entry does (R289). -/
def Datapath.inputUsed (d : Datapath) (ch : Nat) : Bool :=
  (match d.active with
   | some r =>
     let es := r.rig.edges
     r.rig.outputs.any (fun o => reaches es ch o.channel)
   | none => false) ||
  d.acts.any (fun a => a.source.kind == 1 && a.source.index == ch) ||
  d.side.any (fun x => x.enabled && x.src == ch)

/-! ### The overlay pass (R297) -/

/-- The rig terms of an output channel in rig step `n`: word and coefficient, during a tack and outside one (R283,
R284). -/
def rigTerms (plan : Option TackPlan) (outW inW : Assoc (BitVec 36)) (outRuns : Bool) (n ch : Nat) :
    List (Int × Int) :=
  let wo := wordVal (wget outW ch)
  let wi := wordVal (wget inW ch)
  match plan with
  | none => [(wi, unity)]
  | some p =>
    if p.affected.contains ch then [(if outRuns then wo else 0, p.bOut.at' n), (wi, p.bIn.at' n)]
    else [(if outRuns then wo else wi, unity)]

/-- The alarm terms of a zone output (R297). -/
def zoneTerms (m : ZoneMix) (gain : Int) (alarm : AlarmSource → Int) (n : Nat) : List (Int × Int) :=
  let one (s : Option AlarmSource) (f : Fade) : List (Int × Int) := match s with
    | some x => [(alarm x, coefMul (f.at' n) gain)]
    | none => []
  (if m.outFade.running n then one m.outSrc m.outFade else []) ++ one m.inSrc m.inFade

/-- The overlay word of an output channel for rig step `n`: its terms accumulated in order and stored (R235, R236,
R297). -/
def Datapath.overlayWord (d : Datapath) (prof : Option Profile) (plan : Option TackPlan) (outW inW : Assoc (BitVec 36))
    (alarm : AlarmSource → Int) (n ch : Nat) : Int :=
  let duck := d.duckAt ch n
  let rig := (rigTerms plan outW inW d.outgoing.isSome n ch).map (fun t => (t.1, coefMul t.2 duck))
  let zone := match prof with
    | some p => match p.zoneOf ch with
      | some z => match d.zones.find z.zone with
        | some m => zoneTerms m z.gain alarm n
        | none => []
      | none => []
    | none => []
  storeRound ((rig ++ zone).foldl (fun acc t => accSat (acc + t.1 * t.2)) 0)

/-! ### The limiter and the side-tone (R291 to R293) -/

/-- r of one word against a ceiling (R291). -/
def limitRatio (c x : Int) : Nat :=
  if (x.natAbs : Int) ≤ c then 4294967296 else (c * 4294967296 / (x.natAbs : Int)).toNat

/-- Advance a limiter by one overlay word; the second part is the word that leaves in this step, and the third
whether its gain is below 1.0 (R291). -/
def Limiter.push (l : Limiter) (c : Int) (rel : Nat) (x : Int) : Limiter × Int × Bool :=
  let xs := (x :: l.xs).take 26
  let rs := (xs.drop 2).map (limitRatio c)
  let h := rs.foldl Nat.min 4294967296
  let hs := (h :: l.hs).take 24
  let a := hs.foldl (· + ·) 0 / 24
  let g := Nat.min a (l.g + rel)
  let leaving := atD xs 25 0
  ({ xs := xs, hs := hs, g := g }, storeRound (leaving * (g : Int)), decide (g < 4294967296))

/-- Clip a word to plus or minus a ceiling (R293). -/
def clipTo (c x : Int) : Int := Max.max (-c) (Min.min x c)

/-- Advance a side-tone entry by the word of its source in step `n`; the second part is what it adds to its
destination in this step: the product of 3 steps ago (R293). -/
def SideTone.push (t : SideTone) (n : Nat) (src duck : Int) : SideTone × Int :=
  let g := t.gain.at' n
  let product := storeRound (storeRound (src * g) * duck)
  ({ t with recent := (product :: t.recent).take 3 }, atD t.recent 2 0)

end Sys2Proof.Machine
end

