-- ==== Sys2Proof/Machine/ClockState.lean ====
section
/-! DEFINITION. Synthesis PLLs, clock domains, gates and stretched regions of one mast (chapter 13). -/
namespace Sys2Proof.Machine

/-- An output divider of a synthesis PLL (R444): its value, or the one divider of a lane region, whose value is free. -/
inductive Divider where
  | by' (n : Nat)
  | lane (r : Nat)
  deriving DecidableEq, Repr

/-- The value of an output divider. -/
def Divider.value (d : Divider) : Nat := match d with
  | .by' n => n
  | .lane r => Config.laneDivider r

/-- One synthesis PLL (R444 to R448). -/
structure Pll where
  locked : Bool
  /-- Time of the last loss; `grace` while it runs on its frozen word; `gated` with its outputs off. -/
  lostAt : Nat
  grace : Bool
  gated : Bool
  /-- PLL_LANE_r that did not relock in time: its lanes are unavailable until the next mast reset (R448). -/
  failed : Bool
  /-- Output dividers in force, and the set that the shadow registers hold (R446). -/
  dividers : List Divider
  shadow : List Divider
  /-- PLL_VID runs at the 1.001 rates (R444). -/
  slow : Bool
  deriving DecidableEq, Repr

/-- Output dividers of synthesis PLL p: PLL_SYS, PLL_AUD, PLL_VID, then one of each lane region (R444). -/
def pllDividers (p : Nat) : List Divider := match p with
  | 0 => [.by' 12, .by' 15, .by' 24]
  | 1 => [.by' 200]
  | 2 => [.by' 72]
  | _ => [.lane (p - 3)]

/-- A synthesis PLL after a mast reset. -/
def Pll.reset (p : Nat) : Pll :=
  { locked := true, lostAt := 0, grace := false, gated := false, failed := false, dividers := pllDividers p,
    shadow := pllDividers p, slow := false }

/-- VCO cycles between coincidence points, where the count of every output divider is zero: 120 of PLL_SYS, one output cycle of
another (R446). -/
def Pll.coincidence (x : Pll) : Nat := (x.dividers.map Divider.value).foldl Nat.lcm 1

/-- A new set of divider values enters the shadow registers (R446). -/
def Pll.load (x : Pll) (ds : List Divider) : Pll := { x with shadow := ds }

/-- A coincidence point: the shadow values take effect on every output at once (R446). -/
def Pll.coincide (x : Pll) : Pll := { x with dividers := x.shadow }

/-- A PLL that is powered up, or whose domain's frequency changes, takes its divider values at its next coincidence point, which
comes within `Pll.coincidence` VCO cycles and so within the command (R446). -/
def Pll.powerUp (p : Nat) (slow : Bool) (x : Pll) : Pll := { (x.load (pllDividers p)).coincide with slow := slow }

/-- The source of a clock domain (R450, R451): its primary source, its fallback, or none. -/
inductive ClockSrc where
  | primary
  | fallback
  | stopped
  deriving DecidableEq, Repr

/-- A forced closure that has timed out (R455): failed tries, and the time of the next one. -/
structure Closure where
  tries : Nat
  retryAt : Nat
  deriving DecidableEq, Repr

/-- One gated block (R24, R453, R455): a region 0 to 11, a die 12 Mix, 13 Route, 14 Lane, or from 15 the clusters of the Mix die,
which have the freewheel gates of their regions. -/
structure Gate where
  open' : Bool
  forced : Option Closure
  deriving DecidableEq, Repr

/-- The clock of one region: stretched since a time (R459), and the lag of a Mix region, in DSP cycles (R254). -/
structure RegionClock where
  since : Option Nat
  lag : Nat
  deriving DecidableEq, Repr

/-- The clocks of one mast. Domains by the codes of R485: 0 NEST, 1 XO, 2 CTRL, 3 DSP, 4 FABRIC, 5 MEDIA, 6 VIDEO, 7
LINE. -/
structure ClockMast where
  plls : List Pll
  domains : List ClockSrc
  /-- Resets of the output dividers by SYNC_DIV (R449). -/
  dividerResets : Nat
  gates : List Gate
  regions : List RegionClock
  deriving DecidableEq, Repr

/-- Clocks after a mast reset: every PLL locks in BOOT, every domain on its primary source. -/
def ClockMast.reset : ClockMast :=
  { plls := (List.range 7).map Pll.reset,
    domains := List.replicate 8 .primary, dividerResets := 0,
    gates := List.replicate 47 { open' := true, forced := none }, regions := List.replicate 12 { since := none, lag := 0 } }

end Sys2Proof.Machine
end

