-- ==== Sys2Proof/Machine/FaultState.lean ====
section
/-! DEFINITION. The fault collector, its log, and the counters and gauges of one mast (chapter 15). -/
namespace Sys2Proof.Machine

/-- One entry of the fault log (R218, R492). -/
structure LogEntry where
  id : Nat
  source : Nat
  reef : Nat
  acked : Bool
  summary : Bool
  lasting : Bool
  escalated : Bool
  step : Nat
  count : Nat
  site : Nat
  deriving DecidableEq, Repr

/-- A report in the log writer's queue (R493). -/
structure QueuedReport where
  source : Nat
  reef : Nat
  site : Nat
  step : Nat
  escalated : Bool
  lasting : Bool
  capacity : Bool
  summary : Bool
  count : Nat
  /-- DEPTH_MV and DURATION_NS of a sag (R501). -/
  depthMv : Nat
  durationNs : Nat
  deriving DecidableEq, Repr

/-- The per-source escalation register (R488). -/
structure EscReg where
  site : Nat
  level : Nat
  acked : Bool
  escalated : Bool
  /-- ENTRY_ID of the entry it names, 0 until the log writer has written it. -/
  entry : Nat
  deriving DecidableEq, Repr

/-- An open burst of a source (R494). -/
structure Burst where
  last : Nat
  coalesced : Nat
  site : Nat
  level : Nat
  step : Nat
  deriving DecidableEq, Repr

/-- A targeted self-test pending at a site (R497). -/
structure PendingTest where
  site : Nat
  source : Nat
  startedAt : Nat
  deriving DecidableEq, Repr

/-- The fault collector and log of one mast. -/
structure FaultState where
  /-- Oldest first, at most 512 (R492). -/
  log : List LogEntry
  nextId : Nat
  queue : List QueuedReport
  regs : Assoc EscReg
  bursts : Assoc Burst
  tests : List PendingTest
  /-- Site and time of transients in the last 24 h, oldest first, at most 128 (R498). -/
  history : List (Nat × Nat)
  /-- Repairs whose row copy still runs: site and start (R499). -/
  copies : List (Nat × Nat)
  /-- Reports of BOOT held until the first session opens: source and site (R107, R135). -/
  held : List (Nat × Nat)
  deriving DecidableEq, Repr

/-- The counters and gauges of one mast (R504, R505). -/
structure Counters where
  /-- Counter map index to value; an index not listed reads zero. -/
  vals : Assoc Nat
  /-- Gauge index to value; an index not listed has no value. -/
  gauges : Assoc Int
  /-- Increments of the last 60 s: time, index, amount (R511). -/
  recent : List (Nat × Nat × Nat)
  shadow : Assoc Nat
  shadowGauges : Assoc Int
  /-- EPOCH of the shadow set, 0 while none is frozen (R508). -/
  shadowEpoch : Nat
  /-- Whether the shadow set is lost because the mast was OUT at E (`some 2`) or reset since (`some 3`) (R509). -/
  shadowAbsent : Option Nat
  deriving DecidableEq, Repr

/-- The snapshot state of the package (R220, R508). -/
structure SnapshotState where
  epoch : Nat
  /-- The effective step of the pending SNAPSHOT. -/
  pendingAt : Option Nat
  /-- The step at which the last one froze the counters, with its seat and host sequence, until EV_SNAPSHOT (R228). -/
  frozenAt : Option Nat
  seat : Nat
  hostSeq : Nat
  deriving DecidableEq, Repr

/-- An empty log, after power-on (R492: ENTRY_ID starts at 1). -/
def FaultState.reset : FaultState :=
  { log := [], nextId := 1, queue := [], regs := [], bursts := [], tests := [], history := [], copies := [],
    held := [] }

/-- Counters at power-on. -/
def Counters.reset : Counters :=
  { vals := [], gauges := [], recent := [], shadow := [], shadowGauges := [], shadowEpoch := 0, shadowAbsent := none }

/-- No snapshot taken (R508). -/
def SnapshotState.reset : SnapshotState := { epoch := 0, pendingAt := none, frozenAt := none, seat := 0, hostSeq := 0 }

end Sys2Proof.Machine
end

