-- ==== Sys2Proof/Machine/PtpState.lean ====
section
/-! DEFINITION. Network time of one mast (chapter 14). Times, corrections and offsets are in units of 2^-16 ns, as in a
correctionField. -/
namespace Sys2Proof.Machine

/-- An Announce heard on a domain (R466): what the best master clock algorithm compares, the port and time it was heard,
and the UTC offset it states, if valid. -/
structure Announce where
  source : Nat
  port : Nat
  gmId : Nat
  priority1 : Nat
  clockClass : Nat
  accuracy : Nat
  variance : Nat
  priority2 : Nat
  steps : Nat
  logInterval : Int
  at' : Nat
  utc : Option Int
  deriving DecidableEq, Repr

/-- A two-step Sync that waits for its Follow_Up (R468). -/
structure HeldSync where
  seq : Nat
  source : Nat
  t2 : Int
  c1 : Int
  at' : Nat
  deriving DecidableEq, Repr

/-- A Delay_Req sent (R469): to the parent where DELAY_MODE is unicast, else to the group. -/
structure DelayReq where
  dest : Option Nat
  seq : Nat
  t3 : Int
  at' : Nat
  deriving DecidableEq, Repr

/-- A master change under observation (R473): when the servo was held, the mean before it, and the frequency to hold. -/
structure MasterChange where
  at' : Nat
  oldMean : Int
  deriving DecidableEq, Repr

/-- What one mast holds for the domain of one timebase. -/
structure PtpDom where
  announces : List Announce
  parent : Option Announce
  held : Option HeldSync
  /-- The last paired Sync: t1 + c1 and t2. -/
  sync : Option (Int × Int)
  syncAt : Option Nat
  path : Option Int
  reqs : List DelayReq
  reqSeq : Nat
  unanswered : Nat
  reqLog : Int
  reqAt : Option Nat
  /-- Offsets gathered in the current second, and the mean of the last full one. -/
  sum : Int
  count : Nat
  mean : Option Int
  /-- When the latest 1 s mean was formed. -/
  secondAt : Option Nat
  /-- The path of R467: whether it is the other mast's parent. -/
  otherPath : Bool
  absent : Bool
  change : Option MasterChange
  refusedJump : Int
  oldMean : Int
  observed : Nat
  /-- A master change of cases 1 to 4 has occurred in the current second (R475). -/
  upset : Bool
  /-- Whether the candidate has been followed (R470). -/
  followed : Bool
  deriving DecidableEq, Repr

/-- A domain before its first message. -/
def PtpDom.reset : PtpDom :=
  { announces := [], parent := none, held := none, sync := none, syncAt := none, path := none, reqs := [], reqSeq := 0,
    unanswered := 0, reqLog := 0, reqAt := none, sum := 0, count := 0, mean := none, secondAt := none, otherPath := false, absent := true,
    change := none, refusedJump := 0, oldMean := 0, observed := 0, upset := false, followed := false }

/-- A message that the transparent clock has sent on (R472): on which port, whose and which message, and its correctionField. -/
structure Relay where
  port : Nat
  source : Nat
  seq : Nat
  correction : Int
  deriving DecidableEq, Repr

/-- Network time of one mast: the domains of TB_0 to TB_3; how many messages its transparent clock has sent on, and the copies of the
latest; and the Delay_Req messages sent. -/
structure PtpMast where
  doms : List PtpDom
  forwarded : Nat
  relayed : List Relay
  delayReqs : Nat
  deriving DecidableEq, Repr

/-- Network time after a mast reset. -/
def PtpMast.reset : PtpMast := { doms := [.reset, .reset, .reset, .reset], forwarded := 0, relayed := [], delayReqs := 0 }

end Sys2Proof.Machine
end

