-- ==== Sys2Proof/Machine/SupplyState.lean ====
section
/-! DEFINITION. Rails, regulators and temperatures of one mast (chapter 19). -/
namespace Sys2Proof.Machine

/-- One supervised rail (R501, R502, R589, R594): whether it is below its warning and its reset level, the depth and
start of a dip, when it last recovered, its sags of the last 60 s, and when source 0x81 was last raised for it. -/
structure RailSt where
  low : Bool
  inReset : Bool
  dipAt : Nat
  depthMv : Nat
  recoveredAt : Option Nat
  sags : List Nat
  rateAt : Option Nat
  deriving DecidableEq, Repr

/-- A rail in regulation. -/
def RailSt.good : RailSt :=
  { low := false, inReset := false, dipAt := 0, depthMv := 0, recoveredAt := none, sags := [], rateAt := none }

/-- One core regulator (R597 to R600): its setting in mV, whether it is on, whether it does not answer, when its demand
last rose, and the last STATUS_WORD read. -/
structure Regulator where
  setMv : Nat
  on : Bool
  failed : Bool
  raisedAt : Option Nat
  loweredAt : Option Nat
  status : Nat
  deriving DecidableEq, Repr

/-- One die's temperature (R607): the last reading in 0.1 °C, whether its warning stands, and consecutive readings at or
above the shutdown level. -/
structure DieTemp where
  value : Option Int
  warned : Bool
  hot : Nat
  deriving DecidableEq, Repr

/-- The supplies of one mast. Rails by the codes of R501; core regulators 0 Mix, 1 Route, 2 Lane. -/
structure SupplyMast where
  rails : List RailSt
  regs : List Regulator
  /-- Demand of regions 0 to 11 in mV, 0 where gated (R598). -/
  demand : List Nat
  /-- The last demand of each region while it ran, to which its rail is raised before it resumes (R599). -/
  kept : List Nat
  temps : List DieTemp
  /-- The mast waits for its dies to cool before its reset (R607). -/
  hot : Bool
  /-- PMBus alerts served (R597). -/
  alerts : Nat
  deriving DecidableEq, Repr

/-- Supplies in regulation: each AVS regulator starts at 0.800 V (R591). -/
def SupplyMast.reset : SupplyMast :=
  { rails := List.replicate 9 .good,
    regs := List.replicate 3 { setMv := 800, on := true, failed := false, raisedAt := none, loweredAt := none, status := 0 },
    demand := List.replicate 12 0, kept := List.replicate 12 0,
    temps := List.replicate 3 { value := none, warned := false, hot := 0 }, hot := false, alerts := 0 }

end Sys2Proof.Machine
end

