-- ==== Sys2Proof/Machine/TandemState.lean ====
section
/-! DEFINITION. The two masts in step: tandem states and lines, digests and flags, join, Stay arbitration, and the
pairing with a Reserve package (chapter 02). -/
namespace Sys2Proof.Machine

/-- The tandem states of a mast (R45). -/
inductive TandemSt where
  | captain
  | stoker
  | joining
  | out
  deriving DecidableEq, Repr

/-- Tandem state codes (R45). -/
def TandemSt.code : TandemSt → Nat
  | .captain => 0
  | .stoker => 1
  | .joining => 2
  | .out => 3

/-- Kinds of attribution flag (R67). -/
inductive FlagKind where
  | mergeLate
  | captureError
  | lateCommit
  | soloAlarm
  | datapath
  deriving DecidableEq, Repr

/-- One attribution flag: its kind and the step at which it was raised (R67). -/
structure Flag where
  kind : FlagKind
  step : Nat
  deriving DecidableEq, Repr

/-- The tandem lines a mast drives, one value per set 0 and 1 (R76). TL_ALIVE toggles while the crow's nest runs: `alive`
is true while it does. -/
structure TLines where
  alive0 : Bool
  alive1 : Bool
  hold0 : Bool
  hold1 : Bool
  yield0 : Bool
  yield1 : Bool
  take0 : Bool
  take1 : Bool
  deriving DecidableEq, Repr

/-- The drive of one mast's outputs (R45, R79, R82). -/
structure Drive where
  /-- SINGLE-DRIVE drivers on. -/
  single : Bool
  /-- LIVE-BOTH drivers on (carrying signal or safe state) and whether their safe state is forced. -/
  live : Bool
  liveSafe : Bool
  packets : Bool
  /-- Every output of this mast forced to its safe state (R490). -/
  allSafe : Bool
  deriving DecidableEq, Repr

/-- What one mast holds for Tandem. -/
structure MastTandem where
  st : TandemSt
  lines : TLines
  drive : Drive
  /-- The level this mast drives on its own steering ball (R77). -/
  steer : Bool
  flags : List Flag
  /-- The step until which the flag record counts as overflowed (R67). -/
  overflowUntil : Option Nat
  /-- Own digests of recent steps: 8 regions each; `none` where a region formed none (R64). -/
  own : Assoc (List (Option Nat))
  /-- Digests received from the peer (R65). -/
  peer : Assoc (List (Option Nat))
  /-- Consecutive digest timeouts per region (R66). -/
  timeouts : List Nat
  /-- The newest step compared so far. -/
  compared : Nat
  /-- Scheduled commands, by order of acceptance, whose commits came too late to this mast as Stoker (R62). -/
  lateDiscard : List Nat
  /-- Commands that the Captain has applied before their commit came to this mast: order and effective step (R62, R67). -/
  missed : List (Nat × Nat)
  deriving DecidableEq, Repr

/-- A join in progress (R70 to R73). -/
structure Join where
  mast : Mast
  /-- The rig-slot preload of a mast that joins from BOOT still runs (R72). -/
  preload : Bool
  decision : Nat
  /-- The step at which fewer than 24 lanes carry the copy (R409). -/
  slowAt : Option Nat
  pass : Nat
  attempts : Nat
  joinStep : Option Nat
  /-- Whether step J has come: the mast computes the rig. -/
  joined : Bool
  deriving DecidableEq, Repr

/-- The Stay link as the tandem logic sees it (R84, R85, R409). -/
structure StayState where
  up : Bool
  upSince : Nat
  /-- The mast that has claimed the role provisionally, with the time of the claim. -/
  claim : Option Mast
  claimAt : Nat
  /-- Whether TL_HOLD and the steering ball of the claimed-against mast stayed high since the claim. -/
  holdStayed : Bool
  /-- Time since which both steering balls have been high at once. -/
  dualSince : Option Nat
  deriving DecidableEq, Repr

/-- The pairing with another package (R89 to R96). -/
structure Pairing where
  paired : Bool
  reason : Nat
  /-- 0 not tracking, 1 in track, 2 suspended (R217). -/
  tracking : Nat
  fence : Nat
  /-- The measured Shroud round trip, in steps (R410). -/
  rtt : Nat
  /-- Step phase against the peer package, in ns (R410). -/
  phaseNs : Int
  suspendedAt : Nat
  beacons : Nat
  lastBeacon : Nat
  /-- Package role now: 0 unpaired, 1 Primary, 2 Reserve, 3 acting Primary (R190). -/
  role : Nat
  takeoverStep : Option Nat
  takeoverCause : Nat
  refusals : Nat
  /-- The step of a Reserve divergence being repaired (R92). -/
  divergedAt : Option Nat
  noticeSent : Bool
  /-- A pairing has been refused and is not tried again before a new profile or a Shroud link that comes up (R89). -/
  blocked : Bool
  /-- The package role of the profile that a take-over has turned round: a Reserve acts as Primary, or a former Primary serves as
  Reserve (R95). -/
  swapped : Option Nat
  /-- The newest step whose digests the Primary's Captain has sent (R92), and the presence beacons sent on networks A and B
  (R94). -/
  digestsSent : Nat
  beaconsSent : Both Nat
  /-- The time of the latest measurement of the round trip and of the step phase, and since when the phase has been on its side of 2 µs
  (R410, R436). -/
  measuredAt : Option Nat
  phaseAt : Nat
  deriving DecidableEq, Repr

/-- The package's tandem state. -/
structure Tandem where
  m : Both MastTandem
  join : Option Join
  /-- Times of the entries into JOINING in the last 60 s (R75). -/
  joinTimes : Both (List Nat)
  heldUntil : Both (Option Nat)
  /-- Times of mismatches of cause UNEXPLAINED in the last 60 s (R68). -/
  unexplained : List Nat
  /-- Decisions at Reef 3 per mast: source and time (R491). -/
  reef3 : Both (List (Nat × Nat))
  /-- The mast may join again but waits for a rig that fits its capacity to be committed (R28). -/
  waitsRig : Both Bool
  /-- Held OUT until the next package reset (R491, R109, R575). -/
  barred : Both Bool
  lastSwitchStep : Nat
  lastCause : Nat
  stay : StayState
  /-- The planned swap in progress: the old Captain becomes STOKER, not OUT (R83). -/
  planned : Bool
  /-- The source whose report moved the role, for EV_SWITCH_OVER (R227). -/
  switchSource : Nat
  /-- A mast reset that follows the end of a switch-over: its reset cause (R80, R131). -/
  resetCause : Both (Option Nat)
  pairing : Pairing
  /-- When the package last came to Tandem (R314). -/
  tandemAt : Nat
  deriving DecidableEq, Repr

/-- Lines of a mast without power. -/
def TLines.idle : TLines :=
  { alive0 := false, alive1 := false, hold0 := false, hold1 := false, yield0 := false, yield1 := false,
    take0 := false, take1 := false }

/-- A mast that drives nothing. -/
def Drive.off : Drive := { single := false, live := false, liveSafe := false, packets := false, allSafe := false }

/-- A mast that has not yet booted: OUT, nothing driven. -/
def MastTandem.reset : MastTandem :=
  { st := .out, lines := .idle, drive := .off, steer := false, flags := [], overflowUntil := none, own := [],
    peer := [], timeouts := [0, 0, 0, 0, 0, 0, 0, 0], compared := 0, lateDiscard := [], missed := [] }

/-- No pairing yet; the default Shroud fence is 8 (R90). -/
def Pairing.reset : Pairing :=
  { paired := false, reason := 0, tracking := 0, fence := 8, rtt := 0, phaseNs := 0, suspendedAt := 0, beacons := 0,
    lastBeacon := 0, role := 0, takeoverStep := none, takeoverCause := 0, refusals := 0, divergedAt := none,
    noticeSent := false, blocked := false, swapped := none, digestsSent := 0, beaconsSent := .same 0, measuredAt := none, phaseAt := 0 }

/-- Both masts OUT until BOOT ends. -/
def Tandem.reset : Tandem :=
  { m := .same .reset, join := none, joinTimes := .same [], heldUntil := .same none, unexplained := [],
    reef3 := .same [], waitsRig := .same false, barred := .same false, lastSwitchStep := 0, lastCause := 0,
    stay := { up := false, upSince := 0, claim := none, claimAt := 0, holdStayed := false, dualSince := none },
    planned := false, switchSource := 0xFFFF, resetCause := .same none, pairing := .reset,
    tandemAt := 0 }

end Sys2Proof.Machine
end

