-- ==== Sys2Proof/Machine/TimingState.lean ====
section
/-! DEFINITION. Reference candidates and timebases of one mast (chapter 12). -/
namespace Sys2Proof.Machine

/-- Candidate states, with the codes of REFERENCE_STATUS (R215, R420). -/
inductive CandSt where
  | absent
  | disqualified
  | requalifying
  | qualified
  deriving DecidableEq, Repr

/-- One candidate on one mast (R415, R418, R420, R421): its state, consecutive windows out of and in tolerance, offsets
of the last 6 windows in tenths of a ppb, newest first, and when it was last qualified. -/
structure Cand where
  st : CandSt
  bad : Nat
  good : Nat
  ever : Bool
  windows : List Int
  since : Option Nat
  deriving DecidableEq, Repr

/-- A candidate that has never been present. -/
def Cand.none : Cand := { st := .absent, bad := 0, good := 0, ever := false, windows := [], since := Option.none }

/-- Timebase states (R215, R428). -/
inductive TbSt where
  | freeRun
  | acquiring
  | locked
  | holdover
  | lost
  deriving DecidableEq, Repr

/-- Timebase state codes (R215). -/
def TbSt.code : TbSt → Nat
  | .freeRun => 0
  | .acquiring => 1
  | .locked => 2
  | .holdover => 3
  | .lost => 4

/-- A REALIGN of TB_0 in progress (R432): its effective step E, the offset in ns measured there, the first step k computed
on the moved grid, and whether the grid has moved. -/
structure Realign where
  step : Nat
  offset : Int
  resume : Nat
  moved : Bool
  deriving DecidableEq, Repr

/-- One timebase on one mast. `shadow` is the Stoker's own choice (R434). `freq` is its output frequency against the
calibrated XO and `hist` what it was in the last 13 windows while LOCKED, newest first, both in tenths of a ppb (R428). `holdoverAt` is
when it entered HOLDOVER, none where it is neither there nor in LOST after it.
`shift` is its frame grid's time less TB_0's, in thirds of a nanosecond. -/
structure Timebase where
  st : TbSt
  ref : Option Nat
  shadow : Option Nat
  everLocked : Bool
  holdoverAt : Option Nat
  freq : Int
  hist : List Int
  holdFreq : Int
  pendingNs : Int
  /-- A jump has been refused and stands (TB_FLAGS [1]). -/
  jumpRefused : Bool
  /-- Disagreements in progress: the rival and its consecutive windows without disagreement (R424). -/
  disagree : List (Nat × Nat)
  shift : Int
  realign : Option Realign
  /-- A PTP candidate that a refused jump has disqualified for this timebase, as it requalifies (R474, R475). -/
  barred : Option (Nat × Cand)
  /-- The effective step of the latest REALIGN of a timebase other than TB_0 (R433). -/
  realignedAt : Option Nat
  deriving DecidableEq, Repr

/-- A timebase at BOOT phase H (R428). -/
def Timebase.reset : Timebase :=
  { st := .freeRun, ref := none, shadow := none, everLocked := false, holdoverAt := none, freq := 0, hist := [], holdFreq := 0,
    pendingNs := 0, jumpRefused := false, disagree := [], shift := 0, realign := none, barred := none, realignedAt := none }

/-- The rising edges that the timing outputs gave in the step before: FRAME_OUT_0 to FRAME_OUT_3, PPS_OUT and WCLK_OUT (R625). Pulse
widths are those of R625. -/
structure TimingPins where
  frames : List (List Int)
  pps : List Int
  wclk : List Int
  deriving DecidableEq, Repr

/-- No edge. -/
def TimingPins.idle : TimingPins := { frames := [[], [], [], []], pps := [], wclk := [] }

/-- The timing of one mast. -/
structure TimingMast where
  cands : Assoc Cand
  tbs : List Timebase
  /-- The XO calibration in tenths of a ppb, once it has a value (R419), and whether the XO has failed (R422). -/
  xoCal : Option Int
  xoFailed : Bool
  /-- When the calibration was last set, and when the RTC was last set from TB_0 since it locked (R482). -/
  xoAt : Nat
  rtcAt : Option Nat
  /-- When the telltales' latest window ended (R418). -/
  windowAt : Option Nat
  pins : TimingPins
  deriving DecidableEq, Repr

/-- Timing after a mast reset. -/
def TimingMast.reset : TimingMast :=
  { cands := [], tbs := [.reset, .reset, .reset, .reset], xoCal := none, xoFailed := false, xoAt := 0, rtcAt := none, windowAt := none,
    pins := .idle }

end Sys2Proof.Machine
end

