-- ==== Sys2Proof/Machine/State.lean ====
section
/-! DEFINITION. The whole state of the package as plain data, the reasons a step can stop, and the state after
reset. -/
namespace Sys2Proof.Machine

/-- Why a step stops with a fault. No command of this block stops with a fault: a refused command is a reply with a
status (R226) and a fault of the part is state (chapter 15). The one constructor is reserved for it: nobody raises it,
which is safe. -/
inductive Fault where
  /-- Raised by nobody; safe. -/
  | none
  deriving DecidableEq, Repr

/-- Why a command has no meaning. -/
inductive Refusal where
  /-- Raised by an arm of `exec` whose command has no meaning yet; safe. -/
  | notModelled (mnemonic : String)
  deriving DecidableEq, Repr

/-- The package. -/
structure State where
  pending : List Instr
  /-- Time since power-on in thirds of a nanosecond (log entry 4). -/
  now : Nat
  /-- The step number (R13). -/
  step : Nat
  /-- The model's own counter of free values drawn (log entry 1). -/
  freeCount : Nat
  variant : Variant
  hal : Halyard
  port : Both HostPort
  md : ModeState
  tan : Tandem
  flt : Both FaultState
  ctr : Both Counters
  snap : SnapshotState
  sec : Security
  rigs : RigSlots
  dp : Both Datapath
  aud : Both AudioMast
  vid : Both VideoMast
  lan : Both LaneMast
  tim : Both TimingMast
  clk : Both ClockMast
  ptp : Both PtpMast
  sup : Both SupplyMast
  mem : Both MemMast
  alm : Both AlarmMast
  alarm : AlarmShared
  /-- Crosspoint commands whose EV_XPT_SWITCHED is still to come (R375). -/
  jobs : List XptJob
  /-- Scratch bank handovers in progress (R517), and the audio and video test routes (R124). -/
  handovers : List Handover
  tests : List TestRoute
  deriving DecidableEq, Repr

/-- The package right after reset. -/
def State.reset : State :=
  { pending := [], now := 0, step := 0, freeCount := 0, variant := .v2048V, hal := .reset, port := .same .reset,
    md := .reset, tan := .reset, flt := .same .reset, ctr := .same .reset, snap := .reset, sec := .reset,
    rigs := .reset, dp := .same .reset, aud := .same .reset, vid := .same .reset,
    lan := .same .reset, tim := .same .reset, clk := .same .reset, ptp := .same .reset, sup := .same .reset,
    mem := .same .reset, alm := .same .reset, alarm := .reset, jobs := [], handovers := [], tests := [] }

end Sys2Proof.Machine
end

