-- ==== Sys2Proof/Machine/Ops.lean ====
section
/-! DEFINITION. The named operations every family shares: roles and rates, free values, counters and gauges, the
release of replies and events (R152, R158, R159, R162 to R164), and the checks and stages of a command (R9, R139,
R153, R157, R180). -/
namespace Sys2Proof.Machine

/-! ### Masts and rates -/

/-- What one mast holds for Tandem. -/
def State.mt (s : State) (m : Mast) : MastTandem := s.tan.m.get m

/-- The tandem state of a mast (R45). -/
def State.tst (s : State) (m : Mast) : TandemSt := (s.mt m).st

/-- Replace what one mast holds for Tandem. -/
def State.setMt (s : State) (m : Mast) (t : MastTandem) : State :=
  { s with tan := { s.tan with m := s.tan.m.set m t } }

/-- The mast that is CAPTAIN. In the overlap of a switch-over both are, and the one that has not raised TL_YIELD
counts (R46, R79). -/
def State.captain (s : State) : Option Mast :=
  if s.tst .a = .captain && !(s.tst .b = .captain && (s.mt .a).lines.yield0) then some .a
  else if s.tst .b = .captain then some .b else none

/-- The package condition is Tandem (R45). -/
def State.inTandem (s : State) : Bool :=
  (s.tst .a = .captain && s.tst .b = .stoker) || (s.tst .b = .captain && s.tst .a = .stoker)

/-- A mast runs: CAPTAIN or STOKER. -/
def State.serves (s : State) (m : Mast) : Bool := s.tst m = .captain || s.tst m = .stoker

/-- The mast is CAPTAIN. -/
def State.isCaptain (s : State) (m : Mast) : Bool := decide (s.tst m = .captain)

/-- The mast computes the datapath or is being brought to it: CAPTAIN, STOKER or JOINING. -/
def State.live (s : State) (m : Mast) : Bool := s.serves m || decide (s.tst m = .joining)

/-- The package is a Reserve in track: commands, assignments and estimates are the Primary's (R91). -/
def State.tracks (s : State) : Bool :=
  s.tan.pairing.paired && s.tan.pairing.role == 2 && s.tan.pairing.tracking == 1 && (s.lan.a.shroudUp || s.lan.b.shroudUp)

/-- A joining mast whose step J has come: it computes the rig (R71). -/
def State.joined (s : State) (m : Mast) : Bool :=
  s.tst m == .joining && s.tan.join.elim false (fun j => j.mast == m && j.joined)

/-- A mast takes the Captain's commits: the Stoker, and a joining mast once J is named (R62, R71). -/
def State.follows (s : State) (m : Mast) : Bool :=
  s.tst m == .stoker || (s.tst m == .joining && s.tan.join.elim false (fun j => j.mast == m && j.joinStep.isSome))

/-- The masts share what they receive over the Stay link (R49, R55, R87). Besides Tandem this holds while a mast joins: its copy is
to continue with equal inputs (R70; DEDUCED, log entry 97). -/
def State.sharing (s : State) : Bool := s.tan.stay.up && s.live .a && s.live .b

/-- The mast assigns captures, estimates and alarm changes: the Captain, but in a Reserve in track (R55, R56, R59, R91). -/
def State.assigns (s : State) (m : Mast) : Bool := s.tst m = .captain && !s.tracks

/-- The Captain, or Mast A where there is none: the mast that answers for the package (log entry 6). -/
def State.lead (s : State) : Mast := s.captain.getD .a

/-- The length of a step in thirds of a nanosecond: 96 kHz, or 48 kHz by sealed profile (R13, R39). -/
def State.stepTime (s : State) : Nat :=
  match s.sec.profile with
  | some p => if p.global.internalRate = 1 then 62500 else 31250
  | none => 31250

/-- Steps per second: the internal rate R (R13). -/
def State.rate (s : State) : Nat := if s.stepTime = 62500 then 48000 else 96000

/-- Steps in a time of `ms` milliseconds. -/
def State.msSteps (s : State) (ms : Nat) : Nat := ms * s.rate / 1000

/-- The package belongs to a paired system: its profile gives it a package role (R57, R89, R90). -/
def State.pairedSystem (s : State) : Bool := s.tan.pairing.role != 0

/-- The capture fence F: 2, or the Shroud fence in a paired system (R57, R90). -/
def State.fence (s : State) : Nat := if s.pairedSystem then s.tan.pairing.fence else 2

/-! ### Free values -/

/-- Draw one free value (log entry 1). -/
def State.draw (s : State) : Nat × State := (Config.freeNat s.freeCount, { s with freeCount := s.freeCount + 1 })

/-- Draw `n` free bytes. -/
def State.drawBytes : Nat → State → List Byte × State
  | 0, s => ([], s)
  | n + 1, s =>
    let r := State.drawBytes n { s with freeCount := s.freeCount + 1 }
    (BitVec.ofNat 8 (Config.freeNat s.freeCount) :: r.1, r.2)

/-! ### Counters and gauges (R504, R505) -/

/-- The counters of one mast. -/
def State.ct (s : State) (m : Mast) : Counters := s.ctr.get m

/-- The value of a counter. -/
def Counters.read (c : Counters) (i : Nat) : Nat := Assoc.getD c.vals i 0

/-- Add to a counter, saturating, and remember the increment for the 10 s and 60 s fields of R511. -/
def Counters.bump (c : Counters) (now i n : Nat) : Counters :=
  { c with
    vals := c.vals.put i (satAdd64 (c.read i) n)
    recent := (c.recent.filter (fun r => decide (now ≤ r.1 + 60 * Config.second))) ++ [(now, i, n)] }

/-- Add to a counter of a mast. -/
def State.bump (s : State) (m : Mast) (i n : Nat) : State :=
  if n = 0 then s else { s with ctr := s.ctr.set m ((s.ct m).bump s.now i n) }

/-- Set a gauge of a mast. -/
def State.gauge (s : State) (m : Mast) (i : Nat) (v : Int) : State :=
  { s with ctr := s.ctr.set m { s.ct m with gauges := (s.ct m).gauges.put i v } }

/-- A gauge loses its value (R504). -/
def State.ungauge (s : State) (m : Mast) (i : Nat) : State :=
  { s with ctr := s.ctr.set m { s.ct m with gauges := (s.ct m).gauges.drop i } }

/-- Increments of a counter in the last `span` of time (R511). -/
def State.lately (s : State) (m : Mast) (span : Nat) (p : Nat → Bool) : Nat :=
  (s.ct m).recent.foldl (fun acc r => if p r.2.1 && decide (s.now ≤ r.1 + span) then acc + r.2.2 else acc) 0

/-- Count a discard of a transport (R139, R507). -/
def State.discard (s : State) (m : Mast) (t : Transport) (cause : Nat) : State :=
  let s' := s.bump m (0x0140 + 16 * t.code + cause) 1
  match t with
  | .csp => if cause = 8 then s' else { s' with port := s'.port.set m { s'.port.get m with cspDiscarded := true } }
  | .pcie => s'
  | .mgmt => s'

/-! ### Seats, sessions and transports -/

/-- A seat's state; a seat outside 0 to 7 has none. -/
def State.seat (s : State) (n : Nat) : SeatState := atD s.hal.seats n SeatState.none

/-- Replace a seat's state. -/
def State.setSeat (s : State) (n : Nat) (v : SeatState) : State :=
  { s with hal := { s.hal with seats := setAt s.hal.seats n v } }

/-- Replace the table of sessions. -/
def State.setSessions (s : State) (l : List Session) : State := { s with hal := { s.hal with sessions := l } }

/-- The open session of a seat (R153). -/
def State.sessionOf (s : State) (seat : Nat) : Option Session :=
  s.hal.sessions.find? (fun x => x.seat == seat && !x.pending)

/-- The packet limit of a transport of a mast (R141). Where no profile gives an MTU, the management Ethernet has 1,500 bytes (DESIGN
CHOICE, log entry 107). -/
def State.packetLimit (s : State) (m : Mast) (t : Transport) (ipv6 : Bool) : Nat :=
  match t with
  | .pcie => (s.port.get m).window.maxPacket
  | .csp => Config.maxPacketBytes
  | .mgmt =>
    let mtu := match s.sec.profile with
      | some p => match p.mgmt.find? (fun i => i.mast == m.code) with
        | some i => i.mtu
        | none => 1500
      | none => 1500
    mtu - (if ipv6 then 48 else 28)

/-- Bytes waiting in an outbound queue. -/
def queuedBytes (q : List Packet) : Nat := q.foldl (fun acc p => acc + p.size) 0

/-- Put a packet on the outbound queue of a session's transport. An event that finds the queue full is not
transmitted; replies and records are never dropped (R152). -/
def State.enqueue (s : State) (x : Session) (p : Packet) : State :=
  let hp := s.port.get x.mast
  let q := hp.outQ x.transport
  if p.kind = 3 && decide (queuedBytes q + p.size > Config.queueBytes) then s
  else { s with port := s.port.set x.mast (hp.setOutQ x.transport (q ++ [p])) }

/-- The ledger entry of a reply or event (R164). -/
def ledgerEntry (mast : Mast) (p : Packet) : LedgerEntry :=
  { kind := p.kind, mast := mast.code, opcode := p.opcode, flags := p.flags, status := p.status,
    hostSeq := p.hostSeq, devSeq := p.devSeq, effStep := p.effStep, payloadLen := p.payload.length,
    session := p.session, head := fit 32 p.payload }

/-- Close a session whose keys would otherwise repeat a sequence (R143) is decided by this bound. -/
def seqWrapLimit : Nat := 2 ^ 32 - 1

/-- The mast that sends to a seat: its session's, or the Captain where no session is open (R163). -/
def State.sender (s : State) (ses : Option Session) : Mast := match ses with
  | some x => x.mast
  | none => s.lead

/-- A seat's next device sequence (R159). -/
def SeatState.nextDev (st : SeatState) : Nat := (st.devSeq + 1) % 2 ^ 32

/-- Enter a packet in a seat's ledger under its device sequence (R163). -/
def SeatState.enter (st : SeatState) (mast : Mast) (p : Packet) : SeatState :=
  { st with devSeq := p.devSeq, ledger := keepLast Config.ledgerEntries (st.ledger ++ [ledgerEntry mast p]) }

/-- Whether an event code's group passes a seat's mask (R162). -/
def SeatState.wants (st : SeatState) (code : Nat) : Bool := st.role != 0 && bit st.eventMask (code / 256)

/-- The preamble of an event (R162). ORIGIN 0, 1 or 2; REEF 0xFF where the event is no fault. -/
def eventPreamble (origin reef count : Nat) : List Byte := be 1 origin ++ be 1 reef ++ zeros 2 ++ be 4 count

/-- The packet of a reply or event to a seat, on its session where one is open (R138, R159, R163). -/
def State.sequenced (s : State) (ses : Option Session) (seat kind opcode flags hostSeq eff status : Nat) (payload : List Byte) :
    Packet :=
  { kind := kind, opcode := opcode, flags := flags + 0x4000 * (s.sender ses).code, seat := seat, hostSeq := hostSeq,
    devSeq := (s.seat seat).nextDev, effStep := eff, status := status, session := (ses.map (fun x => x.id)).getD 0,
    payload := payload, key := ses.map (fun x => x.keyOut), dest := (ses.map (fun x => x.source)).getD 0,
    ipv6 := (ses.map (fun x => x.ipv6)).getD false }

/-- A session is closed before a sequence would repeat under its keys, and EV_SESSION_CLOSED with cause SEQ_WRAP enters the ledger of
its seat, if its mask enables it (R143, R155, R163). -/
def State.endWrapped (s : State) (x : Session) : State :=
  let s1 := s.setSessions (s.hal.sessions.filter (fun y => y.id != x.id))
  if (s1.seat x.seat).wants evSessionClosed then
    let p := s1.sequenced none x.seat 3 evSessionClosed 0 0 s.step 0
      (eventPreamble x.mast.code 0xFF 1 ++ be 4 x.id ++ be 1 3 ++ zeros 3)
    s1.setSeat x.seat ((s1.seat x.seat).enter s1.lead p)
  else s1

/-- Send a sequenced packet on the transport of the seat's session, if one is open, and count it under its keys, which it may be the
last to use (R143, R159). -/
def State.sendOn (s : State) (ses : Option Session) (p : Packet) : State :=
  match ses with
  | none => s
  | some x =>
    let s1 := (s.enqueue x p).setSessions
      (s.hal.sessions.map (fun y => if y.id == x.id then { y with devUsed := y.devUsed + 1 } else y))
    if decide (seqWrapLimit ≤ x.devUsed + 1) then s1.endWrapped x else s1

/-- Release one sequenced packet to a seat: the Captain assigns the next device sequence, both masts enter it in the
ledger, and the session's mast sends it if a session is open (R159, R163). The MAST flag names the session's mast, or
the Captain where no session is open. -/
def State.release (s : State) (seat kind opcode flags hostSeq eff status : Nat) (payload : List Byte) : State :=
  let ses := s.sessionOf seat
  let mast := s.sender ses
  let p := s.sequenced ses seat kind opcode flags hostSeq eff status payload
  (s.setSeat seat ((s.seat seat).enter mast p)).sendOn ses p

/-- Release an event to one seat, if its mask enables the group (R159, R162, R228). -/
def State.eventTo (s : State) (seat origin code hostSeq step : Nat) (fields : List Byte) : State :=
  if (s.seat seat).wants code then
    s.release seat 3 code 0 hostSeq step 0 (eventPreamble origin 0xFF 1 ++ fields)
  else s

/-- Release a fault's event to every seat whose mask enables the group. -/
def State.eventFull (s : State) (origin reef count code step : Nat) (fields : List Byte) : State :=
  (List.range 8).foldl (fun acc n =>
    if (acc.seat n).wants code then
      acc.release n 3 code 0 0 step 0 (eventPreamble origin reef count ++ fields)
    else acc) s

/-- Release an event that is no fault to every seat whose mask enables its group (R162). -/
def State.event (s : State) (origin code : Nat) (fields : List Byte) : State :=
  s.eventFull origin 0xFF 1 code s.step fields

/-- Close sessions, recording EV_SESSION_CLOSED for the seat of each open one; a pending session raises none
(R154, R155). -/
def State.closeWhere (s : State) (which : Session → Bool) (cause : Nat) : State :=
  let gone := s.hal.sessions.filter which
  gone.foldl (fun acc x =>
    if x.pending then acc
    else acc.eventTo x.seat x.mast.code evSessionClosed 0 acc.step (be 4 x.id ++ be 1 cause ++ zeros 3))
    (s.setSessions (s.hal.sessions.filter (fun x => !which x)))

/-- Close a session before a host sequence would repeat under its keys (R143): cause SEQ_WRAP. -/
def State.closeWrapped (s : State) : State := s.closeWhere (fun x => decide (seqWrapLimit ≤ x.hostUsed)) 3

/-! ### Replies -/

/-- A MAST value names a mast (R182). -/
def namesMast (v : Nat) (m : Mast) : Bool := v == 2 || v == m.code

/-- OUTCOME of a mast for a command that is carried out or scheduled (R48, R63, R168, R183): 0 it applies or schedules; 1
through the state copy; 2 OUT, or JOINING for a read of per-mast data; 3 the command names the other mast (DEDUCED, log entry
93). -/
def State.outcome (s : State) (m : Mast) (r : Reach) : Nat :=
  match r with
  | .named v => if namesMast v m then 0 else 3
  | .readOf v => if !namesMast v m then 3 else if s.serves m then 0 else 2
  | .package => (match s.tst m with
    | .captain => 0
    | .stoker => 0
    | .joining => 1
    | .out => 2)
  | .perMast => if s.serves m then 0 else 2

/-- OUTCOME of a mast for a command that is refused (R48): nothing is applied on either mast; 2 on a mast that is OUT, and
3 on any other (DEDUCED, log entry 93). -/
def State.outcomeRefused (s : State) (m : Mast) : Nat := if s.tst m = .out then 2 else 3

/-- The tandem report (R48). -/
def State.tandemReport (s : State) (outA outB : Nat) : List Byte :=
  be 1 s.lead.code ++ be 1 (b01 (!s.inTandem)) ++ be 1 (s.tst .a).code ++ be 1 (s.tst .b).code ++
    be 1 outA ++ be 1 outB ++ zeros 2

/-- What a reply carries besides its header. -/
structure Reply where
  status : Nat
  effStep : Nat
  outA : Nat
  outB : Nat
  fields : List Byte
  deriving DecidableEq, Repr

/-- FLAGS of a reply (R140): STEP_NAMED as the command has it. -/
def replyFlags (h : Hdr) : Nat := 0x8000 * b01 (bit h.flags 15)

/-- Send a reply (R158, R174, R175): sequenced, ledgered, and kept for a duplicate where the command was accepted. -/
def State.replyWith (s : State) (seat code flags hostSeq : Nat) (accepted : Bool) (r : Reply) : State :=
  let payload := s.tandemReport r.outA r.outB ++ r.fields
  let s1 := s.release seat 2 code flags hostSeq r.effStep r.status payload
  if accepted then
    let st := s1.seat seat
    let c : CachedReply :=
      { hostSeq := hostSeq, opcode := code, flags := flags, status := r.status, effStep := r.effStep,
        payload := payload }
    s1.setSeat seat { st with cached := keepLast 64 (st.cached ++ [c]) }
  else s1

/-- Send the reply to a command. -/
def State.reply (s : State) (h : Hdr) (seat code : Nat) (accepted : Bool) (r : Reply) : State :=
  s.replyWith seat code (replyFlags h) h.hostSeq accepted r

/-- Send the reply that a scheduled command still owes, if any (R63): OUTCOME of a Stoker that has discarded the command for
a late commit is 1 (R62). -/
def State.answerDue (s : State) (c : SchedCmd) (late : Bool) : State :=
  match c.due with
  | none => s
  | some d =>
    let out (m : Mast) : Nat := if late && s.tst m = .stoker then 1 else s.outcome m d.reach
    s.replyWith c.seat c.code d.flags c.hostSeq true
      { status := stOk, effStep := c.effStep, outA := out .a, outB := out .b, fields := d.fields }

/-- A scheduled command owes its reply no longer. -/
def SchedCmd.answered (c : SchedCmd) : SchedCmd := { c with due := none }

/-- The Captain alone has scheduled what waits: every reply that is due goes out (R63). -/
def State.answerAll (s : State) : State :=
  s.hal.sched.foldl (fun acc c => acc.answerDue c false)
    { s with hal := { s.hal with sched := s.hal.sched.map SchedCmd.answered } }

/-! ### The arrival of a command -/

/-- The header that 40 received bytes spell (R138), with what the transport and the tag check say of the packet. -/
def Hdr.parse (b : List Byte) (m : Mast) (t : Transport) (wireLen : Nat) (tagOk : Bool) (source : Nat) (ipv6 : Bool) : Hdr :=
  { mast := m, transport := t, magic := fld b 0 2, version := fld b 2 1, kind := fld b 3 1, flags := fld b 6 2,
    seat := fld b 8 2, rsv10 := fld b 10 2, hostSeq := fld b 12 4, devSeq := fld b 16 4, effStep := fld b 20 8,
    payloadLen := fld b 28 4, status := fld b 32 2, rsv34 := fld b 34 2, session := fld b 36 4, wireLen := wireLen,
    tagOk := tagOk, source := source, ipv6 := ipv6 }

/-- Why a packet is discarded without a reply (R139, R156, R507): the cause, in the order of R139. A packet that a
mast in JOINING or OUT receives counts under cause 5 (log entry 7). -/
def State.discardCause (s : State) (h : Hdr) (confirm : Bool) : Option Nat :=
  if h.magic ≠ 0xE5A1 then some 0
  else if h.version ≠ 1 then some 1
  else if h.kind ≠ 1 then some 2
  else if 56 + h.payloadLen > s.packetLimit h.mast h.transport h.ipv6 then some 3
  else if h.wireLen ≠ 56 + h.payloadLen then some 4
  else if !s.serves h.mast then some 5
  else
    match s.hal.sessions.find? (fun x => x.id == h.session && x.mast == h.mast && x.transport == h.transport) with
    | none => some 5
    | some x => if x.pending && !confirm then some 5 else if !h.tagOk then some 6 else none

/-- The session a command names. -/
def State.findSession (s : State) (h : Hdr) : Option Session :=
  s.hal.sessions.find? (fun x => x.id == h.session && x.mast == h.mast && x.transport == h.transport)

/-- Take one packet from the inbound path of its transport (R550), if it waits there. -/
def State.takeInbound (s : State) (h : Hdr) : State :=
  let hp := s.port.get h.mast
  match hp.inQ h.transport with
  | [] => s
  | n :: rest =>
    if n = h.wireLen then
      let hp1 : HostPort := { hp with mailbox := { hp.mailbox with inRd := hp.mailbox.inWr } }
      { s with port := s.port.set h.mast (hp1.setInQ h.transport rest) }
    else s

/-- A transport stops taking commands while its outbound queue cannot hold one packet of its limit (R152). -/
def State.transportStopped (s : State) (h : Hdr) : Bool :=
  decide (queuedBytes ((s.port.get h.mast).outQ h.transport) + s.packetLimit h.mast h.transport h.ipv6
    > Config.queueBytes)

/-- Note an authenticated command in its session (R151, R155). -/
def State.touch (s : State) (h : Hdr) : State :=
  s.setSessions (s.hal.sessions.map (fun x =>
    if x.id == h.session && x.mast == h.mast && x.transport == h.transport then
      { x with lastCmd := s.now, source := h.source, ipv6 := h.ipv6 }
    else x))

/-- The classes of a host sequence (R157). -/
inductive SeqClass where
  | inOrder
  | duplicate
  | outOfWindow
  deriving DecidableEq, Repr

/-- Classify a host sequence against E, the last accepted plus one, modulo 2^32 (R157). -/
def SeatState.classify (st : SeatState) (hostSeq : Nat) : SeqClass :=
  let d := (hostSeq + 2 ^ 32 - (st.lastHostSeq + 1) % 2 ^ 32) % 2 ^ 32
  if d = 0 then .inOrder
  else if d ≥ 2 ^ 32 - 64 ∧ st.accepted.contains hostSeq = true then .duplicate
  else .outOfWindow

/-- Accept a host sequence and its acknowledgement (R157, R160). -/
def State.acceptSeq (s : State) (seat : Nat) (h : Hdr) : State :=
  let st := s.seat seat
  (s.setSeat seat
    { st with
      lastHostSeq := h.hostSeq % 2 ^ 32
      accepted := keepLast 64 (st.accepted ++ [h.hostSeq % 2 ^ 32])
      ackPos := if bit h.flags 11 then h.devSeq else st.ackPos }).setSessions
    (s.hal.sessions.map (fun y =>
      if y.id == h.session && y.mast == h.mast && y.transport == h.transport then { y with hostUsed := y.hostUsed + 1 } else y))

/-- Answer a duplicate: its cached reply again, with DUPLICATE set and a new device sequence; or, where the original
has no reply yet, a discard under cause 13 (R158). A reply longer than the limit of the session's transport goes whole: R141 and R158
part there (DESIGN CHOICE, log entry 108). -/
def State.answerDuplicate (s : State) (h : Hdr) (seat : Nat) : State :=
  match (s.seat seat).cached.find? (fun c => c.hostSeq == h.hostSeq) with
  | some c => s.release seat 2 c.opcode (c.flags + 0x2000) c.hostSeq c.effStep c.status c.payload
  | none => s.discard h.mast h.transport 13

/-- The EFF_STEP a reply to a command not carried out reports: the named step of a SCHEDULED command, else the step
of execution (R169, log entry 8). -/
def State.refusedStep (s : State) (h : Hdr) (code : Nat) : Nat :=
  match opRow code with
  | some r => if r.cls = .scheduled then h.effStep else s.step
  | none => s.step

/-- A reply to a command that is not accepted (R153, R157). -/
def State.turnAway (s : State) (h : Hdr) (seat code st : Nat) (fields : List Byte) : State :=
  s.reply h seat code false
    { status := st, effStep := s.refusedStep h code, outA := s.outcomeRefused .a, outB := s.outcomeRefused .b,
      fields := fields }

/-- An authenticated packet of session `x`: SEAT is the session's, and the host sequence decides whether the command is
accepted, answered as a duplicate or refused (R153, R157, R158). -/
def State.takeUp (s : State) (h : Hdr) (code : Nat) (x : Session) (k : Nat → State → State) : State :=
  if h.seat ≠ x.seat then s.turnAway h x.seat code stBadSession []
  else
    match (s.seat x.seat).classify h.hostSeq with
    | .outOfWindow => s.turnAway h x.seat code stSeqOutOfWindow (be 4 (((s.seat x.seat).lastHostSeq + 1) % 2 ^ 32))
    | .duplicate => s.answerDuplicate h x.seat
    | .inOrder => (k x.seat (s.acceptSeq x.seat h)).closeWrapped

/-- A packet that the command processor takes: discarded under R139, or admitted (R9, R139, R153). -/
def State.process (s : State) (h : Hdr) (code : Nat) (k : Nat → State → State) : State :=
  match s.discardCause h false, s.findSession h with
  | some c, _ => s.discard h.mast h.transport c
  | none, none => s
  | none, some x => (s.touch h).takeUp h code x k

/-- Carry a received packet to its acceptance (R9, R139, R152, R153, R157), then continue with `k`, which is given
the seat and the state after acceptance. -/
def State.receive (s : State) (h : Hdr) (code : Nat) (k : Nat → State → State) : State :=
  if s.md.mode = .vault then s
  else if s.md.mode = .boot || (s.md.boot.get h.mast).phase ≠ 0 then (s.takeInbound h).discard h.mast h.transport 7
  else if s.transportStopped h then s
  else (s.takeInbound h).process h code k

/-! ### The checks of an accepted command (R9, R179, R180) -/

/-- Refusals that every opcode is subject to (R18, R120, R160, R169, R178, R179, R181, R222), but for scheduling. -/
def State.commonRefusals (s : State) (h : Hdr) (seat : Nat) (row : OpRow) (lengthOk : Bool) : List Nat :=
  refuseIf (decide (s.sec.lifecycle = 4) && decide (row.code ≥ 0x0300) && row.code != 0x0C01) stBadLifecycle ++
  refuseIf (!row.roles.contains (s.seat seat).role) stRoleDenied ++
  refuseIf (!row.modes.contains s.md.mode) (if s.md.mode = .alarm then stAlarmActive else stBadMode) ++
  refuseIf (decide (s.md.mode = .alarm) && decide (row.code / 256 = 4) && (s.seat seat).role != 3) stAlarmActive ++
  refuseIf (!bit h.flags 11 && h.devSeq != 0) stBadParam ++
  refuseIf (h.flags % 2 ^ 11 != 0 || h.rsv10 != 0 || h.rsv34 != 0) stBadParam ++
  refuseIf (row.cls != .scheduled && bit h.flags 15) stBadParam ++
  refuseIf (!bit h.flags 15 && h.effStep != 0) stBadParam ++
  refuseIf (!lengthOk) stBadParam

/-- The margin of a named step: 16 steps, more by the Shroud round trip in a paired system (R61). -/
def State.nearMargin (s : State) : Nat := 16 + (if s.pairedSystem then s.tan.pairing.rtt else 0)

/-- The step the device assigns: the first at least 32 steps ahead that meets every margin (R61). -/
def State.assignedStep (s : State) : Nat := s.step + max 32 s.nearMargin

/-- The effective step of a SCHEDULED command: named or assigned (R61, R169). -/
def State.effectiveStep (s : State) (h : Hdr) : Nat := if bit h.flags 15 then h.effStep else s.assignedStep

/-- Refusals of scheduling and of the command queue (R61, R170). -/
def State.schedRefusals (s : State) (h : Hdr) (row : OpRow) : List Nat :=
  if row.cls = .scheduled then
    refuseIf (bit h.flags 15 && decide (h.effStep < s.step + s.nearMargin)) stStepTooSoon ++
    refuseIf (bit h.flags 15 && decide (h.effStep > s.step + 2 ^ 32)) stStepTooFar ++
    refuseIf (decide (s.hal.sched.length ≥ Config.schedLimit)) stQueueFull
  else []

/-- ST_TOO_LARGE: the reply would not fit the session's transport (R141). -/
def State.tooLarge (s : State) (h : Hdr) (fieldsLen : Nat) : List Nat :=
  refuseIf (decide (56 + 8 + fieldsLen > s.packetLimit h.mast h.transport h.ipv6)) stTooLarge

/-- Reply to an accepted command with a refusal: no effect, the tandem report and any fields the rule gives to the
refusal (R176). -/
def State.refuse (s : State) (h : Hdr) (seat code st : Nat) (fields : List Byte) : State :=
  s.reply h seat code true
    { status := st, effStep := s.refusedStep h code, outA := s.outcomeRefused .a, outB := s.outcomeRefused .b,
      fields := fields }

/-- Reply to a command that was carried out or scheduled. -/
def State.done (s : State) (h : Hdr) (seat code eff : Nat) (reach : Reach) (fields : List Byte) : State :=
  s.reply h seat code true
    { status := stOk, effStep := eff, outA := s.outcome .a reach, outB := s.outcome .b reach, fields := fields }

/-- An accepted READ or IMMEDIATE command: refused by the first refusal that holds, else carried out at once by `run`,
whose second part is the reply's fields (R168, R169, R174). -/
def State.runNow (s : State) (h : Hdr) (seat code : Nat) (lengthOk : Bool) (reach : Reach) (own : List Nat)
    (replyLen : Nat) (run : State → State × List Byte) : State :=
  match opRow code with
  | none => s.refuse h seat code stBadOpcode []
  | some row =>
    match firstRefusal (s.tooLarge h replyLen ++ s.commonRefusals h seat row lengthOk ++ own) with
    | some st => s.refuse h seat code st []
    | none =>
      let r := run s
      r.1.done h seat code s.step reach r.2

/-- The command waits for its effective step (R60, R171). -/
def State.waiting (s : State) (code : Nat) (p : List Byte) (seat hostSeq eff aux : Nat) (primary : Bool) : State :=
  { s with hal := { s.hal with
      sched := s.hal.sched ++
        [{ code := code, payload := p, seat := seat, hostSeq := hostSeq, effStep := eff, order := s.hal.nextOrder,
           stokerHolds := false, aux := aux, due := none, primary := primary }]
      nextOrder := s.hal.nextOrder + 1 } }

/-- A command of the package's own host waits for its effective step. -/
def State.queued (s : State) (code : Nat) (p : List Byte) (seat hostSeq eff aux : Nat) : State :=
  s.waiting code p seat hostSeq eff aux false

/-- The Captain sends commits: the package is in Tandem with the Stay link up (R60, R62). -/
def State.commits (s : State) : Bool := s.inTandem && s.tan.stay.up

/-- What a scheduled command reaches: a RESET of one mast names it by SCOPE 1 or 2 (R194). -/
def schedReach (code : Nat) (p : List Byte) : Reach :=
  if code = 0x0303 && fld p 0 1 != 0 then .named (fld p 0 1 - 1) else .package

/-- The command queued last owes the reply `d` (R63). -/
def State.owing (s : State) (d : DueReply) : State :=
  { s with hal := { s.hal with
      sched := s.hal.sched.map (fun c => if c.order + 1 == s.hal.nextOrder then { c with due := some d } else c) } }

/-- The command queued last owes its reply until the Stoker has its commit, or is answered at once where the Captain alone
schedules (R63). -/
def State.answerQueued (s : State) (h : Hdr) (seat code eff : Nat) (reach : Reach) (fields : List Byte) : State :=
  if s.commits then s.owing { flags := replyFlags h, reach := reach, fields := fields }
  else s.done h seat code eff reach fields

/-- An accepted SCHEDULED command: refused by the first refusal that holds, else queued for its effective step, with
`prep` the change at acceptance and the reply's fields (R60, R63, R168 to R171). -/
def State.schedule (s : State) (h : Hdr) (seat code : Nat) (p : List Byte) (lengthOk : Bool) (own : List Nat)
    (eff aux : Nat) (prep : State → State × List Byte) : State :=
  match opRow code with
  | none => s.refuse h seat code stBadOpcode []
  | some row =>
    match firstRefusal (s.commonRefusals h seat row lengthOk ++ s.schedRefusals h row ++ own) with
    | some st => s.refuse h seat code st []
    | none =>
      ((prep s).1.queued code p seat h.hostSeq eff aux).answerQueued h seat code eff (schedReach code p) (prep s).2

/-- A page of a paged read (R184): how many items are returned. -/
def pageCount (first want total fitting : Nat) : Nat :=
  if first ≥ total then 0 else min want (min (total - first) fitting)

/-- A page header and its items (R184). -/
def pageBytes (first want fitting : Nat) (total : Nat) (item : Nat → List Byte) : List Byte :=
  let n := pageCount first want total fitting
  be 4 total ++ be 2 n ++ zeros 2 ++ ((List.range n).map (fun i => item (first + i))).flatten

/-- The number of items of a size that fit the transport limit beside a fixed part (R184). -/
def State.fitting (s : State) (h : Hdr) (fixed itemSize : Nat) : Nat :=
  (s.packetLimit h.mast h.transport h.ipv6 - (56 + 8 + fixed)) / itemSize

/-- The two blocks of a READ of per-mast data (R183): a mast that is OUT or JOINING has a block of length 0. -/
def State.perMast (s : State) (block : Mast → List Byte) : List Byte :=
  let one (m : Mast) : List Byte :=
    let b := if s.serves m then block m else []
    be 4 b.length ++ b
  one .a ++ one .b

/-- How many masts a per-mast read answers for. -/
def State.serving (s : State) : Nat := b01 (s.serves .a) + b01 (s.serves .b)

end Sys2Proof.Machine
end

