-- ==== Sys2Proof/Machine/Flags.lean ====
section
/-! DEFINITION. The interrupt flags of the host register window (R148, R551 to R553): how a cause sets its INT_STATUS bit,
when its vector is signalled, and what a write of ones clears. -/
namespace Sys2Proof.Machine

/-- Signal an MSI-X vector: a masked vector leaves its pending bit instead (R552). -/
def HostPort.signal (p : HostPort) (v now : Nat) : HostPort :=
  if bit (atD p.window.msixTable (4 * v + 3) 1) 0 then
    { p with window := { p.window with msixPba := p.window.msixPba ||| 2 ^ v } }
  else
    { p with ring := { p.ring with
        msiCount := setAt p.ring.msiCount v (atD p.ring.msiCount v 0 + 1)
        lastMsi0 := if v = 0 then now else p.ring.lastMsi0
        msi0Held := if v = 0 then false else p.ring.msi0Held } }

/-- Signal a vector whose cause is enabled; vector 0 is held until INT_HOLDOFF has passed since its last message
(R553). -/
def HostPort.signalHeld (p : HostPort) (v now : Nat) : HostPort :=
  if v = 0 && decide (p.ring.msiCount.headD 0 > 0) &&
      decide (now < p.ring.lastMsi0 + p.window.intHoldoff * Config.usec) then
    { p with ring := { p.ring with msi0Held := true } }
  else p.signal v now

/-- A cause occurs: its INT_STATUS bit is set whatever INT_ENABLE holds, and its vector is signalled where the bit
rises while enabled (R553). -/
def HostPort.cause (p : HostPort) (v now : Nat) : HostPort :=
  if bit p.window.intStatus v then p
  else
    let p1 := { p with window := { p.window with intStatus := p.window.intStatus ||| 2 ^ v } }
    if bit p.window.intEnable v then p1.signalHeld v now else p1

/-- A change of MODE or MAST_STATE shows in both windows (R148, R553). -/
def State.stateChanged (s : State) : State :=
  { s with port := s.port.map (fun p => p.cause 2 s.now) }

/-- Bits written as one are cleared, the others stay (W1C, R551). -/
def clearOnes (status v : Nat) : Nat := status ^^^ (status &&& v)

end Sys2Proof.Machine
end

