-- ==== Sys2Proof/Machine/TandemOps.lean ====
section
/-! DEFINITION. Shared operations on roles, drives and modes (chapters 02 and 03): what changes when a
mast changes its tandem state, and when the package changes its mode. -/
namespace Sys2Proof.Machine

/-! ### Tandem states -/

/-- The drive of a mast in a tandem state (R45): in LOCKOUT roles are frozen and drives are left to R128. -/
def driveOf : TandemSt → Drive
  | .captain => { single := true, live := true, liveSafe := false, packets := true, allSafe := false }
  | .stoker => { single := false, live := true, liveSafe := false, packets := true, allSafe := false }
  | .joining => { single := false, live := true, liveSafe := true, packets := false, allSafe := false }
  | .out => Drive.off

/-- A mast leaves CAPTAIN and STOKER: its sessions close with cause MAST_OUT (R155). -/
def State.closeMast (s : State) (m : Mast) : State := s.closeWhere (fun x => x.mast == m) 4

/-- Give a mast a tandem state, with the drive of R45, its TL_HOLD and steering ball (R76, R77), and the change of
MAST_STATE. A Reserve keeps its outputs safe and sends no packets (R91). -/
def State.setTst (s : State) (m : Mast) (st : TandemSt) : State :=
  let t := s.mt m
  let cap := decide (st = .captain)
  let d := driveOf st
  let s1 := s.setMt m
    { t with
      st := st
      drive := if s.tan.pairing.role = 2 then { d with packets := false, allSafe := true } else d
      steer := cap
      lines := { t.lines with hold0 := cap, hold1 := cap, yield0 := false, yield1 := false, take0 := false,
                              take1 := false } }
  let s2 := match st with
    | .captain => s1
    | .stoker => s1
    | .joining => s1.closeMast m
    | .out => s1.closeMast m
  let s3 := s2.stateChanged
  if !s3.inTandem then s3.answerAll
  else if s.inTandem then s3
  else { s3 with tan := { s3.tan with tandemAt := s3.now } }

/-- What a mast reset leaves of a mast's tandem state: its crow's nest runs on, and TL_ALIVE with it (R76). -/
def MastTandem.restart (t : MastTandem) : MastTandem :=
  { MastTandem.reset with lines := { TLines.idle with alive0 := t.lines.alive0, alive1 := t.lines.alive1 } }

/-- Set TL_ALIVE of a mast on both sets (R76). -/
def State.setAlive (s : State) (m : Mast) (v : Bool) : State :=
  let t := s.mt m
  s.setMt m { t with lines := { t.lines with alive0 := v, alive1 := v } }

/-- A scheduled command that is not applied raises EV_COMMAND_DROPPED to its seat (R172, R173, R228). -/
def State.dropSched (s : State) (c : SchedCmd) (st : Nat) : State :=
  (s.answerDue c false).eventTo c.seat s.lead.code evCommandDropped c.hostSeq s.step
    (be 2 c.code ++ be 2 st ++ zeros 4 ++ be 8 c.effStep)

/-- Record a switch-over for TANDEM_STATUS and raise EV_SWITCH_OVER (R79, R217, R227). -/
def State.switchedOver (s : State) (m : Mast) (cause source : Nat) : State :=
  ({ s with tan := { s.tan with lastSwitchStep := s.step, lastCause := cause } }).event m.code evSwitchOver
    (be 1 m.code ++ be 1 cause ++ be 2 source)

/-- A Reef 3 decision on the Captain in Tandem, or a planned swap: TL_YIELD rises and TL_HOLD drops (R79, R83). -/
def State.yieldRole (s : State) (m : Mast) (planned : Bool) (source : Nat) : State :=
  let t := s.mt m
  let s1 := s.setMt m { t with lines := { t.lines with yield0 := true, yield1 := true, hold0 := false, hold1 := false } }
  { s1 with tan := { s1.tan with planned := planned, switchSource := source } }

/-- TL_YIELD of a mast reads high on both sets. -/
def MastTandem.yields (t : MastTandem) : Bool := t.lines.yield0 && t.lines.yield1

/-- TL_TAKE of a mast reads high on both sets. -/
def MastTandem.takes (t : MastTandem) : Bool := t.lines.take0 && t.lines.take1

/-- A CAPTAIN whose planned swap cannot go on keeps its role: TL_YIELD drops and TL_HOLD rises (R76, R83). -/
def State.keepRole (s : State) (m : Mast) : State :=
  let t := s.mt m
  let s1 := s.setMt m { t with lines := { t.lines with yield0 := false, yield1 := false, hold0 := true, hold1 := true } }
  { s1 with tan := { s1.tan with planned := false, switchSource := 0xFFFF } }

/-- A mast can be CAPTAIN: it is and does not yield, or it is the Stoker of one that yields (R46, R79). -/
def State.canLead (s : State) (m : Mast) : Bool :=
  (s.isCaptain m && !(s.mt m).yields) || (s.tst m = .stoker && s.isCaptain m.other)

/-- Raise an attribution flag on a mast (R67): at most 4,096 are held. A record that is full keeps the flags it holds and marks
itself overflowed; flags leave it at a join only (DESIGN CHOICE, log entry 94). -/
def State.flag (s : State) (m : Mast) (k : FlagKind) (step window : Nat) : State :=
  let t := s.mt m
  if t.flags.length ≥ 4096 then s.setMt m { t with overflowUntil := some (step + window) }
  else s.setMt m { t with flags := t.flags ++ [{ kind := k, step := step }] }

/-! ### Modes -/

/-- Enter a mode (R97): MODE_STEP, EV_MODE_CHANGE with its cause, and the change of the window's MODE field. -/
def State.enterMode (s : State) (mode base : Mode) (cause : Nat) : State :=
  let prev := s.md.mode
  let s1 := { s with md := { s.md with mode := mode, base := base, modeStep := s.step } }
  (s1.event 2 evModeChange (be 1 mode.code ++ be 1 prev.code ++ be 1 base.code ++ be 1 cause)).stateChanged

/-- Add an entry to the reset record, newest first, the last 8 kept (R131, R191). -/
def State.recordReset (s : State) (cause mast : Nat) : State :=
  let e : ResetEntry := { cause := cause, mast := mast, bootCount := s.md.bootCount, rtc := s.md.nest.rtc }
  { s with md := { s.md with nest := { s.md.nest with resets := (e :: s.md.nest.resets).take 8 } } }

end Sys2Proof.Machine
end

