-- ==== Sys2Proof/Machine/Hooks.lean ====
section
/-! DEFINITION. What the fault collector and the records ask of the other parts of the state: the rigs in use, the
zones, capacity, and the wipes of a reset (chapters 01, 06, 07, 16). -/
namespace Sys2Proof.Machine

/-- The internal rate is 48 kHz. -/
def State.rate48 (s : State) : Bool := s.rate = 48000

/-- Both rigs a mast runs: the active one and, during a tack, the outgoing one. -/
def Datapath.rigsRun (d : Datapath) : List Rig :=
  (match d.active with
   | some r => [r.rig]
   | none => []) ++
  (match d.outgoing with
   | some r => [r.rig]
   | none => [])

/-- Whether the active rig places work on a cluster (R28). -/
def State.clusterUsed (s : State) (m : Mast) (c : Nat) : Bool :=
  (s.dp.get m).rigsRun.any (fun r => bit r.clusterUse c)

/-- A zone is active on either mast. -/
def State.anyZone (s : State) : Bool := !(s.dp.a.acts.isEmpty && s.dp.b.acts.isEmpty)

/-- The latency L of one item of a rig's report: the fence is counted where the input's patch source is physical
(R275). -/
def State.latencyOf (s : State) (x : Nat × Nat × Nat) : Nat :=
  let cls := ((s.dp.get s.lead).sourceOf x.1).cls
  x.2.2 + 25 + (if cls = 2 ∨ cls = 3 then s.fence else 0)

/-- The attribution window W: the largest latency of the rigs that run, plus 2 (R67). -/
def State.window (s : State) : Nat :=
  2 + ((s.dp.get s.lead).rigsRun.map (fun r => r.latencies.map s.latencyOf)).flatten.foldl Nat.max 0

/-- A mast takes an action at the boundary of the next step: where it was assigned to an earlier one, that step is flagged as a
late commit (R633, R67). -/
def State.flagLate (s : State) (m : Mast) (k : Nat) : State :=
  if k ≤ s.step then s.flag m .lateCommit k s.window else s

/-- A mast other than the Captain takes an action that the Captain has assigned to step `k`: a mast's own decisions are never
late (R633). -/
def State.flagFollower (s : State) (k : Nat) : State :=
  match s.captain with
  | none => s
  | some c => if s.live c.other then s.flagLate c.other k else s

/-- The hash of the device certificate (R189, R564). -/
def State.certHash (s : State) : List Byte := fit 48 (Config.sha384 (s.sec.certChain.take s.sec.leafLen))

/-- What a mast reset leaves of a mast's memories: repairs and failed units stay, everything else is wiped (R516,
R532). -/
def MemMast.mastReset (x : MemMast) : MemMast :=
  { x with banks := (List.range 16).map (fun i =>
             { ScratchBank.reset i with withdrawn := (x.banks[i]?).elim false (fun b => b.withdrawn) })
           march := [], badReads := [], granted := [] }

/-- What a mast reset leaves of a mast's lanes: a retired lane stays retired until the next power-on or package reset
(R397). -/
def LaneMast.mastReset (x : LaneMast) : LaneMast :=
  { LaneMast.reset with lanes := (x.lanes.filter (fun l => l.2.st == .retired)).map (fun l =>
      (l.1, { Lane.none with st := .retired })) }

/-- No AVS change is made: a rail is below its warning level, or was within the last 10 ms (R599). -/
def SupplyMast.avsHeld (x : SupplyMast) (now : Nat) : Bool :=
  x.rails.any (fun r => r.low || r.recoveredAt.elim false (fun t => decide (now < t + 10 * Config.msec)))

/-- The core regulators start at 0.800 V (R599). -/
def SupplyMast.restart (x : SupplyMast) : SupplyMast :=
  { x with regs := SupplyMast.reset.regs, demand := SupplyMast.reset.demand, kept := SupplyMast.reset.kept }

/-- Wipe what a mast's reset wipes (R131, R532): memories 0x00 to 0x2D, lanes, clocks, timing. -/
def State.wipeMast (s : State) (m : Mast) : State :=
  { s with
    dp := s.dp.set m .reset
    aud := s.aud.set m .reset
    vid := s.vid.set m (s.vid.get m).wiped
    lan := s.lan.set m (s.lan.get m).mastReset
    tim := s.tim.set m .reset
    clk := s.clk.set m .reset
    ptp := s.ptp.set m .reset
    sup := s.sup.set m (s.sup.get m).restart
    mem := s.mem.set m (s.mem.get m).mastReset
    alm := s.alm.set m .reset
    handovers := s.handovers.filter (fun x => x.mast != m)
    md := { s.md with mixOn := s.md.mixOn.set m false, routeOn := s.md.routeOn.set m false } }

/-- Memories at power-on: of what a mast held, the repair entries of OTP and the crow's nest stay (R107, R137, R230). -/
def MemMast.powerOn (x : MemMast) : MemMast := { MemMast.reset with repair := x.repair.filter (fun e => e.inOtp || e.inNest) }

/-- Wipe what a package reset, or a return of main power, wipes (R532). -/
def State.wipePackage (s : State) (powerOn : Bool) : State :=
  let s1 := (s.wipeMast .a).wipeMast .b
  { s1 with
    rigs := .reset
    lan := .same .reset
    mem := if powerOn then s1.mem.map MemMast.powerOn else s1.mem
    vid := if powerOn then .same .reset else s1.vid
    alarm := { s1.alarm with streams := AlarmShared.reset.streams, tests := [] }
    jobs := []
    handovers := []
    tests := [] }

/-- Entry to LOCKOUT (R127, R532): the Mix and Route dies lose their contents; mailbox and scratch banks are wiped;
their regulators are switched off (R599). -/
def State.gateForLockout (s : State) : State :=
  let off (x : SupplyMast) : SupplyMast :=
    { x with regs := (List.range x.regs.length).map (fun i => match x.regs[i]? with
        | some r => if i < 2 then { r with on := false } else r
        | none => { setMv := 0, on := false, failed := false, raisedAt := none, loweredAt := none, status := 0 }) }
  { s with
    dp := .same .reset
    aud := .same .reset
    vid := .same .reset
    rigs := .reset
    mem := s.mem.map (fun x => { x with banks := x.banks.map (fun b => { b with data := [] }), march := [] })
    port := s.port.map (fun p => { p with mailbox := .reset })
    sup := s.sup.map off
    jobs := []
    handovers := []
    tests := [] }

/-- The base of what runs: the mode, or the base mode in ALARM (R97, R99). -/
def State.runMode (s : State) : Mode := if s.md.mode = .alarm then s.md.base else s.md.mode

/-- The video crosspoint and VIDEO run (R97, R116, R121, R440). -/
def State.videoRuns (s : State) : Bool :=
  (s.runMode == .service || s.runMode == .maintain) && !s.md.shed.video

/-- Clusters taken out on a mast, as a bit map (R28). -/
def State.clustersOut (s : State) (m : Mast) : Nat := (s.mem.get m).clustersOut

/-- The masts whose instances count for capacity: both in Tandem, the surviving mast alone in Solo
(R27, R29). -/
def State.capacityMasts (s : State) : List Mast := if s.inTandem then [.a, .b] else [s.lead]

/-- Whether a cluster is available to rigs (R27, R190). -/
def State.clusterAvailable (s : State) (c : Nat) : Bool :=
  decide (c < Config.clusters s.variant) && s.capacityMasts.all (fun m => !bit (s.clustersOut m) c)

/-- Whether an output of the crosspoint is taken out on a mast that counts for capacity (R27, R29, R381). -/
def State.outputOut (s : State) (o : Nat) : Bool := s.capacityMasts.any (fun m => (s.vid.get m).outputsOut.contains o)

/-- Instruction slots of the available clusters (R190, R252). -/
def State.slotLimit (s : State) : Nat :=
  ((List.range 32).filter s.clusterAvailable).length * (if s.rate48 then 299984 else 149984)

/-- Lane pairs of a kind that are retired, or lost with their PLL, on a mast (R27, R384, R397, R448). -/
def State.lanesGone (s : State) (m : Mast) (sdi : Bool) : List Nat :=
  let retired (l : Nat) : Bool := ((s.lan.get m).lanes.getD l Lane.none).st == .retired
  let region (l : Nat) : Nat := if l < 128 then l / 32 else (l - 128) / 16
  let dead (l : Nat) : Bool := (((s.clk.get m).plls[3 + region l]?).map (fun p => p.failed)).getD false
  (if sdi then (List.range (Config.sdiPorts s.variant)).map (fun i => 128 + i) else List.range (Config.ethLanes s.variant)).filter
    (fun l => retired l || dead l)

/-- A rail of the mast is below its warning level, or within 100 ms of its recovery (R503). -/
def State.railHold (s : State) (m : Mast) : Bool :=
  (s.sup.get m).rails.any (fun r => r.low || (match r.recoveredAt with
    | some t => decide (s.now < t + 100 * Config.msec)
    | none => false))

/-- Whether writes to OTP and flash are held off (R503): a rail below its warning level, or within 100 ms of its
recovery; and in WATCH (R136). -/
def State.writesHeld (s : State) (m : Mast) : Bool :=
  s.md.mode == .watch || s.railHold m

/-! ### Video outputs -/

/-- Types of a port: 0 ST 2110-20, 1 ST 2110-22, 2 ST 2110-40, 3 SDI. -/
def sdiType : Nat := 3

/-- The type of a logical output (R347). -/
def VideoMast.outType (v : VideoMast) (o : Nat) : Nat :=
  if o < 64 then sdiType else match v.tx.find o with
    | some t => fld t.params 3 1
    | none => 0

/-- Whether an output is a passthrough path. -/
def passthrough (t : Nat) : Bool := t == 1 || t == 2

/-- A video output of a mast. -/
def VideoMast.out (v : VideoMast) (o : Nat) : XptOut := v.outputs.getD o XptOut.none

/-- Counter base of a logical output (R505). -/
def outCounter (o : Nat) : Nat := 0x2800 + 4 * o

end Sys2Proof.Machine
end

