-- ==== Sys2Proof/Machine/FaultOps.lean ====
section
/-! DEFINITION. The fault collector: classes, escalation, the log and its events, the reactions of the reef levels,
bare poles, and the resets of a mast and of the package (chapters 03 and 15). -/
namespace Sys2Proof.Machine

/-! ### Sources and sites (R484, R485) -/

/-- The kind of a SITE: bits [31:28]. -/
def siteKind (site : Nat) : Nat := bitsOf site 31 28

/-- Sources whose site kind is NONE: the Captain collects them and logs them in its own log (R483, R484). -/
def packageSource (src : Nat) : Bool :=
  [0x95, 0x96, 0x97, 0xA0, 0xA1, 0xA2, 0xA3, 0xF0, 0xF1, 0xF2, 0xF3].contains src

/-- Sources that R484 lists. -/
def knownSource (src : Nat) : Bool :=
  decide (src ≤ 0x0C) || (decide (0x20 ≤ src) && decide (src ≤ 0x2A)) || (decide (0x40 ≤ src) && decide (src ≤ 0x4B)) ||
  (decide (0x60 ≤ src) && decide (src ≤ 0x6E)) || (decide (0x80 ≤ src) && decide (src ≤ 0x86)) ||
  (decide (0x90 ≤ src) && decide (src ≤ 0x98)) || (decide (0xA0 ≤ src) && decide (src ≤ 0xA4)) ||
  (decide (0xB0 ≤ src) && decide (src ≤ 0xB4)) || (decide (0xF0 ≤ src) && decide (src ≤ 0xF3))

/-- Sources that R488 can escalate (R484). -/
def escalates (src : Nat) : Bool :=
  [0x00, 0x01, 0x02, 0x03, 0x04, 0x05, 0x08, 0x0A, 0x20, 0x21, 0x22, 0x23, 0x24, 0x28, 0x40, 0x41, 0x42, 0x46, 0x48,
   0x61, 0x62, 0x63, 0x65, 0x81, 0x83, 0x92, 0x93].contains src

/-- Sources whose report starts a targeted self-test (R484, R497). -/
def namesTest (src : Nat) : Bool :=
  [0x00, 0x01, 0x02, 0x03, 0x04, 0x05, 0x06, 0x20, 0x22, 0x23, 0x24, 0x25, 0x40, 0x41, 0x42, 0x46, 0x48, 0x90, 0x91,
   0x92].contains src

/-- Datapath errors, whose class R250 gives by the state of the mast. -/
def datapathSource (src : Nat) : Bool := [0x00, 0x02, 0x03, 0x04, 0x05, 0x23].contains src

/-- A CAPTAIN in Tandem: Reef 3; anything else: Reef 2 (R250, R429, R448). -/
def State.reefByRole (s : State) (m : Mast) : Nat := if s.tst m = .captain && s.inTandem then 3 else 2

/-- The level at which a report is first classified (R484); 4 stands for bare poles. `late` marks the reports whose
row gives a second class: 0x63 not relocked within 10 ms, 0x67 after 8 tries. `none`: no report (R250, JOINING). -/
def State.classOf (s : State) (m : Mast) (src site : Nat) (late : Bool) : Option Nat :=
  if datapathSource src then (if s.tst m = .joining then none else some (s.reefByRole m))
  else if src = 0x09 then some (if s.clusterUsed m (site % 32) then 3 else 2)
  else if src = 0x61 || src = 0x66 then some (s.reefByRole m)
  else if src = 0x62 then some (if s.videoRuns then s.reefByRole m else 2)
  else if src = 0x63 || src = 0x67 then some (if late then 2 else 1)
  else if [0x06, 0x25, 0x4A, 0x68, 0x6D, 0x90].contains src then some 0
  else if [0x07, 0x0C, 0x26, 0x2A, 0x4B, 0x60, 0x64, 0x82, 0x85, 0x91, 0x94].contains src then some 3
  else if [0x08, 0x0A, 0x21, 0x28, 0x43, 0x47, 0x49, 0x65, 0x6A, 0x6C, 0x81, 0x83, 0x86, 0x93, 0x98, 0xA0, 0xA1, 0xA4,
           0xB0, 0xB1, 0xB3].contains src then some 2
  else if src ≥ 0xF0 || src = 0xA2 || src = 0xA3 then some 4
  else some 1

/-! ### The log (R492 to R496) -/

/-- The fault collector of a mast. -/
def State.fl (s : State) (m : Mast) : FaultState := s.flt.get m

/-- Replace the fault collector of a mast. -/
def State.setFl (s : State) (m : Mast) (f : FaultState) : State := { s with flt := s.flt.set m f }

/-- Put a report in the log writer's queue of 64; a report that finds it full counts as lost (R493). -/
def State.queueReport (s : State) (m : Mast) (r : QueuedReport) : State :=
  let f := s.fl m
  if f.queue.length ≥ 64 then s.bump m 0x0101 1 else s.setFl m { f with queue := f.queue ++ [r] }

/-- Remove the oldest entry that may be overwritten: at Reef 0 or Reef 1, or acknowledged (R493). -/
def dropOverwritable : List LogEntry → Option (List LogEntry)
  | [] => none
  | e :: rest =>
    if decide (e.reef ≤ 1) || e.acked then some rest
    else match dropOverwritable rest with
      | some rest' => some (e :: rest')
      | none => none

/-- The log with room for one more entry, if a slot qualifies (R493). -/
def logRoom (log : List LogEntry) : Option (List LogEntry) :=
  if log.length < 512 then some log else dropOverwritable log

/-- The event of an entry of Reef 1 or above: EV_SAG for source 0x80, EV_FAULT_SUMMARY for a summary, else EV_FAULT
(R487, R494, R495). -/
def State.faultEvent (s : State) (m : Mast) (r : QueuedReport) (id : Nat) : State :=
  if r.reef = 0 then s
  else
    let origin := if packageSource r.source then 2 else m.code
    if r.source = 0x80 && !r.summary then
      s.eventFull origin r.reef 1 evSag r.step
        (be 1 (r.site % 16) ++ zeros 1 ++ be 2 r.depthMv ++ be 4 r.durationNs)
    else
      s.eventFull origin r.reef r.count (if r.summary then evFaultSummary else evFault) r.step
        (be 4 id ++ be 2 r.source ++ be 1 (b01 r.lasting + 2 * b01 r.capacity + 4 * b01 r.escalated) ++ zeros 1 ++
          be 4 r.site)

/-- The next ENTRY_ID: 0xFFFF_FFFF is never used (R492). -/
def nextEntryId (n : Nat) : Nat := if n + 1 ≥ 0xFFFFFFFF then 1 else n + 1

/-- Write one report as a log entry and raise its event (R493, R495). -/
def State.writeEntry (s : State) (m : Mast) (r : QueuedReport) : State :=
  let f := s.fl m
  match logRoom f.log with
  | none => (s.bump m 0x0101 1).faultEvent m r 0xFFFFFFFF
  | some log =>
    let e : LogEntry :=
      { id := f.nextId, source := r.source, reef := r.reef, acked := false, summary := r.summary, lasting := r.lasting,
        escalated := r.escalated, step := r.step, count := r.count, site := r.site }
    let reg : EscReg :=
      { site := r.site, level := r.reef, acked := false, escalated := r.escalated, entry := f.nextId }
    let s1 := s.setFl m { f with log := log ++ [e], nextId := nextEntryId f.nextId, regs := f.regs.put r.source reg }
    let s2 := s1.bump m 0x0100 1
    (if r.summary then s2.bump m 0x0103 1 else s2).faultEvent m r e.id

/-- The log writer takes one report from its queue (R493). -/
def State.logWrite (s : State) (m : Mast) : State :=
  match (s.fl m).queue with
  | [] => s
  | r :: rest => (s.setFl m { s.fl m with queue := rest }).writeEntry m r

/-- Close the burst of a source: a summary where reports were coalesced (R494). -/
def State.closeBurst (s : State) (m : Mast) (src : Nat) : State :=
  match (s.fl m).bursts.find src with
  | none => s
  | some b =>
    let s1 := s.setFl m { s.fl m with bursts := (s.fl m).bursts.drop src }
    if b.coalesced = 0 then s1
    else s1.queueReport m
      { source := src, reef := b.level, site := b.site, step := b.step, escalated := false, lasting := false,
        capacity := false, summary := true, count := b.coalesced, depthMv := 0, durationNs := 0 }

/-- Close every open burst and write what the queue holds, before a reset or LOCKOUT proceeds (R494). -/
def State.flushLog (s : State) (m : Mast) : State :=
  let s1 := ((s.fl m).bursts).foldl (fun acc b => acc.closeBurst m b.1) s
  ((s1.fl m).queue).foldl (fun acc _ => acc.logWrite m) s1

/-- Log a report outright, with no class, escalation or reaction of its own: for reports a reaction itself raises. -/
def State.logOnly (s : State) (m : Mast) (src level site : Nat) : State :=
  (s.bump m src 1).queueReport m
    { source := src, reef := level, site := site, step := s.step, escalated := false, lasting := false,
      capacity := false, summary := false, count := 1, depthMv := 0, durationNs := 0 }

/-! ### Resets and LOCKOUT -/

/-- What a mast reset leaves of a mast's counters: source and collector counters last (R492, R504); a frozen shadow
set counts as lost by reset (R509). -/
def Counters.mastReset (c : Counters) : Counters :=
  { c with
    vals := c.vals.filter (fun p => decide (p.1 < 0x0140))
    gauges := []
    recent := c.recent.filter (fun r => decide (r.2.1 < 0x0140))
    shadow := []
    shadowGauges := []
    shadowAbsent := if c.shadowEpoch = 0 then none else some 3 }

/-- What a mast reset leaves of a mast's collector: the log, its registers and the transient history (R492, R498);
pending tests are abandoned. -/
def FaultState.mastReset (f : FaultState) : FaultState := { f with tests := [], copies := [], bursts := [], queue := [] }

/-- A site is a row of a memory whose id lies in a range (R485, R486). -/
def rowSite (lo hi site : Nat) : Bool :=
  siteKind site == 3 && decide (lo ≤ bitsOf site 25 20) && decide (bitsOf site 25 20 ≤ hi)

/-- A wipe of memories of a mast ends the work on their rows (R534): targeted tests are abandoned and counted, and row copies
end. -/
def State.wipeRows (s : State) (m : Mast) (wiped : Nat → Bool) : State :=
  let f := s.fl m
  (s.setFl m { f with tests := f.tests.filter (fun t => !wiped t.site)
                      copies := f.copies.filter (fun c => !wiped c.1) }).bump m 0x010A
    (f.tests.filter (fun t => wiped t.site)).length

/-- Abort the marches of a kind, each with EV_TEST_ABORTED (R125, R526, R534). -/
def State.abortMarchesOf (s : State) (kind : March → Bool) : State :=
  let marches := (s.mem.a.march ++ s.mem.b.march.filter (fun x => !s.mem.a.march.contains x)).filter kind
  let s1 : State := { s with mem := s.mem.map (fun x => { x with march := x.march.filter (fun y => !kind y) }) }
  marches.foldl (fun acc x => acc.event 2 evTestAborted (be 1 0 ++ zeros 1 ++ be 2 (x.target * 256 + x.index % 256))) s1

/-- Abort every march. -/
def State.abortMarches (s : State) : State := s.abortMarchesOf (fun _ => true)

/-- The mast settled to become CAPTAIN leaves BOOT: the other does, if it has completed phase H (R47, R109). -/
def State.reelect (s : State) (m : Mast) : Option Mast :=
  if s.md.elect = some m then
    (if decide (9 ≤ (s.md.boot.get m.other).phase) || (s.md.boot.get m.other).ready then some m.other else none)
  else s.md.elect

/-- A mast reset (R131): its log is flushed, its sessions close, its memories are wiped, and its BOOT begins, unless it has
failed BOOT for good (R109). `kind` is the reset cause of R191. -/
def State.resetMast (s : State) (m : Mast) (kind : Nat) : State :=
  let s1 := ((s.flushLog m).wipeRows m (fun _ => true)).setTst m .out
  let s2 := s1.wipeMast m
  let b := s2.md.boot.get m
  let b1 : BootState :=
    { BootState.off with powerGood := b.powerGood, phase := if b.powerGood && !b.held && !b.failed then 1 else 0, startedAt := s2.now,
                         retried := decide (kind = 9), failed := b.failed, held := b.held, powerOn := false, package := false, watchdogAt := s2.now }
  let s3 : State :=
    { s2 with
      flt := s2.flt.set m (s2.fl m).mastReset
      ctr := s2.ctr.set m (s2.ct m).mastReset
      port := s2.port.set m HostPort.reset
      tan := { s2.tan with m := s2.tan.m.set m (s2.mt m).restart
                           join := match s2.tan.join with
                             | some j => if j.mast = m then none else some j
                             | none => none
                           waitsRig := s2.tan.waitsRig.set m false
                           resetCause := s2.tan.resetCause.set m none }
      md := { s2.md with boot := s2.md.boot.set m b1, elect := s2.reelect m } }
  s3.recordReset kind m.code

/-- A mast goes OUT and keeps its reset, with its cause, until its dies have cooled (R607): its Mix and Route dies are off. -/
def State.awaitCool (s : State) (m : Mast) (kind : Nat) : State :=
  let s1 := s.setTst m .out
  { s1 with
    tan := { s1.tan with join := s1.tan.join.filter (fun j => j.mast != m)
                         resetCause := s1.tan.resetCause.set m (some kind) }
    md := { s1.md with mixOn := s1.md.mixOn.set m false, routeOn := s1.md.routeOn.set m false } }

/-- The reset of one mast: at once, or once its dies have cooled (R131, R607). -/
def State.mastReset (s : State) (m : Mast) (kind : Nat) : State :=
  if (s.sup.get m).hot then s.awaitCool m kind else s.resetMast m kind

/-- Restart a seat's sequences and empty its ledger (R161, R564). -/
def SeatState.restart (st : SeatState) : SeatState :=
  { st with lastHostSeq := 0, devSeq := 0, ackPos := 0, accepted := [], cached := [], ledger := [], stickyAudio := 0,
            stickyVideo := 0 }

/-- A package reset (R131, R161, R532): every session ends unrecorded, sequences and ledgers restart, BOOT_COUNT
rises, and both masts boot. The crow's nest contents, the fault log, OTP and flash stay. -/
def State.packageReset (s : State) (kind : Nat) (powerOn : Bool) : State :=
  let s1 := (((s.flushLog .a).flushLog .b).wipeRows .a (fun _ => true)).wipeRows .b (fun _ => true)
  let s2 := s1.wipePackage powerOn
  let boot (m : Mast) : BootState :=
    let b := s2.md.boot.get m
    { BootState.off with powerGood := b.powerGood, phase := if b.powerGood && !b.held && !(s2.sup.get m).hot then 1 else 0, startedAt := s2.now,
                         held := b.held, powerOn := powerOn, package := true, watchdogAt := s2.now }
  let s3 : State :=
    { s2 with
      hal := { s2.hal with seats := s2.hal.seats.map SeatState.restart, sessions := [], sched := [], loads := [],
                           rampDefault := 5, rampDefaults := [] }
      port := .same .reset
      ctr := s2.ctr.map Counters.mastReset
      flt := s2.flt.map FaultState.mastReset
      tan := { Tandem.reset with m := s2.tan.m.map MastTandem.restart
                                 pairing := { s2.tan.pairing with paired := false, tracking := 0 }
                                 lastSwitchStep := s2.tan.lastSwitchStep, lastCause := s2.tan.lastCause }
      sec := { s2.sec with writes := [], heldOtp := [] }
      snap := { s2.snap with pendingAt := none, frozenAt := none, epoch := if powerOn then 0 else s2.snap.epoch }
      md := { ModeState.reset with bootCount := s2.md.bootCount + 1, nest := s2.md.nest, onBatt := s2.md.onBatt,
                                   battAt := s2.md.battAt, vnestLow := s2.md.vnestLow,
                                   boot := { a := boot .a, b := boot .b }, resetFall := s2.md.resetFall } }
  s3.recordReset kind 2

/-- Enter LOCKOUT at bare poles (R94, R127, R128, R582): a Primary sends its notice, the record is written, every output is forced safe, the Mix and
Route dies are gated, roles freeze. Sessions of roles other than AUDITOR end (R129, R179), and at a tamper every
session ends. -/
def State.lockout (s : State) (source : Nat) (tamper : Bool) : State :=
  if s.md.mode = .lockout then s
  else
    let rec0 : LockoutRecord :=
      { valid := true, mode := s.md.mode.code, source := source, step := s.step, rtc := s.md.nest.rtc,
        stateA := (s.tst .a).code, stateB := (s.tst .b).code, resetTries := 0 }
    let gone (x : Nat) : Bool := rowSite 0 0x29 x || rowSite 0x2B 0x2C x
    let s1 := (((s.abortMarches.flushLog .a).flushLog .b).wipeRows .a gone).wipeRows .b gone
    let cap := s1.captain
    let s2 := s1.closeWhere (fun x => tamper || (s1.seat x.seat).role != 1) 4
    let notice := s2.tan.pairing.paired && s2.tan.pairing.role != 2
    let safe (t : MastTandem) : MastTandem := { t with drive := { t.drive with allSafe := true, packets := false } }
    let s3 : State :=
      { s2 with
        tan := { s2.tan with m := s2.tan.m.map safe, join := none
                             pairing := { s2.tan.pairing with noticeSent := s2.tan.pairing.noticeSent || notice } }
        hal := { s2.hal with sched := [], loads := [] }
        md := { s2.md with nest := { s2.md.nest with lockout := rec0 }, lockCaptain := cap, fallbackDriver := cap,
                           mixOn := .same false, routeOn := .same false, wake := none, watchFadeEnd := none,
                           shed := Shed.none } }
    (s3.gateForLockout).enterMode .lockout s3.md.base 4

/-! ### Taking a mast out (R67, R74, R79, R491) -/

/-- Bare poles because no mast can be CAPTAIN: source 0xA2 (R46, R74, R88). -/
def State.noCaptain (s : State) : State := (s.logOnly s.lead 0xA2 4 0).lockout 0xA2 false

/-- Modes in which a Captain runs. -/
def Mode.led : Mode → Bool
  | .watch => true
  | .quiet => true
  | .service => true
  | .alarm => true
  | .maintain => true
  | .vault => false
  | .boot => false
  | .lockout => false

/-- After a mast has gone OUT: a planned swap to it ends with the old Captain keeping its role, and where no mast can be
CAPTAIN the package goes to bare poles (R46, R83, R88). -/
def State.settleLead (s : State) : State :=
  if !s.md.mode.led || s.canLead .a || s.canLead .b then s
  else
    match s.captain with
    | some c => if s.tan.planned then s.keepRole c else s.noCaptain
    | none => s.noCaptain

/-- Decisions at Reef 3 from one source within 60 s (R491). -/
def State.reef3Count (s : State) (m : Mast) (source : Nat) : Nat :=
  ((s.tan.reef3.get m).filter (fun d => d.1 == source && decide (s.now ≤ d.2 + 60 * Config.second))).length

/-- A mast's BOOT runs. -/
def State.bootRuns (s : State) (m : Mast) : Bool := (s.md.boot.get m).phase != 0 || (s.md.boot.get m).ready

/-- A Reef 3 decision on a mast (R491): a CAPTAIN in Tandem yields its role and is reset after the switch-over; a
CAPTAIN without a Stoker yields, and takes the package to bare poles; a STOKER or JOINING mast goes OUT and is reset at once.
In the overlap of a switch-over both masts are CAPTAIN (R46): the one that yields goes OUT as it would, and the new one goes
OUT only where the old one, healthy after a planned swap, can keep the role. More
than 2 decisions from one source within 60 s hold the mast OUT and raise source 0xA1. -/
def State.takeOut (s : State) (m : Mast) (source resetKind : Nat) : State :=
  if s.md.mode = .lockout || s.md.mode = .vault then s
  else
    let recent := (s.tan.reef3.get m).filter (fun d => decide (s.now ≤ d.2 + 60 * Config.second))
    let s0 : State := { s with tan := { s.tan with reef3 := s.tan.reef3.set m (recent ++ [(source, s.now)]) } }
    let s1 : State :=
      if s0.reef3Count m source > 2 then
        ({ s0 with tan := { s0.tan with barred := s0.tan.barred.set m true } }).logOnly m.other 0xA1 2 0
      else s0
    let s1 := s1.bump m 0x0105 1
    match s1.tst m with
    | .captain =>
      if s1.inTandem || (s1.isCaptain m.other && (s1.mt m).yields) then
        let s2 := s1.yieldRole m false source
        let t := s2.mt m
        let s3 := s2.setMt m { t with drive := { t.drive with liveSafe := true, packets := false } }
        { s3 with tan := { s3.tan with resetCause := s3.tan.resetCause.set m (some resetKind) } }
      else if s1.isCaptain m.other && s1.tan.planned then (s1.keepRole m.other).mastReset m resetKind
      else (s1.yieldRole m false source).noCaptain
    | .stoker => (s1.mastReset m resetKind).settleLead
    | .joining => s1.mastReset m resetKind
    | .out => if s1.bootRuns m then s1.mastReset m resetKind else s1

/-! ### A report reaches the collector (R487, R488, R494, R497) -/

/-- Whether a report repeats the source's most recent entry (R488). -/
def State.repeats (s : State) (m : Mast) (src site level : Nat) : Bool :=
  match (s.fl m).regs.find src with
  | some r => decide (r.site = site) && decide (r.level = level) && !r.acked && !r.escalated
  | none => false

/-- Start the targeted self-test of a report's site, at most one pending per site (R497). -/
def State.startTest (s : State) (m : Mast) (src site : Nat) : State :=
  let f := s.fl m
  if namesTest src && !(f.tests.any (fun t => t.site == site)) then
    (s.setFl m { f with tests := f.tests ++ [{ site := site, source := src, startedAt := s.now }] }).bump m 0x0109 1
  else s

/-- The reset record's cause for a Reef 3 source: a rail at its reset level is cause 7, every other source cause 6
(R191). -/
def resetCauseOf (src : Nat) : Nat := if src = 0x82 then 7 else 6

/-- What a report carries besides its source and site. -/
structure ReportInfo where
  step : Nat
  late : Bool
  lasting : Bool
  capacity : Bool
  depthMv : Nat
  durationNs : Nat
  deriving DecidableEq, Repr

/-- A report with nothing more to say. -/
def ReportInfo.plain (step : Nat) : ReportInfo :=
  { step := step, late := false, lasting := false, capacity := false, depthMv := 0, durationNs := 0 }

/-- The burst of a source that a report falls into: within 1 ms of its last report (R494). -/
def State.burstOf (s : State) (own : Mast) (src : Nat) : Option Burst :=
  ((s.fl own).bursts.find src).filter (fun b => decide (s.now < b.last + Config.msec))

/-- A report within a burst is coalesced into it (R494). -/
def State.coalesce (s : State) (own : Mast) (src site level step : Nat) (b : Burst) : State :=
  let b1 : Burst := { b with last := s.now, coalesced := b.coalesced + 1, site := site, level := level, step := step }
  (s.setFl own { s.fl own with bursts := (s.fl own).bursts.put src b1 }).bump own 0x0102 1

/-- A report ends the burst of its source, opens a new one, and goes to the log writer's queue (R488, R493, R494). -/
def State.openBurst (s : State) (own : Mast) (src site level : Nat) (esc : Bool) (i : ReportInfo) : State :=
  let s1 := s.closeBurst own src
  let f := s1.fl own
  let q : QueuedReport :=
    { source := src, reef := level, site := site, step := i.step, escalated := esc, lasting := i.lasting,
      capacity := i.capacity, summary := false, count := 1, depthMv := i.depthMv, durationNs := i.durationNs }
  let b : Burst := { last := s1.now, coalesced := 0, site := site, level := level, step := i.step }
  let r : EscReg := { site := site, level := level, acked := false, escalated := esc, entry := 0 }
  (s1.setFl own { f with bursts := f.bursts.put src b, regs := f.regs.put src r }).queueReport own q

/-- A classified report is coalesced or queued; an escalated one is never coalesced (R488, R494). -/
def State.collect (s : State) (own : Mast) (src site level : Nat) (esc : Bool) (i : ReportInfo) : State :=
  match (if esc then none else s.burstOf own src) with
  | some b => s.coalesce own src site level i.step b
  | none => s.openBurst own src site level esc i

/-- The reaction of a reef level: bare poles at 4, the mast taken out at 3 (R487, R491). -/
def State.react (s : State) (m : Mast) (src level : Nat) : State :=
  if level = 4 then s.lockout (if src ≥ 0xF0 || src = 0xA3 then 0xFFFF else src) (decide (src ≥ 0xF0))
  else if level = 3 then s.takeOut m src (resetCauseOf src)
  else s

/-- A report reaches the collector of a mast: it counts, is classified and escalated, coalesced or queued for the log,
its test starts, and the reaction of its level follows (R487 to R491, R494, R497), but for the repair of an escalated
Reef 2 report. -/
def State.reportCore (s : State) (m : Mast) (src site : Nat) (i : ReportInfo) : State :=
  if !knownSource src then s
  else
    match s.classOf m src site i.late with
    | none => s.startTest m src site
    | some cls =>
      let own := if packageSource src then s.lead else m
      let s1 := s.bump own src 1
      let esc := escalates src && s1.repeats own src site cls && decide (cls < 3)
      let level := if esc then cls + 1 else cls
      let s2 := ((if esc then s1.bump own 0x0104 1 else s1).collect own src site level esc i).startTest m src site
      (if datapathSource src && s2.tst m = .stoker then s2.flag m .datapath i.step s2.window else s2).react m src level

/-! ### Repair of lasting faults (R28, R231, R381, R499) -/

/-- A report of a repair: Reef 2, lasting, and whether capacity changed (R499). -/
def State.repairReport (s : State) (m : Mast) (src site : Nat) (capacity : Bool) : State :=
  s.reportCore m src site { ReportInfo.plain s.step with lasting := true, capacity := capacity }

/-- Replace the memories of a mast. -/
def State.setMem (s : State) (m : Mast) (x : MemMast) : State := { s with mem := s.mem.set m x }

/-- A cluster is taken out (R28): capacity goes, and source 0x09 is raised. -/
def State.clusterOut (s : State) (m : Mast) (c : Nat) : State :=
  let x := s.mem.get m
  if bit x.clustersOut c then s
  else (s.setMem m { x with clustersOut := x.clustersOut + 2 ^ c }).repairReport m 0x09 (0x20000000 + c) true

/-- A MAC unit fails for good (R231): the first of its cluster hops to the spare at the next step boundary; a second takes the
cluster out. -/
def State.unitFailed (s : State) (m : Mast) (site : Nat) : State :=
  let x := s.mem.get m
  let c := bitsOf site 12 8
  let u := c * 32 + site % 32
  if x.unitsOut.any (fun v => v.1 == u) then s
  else
    let others := x.unitsOut.any (fun v => v.1 / 32 == c)
    let s1 := s.setMem m { x with unitsOut := x.unitsOut ++ [(u, s.step + 1)] }
    if others then s1.clusterOut m c else s1.repairReport m 0x08 site false

/-- The source that reports a row of a memory retired (R484). -/
def retiredSource (memory : Nat) : Nat := if memory < 0x24 then 0x0A else if memory < 0x2A then 0x28 else 0x93

/-- Spares of a bank that are not free: its map uses them, or they are never assigned again (R527). `typ` is 1 for rows, 2 for
columns. -/
def MemMast.takenSpares (x : MemMast) (typ memory bank : Nat) : List Nat :=
  (x.repair.filter (fun e => e.memory == memory && e.bank == bank && e.typ == typ)).map (fun e => e.spare) ++
  (x.spent.filter (fun e => e.1 == typ && e.2.1 == memory && e.2.2.1 == bank)).map (fun e => e.2.2.2)

/-- Spare rows of a bank that are not free. -/
def MemMast.rowSpares (x : MemMast) (memory bank : Nat) : List Nat := x.takenSpares 1 memory bank

/-- A spare is marked used for good (R527). -/
def MemMast.spend (x : MemMast) (typ memory bank spare : Nat) : MemMast :=
  { x with spent := (x.spent ++ [(typ, memory, bank, spare)]).eraseDups }

/-- A new entry of the map, in the crow's nest and pending for OTP (R527 to R529). An older entry for the same row or column no longer
applies: it is revoked in OTP, or dropped where it had not reached it, and its spare is not assigned again (log entry 116). -/
def MemMast.addRepair (x : MemMast) (typ memory bank spare index : Nat) : MemMast :=
  let old (e : RepairEntry) : Bool := e.typ == typ && e.memory == memory && e.bank == bank && e.index == index
  { x with
    repair := ((x.repair.filter (fun e => !old e || e.inOtp)).map (fun e => if old e then { e with typ := 3 } else e)) ++
      [{ typ := typ, memory := memory, bank := bank, spare := spare, index := index, pending := true, inOtp := false,
         inNest := true }]
    spent := (x.spent ++ (x.repair.filter old).map (fun e => (typ, memory, bank, e.spare))).eraseDups }

/-- The lowest spare row of a bank that is free. -/
def MemMast.freeRow (x : MemMast) (memory bank : Nat) : Option Nat :=
  (List.range 8).find? (fun i => !(x.rowSpares memory bank).contains i)

/-- The logical outputs whose slack buffers hold a row of slack memory, laid out in order of output, 5,120 words each
(R364; the layout within the memory is PRESUMED, log entry 11). -/
def slackOutputs (region bank row : Nat) : List Nat :=
  let w := (bank * 2048 + row) * 64
  [384 * region + w / 5120, 384 * region + (w + 63) / 5120].eraseDups.filter (fun o => decide (o < 384 * region + 384))

/-- Outputs are taken out on a mast for want of a cell or of a buffer row, and enter HOLD_BLACK (R381). -/
def State.outputsGone (s : State) (m : Mast) (outs : List Nat) : State :=
  let v := s.vid.get m
  let hold (w : VideoMast) : VideoMast :=
    { w with outputs := w.outputs.map (fun x => if outs.contains x.1 then (x.1, x.2.hold) else x) }
  let s1 : State := { s with vid := s.vid.set m { v with outputsOut := (v.outputsOut ++ outs).eraseDups } }
  { s1 with vid := s1.vid.map hold }

/-- A row finds no spare in its bank (R499). -/
def State.noSpareRow (s : State) (m : Mast) (site : Nat) : State :=
  let memory := bitsOf site 25 20
  let bank := bitsOf site 19 16
  let x := s.mem.get m
  let s1 := s.setMem m { x with noSpare := (x.noSpare ++ [memory * 16 + bank]).eraseDups }
  if memory < 0x20 then s1.clusterOut m memory
  else if 0x24 ≤ memory ∧ memory < 0x28 then
    (s1.outputsGone m (slackOutputs (memory - 0x24) bank (site % 65536))).repairReport m (retiredSource memory) site true
  else if memory = 0x2C then
    let y := s1.mem.get m
    let banks := (List.range y.banks.length).map (fun i => match y.banks[i]? with
      | some b => if i = bank then { b with withdrawn := true } else b
      | none => ScratchBank.reset i)
    (s1.setMem m { y with banks := banks }).repairReport m (retiredSource memory) site true
  else (s1.logOnly m (retiredSource memory) 3 site).takeOut m (retiredSource memory) 6

/-- A memory row is retired to the lowest free spare row of its bank; its copy begins (R499). -/
def State.retireRow (s : State) (m : Mast) (site : Nat) : State :=
  let memory := bitsOf site 25 20
  let bank := bitsOf site 19 16
  let x := s.mem.get m
  match x.freeRow memory bank with
  | none => s.noSpareRow m site
  | some sp =>
    let s1 := s.setMem m { x.addRepair 1 memory bank sp (site % 65536) with rowsSpared := x.rowsSpared + 1 }
    let f := s1.fl m
    (s1.setFl m { f with copies := f.copies ++ [(site, s1.now)] }).repairReport m (retiredSource memory) site false

/-- The cells of a Route region after failures in order: outputs moved to a spare cell, cells failed, and outputs left
without one (R381): the lowest free spare of the region takes over. -/
def cellPlan (failed : List Nat) : Assoc Nat × List Nat × List Nat :=
  failed.foldl (fun acc c =>
    let moved := acc.1
    let bad := acc.2.1 ++ [c]
    let owner : Option Nat := match moved.find? (fun x => x.2 == c) with
      | some x => some x.1
      | none => if c < 384 then (if (Assoc.find moved c).isNone then some c else none) else none
    match owner with
    | none => (moved, bad, acc.2.2)
    | some k =>
      match ((List.range 8).map (fun i => 384 + i)).find? (fun sp => !bad.contains sp && !moved.any (fun x => x.2 == sp)) with
      | some sp => (Assoc.put moved k sp, bad, acc.2.2)
      | none => (moved, bad, acc.2.2 ++ [k])) ([], [], [])

/-- A crosspoint cell fails for good (R381, R499): a spare of its region serves, up to 8; then its output is taken
out. -/
def State.cellFailed (s : State) (m : Mast) (site : Nat) : State :=
  let v := s.vid.get m
  let cell := site % 2048
  let region := cell / 512
  if v.cellsOut.any (fun c => c.1 == cell) then s
  else
    let mine (l : List (Nat × Nat)) : List Nat := (l.filter (fun c => c.1 / 512 == region)).map (fun c => c.1 % 512)
    let cells := v.cellsOut ++ [(cell, s.step + 1)]
    let old := (cellPlan (mine v.cellsOut)).2.2
    let new := ((cellPlan (mine cells)).2.2).filter (fun o => !old.contains o)
    let s1 : State := { s with vid := s.vid.set m { v with cellsOut := cells } }
    if new.isEmpty then s1.repairReport m 0x21 site false
    else (s1.outputsGone m (new.map (fun o => 384 * region + o))).repairReport m 0x21 site true

/-- A lane is retired (R397, R499). -/
def State.retireLane (s : State) (m : Mast) (site : Nat) : State :=
  let l := site % 256
  let x := s.lan.get m
  (({ s with lan := s.lan.set m { x with lanes := x.lanes.put l { x.lanes.getD l Lane.none with st := .retired } } } : State)).repairReport
    m 0x43 site true

/-- Repair a lasting fault by the kind of its site (R499). -/
def State.repair (s : State) (m : Mast) (site : Nat) : State :=
  match siteKind site with
  | 1 => s.unitFailed m site
  | 3 => s.retireRow m site
  | 4 => s.cellFailed m site
  | 5 => s.retireLane m site
  | _ => s

/-- A report with all that follows it: a report raised to Reef 2 by escalation takes its source's repair (R488). -/
def State.reportInfo (s : State) (m : Mast) (src site : Nat) (i : ReportInfo) : State :=
  let own := if packageSource src then s.lead else m
  let raised := match s.classOf m src site i.late with
    | some 1 => escalates src && s.repeats own src site 1
    | _ => false
  let s1 := s.reportCore m src site i
  if raised && namesTest src then s1.repair m site else s1

/-- A plain report, detected in the current step. -/
def State.report (s : State) (m : Mast) (src site : Nat) : State := s.reportInfo m src site (.plain s.step)

end Sys2Proof.Machine
end

