-- ==== Sys2Proof/Machine/Records.lean ====
section
/-! DEFINITION. The records a reply carries: IDENT, CAPS, the lockout record, ledger entries (R164, R189 to R191). -/
namespace Sys2Proof.Machine

/-- The IDENT record (R189): 144 bytes. -/
def State.ident (s : State) : List Byte :=
  be 2 0x0D7A ++ be 2 0x0EA2 ++ be 2 s.sec.stepping ++ zeros 2 ++ fit 16 s.sec.serial ++ be 4 s.sec.fwVersion ++
  be 4 s.sec.rollback ++ be 4 s.md.bootCount ++ be 1 s.sec.lifecycle ++ be 1 (b01 s.md.nest.rtcValid) ++ zeros 2 ++
  be 8 s.md.nest.rtc ++ s.certHash ++
  (match s.sec.profile with
   | some p => fit 48 p.hash
   | none => zeros 48)

/-- CLUSTER_MAP of CAPS (R190). -/
def State.clusterMap (s : State) : Nat :=
  (List.range 32).foldl (fun acc c => if s.clusterAvailable c then acc + 2 ^ c else acc) 0

/-- Clusters available to rigs. -/
def State.clustersAvailable (s : State) : Nat := ((List.range 32).filter s.clusterAvailable).length

/-- Lane pairs of a kind left after retirement on any counted mast (R27, R190); an SDI port counts only with its output's
crosspoint column (R345, R381). -/
def State.lanesAvailable (s : State) (sdi : Bool) (total : Nat) : Nat :=
  let lanes := (s.capacityMasts.map (fun m => s.lanesGone m sdi)).flatten
  let columns := if sdi then ((List.range total).filter s.outputOut).map (fun i => 128 + i) else []
  total - ((lanes ++ columns).eraseDups).length

/-- Video flow ports in each direction whose crosspoint column is available (R27, R190, R381). -/
def State.flowPorts (s : State) : Nat :=
  if Config.hasVideo s.variant then 1472 - ((List.range 1472).filter (fun i => s.outputOut (64 + i))).length else 0

/-- The CAPS record (R190): 64 bytes. -/
def State.caps (s : State) : List Byte :=
  let v := s.variant
  let full := decide (Config.mixRegions v = 4)
  be 2 1 ++ be 2 64 ++ be 1 (Config.variantCode v) ++ be 1 (if s.rate = 48000 then 1 else 0) ++
  be 1 s.tan.pairing.role ++ be 1 (b01 (!s.inTandem)) ++ be 1 (if full then 0x0F else 0x03) ++
  be 1 (if full then 0x0F else 0x01) ++ be 1 (if full then 0x0F else 0x00) ++ zeros 1 ++ be 4 s.clusterMap ++
  be 4 (16 * s.clustersAvailable) ++ be 4 s.slotLimit ++ be 4 (65536 * s.clustersAvailable) ++
  be 4 Config.delayWords ++ be 4 (Config.mixPoints v) ++ be 2 (Config.audioChannels v) ++
  be 2 (Config.audioChannels v) ++ be 2 (Config.streams v) ++ be 2 (Config.streams v) ++ be 1 16 ++ be 1 16 ++
  be 1 64 ++ be 1 64 ++ be 1 (s.lanesAvailable false (Config.ethLanes v)) ++
  be 1 (s.lanesAvailable true (Config.sdiPorts v)) ++ be 2 s.flowPorts ++ be 2 4096 ++
  be 1 (if Config.hasVideo v then 36 else 0) ++ be 1 8 ++ be 2 512 ++ be 1 8 ++ be 1 64 ++ be 4 Config.rigSlotBytes

/-- One reset entry (R191). -/
def ResetEntry.bytes (e : ResetEntry) : List Byte := be 1 e.cause ++ be 1 e.mast ++ zeros 2 ++ be 4 e.bootCount ++ be 8 e.rtc

/-- The lockout record with the reset record (R191): 152 bytes. -/
def State.lockoutBytes (s : State) : List Byte :=
  let r := s.md.nest.lockout
  be 1 (b01 r.valid) ++ be 1 r.mode ++ be 2 r.source ++ be 8 r.step ++ be 8 r.rtc ++ be 1 r.stateA ++ be 1 r.stateB ++
  be 2 r.resetTries ++ fit 128 (s.md.nest.resets.map ResetEntry.bytes).flatten

/-- One ledger entry as 64 bytes (R164). -/
def LedgerEntry.bytes (e : LedgerEntry) : List Byte :=
  be 1 e.kind ++ be 1 e.mast ++ be 2 e.opcode ++ be 2 e.flags ++ be 2 e.status ++ be 4 e.hostSeq ++ be 4 e.devSeq ++
  be 8 e.effStep ++ be 4 e.payloadLen ++ be 4 e.session ++ fit 32 e.head

/-- The oldest device sequence a seat's ledger holds once its next reply has been entered (R154, R165). -/
def SeatState.oldestAfter (st : SeatState) : Nat :=
  match (if st.ledger.length ≥ Config.ledgerEntries then st.ledger.drop 1 else st.ledger) with
  | e :: _ => e.devSeq
  | [] => (st.devSeq + 1) % 2 ^ 32

end Sys2Proof.Machine
end

