-- ==== Sys2Proof/Machine/MixOps.lean ====
section
/-! DEFINITION. Shared operations on rigs and the datapath at the level of the package: the rig due at a step, the
masts a change applies to, chunked loads, and what a verification is made against (R61, R62, R172, R185, R201, R270,
R634). -/
namespace Sys2Proof.Machine

/-- Replace the datapath of a mast. -/
def State.setDp (s : State) (m : Mast) (d : Datapath) : State := { s with dp := s.dp.set m d }

/-- The masts on which a change of the datapath applies: the Captain, and the Stoker or a joining mast that computes where it
holds the commit (R62, R71). -/
def State.appliers (s : State) (stokerHolds : Bool) : List Mast :=
  [Mast.a, Mast.b].filter (fun m => s.tst m = .captain || ((s.tst m = .stoker || s.joined m) && stokerHolds))

/-- Change the datapath of the masts named. -/
def State.changeDp (s : State) (ms : List Mast) (f : Datapath → Datapath) : State :=
  ms.foldl (fun acc m => acc.setDp m (f (acc.dp.get m))) s

/-- The datapath that answers for the package. -/
def State.leadDp (s : State) : Datapath := s.dp.get s.lead

/-- The rig that will be active at a step (R201). -/
def State.rigDue (s : State) (e : Nat) : Option Rig :=
  let act := s.rigs.active.map readRig
  match s.rigs.state, s.rigs.plan with
  | .tackPending, some p => if p.step ≤ e then some (readRig s.rigs.image) else act
  | .tacking, some _ => some (readRig s.rigs.image)
  | _, _ => act

/-- The default ramp time that a command with an effective step takes at acceptance (R634). -/
def State.defaultRamp (s : State) (eff : Nat) : Nat :=
  match (s.hal.rampDefaults.filter (fun r => decide (r.effStep ≤ eff))).foldl
      (fun best r => match best with
        | none => some r
        | some b => if b.order < r.order then some r else some b) (none : Option RampDefault) with
  | some r => r.ms
  | none => s.hal.rampDefault

/-! ### Parameter entries (R201, R202, R241) -/

/-- One entry of a PARAM_SET, or one value of a scene. -/
structure ParamEntry where
  id : Nat
  ms : Nat
  value : Nat
  deriving DecidableEq, Repr

/-- The entries of a PARAM_SET payload. -/
def paramEntries (p : List Byte) : List ParamEntry :=
  (List.range (fld p 0 2)).map (fun i =>
    { id := fld p (4 + 16 * i) 4, ms := fld p (8 + 16 * i) 2, value := fld p (12 + 16 * i) 8 })

/-- The values of a scene of a rig, with the ramp time of the recall. -/
def sceneEntries (r : Rig) (p : List Byte) : List ParamEntry :=
  (r.scenes.filter (fun x => x.scene == fld p 0 2)).map (fun x => { id := x.param, ms := fld p 2 2, value := x.value })

/-- The entries of a scheduled PARAM_SET or SCENE_RECALL. -/
def entriesOf (code : Nat) (r : Rig) (p : List Byte) : List ParamEntry :=
  if code = 0x0501 then paramEntries p else sceneEntries r p

/-- Whether a parameter ramps: RAMPS on an S3.32 range (R259). -/
def Rig.ramps (r : Rig) (id : Nat) : Bool :=
  match r.rangeOf id with
  | some g => g.ramps
  | none => false

/-- Whether a parameter is marked as an alarm-path parameter. -/
def Rig.alarmParam (r : Rig) (id : Nat) : Bool :=
  match r.rangeOf id with
  | some g => g.alarmPath
  | none => false

/-- Whether a rig has the parameter and its range admits the value (R201). -/
def Rig.admits (r : Rig) (e : ParamEntry) : Bool :=
  decide (e.value < 2 ^ 36) &&
  (match r.rangeOf e.id with
   | some g => g.admits e.value
   | none => false)

/-- The write load of the entries of one command at its effective step (R241). -/
def entryLoads (r : Rig) (rate48 : Bool) (dflt eff : Nat) (es : List ParamEntry) : List WriteLoad :=
  es.filterMap (fun e => (r.params[e.id]?).map (fun p =>
    { key := p.key, start := eff, last := eff + fadeSteps rate48 (if e.ms = 0 then dflt else e.ms) - 1,
      ramps := r.ramps e.id }))

/-- The write load of everything that runs or is scheduled, in order of acceptance (R241). -/
def State.writeLoads (s : State) : List WriteLoad :=
  let held : List Ramp := match s.leadDp.active with
    | some r => r.ramps
    | none => []
  let old : List Ramp := match s.leadDp.outgoing with
    | some r => r.ramps.filter (fun p => !(held.any (fun q => q.key == p.key)))
    | none => []
  let running := (held ++ old).map (fun p => { key := p.key, start := p.fade.start, last := p.fade.start + p.fade.len - 1, ramps := true : WriteLoad })
  running ++ ((s.hal.sched.filter (fun c => c.code == 0x0501 || c.code == 0x0503)).map (fun c =>
    match s.rigDue c.effStep with
    | some r => entryLoads r s.rate48 c.aux c.effStep (entriesOf c.code r c.payload)
    | none => [])).flatten

/-- Refusals of a PARAM_SET or SCENE_RECALL against the rig due at its effective step (R201, R202). -/
def State.entryRefusals (s : State) (seat code eff : Nat) (p : List Byte) : List Nat :=
  match s.rigDue eff with
  | none => [stBadParam]
  | some r =>
    let es := entriesOf code r p
    refuseIf (es.isEmpty || es.any (fun e => !r.admits e) || !distinct (es.map (fun e => e.id))) stBadParam ++
    refuseIf (decide ((s.seat seat).role ≠ 3) && es.any (fun e => r.alarmParam e.id)) stRoleDenied

/-- Set one parameter of a run at step `n`: a ramp from the value in force in the step before, or one write (R239,
R240). The second part lists the ramps it supersedes (R288). -/
def RigRun.setParam (r : RigRun) (rate48 : Bool) (n dflt seat hostSeq : Nat) (e : ParamEntry) : RigRun × List Ramp :=
  match r.rig.params[e.id]? with
  | none => (r, [])
  | some p =>
    if r.rig.ramps e.id then
      let old := r.ramps.filter (fun x => x.key == p.key && x.fade.running n)
      let f : Fade :=
        { u0 := wordVal (wget r.words p.key), u1 := val36 e.value, start := n,
          len := fadeSteps rate48 (if e.ms = 0 then dflt else e.ms) }
      ({ r with ramps := r.ramps.filter (fun x => x.key != p.key) ++
          [{ param := e.id, key := p.key, fade := f, seat := seat, hostSeq := hostSeq }] }, old)
    else ({ r with words := wput r.words p.key (BitVec.ofNat 36 e.value) }, [])

/-- Set one parameter on a datapath; in a shared position it reaches the outgoing rig too (R281, R286). -/
def Datapath.setParam (d : Datapath) (shared : List Pos) (rate48 : Bool) (n dflt seat hostSeq : Nat)
    (e : ParamEntry) : Datapath × List Ramp :=
  match d.active with
  | none => (d, [])
  | some r =>
    let x := r.setParam rate48 n dflt seat hostSeq e
    let key := (r.rig.params[e.id]?).map (fun p => p.key)
    let out := match d.outgoing, key with
      | some o, some k =>
        if shared.contains (posOf k) then
          match o.rig.paramAt k with
          | some id => some (o.setParam rate48 n dflt seat hostSeq { e with id := id }).1
          | none => some o
        else some o
      | o, _ => o
    ({ d with active := some x.1, outgoing := out }, x.2)

/-- Set the entries of a command on a datapath. -/
def Datapath.setParams (d : Datapath) (shared : List Pos) (rate48 : Bool) (n dflt seat hostSeq : Nat)
    (es : List ParamEntry) : Datapath × List Ramp :=
  es.foldl (fun acc e =>
    let x := acc.1.setParam shared rate48 n dflt seat hostSeq e
    (x.1, acc.2 ++ x.2)) (d, [])

/-- The shared positions of the tack in progress. -/
def State.sharedNow (s : State) : List Pos :=
  match s.rigs.plan with
  | some p => p.shared
  | none => []

/-- EV_RAMP_SUPERSEDED for the ramps that a command replaced (R201, R228, R288). -/
def State.superseded (s : State) (seat hostSeq : Nat) (rs : List Ramp) : State :=
  rs.foldl (fun acc r => acc.eventTo r.seat acc.lead.code evRampSuperseded r.hostSeq acc.step
    (be 4 r.param ++ be 1 seat ++ zeros 3 ++ be 4 hostSeq)) s

/-! ### Chunked loads (R185) -/

/-- The load of a target held by anyone. -/
def State.loadOf (s : State) (t : LoadTarget) : Option Load := s.hal.loads.find? (fun l => l.target == t)

/-- Refusals of a chunk, in the order of R185's table: a load that another seat holds is reported before an offset. -/
def State.chunkRefusals (s : State) (t : LoadTarget) (seat : Nat) (p : List Byte) (maxLen : Nat) : List Nat :=
  let off := fld p 0 4
  let total := fld p 4 4
  let first := bit (fld p 8 1) 0
  let last := bit (fld p 8 1) 1
  let n := p.length - 12
  let mine := match s.loadOf t with
    | some l => if l.seat = seat then some l else none
    | none => none
  refuseIf (decide (off + n > total) || decide (total > maxLen) || decide (fld p 8 1 ≥ 4) || fld p 10 2 != 0) stBadParam ++
  refuseIf (!first && (match mine with
    | some l => l.total != total
    | none => false)) stBadParam ++
  refuseIf (last && off + n != total) stBadParam ++
  (if (s.loadOf t).elim false (fun l => l.seat != seat) then [stBusy]
  else
    refuseIf (first && off != 0) stBadOffset ++
    refuseIf (!first && (match mine with
      | some l => off != l.data.length
      | none => true)) stBadOffset)

/-- Whether a chunk's payload has the length its layout admits (R185). -/
def chunkLengthOk (p : List Byte) : Bool := decide (13 ≤ p.length) && decide (p.length ≤ 65536)

/-- RECEIVED (R185): the contiguous bytes that a seat's load of a target holds, zero where it holds none. -/
def State.received (s : State) (t : LoadTarget) (seat : Nat) : Nat :=
  ((s.loadOf t).filter (fun l => l.seat == seat)).elim 0 (fun l => l.data.length)

/-- A chunk command: refused with RECEIVED in its reply, or carried out at once (R174, R185). -/
def State.runChunk (s : State) (h : Hdr) (seat code : Nat) (t : LoadTarget) (p : List Byte) (own : List Nat)
    (run : State → State × List Byte) : State :=
  match (opRow code).bind (fun row =>
      firstRefusal (s.tooLarge h 4 ++ s.commonRefusals h seat row (chunkLengthOk p) ++ own)) with
  | some st => s.refuse h seat code st (be 4 (s.received t seat))
  | none => s.runNow h seat code (chunkLengthOk p) .package own 4 run

/-- Store an accepted chunk: the bytes held afterwards. -/
def State.storeChunk (s : State) (t : LoadTarget) (seat : Nat) (p : List Byte) : State × List Byte :=
  let before := if bit (fld p 8 1) 0 then [] else match s.loadOf t with
    | some l => l.data
    | none => []
  let data := before ++ p.drop 12
  let rest := s.hal.loads.filter (fun l => l.target != t)
  let keep := if bit (fld p 8 1) 1 then rest
    else rest ++ [{ target := t, seat := seat, total := fld p 4 4, data := data, lastChunk := s.now }]
  ({ s with hal := { s.hal with loads := keep } }, data)

/-- Drop a load. -/
def State.dropLoad (s : State) (t : LoadTarget) : State :=
  { s with hal := { s.hal with loads := s.hal.loads.filter (fun l => l.target != t) } }

/-! ### Slots (R262 to R266) -/

/-- Empty the standby slot with any load of it. -/
def State.emptyStandby (s : State) : State :=
  let s1 := s.dropLoad .rig
  { s1 with rigs := { s1.rigs with state := .empty, image := [], plan := none } }

/-- EV_TACK_DONE to the seat of the tack (R198, R228, R283). -/
def State.tackDone (s : State) (p : TackPlan) (kind : Nat) : State :=
  s.eventTo p.seat 2 evTackDone p.hostSeq s.step (be 1 kind ++ zeros 3 ++ be 8 p.step)

/-- Both slots empty: entry to WATCH and the wipes of MAINTAIN. A tack in progress ends unfinished (R266, R287). -/
def State.emptySlots (s : State) : State :=
  let s1 := match s.rigs.state, s.rigs.plan with
    | .tacking, some p => s.tackDone p 0xFF
    | _, _ => s
  let s2 := s1.emptyStandby
  { s2 with rigs := { s2.rigs with active := none }
            dp := s2.dp.map (fun d => { d with active := none, outgoing := none }) }

/-- What a verification on the Captain is made against (R270, R271). -/
def State.verifyCtx (s : State) (hashOk : Bool) : VerifyCtx :=
  let single := (s.aud.get s.lead).single
  let d := s.leadDp
  { variant := s.variant, rate48 := s.rate48,
    profileHash := match s.sec.profile with
      | some p => p.hash
      | none => zeros 48,
    clusterMap := s.clusterMap, hashOk := hashOk,
    singleHomed := (d.patch.filter (fun x =>
      (x.2.cls == 3 && single.contains x.2.index) || (x.2.cls == 2 && single.contains (4 * 65536 + x.2.index)))).map
      (fun x => x.1),
    zoneOutputs := match s.sec.profile with
      | some p => p.zoneFloors
      | none => [],
    mics := match s.sec.profile with
      | some p => p.mics
      | none => [],
    alarmMinGain := match s.sec.profile with
      | some p => p.global.alarmMinGain
      | none => 0 }

/-- EV_RIG_VERIFIED to the seat that asked (R197, R228, R268). -/
def State.rigVerified (s : State) (v : Verdict) : State :=
  s.eventTo s.rigs.verifySeat 2 evRigVerified s.rigs.verifySeq s.step
    (be 2 (if v.rule = 0 then stOk else stRigRefused) ++ be 2 v.rule ++ be 4 v.detail ++ be 4 v.slots ++ be 4 v.words)

/-- The fit of a planned or wanted tack now (R198, R282). -/
def State.tackPlan (s : State) (want step fade seat hostSeq : Nat) : Option TackPlan :=
  (planTack (s.rigs.active.map readRig) (readRig s.rigs.image) want step fade s.clusterMap s.rate48 s.variant
    (loadsOk s.writeLoads step step) seat hostSeq).map (fun p => p.withMaps (readRig s.rigs.image)
      (s.leadDp.active.elim [] (fun r => r.place)) (s.leadDp.active.elim [] (fun r => r.pool)))

/-- Drop a pending tack: the slot returns to VERIFIED (R263). -/
def State.untack (s : State) : State :=
  if s.rigs.state = .tackPending then { s with rigs := { s.rigs with state := .verified, plan := none } } else s

end Sys2Proof.Machine
end

