-- ==== Sys2Proof/Machine/AudioOps.lean ====
section
/-! DEFINITION. Shared operations on audio ports: presence, port reports, flow matches and destinations, the pools of
R308 and R326, and the start of ports (R320, R321). -/
namespace Sys2Proof.Machine

/-- Refusals of an index that the variant, or the family, does not have (R7, R11). -/
def presence (i here family : Nat) : List Nat :=
  refuseIf (decide (here ≤ i) && decide (i < family)) stNotPresent ++ refuseIf (decide (family ≤ i)) stBadParam

/-- Absence of a video port by variant (R7, R345). -/
def videoAbsent (v : Variant) (port : Nat) : Bool := decide (port < 64) && decide (Config.sdiPorts v ≤ port)

/-- Refusals of a logical video port that a command names: absent in the variant, or beyond the family's range (R7, R345). -/
def videoPresence (v : Variant) (port : Nat) : List Nat :=
  refuseIf (decide (port < 1536) && (!Config.hasVideo v || videoAbsent v port)) stNotPresent ++
    refuseIf (decide (1536 ≤ port)) stBadParam

/-- Refusals of a run of output channels (R329, R338). -/
def runPresence (v : Variant) (first count : Nat) : List Nat :=
  let here := Config.audioChannels v
  if here < 2048 ∧ first + count > here ∧ first < 2048 then [stNotPresent]
  else refuseIf (decide (first + count > 2048)) stBadParam

/-- Replace the audio state of a mast. -/
def State.setAud (s : State) (m : Mast) (a : AudioMast) : State := { s with aud := s.aud.set m a }

/-- Change the audio state of the masts named. -/
def State.changeAud (s : State) (ms : List Mast) (f : AudioMast → AudioMast) : State :=
  ms.foldl (fun acc m => acc.setAud m (f (acc.aud.get m))) s

/-- The counter-map base of an audio source (R505): class codes of R343. -/
def sourceCounter (cls idx : Nat) : Nat :=
  0x0C00 + 4 * (if cls = 0 then idx else if cls = 2 then 16 + idx else if cls = 4 then 528 + idx else 592)

/-- The counter-map base of an audio sink (R505). -/
def sinkCounter (cls idx : Nat) : Nat :=
  0x2000 + 2 * (if cls = 1 then idx else if cls = 3 then 16 + idx else if cls = 4 then 528 + idx else 592)

/-- ERRORS of EV_AUDIO_PORT (R343). -/
def State.portErrors (s : State) (m : Mast) (cls idx : Nat) : Nat :=
  if cls = 6 then (s.ct m).read (sinkCounter 6 0 + 1)
  else if cls = 1 ∨ cls = 3 then 0
  else (s.ct m).read (sourceCounter cls idx)

/-- Key of a port in the report table. -/
def portKey (cls idx : Nat) : Nat := 65536 * cls + idx

/-- The report entry of a port. -/
def AudioMast.report (a : AudioMast) (cls idx : Nat) : PortReport :=
  a.reports.getD (portKey cls idx) { state := 0, last := none, held := false }

/-- Raise EV_AUDIO_PORT with the current state of a port (R343). -/
def State.raisePort (s : State) (m : Mast) (cls idx : Nat) : State :=
  let a := s.aud.get m
  let r := a.report cls idx
  let s1 := s.setAud m { a with reports := a.reports.put (portKey cls idx) { r with last := some s.now, held := false } }
  s1.event m.code evAudioPort (be 1 cls ++ be 1 r.state ++ be 2 idx ++ be 4 (s.portErrors m cls idx))

/-- A port changes STATE: the event at once, or at the end of the second after the last one (R343). -/
def State.portState (s : State) (m : Mast) (cls idx st : Nat) : State :=
  let a := s.aud.get m
  let r := a.report cls idx
  if r.state = st then s
  else
    let s1 := s.setAud m { a with reports := a.reports.put (portKey cls idx) { r with state := st } }
    match r.last with
    | some t =>
      if s.now < t + Config.second then
        let a1 := s1.aud.get m
        s1.setAud m { a1 with reports := a1.reports.put (portKey cls idx) { r with state := st, held := true } }
      else s1.raisePort m cls idx
    | none => s1.raisePort m cls idx

/-- Change the state of a port on the masts named. -/
def State.portStates (s : State) (ms : List Mast) (cls idx st : Nat) : State :=
  ms.foldl (fun acc m => acc.portState m cls idx st) s

/-! ### Flow matches and destinations (R186, R354, R389) -/

/-- Reserved bits of a FLOW_MATCH are zero. -/
def matchReserved (mt : List Byte) : Bool :=
  decide (fld mt 1 1 < 8) && decide (fld mt 2 2 < 4096) && fld mt 38 2 == 0

/-- The values of a FLOW_MATCH are ones the layout admits: an IPv4 address fills the last 4 of its 16 bytes. -/
def matchValid (mt : List Byte) : Bool :=
  (fld mt 0 1 == 4 && fld mt 4 12 == 0 && fld mt 20 12 == 0) || fld mt 0 1 == 6

/-- Whether another enabled entry already has the same match (R354). -/
def VideoMast.matchTaken (v : VideoMast) (entry : Nat) (mt : List Byte) : Bool :=
  v.flows.any (fun x => x.1 != entry && x.2.match' == mt)

/-- Whether an entry is enabled for another owner (R206, R212). -/
def VideoMast.entryTaken (v : VideoMast) (entry owner : Nat) : Bool :=
  match v.flows.find entry with
  | some x => x.owner != owner
  | none => false

/-- Whether an address lies in a destination range (R389). -/
def DestRange.has (r : DestRange) (addr : Nat) : Bool :=
  let width := if r.ipVer = 4 then 32 else 128
  let v4 := decide (addr < 2 ^ 32)
  (decide (r.ipVer = 4) == v4) && decide (r.prefixLen ≤ width) &&
  addr / 2 ^ (width - r.prefixLen) == r.address / 2 ^ (width - r.prefixLen)

/-- The port of a mast on which a destination is placed: the lowest whose ranges contain it (R389). A port absent in
the variant does not count. -/
def State.portFor (s : State) (m : Mast) (addr : Nat) : Option Nat :=
  match s.sec.profile with
  | none => none
  | some p =>
    let fits := p.ports.filter (fun x => x.mast == m.code && x.mode != 0 && decide (x.lane < Config.ethLanes s.variant) &&
      ((p.ranges.drop x.rangeFirst).take x.rangeCount).any (fun r => r.has addr))
    (fits.map (fun x => if x.mode = 3 then x.lane / 4 * 4 else x.lane)).foldl (fun best n => match best with
      | none => some n
      | some b => some (Nat.min b n)) none

/-- The timebase a stream may name: TB_0, or a bound timebase of the same PTP domain as TB_0 (R323). -/
def State.streamTimebaseOk (s : State) (tb : Nat) : Bool :=
  tb == 0 ||
  (match s.sec.profile with
   | some p => match p.timebases[0]?, p.timebases[tb]? with
     | some a, some b => decide (tb ≤ 3) && a.ptpDomain != 255 && a.ptpDomain == b.ptpDomain
     | _, _ => false
   | none => false)

/-! ### Streams -/

/-- The stream rate in Hz of a RATE code (R203). -/
def rateHz : Nat → Nat
  | 0 => 32000
  | 1 => 44100
  | 2 => 48000
  | 3 => 88200
  | 4 => 96000
  | 5 => 176400
  | _ => 192000

/-- The packet time P in steps, rounded up (R323). -/
def packetSteps (internal samples hz : Nat) : Nat := (samples * internal + hz - 1) / hz

/-- Fields of a received stream's parameters (R206). -/
def RxStream.async (x : RxStream) : Bool := bit (fld x.params 4 1) 1
def RxStream.l16 (x : RxStream) : Bool := fld x.params 5 1 == 1
def RxStream.channels (x : RxStream) : Nat := fld x.params 6 1
def RxStream.hz (x : RxStream) : Nat := rateHz (fld x.params 7 1)
def RxStream.samples (x : RxStream) : Nat := fld x.params 8 2
def RxStream.linkOffset (x : RxStream) : Nat := fld x.params 10 2
def RxStream.entry (x : RxStream) : Nat := fld x.params 2 2

/-- Fields of a sent stream's parameters (R207). -/
def TxStream.channels (x : TxStream) : Nat := fld x.params 4 1
def TxStream.samples (x : TxStream) : Nat := fld x.params 6 2
def TxStream.l16 (x : TxStream) : Bool := fld x.params 3 1 == 1
def TxStream.firstOut (x : TxStream) : Nat := fld x.params 10 2

/-- One frame of a sent stream as bytes: each channel big-endian in 24 or 16 bits (R329). -/
def TxStream.frameBytes (x : TxStream) (f : List Int) : List Byte :=
  (f.map (fun v => beSigned (if x.l16 then 2 else 3) v)).flatten

/-- The sample words a received stream takes of the depacketiser store (R326). -/
def storeOf (internal : Nat) (p : List Byte) : Nat :=
  fld p 6 1 * (fld p 10 2 + 2 * packetSteps internal (fld p 8 2) (rateHz (fld p 7 1)))

/-- Depacketiser words in use by other streams (R326). -/
def AudioMast.storeUsed (a : AudioMast) (internal but : Nat) : Nat :=
  (a.rx.filter (fun x => x.1 != but)).foldl (fun n x => n + storeOf internal x.2.params) 0

/-- Groups set in a mask of 4. -/
def groupCount (g : Nat) : Nat := ((List.range 4).filter (fun i => bit g i)).length

/-- ASRC pool channels in use, but for one stream and one SDI port (R308). -/
def AudioMast.asrcUsed (a : AudioMast) (butRx butSdi : Nat) : Nat :=
  32 + (a.sdi.filter (fun x => x.1 != butSdi)).foldl (fun n x => n + 4 * groupCount x.2.inGroups) 0 +
  (a.rx.filter (fun x => x.1 != butRx && x.2.async)).foldl (fun n x => n + x.2.channels) 0

/-- The nominal ratio of a source at a rate, in input samples per step, 32.32 (R307). -/
def nominalRatio (internal hz : Nat) : Nat := hz * 2 ^ 32 / internal

/-- A received stream at its start (R321). -/
def RxStream.fresh (internal : Nat) (p : List Byte) (start : Nat) (profile : Bool) : RxStream :=
  { params := p, start := start, profile := profile, seen := false, held := [], newest := none, slots := [], missing := 0, next := 0,
    grid := 0, running := false, seq0 := 0, feed := .reset (fld p 6 1) (nominalRatio internal (rateHz (fld p 7 1))) }

/-- A sent stream at its start (R321, R329). -/
def TxStream.fresh (p : List Byte) (start : Nat) (profile : Bool) : TxStream :=
  { params := p, start := start, profile := profile, seq := 0, firstStep := start, frames := [], waiting := [],
    last := [], sent := 0, restart := none, begun := false }

/-- The rig makes a source single-homed unusable: whether a physical source is reported single-homed (R43, R208). -/
def State.isSingle (s : State) (cls idx : Nat) : Bool :=
  (cls == 3 && (s.aud.get s.lead).single.contains idx) ||
  (cls == 2 && (s.aud.get s.lead).single.contains (portKey 4 idx))

/-- Whether a physical input is locked on a mast: CLASS 0 AES3 input, 4 the SDI input, as audio or video sees it. -/
def State.inputLocked (s : State) (m : Mast) (cls idx : Nat) : Bool :=
  if cls = 0 then ((s.aud.get m).aesIn[idx]?).elim false (fun x => x.locked)
  else ((s.aud.get m).sdi.getD idx SdiAudio.reset).locked || ((s.vid.get m).inputs.getD idx VideoIn.none).locked

/-- Note when the lock of an input has come or gone since a state before (R314). -/
def State.noteLock (s : State) (m : Mast) (cls idx : Nat) (before : Bool) : State :=
  if s.inputLocked m cls idx == before then s
  else
    let a := s.aud.get m
    s.setAud m { a with lockMoved := a.lockMoved.put (portKey cls idx) s.now }

/-- The locks of an input on both masts, and Tandem, have stood for 10 s (R314). -/
def State.locksStand (s : State) (cls idx : Nat) : Bool :=
  let at' (m : Mast) : Nat := (s.aud.get m).lockMoved.getD (portKey cls idx) 0
  decide (Nat.max s.tan.tandemAt (Nat.max (at' .a) (at' .b)) + 10 * Config.second ≤ s.now)

/-! ### Starting ports (R320 to R322) -/

/-- Start one port at step `n`: COMMON_START, or an implicit start. CLASS codes of R205. -/
def AudioMast.startPort (a : AudioMast) (internal cls idx n : Nat) (implicit : Bool) : AudioMast :=
  match cls with
  | 0 => { a with
      sent := a.sent.filter (fun x => !(x.cls == 0 && x.port == idx))
      aesIn := match a.aesIn[idx]? with
      | some x => setAt a.aesIn idx { x with frames := 0, caps := [] }
      | none => a.aesIn }
  | 1 => { a with aesOut := match a.aesOut[idx]? with
      | some x => setAt a.aesOut idx { x with start := n, frames := 0, restart := if implicit then none else some n }
      | none => a.aesOut }
  | 2 => match a.rx.find idx with
    | some x => if x.async then { a with rx := a.rx.put idx (RxStream.fresh internal x.params n x.profile) } else a
    | none => a
  | 3 => match a.tx.find idx with
    | some x =>
      let part := if x.frames.isEmpty then []
        else [(x.firstStep + x.samples + 8, x.firstStep, (x.frames.map (x.frameBytes)).flatten)]
      let y : TxStream :=
        { x with start := n, frames := [], firstStep := n, begun := false, waiting := x.waiting ++ part,
                 restart := if implicit then none else some n }
      { a with tx := a.tx.put idx y }
    | none => a
  | _ => match a.sdi.find idx with
    | some x => { a with sent := a.sent.filter (fun y => !(y.cls == 4 && y.port == idx))
                         sdi := a.sdi.put idx { x with frames := 0, caps := [], restart := some n, outStart := n, outMade := 0 } }
    | none => a

/-- Whether a port counts as enabled (R205). -/
def AudioMast.portEnabled (a : AudioMast) (cls idx : Nat) : Bool :=
  match cls with
  | 0 => (a.aesIn[idx]?).elim false (fun x => x.enabled)
  | 1 => (a.aesOut[idx]?).elim false (fun x => x.enabled)
  | 2 => (a.rx.find idx).isSome
  | 3 => (a.tx.find idx).isSome
  | _ => (a.sdi.find idx).elim false (fun x => x.inGroups != 0 || x.outGroups != 0)

/-- Whether a running sink restarts, for its restart counter (R322). -/
def AudioMast.restarts (a : AudioMast) (cls idx : Nat) : Bool :=
  match cls with
  | 1 => a.portEnabled 1 idx
  | 3 => a.portEnabled 3 idx
  | 4 => (a.sdi.find idx).elim false (fun x => x.outGroups != 0)
  | _ => false

end Sys2Proof.Machine
end

