-- ==== Sys2Proof/Machine/AudioConf.lean ====
section
/-! DEFINITION. Group 0x06: audio I/O commands (R203 to R210, R293, R308, R318, R320 to R323, R326, R329, R331, R338)
and what they do at their effective step. -/
namespace Sys2Proof.Machine
open Host

/-- The AUDIO_SINK item of a sink in the profile. -/
def State.sinkItem (s : State) (cls idx : Nat) : Option AudioSinkItem :=
  match s.sec.profile with
  | some p => p.sinks.find? (fun x => x.cls == cls && x.index == idx)
  | none => none

/-- PROFILE_HELD of an AES3 output (R318). -/
def State.held (s : State) (port : Nat) : Bool :=
  match s.sinkItem 0 port with
  | some x => bit x.flags 0
  | none => false

/-- Why an AES_CONFIG is refused (R203, R318). -/
def State.aesRefusals (s : State) (p : List Byte) : List Nat :=
  let dir := fld p 0 1
  let port := fld p 1 1
  let rate := fld p 2 1
  let fl := fld p 3 1
  let cs := fldBytes p 4 24
  let bad := decide (dir > 1) || decide (port > 15) || decide (fl > 3) || fld p 27 1 != 0 ||
    (dir == 0 && (rate != 0xFF || cs != zeros 24)) || (dir == 1 && decide (rate > 6))
  let held := dir == 1 && s.held port &&
    (!bit fl 0 || (match (s.aud.get s.lead).aesOut[port]? with
      | some x => x.rate != rate
      | none => false))
  refuseIf bad stBadParam ++ refuseIf held stRoleDenied

/-- AES_CONFIG (R203, R318). -/
def execAesConfig (h : Hdr) (p : List Byte) (s : State) : Outcome State Fault Refusal :=
  .next <| s.receive h 0x0601 fun seat s1 =>
    s1.schedule h seat 0x0601 p (p.length == 28) (s1.aesRefusals p) (s1.effectiveStep h) 0 fun s2 => (s2, [])

/-- Apply an AES_CONFIG. -/
def State.applyAesConfig (s : State) (c : SchedCmd) (ms : List Mast) : State × Nat :=
  let p := c.payload
  let port := fld p 1 1
  let en := bit (fld p 3 1) 0
  if fld p 0 1 = 0 then
    let s1 := s.changeAud ms (fun a => match a.aesIn[port]? with
      | some x =>
        let y : AesIn := if en then (if x.enabled then x else AesIn.reset)
          else { AesIn.reset with enabled := false, feed := { x.feed with locked := false } }
        { a with aesIn := setAt a.aesIn port y }
      | none => a)
    (if en then (if (s.aud.get s.lead).portEnabled 0 port then s1 else s1.portStates ms 0 port 1)
      else s1.portStates ms 0 port 0, stOk)
  else
    let s1 := s.changeAud ms (fun a => match a.aesOut[port]? with
      | some x =>
        let y : AesOut :=
          let starts := en && (!x.enabled || x.rate != fld p 2 1)
          { x with enabled := en, rate := fld p 2 1, csHost := bit (fld p 3 1) 1, cs := fldBytes p 4 24,
                   start := if starts then s.step else x.start, frames := if starts then 0 else x.frames }
        { a with aesOut := setAt a.aesOut port y }
      | none => a)
    (s1.portStates ms 1 port (if en then 2 else 0), stOk)

/-- One AUDIO_STATUS item (R204): 48 bytes. Where no rate is detected, RATE is the configured code of an output or a received stream, the
internal rate's of a sent stream, 0 of a stream or output that is not configured, and 0xFF of an input without lock (DESIGN CHOICE,
log entry 111). -/
def State.audioItem (s : State) (m : Mast) (cls idx : Nat) : List Byte :=
  let a := s.aud.get m
  let base := sourceCounter cls idx
  let c (k : Nat) : Nat := min ((s.ct m).read (base + k)) (2 ^ 32 - 1)
  let isSrc := cls = 0 ∨ cls = 2
  let rate := match cls with
    | 0 => (a.aesIn[idx]?).elim 0xFF (fun x => if x.locked then x.rate else 0xFF)
    | 1 => (a.aesOut[idx]?).elim 0 (fun x => x.rate)
    | 2 => (a.rx.find idx).elim 0 (fun x => fld x.params 7 1)
    | _ => if s.rate48 then 2 else 4
  let flags := if cls = 0 then
      (a.aesIn[idx]?).elim 0 (fun x => x.flags % 4) + 4 * b01 (a.single.contains idx)
    else 0
  let own := match cls with
    | 0 => (a.aesIn[idx]?).elim 0 (fun x => x.feed.own)
    | 2 => (a.rx.find idx).elim 0 (fun x => x.feed.own)
    | _ => 0
  let cs := if cls = 0 then (a.aesIn[idx]?).elim (zeros 24) (fun x => x.cs) else zeros 24
  be 1 (a.report cls idx).state ++ be 1 rate ++ be 2 flags ++
  (if isSrc then be 4 (c 0) ++ be 4 (c 1) ++ be 4 (c 2) else zeros 12) ++ be 8 own ++ fit 24 cs

/-- The pages of a class of audio ports on each mast that serves (R183, R184, R204). -/
def State.audioPage (s : State) (h : Hdr) (p : List Byte) : List Byte :=
  let cls := fld p 0 1
  let total := if cls ≤ 1 then 16 else Config.streams s.variant
  let fitting := s.fitting h (8 + 8 * s.serving) (48 * max 1 s.serving)
  s.perMast (fun m => pageBytes (fld p 4 4) (fld p 8 2) fitting total (fun i => s.audioItem m cls i))

/-- AUDIO_STATUS (R204). -/
def execAudioStatus (h : Hdr) (p : List Byte) (s : State) : Outcome State Fault Refusal :=
  .next <| s.receive h 0x0602 fun seat s1 =>
    s1.runNow h seat 0x0602 (p.length == 12) .perMast
      (refuseIf (decide (fld p 0 1 > 3) || fld p 1 3 != 0 || fld p 8 2 = 0 || fld p 10 2 != 0) stBadParam)
      (16 * s1.serving) fun s2 => (s2, s2.audioPage h p)

/-- Presence of a port named by class and index (R205, R305). -/
def State.portPresence (s : State) (cls idx : Nat) : List Nat :=
  if cls ≤ 1 then presence idx 16 16
  else if cls ≤ 3 then presence idx (Config.streams s.variant) 512
  else if cls = 4 then presence idx (Config.sdiPorts s.variant) 64
  else [stBadParam]

/-- Why a COMMON_START is refused (R179, R205, R320): an SDI audio port is power-gated, or shed, with the crosspoint. -/
def State.commonStartRefusals (s : State) (p : List Byte) : List Nat :=
  let n := fld p 0 2
  let refs := (List.range n).map (fun i => (fld p (4 + 4 * i) 1, fld p (6 + 4 * i) 2))
  let form := decide (n = 0) || decide (n > 256) || fld p 2 2 != 0 ||
    (List.range n).any (fun i => fld p (5 + 4 * i) 1 != 0)
  let off := refs.any (fun r => !(s.aud.get s.lead).portEnabled r.1 r.2)
  refuseIf form stBadParam ++ (refs.map (fun r => s.portPresence r.1 r.2)).flatten ++
    refuseIf (!s.videoRuns && refs.any (fun r => r.1 == 4)) stBadMode ++ refuseIf off stWrongState

/-- COMMON_START (R205, R320). -/
def execCommonStart (h : Hdr) (p : List Byte) (s : State) : Outcome State Fault Refusal :=
  .next <| s.receive h 0x0603 fun seat s1 =>
    s1.schedule h seat 0x0603 p (p.length == 4 + 4 * fld p 0 2) (s1.commonStartRefusals p) (s1.effectiveStep h) 0 fun s2 => (s2, [])

/-- Apply a COMMON_START: every port still enabled starts; a running sink's restart is counted (R320, R322). -/
def State.applyCommonStart (s : State) (c : SchedCmd) (ms : List Mast) : State × Nat :=
  let refs := (List.range (fld c.payload 0 2)).map (fun i => (fld c.payload (4 + 4 * i) 1, fld c.payload (6 + 4 * i) 2))
  (refs.foldl (fun acc r =>
    let s1 := ms.foldl (fun x m => if (x.aud.get m).restarts r.1 r.2 then x.bump m (sinkCounter r.1 r.2) 1 else x) acc
    s1.changeAud ms (fun a => if a.portEnabled r.1 r.2 then a.startPort s.rate r.1 r.2 s.step false else a)) s, stOk)

/-- Why a STREAM_RX_SET is refused (R206, R308, R323, R326, R331, R354). -/
def State.streamRxRefusals (s : State) (p : List Byte) : List Nat :=
  let st := fld p 0 2
  let entry := fld p 2 2
  let fl := fld p 4 1
  let mt := fldBytes p 16 44
  let a := s.aud.get s.lead
  let v := s.vid.get s.lead
  let async := bit fl 1
  let ch := fld p 6 1
  let rate := fld p 7 1
  let ps := fld p 8 2
  let lo := fld p 10 2
  let form := decide (entry ≥ 4096) || decide (fl > 3) || fld p 13 3 != 0 || !matchReserved mt
  let rateBad := !(rate == 2 || rate == 4 || (async && (rate == 1 || rate == 3)))
  let values := decide (fld p 5 1 > 1) || ch == 0 || decide (ch > 64) || rateBad || ps == 0 || decide (ps > 384) ||
    decide (ps * ch * (if fld p 5 1 = 1 then 2 else 3) > 1440) || (!async && !s.streamTimebaseOk (fld p 12 1)) ||
    decide (fld p 12 1 > 3) || decide (lo < 8) || decide (lo > (if s.rate48 then 4800 else 9600)) ||
    !matchValid mt || v.matchTaken entry mt
  let profile := (a.rx.find st).elim false (fun x => x.profile)
  let space := decide (a.storeUsed s.rate st + storeOf s.rate p > 8388608) ||
    (async && decide (a.asrcUsed st 64 + ch > 1536))
  presence st (Config.streams s.variant) 512 ++ refuseIf form stBadParam ++ refuseIf profile stRoleDenied ++
    (if bit fl 0 then refuseIf values stBadParam ++ refuseIf (v.entryTaken entry (0x8000 + st)) stBusy ++
      refuseIf space stNoSpace else [])

/-- STREAM_RX_SET (R206, R308, R323, R326, R331, R354). -/
def execStreamRxSet (h : Hdr) (p : List Byte) (s : State) : Outcome State Fault Refusal :=
  .next <| s.receive h 0x0604 fun seat s1 =>
    s1.schedule h seat 0x0604 p (p.length == 60) (s1.streamRxRefusals p) (s1.effectiveStep h) 0 fun s2 => (s2, [])

/-- Bind a received stream to its entry, or release it. -/
def State.bindRx (s : State) (ms : List Mast) (p : List Byte) (profile : Bool) : State :=
  let st := fld p 0 2
  let owner := 0x8000 + st
  let en := bit (fld p 4 1) 0
  let s1 : State := ms.foldl (fun acc m =>
    let v := acc.vid.get m
    let freed := v.flows.filter (fun x => x.2.owner != owner)
    let e : FlowEntry := { owner := owner, typ := 3, flags := fld p 4 1, match' := fldBytes p 16 44 }
    { acc with vid := acc.vid.set m { v with flows := if en then Assoc.put freed (fld p 2 2) e else freed } }) s
  let s2 := s1.changeAud ms (fun a =>
    if en then { a with rx := a.rx.put st (RxStream.fresh s.rate p s.step profile), tails := a.tails.drop st }
    else { a with rx := a.rx.drop st
                  tails := match a.rx.find st with
                    | some x => a.tails.put st { x with slots := [], held := [] }
                    | none => a.tails })
  s2.portStates ms 2 st (if en then 1 else 0)

/-- Apply a STREAM_RX_SET. -/
def State.applyStreamRx (s : State) (c : SchedCmd) (ms : List Mast) : State × Nat := (s.bindRx ms c.payload false, stOk)

/-- Why a STREAM_TX_SET is refused (R207, R323, R329, R331, R389). -/
def State.streamTxRefusals (s : State) (p : List Byte) : List Nat :=
  let st := fld p 0 2
  let ch := fld p 4 1
  let ps := fld p 6 2
  let bad := decide (fld p 2 1 > 1) || decide (fld p 3 1 > 1) || ch == 0 || decide (ch > 64) ||
    decide (fld p 5 1 < 96) || decide (fld p 5 1 > 127) || ps == 0 || decide (ps > 384) ||
    decide (ps * ch * (if fld p 3 1 = 1 then 2 else 3) > 1440) || !s.streamTimebaseOk (fld p 8 1) ||
    decide (fld p 9 1 > 63) || decide (fld p 50 2 > 4095) ||
    (s.portFor .a (fld p 16 16)).isNone || (s.portFor .b (fld p 32 16)).isNone
  let profile := ((s.aud.get s.lead).tx.find st).elim false (fun x => x.profile)
  presence st (Config.streams s.variant) 512 ++ runPresence s.variant (fld p 10 2) ch ++ refuseIf bad stBadParam ++
    refuseIf profile stRoleDenied

/-- STREAM_TX_SET (R207, R323, R329, R331, R389). -/
def execStreamTxSet (h : Hdr) (p : List Byte) (s : State) : Outcome State Fault Refusal :=
  .next <| s.receive h 0x0605 fun seat s1 =>
    s1.schedule h seat 0x0605 p (p.length == 52) (s1.streamTxRefusals p) (s1.effectiveStep h) 0 fun s2 => (s2, [])

/-- Configure a sent stream, or release it. -/
def State.bindTx (s : State) (ms : List Mast) (p : List Byte) (profile : Bool) : State :=
  let st := fld p 0 2
  let en := bit (fld p 2 1) 0
  let s1 := s.changeAud ms (fun a =>
    { a with tx := if en then a.tx.put st (TxStream.fresh p s.step profile) else a.tx.drop st })
  s1.portStates ms 3 st (if en then 2 else 0)

/-- Apply a STREAM_TX_SET. -/
def State.applyStreamTx (s : State) (c : SchedCmd) (ms : List Mast) : State × Nat := (s.bindTx ms c.payload false, stOk)

/-- One PATCH_SET entry (R208). -/
def patchEntry (p : List Byte) (i : Nat) : Nat × PatchSrc :=
  (fld p (4 + 8 * i) 2, { cls := fld p (6 + 8 * i) 1, index := fld p (8 + 8 * i) 2, channel := fld p (10 + 8 * i) 2 })

/-- Refusals of a source by its class's ranges (R208, R336). -/
def sourceRefusals (v : Variant) (x : PatchSrc) : List Nat :=
  if x.cls = 0 then refuseIf (x.index != 0 || x.channel != 0) stBadParam
  else if x.cls = 1 then presence x.index (Config.streams v) 512 ++ refuseIf (decide (x.channel > 63)) stBadParam
  else if x.cls = 2 then presence x.index (Config.sdiPorts v) 64 ++ refuseIf (decide (x.channel > 15)) stBadParam
  else if x.cls = 3 then presence x.index 16 16 ++ refuseIf (decide (x.channel > 1)) stBadParam
  else if x.cls = 4 then refuseIf (x.index != 0 || decide (x.channel > 63)) stBadParam
  else [stBadParam]

/-- Why a PATCH_SET is refused (R208). -/
def State.patchRefusals (s : State) (p : List Byte) (seat : Nat) : List Nat :=
  let n := fld p 0 2
  let here := Config.audioChannels s.variant
  let es := (List.range (min n 2048)).map (patchEntry p)
  let form := decide (n = 0) || decide (n > here) || fld p 2 2 != 0 ||
    (List.range (min n 2048)).any (fun i => fld p (7 + 8 * i) 1 != 0) || !distinct (es.map (·.1))
  let mics := (s.sec.profile.map Profile.mics).getD []
  (es.map (fun e => presence e.1 here 2048 ++ sourceRefusals s.variant e.2)).flatten ++ refuseIf form stBadParam ++
    refuseIf ((s.seat seat).role != 3 && es.any (fun e => mics.contains e.1)) stRoleDenied ++
    refuseIf (es.any (fun e => s.isSingle e.2.cls e.2.index)) stSingleHomed

/-- PATCH_SET (R208). -/
def execPatchSet (h : Hdr) (p : List Byte) (s : State) : Outcome State Fault Refusal :=
  .next <| s.receive h 0x0606 fun seat s1 =>
    s1.schedule h seat 0x0606 p (p.length == 4 + 8 * fld p 0 2) (s1.patchRefusals p seat) (s1.effectiveStep h)
      (s1.defaultRamp (s1.effectiveStep h)) fun s2 => (s2, [])

/-- Apply a PATCH_SET: a route fade on every channel in use; each cut is counted (R289, R290). A source that has become
single-homed since drops it whole (R43, R172; DEDUCED, log entry 100). -/
def State.applyPatch (s : State) (c : SchedCmd) (ms : List Mast) : State × Nat :=
  let es := (List.range (fld c.payload 0 2)).map (patchEntry c.payload)
  let len := fadeSteps s.rate48 c.aux
  if es.any (fun e => s.isSingle e.2.cls e.2.index) then (s, stSingleHomed)
  else (es.foldl (fun acc e => ms.foldl (fun x m =>
    let d := x.dp.get m
    let r := d.repatch s.step len e.1 e.2 (d.inputUsed e.1)
    let x1 := x.setDp m r.1
    if r.2 then x1.bump m 0x6006 1 else x1) acc) s, stOk)

/-- Why a HOST_AUDIO_SET is refused (R209, R338). -/
def State.hostAudioRefusals (s : State) (h : Hdr) (p : List Byte) : List Nat :=
  let ch := fld p 2 1
  let bytes := fld p 16 4
  let bad := h.transport != .pcie || decide (fld p 0 1 > 1) || decide (fld p 1 1 > 1) || ch == 0 || decide (ch > 64) ||
    decide (fld p 3 1 > 1) || fld p 6 2 != 0 || fld p 8 8 % 4096 != 0 || decide (bytes < 65536) ||
    decide (bytes > 16777216) || bytes % 4096 != 0 || (fld p 0 1 == 0 && decide (fld p 4 2 + ch > 64))
  (if fld p 0 1 = 1 then runPresence s.variant (fld p 4 2) ch else []) ++ refuseIf bad stBadParam

/-- HOST_AUDIO_SET (R209, R338). -/
def execHostAudioSet (h : Hdr) (p : List Byte) (s : State) : Outcome State Fault Refusal :=
  .next <| s.receive h 0x0607 fun seat s1 =>
    s1.schedule h seat 0x0607 p (p.length == 20) (s1.hostAudioRefusals h p) (s1.effectiveStep h) h.mast.code
      fun s2 => (s2, [])

/-- Apply a HOST_AUDIO_SET: the ring of its direction moves to the mast of the session, its offsets at zero (R338,
R339). -/
def State.applyHostAudio (s : State) (c : SchedCmd) (ms : List Mast) : State × Nat :=
  let p := c.payload
  let m := Mast.ofCode c.aux
  let en := bit (fld p 3 1) 0
  let ring : HostRing :=
    { mast := m, packing := fld p 1 1, channels := fld p 2 1, first := fld p 4 2, addr := fld p 8 8,
      bytes := fld p 16 4, running := s.serves m }
  let play := decide (fld p 0 1 = 0)
  let s1 := s.changeAud ms (fun a => if play then { a with play := if en then some ring else none }
    else { a with rec' := if en then some ring else none })
  let hp := s1.port.get m
  let w := hp.window
  let s2 : State :=
    if en then
      { s1 with port := s1.port.set m { hp with window :=
          if play then { w with playWr := 0, playRd := 0 } else { w with recWr := 0, recRd := 0 } } }
    else s1
  (s2.portState m (if play then 5 else 6) 0 (if en then 2 else 0), stOk)

/-- Why an SDI_AUDIO_SET is refused (R210, R308). A variant without SDI audio lacks what the command acts on, whatever PORT
holds: it answers ST_NOT_PRESENT even beyond the family's range (DESIGN CHOICE, log entry 92). -/
def State.sdiAudioRefusals (s : State) (p : List Byte) : List Nat :=
  let port := fld p 2 2
  let g := fld p 1 1
  let a := s.aud.get s.lead
  refuseIf (s.variant != .v2048V) stNotPresent ++ presence port (Config.sdiPorts s.variant) 64 ++
    refuseIf (decide (fld p 0 1 > 1) || decide (g > 15)) stBadParam ++ refuseIf (!s.videoRuns) stBadMode ++
    refuseIf (fld p 0 1 == 0 && decide (a.asrcUsed 512 port + 4 * groupCount g > 1536)) stNoSpace

/-- SDI_AUDIO_SET (R210, R308). -/
def execSdiAudioSet (h : Hdr) (p : List Byte) (s : State) : Outcome State Fault Refusal :=
  .next <| s.receive h 0x0608 fun seat s1 =>
    s1.schedule h seat 0x0608 p (p.length == 4) (s1.sdiAudioRefusals p) (s1.effectiveStep h) 0 fun s2 => (s2, [])

/-- Apply an SDI_AUDIO_SET: a direction that had no group starts (R321). -/
def State.applySdiAudio (s : State) (c : SchedCmd) (ms : List Mast) : State × Nat :=
  let p := c.payload
  let port := fld p 2 2
  let g := fld p 1 1
  let s1 := s.changeAud ms (fun a =>
    let x := a.sdi.getD port SdiAudio.reset
    let y : SdiAudio := if fld p 0 1 = 0 then
        (if x.inGroups = 0 && g != 0 then { x with inGroups := g, frames := 0, caps := [] } else { x with inGroups := g })
      else if x.outGroups = 0 && g != 0 then { x with outGroups := g, outStart := s.step, outMade := 0, fifo := [] }
      else { x with outGroups := g }
    { a with sdi := a.sdi.put port y })
  let on := (s1.aud.get s1.lead).portEnabled 4 port
  (s1.portStates ms 4 port (if !on then 0 else if (s1.aud.get s1.lead).report 4 port |>.state |> (· = 2) then 2 else 1),
    stOk)

/-- Why a SIDETONE_SET is refused (R210, R293). -/
def State.sidetoneRefusals (s : State) (p : List Byte) : List Nat :=
  let here := Config.audioChannels s.variant
  presence (fld p 2 2) here 2048 ++ presence (fld p 4 2) here 2048 ++
    refuseIf (decide (fld p 0 1 > 15) || decide (fld p 1 1 > 1) || fld p 6 2 != 0 || decide (fld p 8 8 ≥ 2 ^ 36)) stBadParam

/-- SIDETONE_SET (R210, R293). -/
def execSidetoneSet (h : Hdr) (p : List Byte) (s : State) : Outcome State Fault Refusal :=
  .next <| s.receive h 0x0609 fun seat s1 =>
    s1.schedule h seat 0x0609 p (p.length == 16) (s1.sidetoneRefusals p) (s1.effectiveStep h)
      (s1.defaultRamp (s1.effectiveStep h)) fun s2 => (s2, [])

/-- Apply a SIDETONE_SET: a fade from the gain in force to the new one, or to 0 (R293). -/
def State.applySidetone (s : State) (c : SchedCmd) (ms : List Mast) : State × Nat :=
  let p := c.payload
  let i := fld p 0 1
  let en := bit (fld p 1 1) 0
  let len := fadeSteps s.rate48 c.aux
  (s.changeDp ms (fun d => match d.side[i]? with
    | some t =>
      let y : SideTone := if en then
          { t with enabled := true, src := fld p 2 2, dst := fld p 4 2, gain := t.gain.turn s.step len (val36 (fld p 8 8)) }
        else { t with enabled := false, gain := t.gain.turn s.step len 0 }
      { d with side := setAt d.side i y }
    | none => d), stOk)

end Sys2Proof.Machine
end

