-- ==== Sys2Proof/Machine/AudioStep.lean ====
section
/-! DEFINITION. What audio sources deliver in each step: concealment (R310), converters (R306 to R309), PTP-locked and
asynchronous streams (R325, R327), host rings (R339, R340), and what sent streams send (R329, R330). -/
namespace Sys2Proof.Machine

/-- One sample position of a channel: a good sample, or a missing one (R310). The second part is the sample delivered,
the third whether a run begins. -/
def Conceal.push (c : Conceal) (x : Option Int) : Conceal × Int × Bool :=
  match x with
  | none =>
    ({ c with run := c.run + 1, fading := 0 },
      if c.run < 32 then (c.last * ((32 - c.run : Nat) : Int)).tdiv 32 else 0, decide (c.run = 0))
  | some y =>
    let fading := if c.run ≥ 32 then 32 else c.fading
    let v := if fading = 0 then y else (y * ((33 - fading : Nat) : Int)).tdiv 32
    ({ last := v, run := 0, fading := fading - 1 }, v, false)

/-- Push one sample position of the channels from `first` on; the second part tells whether a concealed run begins. -/
def Feed.push (f : Feed) (first : Nat) (xs : List (Option Int)) : Feed × Bool :=
  let one (acc : Feed × Bool) (i : Nat) : Feed × Bool :=
    match acc.1.conceal[first + i]? with
    | none => acc
    | some c =>
      let r := c.push ((xs[i]?).getD none)
      ({ acc.1 with conceal := setAt acc.1.conceal (first + i) r.1
                    hist := setAt acc.1.hist (first + i) ((r.2.1 :: atD acc.1.hist (first + i) []).take 64) },
        acc.2 || r.2.2)
  (List.range xs.length).foldl one (f, false)

/-- One sample position missing on every channel. -/
def Feed.pushMissing (f : Feed) : Feed × Bool := f.push 0 (List.replicate f.conceal.length none)

/-- `k` sample positions missing on every channel. -/
def Feed.pushMissings (f : Feed) : Nat → Feed × Bool
  | 0 => (f, false)
  | k + 1 =>
    let r := f.pushMissing
    let q := Feed.pushMissings r.1 k
    (q.1, r.2 || q.2)

/-- A converter's output word: zero where its whole history is zero, else the filter's word, whose coefficients the spec
does not give (R306, R307; log entry 1). -/
def converted (ratio phase : Nat) (l16 : Bool) (hist : List Int) : BitVec 36 :=
  if hist.all (fun v => v == 0) then 0
  else Config.asrcWord ratio phase (hist.map (fun v => wordOf (portIn l16 v)))

/-- The words a converter delivers in this step. -/
def Feed.convert (f : Feed) (phase : Nat) (l16 : Bool) : Feed :=
  { f with cur := f.hist.map (converted f.ratio phase l16) }

/-- The words of a source that needs no conversion: its newest samples. -/
def Feed.direct (f : Feed) (l16 : Bool) : Feed :=
  { f with cur := f.hist.map (fun h => wordOf (portIn l16 (h.headD 0))) }

/-- The Captain's estimate for a step: the latest one at or before it (R56). -/
def Feed.estimateAt (f : Feed) (n : Nat) : Nat :=
  f.ests.foldl (fun r e => if e.1 ≤ n then e.2 else r) f.ratio

/-- Take up the estimate for step `n` and forget the older ones. -/
def Feed.takeEstimate (f : Feed) (n : Nat) : Feed :=
  { f with ratio := f.estimateAt n, ests := f.ests.filter (fun e => decide (n < e.1)) }

/-- An ASRC source that delivers nothing good in this step: missing samples at its ratio (R307, R310). -/
def Feed.stepMissing (f : Feed) : Feed × Bool :=
  let ratio := if f.ratio = 0 then 2 ^ 32 else f.ratio
  let r := f.pushMissings ((f.phase + ratio) / 2 ^ 32)
  (({ r.1 with phase := (f.phase + ratio) % 2 ^ 32 }).convert 0 false, r.2)

/-- A frame enters its converter by step `n`: 16 + F steps after the one assigned (R57, R309, R312). -/
def Captured.dueBy (c : Captured) (n fence : Nat) : Bool := c.step.elim false (fun a => decide (a + 16 + fence ≤ n))

/-- One step of a source with captured frames: those due enter. -/
def stepCaptured (f : Feed) (caps : List Captured) (n fence : Nat) (good : Bool) : Feed × List Captured × Bool :=
  let now := caps.filter (fun c => c.dueBy n fence)
  let rest := keepLast 1024 (caps.filter (fun c => !c.dueBy n fence))
  let f0 := f.takeEstimate (n - 16)
  if good then
    let r := now.foldl (fun acc c =>
      let q := acc.1.push c.first c.samples
      (({ q.1 with phase := c.phase } : Feed), acc.2 || q.2)) (f0, false)
    (r.1.convert r.1.phase false, rest, r.2)
  else
    let r := f0.stepMissing
    (r.1, rest, r.2)

/-- Nothing sounds in a source: every sample it holds is zero. -/
def Feed.quiet (f : Feed) : Bool := f.hist.all (fun h => h.all (fun v => v == 0)) && f.cur.all (fun w => w == 0)

/-- `k` sample positions missing on the channels of the groups that a port does not de-embed (R310, R333). -/
def SdiAudio.silenceOthers (x : SdiAudio) (k : Nat) : Feed :=
  (List.range 4).foldl (fun f g => if bit x.inGroups g then f
    else (List.range k).foldl (fun f' _ => (f'.push (4 * g) (List.replicate 4 none)).1) f) x.feed

/-- One step of the de-embedded audio of a port; a port that de-embeds no group delivers missing samples (R310, R333). -/
def SdiAudio.stepIn (x : SdiAudio) (n fence : Nat) (good : Bool) : SdiAudio × Bool :=
  if x.inGroups = 0 then (if x.feed.quiet then x else { x with feed := x.feed.stepMissing.1 }, false)
  else
    let lead := ((List.range 4).find? (fun g => bit x.inGroups g)).getD 0
    let k := if good then (x.caps.filter (fun c => c.dueBy n fence && c.first == 4 * lead)).length else 0
    let r := stepCaptured (x.silenceOthers k) x.caps n fence good
    ({ x with feed := r.1, caps := r.2.1 }, r.2.2)

/-- Whether a half-step instant lies on the grid of a stream's due times. -/
def onGrid (key grid period : Nat) : Bool := decide (key % period = grid % period)

/-- One step of a PTP-locked stream (R325): samples due now at the internal rate, samples due 8 steps ago at the other
rate. -/
def RxStream.stepPtp (x : RxStream) (internal n : Nat) : RxStream × Bool :=
  let one (acc : RxStream × Bool) (key : Nat) : RxStream × Bool :=
    let v := x.slots.find key
    let r := match v with
      | some ys => acc.1.feed.push 0 ((List.range x.channels).map (fun i => ys[i]?))
      | none => acc.1.feed.pushMissing
    ({ acc.1 with feed := r.1 }, acc.2 || r.2)
  if x.hz = internal then
    let r := one (x, false) (2 * n)
    ({ r.1 with feed := r.1.feed.direct x.l16, slots := x.slots.filter (fun e => decide (2 * n < e.1)) }, r.2)
  else
    let d := 2 * (n - 8)
    let keys := if n < 8 then [] else if x.hz = 2 * internal then [d, d + 1] else if onGrid d x.grid 4 then [d] else []
    let r := keys.foldl one (x, false)
    ({ r.1 with feed := r.1.feed.convert (n % 2) x.l16, slots := x.slots.filter (fun e => decide (d + 1 < e.1)) }, r.2)

/-- Consume `k` samples of an asynchronous stream in order (R327). -/
def RxStream.consume (x : RxStream) : Nat → RxStream × Bool
  | 0 => (x, false)
  | k + 1 =>
    let r := match x.slots.find x.next with
      | some ys => if x.feed.locked then x.feed.push 0 ((List.range x.channels).map (fun i => ys[i]?))
        else x.feed.pushMissing
      | none => x.feed.pushMissing
    let y : RxStream := { x with feed := r.1, slots := x.slots.drop x.next, next := x.next + 1 }
    let q := RxStream.consume y k
    (q.1, r.2 || q.2)

/-- One step of an asynchronous stream: consumption begins LINK_OFFSET + 16 steps after packet 0 and goes on at the
estimate in use (R320, R327). -/
def RxStream.stepAsync (x : RxStream) (n : Nat) : RxStream × Bool :=
  let x0 : RxStream := { x with feed := x.feed.takeEstimate (n - 16) }
  if !x.seen || decide (n < x.grid + x.linkOffset + 16) then
    let r := x0.feed.stepMissing
    ({ x0 with feed := r.1 }, r.2)
  else if !x.running then
    let r := ({ x0 with running := true, feed := { x0.feed with phase := 0 } } : RxStream).consume 1
    ({ r.1 with feed := r.1.feed.convert 0 x.l16 }, r.2)
  else
    let total := x0.feed.phase + x0.feed.ratio
    let r := x0.consume (total / 2 ^ 32)
    let f : Feed := { r.1.feed with phase := total % 2 ^ 32 }
    ({ r.1 with feed := f.convert f.phase x.l16 }, r.2)

/-- One step of a received stream. -/
def RxStream.stepRx (x : RxStream) (internal n : Nat) : RxStream × Bool :=
  if x.async then x.stepAsync n else x.stepPtp internal n

/-- What a step of the audio sources of a mast needs from the rest of the state. -/
structure AudioCtx where
  internal : Nat
  n : Nat
  fence : Nat
  /-- SDI audio is de-embedded: SERVICE or ALARM, video not shed (R116, R333). -/
  sdi : Bool
  deriving DecidableEq, Repr

/-- Advance a table of sources by one step; the second part lists the keys whose concealed run begins. -/
def stepTable {α : Type} (t : Assoc α) (f : Nat → α → α × Bool) : Assoc α × List Nat :=
  let r := t.map (fun e => (e.1, f e.1 e.2))
  (r.map (fun e => (e.1, e.2.1)), (r.filter (fun e => e.2.2)).map (fun e => e.1))

/-- One step of every audio source of a mast; the second part lists the counters of concealed runs that begin. -/
def AudioMast.stepSources (a : AudioMast) (c : AudioCtx) : AudioMast × List Nat :=
  let aes := a.aesIn.map (fun x =>
    let r := stepCaptured x.feed x.caps c.n c.fence (x.enabled && x.locked && x.feed.locked)
    (({ x with feed := r.1, caps := r.2.1 } : AesIn), r.2.2))
  let rx := stepTable a.rx (fun _ x => x.stepRx c.internal c.n)
  let tails := (stepTable a.tails (fun _ x => x.stepRx c.internal c.n)).1
  let sdi := stepTable a.sdi (fun _ x => x.stepIn c.n c.fence (c.sdi && x.locked && x.rateOk && x.feed.locked))
  let due := a.playQueue.find? (fun q => q.1 == c.n)
  let play := match due with
    | some (_, some ys) => match a.play with
      | some g => a.playFeed.push g.first ((List.range g.channels).map (fun i => ys[i]?))
      | none => a.playFeed.pushMissing
    | _ => match a.play with
      | some g => a.playFeed.push g.first (List.replicate g.channels none)
      | none => a.playFeed.pushMissing
  ({ a with
      aesIn := aes.map (fun x => x.1)
      rx := rx.1
      tails := tails.filter (fun e => decide ((e.2.feed.conceal.headD Conceal.reset).run < 128))
      sdi := sdi.1
      playQueue := a.playQueue.filter (fun q => decide (c.n < q.1))
      playFeed := play.1.direct false },
    ((List.range aes.length).filter (fun i => ((aes[i]?).map (fun x => x.2)).getD false)).map (fun i => sourceCounter 0 i + 1) ++
    rx.2.map (fun i => sourceCounter 2 i + 1) ++ sdi.2.map (fun i => sourceCounter 4 i + 1) ++
    (if play.2 then [sourceCounter 5 0 + 1] else []))

/-- The frames due by step `n` of which the Captain's copy is good and this mast has none: class of the port, its index, and the step
assigned (R58). -/
def AudioMast.neverCaptured (a : AudioMast) (n fence : Nat) : List (Nat × Nat × Nat) :=
  let of (cls idx : Nat) (caps : List Captured) : List (Nat × Nat × Nat) :=
    (caps.filter (fun c => c.bad == 3 && c.dueBy n fence)).map (fun c => (cls, idx, c.step.getD n))
  ((List.range a.aesIn.length).map (fun i => of 0 i ((a.aesIn[i]?).elim [] (fun x => x.caps)))).flatten ++
    (a.sdi.map (fun e => of 4 e.1 e.2.caps)).flatten

/-- The word a source delivers in this step (R336): zero for a channel it does not have. -/
def AudioMast.word (a : AudioMast) (x : PatchSrc) : Int :=
  let of (f : Feed) : Int := wordVal (atD f.cur x.channel 0)
  match x.cls with
  | 1 => match a.rx.find x.index with
    | some r => of r.feed
    | none => match a.tails.find x.index with
      | some r => of r.feed
      | none => 0
  | 2 => match a.sdi.find x.index with
    | some r => of r.feed
    | none => 0
  | 3 => match a.aesIn[x.index]? with
    | some r => of r.feed
    | none => 0
  | 4 => match a.play with
    | some g => if g.first ≤ x.channel ∧ x.channel < g.first + g.channels then of a.playFeed else 0
    | none => of a.playFeed
  | _ => 0

/-! ### Sinks -/

/-- The restart fade of a sink in step `n` (R322): down over the 32 samples before a pending COMMON_START that names it,
up over the 32 after one. -/
def restartFade (pendingAt restart : Option Nat) (n : Nat) (v : Int) : Int :=
  let down := match pendingAt with
    | some t => if n < t ∧ t ≤ n + 32 then (v * ((t - n : Nat) : Int)).tdiv 32 else v
    | none => v
  match restart with
  | some t => if t ≤ n ∧ n < t + 32 then (down * ((n - t + 1 : Nat) : Int)).tdiv 32 else down
  | none => down

/-- The step of the next pending COMMON_START that names a port. -/
def Halyard.commonStartAt (hal : Halyard) (cls idx : Nat) : Option Nat :=
  ((hal.sched.filter (fun c => c.code == 0x0603 && (List.range (fld c.payload 0 2)).any (fun i =>
    fld c.payload (4 + 4 * i) 1 == cls && fld c.payload (6 + 4 * i) 2 == idx))).map (fun c => c.effStep)).foldl
    (fun best e => match best with
      | none => some e
      | some b => some (Nat.min b e)) none

/-- The RTP packet of a payload whose first sample is that of step `n` (R329, R479). -/
def TxStream.packet (x : TxStream) (n : Nat) (payload : List Byte) : List Byte :=
  be 1 0x80 ++ be 1 (fld x.params 5 1) ++ be 2 x.seq ++ be 4 n ++ fldBytes x.params 12 4 ++ payload

/-- A packet leaves (R329). -/
def TxStream.leave (x : TxStream) (n : Nat) (payload : List Byte) : TxStream :=
  { x with last := x.packet n payload, seq := (x.seq + 1) % 65536, sent := x.sent + 1 }

/-- One step of a sent stream: the frame of step `n` joins the packet being formed, and packets whose send step has come
leave (R329, R330). -/
def TxStream.stepTx (x : TxStream) (n : Nat) (pendingAt : Option Nat) (word : Nat → Int) (send : Bool) : TxStream :=
  let w := if x.l16 then 16 else 24
  let frame := (List.range x.channels).map (fun i => restartFade pendingAt x.restart n (portOut w (word (x.firstOut + i))))
  let frames := if n < x.start then x.frames else x.frames ++ [frame]
  let x1 : TxStream := if frames.length = x.samples then
      { x with frames := [], firstStep := n + 1,
               waiting := x.waiting ++ [(x.firstStep + x.samples + 8, x.firstStep, (frames.map x.frameBytes).flatten)] }
    else { x with frames := frames }
  let due := x1.waiting.filter (fun p => decide (p.1 ≤ n))
  let x2 : TxStream := { x1 with waiting := x1.waiting.filter (fun p => decide (n < p.1)) }
  if send then
    due.foldl (fun acc p => if p.2.1 < acc.start then acc.leave p.2.1 p.2.2
      else ({ acc with seq := if acc.begun then acc.seq else 0, begun := true } : TxStream).leave p.2.1 p.2.2) x2
  else x2

/-- Bytes of one frame of a host ring (R338). -/
def HostRing.frameSize (g : HostRing) : Nat := g.channels * (if g.packing = 0 then 3 else 4)

/-- One sample in the packing of a ring (R338). -/
def HostRing.sampleBytes (g : HostRing) (v : Int) : List Byte :=
  let b := beSigned 3 v
  if g.packing = 0 then b else 0 :: b.reverse

/-- The samples of a frame in the packing of a ring (R338): the low byte of a host word is ignored. -/
def HostRing.samplesOf (g : HostRing) (bs : List Byte) : List Int :=
  (List.range g.channels).map (fun i => signedOf 24
    (if g.packing = 0 then fld bs (3 * i) 3 else unbe (fldBytes bs (4 * i + 1) 3).reverse))

/-- The fill of a ring (R339). -/
def ringFill (wr rd bytes : Nat) : Nat := if bytes = 0 then 0 else (wr + bytes - rd % bytes) % bytes

/-- Host playback in step `n` (R339): a frame is read, or it is an underrun; both masts take it 8 steps later. `data` is
what the host's memory holds at PLAY_RD_PTR. -/
def State.stepPlayback (s : State) (n : Nat) (data : List Byte) : State :=
  match (s.aud.get s.lead).play with
  | none => s
  | some g =>
    if !g.running then s
    else
      let m := g.mast
      let hp := s.port.get m
      let w := hp.window
      let full := decide (g.frameSize ≤ ringFill w.playWr w.playRd g.bytes)
      let frame := if full then some (g.samplesOf data) else none
      let s1 := s.changeAud [.a, .b] (fun a => { a with playQueue := a.playQueue ++ [(n + 8, frame)] })
      let s2 : State := if full then
          { s1 with port := s1.port.set m { hp with window := { w with playRd := (w.playRd + g.frameSize) % g.bytes } } }
        else s1.bump m (sourceCounter 5 0) 1
      s2.portState m 5 0 (if full then 2 else 1)

/-- Host recording in step `n` (R340): the output words of step n − 8 go to the ring, or are dropped. -/
def State.stepRecording (s : State) (n : Nat) (word : Nat → Int) : State :=
  match (s.aud.get s.lead).rec' with
  | none => s
  | some g =>
    let m := g.mast
    let a := s.aud.get m
    let now := (List.range g.channels).map (fun i => portOut 24 (word (g.first + i)))
    let s0 := s.setAud m { a with recQueue := (now :: a.recQueue).take 9 }
    match (now :: a.recQueue)[8]? with
    | none => s0
    | some frame =>
      if !g.running || decide (n < 8) then s0
      else
        let hp := s0.port.get m
        let w := hp.window
        if g.bytes - 1 - ringFill w.recWr w.recRd g.bytes < g.frameSize then
          (s0.bump m (sinkCounter 6 0 + 1) 1).portState m 6 0 1
        else
          let bytes := (frame.map g.sampleBytes).flatten
          let a0 := s0.aud.get m
          let s1 : State :=
            { s0 with port := s0.port.set m { hp with window := { w with recWr := (w.recWr + g.frameSize) % g.bytes } }
                      aud := s0.aud.set m { a0 with recFrame := bytes } }
          s1.portState m 6 0 2

/-- A ring stops when its mast is no longer CAPTAIN or STOKER (R341). -/
def State.stopRings (s : State) : State :=
  let off (m : Mast) (g : Option HostRing) : Bool := match g with
    | some x => x.running && x.mast = m && !s.serves m
    | none => false
  let stop (g : Option HostRing) : Option HostRing := g.map (fun x => { x with running := x.running && s.serves x.mast })
  let one (acc : State) (m : Mast) : State :=
    let a := s.aud.get s.lead
    let s1 := if off m a.play then acc.portState m 5 0 1 else acc
    if off m a.rec' then s1.portState m 6 0 1 else s1
  (one (one s .a) .b).changeAud [.a, .b] (fun a => { a with play := stop a.play, rec' := stop a.rec' })

end Sys2Proof.Machine
end

