-- ==== Sys2Proof/Machine/Frames.lean ====
section
/-! DEFINITION. Ethernet frames of the media ports: which are discarded on receipt (R388), and the four egress queues of each
port (R390). -/
namespace Sys2Proof.Machine

/-- A lane of a mast. -/
def State.lane (s : State) (m : Mast) (l : Nat) : Lane := (s.lan.get m).lanes.getD l Lane.none

/-- Replace a lane; its state gauge follows (R505). -/
def State.setLane (s : State) (m : Mast) (l : Nat) (x : Lane) : State :=
  let y := s.lan.get m
  let s1 : State := { s with lan := s.lan.set m { y with lanes := y.lanes.put l x } }
  s1.gauge m (0x6100 + 4 * l + 3) x.st.code

/-- The PORT item of a lane pair (R386, R570). -/
def State.portItem (s : State) (m : Mast) (l : Nat) : Option PortItem :=
  match s.sec.profile with
  | some p => p.ports.find? (fun x => x.mast == m.code && x.lane == l && x.mode != 0)
  | none => none

/-! ### Receipt (R388) -/

/-- The MAC address of a multicast group (PRESUMED, log entry 101): the prefix of its IP version and the low bits of the address. -/
def groupMac (ipVer addr : Nat) : Nat :=
  if ipVer = 4 then 0x01005E000000 + addr % 2 ^ 23 else 0x333300000000 + addr % 2 ^ 32

/-- Whether a flow entry's destination is multicast (R356). -/
def FlowEntry.multicast (e : FlowEntry) : Bool :=
  let d := fld e.match' 4 16
  if fld e.match' 0 1 = 4 then d / 2 ^ 28 == 14 else d / 2 ^ 120 == 255

/-- Whether a mast keeps a membership of the group with a MAC address (R356). -/
def State.keepsGroup (s : State) (m : Mast) (mac : Nat) : Bool :=
  (s.vid.get m).flows.any (fun e => e.2.multicast && (s.portFor m (fld e.2.match' 4 16)).isSome &&
    groupMac (fld e.2.match' 0 1) (fld e.2.match' 4 16) == mac)

/-- Whether a received frame is discarded (R388): its FCS, its length against its port's MTU, its destination, or its being a
PAUSE or priority flow control frame. -/
def State.frameBad (s : State) (m : Mast) (f : FrameFacts) : Bool :=
  let mtu := (s.portItem m f.port).elim 1500 (fun x => x.mtu)
  let mac := (s.portItem m f.port).elim 0 (fun x => x.mac)
  !f.fcsOk || decide (f.length < 64) || decide (mtu + (if f.tagged then 22 else 18) < f.length) || f.pause ||
    !(f.dest == mac || f.dest == 0xFFFFFFFFFFFF || s.keepsGroup m f.dest)

/-- A mast's Route die examines received packets: it is powered and the mast computes or joins (R355). -/
def State.receives (s : State) (m : Mast) : Bool := s.md.routeOn.get m && (s.live m)

/-- Whether a port is up: its lane is, or all four of a port in MODE 3 (R386, R396, R399). -/
def State.portUp (s : State) (m : Mast) (port : Nat) : Bool :=
  let four := (s.portItem m port).elim false (fun x => x.mode == 3)
  if four then (List.range 4).all (fun i => (s.lane m (port / 4 * 4 + i)).st == .up) else (s.lane m port).st == .up

/-- A media port of a mast that receives: it is up, and the Route die examines what comes (R355). -/
def State.hears (s : State) (m : Mast) (port : Nat) : Bool :=
  s.md.routeOn.get m && s.live m && decide (port < 128) && s.portUp m port

/-- A received frame counts, and one that is discarded counts as such (R388, R506). -/
def State.countFrame (s : State) (m : Mast) (f : FrameFacts) : State :=
  let s1 := s.bump m (0x0400 + 8 * f.port + 7) 1
  if s.frameBad m f then s1.bump m (0x0400 + 8 * f.port + 4) 1 else s1

/-! ### Egress (R390) -/

/-- Bytes that an egress queue holds, by priority from 0. -/
def egressBytes (k : Nat) : Nat := if k < 3 then 65536 else 524288

/-- What a frame takes on the line, in thirds of a bit: its bytes, with the preamble and the gap of IEEE 802.3 (log entry 102). -/
def frameCost (bytes : Nat) : Nat := 24 * (bytes + 20)

/-- What a port sends in a time, in thirds of a bit per third of a nanosecond: 10, 25 or 100 Gb/s (R386). -/
def portRate (mode : Nat) : Nat := if mode = 1 then 10 else if mode = 2 then 25 else 100

/-- The egress queues of a port of a mast. -/
def LaneMast.egressOf (x : LaneMast) (port : Nat) : Egress := x.egress.getD port Egress.empty

/-- The SITE of an Ethernet port (R485). -/
def portSite (port : Nat) : Nat := 0xE0000000 + port

/-- Offer a frame to a port's queue of priority `k`, from 0 (R390). -/
def State.offer (s : State) (m : Mast) (port : Option Nat) (k bytes : Nat) : State :=
  match port with
  | none => s
  | some p =>
    let x := s.lan.get m
    let e := x.egressOf p
    { s with lan := s.lan.set m { x with egress := x.egress.put p { e with
        queues := setAt e.queues k (atD e.queues k [] ++ [bytes]) } } }

/-- Send the frames of one queue, oldest first, while the credit lasts. -/
def sendQueue : Nat → List Nat → Nat × List Nat
  | credit, [] => (credit, [])
  | credit, b :: rest => if frameCost b ≤ credit then sendQueue (credit - frameCost b) rest else (credit, b :: rest)

/-- Send from the queues in strict order of priority: a lower queue sends only once the higher ones are empty. -/
def sendStrict : Nat → List (List Nat) → Nat × List (List Nat)
  | credit, [] => (credit, [])
  | credit, q :: rest =>
    let r := sendQueue credit q
    if r.2.isEmpty then
      let t := sendStrict r.1 rest
      (t.1, [] :: t.2)
    else (r.1, r.2 :: rest)

/-- The frames of a queue that fit its size: those beyond it are dropped at its tail. -/
def fitQueue : Nat → List Nat → List Nat
  | _, [] => []
  | room, b :: rest => if b ≤ room then b :: fitQueue (room - b) rest else []

/-- The queues of a port after a step: what could be sent is gone, and what no queue has room for is dropped; the second part
counts the drops (R390). -/
def Egress.step (e : Egress) (credit : Nat) : Egress × Nat :=
  let r := sendStrict (e.credit + credit) e.queues
  let kept := (List.range r.2.length).map (fun k => fitQueue (egressBytes k) (atD r.2 k []))
  let drops := (r.2.map List.length).foldl (· + ·) 0 - (kept.map List.length).foldl (· + ·) 0
  ({ queues := kept, credit := if kept.all (fun q => q.isEmpty) then 0 else r.1 }, drops)

/-- The egress queues of a mast over one step; a drop counts, and the first in a minute raises source 0x45 (R390). The frames of a
port that is not up are dropped and counted (R396). -/
def State.stepEgress (s : State) (m : Mast) : State :=
  (s.lan.get m).egress.foldl (fun acc e =>
    let x := acc.lan.get m
    if !acc.portUp m e.1 then
      ({ acc with lan := acc.lan.set m { x with egress := x.egress.drop e.1 } } : State).bump m (0x0400 + 8 * e.1 + 6)
        ((e.2.queues.map List.length).foldl (· + ·) 0)
    else
      let r := e.2.step (portRate ((acc.portItem m e.1).elim 1 (fun p => p.mode)) * acc.stepTime)
      let s1 : State := { acc with lan := acc.lan.set m { x with egress := x.egress.put e.1 r.1 } }
      if r.2 = 0 then s1
      else
        let s2 := s1.bump m (0x0400 + 8 * e.1 + 6) r.2
        let l := s2.lane m e.1
        if l.dropAt.elim true (fun t => decide (t + 60 * Config.second ≤ s2.now)) then
          (s2.setLane m e.1 { l with dropAt := some s2.now }).report m 0x45 (portSite e.1)
        else s2) s

/-! ### Memberships (R356) -/

/-- The memberships that the enabled flow entries of a mast need: on the port whose ranges hold the group, from the one source where the
entry matches it. -/
def State.groups (s : State) (m : Mast) : List Membership :=
  ((s.vid.get m).flows.filterMap (fun e =>
    let x := e.2.match'
    if e.2.multicast then
      (s.portFor m (fld x 4 16)).map (fun p =>
        { port := p, group := fld x 4 16, source := if bit (fld x 1 1) 0 then some (fld x 20 16) else none })
    else none)).eraseDups

/-- Send membership reports; each takes the shortest frame (R356, R390; log entry 102). -/
def State.sendReports (s : State) (m : Mast) (l : List (Membership × Bool)) : State :=
  let s1 : State := { s with vid := s.vid.set m { s.vid.get m with reported := l } }
  l.foldl (fun acc e => acc.offer m (some e.1.port) 0 64) s1

/-- The memberships of a mast follow its entries: it reports what it joins and what it leaves (R356). -/
def State.followGroups (s : State) (m : Mast) : State :=
  let old := (s.vid.get m).members
  let new := if s.receives m then s.groups m else []
  if new = old then s
  else
    let s1 : State := { s with vid := s.vid.set m { s.vid.get m with members := new } }
    let gone := (old.filter (fun x => !new.contains x)).map (fun x => (x, true))
    if s.receives m then s1.sendReports m ((new.filter (fun x => !old.contains x)).map (fun x => (x, false)) ++ gone) else s1

/-- The length of a frame with its headers and FCS that carries a UDP payload (R329): a VLAN tag where the stream names a VLAN. -/
def udpFrame (ipv6 tagged : Bool) (payload : Nat) : Nat :=
  Nat.max 64 (payload + 8 + (if ipv6 then 40 else 20) + (if tagged then 22 else 18))

end Sys2Proof.Machine
end

