-- ==== Sys2Proof/Machine/Rigs.lean ====
section
/-! DEFINITION. Group 0x04: rigs (R195 to R200, R262 to R268, R280 to R287), with the end of a verification, of a tack,
and of a load that has gone quiet. -/
namespace Sys2Proof.Machine
open Host

/-- The standby slot is in use: verifying, or named by a tack (R263). -/
def State.standbyBusy (s : State) : Bool :=
  s.rigs.state = .verifying || s.rigs.state = .tackPending || s.rigs.state = .tacking

/-- Why a RIG_LOAD is refused (R185, R196, R263). -/
def State.rigLoadRefusals (s : State) (seat : Nat) (p : List Byte) : List Nat :=
  refuseIf s.standbyBusy stBusy ++ refuseIf (fld p 9 1 != 0) stBadParam ++
    s.chunkRefusals .rig seat p Config.rigSlotBytes

/-- A chunk of a rig image goes into the standby slot; LAST makes it LOADED (R196, R263). -/
def State.loadRig (s : State) (seat : Nat) (p : List Byte) : State × Nat :=
  let r := s.storeChunk .rig seat p
  ({ r.1 with rigs := { r.1.rigs with image := r.2, state := if bit (fld p 8 1) 1 then .loaded else .loading } }, r.2.length)

/-- RIG_LOAD: one chunk into the standby slot (R185, R196, R263). -/
def execRigLoad (h : Hdr) (p : List Byte) (s : State) : Outcome State Fault Refusal :=
  .next <| s.receive h 0x0401 fun seat s1 =>
    s1.runChunk h seat 0x0401 .rig p (s1.rigLoadRefusals seat p) fun s2 =>
      ((s2.loadRig seat p).1, be 4 (s2.loadRig seat p).2)

/-- RIG_VERIFY (R197, R263). -/
def execRigVerify (h : Hdr) (p : List Byte) (s : State) : Outcome State Fault Refusal :=
  .next <| s.receive h 0x0402 fun seat s1 =>
    s1.runNow h seat 0x0402 (p.length == 0) .package (refuseIf (s1.rigs.state != .loaded) stWrongState) 0 fun s2 =>
      ({ s2 with rigs := { s2.rigs with state := .verifying, verifySeat := seat, verifySeq := h.hostSeq } }, [])

/-- The end of a verification on the Captain (R197, R263, R265, R268 to R271). `hashOk`: whether the trailer equals
the SHA-384 of the image. -/
def execRigVerifyDone (hashOk : Bool) (s : State) : Outcome State Fault Refusal :=
  .next <|
    if s.rigs.state != .verifying then s
    else
      let v := verifyImage s.rigs.image (s.verifyCtx hashOk)
      let s1 := s.rigVerified v
      { s1 with rigs := { s1.rigs with state := if v.rule = 0 then .verified else .refused } }

/-- The fade time that a TACK asks for: its own, or the default at its step (R198, R634). -/
def State.tackMs (s : State) (h : Hdr) (p : List Byte) : Nat :=
  if fld p 2 2 = 0 then s.defaultRamp (s.effectiveStep h) else fld p 2 2

/-- The plan of a TACK at its acceptance (R280 to R285). -/
def State.planFor (s : State) (h : Hdr) (p : List Byte) (seat : Nat) : Option TackPlan :=
  s.tackPlan (fld p 0 1) (s.effectiveStep h) (fadeSteps s.rate48 (s.tackMs h p)) seat h.hostSeq

/-- Why a TACK is refused (R198, R267, R280). -/
def State.tackRefusals (s : State) (h : Hdr) (p : List Byte) (seat : Nat) : List Nat :=
  refuseIf (decide (fld p 0 1 > 3) || fld p 1 1 != 0 || decide (fld p 2 2 > 2000) || fld p 4 4 != 0) stBadParam ++
  refuseIf (s.rigs.state = .tackPending || s.rigs.state = .tacking) stBusy ++
  refuseIf (s.rigs.state != .verified) stWrongState ++
  refuseIf (s.rigs.state = .verified && (s.planFor h p seat).isNone) stTackNoFit

/-- An accepted tack: the plan travels with the commit, and the standby slot is TACK_PENDING (R267, R280). -/
def State.tackAccepted (s : State) (t : TackPlan) : State :=
  { s with rigs := { s.rigs with state := .tackPending, plan := some t } }

/-- TACK (R198, R267, R280 to R285): the plan is made at acceptance and travels with the commit. -/
def execTack (h : Hdr) (p : List Byte) (s : State) : Outcome State Fault Refusal :=
  .next <| s.receive h 0x0403 fun seat s1 =>
    s1.schedule h seat 0x0403 p (p.length == 8) (s1.tackRefusals h p seat) (s1.effectiveStep h) (s1.tackMs h p) fun s2 =>
      match s1.planFor h p seat with
      | none => (s2, [])
      | some t => (s2.tackAccepted t, be 1 t.kind ++ zeros 3 ++ be 4 t.duration)

/-- Apply a TACK at its effective step (R172, R198, R267, R283). The status is zero where it applies. -/
def State.applyTack (s : State) (c : SchedCmd) (ms : List Mast) : State × Nat :=
  match s.rigs.state, s.rigs.plan with
  | .tackPending, some p =>
    match s.tackPlan p.kind s.step p.fade c.seat c.hostSeq with
    | none => (s.untack, stTackNoFit)
    | some _ =>
      let rig := readRig s.rigs.image
      let s1 := s.changeDp ms (fun d => d.startTack { p with step := s.step } rig)
      ({ s1 with rigs := { s1.rigs with state := .tacking, plan := some { p with step := s.step } } }, stOk)
  | _, _ => (s, stWrongState)

/-- A standby rig, VERIFIED or TACK_PENDING, that routes a single-homed input goes to REFUSED (R43, R263, R266). -/
def State.singleHomedRigs (s : State) : State :=
  if s.rigs.state = .verified || s.rigs.state = .tackPending then
    let v := verifyImage s.rigs.image (s.verifyCtx true)
    if v.rule = 0x0205 then
      let s1 := if s.rigs.state = .tackPending then
          let tacks := s.hal.sched.filter (fun c => c.code == 0x0403)
          let s0 := { s with hal := { s.hal with sched := s.hal.sched.filter (fun c => c.code != 0x0403) } }
          tacks.foldl (fun acc c => acc.dropSched c stSingleHomed) s0
        else s
      let s2 := s1.rigVerified v
      { s2 with rigs := { s2.rigs with state := .refused, plan := none } }
    else s
  else s

/-- A tack is complete: the incoming rig is active, the outgoing one standby and VERIFIED (R263, R267, R283); where it routes
an input that has become single-homed meanwhile, it cannot be committed again (R43). -/
def State.finishTack (s : State) (p : TackPlan) : State :=
  let old := s.rigs.active
  let s1 : State :=
    { s with
      rigs := { s.rigs with active := some s.rigs.image
                            image := old.getD []
                            state := if old.isSome then .verified else .empty
                            plan := none }
      dp := s.dp.map (fun d => { d with outgoing := none }) }
  (s1.tackDone p p.kind).singleHomedRigs

/-- The end of a tack at T + DURATION (R263, R267, R283). -/
def execTackEnd (s : State) : Outcome State Fault Refusal :=
  .next <|
    match s.rigs.state, s.rigs.plan with
    | .tacking, some p => if s.step < p.step + p.duration then s else s.finishTack p
    | _, _ => s

/-- RIG_DISCARD (R199, R264). -/
def execRigDiscard (h : Hdr) (p : List Byte) (s : State) : Outcome State Fault Refusal :=
  .next <| s.receive h 0x0404 fun seat s1 =>
    s1.runNow h seat 0x0404 (p.length == 0) .package (refuseIf s1.standbyBusy stBusy) 0 fun s2 => (s2.emptyStandby, [])

/-- The RIG_STATUS fields (R199). -/
def State.rigStatus (s : State) : List Byte :=
  let img := s.rigs.image
  let tack := match s.rigs.state, s.rigs.plan with
    | .tackPending, some p => p.step
    | .tacking, some p => p.step
    | _, _ => 0
  let act := s.rigs.active.map readRig
  be 1 s.rigs.state.code ++
  be 1 (match s.loadOf .rig with
    | some l => l.seat
    | none => 0xFF) ++ zeros 2 ++ be 4 img.length ++ be 8 tack ++
  be 4 (match act with
    | some r => r.rigId
    | none => 0) ++
  be 4 (if img.length < 16 then 0 else fld img 12 4) ++
  be 4 (match act with
    | some r => r.slots
    | none => 0) ++
  be 4 (match act with
    | some r => r.wordsUsed
    | none => 0)

/-- RIG_STATUS (R199). -/
def execRigStatus (h : Hdr) (p : List Byte) (s : State) : Outcome State Fault Refusal :=
  .next <| s.receive h 0x0405 fun seat s1 =>
    s1.runNow h seat 0x0405 (p.length == 0) .package [] 32 fun s2 => (s2, s2.rigStatus)

/-- The rig a latency report is asked of: slot 0 active, slot 1 standby where it holds a verified rig (R200). -/
def State.slotRig (s : State) (slot : Nat) : Option Rig :=
  if slot = 0 then s.rigs.active.map readRig
  else match s.rigs.state with
    | .verified => some (readRig s.rigs.image)
    | .tackPending => some (readRig s.rigs.image)
    | .tacking => some (readRig s.rigs.image)
    | _ => none

/-- Why a RIG_LATENCY is refused (R200). -/
def State.latencyRefusals (s : State) (p : List Byte) : List Nat :=
  refuseIf (decide (fld p 0 1 > 1) || fld p 1 3 != 0 || fld p 8 2 = 0 || fld p 10 2 != 0) stBadParam ++
    refuseIf (s.slotRig (fld p 0 1)).isNone stWrongState

/-- A page of the latencies of a slot's rig (R184, R200, R275). -/
def State.latencyPage (s : State) (h : Hdr) (p : List Byte) : List Byte :=
  let l := ((s.slotRig (fld p 0 1)).map Rig.latencies).getD []
  pageBytes (fld p 4 4) (fld p 8 2) (s.fitting h 8 8) l.length (fun i =>
    let x := atD l i (0, 0, 0)
    be 2 x.1 ++ be 2 x.2.1 ++ be 4 (s.latencyOf x))

/-- RIG_LATENCY (R200, R275). -/
def execRigLatency (h : Hdr) (p : List Byte) (s : State) : Outcome State Fault Refusal :=
  .next <| s.receive h 0x0406 fun seat s1 =>
    s1.runNow h seat 0x0406 (p.length == 12) .package (s1.latencyRefusals p) 8 fun s2 => (s2, s2.latencyPage h p)

/-- A chunked load with no chunk for 60 s is discarded; a loading rig slot becomes EMPTY (R185, R263). -/
def execLoadTimeout (t : LoadTarget) (s : State) : Outcome State Fault Refusal :=
  .next <|
    match s.loadOf t with
    | none => s
    | some l =>
      if s.now < l.lastChunk + 60 * Config.second then s
      else if t = .rig then s.emptyStandby else s.dropLoad t

end Sys2Proof.Machine
end

