-- ==== Sys2Proof/Machine/AudioIn.lean ====
section
/-! DEFINITION. What reaches the audio sources from outside: network packets and their exchange between the masts (R49 to
R53, R324 to R328), AES3 and SDI captures (R55 to R58, R307, R311 to R314, R333), and deferred port events (R343). -/
namespace Sys2Proof.Machine
open Host

/-! ### The flow table (R354, R355) -/

/-- Whether a packet matches an entry (R354). -/
def FlowEntry.matches' (e : FlowEntry) (r : RtpFacts) : Bool :=
  let f := fld e.match' 1 1
  r.ipVer == fld e.match' 0 1 && r.dest == fld e.match' 4 16 && r.port == fld e.match' 36 2 &&
  (!bit f 0 || r.src == fld e.match' 20 16) && (!bit f 1 || r.vlan == some (fld e.match' 2 2 % 4096)) &&
  (!bit f 2 || r.ssrc == fld e.match' 40 4)

/-- Bits set among MATCH_FLAGS. -/
def FlowEntry.weight (e : FlowEntry) : Nat := ((List.range 3).filter (fun i => bit (fld e.match' 1 1) i)).length

/-- The entry that wins: the most MATCH_FLAGS bits, then the lowest index (R354). -/
def VideoMast.lookup (v : VideoMast) (r : RtpFacts) : Option (Nat × FlowEntry) :=
  (v.flows.filter (fun e => e.2.matches' r)).foldl (fun best e => match best with
    | none => some e
    | some b => if b.2.weight < e.2.weight then some e else some b) none

/-- A miss (R355): discarded and counted. -/
def State.flowMiss (s : State) (m : Mast) (r : RtpFacts) : State :=
  let v := s.vid.get m
  (({ s with vid := s.vid.set m { v with misses := v.misses + 1, missAddr := r.dest, missPort := r.port } } : State)).bump
    m 0x6000 1

/-! ### Audio packets (R49 to R52, R324 to R328) -/

/-- Replace a received stream of a mast. -/
def State.setRx (s : State) (m : Mast) (st : Nat) (x : RxStream) : State :=
  let a := s.aud.get m
  s.setAud m { a with rx := a.rx.put st x }

/-- A received stream of a mast. -/
def State.rxOf (s : State) (m : Mast) (st : Nat) : Option RxStream := (s.aud.get m).rx.find st

/-- Whether a stream holds a packet. -/
def RxStream.holds (x : RxStream) (seq ts : Nat) : Bool := x.held.any (fun p => p.seq == seq && p.ts == ts)

/-- The full count of a timestamp: congruent to it modulo 2^32 and nearest to the count of the arrival (R479). -/
def fullCount (ts now : Nat) : Nat :=
  let d := (ts + 2 ^ 32 - now % 2 ^ 32) % 2 ^ 32
  if d < 2 ^ 31 then now + d else now + d - 2 ^ 32

/-- A(k) of a PTP-locked packet that arrived in step `at'`, in half steps: t(k) + P (R325, R479). -/
def RxStream.arrivalHalf (x : RxStream) (internal at' ts : Nat) : Nat :=
  2 * fullCount ts (at' * x.hz / internal) * internal / x.hz + 2 * x.samples * internal / x.hz

/-- A(k) of a PTP-locked packet, in whole steps. -/
def RxStream.arrivalStep (x : RxStream) (internal at' ts : Nat) : Nat := x.arrivalHalf internal at' ts / 2

/-- The packet number of a sequence number of an asynchronous stream, nearest to the one being consumed. -/
def RxStream.packetNo (x : RxStream) (seq : Nat) : Nat :=
  let near := x.next / Nat.max 1 x.samples
  let d := (seq + 65536 - (x.seq0 + near) % 65536) % 65536
  if d < 32768 then near + d else near + d - 65536

/-- Put the samples of a packet into the store, keeping those held first (R325). -/
def putSlots (t : Assoc (List Int)) (key period : Nat) : List (List Int) → Assoc (List Int)
  | [] => t
  | y :: ys =>
    putSlots (match t.find key with
      | some _ => t
      | none => t.put key y) (key + period) period ys

/-- The step by which a packet of a stream must be held: A(k) + LINK_OFFSET − 1 (R325), or the step before its first
sample is consumed. -/
def RxStream.lastStep (x : RxStream) (internal : Nat) (p : HeldPacket) : Nat :=
  if x.async then
    if x.seen then
      let i := x.packetNo p.seq * x.samples
      if i < x.next then 0 else x.grid + x.linkOffset + 16 + (i - x.next)
    else p.at' + x.linkOffset
  else x.arrivalStep internal p.at' p.ts + x.linkOffset - 1

/-- The last sample of a packet has left the store by step `n`, so the packet is no longer held (R52, R326). -/
def RxStream.spent (x : RxStream) (internal n : Nat) (p : HeldPacket) : Bool :=
  if x.async then x.seen && decide (x.packetNo p.seq * x.samples + x.samples ≤ x.next)
  else decide (x.lastStep internal p + packetSteps internal x.samples x.hz < n)

/-- A packet enters the depacketiser in step `n`: late ones do not (R52, R325, R327). The first of an asynchronous stream is consumed
LINK_OFFSET + 16 steps after the stream's start, or after its own arrival where it comes too late for that (R320, R327; DEDUCED, log
entry 114). -/
def RxStream.enter (x : RxStream) (internal n : Nat) (p : HeldPacket) : RxStream :=
  if x.lastStep internal p < n then x
  else
    let held := x.held.filter (fun q => !x.spent internal n q) ++ [p]
    if x.async then
      let from' := if p.at' < x.start + x.linkOffset + 16 then x.start else p.at'
      let y : RxStream := if x.seen then x else { x with seen := true, grid := from', seq0 := p.seq, next := 0 }
      { y with held := held, missing := 0,
               slots := putSlots y.slots (y.packetNo p.seq * y.samples) 1 p.samples }
    else
      let key := x.arrivalHalf internal p.at' p.ts + 2 * x.linkOffset
      { x with seen := true, held := held, missing := 0, grid := key,
               slots := putSlots x.slots key (2 * internal / x.hz) p.samples }

/-- How far a sequence number is ahead of the newest received; none where it is not, or where none has been received. The newer is
the one less than 32,768 ahead (PRESUMED, log entry 117). -/
def RxStream.ahead (x : RxStream) (seq : Nat) : Option Nat :=
  match x.newest with
  | none => none
  | some l =>
    let d := (seq + 65536 - l.seq) % 65536
    if d = 0 ∨ 32768 ≤ d then none else some d

/-- Note a packet received, where it is the newest. -/
def RxStream.receive (x : RxStream) (p : HeldPacket) : RxStream :=
  if x.newest.isSome && (x.ahead p.seq).isNone then x else { x with newest := some { p with samples := [] } }

/-- The sequence numbers between the newest packet received and a new one that this mast does not hold: a gap (R49). -/
def RxStream.gap (x : RxStream) (seq : Nat) : List Nat :=
  match x.ahead seq with
  | none => []
  | some d =>
    ((List.range d).tail.map (fun i => (seq + 65536 - d + i) % 65536)).filter (fun q => !x.held.any (fun p => p.seq == q))

/-- The step in which a packet ahead of the newest is expected: A(k), or for an asynchronous stream so many packet times after the
newest (R49, R325). -/
def RxStream.expected (x : RxStream) (internal seq : Nat) : Option Nat :=
  match x.newest, x.ahead seq with
  | some l, some d => some (if x.async then l.at' + d * packetSteps internal x.samples x.hz
      else x.arrivalStep internal l.at' ((l.ts + d * x.samples) % 2 ^ 32))
  | _, _ => none

/-- Note gap notices that a mast sends (R49). -/
def AudioMast.notice (a : AudioMast) (ns : List (Nat × Nat)) : AudioMast :=
  { a with notices := a.notices ++ ns.filter (fun n => !a.notices.contains n) }

/-- Note a mast's own estimate; the Captain's is the one in use (R56, R307). -/
def Feed.noteEstimate (f : Feed) (captain : Bool) (n est : Nat) : Feed :=
  { f with own := est, ests := if captain then f.ests.put n est else f.ests }

/-- A packet of a received stream that a frame brought: checked, and held for playout (R49, R324 to R328). -/
def State.audioPacket (s : State) (m : Mast) (entry st : Nat) (r : RtpFacts) (samples : List (List Int)) (estimate : Nat) : State :=
  match s.rxOf m st with
  | none => s
  | some x =>
    let s1 := s.bump m (0x4000 + 2 * entry) 1
    let p : HeldPacket := { seq := r.seq % 65536, ts := r.ts % 2 ^ 32, at' := s.step, samples := samples }
    let peer := match s.rxOf m.other st with
      | some y => s.serves m.other && y.holds p.seq p.ts
      | none => false
    let early := !x.async && decide (s.step + x.linkOffset + 2 * packetSteps s.rate x.samples x.hz
      < x.arrivalStep s.rate s.step p.ts + x.linkOffset)
    if r.version ≠ 2 || r.extras || r.payloadLen ≠ x.samples * x.channels * (if x.l16 then 2 else 3) then
      s1.bump m (sourceCounter 2 st + 3) 1
    else if x.holds p.seq p.ts then s1.bump m 0x6001 1
    else if early then (s1.bump m (sourceCounter 2 st + 3) 1).bump m 0x6002 1
    else
      let s2 := if peer then s1.bump m 0x6001 1 else s1
      let y := (x.enter s.rate s.step p).receive p
      let y1 : RxStream := if y.async then { y with feed := y.feed.noteEstimate (s.assigns m) s.step estimate } else y
      let s3 := s2.setRx m st y1
      let s4 := if s.sharing then
          s3.setAud m ((s3.aud.get m).notice ((x.gap p.seq).map (fun q => (st, q))))
        else s3
      s4.portState m 2 st 2

/-- AUDIO_PACKET_RX (R49, R324 to R328, R355, R388): a frame with a UDP packet that the table gives to an audio stream, or that it
misses. -/
def execAudioPacketRx (m : Mast) (r : RtpFacts) (samples : List (List Int)) (estimate : Nat) (s : State) :
    Outcome State Fault Refusal :=
  .next <|
    if !s.hears m r.frame.port then s
    else if s.frameBad m r.frame then s.countFrame m r.frame
    else
      match (s.vid.get m).lookup r with
      | none => (s.countFrame m r.frame).flowMiss m r
      | some (i, e) =>
        if e.typ ≠ 3 then s else (s.countFrame m r.frame).audioPacket m i (e.owner - 0x8000) r samples estimate

/-- A packet is overdue by two steps (R49). -/
def RxStream.overdue (x : RxStream) (internal n seq : Nat) : Bool :=
  (x.expected internal seq).elim false (fun e => decide (e + 2 ≤ n)) && !x.held.any (fun p => p.seq == seq)

/-- PACKET_EXPECTED_TIMEOUT (R49, R87): nothing by 2 steps after the expected arrival; a gap notice goes to the peer. -/
def execPacketExpectedTimeout (m : Mast) (st seq : Nat) (s : State) : Outcome State Fault Refusal :=
  .next <|
    match s.rxOf m st with
    | some x =>
      if s.receives m && s.sharing && x.overdue s.rate s.step seq then
        s.setAud m ((s.aud.get m).notice [(st, seq)])
      else s
    | none => s

/-- A gap notice for a video packet (R34, R54): a mast that has received the packet queues it behind every other class. -/
def State.videoNotice (s : State) (m : Mast) (port seq : Nat) : State :=
  match (s.vid.get m).seqs.find port with
  | some x =>
    if x.missing.any (fun e => e.1 == seq) || decide (2 ^ 15 ≤ (x.seq + 2 ^ 16 - seq) % 2 ^ 16) then s
    else
      let y := s.lan.get m
      { s with lan := s.lan.set m { y with
          videoOut := y.videoOut ++ [{ port := port, seq := seq, ts := x.ts, bytes := x.bytes }] } }
  | none => s

/-- GAP_NOTICE_RX (R34, R49, R54): the mast that receives the notice queues the packet for the Stay link, if it holds it. `video`:
the packet is one of flow input `st`. -/
def execGapNoticeRx (m : Mast) (video : Bool) (st seq : Nat) (s : State) : Outcome State Fault Refusal :=
  .next <|
    if !s.sharing || !s.receives m then s
    else if video then
      let v := s.vid.get m.other
      ({ s with vid := s.vid.set m.other { v with notices := v.notices.filter (fun n => n != (st, seq)) } } : State).videoNotice
        m st seq
    else
      let s1 := s.changeAud [m.other] (fun a => { a with notices := a.notices.filter (fun n => n != (st, seq)) })
      match s1.rxOf m st with
      | some x =>
        match x.held.find? (fun p => p.seq == seq) with
        | some p => s1.changeAud [m] (fun a => { a with forwards := a.forwards ++ [(st, p)] })
        | none => s1
      | none => s1

/-- A packet from the other mast, or from the Primary, enters as if it had arrived at its original step (R50, R91). -/
def State.enterForwarded (s : State) (m : Mast) (st : Nat) (p : HeldPacket) : State :=
  match s.rxOf m st with
  | none => s
  | some x =>
    let a := s.aud.get m
    let s1 := s.setAud m { a with notices := a.notices.filter (fun n => n != (st, p.seq)) }
    if x.holds p.seq p.ts then s1.bump m 0x6001 1
    else (s1.setRx m st (x.enter s.rate s.step p)).portState m 2 st 2

/-- FORWARDED_PACKET_RX (R50, R87): a packet that the peer has queued enters as if it had arrived at its original step. To a
Reserve in track the Primary supplies packets on request; `primary` is one that comes so (R91). -/
def execForwardedPacketRx (m : Mast) (st seq : Nat) (primary : Option HeldPacket) (s : State) : Outcome State Fault Refusal :=
  .next <|
    match primary with
    | some p => if s.tracks && (s.lan.get m).shroudUp && s.receives m then s.enterForwarded m st p else s
    | none =>
      let b := s.aud.get m.other
      match b.forwards.find? (fun f => f.1 == st && f.2.seq == seq) with
      | some f =>
        if s.sharing then
          (s.setAud m.other { b with forwards := b.forwards.filter (fun g => !(g.1 == st && g.2.seq == seq)) }).enterForwarded
            m st f.2
        else s
      | none => s

/-- PACKET_DEADLINE (R52, R328): a packet this mast does not hold at the step before its playout. Held by the other mast
it is merge-late here; held by neither it is lost, and 8 lost in a row return the stream to STATE 1. -/
def execPacketDeadline (m : Mast) (st seq : Nat) (s : State) : Outcome State Fault Refusal :=
  .next <|
    match s.rxOf m st with
    | none => s
    | some x =>
      if !s.receives m || x.held.any (fun p => p.seq == seq) then s
      else
        let peer := match s.rxOf m.other st with
          | some y => s.serves m.other && y.held.any (fun p => p.seq == seq)
          | none => false
        if peer then
          ((s.bump m (sourceCounter 2 st + 2) 1).bump m 0x6007 1).flag m .mergeLate s.step s.window
        else
          let s1 := (s.bump m (sourceCounter 2 st) 1).setRx m st { x with missing := x.missing + 1 }
          if x.missing + 1 = 8 then s1.portState m 2 st 1 else s1

/-- AUDIO_PORT_EVENT_DEFERRED (R343): the event held since the last one is raised a second after it. -/
def execAudioPortEventDeferred (m : Mast) (cls idx : Nat) (s : State) : Outcome State Fault Refusal :=
  .next <|
    let r := (s.aud.get m).report cls idx
    match r.last with
    | some t => if r.held && decide (t + Config.second ≤ s.now) then s.raisePort m cls idx else s
    | none => s

/-! ### Captures (R55 to R58, R312, R313, R333) -/

/-- The step a mast gives a frame at once: the Captain assigns the step in which it begins; the Stoker and a joining
mast wait for the assignment, and a Reserve in track for the Primary's (R55, R91). -/
def State.captureStep (s : State) (m : Mast) : Option Nat := if s.assigns m then some s.step else none

/-- A frame captured joins those of its port: in the place that an assignment has made for it, else at the end (R55). -/
def storeCapture (caps : List Captured) (c : Captured) : List Captured :=
  if caps.any (fun p => p.index == c.index && decide (3 ≤ p.bad)) then
    caps.map (fun p => if p.index == c.index && decide (3 ≤ p.bad) then { c with step := p.step, phase := p.phase } else p)
  else caps ++ [c]

/-- The Captain sends the assignment of a frame to the other mast; in Solo it is idle (R55, R87). -/
def State.sendCapture (s : State) (m : Mast) (cls port : Nat) (c : Captured) : State :=
  match c.step with
  | some k =>
    if s.sharing then
      let a := s.aud.get m
      s.setAud m { a with sent := a.sent ++ [{ cls := cls, port := port, index := c.index, first := c.first,
                                               channels := c.samples.length, step := k, phase := c.phase,
                                               bad := c.bad != 0 }] }
    else s
  | none => s

/-- A mast other than the Captain has a copy with an error that the Captain's lacks: the step is flagged as a capture error, and
an error not yet counted at capture is counted (R58). -/
def State.captureError (s : State) (m : Mast) (cls port bad step : Nat) : State :=
  (s.bump m (sourceCounter cls port) (if bad = 1 then 0 else 1)).flag m .captureError step s.window

/-- A copy fills the place of an assignment that came before it: its errors against the Captain's (R58). -/
def State.captureFilled (s : State) (m : Mast) (cls port : Nat) (caps : List Captured) (c : Captured) : State :=
  match caps.find? (fun p => p.index == c.index && p.bad == 3) with
  | some p => if c.bad ≠ 0 && s.tst m != .captain then s.captureError m cls port c.bad (p.step.getD s.step) else s
  | none => s

/-- AES3_FRAME_RX (R55, R310, R312, R313). -/
def execAes3FrameRx (m : Mast) (f : AesFrame) (s : State) : Outcome State Fault Refusal :=
  .next <|
    let a := s.aud.get m
    match a.aesIn[f.port]? with
    | none => s
    | some x =>
      if !x.enabled || !s.live m then s
      else
        let good (ok : Bool) (v : Int) : Option Int := if f.lineOk && ok then some (clampSigned 24 v) else none
        let blockBad := match f.block with
          | some b => bit (fld b.cs 0 1) 0 && !b.crcOk
          | none => false
        let parity := if f.lineOk then b01 (!f.leftOk) + b01 (!f.rightOk) else 0
        let c : Captured :=
          { index := x.frames, first := 0, samples := [good f.leftOk f.left, good f.rightOk f.right], phase := f.phase,
            step := s.captureStep m,
            bad := if !f.lineOk then 2 else if parity ≠ 0 || blockBad then 1 else 0 }
        let y : AesIn := { x with frames := x.frames + 1, caps := storeCapture x.caps c,
                                  feed := x.feed.noteEstimate (s.assigns m) s.step f.estimate }
        let y1 : AesIn := match f.block with
          | some b =>
            { y with flags := b01 b.anyValidity + 2 * b01 blockBad
                     cs := if blockBad then y.cs else fit 24 b.cs
                     user := fit 24 b.user }
          | none => y
        (((s.setAud m { a with aesIn := setAt a.aesIn f.port y1 }).bump m (sourceCounter 0 f.port) (parity + b01 blockBad)).sendCapture
          m 0 f.port c).captureFilled m 0 f.port x.caps c

/-- Assign the Captain's step and phase to this mast's copy of a frame; a place is made for a copy that is still to come
(R55). -/
def assignCapture (caps : List Captured) (x : CaptureNote) : List Captured :=
  if caps.any (fun c => c.index == x.index) then
    caps.map (fun c => if c.index = x.index then { c with step := some x.step, phase := x.phase } else c)
  else caps ++ [{ index := x.index, first := x.first, samples := List.replicate x.channels none, phase := x.phase,
                  step := some x.step, bad := if x.bad then 4 else 3 }]

/-- Change the captured frames of a port: CLASS 0 AES3 input, 4 SDI audio port. -/
def AudioMast.changeCaps (a : AudioMast) (cls port : Nat) (f : List Captured → List Captured) : AudioMast :=
  if cls = 0 then
    match a.aesIn[port]? with
    | some x => { a with aesIn := setAt a.aesIn port { x with caps := f x.caps } }
    | none => a
  else
    match a.sdi.find port with
    | some x => { a with sdi := a.sdi.put port { x with caps := f x.caps } }
    | none => a

/-- The captured frames of a port. -/
def AudioMast.capsOf (a : AudioMast) (cls port : Nat) : List Captured :=
  if cls = 0 then (a.aesIn[port]?).elim [] (fun x => x.caps) else (a.sdi.getD port SdiAudio.reset).caps

/-- A mast takes up the assignment of a frame. A copy with an error that the Captain's lacks flags the step as a capture error
(R58). An assignment that comes once the frame was to enter the patch, F steps after it, acts from the next boundary and is
flagged as late (R57, R633; DEDUCED, log entry 98). -/
def State.takeCapture (s : State) (m : Mast) (x : CaptureNote) : State :=
  let a := s.aud.get m
  let s1 := s.setAud m (a.changeCaps x.cls x.port (fun cs => assignCapture cs x))
  let s2 := if x.step + s.fence ≤ s.step then s1.flagLate m x.step else s1
  match (a.capsOf x.cls x.port).find? (fun c => c.index == x.index) with
  | some c => if c.bad ≠ 0 && !x.bad then s2.captureError m x.cls x.port c.bad x.step else s2
  | none => s2

/-- CAPTURE_ASSIGNMENT_RX (R55, R58, R91): the Stoker, or a joining mast, gives its copies the steps that the Captain has sent. The
masts of a Reserve in track take the assignments of the Primary's Captain. -/
def execCaptureAssignmentRx (m : Mast) (x : CaptureNote) (s : State) : Outcome State Fault Refusal :=
  .next <|
    if !s.live m then s
    else if s.tracks then s.takeCapture m x
    else if s.tst m = .captain || !(s.aud.get m.other).sent.contains x then s
    else
      let b := s.aud.get m.other
      (s.setAud m.other { b with sent := b.sent.filter (fun y => y != x) }).takeCapture m x

/-- Change the feed of a converting source: CLASS 0 AES3 input, 2 asynchronous stream, 4 SDI audio port. -/
def AudioMast.changeFeed (a : AudioMast) (cls idx : Nat) (f : Feed → Feed) : AudioMast :=
  if cls = 0 then
    match a.aesIn[idx]? with
    | some x => { a with aesIn := setAt a.aesIn idx { x with feed := f x.feed } }
    | none => a
  else if cls = 2 then
    match a.rx.find idx with
    | some x => if x.async then { a with rx := a.rx.put idx { x with feed := f x.feed } } else a
    | none => a
  else if cls = 4 then
    match a.sdi.find idx with
    | some x => { a with sdi := a.sdi.put idx { x with feed := f x.feed } }
    | none => a
  else a

/-- ASRC_ESTIMATE_RX (R56, R91): the Stoker, or a joining mast, takes the Captain's estimate for a step, and a Reserve in track
the Primary Captain's. The estimate of step n makes the words of step n + 16 (R309); one that comes after that step has begun
acts from the next boundary, and its step is flagged (R633). -/
def execAsrcEstimateRx (m : Mast) (cls idx step ratio : Nat) (s : State) : Outcome State Fault Refusal :=
  .next <|
    if s.assigns m then s
    else
      let late := decide (step + 16 ≤ s.step)
      let s1 := s.setAud m ((s.aud.get m).changeFeed cls idx (fun f =>
        { f with ests := f.ests.put (if late then s.step + 1 - 16 else step) (ratio % 2 ^ 64) }))
      if late && s.live m then s1.flagLate m step else s1

/-- Whether a converting source may reach lock (R307, R311, R333). -/
def AudioMast.lockable (a : AudioMast) (cls idx : Nat) : Bool :=
  if cls = 0 then (a.aesIn[idx]?).elim false (fun x => x.enabled && x.locked)
  else if cls = 2 then (a.rx.find idx).elim false (fun x => x.async && x.seen)
  else if cls = 4 then (a.sdi.find idx).elim false (fun x => x.inGroups != 0 && x.locked && x.rateOk)
  else false

/-- The nominal rate of a converting source: CLASS 0 AES3 input, 2 stream, 4 SDI audio (R307). -/
def AudioMast.nominalHz (a : AudioMast) (cls idx : Nat) : Nat :=
  if cls = 0 then rateHz ((a.aesIn[idx]?).elim 2 (fun x => x.rate)) else if cls = 2 then (a.rx.find idx).elim 48000 (fun x => x.hz)
  else 48000

/-- An estimate lies within 1,000 ppm of a nominal one (R307). -/
def tracks (ratio nominal : Nat) : Bool :=
  decide (nominal * 999 ≤ ratio * 1000) && decide (ratio * 1000 ≤ nominal * 1001)

/-- ASRC_LOCK (R307, R311): the estimate has stayed within 1 ppm of its mean for 4,096 steps. A source outside the tracking range
never reaches lock. -/
def execAsrcLock (m : Mast) (cls idx ratio : Nat) (s : State) : Outcome State Fault Refusal :=
  .next <|
    if !s.live m || !(s.aud.get m).lockable cls idx ||
        !tracks (ratio % 2 ^ 64) (nominalRatio s.rate ((s.aud.get m).nominalHz cls idx)) then s
    else
      let s1 := s.setAud m ((s.aud.get m).changeFeed cls idx (fun f =>
        ({ f with locked := true }).noteEstimate (s.assigns m) s.step (ratio % 2 ^ 64)))
      s1.portState m cls idx 2

/-- AES3_INPUT_LOCK (R311, R321): the rate code is reported; at the Captain's lock the port starts, and its frame counts
restart on both masts. -/
def execAes3InputLock (m : Mast) (port rate : Nat) (s : State) : Outcome State Fault Refusal :=
  .next <|
    let a := s.aud.get m
    match a.aesIn[port]? with
    | none => s
    | some x =>
      if !x.enabled || x.locked || decide (rate > 6) || !s.live m then s
      else
        let nominal := nominalRatio s.rate (rateHz rate)
        let y : AesIn := { x with locked := true, rate := rate, feed := { x.feed with ratio := nominal, locked := false } }
        let s1 := (s.setAud m { a with aesIn := setAt a.aesIn port y }).noteLock m 0 port false
        if s.tst m = .captain then s1.changeAud [.a, .b] (fun b => b.startPort s.rate 0 port s.step true) else s1

/-- AES3_INPUT_UNLOCK (R311). -/
def execAes3InputUnlock (m : Mast) (port : Nat) (s : State) : Outcome State Fault Refusal :=
  .next <|
    let a := s.aud.get m
    match a.aesIn[port]? with
    | none => s
    | some x =>
      if !x.locked then s
      else
        let y : AesIn := { x with locked := false, rate := 0xFF, feed := { x.feed with locked := false } }
        ((s.setAud m { a with aesIn := setAt a.aesIn port y }).noteLock m 0 port true).portState m 0 port (if x.enabled then 1 else 0)

/-- SITE of an INPUT (R485): 0 AES3, 1 SDI, 2 alarm input. -/
def inputSite (kind idx : Nat) : Nat := 0x90000000 + 4096 * kind + idx

/-- SINGLE_HOMED_CHANGE (R43, R263, R314, R372): 10 s of lock on one mast only, or on both, in Tandem throughout. -/
def execSingleHomedChange (cls idx : Nat) (s : State) : Outcome State Fault Refusal :=
  .next <|
    let key := portKey cls idx
    let la := s.inputLocked .a cls idx
    let lb := s.inputLocked .b cls idx
    let on := (s.aud.get s.lead).single.contains key
    if !s.inTandem || !s.locksStand cls idx || (cls ≠ 0 && cls ≠ 4) || decide (idx ≥ (if cls = 0 then 16 else Config.sdiPorts s.variant)) then s
    else if !on && la != lb then
      let s1 := s.changeAud [.a, .b] (fun a => { a with single := a.single ++ [key] })
      (s1.report (if la then .b else .a) 0xB4 (inputSite (if cls = 0 then 0 else 1) idx)).singleHomedRigs
    else if on && la && lb then
      s.changeAud [.a, .b] (fun a => { a with single := a.single.filter (fun k => k != key) })
    else s

/-- SDI_AUDIO_PACKET (R55, R310, R332, R333): a control packet tells the rate; a data packet of an enabled group gives one
sample of 4 channels. A good packet of an input without lock locks its audio. -/
def execSdiAudioPacket (m : Mast) (p : SdiPacket) (s : State) : Outcome State Fault Refusal :=
  .next <|
    let a := s.aud.get m
    match a.sdi.find p.port with
    | none => s
    | some x =>
      if s.variant ≠ .v2048V || !(s.md.mode = .service || s.md.mode = .alarm) || !bit x.inGroups p.group ||
          decide (p.group > 3) || s.md.shed.video || !s.live m then s
      else
        match p.control with
        | some ok =>
          let y : SdiAudio := { x with rateOk := ok, locked := true,
                                       feed := { x.feed with locked := x.feed.locked && ok, ratio := nominalRatio s.rate 48000 } }
          let s1 := (s.setAud m { a with sdi := a.sdi.put p.port y }).noteLock m 4 p.port (s.inputLocked m 4 p.port)
          let s2 : State := if !x.locked && s.isCaptain m then
              s1.changeAud [.a, .b] (fun b => b.startPort s.rate 4 p.port s.step true) else s1
          if ok then s2 else s2.portState m 4 p.port 1
        | none =>
          let c : Captured :=
            { index := x.frames, first := 4 * p.group,
              samples := (List.range 4).map (fun i => if p.checksOk then some (clampSigned 24 (atD p.samples i 0)) else none),
              phase := p.phase, step := s.captureStep m, bad := if p.checksOk then 0 else 1 }
          let y : SdiAudio := { x with frames := x.frames + 1, caps := storeCapture x.caps c,
                                       feed := x.feed.noteEstimate (s.assigns m) s.step p.estimate }
          (((s.setAud m { a with sdi := a.sdi.put p.port y }).bump m (sourceCounter 4 p.port) (b01 (!p.checksOk))).sendCapture
            m 4 p.port c).captureFilled m 4 p.port x.caps c

/-- FLOW_MISS_EVENT (R355): at most once per second. -/
def execFlowMissEvent (m : Mast) (s : State) : Outcome State Fault Refusal :=
  .next <|
    let v := s.vid.get m
    let due := match v.missAt with
      | some t => decide (t + Config.second ≤ s.now)
      | none => true
    if v.misses = 0 || !due then s
    else
      (({ s with vid := s.vid.set m { v with misses := 0, missAt := some s.now } } : State)).event m.code evFlowMiss
        (be 4 v.misses ++ be 16 v.missAddr ++ be 2 v.missPort ++ zeros 2)

end Sys2Proof.Machine
end

