-- ==== Sys2Proof/Machine/Faults.lean ====
section
/-! DEFINITION. Group 0x0A but for the health report, and what the collector, its log and its tests do by themselves
(R218 to R220, R483 to R509). -/
namespace Sys2Proof.Machine
open Host

/-! ### The MAST parameter (R182) -/

/-- The masts that a MAST value names: 2 names both. -/
def mastsNamed (v : Nat) : List Mast := if v = 0 then [.a] else if v = 1 then [.b] else if v = 2 then [.a, .b] else []

/-- Refusals of a MAST value: out of its range, or naming a mast that is OUT or JOINING; 2 names both masts (R182; log
entry 12). -/
def State.mastRefusals (s : State) (v : Nat) (both : Bool) : List Nat :=
  refuseIf (decide (v > (if both then 2 else 1))) stBadParam ++
  refuseIf ((mastsNamed v).any (fun m => !s.serves m)) stMastOut

/-! ### FAULT_REPORT and the log -/

/-- The source of a corrected read in a memory, and of an uncorrectable one (R249, R250, R484); slack memory and the
depacketiser store have their own. -/
def readSources (memory : Nat) : Nat × Nat :=
  if memory < 0x20 then (0x06, 0x02)
  else if memory = 0x20 then (0x06, 0x03)
  else if memory ≤ 0x22 then (0x06, 0x04)
  else if memory = 0x23 then (0x06, 0x05)
  else if memory < 0x28 then (0x25, 0x22)
  else if memory = 0x28 then (0x25, 0x24)
  else if memory = 0x29 then (0x25, 0x23)
  else if memory = 0x2B ∨ memory = 0x2C then (0x90, 0x92)
  else (0x90, 0x91)

/-- The three samples of an uncorrectable slack-memory word leave as black on the output whose buffer holds its row, and count there
(R246, R381), where the output carries an uncompressed source. -/
def State.slackLost (s : State) (m : Mast) (memory bank row : Nat) : State :=
  let v := s.vid.get m
  (slackOutputs (memory - 0x24) bank row).foldl (fun acc o =>
    if (v.out o).input = 0xFFFF || passthrough (v.outType o) || v.idle then acc else acc.bump m (outCounter o + 1) 3) s

/-- A report of a read that was corrected, or could not be, counts in its memory's counters (R249, R505); the words of an uncorrectable
read of a bank, a delay line or the ramp table are zero in the step that uses them (R250, log entry 109), and those of a slack buffer are black (R381). -/
def State.countRead (s : State) (m : Mast) (src site : Nat) : State :=
  let memory := site / 2 ^ 20 % 256
  if site / 2 ^ 28 ≠ 3 then s
  else if src = (readSources memory).1 then s.bump m (0x0200 + 2 * memory) 1
  else if src = (readSources memory).2 then
    let s1 := s.bump m (0x0200 + 2 * memory + 1) 1
    if memory ≤ 0x21 then s1.setMem m { s1.mem.get m with badReads := (s1.mem.get m).badReads ++ [site] }
    else if 0x24 ≤ memory ∧ memory < 0x28 then s1.slackLost m memory (site / 2 ^ 16 % 16) (site % 65536)
    else s1
  else s

/-- FAULT_REPORT (R483, R484, R487 to R491): a report of a source that R484 lists. `late` tells the second class of 0x63
and 0x67. -/
def execFaultReport (m : Mast) (src site step : Nat) (late : Bool) (s : State) : Outcome State Fault Refusal :=
  .next <|
    if s.md.mode = .vault || !(s.md.boot.get m).powerGood then s
    else (s.countRead m src site).reportInfo m src site { ReportInfo.plain step with late := late }

/-- LOG_WRITE: the log writer takes one report (R493). -/
def execLogWrite (m : Mast) (s : State) : Outcome State Fault Refusal := .next (s.logWrite m)

/-- BURST_CLOSE: 1 ms of quiet closes a source's burst (R494). -/
def execBurstClose (m : Mast) (src : Nat) (s : State) : Outcome State Fault Refusal :=
  .next <|
    match (s.fl m).bursts.find src with
    | some b => if b.last + Config.msec ≤ s.now then s.closeBurst m src else s
    | none => s

/-- One log entry as 32 bytes (R218). -/
def LogEntry.bytes (e : LogEntry) : List Byte :=
  be 4 e.id ++ be 2 e.source ++ be 1 e.reef ++
  be 1 (b01 e.acked + 2 * b01 e.summary + 4 * b01 e.lasting + 8 * b01 e.escalated) ++ be 8 e.step ++ be 4 e.count ++
  be 4 e.site ++ zeros 8

/-- Refusals of a page request (R184): COUNT is at least 1 and the reserved bytes are zero. -/
def pageRefusals (p : List Byte) (off : Nat) : List Nat :=
  refuseIf (fld p (off + 4) 2 = 0 || fld p (off + 6) 2 != 0) stBadParam

/-- The pages of the fault log of each mast that serves (R183, R184, R218). -/
def State.logPage (s : State) (h : Hdr) (p : List Byte) : List Byte :=
  let fitting := s.fitting h (8 + 8 * s.serving) (32 * Nat.max 1 s.serving)
  s.perMast (fun m => pageBytes (fld p 0 4) (fld p 4 2) fitting (s.fl m).log.length
    (fun i => (((s.fl m).log[i]?).map LogEntry.bytes).getD []))

/-- FAULT_LOG_READ (R218). -/
def execFaultLogRead (h : Hdr) (p : List Byte) (s : State) : Outcome State Fault Refusal :=
  .next <| s.receive h 0x0A01 fun seat s1 =>
    s1.runNow h seat 0x0A01 (p.length == 8) .perMast (pageRefusals p 0) (8 + 8 * s1.serving) fun s2 =>
      (s2, s2.logPage h p)

/-- Acknowledge entries of a mast's log, and its escalation registers that name them (R496). The second part counts
them. -/
def FaultState.ack (f : FaultState) (pick : LogEntry → Bool) : FaultState × Nat :=
  let hit := f.log.filter (fun e => pick e && !e.acked)
  ({ f with log := f.log.map (fun e => if pick e then { e with acked := true } else e)
            regs := f.regs.map (fun r => (r.1, if hit.any (fun e => e.id == r.2.entry) then { r.2 with acked := true } else r.2)) },
    hit.length)

/-- The masts that an acknowledgement or a march names and that serve (R168, R219). -/
def State.namedServing (s : State) (v : Nat) : List Mast := (mastsNamed v).filter s.serves

/-- Why a FAULT_ACK is refused (R219). -/
def State.ackRefusals (s : State) (p : List Byte) : List Nat :=
  let id := fld p 4 4
  let held := id == 0xFFFFFFFF || (s.namedServing (fld p 0 1)).any (fun m => (s.fl m).log.any (fun e => e.id == id))
  s.mastRefusals (fld p 0 1) true ++ refuseIf (fld p 1 3 != 0 || !held) stBadParam

/-- Acknowledge the named entry, or every entry, on the masts named; the number acknowledged (R219, R496). -/
def State.ackFaults (s : State) (p : List Byte) : State × Nat :=
  (s.namedServing (fld p 0 1)).foldl (fun acc m =>
    let q := (acc.1.fl m).ack (fun e => fld p 4 4 == 0xFFFFFFFF || e.id == fld p 4 4)
    (acc.1.setFl m q.1, acc.2 + q.2)) (s, 0)

/-- FAULT_ACK (R219, R496). -/
def execFaultAck (h : Hdr) (p : List Byte) (s : State) : Outcome State Fault Refusal :=
  .next <| s.receive h 0x0A02 fun seat s1 =>
    s1.runNow h seat 0x0A02 (p.length == 8) (.named (fld p 0 1)) (s1.ackRefusals p) 4 fun s2 =>
      ((s2.ackFaults p).1, be 4 (s2.ackFaults p).2)

/-! ### Counters and snapshots -/

/-- Items of the counter map (R504). -/
def counterTotal : Nat := 29728

/-- Whether an index lies in a gauge block (R505). -/
def isGauge (i : Nat) : Bool :=
  (decide (0x6100 ≤ i) && decide (i < 0x6100 + 932)) || (decide (0x6800 ≤ i) && decide (i < 0x6800 + 3072)) ||
  (decide (0x7400 ≤ i) && decide (i ≤ 0x741C))

/-- The value of an item of a counter map as 8 bytes (R504): a gauge with no value reads 0x8000_0000_0000_0000. -/
def mapItem (vals : Assoc Nat) (gauges : Assoc Int) (i : Nat) : List Byte :=
  if isGauge i then
    match gauges.find i with
    | some v => beSigned 8 v
    | none => be 8 (2 ^ 63)
  else be 8 (vals.getD i 0)

/-- The pages of the counter map of each mast that serves (R183, R184, R218, R505). -/
def State.counterPage (s : State) (h : Hdr) (p : List Byte) : List Byte :=
  let fitting := s.fitting h (8 + 8 * s.serving) (8 * Nat.max 1 s.serving)
  s.perMast (fun m => pageBytes (fld p 0 4) (fld p 4 2) fitting counterTotal (mapItem (s.ct m).vals (s.ct m).gauges))

/-- COUNTER_READ (R218, R504, R505). -/
def execCounterRead (h : Hdr) (p : List Byte) (s : State) : Outcome State Fault Refusal :=
  .next <| s.receive h 0x0A03 fun seat s1 =>
    s1.runNow h seat 0x0A03 (p.length == 8) .perMast (pageRefusals p 0) (8 + 8 * s1.serving) fun s2 =>
      (s2, s2.counterPage h p)

/-- The next EPOCH (R508). -/
def State.nextEpoch (s : State) : Nat := (s.snap.epoch + 1) % 2 ^ 32

/-- An accepted snapshot takes the next EPOCH and waits for its step (R220, R508). -/
def State.snapAccepted (s : State) (eff : Nat) : State :=
  { s with snap := { s.snap with epoch := s.nextEpoch, pendingAt := some eff } }

/-- SNAPSHOT (R220, R508): each takes the next EPOCH. -/
def execSnapshot (h : Hdr) (p : List Byte) (s : State) : Outcome State Fault Refusal :=
  .next <| s.receive h 0x0A04 fun seat s1 =>
    s1.schedule h seat 0x0A04 p (p.length == 0) (refuseIf s1.snap.pendingAt.isSome stBusy) (s1.effectiveStep h) s1.nextEpoch
      fun s2 => (s2.snapAccepted (s1.effectiveStep h), be 4 s2.nextEpoch)

/-- Freeze the counters of a mast under an epoch (R508, R509). -/
def Counters.freeze (c : Counters) (epoch : Nat) (serves : Bool) : Counters :=
  if serves then
    { c with shadow := c.vals, shadowGauges := c.gauges, shadowEpoch := epoch, shadowAbsent := none }
  else { c with shadow := [], shadowGauges := [], shadowEpoch := epoch, shadowAbsent := some 2 }

/-- Apply a SNAPSHOT at its effective step (R508). -/
def State.applySnapshot (s : State) (c : SchedCmd) : State × Nat :=
  ({ s with
      ctr := { a := s.ctr.a.freeze c.aux (s.serves .a), b := s.ctr.b.freeze c.aux (s.serves .b) }
      snap := { s.snap with pendingAt := none, frozenAt := some s.step, seat := c.seat, hostSeq := c.hostSeq } }, stOk)

/-- SNAPSHOT_EVENT: at E + 2 (R228, R508). -/
def execSnapshotEvent (s : State) : Outcome State Fault Refusal :=
  .next <|
    match s.snap.frozenAt with
    | some e =>
      if s.step < e + 2 then s
      else
        let epoch := Nat.max s.ctr.a.shadowEpoch s.ctr.b.shadowEpoch
        ({ s with snap := { s.snap with frozenAt := none } }).eventTo s.snap.seat 2 evSnapshot s.snap.hostSeq s.step
          (be 4 epoch ++ zeros 4 ++ be 8 e)
    | none => s

/-- OUTCOME of a mast in SNAPSHOT_READ (R183, R509). -/
def State.snapOutcome (s : State) (m : Mast) : Nat :=
  match (s.ct m).shadowAbsent with
  | some k => k
  | none => s.outcome m .perMast

/-- The EPOCH of the latest frozen set (R509). -/
def State.latestEpoch (s : State) : Nat := Nat.max s.ctr.a.shadowEpoch s.ctr.b.shadowEpoch

/-- A mast gives its frozen set: it serves, and the set has not been lost (R509). -/
def State.snapShown (s : State) (m : Mast) : Bool := s.serves m && (s.ct m).shadowAbsent.isNone

/-- The number of masts that give a frozen set. -/
def State.snapBlocks (s : State) : Nat := b01 (s.snapShown .a) + b01 (s.snapShown .b)

/-- Why a SNAPSHOT_READ is refused (R184, R509). -/
def State.snapReadRefusals (s : State) (p : List Byte) : List Nat :=
  pageRefusals p 4 ++ refuseIf (s.latestEpoch = 0 || fld p 0 4 != s.latestEpoch) stWrongState

/-- The page of one mast's frozen set, with its length; length 0 where it gives none (R183, R509). -/
def State.snapBlock (s : State) (h : Hdr) (p : List Byte) (m : Mast) : List Byte :=
  let fitting := s.fitting h (8 + 8 * s.snapBlocks) (8 * Nat.max 1 s.snapBlocks)
  let b := if s.snapShown m then
      pageBytes (fld p 4 4) (fld p 8 2) fitting counterTotal (mapItem (s.ct m).shadow (s.ct m).shadowGauges)
    else []
  be 4 b.length ++ b

/-- SNAPSHOT_READ (R220, R509). -/
def execSnapshotRead (h : Hdr) (p : List Byte) (s : State) : Outcome State Fault Refusal :=
  .next <| s.receive h 0x0A05 fun seat s1 =>
    match firstRefusal (s1.tooLarge h (8 + 8 * s1.snapBlocks) ++
        s1.commonRefusals h seat ⟨0x0A05, .read, rAll, mWQSAM⟩ (p.length == 12) ++ s1.snapReadRefusals p) with
    | some st => s1.refuse h seat 0x0A05 st []
    | none =>
      s1.reply h seat 0x0A05 true
        { status := stOk, effStep := s1.step, outA := s1.snapOutcome .a, outB := s1.snapOutcome .b,
          fields := s1.snapBlock h p .a ++ s1.snapBlock h p .b }

/-! ### Tests and repairs (R497 to R499, R503, R519, R521, R529) -/

/-- The transient history (R498): at most 128 sites; the oldest record is dropped. The second part tells whether one
was. -/
def FaultState.remember (f : FaultState) (site now : Nat) : FaultState × Bool :=
  let rest := f.history.filter (fun x => x.1 != site)
  if rest.length ≥ 128 then ({ f with history := rest.drop 1 ++ [(site, now)] }, true)
  else ({ f with history := rest ++ [(site, now)] }, false)

/-- Set LOG_FLAGS [2] in the newest entry of a source at a site (R498). -/
def markLasting (src site : Nat) : List LogEntry → List LogEntry
  | [] => []
  | e :: rest =>
    if e.source = src ∧ e.site = site ∧ !(rest.any (fun x => x.source == src && x.site == site)) then
      { e with lasting := true } :: rest
    else e :: markLasting src site rest

/-- A targeted self-test ends (R498): a pass is a transient, unless the history shows one at the site within 24 h; a
failure is lasting, and its repair follows. -/
def State.testResult (s : State) (m : Mast) (t : PendingTest) (passed : Bool) : State :=
  let f := s.fl m
  let f0 : FaultState := { f with tests := f.tests.filter (fun x => x.site != t.site) }
  let again := f.history.any (fun x => x.1 == t.site && decide (s.now ≤ x.2 + 86400 * Config.second))
  if passed && !again then
    let r := f0.remember t.site s.now
    let s1 := (s.setFl m r.1).bump m 0x0106 1
    if r.2 then s1.bump m 0x0108 1 else s1
  else
    let r := if passed then f0.remember t.site s.now else (f0, false)
    let s1 := (s.setFl m { r.1 with log := markLasting t.source t.site r.1.log }).bump m 0x0107 1
    (if r.2 then s1.bump m 0x0108 1 else s1).repair m t.site

/-- TARGETED_TEST_RESULT (R497, R498): of a unit, row or cell. -/
def execTargetedTestResult (m : Mast) (site : Nat) (passed : Bool) (s : State) : Outcome State Fault Refusal :=
  .next <|
    match (s.fl m).tests.find? (fun t => t.site == site) with
    | some t => if siteKind site = 5 then s else s.testResult m t passed
    | none => s

/-- ROW_COPY_END (R499): from the next step boundary the spare row serves. -/
def execRowCopyEnd (m : Mast) (site : Nat) (s : State) : Outcome State Fault Refusal :=
  .next (s.setFl m { s.fl m with copies := (s.fl m).copies.filter (fun c => c.1 != site) })

/-- OTP_REPAIR_WRITE (R503, R529): a pending entry reaches OTP, which holds 1,024; where it is full, the entry stays
pending and source 0x97 is raised once for it. -/
def execOtpRepairWrite (m : Mast) (s : State) : Outcome State Fault Refusal :=
  .next <|
    let x := s.mem.get m
    if s.writesHeld m then s
    else
      match x.repair.findIdx? (fun e => e.pending) with
      | none => s
      | some i =>
        if (x.repair.filter (fun e => e.inOtp)).length ≥ repairLimit then
          let waiting := (x.repair.filter (fun e => e.pending)).length
          if x.otpFull < waiting then (s.setMem m { x with otpFull := x.otpFull + 1 }).report m 0x97 0 else s
        else
          match x.repair[i]? with
          | some e => s.setMem m { x with repair := setAt x.repair i { e with pending := false, inOtp := true } }
          | none => s

/-- WRITE_HOLDOFF_END (R503): 100 ms after recovery the operation is verified, and rewritten if that fails; source 0x97
only if the rewrite fails too. Held-off image writes then go on under IMAGE_WRITE_DONE. -/
def execWriteHoldoffEnd (m : Mast) (rewriteFailed : Bool) (s : State) : Outcome State Fault Refusal :=
  .next <|
    let x := s.sup.get m
    let due := x.rails.any (fun r => r.recoveredAt.isSome) && !s.railHold m
    if !due then s
    else
      let s1 : State := { s with sup := s.sup.set m { x with rails := x.rails.map (fun r => { r with recoveredAt := none }) } }
      if rewriteFailed then s1.report m 0x97 0 else s1

/-- A read of a physical word and what it reports (R248 to R250, R505, R521). -/
def State.readWord (s : State) (m : Mast) (memory bank row word : Nat) : State :=
  let site := 0x30000000 + memory * 2 ^ 20 + bank * 2 ^ 16 + row
  match rsDecode word with
  | .clean => s
  | .corrected _ => (s.bump m (0x0200 + 2 * memory) 1).report m (readSources memory).1 site
  | .uncorrectable => (s.bump m (0x0200 + 2 * memory + 1) 1).report m (readSources memory).2 site

/-- SCRUB_READ (R519 to R521): the scrubber reads a word; slack memory and the depacketiser store are not scrubbed. The
write-back changes no data word. -/
def execScrubRead (m : Mast) (memory bank row word : Nat) (s : State) : Outcome State Fault Refusal :=
  .next <|
    if decide (memory > 0x30) || (decide (0x24 ≤ memory) && decide (memory < 0x28)) || memory == 0x29 ||
        s.md.mode = .vault || (decide (memory < 0x24) && !s.md.mixOn.get m) then s
    else s.readWord m memory (bank % 16) (row % 65536) word

end Sys2Proof.Machine
end

