-- ==== Sys2Proof/Machine/Supply.lean ====
section
/-! DEFINITION. Rails, sags, AVS over PMBus, temperatures and tamper (R501, R502, R581, R582, R594 to R600, R607). -/
namespace Sys2Proof.Machine
open Host

/-- Replace the supplies of a mast. -/
def State.setSup (s : State) (m : Mast) (x : SupplyMast) : State := { s with sup := s.sup.set m x }

/-- Change one rail of a mast. -/
def State.changeRail (s : State) (m : Mast) (rail : Nat) (f : RailSt → RailSt) : State :=
  let x := s.sup.get m
  match x.rails[rail]? with
  | some r => s.setSup m { x with rails := setAt x.rails rail (f r) }
  | none => s

/-- The rail of a code. -/
def State.railOf (s : State) (m : Mast) (rail : Nat) : RailSt := atD (s.sup.get m).rails rail .good

/-- The regulator of a core rail is off, so its supervisor is masked (R595). -/
def State.railMasked (s : State) (m : Mast) (rail : Nat) : Bool :=
  match (s.sup.get m).regs[rail]? with
  | some r => !r.on
  | none => false

/-! ### Stretching by a rail (R460) -/

/-- A core rail holds every region of a mast stretched: it is below its warning level (R460). -/
def State.railStretches (s : State) (m : Mast) : Bool := ((s.sup.get m).rails.take 3).any (fun r => r.low)

/-- Stretch every region of a mast that is not stretched yet (R459, R460). -/
def State.stretchAll (s : State) (m : Mast) : State :=
  let c := s.clk.get m
  { s with clk := s.clk.set m { c with regions := c.regions.map (fun r => match r.since with
      | some _ => r
      | none => { r with since := some s.now }) } }

/-- A region resumes full rate: its stretched time counts, in XO cycles (R459). -/
def State.resumeRegion (s : State) (m : Mast) (g : Nat) : State :=
  let c := s.clk.get m
  match c.regions[g]? with
  | some r => match r.since with
    | some t =>
      ({ s with clk := s.clk.set m { c with regions := setAt c.regions g { r with since := none } } }).bump m
        (0x0300 + 8 * g + 2) ((s.now - t) / Config.xoCycle)
    | none => s
  | none => s

/-! ### Sags -/

/-- RAIL_WARNING_DIP (R460, R501, R503): a core rail stretches every region; writes are held while it lasts. -/
def execRailWarningDip (m : Mast) (rail depthMv : Nat) (s : State) : Outcome State Fault Refusal :=
  .next <|
    if decide (rail > 8) || s.railMasked m rail then s
    else
      let s1 := s.changeRail m rail (fun r =>
        if r.low then { r with depthMv := Nat.max r.depthMv depthMv }
        else { r with low := true, dipAt := s.now, depthMv := depthMv })
      if rail < 3 then s1.stretchAll m else s1

/-- Source 0x81 (R502): the 17th sag of a rail within 60 s, raised again only after a full 60 s with no more than 16. -/
def State.sagRate (s : State) (m : Mast) (rail : Nat) : State :=
  let r := s.railOf m rail
  let due := match r.rateAt with
    | none => decide (r.sags.length ≥ 17)
    | some t => decide (r.sags.length = 17) && decide (t + 60 * Config.second ≤ s.now)
  if due then
    (s.changeRail m rail (fun x => { x with rateAt := some s.now })).report m 0x81 (0x80000000 + rail)
  else s

/-- SAG_RECOVERY (R501, R502): the rail has stayed above its warning level for 250 XO cycles; the sag is complete. -/
def execSagRecovery (m : Mast) (rail : Nat) (s : State) : Outcome State Fault Refusal :=
  .next <|
    let r := s.railOf m rail
    if !r.low || r.inReset then s
    else
      let sags := (r.sags.filter (fun t => decide (s.now < t + 60 * Config.second))) ++ [s.now]
      let s1 := s.changeRail m rail (fun x => { x with low := false, recoveredAt := some s.now, sags := sags })
      let s2 := (s1.bump m (0x0110 + rail) 1).reportInfo m 0x80 (0x80000000 + rail)
        { ReportInfo.plain s1.step with depthMv := r.depthMv, durationNs := (s.now - r.dipAt) / 3 }
      let s3 := s2.sagRate m rail
      if rail < 3 && !s3.railStretches m then (List.range 12).foldl (fun acc g => acc.resumeRegion m g) s3 else s3

/-- A mast is held in reset until its next power-good (R594). -/
def State.holdUnpowered (s : State) (m : Mast) : State :=
  { s with md := { s.md with boot := s.md.boot.set m { s.md.boot.get m with powerGood := false, phase := 0 } } }

/-- RAIL_RESET_LEVEL (R105, R130, R131, R501, R594, R596): source 0x82 and the mast reset of R131, also of a mast that is OUT;
then the mast is held in reset until power-good. -/
def execRailResetLevel (m : Mast) (rail : Nat) (s : State) : Outcome State Fault Refusal :=
  .next <|
    if decide (rail > 8) || s.railMasked m rail || (s.railOf m rail).inReset || s.md.mode = .vault then s
    else
      let s1 := s.changeRail m rail (fun r => { r with low := true, inReset := true })
      let s2 : State := if rail = 6 then { s1 with md := { s1.md with vnestLow := s1.md.vnestLow.set m (some s1.now) } } else s1
      let s3 := (if rail = 6 then s2.setAlive m false else s2).report m 0x82 (0x80000000 + rail)
      let idle := s.tst m = .out && !s.bootRuns m && (s.md.boot.get m).powerGood && s.md.mode != .lockout
      (if idle then s3.mastReset m 7 else s3).holdUnpowered m

/-! ### PMBus (R597 to R600) -/

/-- PMBUS_ALERT (R597): STATUS_WORD is read from each regulator, then the faults are cleared. A regulator that answers is
changed again (R600). `words` holds one STATUS_WORD per core regulator, none where it does not answer. -/
def execPmbusAlert (m : Mast) (words : List (Option Nat)) (s : State) : Outcome State Fault Refusal :=
  .next <|
    if s.md.mode = .vault || !(s.md.boot.get m).powerGood then s
    else
      let x := s.sup.get m
      let regs := (List.range x.regs.length).map (fun i =>
        let r := atD x.regs i { setMv := 800, on := true, failed := false, raisedAt := none, loweredAt := none, status := 0 }
        match (words[i]?).getD none with
        | some w => { r with status := w % 65536, failed := false }
        | none => r)
      s.setSup m { x with regs := regs, alerts := x.alerts + 1 }

/-- A demand in steps of 5 mV, clamped to 650 to 850 mV (R598). -/
def clampDemand (mv : Nat) : Nat := if mv = 0 then 0 else Nat.min 850 (Nat.max 650 ((mv + 4) / 5 * 5))

/-- One core rail follows its demand (R598): up at once, down by 5 mV per 1 ms and not within 1 s of a rise. -/
def Regulator.follow (r : Regulator) (now demand : Nat) : Regulator :=
  if !r.on || r.failed || demand = 0 then r
  else if r.setMv < demand then { r with setMv := demand, raisedAt := some now }
  else if demand < r.setMv then
    let held := match r.raisedAt with
      | some t => decide (now < t + Config.second)
      | none => false
    let soon := match r.loweredAt with
      | some t => decide (now < t + Config.msec)
      | none => false
    if held || soon then r else { r with setMv := Nat.max demand (r.setMv - 5), loweredAt := some now }
  else r

/-- A demand that has risen is held for 1 s: the highest of the old and new while held is the new one's business; here a
rise of the rail's highest demand marks the rail (R598). -/
def Regulator.noteRise (r : Regulator) (now before after : Nat) : Regulator :=
  if before < after then { r with raisedAt := some now } else r

/-- The lane region of a lane id (R384): media, Stay, Shroud, management. -/
def laneRegion (l : Nat) : Nat :=
  if l < 128 then l / 32 else if l < 192 then (l - 128) / 16 else if l < 224 then (l - 192) / 8
  else if l < 232 then (l - 224) / 2 else 0

/-- A region of a mast is to be powered: a Mix region of the variant with its die on and not shed, a Route region with its die on,
a lane region with a lane powered (R26, R97, R121). -/
def State.regionWanted (s : State) (m : Mast) (g : Nat) : Bool :=
  if g < 4 then s.md.mixOn.get m && decide (g < Config.mixRegions s.variant) && !(s.md.shed.inForce && bit s.md.shed.mixRegions g)
  else if g < 8 then s.md.routeOn.get m
  else (s.lan.get m).lanes.any (fun l => laneRegion l.1 + 8 == g && l.2.st != .unpowered)

/-- The forced closure of a block has timed out (R455). -/
def State.gateHeld (s : State) (m : Mast) (block : Nat) : Bool :=
  ((s.clk.get m).gates[block]?).elim false (fun g => g.forced.isSome)

/-- A region of a mast is powered: it is to be, or its forced closure has timed out (R455). -/
def State.regionOn (s : State) (m : Mast) (g : Nat) : Bool := s.regionWanted m g || s.gateHeld m g

/-- Whether a clock domain of a mast runs (R440); one that has lost every source does not (R448). -/
def State.domainRuns (s : State) (m : Mast) (d : Nat) : Bool :=
  let ph := (s.md.boot.get m).phase
  let on := (s.md.boot.get m).powerGood && s.md.mode != .vault
  if d = 0 then true
  else on && atD (s.clk.get m).domains d .primary != .stopped &&
    (if d = 3 then s.md.mixOn.get m || decide (6 ≤ ph)
     else if d = 6 then (if ph = 0 then s.videoRuns else decide (6 ≤ ph))
     else if d = 7 then (s.lan.get m).lanes.any (fun l => l.2.st != .unpowered)
     else true)

/-- AVS_UPDATE (R26, R598, R599): each region's demand, and one step of each core rail. `demands` are in mV for regions 0
to 11; a region that is power-gated makes none. Nothing changes while a rail is below its warning level, nor for 10 ms after. -/
def execAvsUpdate (m : Mast) (demands : List Nat) (s : State) : Outcome State Fault Refusal :=
  .next <|
    if s.md.mode = .vault || !(s.md.boot.get m).powerGood then s
    else
      let x := s.sup.get m
      let ds := (List.range 12).map (fun g => if s.regionOn m g then clampDemand (atD demands g 0) else 0)
      let top (l : List Nat) (r : Nat) : Nat := ((l.drop (4 * r)).take 4).foldl Nat.max 0
      let frozen := x.avsHeld s.now
      let regs := (List.range x.regs.length).map (fun i =>
        let r := atD x.regs i { setMv := 800, on := true, failed := false, raisedAt := none, loweredAt := none, status := 0 }
        if frozen then r else (r.noteRise s.now (top x.demand i) (top ds i)).follow s.now (top ds i))
      let kept := (List.range 12).map (fun g => if s.regionOn m g then atD ds g 0 else atD x.kept g 0)
      s.setSup m { x with demand := ds, kept := kept, regs := regs }

/-- PMBUS_FAILURE (R600): source 0x83; the rail keeps its last confirmed setting. -/
def execPmbusFailure (m : Mast) (rail confirmedMv : Nat) (s : State) : Outcome State Fault Refusal :=
  .next <|
    let x := s.sup.get m
    match x.regs[rail]? with
    | some r =>
      (s.setSup m { x with regs := setAt x.regs rail { r with failed := true, setMv := confirmedMv } }).report m 0x83
        (0x80000000 + rail)
    | none => s

/-! ### Tamper (R133, R582) -/

/-- Zeroise what a tamper zeroises: volatile key slots, session keys and the Shroud link key (R582). A message stored
under a key that is gone fails its check (R577). -/
def State.zeroise (s : State) : State :=
  { s with
    sec := { s.sec with engineReset := true }
    md := { s.md with nest := { s.md.nest with keySlots := List.replicate 8 none, tamper := true } }
    lan := s.lan.map LaneMast.dropKey
    alarm := { s.alarm with messages := s.alarm.messages.map (fun x =>
      if x.state = 1 || x.writing then { x with state := 2, writing := false } else x) } }

/-- A tamper sensor trips while main power is on (R131, R581, R582): zeroise, every open session closes, then bare poles with reset
cause 8. -/
def State.tamper (s : State) (m : Mast) (src : Nat) : State :=
  (((s.zeroise).closeWhere (fun _ => true) 4).recordReset 8 2).report m src 0

/-! ### Temperatures (R607) -/

/-- Warning and shutdown sources of the dies (R607). -/
def tempSources : Nat → Nat × Nat
  | 0 => (0x0B, 0x0C)
  | 1 => (0x29, 0x2A)
  | _ => (0x84, 0x85)

/-- Every die of a mast reads below +95 °C. -/
def SupplyMast.cool (x : SupplyMast) : Bool := x.temps.all (fun t => match t.value with
  | some v => decide (v < 950)
  | none => true)

/-- The mast reset that waited for its dies to cool is applied (R607); LOCKOUT has none. -/
def State.cooled (s : State) (m : Mast) : State :=
  let x := s.sup.get m
  if x.hot && x.cool then
    let s1 := s.setSup m { x with hot := false }
    if s.md.mode = .lockout then s1 else s1.mastReset m ((s.tan.resetCause.get m).getD 6)
  else s

/-- A shutdown reading (R607): the mast is taken out with its Mix and Route regulators off, and its reset waits until it has
cooled; its Lane die runs on (R608). -/
def State.overheat (s : State) (m : Mast) (src die : Nat) : State :=
  let s2 := (s.setSup m { s.sup.get m with hot := true }).report m src (0xC0000000 + die)
  let y := s2.sup.get m
  s2.setSup m { y with regs := (List.range y.regs.length).map (fun i =>
    let r := atD y.regs i { setMv := 800, on := true, failed := false, raisedAt := none, loweredAt := none, status := 0 }
    if i < 2 then { r with on := false } else r) }

/-- TEMPERATURE_READING (R607): `t` is in 0.1 °C. -/
def execTemperatureReading (m : Mast) (die : Nat) (t : Int) (s : State) : Outcome State Fault Refusal :=
  .next <|
    let x := s.sup.get m
    match x.temps[die]? with
    | none => s
    | some d =>
      if s.md.mode = .vault then s
      else
        let src := tempSources die
        let hot := if 1150 ≤ t then d.hot + 1 else 0
        let warn := decide (1000 ≤ t) && !d.warned
        let nd : DieTemp := { value := some t, warned := if t < 950 then false else d.warned || warn, hot := hot }
        let s1 := s.setSup m { x with temps := setAt x.temps die nd }
        let s2 := if warn then s1.report m src.1 (0xC0000000 + die) else s1
        let s3 := if t > 1250 ∨ t < -550 then s2.tamper m 0xF2 else s2
        let s4 := if hot = 2 then s3.overheat m src.2 die else s3
        s4.cooled m

end Sys2Proof.Machine
end

