-- ==== Sys2Proof/Machine/Clocks.lean ====
section
/-! DEFINITION. Synthesis PLLs, derailleurs, gates, the frequency counter and droop (chapter 13). -/
namespace Sys2Proof.Machine
open Host

/-- Replace the clocks of a mast. -/
def State.setClk (s : State) (m : Mast) (c : ClockMast) : State := { s with clk := s.clk.set m c }

/-- A PLL of a mast. -/
def State.pll (s : State) (m : Mast) (p : Nat) : Option Pll := (s.clk.get m).plls[p]?

/-- The source of a PLL (R448, R484). -/
def pllSource (p : Nat) : Nat := if p < 3 then 0x60 + p else 0x63

/-- The domains a PLL feeds (R444): DSP, FABRIC and CTRL; MEDIA; VIDEO; LINE by region. -/
def pllDomains (p : Nat) : List Nat := if p = 0 then [2, 3, 4] else if p = 1 then [5] else if p = 2 then [6] else []

/-- Domains with a fallback source (R447, R448): CTRL on the XO, MEDIA on DCO_AUD ÷ 2, VIDEO on DCO_VID. -/
def hasFallback (d : Nat) : Bool := d == 2 || d == 5 || d == 6

/-- Every lane of a region goes down with its PLL; no lane error is raised (R448). -/
def State.regionLanesDown (s : State) (m : Mast) (r : Nat) : State :=
  let x := s.lan.get m
  { s with lan := s.lan.set m { x with lanes := x.lanes.map (fun l =>
      if laneRegion l.1 = r && (l.2.st == .up || l.2.st == .bringUp || l.2.st == .down) then
        (l.1, { l.2 with st := .down, lol := true, align := .hunt })
      else l) } }

/-- A PLL loses its lock or its reference (R447, R448): its word freezes, its fault is raised, and its domains with a
fallback move there. `oscStopped`: its clean-up oscillator has stopped, source 0x64. -/
def State.pllLost (s : State) (m : Mast) (p : Nat) (oscStopped : Bool) : State :=
  match s.pll m p with
  | none => s
  | some x =>
    if !x.locked then s
    else
      let c := s.clk.get m
      let doms := (List.range 8).map (fun d =>
        let cur := atD c.domains d ClockSrc.primary
        if (pllDomains p).contains d && hasFallback d && cur == .primary then ClockSrc.fallback else cur)
      let s1 := (s.setClk m { c with
        plls := setAt c.plls p { x with locked := false, lostAt := s.now, grace := true }, domains := doms }).bump m (0x0388 + p) 1
      let s2 := if p ≥ 3 then s1.regionLanesDown m (p - 3) else s1
      let s3 := s2.report m (pllSource p) (0x70000010 + p)
      if oscStopped then s3.report m 0x64 (0x70000010 + (if p = 1 then 8 else if p = 2 then 9 else 7)) else s3

/-- PLL_LOSS (R445, R447, R448). -/
def execPllLoss (m : Mast) (p : Nat) (oscStopped : Bool) (s : State) : Outcome State Fault Refusal :=
  .next (s.pllLost m p oscStopped)

/-- PLL_GRACE_END (R447, R448): 1 µs after the loss the outputs are gated off; DSP and FABRIC stop with PLL_SYS. -/
def execPllGraceEnd (m : Mast) (p : Nat) (s : State) : Outcome State Fault Refusal :=
  .next <|
    match s.pll m p with
    | none => s
    | some x =>
      if !x.grace || decide (s.now < x.lostAt + 25 * Config.xoCycle) then s
      else
        let c := s.clk.get m
        let doms := (List.range 8).map (fun d =>
          let cur := atD c.domains d ClockSrc.primary
          if (pllDomains p).contains d && cur == .primary then ClockSrc.stopped else cur)
        s.setClk m { c with plls := setAt c.plls p { x with grace := false, gated := true }, domains := doms }

/-- PLL_RELOCK (R447, R448): only PLL_LANE_r reopens its gate, unless it came too late; its lanes recover through their
detectors. -/
def execPllRelock (m : Mast) (p : Nat) (s : State) : Outcome State Fault Refusal :=
  .next <|
    match s.pll m p with
    | none => s
    | some x =>
      if x.locked then s
      else
        let c := s.clk.get m
        let y : Pll := { x with locked := true, grace := false, gated := if p ≥ 3 && !x.failed then false else x.gated }
        s.setClk m { c with plls := setAt c.plls p y }

/-- PLL_LANE_RELOCK_TIMEOUT (R448): 10 ms without relock; Reef 2 with capacity changed. -/
def execPllLaneRelockTimeout (m : Mast) (r : Nat) (s : State) : Outcome State Fault Refusal :=
  .next <|
    match s.pll m (3 + r) with
    | none => s
    | some x =>
      if x.locked || x.failed || decide (r > 3) || decide (s.now < x.lostAt + 10 * Config.msec) then s
      else
        let c := s.clk.get m
        (s.setClk m { c with plls := setAt c.plls (3 + r) { x with failed := true } }).reportInfo m 0x63 (0x70000013 + r)
          { ReportInfo.plain s.step with late := true, capacity := true }

/-- The PLL that feeds a domain (R444). -/
def domainPll (d : Nat) : Option Nat :=
  if d = 2 ∨ d = 3 ∨ d = 4 then some 0 else if d = 5 then some 1 else if d = 6 then some 2 else none

/-- DERAILLEUR_HANG (R451): a chain drop. The new source takes the domain if it has shown an edge, else the old one, else
the domain stays stopped with the fault of a stopped oscillator. Within 10 µs of a loss of the feeding PLL it is part of
that fault. `toFallback` tells which way the switch went. -/
def execDerailleurHang (m : Mast) (d : Nat) (toFallback newEdge oldEdge : Bool) (s : State) :
    Outcome State Fault Refusal :=
  .next <|
    let c := s.clk.get m
    if !([2, 3, 4, 5, 6].contains d) || !s.domainRuns m d then s
    else
      let new := if toFallback then ClockSrc.fallback else .primary
      let old := if toFallback then ClockSrc.primary else .fallback
      let got := if newEdge then new else if oldEdge then old else .stopped
      let within := match domainPll d with
        | some p => match s.pll m p with
          | some x => !x.locked && decide (s.now ≤ x.lostAt + 10 * Config.usec)
          | none => false
        | none => false
      let s1 := (s.setClk m { c with domains := setAt c.domains d got }).bump m (0x0380 + d) 1
      let s2 := if within then s1 else s1.report m 0x65 (0x70000000 + d)
      if newEdge || oldEdge then s2
      else s2.report m 0x64 (0x70000010 + (if d = 5 then 8 else if d = 6 then 9 else 7))

/-- SYNC_DIV_EDGE (R449): it resets every output divider in BOOT phases A to G with no datapath running; else it is
counted. -/
def execSyncDivEdge (m : Mast) (s : State) : Outcome State Fault Refusal :=
  .next <|
    let ph := (s.md.boot.get m).phase
    let c := s.clk.get m
    if s.md.mode = .vault then s
    else if 1 ≤ ph ∧ ph ≤ 7 ∧ s.md.mixOn.get m = false then s.setClk m { c with dividerResets := c.dividerResets + 1 }
    else s.bump m 0x038F 1

/-! ### Gates (R453 to R455) -/

/-- FREEWHEEL_CLOSE (R24, R453): 16 idle cycles close a block's gate. A Mix region has none of its own: each of its clusters has
one. -/
def execFreewheelClose (m : Mast) (block : Nat) (s : State) : Outcome State Fault Refusal :=
  .next <|
    let c := s.clk.get m
    if block < 4 then s
    else match c.gates[block]? with
    | some g => match g.forced with
      | some _ => s
      | none => s.setClk m { c with gates := setAt c.gates block { g with open' := false } }
    | none => s

/-- Whether a block has work in the coming step: the clusters of a running rig, their regions, and the dies that compute it
(R24, R454). -/
def State.blockWork (s : State) (m : Mast) (block : Nat) : Bool :=
  s.md.mixOn.get m && (if block < 4 then (List.range 8).any (fun k => s.clusterUsed m (8 * block + k))
    else if block < 15 then decide (12 ≤ block) else s.clusterUsed m (block - 15))

/-- PRE_START_PULSE (R454): blocks with work in the coming step are woken. -/
def execPreStartPulse (s : State) : Outcome State Fault Refusal :=
  .next <|
    let wake (acc : State) (m : Mast) : State :=
      let c := acc.clk.get m
      acc.setClk m { c with gates := (List.range c.gates.length).map (fun i =>
        let g := atD c.gates i { open' := true, forced := none }
        if acc.blockWork m i then { g with open' := true } else g) }
    wake (wake s .a) .b

/-- The SITE of a block: its region, or a die (R455). -/
def blockSite (block : Nat) : Nat :=
  if block < 12 then 0x60000000 + block else if block < 15 then 0xC0000000 + (block - 12)
  else 0x60000000 + (block - 15) / 8

/-- A gate timeout counts for a region (R505) and raises source 0x67 (R455). -/
def State.gateTimeout (s : State) (m : Mast) (block : Nat) (late : Bool) : State :=
  let s1 := if block < 12 then s.bump m (0x0300 + 8 * block + 7) 1
    else if block < 15 then s else s.bump m (0x0300 + 8 * ((block - 15) / 8) + 7) 1
  s1.reportInfo m 0x67 (blockSite block) { ReportInfo.plain s.step with late := late }

/-- FORCED_CLOSURE_TIMEOUT (R455): not idle within 1,024 cycles; the clock is left running and a retry is due in 1 ms. -/
def execForcedClosureTimeout (m : Mast) (block : Nat) (s : State) : Outcome State Fault Refusal :=
  .next <|
    let c := s.clk.get m
    match c.gates[block]? with
    | some g =>
      match g.forced with
      | some _ => s
      | none =>
        let g1 : Gate := { open' := true, forced := some { tries := 1, retryAt := s.now + Config.msec } }
        (s.setClk m { c with gates := setAt c.gates block g1 }).gateTimeout m block false
    | none => s

/-- Whether a block is to be powered: a region, or a cluster with its region, or the Mix or Route die; none then closes it. -/
def State.blockWanted (s : State) (m : Mast) (block : Nat) : Bool :=
  if block < 12 then s.regionWanted m block else if block = 12 then s.md.mixOn.get m else if block = 13 then s.md.routeOn.get m
  else if block = 14 then false else s.regionWanted m ((block - 15) / 8)

/-- FORCED_CLOSURE_RETRY (R455): each 1 ms; the 8th failed try is Reef 2, and the block stays powered until its mast's
reset. A block that is to be powered again is closed no more. -/
def execForcedClosureRetry (m : Mast) (block : Nat) (idle : Bool) (s : State) : Outcome State Fault Refusal :=
  .next <|
    let c := s.clk.get m
    match c.gates[block]? with
    | some g =>
      match g.forced with
      | some f =>
        if decide (s.now < f.retryAt) || decide (f.tries ≥ 8) then s
        else if s.blockWanted m block then s.setClk m { c with gates := setAt c.gates block { g with forced := none } }
        else if idle then s.setClk m { c with gates := setAt c.gates block { open' := false, forced := none } }
        else
          let g1 : Gate := { open' := true, forced := some { tries := f.tries + 1, retryAt := s.now + Config.msec } }
          (s.setClk m { c with gates := setAt c.gates block g1 }).gateTimeout m block (decide (f.tries + 1 = 8))
      | none => s
    | none => s

/-! ### The frequency counter (R456, R457) -/

/-- The PLL that a measurement out of its limit fails (R457): tap, reference tap, and the offset from the expected ratio
in ppb. DPLL_SYS is 7. -/
def State.frequencyFails (s : State) (m : Mast) (tap against : Nat) (ppb : Int) : Option Nat :=
  let out (limit : Nat) : Bool := decide (limit < ppb.natAbs)
  let dom (d : Nat) : Bool := atD (s.clk.get m).domains d ClockSrc.primary == .primary
  if (tap = 2 ∨ tap = 3 ∨ tap = 4) ∧ against = 7 then (if out 100 then some 0 else none)
  else if tap = 7 ∧ against = 0 then (if out 2000 then some 7 else none)
  else if tap = 5 ∧ against = 8 then (if dom 5 && out 100 then some 1 else none)
  else if tap = 6 ∧ against = 9 then (if dom 6 && out 100 then some 2 else none)
  else if 10 ≤ tap ∧ tap ≤ 13 ∧ against = 7 then (if out 100 then some (tap - 7) else none)
  else none

/-- Whether a tap of the frequency counter runs (R456, R457): those of domains and of lane PLLs may not. -/
def State.tapRuns (s : State) (m : Mast) (tap : Nat) : Bool :=
  if 2 ≤ tap ∧ tap ≤ 6 then s.domainRuns m tap else if 10 ≤ tap ∧ tap ≤ 13 then s.regionOn m (tap - 2) else true

/-- FREQUENCY_MEASUREMENT (R456, R457, R505): `value` is an offset in ppb, or for tap 14 the ageing of region `sel` in ppm,
or for tap 15 the LINE offset of lane `sel`. -/
def execFrequencyMeasurement (m : Mast) (tap against sel : Nat) (value : Int) (s : State) : Outcome State Fault Refusal :=
  .next <|
    if s.md.mode = .vault || decide (tap > 15) || decide (against > 15) || !s.tapRuns m tap || !s.tapRuns m against then s
    else
      let s1 :=
        if tap = 14 then (if sel < 12 then s.gauge m (0x7410 + sel) value else s)
        else if tap = 15 then (if sel ≤ 232 then s.gauge m (0x6100 + 4 * sel + 2) value else s)
        else if against = 0 then s.gauge m (0x7400 + tap) value else s
      match s1.frequencyFails m tap against value with
      | none => s1
      | some p =>
        if p = 7 then s1.report m 0x64 0x70000017
        else (s1.bump m (0x0390 + p) 1).pllLost m p false

/-! ### Droop (R458 to R460) -/

/-- DROOP_TRIP: a powered region 0 to 11 is stretched; 12 is the control area, which only reports (R458, R459). -/
def execDroopTrip (m : Mast) (g : Nat) (s : State) : Outcome State Fault Refusal :=
  .next <|
    if g = 12 then s.report m 0x68 0xC0000002
    else if !s.regionOn m g then s
    else
      let c := s.clk.get m
      match c.regions[g]? with
      | some r =>
        let s1 := s.bump m (0x0300 + 8 * g + 1) 1
        match r.since with
        | some _ => s1
        | none => s1.setClk m { c with regions := setAt c.regions g { r with since := some s.now } }
      | none => s

/-- DROOP_STRETCH_END: 10 µs of margin, and no core rail below its warning level (R459, R460). -/
def execDroopStretchEnd (m : Mast) (g : Nat) (s : State) : Outcome State Fault Refusal :=
  .next <|
    let held := (((s.clk.get m).regions[g]?).bind (fun r => r.since)).elim false (fun t => decide (s.now < t + 250 * Config.xoCycle))
    if s.railStretches m || held then s else s.resumeRegion m g

end Sys2Proof.Machine
end

