-- ==== Sys2Proof/Machine/LaneOps.lean ====
section
/-! DEFINITION. Shared operations on serial lanes: which lanes a mode powers, and what follows when a lane goes up or
down (R384 to R399). -/
namespace Sys2Proof.Machine

/-- END_MODE of the profile: WATCH or QUIET (R108); a RETIRED device ends in WATCH (R559). -/
def State.endMode (s : State) : Mode :=
  if s.sec.lifecycle = 4 then .watch
  else match s.sec.profile with
    | some p => if p.global.endMode = 1 then .watch else .quiet
    | none => .quiet

/-- Output channels that zones use. -/
def State.zoneChannels (s : State) : List Nat :=
  match s.sec.profile with
  | some p => (p.zones.map (fun z => p.outputsOf z)).flatten
  | none => []

/-- The port a sent stream leaves a mast on (R389). -/
def State.streamPort (s : State) (m : Mast) (x : TxStream) : Option Nat :=
  s.portFor m (if m = .a then fld x.params 16 16 else fld x.params 32 16)

/-- Whether a port carries an alarm output (R391). -/
def State.carriesAlarm (s : State) (m : Mast) (port : Nat) : Bool :=
  let zs := s.zoneChannels
  (s.aud.get m).tx.any (fun e => s.streamPort m e.2 == some port &&
    (e.2.profile || zs.any (fun ch => decide (e.2.firstOut ≤ ch) && decide (ch < e.2.firstOut + e.2.channels))))

/-- The mode whose lanes a mast powers: in BOOT, the end mode from phase I on (R106, R391). -/
def State.laneMode (s : State) (m : Mast) : Option Mode :=
  let ph := (s.md.boot.get m).phase
  if s.md.mode = .boot || ph != 0 then (if ph ≥ 9 then some s.endMode else none) else some s.runMode

/-- Whether the mode, and shedding, power an Ethernet-capable lane pair (R121, R391). -/
def State.etherWanted (s : State) (m : Mast) (l : Nat) : Bool :=
  match s.portItem m l, s.laneMode m with
  | some x, some md =>
    let watch := bit x.laneFlags 0
    if s.md.shed.inForce then watch || s.carriesAlarm m (if x.mode = 3 then l / 4 * 4 else l)
    else match md with
      | .watch => watch
      | .lockout => watch
      | .quiet => watch || bit x.laneFlags 1
      | .service => true
      | .maintain => true
      | _ => false
  | _, _ => false

/-- Whether a mast's dies have power and are out of reset. -/
def State.mastOn (s : State) (m : Mast) : Bool :=
  let b := s.md.boot.get m
  b.powerGood && !b.held && !b.failed && s.md.mode != .vault

/-- Whether a lane is to be powered now (R384, R391, R392, R409). -/
def State.laneWanted (s : State) (m : Mast) (l : Nat) : Bool :=
  let ph := (s.md.boot.get m).phase
  s.mastOn m &&
  (if l < 128 then
    decide (l < Config.ethLanes s.variant) &&
    (match s.portItem m l with
     | some x => if x.mode = 3 then (List.range 4).all (fun i => s.etherWanted m (l / 4 * 4 + i)) else s.etherWanted m l
     | none => false)
   else if l < 192 then decide (l - 128 < Config.sdiPorts s.variant) && s.videoRuns && ph == 0
   else if l < 224 then ph == 0 || decide (8 ≤ ph)
   else if l < 232 then (ph == 0 || decide (8 ≤ ph)) && (match s.sec.profile with
     | some p => p.global.packageRole != 0
     | none => false)
   else ph == 0 && (match s.sec.profile with
     | some p => p.mgmt.any (fun x => x.mast == m.code && x.place == 0)
     | none => true))

/-- Lane ids of a mast that the variant has (R384). -/
def State.lanesPresent (s : State) : List Nat :=
  List.range (Config.ethLanes s.variant) ++ (List.range (Config.sdiPorts s.variant)).map (fun i => 128 + i) ++
  (List.range 41).map (fun i => 192 + i)

/-- A synthesis PLL of a mast takes its output dividers and its rate anew (R446). -/
def State.reloadPll (s : State) (m : Mast) (p : Nat) (slow : Bool) : State :=
  let c := s.clk.get m
  s.setClk m { c with plls := c.plls.modify p (Pll.powerUp p slow) }

/-- The lane regions of `s` that have a lane powered and had none in `old` take their dividers (R446). -/
def State.reloadLanePlls (s old : State) (m : Mast) : State :=
  (List.range 4).foldl (fun acc r =>
    if acc.regionOn m (8 + r) && !old.regionOn m (8 + r) then acc.reloadPll m (3 + r) false else acc) s

/-- A lane that is powered: in bring-up, and out of lock until its detector finds it (R395, R398). -/
def Lane.powered (now : Nat) : Lane := { Lane.none with st := .bringUp, lol := true, poweredAt := now }

/-- Power the lanes that the mode asks for, and only those; a retired lane stays retired (R391, R397, R398). -/
def State.powerLanes (s : State) (m : Mast) : State :=
  State.reloadLanePlls (old := s) (m := m) <| s.lanesPresent.foldl (fun acc l =>
    let x := acc.lane m l
    if x.st = .retired then acc
    else if acc.laneWanted m l then
      (if x.st = .unpowered then acc.setLane m l (Lane.powered acc.now) else acc)
    else if x.st = .unpowered then acc.gauge m (0x6100 + 4 * l + 3) 0
    else ((acc.setLane m l Lane.none).ungauge m (0x6100 + 4 * l)).ungauge m (0x6100 + 4 * l + 1)) s

/-- Aligned Stay lanes, or aligned Shroud lanes, of a mast (R405). -/
def State.aligned (s : State) (m : Mast) (first count : Nat) : Nat :=
  ((List.range count).filter (fun i =>
    let x := s.lane m (first + i)
    x.align == .aligned && x.st == .up)).length

/-- Aligned Stay lanes. -/
def State.stayAligned (s : State) (m : Mast) : Nat := s.aligned m 192 32

/-- Aligned Shroud lanes. -/
def State.shroudAligned (s : State) (m : Mast) : Nat := s.aligned m 224 8

/-- The next aligned lane of a link in turn, from a starting lane (R407, R412). -/
def State.nextAligned (s : State) (m : Mast) (first count start : Nat) : Option Nat :=
  ((List.range count).map (fun i => first + (start - first + i) % count)).find? (fun l =>
    let x := s.lane m l
    x.align == .aligned && x.st == .up)

/-- The fault source of a lane that goes down (R396, R484). -/
def laneDownSource (l : Nat) : Nat :=
  if l < 128 then 0x40 else if l < 192 then 0x41 else if l < 224 then 0x46 else if l < 232 then 0x48 else 0x40

/-- A video input delivers nothing (R350, R374). -/
def State.inputLost (s : State) (m : Mast) (i : Nat) : State :=
  let v := s.vid.get m
  match v.inputs.find i with
  | none => s
  | some x =>
    let y : VideoIn := { x with fmt := 0, present := false, locked := false, arrival := none }
    let s1 : State := { s with vid := s.vid.set m { v with inputs := v.inputs.put i y } }
    s1.gauge m (0x6800 + 2 * i) 0

/-- The SDI audio of a port loses lock: every channel delivers missing samples, and STATE becomes 1 (R333). -/
def State.sdiAudioLost (s : State) (m : Mast) (i : Nat) : State :=
  let a := s.aud.get m
  match a.sdi.find i with
  | some x =>
    let s1 := s.setAud m { a with sdi := a.sdi.put i { x with locked := false, feed := { x.feed with locked := false } } }
    if a.portEnabled 4 i then s1.portState m 4 i 1 else s1
  | none => s

/-- What a lane's going down takes with it (R396): an SDI input delivers nothing, and its audio is missing. -/
def State.laneLost (s : State) (m : Mast) (l : Nat) : State :=
  if 128 ≤ l ∧ l < 192 then
    ((s.inputLost m (l - 128)).sdiAudioLost m (l - 128)).noteLock m 4 (l - 128) (s.inputLocked m 4 (l - 128))
  else s

/-- What a lane's coming up brings: an SDI input has lock again (R392, R395). -/
def State.laneRegained (s : State) (m : Mast) (l : Nat) : State :=
  if 128 ≤ l ∧ l < 192 then
    let v := s.vid.get m
    let y : VideoIn := { v.inputs.getD (l - 128) VideoIn.none with locked := true }
    ({ s with vid := s.vid.set m { v with inputs := v.inputs.put (l - 128) y } } : State).noteLock m 4 (l - 128)
      (s.inputLocked m 4 (l - 128))
  else s

/-- A lane's detectors have changed: up, down, and the reports of R396, none in its first bring-up (R398). -/
def State.laneDetect (s : State) (m : Mast) (l : Nat) (x : Lane) : State :=
  let down := x.los || x.lol
  if x.st = .bringUp then
    if down then s.setLane m l x else (s.setLane m l { x with st := .up, upOnce := true }).laneRegained m l
  else if x.st = .up && down then
    ((s.setLane m l { x with st := .down }).laneLost m l).report m (laneDownSource l) (0x50000000 + l)
  else if x.st = .down && !down then (s.setLane m l { x with st := .up, upOnce := true }).laneRegained m l
  else s.setLane m l x

/-- An SDI lane that has gone down otherwise, retired, unpowered or without its PLL, takes its input with it as well (R396, R397,
R448). -/
def State.dropDead (s : State) (m : Mast) : State :=
  let dead := (s.lan.get m).lanes.filter (fun e =>
    decide (128 ≤ e.1) && decide (e.1 < 192) && e.2.st != .up && s.inputLocked m 4 (e.1 - 128))
  dead.foldl (fun acc e => acc.laneLost m e.1) s

/-- Whether a lane's detectors run (R397 to R399). -/
def Lane.watched (x : Lane) : Bool := x.st == .bringUp || x.st == .up || x.st == .down

/-- The minimum eye of a lane in mV and 1/64 UI (R621). -/
def State.eyeMin (s : State) (m : Mast) (l : Nat) : Nat × Nat :=
  if l < 128 then
    (match s.portItem m l with
     | some x => if x.mode = 1 then (30, 20) else (20, 14)
     | none => (20, 14))
  else if l < 192 then (40, 20)
  else if l < 224 then (25, 16)
  else if l < 232 then (20, 14)
  else (30, 20)

end Sys2Proof.Machine
end

