-- ==== Sys2Proof/Machine/ModeOps.lean ====
section
/-! DEFINITION. What a change of mode does to the dies, the datapath, the audio ports, the crosspoint and the lanes of a
mast (R97 to R126, R318 to R321, R336, R382, R599). -/
namespace Sys2Proof.Machine

/-- Both masts. -/
def bothMasts : List Mast := [.a, .b]

/-- Masts that serve now. -/
def State.servers (s : State) : List Mast := bothMasts.filter s.serves

/-! ### Configuration from the profile -/

/-- An AES3 output, or a fallback audio ball, as the profile sets it (R318, R319, R635). -/
def State.profileOut (s : State) (i n : Nat) : AesOut :=
  match (if i < 16 then s.sinkItem 0 i else s.sinkItem 1 (i - 16)) with
  | some x =>
    if i < 16 then { AesOut.reset with enabled := bit x.flags 1, rate := x.rate, start := n }
    else { AesOut.reset with enabled := true, rate := 2, start := n }
  | none => if i < 16 then AesOut.reset else { AesOut.reset with enabled := true, rate := 2, start := n }

/-- The input patch of the profile (R336, R570). -/
def State.profilePatch (s : State) : Assoc PatchSrc :=
  match s.sec.profile with
  | some p => p.patch.foldl (fun t x => if x.srcClass = 0 then t
      else Assoc.put t x.channel { cls := x.srcClass, index := x.srcIndex, channel := x.srcChannel }) []
  | none => []

/-- The audio ports of a mast as the profile sets them: at the end of BOOT, and at W (R318, R321, R331). -/
def State.installAudio (s : State) (m : Mast) (n : Nat) : State :=
  let fresh : AudioMast :=
    { AudioMast.reset with aesOut := (List.range 20).map (fun i => s.profileOut i n)
                           reports := (s.aud.get m).reports }
  let s1 := s.setAud m fresh
  let s2 := (List.range 16).foldl (fun acc i => acc.portState m 0 i 1) s1
  let s3 := (List.range 16).foldl (fun acc i => acc.portState m 1 i (if (s.profileOut i n).enabled then 2 else 0)) s2
  match s.sec.profile with
  | some p => p.streams.foldl (fun acc x =>
      if x.dir = 0 then acc.bindRx [m] (fit 60 x.params) true else acc.bindTx [m] (x.params.take 52) true) s3
  | none => s3

/-! ### Dies -/

/-- The demand that the shed Mix regions of a mast bring back with them (R599). -/
def SupplyMast.shedDemand (x : SupplyMast) (regions : Nat) : Nat :=
  ((List.range 4).map (fun g => if bit regions g then atD x.kept g 0 else 0)).foldl Nat.max 0

/-- VCORE_MIX is raised to the demand of the regions that are to resume, in one command (R598, R599). -/
def SupplyMast.raiseFor (x : SupplyMast) (regions now : Nat) : SupplyMast :=
  match x.regs[0]? with
  | some r =>
    if r.setMv < x.shedDemand regions && r.on && !r.failed && !x.avsHeld now then
      { x with regs := setAt x.regs 0 { r with setMv := x.shedDemand regions, raisedAt := some now } }
    else x
  | none => x

/-- VCORE_MIX stands at the demand of the regions that are to resume (R599). -/
def SupplyMast.raisedFor (x : SupplyMast) (regions : Nat) : Bool := (x.regs[0]?).elim true (fun r => decide (x.shedDemand regions ≤ r.setMv))

/-- Switch the regulators of the Mix and Route dies of a mast (R599). -/
def SupplyMast.switchCore (x : SupplyMast) (on : Bool) : SupplyMast :=
  { x with regs := (List.range x.regs.length).map (fun i =>
      let r := atD x.regs i { setMv := 800, on := true, failed := false, raisedAt := none, loweredAt := none, status := 0 }
      if i < 2 then { r with on := on, setMv := if on then 800 else r.setMv } else r) }

/-- What the alarm logic of the Lane die keeps of a datapath that is lost: the activations, and what was last reported of
each zone (R113). -/
def Datapath.alarmLogic (d : Datapath) : Datapath :=
  { Datapath.reset with acts := d.acts, zones := d.zones.map (fun z => (z.1, { ZoneMix.reset with last := z.2.last })) }

/-- A change of lifecycle state (R533, R556): EV_LIFECYCLE, and 100 ms later the wiping reset. -/
def State.changeLifecycle (s : State) (target : Nat) : State :=
  let old := s.sec.lifecycle
  let s1 : State := { s with sec := { s.sec with lifecycle := target }
                             md := { s.md with lifecycleReset := some (s.md.lifecycleReset.getD s.now) } }
  s1.event s1.lead.code evLifecycle (be 1 old ++ be 1 target ++ zeros 2)

/-- An OTP write of OWNER_ENROL or LIFECYCLE_SET: the change takes effect when it is written (R533, R556). -/
def State.writeLifecycle (s : State) (w : Nat × List Byte) : State :=
  ({ s with sec := { s.sec with ownerKey := if w.1 = 2 then w.2 else s.sec.ownerKey } } : State).changeLifecycle w.1

/-- OWNER_ENROL or LIFECYCLE_SET has completed: its OTP write, at once or when the hold-off ends (R136, R503). -/
def State.lifecycleTo (s : State) (target : Nat) (key : List Byte) : State :=
  if s.writesHeld .a || s.writesHeld .b || !s.sec.heldOtp.isEmpty then
    { s with sec := { s.sec with heldOtp := s.sec.heldOtp ++ [(target, key)] } }
  else s.writeLifecycle (target, key)

/-- OTP writes held off resume in order (R503). -/
def State.resumeOtp (s : State) : State :=
  if s.writesHeld .a || s.writesHeld .b then s
  else s.sec.heldOtp.foldl (fun acc w => acc.writeLifecycle w) ({ s with sec := { s.sec with heldOtp := [] } } : State)

/-- An entry of the crow's nest copy that an OTP entry with another spare for the same row or column overrules (R529). -/
def overruled (l : List RepairEntry) (e : RepairEntry) : Bool :=
  !e.inOtp && l.any (fun o => o.inOtp && o.typ == e.typ && o.memory == e.memory && o.bank == e.bank && o.index == e.index &&
    o.spare != e.spare)

/-- The two repair maps of a mast disagree (R107, R529): a pending entry is none. -/
def MemMast.mapsDisagree (x : MemMast) : Bool :=
  x.repair.any (fun e => (!e.pending && e.inOtp != e.inNest) || overruled x.repair e)

/-- The union of a mast's repair maps is applied: the crow's nest copy takes the OTP entries that it lacks, and OTP wins (R107,
R529). -/
def MemMast.unionMaps (x : MemMast) : MemMast :=
  { x with repair := (x.repair.filter (fun e => !overruled x.repair e)).map (fun e => { e with inNest := true }) }

/-- The union of the repair maps is applied again at a wake (R113, R529). -/
def State.mapsAtWake (s : State) (m : Mast) : State :=
  let x := s.mem.get m
  let s1 := s.setMem m x.unionMaps
  if x.mapsDisagree then s1.report m 0x95 0 else s1

/-- A feed whose memories are wiped. -/
def Feed.wiped (f : Feed) : Feed := { Feed.reset f.conceal.length f.ratio with own := f.own, locked := f.locked, ests := f.ests }

/-- The audio I/O of a mast after a wipe that keeps its configuration (R126, R344): whatever was received, captured or to be sent is
lost. -/
def AudioMast.wiped (a : AudioMast) (n : Nat) : AudioMast :=
  { a with
    aesIn := a.aesIn.map (fun x => { x with caps := [], feed := x.feed.wiped })
    aesOut := a.aesOut.map (fun x => { x with hist := [[], []], sent := [] })
    rx := a.rx.map (fun e => (e.1, { RxStream.fresh 1 e.2.params n e.2.profile with feed := e.2.feed.wiped }))
    tails := []
    tx := a.tx.map (fun e => (e.1, { e.2 with frames := [], waiting := [], firstStep := n }))
    sdi := a.sdi.map (fun e => (e.1, { e.2 with caps := [], feed := e.2.feed.wiped, outHist := List.replicate 16 [], fifo := [],
                                                packets := [] }))
    playQueue := [], playFeed := .reset 64 4294967296, recQueue := [], notices := [], sent := [], forwards := [] }

/-- Power-gate the Mix and Route dies of a mast: their contents are lost, but for the alarm activations, which the Lane
die holds (R113, R118). -/
def State.gateDies (s : State) (m : Mast) : State :=
  { s with
    dp := s.dp.set m (s.dp.get m).alarmLogic
    aud := s.aud.set m { AudioMast.reset with reports := (s.aud.get m).reports }
    vid := s.vid.set m (s.vid.get m).wiped
    sup := s.sup.set m ((s.sup.get m).switchCore false)
    md := { s.md with mixOn := s.md.mixOn.set m false, routeOn := s.md.routeOn.set m false } }

/-- Start the datapath of a mast from wiped memories at a step: ports, patch and overlay from the profile, and the
activations current now (R113, R125). -/
def State.startDies (s : State) (m : Mast) (n : Nat) : State :=
  let s1 : State :=
    { s with
      dp := s.dp.set m { (s.dp.get m).alarmLogic with patch := s.profilePatch }
      vid := s.vid.set m { (s.vid.get m).wiped with idle := !s.videoRuns }
      sup := s.sup.set m ((s.sup.get m).switchCore true)
      md := { s.md with mixOn := s.md.mixOn.set m true, routeOn := s.md.routeOn.set m true } }
  (s1.wipeRows m (rowSite 0 0x29)).installAudio m n

/-! ### The crosspoint (R116, R117, R121, R380, R382) -/

/-- The crosspoint of a mast is power-gated or shed: its selection is lost, and every video output is idle. Flow
entries of audio streams stay. -/
def VideoMast.gate (v : VideoMast) : VideoMast := { v with inputs := [], outputs := [], slack := [], idle := true }

/-- A shed crosspoint keeps the contents of slack memory in retention (R121). -/
def VideoMast.shed (v : VideoMast) : VideoMast := { v.gate with slack := v.slack }

/-- The crosspoint is powered and wiped: every output in HOLD_BLACK until its first switch. -/
def VideoMast.power (v : VideoMast) : VideoMast := { v with inputs := [], outputs := [], slack := [], idle := false }

/-- Whether a scheduled command acts on the crosspoint. -/
def isXpt (code : Nat) : Bool := code == 0x0701 || code == 0x0702

/-- Remove the waiting entries of a crosspoint command that is dropped (R172). -/
def State.dropXpt (s : State) (order : Nat) : State :=
  let clean (v : VideoMast) : VideoMast :=
    { v with outputs := v.outputs.map (fun x =>
        (x.1, { x.2 with pending := x.2.pending.filter (fun p => p.order != order) })) }
  { s with vid := s.vid.map clean, jobs := s.jobs.filter (fun j => j.order != order) }

/-- What a command leaves prepared is undone where it is dropped. -/
def State.undoAction (s : State) (c : SchedCmd) : State :=
  if c.code = 0x0403 then s.untack
  else if isXpt c.code then s.dropXpt c.order
  else if c.code = 0x0A04 then { s with snap := { s.snap with pendingAt := none } }
  else if c.code = 0x0504 then
    { s with hal := { s.hal with rampDefaults := s.hal.rampDefaults.filter (fun r => r.order != c.order) } }
  else s

/-- After the Captain has gone OUT, the new Captain keeps only the commands whose commit it holds; what the
others have prepared is undone (R173). -/
def State.dropUncommitted (s : State) : State :=
  let lost := s.hal.sched.filter (fun c => !c.stokerHolds)
  let s1 := { s with hal := { s.hal with sched := s.hal.sched.filter (fun c => c.stokerHolds) } }
  lost.foldl (fun acc c => (acc.undoAction c).dropSched c stNotTandem) s1

/-- Gate or shed the crosspoint of both masts, as `off` says: pending switches are dropped with ST_BAD_MODE (R382). -/
def State.gateVideo (s : State) (off : VideoMast → VideoMast) : State :=
  let lost := s.hal.sched.filter (fun c => isXpt c.code)
  let open' := s.jobs.filter (fun j => !lost.any (fun c => c.order == j.order))
  let s1 : State :=
    { s with vid := s.vid.map off, jobs := [],
             hal := { s.hal with sched := s.hal.sched.filter (fun c => !isXpt c.code) } }
  let s2 := lost.foldl (fun acc c => acc.dropSched c stBadMode) s1
  open'.foldl (fun acc j => acc.eventTo j.seat acc.lead.code evCommandDropped j.hostSeq acc.step
    (be 2 j.code ++ be 2 stBadMode ++ zeros 4 ++ be 8 j.eff)) s2

/-- The shed crosspoint of both masts resumes, every output in its safe state (R122). -/
def State.resumeVideo (s : State) : State := { s with vid := s.vid.map VideoMast.power }

/-- Power the crosspoint of both masts, with its slack memory wiped (R117, R532, R534). -/
def State.powerVideo (s : State) : State :=
  let s1 := ((s.abortMarchesOf (fun x => x.target == 3)).wipeRows .a (rowSite 0x24 0x27)).wipeRows .b (rowSite 0x24 0x27)
  s1.resumeVideo

/-- Lanes follow the mode (R391). -/
def State.settle (s : State) : State := (s.powerLanes .a).powerLanes .b

/-! ### Alarm state (R119, R296) -/

/-- At least one alarm zone is active. -/
def State.zoneActive (s : State) : Bool := !s.leadDp.acts.isEmpty

/-- Modes in which the overlay follows the activations. -/
def overlayMode : Mode → Bool
  | .watch => true
  | .quiet => true
  | .service => true
  | .alarm => true
  | .maintain => true
  | .vault => false
  | .boot => false
  | .lockout => false

/-- EV_ALARM_ZONE for one zone's change (R227, R296). -/
def State.zoneEvent (s : State) (c : ZoneChange) : State :=
  s.event 2 evAlarmZone
    (match c.2 with
     | some (pri, trig, _, src) => be 2 c.1 ++ be 1 1 ++ be 1 pri ++ be 1 src.kind ++ be 1 trig ++ be 2 src.index
     | none => be 2 c.1 ++ zeros 6)

/-- Bring the overlay of one mast up to date; the second part gathers the changes that the Captain reports (R296). -/
def State.overlayOn (s : State) (alarm : Bool) (m : Mast) (changes : List ZoneChange) : State × List ZoneChange :=
  if !s.mastOn m then (s, changes)
  else
    let r := (s.dp.get m).follow s.sec.profile alarm s.step (overlayFade s.rate48)
    (s.setDp m r.1, if m = s.lead then r.2 else changes)

/-- Bring the overlay of both masts up to date; the Captain's changes are reported (R296). -/
def State.followOverlay (s : State) : State :=
  if !overlayMode s.md.mode then s
  else
    let alarm := s.md.mode = .alarm || s.zoneActive
    let r1 := s.overlayOn alarm .a []
    let r2 := r1.1.overlayOn alarm .b r1.2
    r2.2.foldl State.zoneEvent r2.1

/-- Either ON_BATT ball is high; in Solo, the Captain's own (R121, R605). -/
def State.onBattery (s : State) : Bool :=
  (s.md.onBatt.a && (s.inTandem || s.lead = .a)) || (s.md.onBatt.b && (s.inTandem || s.lead = .b))

/-- The step the Captain assigns for shedding or restoring: the earliest it may assign to a command (R121, R605). -/
def State.shedStep (s : State) : Nat := s.assignedStep

/-- In ALARM with a ball high: assign the shedding step where nothing is shed or pending; what is shed stays so, and a restore that
is still to come is called off (R121). -/
def State.planShed (s : State) : State :=
  if !s.onBattery || s.md.mode != .alarm then s
  else if s.md.shed.inForce then { s with md := { s.md with shed := { s.md.shed with restoreAt := none } } }
  else if s.md.shed.shedAt.isNone then { s with md := { s.md with shed := { s.md.shed with shedAt := some s.shedStep } } }
  else s

/-- Release the loopbacks of a mast's lanes: each is brought up anew (R125). -/
def State.freeLoops (s : State) (m : Mast) (loops : List Nat) : State :=
  loops.foldl (fun a l =>
    let x := a.lane m l
    if x.loop = 0 then a else a.setLane m l { x with loop := 0, loopErrors := 0, st := .bringUp, lol := true, poweredAt := a.now }) s

/-- The tests of a mast that an abort ends: marches, FALLBACK_TESTs, loopbacks, and targeted self-tests (R125). -/
def State.testsRunning (s : State) (m : Mast) : Nat :=
  (s.mem.get m).march.length + (s.alarm.tests.filter (fun t => t.mast == m)).length +
    (s.lanesPresent.filter (fun l => (s.lane m l).loop != 0)).length + (s.fl m).tests.length

/-- Count the tests of a mast as abandoned, and end its targeted self-tests (R125, R505). -/
def State.abandonTests (s : State) (m : Mast) : State :=
  let s1 := s.bump m 0x010A (s.testsRunning m)
  s1.setFl m { s1.fl m with tests := [] }

/-- Abort every test and release every loopback, each counted and with EV_TEST_ABORTED (R125); that event names marches, fallback
tests and loopbacks (R227). -/
def State.abortTests (s : State) : State :=
  let loops := (s.lanesPresent.filter (fun l => bothMasts.any (fun m => (s.lane m l).loop != 0)))
  let s0 := (s.abandonTests .a).abandonTests .b
  let s1 : State := { s0.abortMarches with tests := [], alarm := { s.alarm with tests := [] } }
  let s2 := (s1.freeLoops .a loops).freeLoops .b loops
  let s3 := s.alarm.tests.foldl (fun acc t => acc.event 2 evTestAborted (be 1 1 ++ zeros 1 ++ be 2 t.output)) s2
  loops.foldl (fun acc l => acc.event 2 evTestAborted (be 1 2 ++ zeros 1 ++ be 2 l)) s3

/-- Restart the overlay of a mast at a step from a duck of 1.0 and source coefficients of 0; messages start anew (R113,
R125). -/
def State.restartOverlay (s : State) (m : Mast) : State :=
  let d : Datapath := { s.dp.get m with zones := [], ducks := [], plays := [] }
  s.setDp m (d.follow s.sec.profile (s.md.mode = .alarm || s.zoneActive) s.step (overlayFade s.rate48)).1

/-- Wipe the datapath memories of a mast whose dies run on, at a step: the selection is cleared, and the configuration of the ports, of
the patch and of the flows stays (R125, R126, R344, R382; DEDUCED, log entry 119). -/
def State.wipeDies (s : State) (m : Mast) (n : Nat) : State :=
  let d := s.dp.get m
  let v := s.vid.get m
  State.wipeRows (m := m) (wiped := rowSite 0 0x29) <| { s with
    dp := s.dp.set m { d.alarmLogic with patch := d.patch, side := d.side.map (fun t => { t with recent := [0, 0, 0] }) }
    vid := s.vid.set m { v.wiped with flows := v.flows, tx := v.tx, inputs := if s.videoRuns then v.inputs else [],
                                      idle := !s.videoRuns }
    aud := s.aud.set m ((s.aud.get m).wiped n) }

/-- Start the datapath of every mast that serves, at the present step. -/
def State.startServers (s : State) : State := s.servers.foldl (fun acc m => acc.startDies m acc.step) s

/-- Wipe the datapath of every mast that serves, at the present step. -/
def State.wipeServers (s : State) : State := s.servers.foldl (fun acc m => acc.wipeDies m acc.step) s

/-- Restart the overlay of every mast that serves. -/
def State.restartOverlays (s : State) : State := s.servers.foldl State.restartOverlay s

/-- A zone becomes active in WATCH: the package wakes (R113). -/
def State.alarmFromWatch (s : State) : State :=
  let s1 := (((s.enterMode .alarm s.md.base 1).gateDies .a).gateDies .b).emptySlots
  let w : Wake := { triggerAt := s1.md.trigger.getD s1.now, triggerStep := s1.step, lateA := false, lateB := false }
  ({ s1 with md := { s1.md with wake := some w, watchFadeEnd := none } } : State).planShed.settle

/-- A zone becomes active in MAINTAIN: tests end, and the datapaths start from wiped memories (R125). -/
def State.alarmFromMaintain (s : State) : State :=
  let s1 := s.abortTests.emptySlots.wipeServers
  let s2 := s1.enterMode .alarm s1.md.base 5
  let s3 := if s2.videoRuns then s2.powerVideo else s2.gateVideo .gate
  s3.restartOverlays.planShed.settle

/-- Every MODE_SET to WATCH or MAINTAIN that waits is not to be applied, for a zone has become active before its step (R101). -/
def State.spoilModeSets (s : State) : State :=
  { s with hal := { s.hal with sched := s.hal.sched.map (fun c => if c.code == 0x0302 then { c with aux := 1 } else c) } }

/-- An alarm zone becomes active in QUIET or SERVICE; a wake that still runs counts its 120 ms from here on (R98, R115, R526). -/
def State.alarmFromRun (s : State) : State :=
  let s1 := s.abortMarches.enterMode .alarm s.md.base 1
  let t := s1.md.trigger.getD s1.now
  ({ s1 with md := { s1.md with wake := s1.md.wake.map (fun w => { w with triggerAt := t }) } } : State).planShed

/-- An alarm zone becomes active (R98, R101, R113, R125, R526). -/
def State.alarmOnset (s0 : State) : State :=
  let s := s0.spoilModeSets
  match s.md.mode with
  | .quiet => s.alarmFromRun
  | .service => s.alarmFromRun
  | .watch => s.alarmFromWatch
  | .maintain => s.alarmFromMaintain
  | _ => s

/-- After any change of activations: the overlay, then the mode (R119, R296). -/
def State.alarmChanged (s : State) : State :=
  let s1 := s.followOverlay
  if s1.zoneActive then
    let s2 : State := { s1 with md := { s1.md with clearedAt := none } }
    if s2.md.mode = .alarm then s2 else s2.alarmOnset
  else if s1.md.mode = .alarm && s1.md.clearedAt.isNone then
    { s1 with md := { s1.md with clearedAt := some s1.step } }
  else s1

/-- Assign the step at which shed units resume, once every mast that serves has its rail raised for them (R122, R599). -/
def State.planRestore (s : State) : State :=
  if s.md.shed.inForce && s.md.shed.restoreAt.isNone then
    let s1 : State := { s with sup := s.sup.map (fun x => x.raiseFor s.md.shed.mixRegions s.now) }
    if s1.servers.all (fun m => (s1.sup.get m).raisedFor s1.md.shed.mixRegions) then
      { s1 with md := { s1.md with shed := { s1.md.shed with restoreAt := some s1.shedStep } } }
    else s1
  else { s with md := { s.md with shed := { s.md.shed with shedAt := none } } }

/-- The step after the last zone has cleared: the base mode returns (R119). -/
def State.alarmEnds (s : State) : State :=
  match s.md.clearedAt with
  | some c =>
    if s.md.mode = .alarm && !s.zoneActive && decide (c < s.step) then
      ((({ s with md := { s.md with clearedAt := none } }).enterMode s.md.base s.md.base 2).followOverlay).planRestore.settle
    else s
  | none => s

end Sys2Proof.Machine
end

