-- ==== Sys2Proof/Machine/Alarms.lean ====
section
/-! DEFINITION. Group 0x0D, alarm inputs and streams, messages and the fallback player (R59, R224, R225, R294 to R303,
R577 to R584, R628 to R630). -/
namespace Sys2Proof.Machine
open Host

/-- Replace the alarm logic of a mast. -/
def State.setAlm (s : State) (m : Mast) (a : AlarmMast) : State := { s with alm := s.alm.set m a }

/-- An alarm input of a mast. -/
def State.alarmIn (s : State) (m : Mast) (i : Nat) : AlarmInput := atD (s.alm.get m).inputs i .reset

/-- Replace an alarm input of a mast. -/
def State.setAlarmIn (s : State) (m : Mast) (i : Nat) (x : AlarmInput) : State :=
  s.setAlm m { s.alm.get m with inputs := setAt (s.alm.get m).inputs i x }

/-- The ALARM_INPUT item of an input 0 to 7, or of stream n as 8 + n (R570, R635); none in RETIRED (R557, R559). -/
def State.alarmItem (s : State) (i : Nat) : Option AlarmInputItem :=
  match s.sec.profile with
  | some p =>
    if s.sec.lifecycle = 4 then none else ((p.alarmInputs ++ p.alarmStreams.map (fun x => x.input)).find? (fun x => x.input == i)).filter (fun x => bit x.flags 0)
  | none => none

/-- Fallback outputs of an input, as a map of bits 0 to 19: the default map covers all without a profile (R573). -/
def State.fallbackOf (s : State) (i : Nat) : Nat :=
  match s.sec.profile with
  | some _ => (s.alarmItem i).elim 0 (fun x => x.fallback)
  | none => if decide (i < 8) && s.sec.lifecycle != 4 then 0xFFFFF else 0

/-- The state an input is to have, with what is already assigned (R59). -/
def State.alarmTarget (s : State) (m : Mast) (i : Nat) : Nat :=
  ((s.alm.get m).assigned.filter (fun a => a.input == i)).foldl (fun _ a => a.state) (s.alarmIn m i).acted

/-- An alarm input is active for the fallback player: by the Captain's assignment while the Stay link is up, and by the mast's own
debounce in Solo or without the link (R302). -/
def State.inputActive (s : State) (m : Mast) (i : Nat) : Bool :=
  (if s.inTandem && s.tan.stay.up then (s.alarmIn m i).acted else s.alarmTarget m i) == 1

/-- An alarm input whose fallback outputs include an output is active on a mast (R302). -/
def State.fallbackActive (s : State) (m : Mast) (out : Nat) : Bool :=
  (List.range 8).any (fun i => s.inputActive m i && bit (s.fallbackOf i) out)

/-- The safe state of a fallback output is FALLBACK (R302, R570, R635). -/
def State.safeIsFallback (s : State) (out : Nat) : Bool :=
  (if out < 16 then s.sinkItem 0 out else s.sinkItem 1 (out - 16)).elim false (fun x => bit x.flags 3)

/-- The Lane die of a mast is powered and out of reset: in LOCKOUT not that of a mast that was OUT at entry, except where both were
(R38, R103, R110). -/
def State.laneDieRuns (s : State) (m : Mast) : Bool :=
  let b := s.md.boot.get m
  b.powerGood && !b.held && s.md.mode != .vault &&
    (s.md.mode != .lockout || s.tst m != .out || s.tst m.other == .out)

/-- A fallback output of a mast is under fallback drive (R302). -/
def State.fallbackDrive (s : State) (m : Mast) (out : Nat) : Bool :=
  let b := s.md.boot.get m
  let late := match s.md.wake with
    | some w => if m = .a then w.lateA else w.lateB
    | none => false
  let test := s.alarm.tests.any (fun x => x.mast == m && x.output == out)
  let safe := (s.mt m).drive.allSafe || s.md.mode = .watch || s.md.mode = .maintain || s.md.wake.isSome
  decide (out < 20) && s.laneDieRuns m &&
  ((b.phase != 0 && b.fallbackReady) || late || s.md.mode = .lockout || (safe && s.safeIsFallback out) || test ||
    (s.sec.profile.isNone && s.fallbackActive m out))

/-- A fallback output of a mast whose safe state is MUTE, while the Mix die is power-gated or untrusted: the fallback driver sends
frames of zero samples (R342). -/
def State.mutedDrive (s : State) (m : Mast) (out : Nat) : Bool :=
  decide (out < 20) && s.laneDieRuns m && !s.safeIsFallback out && (!s.md.mixOn.get m || (s.mt m).drive.allSafe)

/-- The fallback player of a mast starts with the first active input, at the step that R59 gives, and stops with the
last (R302). -/
def State.followFallback (s : State) (m : Mast) : State :=
  let any := (List.range 8).any (fun i => s.inputActive m i && s.fallbackOf i != 0)
  let a := s.alm.get m
  if any && a.playFrom.isNone then s.setAlm m { a with playFrom := some s.step }
  else if !any then s.setAlm m { a with playFrom := none }
  else s

/-! ### Sampling and debounce (R628 to R630) -/

/-- The class of a sample, its voltage in 1/10,000 of VIO_3V3; between two windows, that of the previous sample
(R629). -/
def alarmClass (v last : Nat) : Nat :=
  if v < 1200 then 3
  else if 1700 ≤ v ∧ v ≤ 3900 then 0
  else if 4700 ≤ v ∧ v ≤ 7000 then 1
  else if v > 7900 then 2
  else last

/-- Supervision runs while a mast's Lane die is powered, from the end of phase D (R106, R110, R630). -/
def State.alarmRuns (s : State) (m : Mast) : Bool :=
  let b := s.md.boot.get m
  s.laneDieRuns m && (b.phase == 0 || b.fallbackReady)

/-- ALARM_INPUT_SAMPLE (R629): samples during a test pulse are excluded. -/
def execAlarmInputSample (m : Mast) (i v : Nat) (pulse : Bool) (s : State) : Outcome State Fault Refusal :=
  .next <|
    if decide (8 ≤ i) || !s.alarmRuns m || pulse then s
    else
      let x := s.alarmIn m i
      let c := alarmClass v x.last
      s.setAlarmIn m i
        { x with last := c, count := if c = x.last then Nat.min 80 (x.count + 1) else 1
                 since := if c = x.last && x.count != 0 then x.since else s.now }

/-- Assign a change of an input, which came at a time, to a step on the masts named, in place of a Stoker's own (R59). -/
def State.assignAlarm (s : State) (ms : List Mast) (c : Assigned) : State :=
  ms.foldl (fun acc m =>
    let a := acc.alm.get m
    let x := acc.alarmIn m c.input
    let acc1 := acc.setAlm m { a with assigned := a.assigned ++ [c] }
    if c.input < 8 then acc1.setAlarmIn m c.input { x with solo := none } else acc1) s

/-- A mast waits for another to assign its change: the Stoker for the Captain, and a Reserve in track for the Primary (R59,
R91). -/
def State.waitsAlarm (s : State) (m : Mast) : Bool := s.tracks || (s.inTandem && s.tan.stay.up && !s.isCaptain m)

/-- The masts that act on a change which a mast decides by itself: both in Tandem, and once a joining mast computes (R59, R71). -/
def State.alarmMasts (s : State) (m : Mast) : List Mast :=
  if s.isCaptain m && s.tan.stay.up && (s.inTandem || s.tan.join.elim false (fun j => j.joined)) then bothMasts else [m]

/-- ALARM_INPUT_DEBOUNCED (R59, R629): 80 samples agree on a class that differs. -/
def execAlarmInputDebounced (m : Mast) (i : Nat) (s : State) : Outcome State Fault Refusal :=
  .next <|
    let x := s.alarmIn m i
    if decide (8 ≤ i) || !s.alarmRuns m || decide (x.count < 80) || x.last = x.deb then s
    else
      let s1 := s.setAlarmIn m i { x with deb := x.last, changes := x.changes + 1 }
      let s2 := s1.event m.code evAlarmInput (be 1 i ++ be 1 x.last ++ zeros 2)
      let s3 := if x.last = 3 then s2.report m 0xB1 (inputSite 2 i) else if x.last = 2 then s2.report m 0xB0 (inputSite 2 i) else s2
      if x.last ≥ 2 || s3.alarmTarget m i = x.last then s3
      else if s3.waitsAlarm m then s3.setAlarmIn m i { s3.alarmIn m i with solo := some (s3.step + s3.fence + 4, x.last) }
      else (s3.assignAlarm (s3.alarmMasts m)
        { input := i, state := x.last, step := s3.step + s3.fence + 2, since := x.since }).followFallback m

/-- The expected drop of a test pulse in mV, by class (R630). -/
def expectedDrop (cls : Nat) : Nat := if cls = 1 then 556 else 246

/-- ALARM_TEST_PULSE (R630): `dropMv` is what the pulse found. Three failed read-backs in a row raise a line fault. -/
def execAlarmTestPulse (m : Mast) (i dropMv : Nat) (s : State) : Outcome State Fault Refusal :=
  .next <|
    let x := s.alarmIn m i
    if decide (8 ≤ i) || !s.alarmRuns m || s.tst m = .out || decide (x.deb ≥ 2) || decide (x.last ≥ 2) then s
    else
      let e := expectedDrop x.deb
      if e * 70 ≤ dropMv * 100 ∧ dropMv * 100 ≤ e * 130 then s.setAlarmIn m i { x with failed := 0 }
      else if x.failed < 2 then s.setAlarmIn m i { x with failed := x.failed + 1 }
      else (s.setAlarmIn m i { x with failed := 0 }).report m (if dropMv * 100 > e * 130 then 0xB0 else 0xB1) (inputSite 2 i)

/-! ### Activations (R295, R299) -/

/-- Whether a message can be played: written, and not failed in its last check (R225, R299, R577). -/
def State.messageOk (s : State) (i : Nat) : Bool :=
  (s.alarm.messages[i]?).elim false (fun x => x.state == 1)

/-- The source of an activation that starts at a step: a message that cannot be played gives way to the fallback alert
signal (R299). -/
def State.startSource (s : State) (kind index : Nat) : AlarmSource :=
  if kind = 0 && s.messageOk index then { kind := 0, index := index, from' := 0 }
  else if kind = 1 then { kind := 1, index := index, from' := 0 }
  else { kind := 2, index := 0, from' := s.step }

/-- The activation that an input or a stream starts (R294, R295, R584). -/
def State.itemActivation (s : State) (p : Profile) (x : AlarmInputItem) : Activation :=
  { trigger := if x.input < 8 then 0 else 2, input := x.input, priority := x.priority,
    source := s.startSource x.sourceKind x.sourceIndex, repeats := 0, plays := 0, start := s.step,
    zones := (p.zoneList.drop x.zoneFirst).take x.zoneCount }

/-- A mast acts on the state of an input or stream: its activation starts, or under FOLLOW ends (R295). -/
def State.actAlarm (s : State) (m : Mast) (i st : Nat) : State :=
  let s1 := if i < 8 then (s.setAlarmIn m i { s.alarmIn m i with acted := st, solo := none }).followFallback m
    else { s with alarm := { s.alarm with streams := match s.alarm.streams[i - 8]? with
        | some y => setAt s.alarm.streams (i - 8) { y with state := st }
        | none => s.alarm.streams } }
  match s1.sec.profile, s1.alarmItem i with
  | some p, some x =>
    if s1.md.mode = .lockout || s1.md.mode = .vault then s1
    else
      let mine (a : Activation) : Bool := a.input == i && a.trigger != 1
      let d := s1.dp.get m
      if st = 1 then
        let a := s1.itemActivation p x
        if a.zones.isEmpty || d.acts.any mine then s1 else s1.setDp m (d.activate a)
      else if bit x.flags 1 then s1
      else s1.setDp m (d.endActs mine)
  | _, _ => s1

/-- Apply the changes assigned to a mast by a step (R59). -/
def State.actAssigned (s : State) (m : Mast) (n : Nat) : State :=
  let due := (s.alm.get m).assigned.filter (fun a => decide (a.step ≤ n))
  let s1 := s.setAlm m { s.alm.get m with assigned := (s.alm.get m).assigned.filter (fun a => !decide (a.step ≤ n)) }
  due.foldl (fun acc a => acc.actAlarm m a.input a.state) s1

/-- Run a change as of a step: what it starts, starts there. -/
def State.atStep (s : State) (n : Nat) (f : State → State) : State :=
  let r := f { s with step := n }
  { r with step := s.step }

/-- Act on a change of an input that came at a time: what is to follow within a time of the change counts from there (R115). -/
def State.triggeredBy (s : State) (t : Nat) (f : State → State) : State :=
  let r := f { s with md := { s.md with trigger := some t } }
  { r with md := { r.md with trigger := none } }

/-- When the first of the changes that are due by a step came. -/
def State.changeTime (s : State) (n : Nat) : Nat :=
  ((bothMasts.map (fun m => (s.alm.get m).assigned.filter (fun a => decide (a.step ≤ n)))).flatten.map (fun a => a.since)).foldl
    Nat.min s.now

/-- A mast that no longer waits for an assignment acts on its own change: at D + F + 2, or at this boundary where that has
passed (R59). -/
def State.ownAlarms (s : State) (m : Mast) (n : Nat) : State :=
  if s.waitsAlarm m then s
  else (List.range 8).foldl (fun acc i => match (acc.alarmIn m i).solo with
    | some (due, st) =>
      acc.assignAlarm (acc.alarmMasts m) { input := i, state := st, step := Nat.max (due - 2) n, since := (acc.alarmIn m i).since }
    | none => acc) s

/-- Both masts act on what is assigned up to a step (R59, R296). -/
def State.alarmActions (s : State) (n : Nat) : State :=
  let s1 := (s.ownAlarms .a n).ownAlarms .b n
  if bothMasts.any (fun m => (s1.alm.get m).assigned.any (fun a => decide (a.step ≤ n))) then
    s1.atStep n (fun x => x.triggeredBy (x.changeTime n) (fun y => ((y.actAssigned .a n).actAssigned .b n).alarmChanged))
  else s1

/-- The Primary's assignments reach a Reserve in track over the Shroud link (R91). -/
def State.primaryAlarms (s : State) (xs : List Assigned) : State :=
  if s.tracks then xs.foldl (fun acc x => acc.assignAlarm bothMasts x) s else s

/-- ALARM_INPUT_ACTION (R59): at the assigned step, which begins at this boundary. `primary` holds the assignments that a Reserve
has received from the Primary (R91). -/
def execAlarmInputAction (primary : List Assigned) (s : State) : Outcome State Fault Refusal :=
  .next ((s.primaryAlarms primary).alarmActions (s.step + 1))

/-- ALARM_INPUT_SOLO (R59): by E + F + 4 no assignment has arrived; the Stoker acts alone. -/
def execAlarmInputSolo (m : Mast) (i : Nat) (s : State) : Outcome State Fault Refusal :=
  .next <|
    match (s.alarmIn m i).solo with
    | some (due, st) =>
      if decide (8 ≤ i) || decide (s.step + 1 < due) || s.tst m != .stoker || s.tracks then s
      else
        let t := (s.alarmIn m i).since
        let s1 := (s.atStep due (fun x => x.triggeredBy t (fun y => (y.actAlarm m i st).alarmChanged))).flag m .soloAlarm due s.window
        s1.event m.code evAlarmInputSolo (be 1 i ++ zeros 3 ++ be 8 due)
    | none => s

/-! ### Alarm commands (R224) -/

/-- The zones an ALARM_ACTIVATE or ALARM_CLEAR names. -/
def alarmZones (off : Nat) (p : List Byte) : List Nat := (List.range (min (fld p 0 2) 512)).map (fun i => fld p (off + 2 * i) 2)

/-- Whether the profile defines every zone, with its floor at or above a priority (R224, R295). -/
def State.zonesOk (s : State) (zs : List Nat) (pri : Nat) : Bool :=
  match s.sec.profile with
  | some p => zs.all (fun z => p.zones.any (fun x => x.zone == z && decide (pri ≤ x.floor)))
  | none => zs.isEmpty

/-- Why an ALARM_ACTIVATE is refused (R224, R295, R299). -/
def State.activateRefusals (s : State) (p : List Byte) (seat : Nat) : List Nat :=
  let n := fld p 0 2
  let pri := fld p 2 1
  let kind := fld p 3 1
  let idx := fld p 4 2
  let mics := (s.sec.profile.map Profile.mics).getD []
  let bad := decide (n = 0) || decide (n > 512) || decide (pri > 7) || decide (kind > 2) ||
    (kind == 0 && decide (idx > 63)) || (kind == 1 && !mics.contains idx) || (kind == 2 && idx != 0) ||
    !s.zonesOk (alarmZones 8 p) pri || decide (pri < (s.seat seat).prioLimit)
  refuseIf bad stBadParam ++ refuseIf (kind == 0 && !bad && !s.messageOk idx) stMessageBad

/-- ALARM_ACTIVATE (R224, R295, R299). -/
def execAlarmActivate (h : Hdr) (p : List Byte) (s : State) : Outcome State Fault Refusal :=
  .next <| s.receive h 0x0D01 fun seat s1 =>
    s1.schedule h seat 0x0D01 p (p.length == 8 + 2 * fld p 0 2) (s1.activateRefusals p seat) (s1.effectiveStep h) 0
      fun s2 => (s2, [])

/-- Apply an ALARM_ACTIVATE (R113, R125, R224, R295). -/
def State.applyAlarmActivate (s : State) (c : SchedCmd) (ms : List Mast) : State × Nat :=
  let p := c.payload
  let a : Activation :=
    { trigger := 1, input := 0, priority := fld p 2 1, source := s.startSource (fld p 3 1) (fld p 4 2),
      repeats := fld p 6 2, plays := 0, start := s.step, zones := alarmZones 8 p }
  ((s.changeDp ms (fun d => d.activate a)).alarmChanged, stOk)

/-- The input or stream of an activation is back to normal (R59, R584). -/
def State.backToNormal (s : State) (m : Mast) (a : Activation) : Bool :=
  if a.trigger = 0 then (s.alarmIn m a.input).acted == 0
  else (s.alarm.streams[a.input - 8]?).elim true (fun x => x.state == 0)

/-- Activations that an ALARM_CLEAR releases: those by command, and those by an input or a stream that is normal again and that a
command may clear (R224, R295, R584). -/
def State.clearable (s : State) (m : Mast) (a : Activation) : Bool :=
  a.trigger == 1 || (s.backToNormal m a && (s.alarmItem a.input).elim false (fun x => bit x.flags 2))

/-- Why an ALARM_CLEAR is refused (R224). -/
def State.clearRefusals (s : State) (p : List Byte) : List Nat :=
  let n := fld p 0 2
  let zs := alarmZones 4 p
  let act := s.leadDp.activeZones
  refuseIf (decide (n = 0) || decide (n > 512) || fld p 2 2 != 0) stBadParam ++
    refuseIf (zs.any (fun z => !act.contains z)) stWrongState

/-- ALARM_CLEAR (R224). -/
def execAlarmClear (h : Hdr) (p : List Byte) (s : State) : Outcome State Fault Refusal :=
  .next <| s.receive h 0x0D02 fun seat s1 =>
    s1.schedule h seat 0x0D02 p (p.length == 4 + 2 * fld p 0 2) (s1.clearRefusals p) (s1.effectiveStep h) 0 fun s2 => (s2, [])

/-- Apply an ALARM_CLEAR. -/
def State.applyAlarmClear (s : State) (c : SchedCmd) (ms : List Mast) : State × Nat :=
  let zs := alarmZones 4 c.payload
  ((ms.foldl (fun acc m => acc.setDp m ((acc.dp.get m).release (fun a => acc.clearable m a) zs)) s).alarmChanged, stOk)

/-- The map of active zones, and a page of their winners (R184, R225). -/
def State.alarmPage (s : State) (h : Hdr) (p : List Byte) : List Byte :=
  let d := s.leadDp
  let zs := (List.range 512).filter (fun z => d.activeZones.contains z)
  be 64 (zs.foldl (fun n z => n + 2 ^ z) 0) ++
    pageBytes (fld p 0 4) (fld p 4 2) (s.fitting h 72 8) zs.length (fun i =>
      match d.winner (atD zs i 0) with
      | some a => be 2 (atD zs i 0) ++ be 1 a.priority ++ be 1 a.source.kind ++ be 2 a.source.index ++ be 1 a.trigger ++ zeros 1
      | none => zeros 8)

/-- ALARM_STATUS (R225): the map of active zones, zone 0 in the last bit, then a page of winners. -/
def execAlarmStatus (h : Hdr) (p : List Byte) (s : State) : Outcome State Fault Refusal :=
  .next <| s.receive h 0x0D03 fun seat s1 =>
    s1.runNow h seat 0x0D03 (p.length == 8) .package (pageRefusals p 0) 72 fun s2 => (s2, s2.alarmPage h p)

/-! ### Messages (R225, R298, R299, R577 to R579) -/

/-- A message. -/
def State.message (s : State) (i : Nat) : Message := atD s.alarm.messages i .none

/-- Replace a message. -/
def State.setMessage (s : State) (i : Nat) (x : Message) : State :=
  { s with alarm := { s.alarm with messages := setAt s.alarm.messages i x } }

/-- The store key: the value of a PURPOSE 0 key slot (R561, R577). -/
def State.storeKey (s : State) : Option Nat :=
  match s.md.nest.keySlots.find? (fun k => k.elim false (fun v => v.purpose == 0)) with
  | some (some k) => some k.key
  | _ => none

/-- KEY_CHECK of the key in the PURPOSE 0 slot, as one number per key; 0 where no slot holds one (R577). -/
def State.keyCheck (s : State) : Nat := s.storeKey.elim 0 (fun k => k + 1)

/-- The store key passes a message's key check (R563, R577). -/
def State.keyMatches (s : State) (x : Message) : Bool := s.keyCheck != 0 && s.keyCheck == x.key

/-- A message sounds on either mast. -/
def State.messagePlays (s : State) (i : Nat) : Bool := bothMasts.any (fun m => (s.dp.get m).plays.any (fun e => e.1 == i))

/-- Why a MESSAGE_LOAD is refused (R185, R225, R577). -/
def State.messageRefusals (s : State) (p : List Byte) (seat : Nat) (sigOk : Bool) : List Nat :=
  let i := fld p 9 1
  let last := bit (fld p 8 1) 1
  let total := fld p 4 4
  let others := (List.range 64).foldl (fun n k => if k = i then n else n + (s.message k).samples) 0
  let now := (s.storeChunk (.message i) seat p).2
  let image := last && (fld now 0 4 != 0x4D534731 || fld now 4 4 = 0 || fld now 8 8 != 0 ||
    now.length != 16 + 3 * fld now 4 4 + 96)
  refuseIf (decide (i > 63)) stBadParam ++ s.chunkRefusals (.message i) seat p (16 + 3 * 86400000 + 96) ++
    refuseIf (decide (others + (total - 112) / 3 > 86400000)) stNoSpace ++ refuseIf (s.messagePlays i) stBusy ++
    refuseIf (last && image) stBadParam ++ refuseIf (last && !sigOk) stBadSignature

/-- A chunk of an alarm message; LAST makes it the message of its index, whose write to flash starts (R185, R225, R577). -/
def State.loadMessage (s : State) (seat : Nat) (p : List Byte) : State × Nat :=
  let i := fld p 9 1
  let r := s.storeChunk (.message i) seat p
  (if bit (fld p 8 1) 1 then
     r.1.setMessage i
       { samples := fld r.2 4 4, generation := (r.1.message i).generation + 1, key := r.1.keyCheck, state := 0, checked := 0,
         data := (r.2.drop 16).take (3 * fld r.2 4 4), writing := true, badA := [], badB := [] }
   else r.1, r.2.length)

/-- MESSAGE_LOAD (R185, R225, R577). `sigOk`: the owner signature verifies. -/
def execMessageLoad (h : Hdr) (p : List Byte) (sigOk : Bool) (s : State) : Outcome State Fault Refusal :=
  .next <| s.receive h 0x0D04 fun seat s1 =>
    s1.runChunk h seat 0x0D04 (.message (fld p 9 1)) p (s1.messageRefusals p seat sigOk) fun s2 =>
      ((s2.loadMessage seat p).1, be 4 (s2.loadMessage seat p).2)

/-- MESSAGE_WRITE_DONE (R577): the message leaves MSG_STATE 0; without the store key it was written under, it is
failed. -/
def execMessageWriteDone (i : Nat) (s : State) : Outcome State Fault Refusal :=
  .next <|
    let x := s.message i
    if !x.writing || s.writesHeld .a || s.writesHeld .b then s
    else s.setMessage i { x with writing := false, checked := s.md.nest.rtc,
                                 state := if s.keyMatches x then 1 else 2 }

/-- The record of one alarm message (R225). -/
def Message.bytes (x : Message) : List Byte := be 4 x.samples ++ be 1 x.state ++ zeros 3 ++ be 8 x.checked

/-- MESSAGE_LIST (R225). -/
def execMessageList (h : Hdr) (p : List Byte) (s : State) : Outcome State Fault Refusal :=
  .next <| s.receive h 0x0D05 fun seat s1 =>
    s1.runNow h seat 0x0D05 (p.length == 0) .package [] 1024 fun s2 =>
      (s2, (s2.alarm.messages.map Message.bytes).flatten)

/-- The record of one alarm input (R225). -/
def State.alarmInputBytes (s : State) (m : Mast) (i : Nat) : List Byte :=
  be 1 (s.alarmIn m i).deb ++ zeros 3 ++ be 4 (s.alarmIn m i).changes

/-- ALARM_INPUT_STATUS (R225). -/
def execAlarmInputStatus (h : Hdr) (p : List Byte) (s : State) : Outcome State Fault Refusal :=
  .next <| s.receive h 0x0D06 fun seat s1 =>
    s1.runNow h seat 0x0D06 (p.length == 0) .perMast [] (8 + 64 * s1.serving) fun s2 =>
      (s2, s2.perMast (fun m => ((List.range 8).map (s2.alarmInputBytes m)).flatten))

/-- FALLBACK_TEST (R225). -/
def execFallbackTest (h : Hdr) (p : List Byte) (s : State) : Outcome State Fault Refusal :=
  .next <| s.receive h 0x0D07 fun seat s1 =>
    s1.runNow h seat 0x0D07 (p.length == 4) (.named (fld p 0 1))
      (s1.mastRefusals (fld p 0 1) false ++ refuseIf (fld p 1 1 != 0 || decide (fld p 2 2 > 19)) stBadParam) 0 fun s2 =>
      let t : FallbackTest := { mast := Mast.ofCode (fld p 0 1), output := fld p 2 2, seat := seat, hostSeq := h.hostSeq,
                                startedAt := s2.now }
      ({ s2 with alarm := { s2.alarm with tests := s2.alarm.tests ++ [t] } }, [])

/-- FALLBACK_TEST_DONE (R225, R227): the test that began first ends, for each plays the same signal. -/
def execFallbackTestDone (s : State) : Outcome State Fault Refusal :=
  .next <|
    match s.alarm.tests with
    | t :: rest =>
      (({ s with alarm := { s.alarm with tests := rest } } : State)).eventTo t.seat t.mast.code evTestDone t.hostSeq s.step
        (be 1 1 ++ be 1 0 ++ be 2 t.output ++ be 4 0)
    | [] => s

/-- Sample `k` of a message as stored, 24 bits. -/
def Message.sample (x : Message) (k : Nat) : Int := signedOf 24 (fld x.data (3 * k) 3)

/-- Steps of one play of a message (R298). -/
def State.playSteps (s : State) (i : Nat) : Nat := (s.message i).samples * (if s.rate48 then 1 else 2)

/-- The word of a message at a play position (R237, R298): the stored sample at 48 kHz; at 96 kHz the interpolator's
word, whose coefficients the spec does not give: zero where its whole history is zero, else a free word (log entry 1). -/
def State.messageWord (s : State) (i pos : Nat) : Int :=
  let x := s.message i
  if x.samples = 0 then 0
  else if s.rate48 then portIn false (x.sample (pos % x.samples))
  else
    let hist := (List.range 16).map (fun k => if pos / 2 < k then 0 else x.sample ((pos / 2 - k) % x.samples))
    if hist.all (fun v => v == 0) then 0 else clampSigned 36 (Config.firWord (pos % 2) hist)

/-- Sample `k` of the sealed alert signal: 12 bits, packed two to three bytes (R580). -/
def alertSample (img : List Byte) (k : Nat) : Int :=
  let w := fld img (64 + 3 * (k / 2)) 3
  signedOf 12 (if k % 2 = 0 then w / 4096 else w % 4096)

/-- The fallback alert signal's word on a mast at a position in steps (R300, R301, R580): interpolated by a filter the
spec does not give. -/
def State.alertWord (s : State) (m : Mast) (pos : Nat) : Int :=
  let k := pos / (if s.rate48 then 2 else 4)
  let hist := match (s.mem.get m).alert with
    | some img =>
      let n := fld img 4 4
      if n = 0 then [] else (List.range 8).map (fun i => if k < i then 0 else alertSample img ((k - i) % n))
    | none => [(k : Int) + 1]
  if hist.all (fun v => v == 0) then 0 else clampSigned 36 (Config.firWord (2 + pos % 4) hist)

/-- The word of an alarm source on a mast in step `n` (R297 to R300). -/
def State.alarmWord (s : State) (m : Mast) (inp : Nat → Int) (n : Nat) (x : AlarmSource) : Int :=
  match x.kind with
  | 0 => match (s.dp.get m).plays.find x.index with
    | some st => s.messageWord x.index (n - st)
    | none => 0
  | 1 => inp x.index
  | _ => s.alertWord m (n - x.from')

/-- The activations of a message turn to the fallback alert signal (R299). -/
def Datapath.toFallback (d : Datapath) (msg n : Nat) : Datapath :=
  { d with acts := d.acts.map (fun a =>
      if a.source.kind == 0 && a.source.index == msg then { a with source := { kind := 2, index := 0, from' := n } } else a) }

/-- MESSAGE_PLAY_BOUNDARY (R298): a play of a message ends; command activations started before it count it, and end at
their REPEAT-th. -/
def execMessagePlayBoundary (msg : Nat) (s : State) : Outcome State Fault Refusal :=
  .next <|
    let n := s.step + 1
    let len := s.playSteps msg
    let atEnd (d : Datapath) : Bool := match d.plays.find msg with
      | some st => len != 0 && decide (st < n) && (n - st) % len == 0
      | none => false
    if !(bothMasts.any (fun m => atEnd (s.dp.get m))) then s
    else
      let mine (a : Activation) : Bool := a.source.kind == 0 && a.source.index == msg && a.trigger == 1 && decide (a.start < n)
      let one (d : Datapath) : Datapath := if !atEnd d then d else
        ({ d with acts := d.acts.map (fun a => if mine a then { a with plays := a.plays + 1 } else a) } : Datapath).endActs
          (fun a => mine a && a.repeats != 0 && decide (a.repeats ≤ a.plays))
      s.atStep n (fun x => ({ x with dp := x.dp.map one } : State).alarmChanged)

/-- MESSAGE_CHUNK_FAILURE (R299): `both`: the chunk fails on both masts, or on the Captain in Solo. Else the other
mast's chunk is used. -/
def execMessageChunkFailure (m : Mast) (msg chunk : Nat) (both : Bool) (s : State) : Outcome State Fault Refusal :=
  .next <|
    let x := s.message msg
    if x.state != 1 then s
    else if !both && s.inTandem then
      s.setMessage msg (if m = .a then { x with badA := (x.badA ++ [chunk]).eraseDups }
        else { x with badB := (x.badB ++ [chunk]).eraseDups })
    else
      let s1 := (s.setMessage msg { x with state := 2 }).report s.lead 0xB3 (0xB0000000 + 64 * chunk + msg)
      let s2 := s1.eventFull 2 2 1 evMessageCheck s1.step (be 1 msg ++ be 1 1 ++ be 2 chunk)
      ({ s2 with dp := s2.dp.map (fun d => d.toFallback msg s2.step) } : State).alarmChanged

/-- One chunk that a periodic check finds failed (R579): rewritten from the other mast, or the message is failed. While flash
writes are held off the rewrite waits for the next check (R136, R503). -/
def State.storeFailure (s : State) (m : Mast) (msg chunk : Nat) (both : Bool) : State :=
  let x := s.message msg
  let s1 := s.report m 0xB2 (0xB0000000 + 64 * chunk + msg)
  if both || !s.inTandem then
    (s1.setMessage msg { x with state := 2 }).eventFull 2 1 1 evMessageCheck s1.step (be 1 msg ++ be 1 1 ++ be 2 chunk)
  else if s.writesHeld m then
    s1.setMessage msg (if m = .a then { x with badA := (x.badA ++ [chunk]).eraseDups }
      else { x with badB := (x.badB ++ [chunk]).eraseDups })
  else
    (s1.setMessage msg { x with badA := x.badA.filter (fun c => c != chunk), badB := x.badB.filter (fun c => c != chunk) }).event
      m.code evMessageCheck (be 1 msg ++ be 1 0 ++ be 2 chunk)

/-- A message store check of a mast is due: the one of BOOT phase I, or 10 minutes after the last, or after the end of BOOT (R106,
R579). -/
def State.checkDue (s : State) (m : Mast) : Bool :=
  let a := s.alm.get m
  a.checking || (s.serves m && decide (a.checkedAt.getD 0 + 600 * Config.second ≤ s.now))

/-- MESSAGE_STORE_CHECK (R225, R579): every chunk of every valid message of a mast is authenticated, and CHECKED holds the RTC of
it; `fails` lists message, chunk and whether it fails on both masts. -/
def execMessageStoreCheck (m : Mast) (fails : List (Nat × Nat × Bool)) (s : State) : Outcome State Fault Refusal :=
  .next <|
    if !s.checkDue m then s
    else
      let s1 := (fails.filter (fun f => (s.message f.1).state == 1)).foldl
        (fun acc f => acc.storeFailure m f.1 f.2.1 f.2.2) s
      let s2 : State := { s1 with alarm := { s1.alarm with messages := (List.range s1.alarm.messages.length).map (fun i =>
        if (s.message i).state = 1 then { s1.message i with checked := s1.md.nest.rtc } else s1.message i) } }
      s2.setAlm m { s2.alm.get m with checking := false, checkedAt := some s2.now }

/-! ### Alarm streams (R584) -/

/-- Whether an alarm stream message is accepted (R584). `tai`: TB_0's seconds. -/
def State.streamAccepts (s : State) (n : Nat) (p : List Byte) (sigOk tb0Locked : Bool) (tai : Nat) : Bool :=
  decide (p.length = 120) && fld p 0 2 == 0xA1A5 && fld p 2 1 == 1 && decide (fld p 3 1 ≤ 1) && fld p 20 4 == 0 &&
  sigOk && (s.alarmItem (8 + n)).isSome && decide (atD s.md.nest.streamCounters n 0 < fld p 4 8) &&
  (!tb0Locked || (decide (fld p 12 8 ≤ tai + 5) && decide (tai ≤ fld p 12 8 + 5)))

/-- ALARM_STREAM_MESSAGE (R584): a payload that matches stream `n`, on a watch lane or a powered media lane of a
mast. -/
def execAlarmStreamMessage (m : Mast) (n : Nat) (r : RtpFacts) (p : List Byte) (sigOk : Bool) (tai : Nat) (s : State) :
    Outcome State Fault Refusal :=
  .next <|
    let locked := match (s.tim.get s.lead).tbs[0]? with
      | some t => t.st == .locked
      | none => false
    if !s.serves m then s
    else if !s.streamAccepts n p sigOk locked tai then s.flowMiss m r
    else
      let x := atD s.alarm.streams n { state := 0, lastAt := none, silent := false }
      let st := fld p 3 1
      let s1 : State :=
        { s with
          alarm := { s.alarm with streams := setAt s.alarm.streams n { x with lastAt := some s.now, silent := false } }
          md := { s.md with nest := { s.md.nest with streamCounters := setAt s.md.nest.streamCounters n (fld p 4 8) } } }
      let s2 := if x.silent then s1.event 2 evAlarmInput (be 1 (8 + n) ++ be 1 st ++ zeros 2) else s1
      let target := ((s2.alm.get s2.lead).assigned.filter (fun a => a.input == 8 + n)).foldl (fun _ a => a.state) x.state
      if target = st then s2
      else s2.assignAlarm (s2.alarmMasts s2.lead) { input := 8 + n, state := st, step := s2.step + s2.fence + 2, since := s2.now }

/-- ALARM_STREAM_SILENCE (R584): 5 s with no accepted message. -/
def execAlarmStreamSilence (n : Nat) (s : State) : Outcome State Fault Refusal :=
  .next <|
    match s.alarm.streams[n]? with
    | some x =>
      if x.silent || decide (s.now < x.lastAt.getD 0 + 5 * Config.second) || (s.alarmItem (8 + n)).isNone then s
      else
        ({ s with alarm := { s.alarm with streams := setAt s.alarm.streams n { x with silent := true } } } : State).event 2
          evAlarmInput (be 1 (8 + n) ++ be 1 2 ++ zeros 2)
    | none => s

end Sys2Proof.Machine
end

