-- ==== Sys2Proof/Machine/Fabric.lean ====
section
/-! DEFINITION. The bus matrix of a Lane die: its address map, its masters and their paths, bursts with a completion code for each
beat, the round-robin grant, and the peripheral bus behind its bridge (R538 to R548). A command's bursts end within it, so none is in
flight between two commands. -/
namespace Sys2Proof.Machine

/-! ### Addresses (R538, R548) -/

/-- Where the boot ROM, or working SRAM, answers in its region: the boot ROM fills the first 128 KiB of its own (R538). -/
def regionTarget (rom : Bool) (off : Nat) : Option BusTarget :=
  if rom then (if off < 0x20000 then some .bootRom else none) else some .workingSram

/-- The block of the peripheral bus at an offset from 0x3000_0000: 11 blocks, 64 KiB apart (R548). -/
def peripheralBlock (off : Nat) : Option BusTarget := if off / 0x10000 < 11 then some (.peripheral (off / 0x10000)) else none

/-- The target that an address names, by REMAP (R538, R539); `none` where the map lists nothing. -/
def busTarget (remap : Bool) (a : Nat) : Option BusTarget :=
  let within (base size : Nat) : Bool := decide (base ≤ a) && decide (a < base + size)
  if within 0 0x80000 then regionTarget (!remap) a
  else if within 0x10000000 0x80000 then regionTarget remap (a - 0x10000000)
  else if within 0x1FF00000 0x20000 then some .bootRom
  else if within 0x20000000 0x8000 then some .mailboxIn
  else if within 0x20008000 0x8000 then some .mailboxOut
  else if within 0x20100000 0x100000 then some (.scratch ((a - 0x20100000) / 0x10000))
  else if within 0x21000000 0x200000 then some (.ledger ((a - 0x21000000) / 0x40000))
  else if within 0x22000000 0x80000 then some .headCache
  else if within 0x24000000 0x400000 then some .fallbackMemory
  else if within 0x30000000 0x1000000 then peripheralBlock (a - 0x30000000)
  else if within 0x40000000 0x10000000 then some .mixBridge
  else if within 0x50000000 0x10000000 then some .routeBridge
  else if within 0x60000000 0x1000 then some .hostWindow
  else none

/-- The four accesses of 32 bits that the peripheral bridge makes of one beat, in ascending address order (R548). -/
def splitBeat (a : Nat) : List Nat := (List.range 4).map (fun i => a / 16 * 16 + 4 * i)

/-! ### Paths (R541) -/

/-- The path that the access table gives a master to a target, for a read or a write; a scratch bank has its owner besides. -/
def busPath (x : BusMaster) (t : BusTarget) (write : Bool) : Bool :=
  match t with
  | .bootRom => !write && (x == .cpInstr || x == .cpData)
  | .workingSram => if write then x == .cpData || x == .dma || x == .security || x == .march else x != .hostPort
  | .mailboxIn => if write then x == .hostPort || x == .march else x == .cpData || x == .dma || x == .hostPort || x == .march
  | .mailboxOut => if write then x == .cpData || x == .dma || x == .march else x == .cpData || x == .dma || x == .hostPort || x == .march
  | .scratch _ => x != .cpInstr
  | .ledger _ | .headCache => x == .cpData || x == .dma || x == .security || x == .march
  | .fallbackMemory => x == .march || (!write && x == .cpData)
  | .peripheral _ => x == .cpData || (!write && (x == .security || x == .march))
  | .mixBridge | .routeBridge => x == .cpData || x == .dma || x == .march
  | .hostWindow => x == .cpData || x == .hostPort

/-- The owner code of a master, as BANK_GIVE has it (R516). -/
def BusMaster.ownerCode (x : BusMaster) : Nat := match x with
  | .cpInstr | .cpData => 0
  | .dma => 1
  | .hostPort => 2
  | .march => 3
  | .security => 4

/-- A target answers a master: a scratch bank its owner alone, the mailbox the march engine only while it marches or wipes it at BOOT
or on entry to LOCKOUT, a die bridge while its die is powered (R515, R516, R544). -/
def State.targetAnswers (s : State) (m : Mast) (x : BusMaster) (t : BusTarget) : Bool :=
  match t with
  | .scratch n =>
    let held := (s.mem.get m).march.any (fun r => r.target == 0 && r.index == n)
    if held then x == .march
    else ((s.mem.get m).banks[n]?).elim false (fun b => b.owner == x.ownerCode && !b.withdrawn)
  | .mailboxIn | .mailboxOut => x != .march || (s.md.boot.get m).phase == 3 || s.md.mode == .lockout
  | .mixBridge => s.md.mixOn.get m
  | .routeBridge => s.md.routeOn.get m
  | _ => true

/-- An access is ACCEPTED, and not REFUSED (R544). -/
def State.busAccepts (s : State) (m : Mast) (x : BusMaster) (write : Bool) (a : Nat) : Bool :=
  match busTarget (s.md.boot.get m).remap a with
  | some t => busPath x t write && s.targetAnswers m x t
  | none => false

/-! ### Bursts and the grant (R542, R543) -/

/-- One burst: where it starts, and its beats of 128 bits. -/
structure BusBurst where
  start : Nat
  beats : Nat
  deriving DecidableEq, Repr

/-- The form of a burst: 1 to 16 beats from a 16-byte boundary, within 4 KiB (R542). -/
def BusBurst.ok (b : BusBurst) : Bool :=
  decide (1 ≤ b.beats) && decide (b.beats ≤ 16) && b.start % 16 == 0 && b.start / 4096 == (b.start + 16 * b.beats - 1) / 4096

/-- The bytes that a write beat enables, of an access to `n` bytes from `a` on (R542). -/
def byteEnables (a n beat : Nat) : List Bool := (List.range 16).map (fun i => decide (a ≤ beat + i) && decide (beat + i < a + n))

/-- The bursts of an access to `n` bytes from `a` on: one for each line of 256 bytes that it touches. -/
def coverBursts (a n : Nat) : List BusBurst :=
  if n = 0 then []
  else (List.range ((a + n - 1) / 256 - a / 256 + 1)).map (fun i =>
    let line := (a / 256 + i) * 256
    let first := Nat.max line (a / 16 * 16)
    let last := Nat.min (line + 240) ((a + n - 1) / 16 * 16)
    { start := first, beats := (last - first) / 16 + 1 })

/-- The completion code of every beat of a burst, ACCEPTED or REFUSED: a target answers all the beats of a burst alike (R542, R544). -/
def State.completions (s : State) (m : Mast) (x : BusMaster) (write : Bool) (b : BusBurst) : List Bool :=
  (List.range b.beats).map (fun i => s.busAccepts m x write (b.start + 16 * i))

/-- Masters in the order of the round robin (R540). -/
def busMasters : List BusMaster := [.cpInstr, .cpData, .dma, .hostPort, .security, .march]

/-- The master that a target grants next, of those that request it: round robin from the one after the master granted last (R543). -/
def nextGrant (last : Option BusMaster) (asking : List BusMaster) : Option BusMaster :=
  let from' := match last with
    | some x => busMasters.idxOf x + 1
    | none => 0
  ((List.range 6).filterMap (fun i => busMasters[(from' + i) % 6]?)).find? (fun x => asking.contains x)

/-- The master that a target has granted last. -/
def MemMast.lastGranted (x : MemMast) (t : BusTarget) : Option BusMaster := (x.granted.find? (fun g => g.1 == t)).map (fun g => g.2)

/-- A target grants the next burst among the masters that ask for it, and the grant is the one it starts after (R543). -/
def MemMast.grant (x : MemMast) (t : BusTarget) (asking : List BusMaster) : MemMast :=
  match nextGrant (x.lastGranted t) asking with
  | some g => { x with granted := x.granted.filter (fun y => y.1 != t) ++ [(t, g)] }
  | none => x

/-- A master's burst takes the path to the target of its address, where there is one (R542, R543). -/
def State.grantBurst (s : State) (m : Mast) (x : BusMaster) (write : Bool) (b : BusBurst) : State :=
  match busTarget (s.md.boot.get m).remap b.start with
  | some t => if busPath x t write then s.setMem m ((s.mem.get m).grant t [x]) else s
  | none => s

/-- The address of a byte of a scratch bank (R538). -/
def bankAddress (n off : Nat) : Nat := 0x20100000 + n * 0x10000 + off

/-! ### The boundary-scan port, which no matrix reaches (R632) -/

/-- Instructions of the boundary-scan port. -/
inductive ScanInstr where
  | bypass
  | idcode
  | sample
  | preload
  | extest
  | extestPulse
  deriving DecidableEq, Repr

/-- The instructions that the port of a mast accepts now: BYPASS and IDCODE always, the others in BLANK, VENDOR and OWNED while
RESET_N_x holds the mast in reset (R559, R632). -/
def State.scanAccepts (s : State) (m : Mast) (i : ScanInstr) : Bool :=
  i == .bypass || i == .idcode || (decide (s.sec.lifecycle ≤ 2) && (s.md.boot.get m).held)

/-- The IDCODE of a mast, with the silicon stepping in bits [31:28] (R632). -/
def idcode (m : Mast) : Nat := if m = .a then 0x1EA20D7B else 0x1EA21D7B

end Sys2Proof.Machine
end

