-- ==== Sys2Proof/Machine/Memory.lean ====
section
/-! DEFINITION. Scratch banks, marches and the spares they assign, loopbacks, test routes, the repair map and the
fallback memory (R221, R399, R512 to R530). -/
namespace Sys2Proof.Machine
open Host

/-! ### Bytes of a scratch bank -/

/-- Read one byte of a bank: a byte not listed is zero, what a wiped word holds (R531). -/
def cellRead : List (Nat × Byte) → Nat → Byte
  | [], _ => 0
  | (k, v) :: rest, a => if k = a then v else cellRead rest a

/-- Write one byte of a bank, keeping addresses rising and no zero listed. -/
def cellWrite : List (Nat × Byte) → Nat → Byte → List (Nat × Byte)
  | [], a, v => if v = 0 then [] else [(a, v)]
  | (k, w) :: rest, a, v =>
    if a < k then (if v = 0 then (k, w) :: rest else (a, v) :: (k, w) :: rest)
    else if k = a then (if v = 0 then rest else (a, v) :: rest)
    else (k, w) :: cellWrite rest a v

/-- Write bytes from an address on. -/
def cellsWrite : List (Nat × Byte) → Nat → List Byte → List (Nat × Byte)
  | d, _, [] => d
  | d, a, v :: vs => cellsWrite (cellWrite d a v) (a + 1) vs

/-- The canonical form of a bank: addresses strictly rising, no zero listed. -/
def cellsWf (d : List (Nat × Byte)) : Bool := Assoc.rising d && d.all (fun c => c.2 != 0)

/-- The canonical form of every scratch bank of a mast. -/
def MemMast.wf (x : MemMast) : Bool := x.banks.all (fun b => cellsWf b.data)

/-- A scratch bank of a mast. -/
def State.bank (s : State) (m : Mast) (i : Nat) : ScratchBank := atD (s.mem.get m).banks i (ScratchBank.reset i)

/-- Change a scratch bank of a mast. -/
def State.setBank (s : State) (m : Mast) (i : Nat) (b : ScratchBank) : State :=
  s.setMem m { s.mem.get m with banks := setAt (s.mem.get m).banks i b }

/-- A bank is wiped. -/
def ScratchBank.wipe (b : ScratchBank) : ScratchBank := { b with data := [] }

/-- The wipe of a scratch bank ends the work on its rows (R534). -/
def State.wipeBank (s : State) (m : Mast) (i : Nat) : State :=
  s.wipeRows m (fun x => rowSite 0x2C 0x2C x && bitsOf x 19 16 == i)

/-- A march runs on a scratch bank of a mast (R526). -/
def State.bankMarched (s : State) (m : Mast) (i : Nat) : Bool :=
  (s.mem.get m).march.any (fun x => x.target == 0 && x.index == i)

/-! ### Handover (R516, R517) -/

/-- Refusals of a BANK and a MAST value that name one mast. -/
def State.bankRefusals (s : State) (mast bank : Nat) : List Nat :=
  refuseIf (decide (bank > 15)) stBadParam ++ s.mastRefusals mast false

/-- Why a BANK_GIVE is refused (R221, R517). -/
def State.giveRefusals (s : State) (p : List Byte) : List Nat :=
  let m := Mast.ofCode (fld p 0 1)
  let i := fld p 1 1
  s.bankRefusals (fld p 0 1) i ++ refuseIf (decide (fld p 2 1 > 3) || fld p 3 1 != 0) stBadParam ++
    refuseIf (s.bankMarched m i || s.handovers.any (fun x => x.mast == m && x.bank == i)) stBusy ++
    refuseIf (s.bank m i).withdrawn stWrongState ++ refuseIf ((s.bank m i).owner = 4) stBankNotOwned

/-- A handover starts; its reply waits (R517). -/
def State.startHandover (s : State) (h : Hdr) (seat : Nat) (p : List Byte) : State :=
  { s with handovers := s.handovers ++
      [{ hdr := h, seat := seat, mast := Mast.ofCode (fld p 0 1), bank := fld p 1 1, toOwner := fld p 2 1, startedAt := s.now }] }

/-- BANK_GIVE (R221, R517): the reply waits for the handover, unless the bank is the new owner's already. -/
def execBankGive (h : Hdr) (p : List Byte) (s : State) : Outcome State Fault Refusal :=
  .next <| s.receive h 0x0B01 fun seat s1 =>
    match firstRefusal (s1.commonRefusals h seat ⟨0x0B01, .immediate, rIV, mWQSM⟩ (p.length == 4) ++ s1.giveRefusals p) with
    | some st => s1.refuse h seat 0x0B01 st []
    | none =>
      if (s1.bank (Mast.ofCode (fld p 0 1)) (fld p 1 1)).owner = fld p 2 1 then s1.done h seat 0x0B01 s1.step (.named (fld p 0 1)) []
      else s1.startHandover h seat p

/-- BANK_HANDOVER (R517): the old owner is idle, and the bank passes, wiped where it passes to the host port; or 1 ms has
passed, and the old owner keeps it. -/
def execBankHandover (m : Mast) (i : Nat) (idle : Bool) (s : State) : Outcome State Fault Refusal :=
  .next <|
    match s.handovers.find? (fun x => x.mast == m && x.bank == i) with
    | none => s
    | some x =>
      let s1 : State := { s with handovers := s.handovers.filter (fun y => !(y.mast == m && y.bank == i)) }
      if idle then
        let b := s1.bank m i
        let b1 := if x.toOwner = 2 then b.wipe else b
        let s2 := if x.toOwner = 2 then s1.wipeBank m i else s1
        (s2.setBank m i { b1 with owner := x.toOwner }).done x.hdr x.seat 0x0B01 s1.step (.named x.mast.code) []
      else if x.startedAt + Config.msec ≤ s.now then s1.refuse x.hdr x.seat 0x0B01 stBusy []
      else s

/-- Whether the host port reaches a bank now. -/
def State.hostOwns (s : State) (m : Mast) (i : Nat) : Bool := (s.bank m i).owner == 2 && !s.bankMarched m i

/-- Refusals of BANK_READ and BANK_WRITE (R221, R499). -/
def State.accessRefusals (s : State) (p : List Byte) : List Nat :=
  let m := Mast.ofCode (fld p 0 1)
  refuseIf (decide (fld p 1 1 > 15) || fld p 2 2 != 0 || decide (fld p 4 4 + fld p 8 4 > Config.bankBytes) ||
    decide (fld p 0 1 > 1)) stBadParam ++
  refuseIf (s.bank m (fld p 1 1)).withdrawn stWrongState ++ refuseIf (!s.hostOwns m (fld p 1 1)) stBankNotOwned

/-- How many bytes a BANK_READ returns: none of a mast that does not serve (R168, R221). -/
def State.readLength (s : State) (p : List Byte) : Nat := if s.serves (Mast.ofCode (fld p 0 1)) then fld p 8 4 else 0

/-- The bytes that a BANK_READ returns (R221): the host port reads them over the bus matrix, which answers zero where it refuses
(R516, R544). -/
def State.bankBytes (s : State) (p : List Byte) : List Byte :=
  let m := Mast.ofCode (fld p 0 1)
  (List.range (s.readLength p)).map (fun k =>
    if s.busAccepts m .hostPort false (bankAddress (fld p 1 1) (fld p 4 4 + k)) then
      cellRead (s.bank m (fld p 1 1)).data (fld p 4 4 + k)
    else 0)

/-- The bursts that the host port makes for a BANK_READ take their path (R542, R543). -/
def State.bankFetch (s : State) (p : List Byte) : State :=
  (coverBursts (bankAddress (fld p 1 1) (fld p 4 4)) (s.readLength p)).foldl
    (fun acc b => acc.grantBurst (Mast.ofCode (fld p 0 1)) .hostPort false b) s

/-- BANK_READ (R221, R518): of a mast that is OUT or JOINING, nothing is returned and OUTCOME is 2 (R168). -/
def execBankRead (h : Hdr) (p : List Byte) (s : State) : Outcome State Fault Refusal :=
  .next <| s.receive h 0x0B02 fun seat s1 =>
    s1.runNow h seat 0x0B02 (p.length == 12) (.readOf (fld p 0 1)) (s1.accessRefusals p) (s1.readLength p) fun s2 => (s2.bankFetch p, s2.bankBytes p)

/-- One write beat of the host port to a bank: its enabled bytes of the data, which start at offset `off`, are stored if the matrix
accepts the beat (R542, R544). -/
def State.bankBeat (s : State) (m : Mast) (n off : Nat) (vs : List Byte) (beat : Nat) : State :=
  if s.busAccepts m .hostPort true (bankAddress n beat) then
    let first := Nat.max off beat
    let b := s.bank m n
    s.setBank m n { b with data := cellsWrite b.data first ((vs.drop (first - off)).take (beat + 16 - first)) }
  else s

/-- One write burst of the host port to a bank: it takes its path, and its beats go in order (R542, R543). -/
def State.bankBurst (s : State) (m : Mast) (n off : Nat) (vs : List Byte) (b : BusBurst) : State :=
  (List.range b.beats).foldl (fun acc i => acc.bankBeat m n off vs (b.start + 16 * i - bankAddress n 0))
    (s.grantBurst m .hostPort true b)

/-- The bytes of a BANK_WRITE go into its bank from its offset on, in bursts of the host port (R221, R542). -/
def State.bankStore (s : State) (p : List Byte) : State :=
  (coverBursts (bankAddress (fld p 1 1) (fld p 4 4)) (fld p 8 4)).foldl
    (fun acc b => acc.bankBurst (Mast.ofCode (fld p 0 1)) (fld p 1 1) (fld p 4 4) (p.drop 12) b) s

/-- BANK_WRITE (R221, R518). -/
def execBankWrite (h : Hdr) (p : List Byte) (s : State) : Outcome State Fault Refusal :=
  .next <| s.receive h 0x0B03 fun seat s1 =>
    s1.runNow h seat 0x0B03 (decide (12 ≤ p.length) && p.length == 12 + fld p 8 4) (.named (fld p 0 1))
      (s1.mastRefusals (fld p 0 1) false ++ s1.accessRefusals p) 0 fun s2 => (s2.bankStore p, [])

/-! ### Spares (R527) -/

/-- Spare columns of a bank that are not free. -/
def MemMast.colSpares (x : MemMast) (memory bank : Nat) : List Nat := x.takenSpares 2 memory bank

/-- The lowest spare column of a bank that is free. -/
def MemMast.freeCol (x : MemMast) (memory bank : Nat) : Option Nat :=
  (List.range 2).find? (fun i => !(x.colSpares memory bank).contains i)

/-- What the assignment of spares to a bank has come to: the map, failing rows and columns found, and the rows that found
no spare. -/
structure Spares where
  mem : MemMast
  fails : Nat
  left : List Nat
  deriving DecidableEq, Repr

/-- Rows of a bank of a memory, its 8 spare rows aside (R512). -/
def rowsPerBank (memory : Nat) : Nat :=
  if memory < 0x20 then 64
  else match memory with
    | 0x21 => 256
    | 0x22 => 8192
    | 0x23 => 384
    | 0x28 => 64
    | 0x29 => 8192
    | 0x2A => 128
    | 0x2B => 64
    | 0x2C => 256
    | 0x2D => 1024
    | 0x2E => 341
    | 0x2F => 128
    | 0x30 => 64
    | _ => 2048

/-- What the map gives a spare of a bank to serve: the row or column of its entry. -/
def MemMast.served (x : MemMast) (typ memory bank spare : Nat) : Option Nat :=
  (x.repair.find? (fun e => e.typ == typ && e.memory == memory && e.bank == bank && e.spare == spare)).map (fun e => e.index)

/-- Assign spare columns, lowest index first, to columns with failing symbols in 3 or more rows. -/
def assignCols (memory bank : Nat) (syms : List SymFail) : List Nat → Spares → List Nat → Spares × List Nat
  | [], x, taken => (x, taken)
  | c :: cs, x, taken =>
    let rows := ((syms.filter (fun f => f.column == c)).map (fun f => f.row)).eraseDups
    match x.mem.freeCol memory bank with
    | some sp =>
      if decide (3 ≤ rows.length) then
        assignCols memory bank syms cs
          { x with mem := x.mem.addRepair 2 memory bank sp c, fails := x.fails + 1 }
          (taken ++ [c])
      else assignCols memory bank syms cs x taken
    | none => assignCols memory bank syms cs x taken

/-- Assign spare rows, lowest first. -/
def assignRows (memory bank : Nat) : List Nat → Spares → Spares
  | [], x => x
  | r :: rs, x =>
    match x.mem.freeRow memory bank with
    | some sp =>
      assignRows memory bank rs
        { x with mem := x.mem.addRepair 1 memory bank sp r, fails := x.fails + 1 }
    | none => assignRows memory bank rs { x with fails := x.fails + 1, left := x.left ++ [r] }

/-- A failing symbol of a spare column, which a march names as column 768 or 769, is one of the column it serves; a spare that serves
none has none left to fail. -/
def MemMast.colOf (x : MemMast) (memory bank column : Nat) : Option Nat :=
  if column < 768 then some column else x.served 2 memory bank (column - 768)

/-- A failing row, where the spare rows of a bank follow its rows: a spare row stands for the row it serves. -/
def MemMast.rowOf (x : MemMast) (memory bank row : Nat) : Option Nat :=
  if row < rowsPerBank memory then some row else x.served 1 memory bank (row - rowsPerBank memory)

/-- The failing symbols of one bank get spares; a preserving march assigns rows only. A spare found failing is marked used, and what
it serves needs another (R527). -/
def assignBank (destroying : Bool) (memory bank : Nat) (syms : List SymFail) (mem : MemMast) : Spares :=
  let found := syms.filter (fun f => f.memory == memory && f.bank == bank)
  let mem1 := (found.filter (fun f => decide (768 ≤ f.column))).foldl (fun x f => x.spend 2 memory bank (f.column - 768)) mem
  let here := found.filterMap (fun f => (mem.colOf memory bank f.column).map (fun c => { f with column := c }))
  let cols := (List.range 768).filter (fun c => here.any (fun f => f.column == c))
  let x0 : Spares := { mem := mem1, fails := 0, left := [] }
  let x1 := if destroying then assignCols memory bank here cols x0 [] else (x0, [])
  let rest := here.filter (fun f => !x1.2.contains f.column)
  let spares := (rest.filter (fun f => decide (rowsPerBank memory ≤ f.row))).map (fun f => f.row - rowsPerBank memory)
  let mem2 := spares.foldl (fun x sp => x.spend 1 memory bank sp) x1.1.mem
  let rows := rest.filterMap (fun f => mem.rowOf memory bank f.row)
  assignRows memory bank ((List.range (rowsPerBank memory)).filter (fun r => rows.contains r)) { x1.1 with mem := mem2 }

/-- Every bank that shows a failing symbol gets spares. The second part counts what was found; the third gives the rows
left unrepaired, by their sites. -/
def assignSpares (destroying : Bool) (syms : List SymFail) (mem : MemMast) : MemMast × Nat × List Nat :=
  let banks := (syms.map (fun f => (f.memory, f.bank))).eraseDups
  banks.foldl (fun (acc : MemMast × Nat × List Nat) b =>
    let r := assignBank destroying b.1 b.2 syms acc.1
    (r.mem, acc.2.1 + r.fails,
      acc.2.2 ++ r.left.map (fun row => 0x30000000 + b.1 * 2 ^ 20 + b.2 * 2 ^ 16 + row))) (mem, 0, [])

/-! ### Marches (R221, R525, R526) -/

/-- The banks that a march target names. -/
def marchMemory (target index : Nat) : Nat :=
  if target = 0 then 0x2C else if target = 1 then index % 32 else if target = 2 then 0x20 else 0x24 + index % 4

/-- Refusals of a march target: its range, a unit the variant lacks, and a unit that QUIET power-gates (R116). -/
def State.marchRefusals (s : State) (target index : Nat) : List Nat :=
  let limit := if target = 0 then 16 else if target = 1 then 32 else if target = 2 then 1 else 4
  refuseIf (decide (target > 3) || decide (index ≥ limit)) stBadParam ++
  refuseIf (decide (index < limit) && ((target = 1 && decide (index ≥ Config.clusters s.variant)) ||
    (target = 3 && !Config.hasVideo s.variant))) stNotPresent ++
  refuseIf (target = 3 && s.md.mode = .quiet) stBadMode

/-- Why a MARCH_RUN is refused (R221, R526). -/
def State.marchRunRefusals (s : State) (p : List Byte) : List Nat :=
  let target := fld p 2 1
  let index := fld p 3 1
  let ms := s.namedServing (fld p 0 1)
  let busy := ms.any (fun m => (s.mem.get m).march.any (fun x => x.target == target && x.index == index) ||
    (target == 0 && s.handovers.any (fun x => x.mast == m && x.bank == index)))
  let bankBad (f : ScratchBank → Bool) : Bool := target == 0 && ms.any (fun m => f (s.bank m index))
  s.mastRefusals (fld p 0 1) true ++ refuseIf (decide (fld p 1 1 > 1)) stBadParam ++ s.marchRefusals target index ++
    refuseIf (fld p 1 1 = 1 && s.md.mode != .maintain) stBadMode ++ refuseIf busy stBusy ++
    refuseIf (bankBad (fun b => b.withdrawn)) stWrongState ++ refuseIf (bankBad (fun b => b.owner = 4)) stBankNotOwned

/-- The march that a MARCH_RUN asks for (R526). -/
def State.marchOf (s : State) (h : Hdr) (seat : Nat) (p : List Byte) : March :=
  { destroying := fld p 1 1 = 1, target := fld p 2 1, index := fld p 3 1, seat := seat, hostSeq := h.hostSeq, startedAt := s.now }

/-- The march starts on the masts named that serve (R526). -/
def State.startMarch (s : State) (h : Hdr) (seat : Nat) (p : List Byte) : State :=
  (s.namedServing (fld p 0 1)).foldl (fun acc m =>
    acc.setMem m { acc.mem.get m with march := (acc.mem.get m).march ++ [s.marchOf h seat p] }) s

/-- MARCH_RUN (R221, R526). -/
def execMarchRun (h : Hdr) (p : List Byte) (s : State) : Outcome State Fault Refusal :=
  .next <| s.receive h 0x0B04 fun seat s1 =>
    s1.runNow h seat 0x0B04 (p.length == 4) (.named (fld p 0 1)) (s1.marchRunRefusals p) 0 fun s2 => (s2.startMarch h seat p, [])

/-- A destroying march leaves the banks it marched wiped (R524, R532). -/
def State.marchWipe (s : State) (m : Mast) (target index : Nat) : State :=
  if target = 0 then (s.wipeBank m index).setBank m index (s.bank m index).wipe
  else if target = 3 then
    let v := s.vid.get m
    (({ s with vid := s.vid.set m { v with slack := v.slack.filter (fun r => r.1 / 384 != index) } } : State)).wipeRows m
      (rowSite (0x24 + index) (0x24 + index))
  else
    let wipe (r : RigRun) : RigRun :=
      if target = 1 then { r with words := r.words.filter (fun w => keyCluster w.1 != index) }
      else { r with lines := r.lines.map (fun l => (l.1, l.2.map (fun _ => 0))) }
    let d := s.dp.get m
    (s.wipeRows m (rowSite (marchMemory target index) (marchMemory target index))).setDp m { d with active := d.active.map wipe, outgoing := d.outgoing.map wipe }

/-- The rows that a march left unrepaired have the consequences of a bank with no spare row left (R499, R526). -/
def State.marchUnrepaired (s : State) (m : Mast) (sites : List Nat) : State :=
  sites.foldl (fun acc x => acc.noSpareRow m x) s

/-- MARCH_DONE (R526, R527): `first` are the failing symbols of the march, `again` those of the second march with the
spares in place, and `still` whether a failure remains after that. -/
def execMarchDone (m : Mast) (target index : Nat) (first again : List SymFail) (still : Bool) (s : State) :
    Outcome State Fault Refusal :=
  .next <|
    match (s.mem.get m).march.find? (fun x => x.target == target && x.index == index) with
    | none => s
    | some x =>
      let y := s.mem.get m
      let s0 := s.setMem m { y with march := y.march.filter (fun z => !(z.target == target && z.index == index)) }
      let s1 := if x.destroying then s0.marchWipe m target index else s0
      let own (l : List SymFail) : List SymFail := l.filter (fun f => f.memory == marchMemory target index &&
        (target != 0 || f.bank == index))
      let r1 := assignSpares x.destroying (own first) (s1.mem.get m)
      let r2 := if x.destroying then assignSpares true (own again) r1.1 else (r1.1, 0, [])
      let left := r1.2.2 ++ r2.2.2
      let fails := r1.2.1 + r2.2.1
      let result := if fails = 0 && !still then 0 else if left.isEmpty && !still then 1 else 2
      ((s1.setMem m r2.1).marchUnrepaired m left).eventTo x.seat m.code evTestDone x.hostSeq s1.step
        (be 1 0 ++ be 1 result ++ be 2 (target * 256 + index % 256) ++ be 4 fails)

/-! ### Loopbacks and test routes -/

/-- Why a LOOPBACK_SET is refused (R221, R399). -/
def State.loopbackRefusals (s : State) (p : List Byte) : List Nat :=
  let l := fld p 2 2
  s.mastRefusals (fld p 0 1) false ++ refuseIf (decide (fld p 1 1 > 2) || decide (l > 191)) stBadParam ++
    refuseIf (decide (l ≤ 191) && !s.lanesPresent.contains l) stNotPresent ++
    refuseIf ((s.lane (Mast.ofCode (fld p 0 1)) l).st = .retired) stWrongState

/-- A lane goes into loopback, or out of it: a near-end one ends with EV_TEST_DONE and its errors, and the lane is brought
up again (R221, R399). -/
def State.setLoopback (s : State) (h : Hdr) (seat : Nat) (m : Mast) (kind l : Nat) : State :=
  let x := s.lane m l
  if kind = 0 then
    if x.loop = 0 then s
    else
      let fails := if x.loop = 1 then x.loopErrors else 0
      let s3 := (s.setLane m l (Lane.powered s.now)).powerLanes m
      s3.eventTo seat m.code evTestDone h.hostSeq s3.step
        (be 1 2 ++ be 1 (if fails = 0 then 0 else 1) ++ be 2 l ++ be 4 fails)
  else (s.setLane m l { x with st := .loopback, loop := kind, loopErrors := 0, los := false, lol := false }).laneLost m l

/-- LOOPBACK_SET (R221, R399). -/
def execLoopbackSet (h : Hdr) (p : List Byte) (s : State) : Outcome State Fault Refusal :=
  .next <| s.receive h 0x0B05 fun seat s1 =>
    s1.runNow h seat 0x0B05 (p.length == 4) (.named (fld p 0 1)) (s1.loopbackRefusals p) 0 fun s2 =>
      (s2.setLoopback h seat (Mast.ofCode (fld p 0 1)) (fld p 1 1) (fld p 2 2), [])

/-- Refusals of an output, or of a source, of a test route: audio channels and logical video ports by their presence (R7). -/
def testPresence (v : Variant) (video : Bool) (i : Nat) : List Nat :=
  if video then videoPresence v i else presence i (Config.audioChannels v) 2048

/-- Refusals of a TEST_ROUTE_SET (R7, R8, R221). -/
def State.testRouteRefusals (s : State) (p : List Byte) : List Nat :=
  let video := fld p 0 1 = 1
  let out := fld p 2 2
  let sig := fld p 4 1
  let src := fld p 6 2
  let uses := if video then sig = 2 else sig = 3
  refuseIf (decide (fld p 0 1 > 1) || decide (fld p 1 1 > 1) || decide (sig > (if video then 2 else 3)) ||
    fld p 5 1 != 0) stBadParam ++
  testPresence s.variant video out ++ (if uses then testPresence s.variant video src else [])

/-- TEST_ROUTE_SET (R221). -/
def execTestRouteSet (h : Hdr) (p : List Byte) (s : State) : Outcome State Fault Refusal :=
  .next <| s.receive h 0x0B06 fun seat s1 =>
    s1.schedule h seat 0x0B06 p (p.length == 8) (s1.testRouteRefusals p) (s1.effectiveStep h) 0 fun s2 => (s2, [])

/-- Apply a TEST_ROUTE_SET (R124, R221): the output leaves its safe state, or returns to it. -/
def State.applyTestRoute (s : State) (c : SchedCmd) (_ms : List Mast) : State × Nat :=
  let p := c.payload
  let r : TestRoute := { cls := fld p 0 1, output := fld p 2 2, signal := fld p 4 1, src := fld p 6 2 }
  let rest := s.tests.filter (fun x => !(x.cls == r.cls && x.output == r.output))
  ({ s with tests := if bit (fld p 1 1) 0 then rest ++ [r] else rest }, stOk)

/-! ### The repair map (R530) -/

/-- The order of repair map items: by memory, bank, rows before columns, index. -/
def RepairEntry.key (e : RepairEntry) : Nat := ((e.memory * 16 + e.bank) * 4 + e.typ) * 65536 + e.index

/-- Put an entry in its place. -/
def insertRepair (e : RepairEntry) : List RepairEntry → List RepairEntry
  | [] => [e]
  | f :: rest => if e.key < f.key then e :: f :: rest else f :: insertRepair e rest

/-- Entries in the order of R530. -/
def sortRepairs (l : List RepairEntry) : List RepairEntry := l.foldl (fun acc e => insertRepair e acc) []

/-- One item of 16 bytes (R221, R530). -/
def RepairEntry.bytes (e : RepairEntry) : List Byte :=
  be 2 (e.bank * 4096 + e.memory) ++ be 2 e.index ++ be 2 ((if e.typ = 2 then 32768 else 0) + e.spare) ++
  be 1 (if e.pending then 1 else if e.inOtp && e.inNest then 2 else 0) ++ zeros 9

/-- The pages of the repair map of each mast that serves (R183, R184, R530). -/
def State.repairPage (s : State) (h : Hdr) (p : List Byte) : List Byte :=
  let fitting := s.fitting h (8 + 8 * s.serving) (16 * Nat.max 1 s.serving)
  s.perMast (fun m =>
    let l := sortRepairs ((s.mem.get m).repair.filter (fun e => e.typ != 3))
    pageBytes (fld p 0 4) (fld p 4 2) fitting l.length (fun i => ((l[i]?).map RepairEntry.bytes).getD []))

/-- REPAIR_MAP_READ (R221, R530). -/
def execRepairMapRead (h : Hdr) (p : List Byte) (s : State) : Outcome State Fault Refusal :=
  .next <| s.receive h 0x0B07 fun seat s1 =>
    s1.runNow h seat 0x0B07 (p.length == 8) .perMast (pageRefusals p 0) (8 + 8 * s1.serving) fun s2 =>
      (s2, s2.repairPage h p)

/-! ### The fallback memory (R522, R580) -/

/-- The alert signal that a mast's flash holds for the profile: the copy whose hash is ALERT_HASH (R580). -/
def State.alertFor (s : State) (m : Mast) (hash : List Byte) : Option (List Byte) :=
  let f := s.sec.flash.get m
  [f.alert0, f.alert1].find? (fun a => !a.isEmpty && decide (fit 48 (Config.sha384 a) = hash))

/-- FALLBACK_MEMORY_CHECK (R522): a failing memory is reloaded from flash; source 0x98 where the reload fails too. -/
def execFallbackMemoryCheck (m : Mast) (passed reloadPassed : Bool) (s : State) : Outcome State Fault Refusal :=
  .next <|
    if passed || !s.mastOn m then s
    else
      let alert := match s.sec.profile with
        | some p => s.alertFor m p.alertHash
        | none => none
      let s1 := s.setMem m { s.mem.get m with alert := alert }
      if reloadPassed then s1 else s1.report m 0x98 0x32E00000

end Sys2Proof.Machine
end

