-- ==== Sys2Proof/Machine/Modes.lean ====
section
/-! DEFINITION. Group 0x03 and what the modes do by themselves: MODE_SET, RESET, WATCH and its wake, shedding on battery
(R97 to R126, R192 to R194, R605). -/
namespace Sys2Proof.Machine
open Host

/-! ### MODE_GET and MODE_SET -/

/-- MODE_GET (R192). -/
def execModeGet (h : Hdr) (p : List Byte) (s : State) : Outcome State Fault Refusal :=
  .next <| s.receive h 0x0301 fun seat s1 =>
    s1.runNow h seat 0x0301 (p.length == 0) .package [] 12 fun s2 =>
      (s2, be 1 s2.md.mode.code ++ be 1 s2.md.base.code ++ be 1 (b01 s2.md.onBatt.a + 2 * b01 s2.md.onBatt.b) ++
        be 1 (b01 s2.md.shed.inForce) ++ be 8 s2.md.modeStep)

/-- The transitions that MODE_SET may ask for (R100, R102, R126). -/
def modeAllowed (cur target : Mode) : Bool :=
  decide (cur = target) ||
  (match cur, target with
   | .watch, .quiet => true
   | .watch, .service => true
   | .quiet, .service => true
   | .quiet, .watch => true
   | .quiet, .maintain => true
   | .service, .quiet => true
   | .service, .watch => true
   | .service, .maintain => true
   | .maintain, .quiet => true
   | .maintain, .service => true
   | _, _ => false)

/-- A target that an active zone keeps MODE_SET from (R101, R118, R123). -/
def calmOnly (t : Mode) : Bool := t == .watch || t == .maintain

/-- Refusals of a MODE_SET (R193). -/
def State.modeRefusals (s : State) (seat : Nat) (p : List Byte) : List Nat :=
  match Mode.ofCode (fld p 0 1) with
  | none => [stBadParam]
  | some t =>
    refuseIf (fld p 1 3 != 0) stBadParam ++
    refuseIf (t = .maintain && ((s.seat seat).role == 2 || (s.seat seat).role == 3)) stRoleDenied ++
    refuseIf (!modeAllowed s.md.mode t) stBadMode ++
    refuseIf (calmOnly t && t != s.md.mode && s.zoneActive) stAlarmActive

/-- MODE_SET (R193). -/
def execModeSet (h : Hdr) (p : List Byte) (s : State) : Outcome State Fault Refusal :=
  .next <| s.receive h 0x0302 fun seat s1 =>
    s1.schedule h seat 0x0302 p (p.length == 4) (s1.modeRefusals seat p) (s1.effectiveStep h) 0 fun s2 => (s2, [])

/-- Entry to WATCH (R118, R266, R287): every audio output fades to zero over 5 ms; the standby slot empties, and a tack
ends unfinished with its outgoing rig. -/
def State.enterWatch (s : State) : State :=
  let s1 := s.gateVideo .gate
  let s2 := match s1.rigs.state, s1.rigs.plan with
    | .tacking, some p =>
      { s1.tackDone p 0xFF with dp := s1.dp.map (fun d => { d with active := d.outgoing, outgoing := none }) }
    | _, _ => s1
  let s3 := s2.emptyStandby.enterMode .watch s2.md.base 0
  { s3 with md := { s3.md with watchFadeEnd := some (s3.step + s3.msSteps 5) } }

/-- Entry to MAINTAIN (R123, R124): outputs take their safe state, and the crosspoint shows it. -/
def State.enterMaintain (s : State) : State := ((s.enterMode .maintain s.md.base 0).powerVideo).settle

/-- MAINTAIN ends by MODE_SET (R126, R534): every datapath memory is wiped, and slots and crosspoint are cleared. -/
def State.leaveMaintain (s : State) (t : Mode) : State :=
  let s1 := s.abortMarches.emptySlots
  let s2 := { s1 with tests := [], md := { s1.md with mode := t } }
  let s3 := ({ s2 with md := { s2.md with base := t } } : State).wipeServers
  let s4 := { s3 with md := { s3.md with mode := .maintain } }
  (s4.enterMode t t 0).settle

/-- WATCH to QUIET or SERVICE (R100, R113): the mode changes at once, and the dies start at the wake step. -/
def State.leaveWatch (s : State) (t : Mode) : State :=
  let s1 := match s.md.watchFadeEnd with
    | some _ => ((s.gateDies .a).gateDies .b).emptySlots
    | none => s
  let s2 := s1.enterMode t t 0
  let w : Wake := { triggerAt := s2.now, triggerStep := s2.step, lateA := false, lateB := false }
  ({ s2 with md := { s2.md with watchFadeEnd := none, wake := some w } } : State).settle

/-- A permitted transition happens (R97 to R102). -/
def State.changeMode (s : State) (t : Mode) : State :=
  if s.md.mode = t then s
  else match s.md.mode, t with
    | .watch, _ => s.leaveWatch t
    | .maintain, _ => s.leaveMaintain t
    | _, .watch => s.enterWatch
    | _, .maintain => s.enterMaintain
    | _, .service => ((s.enterMode .service .service 0).powerVideo).settle
    | _, .quiet => ((s.gateVideo .gate).enterMode .quiet .quiet 0).settle
    | _, _ => s

/-- EV_MODE_REFUSED to the seat of a MODE_SET (R101, R227, R228). -/
def State.modeRefused (s : State) (c : SchedCmd) : State :=
  s.eventTo c.seat 2 evModeRefused c.hostSeq s.step (be 1 c.seat ++ be 1 (fld c.payload 0 1) ++ zeros 2 ++ be 4 c.hostSeq)

/-- Apply a MODE_SET at its effective step (R100, R101, R172). A status other than 0 drops it; a refusal under R101 has
been reported here. -/
def State.applyModeSet (s : State) (c : SchedCmd) (_ms : List Mast) : State × Nat :=
  match Mode.ofCode (fld c.payload 0 1) with
  | none => (s, stBadParam)
  | some t =>
    if s.hal.sched.any (fun x => x.code == 0x0302 && x.effStep == c.effStep && decide (c.order < x.order)) then
      (s.modeRefused c, stOk)
    else if calmOnly t && (c.aux = 1 || s.md.mode = .alarm || s.zoneActive) && s.md.mode != t then (s.modeRefused c, stOk)
    else if s.md.mode = .alarm then (s, stAlarmActive)
    else if !modeAllowed s.md.mode t then (s, stBadMode)
    else (s.changeMode t, stOk)

/-! ### RESET -/

/-- Why a RESET is refused (R194): a Captain that runs alone is not reset by itself. -/
def State.resetRefusals (s : State) (p : List Byte) : List Nat :=
  let scope := fld p 0 1
  let solo := decide (0 < scope) && decide (scope < 3) && s.isCaptain (Mast.ofCode (scope - 1)) && !s.inTandem
  refuseIf (decide (scope > 2) || fld p 1 3 != 0) stBadParam ++ refuseIf solo stNotTandem

/-- RESET (R194). -/
def execReset (h : Hdr) (p : List Byte) (s : State) : Outcome State Fault Refusal :=
  .next <| s.receive h 0x0303 fun seat s1 =>
    s1.schedule h seat 0x0303 p (p.length == 4) (s1.resetRefusals p) (s1.effectiveStep h) 0 fun s2 => (s2, [])

/-- A mast reset asked for by a command or a reset ball (R131): the Captain in Tandem first yields its role. -/
def State.askedReset (s : State) (m : Mast) (kind : Nat) : State :=
  if s.isCaptain m then
    if s.inTandem then
      let s1 := s.yieldRole m false 0xFFFF
      { s1 with tan := { s1.tan with resetCause := s1.tan.resetCause.set m (some kind) } }
    else s.noCaptain
  else (s.mastReset m kind).settleLead

/-- Apply a RESET at its effective step (R131, R194). -/
def State.applyReset (s : State) (c : SchedCmd) (_ms : List Mast) : State × Nat :=
  let scope := fld c.payload 0 1
  if scope = 0 then (s.packageReset 3 false, stOk)
  else
    let m := Mast.ofCode (scope - 1)
    if s.isCaptain m && !s.inTandem then (s, stNotTandem) else (s.askedReset m 5, stOk)

/-! ### WATCH and its wake -/

/-- WATCH_FADE_END (R118): the dies are power-gated, and the active slot is EMPTY. -/
def execWatchFadeEnd (s : State) : Outcome State Fault Refusal :=
  .next <|
    match s.md.watchFadeEnd with
    | some e =>
      if s.md.mode != .watch || decide (s.step + 1 < e) then s
      else s.atStep (s.step + 1) (fun x =>
        let s1 := ((x.emptySlots).gateDies .a).gateDies .b
        ({ s1 with md := { s1.md with watchFadeEnd := none } } : State).settle)
    | none => s

/-- WAKE_STEP (R113, R117): W, named at least 4 steps ahead; both masts start from the same wiped state, and digests are
compared from W. -/
def execWakeStep (s : State) : Outcome State Fault Refusal :=
  .next <|
    match s.md.wake with
    | some w =>
      if s.md.mode = .watch || decide (s.step + 1 < w.triggerStep + 4) then s
      else s.atStep (s.step + 1) (fun x =>
        let s2 := (x.mapsAtWake .a).mapsAtWake .b |>.startServers.restartOverlays
        let s3 : State := { s2 with md := { s2.md with wake := none } }
        (s3.followFallback .a).followFallback .b)
    | none => s

/-- LATE_WAKE (R115): 120 ms after the trigger the mast has not computed W; its fallback outputs play. -/
def execLateWake (m : Mast) (s : State) : Outcome State Fault Refusal :=
  .next <|
    match s.md.wake with
    | some w =>
      let done := if m = .a then w.lateA else w.lateB
      if done || s.md.mode != .alarm || !s.serves m || decide (s.now < w.triggerAt + 120 * Config.msec) then s
      else
        let w1 : Wake := if m = .a then { w with lateA := true } else { w with lateB := true }
        let s1 : State := { s with md := { s.md with wake := some w1 } }
        (s1.followFallback m).report m 0x86 0xC0000000
    | none => s

/-! ### Battery (R121, R122, R605) -/

/-- ON_BATT_CHANGE (R121, R122, R605): a level that has held for 10 ms. -/
def execOnBattChange (m : Mast) (level : Bool) (s : State) : Outcome State Fault Refusal :=
  .next <|
    if s.md.mode = .vault || !s.mastOn m || s.md.onBatt.get m = level then s
    else
      let s1 : State := { s with md := { s.md with onBatt := s.md.onBatt.set m level } }
      if level then
        let s2 : State := { s1 with md := { s1.md with battAt := s1.now } }
        if s2.md.mode = .alarm then s2.planShed
        else s2.event 2 evOnBattery (be 1 (b01 s2.md.onBatt.a + 2 * b01 s2.md.onBatt.b) ++ zeros 3)
      else if s1.onBattery then s1
      else
        { s1 with md := { s1.md with
            shed := { s1.md.shed with
              lowSince := s1.now
              shedAt := if s1.md.shed.inForce then s1.md.shed.shedAt else none } } }

/-- Mix regions that the rigs in use mark as non-alarm (R121). -/
def State.shedRegions (s : State) : Nat :=
  let all := 2 ^ Config.mixRegions s.variant - 1
  match (s.leadDp).rigsRun with
  | [] => 0
  | rs => all - rs.foldl (fun acc r => acc ||| (r.alarmRegions &&& all)) 0

/-- Lane pairs with power on the lead mast, of those that media use. -/
def State.poweredLanes (s : State) : Nat :=
  ((List.range 192).filter (fun l =>
    let x := s.lane s.lead l
    x.st != .unpowered && x.st != .retired)).length

/-- SHED_STEP (R121): at the step the Captain has assigned. The event names the regions whose power islands have opened (R455). -/
def execShedStep (s : State) : Outcome State Fault Refusal :=
  .next <|
    match s.md.shed.shedAt with
    | some e =>
      if s.md.shed.inForce || s.md.mode != .alarm || decide (s.step + 1 < e) then s
      else (s.flagFollower e).atStep (s.step + 1) (fun x =>
        let regions := x.shedRegions
        let before := x.poweredLanes
        let video := x.videoRuns
        let s1 : State := { x with md := { x.md with shed := { x.md.shed with inForce := true, mixRegions := regions, video := true } } }
        let s2 := (if video then s1.gateVideo .shed else s1).settle
        let lanes := before - s2.poweredLanes
        let opened := (List.range 4).foldl (fun n g => if bit regions g && !s2.gateHeld s2.lead g then n + 2 ^ g else n) 0
        let s3 : State := { s2 with md := { s2.md with shed := { s2.md.shed with lanePairs := lanes } } }
        s3.event 2 evShed (be 1 opened ++ be 1 (b01 video) ++ be 2 lanes))
    | none => s

/-- Whether a bank word lies in a shed region. -/
def keyShed (key regions : Nat) : Bool := bit regions (keyCluster key / 8)

/-- A ramp that shedding has held completes at its target (R122). -/
def RigRun.finishShed (r : RigRun) (regions : Nat) : RigRun :=
  { r with ramps := r.ramps.map (fun x => if keyShed x.key regions then { x with fade := .const x.fade.u1 } else x) }

/-- RESTORE_STEP (R122): shed units resume, and their outputs fade in over 5 ms. -/
def execRestoreStep (s : State) : Outcome State Fault Refusal :=
  .next <|
    match s.md.shed.restoreAt with
    | some e =>
      if !s.md.shed.inForce || decide (s.step + 1 < e) then s
      else (s.flagFollower e).atStep (s.step + 1) (fun x =>
        let old := x.md.shed
        let s1 : State := { x with
          dp := x.dp.map (fun d => { d with active := d.active.map (fun r => r.finishShed old.mixRegions)
                                            outgoing := d.outgoing.map (fun r => r.finishShed old.mixRegions) })
          md := { x.md with shed := { Shed.none with mixRegions := old.mixRegions, fadeFrom := some x.step } } }
        let s2 := match s1.rigs.state, s1.rigs.plan, old.shedAt with
          | .tacking, some p, some t => if old.mixRegions != 0 && decide (p.step ≤ t) then s1.finishTack p else s1
          | _, _, _ => s1
        let s3 := if s2.videoRuns then s2.resumeVideo else s2
        (s3.settle).event 2 evShed (be 1 old.mixRegions ++ be 1 (b01 old.video + 2) ++ be 2 old.lanePairs))
    | none => s

end Sys2Proof.Machine
end

