-- ==== Sys2Proof/Machine/Joins.lean ====
section
/-! DEFINITION. Joining, the settling of roles, seats as the profile gives them (R47, R70 to R75, R153, R557, R564). -/
namespace Sys2Proof.Machine

/-! ### Joining -/

/-- The rigs that run place no work on a cluster that a mast has lost (R28). -/
def State.rigFits (s : State) (m : Mast) : Bool :=
  (List.range (Config.clusters s.variant)).all (fun c => !bit (s.clustersOut m) c || !s.clusterUsed m.other c)

/-- A mast that is OUT can be brought into step: it has booted, a Captain runs, the Stay link is up, and nothing holds it
OUT (R47, R70, R74, R85, R491). -/
def State.mayJoin (s : State) (m : Mast) : Bool :=
  s.tst m == .out && s.tst m.other == .captain && s.tan.stay.up && s.mastOn m && !(s.sup.get m).hot && (s.md.boot.get m).phase == 0 &&
  !s.tan.barred.get m && s.md.mode.led && s.tan.join.isNone

/-- It can be brought into step, and the rig fits what it has (R28, R80). -/
def State.canJoin (s : State) (m : Mast) : Bool := s.mayJoin m && s.rigFits m

/-- Whether a mast waits for a rig that fits it (R28). -/
def State.setWaits (s : State) (m : Mast) (v : Bool) : State :=
  { s with tan := { s.tan with waitsRig := s.tan.waitsRig.set m v } }

/-- A mast that joins from BOOT counts captured frames on from the Captain's counts, from a port's common start (R55, R70). -/
def AudioMast.joinCounts (own c : AudioMast) : AudioMast :=
  { own with
    sent := []
    aesIn := (List.range own.aesIn.length).map (fun i =>
      { atD own.aesIn i .reset with frames := (atD c.aesIn i .reset).frames, caps := [] })
    sdi := c.sdi.map (fun e => (e.1, { own.sdi.getD e.1 .reset with
      inGroups := e.2.inGroups, outGroups := e.2.outGroups, frames := e.2.frames, caps := [] })) }

/-- A mast starts a join: JOINING, its outputs as R45 says, its copy from the first pass (R70, R71). -/
def State.beginJoin (s : State) (m : Mast) (preload : Bool) (attempts : Nat) : State :=
  let j : Join := { mast := m, preload := preload, decision := s.step, slowAt := none, pass := 0, attempts := attempts, joinStep := none, joined := false }
  let s1 := s.setTst m .joining
  let s2 : State :=
    { s1 with tan := { s1.tan with join := some j }
              aud := if preload then s1.aud.set m ((s1.aud.get m).joinCounts (s1.aud.get m.other)) else s1.aud
              hal := { s1.hal with sched := s1.hal.sched.map (fun c => { c with stokerHolds := false }) } }
  s2.settle

/-- A mast enters JOINING, unless it has done so more than 4 times within 60 s: then source 0xA1, and 60 s OUT (R75). -/
def State.enterJoining (s : State) (m : Mast) (preload : Bool) : State :=
  let times := ((s.tan.joinTimes.get m).filter (fun t => decide (s.now < t + 60 * Config.second))) ++ [s.now]
  let s1 : State := { s with tan := { s.tan with joinTimes := s.tan.joinTimes.set m times } }
  if decide (times.length > 4) && (s.tan.heldUntil.get m).isNone then
    let s2 : State :=
      { s1 with tan := { s1.tan with heldUntil := s1.tan.heldUntil.set m (some (s1.now + 60 * Config.second)) } }
    (s2.setTst m .out).report m 0xA1 0
  else
    ({ s1 with tan := { s1.tan with heldUntil := s1.tan.heldUntil.set m none } } : State).beginJoin m preload 0

/-- A mast that has just booted, or may join again, enters JOINING where it can; it waits where the rig that runs does not fit
it (R28). -/
def State.joinIfAble (s : State) (m : Mast) (preload : Bool) : State :=
  let held := match s.tan.heldUntil.get m with
    | some t => decide (s.now < t)
    | none => false
  if !s.mayJoin m || held then s
  else if s.rigFits m then (s.setWaits m false).enterJoining m preload
  else s.setWaits m true

/-- A mast that waits for a rig that fits it joins once one runs (R28). -/
def State.rejoinFit (s : State) (m : Mast) : State :=
  if s.tan.waitsRig.get m && s.rigFits m then s.joinIfAble m false else s

/-! ### Seats (R153, R162, R557, R564) -/

/-- The SEAT items in force: the profile's, or the provisional seats of the lifecycle state. -/
def State.seatItems (s : State) (p : Option Profile) : List SeatItem :=
  let prov (seat role : Nat) : SeatItem :=
    { seat := seat, role := role, prioLimit := 7, eventMask := 0x3FFE, certHash := [] }
  if s.sec.lifecycle = 4 then []
  else match p with
    | some q => q.seats
    | none => if s.sec.lifecycle = 1 then [prov 0 4, prov 1 1] else [prov 0 4, prov 1 5, prov 2 1]

/-- Bring one seat to its item. A changed or withdrawn seat closes its session with cause PROFILE, loses its ledger and
restarts its sequences; an unchanged one keeps them and its EVENT_MASK (R564). -/
def State.installSeat (s : State) (items : List SeatItem) (n : Nat) : State :=
  let st := s.seat n
  match items.find? (fun x => x.seat == n) with
  | some x =>
    if st.role = x.role && st.certHash = x.certHash then s.setSeat n { st with prioLimit := x.prioLimit }
    else
      let s1 := s.closeWhere (fun y => y.seat == n) 5
      s1.setSeat n
        { (s1.seat n).restart with role := x.role, prioLimit := x.prioLimit, certHash := x.certHash, eventMask := x.eventMask }
  | none =>
    if st.role = 0 then s
    else (s.closeWhere (fun y => y.seat == n) 5).setSeat n SeatState.none

/-- Bring every seat to its item. -/
def State.installSeats (s : State) (p : Option Profile) : State :=
  (List.range 8).foldl (fun acc n => acc.installSeat (s.seatItems p) n) s

end Sys2Proof.Machine
end

