-- ==== Sys2Proof/Machine/Boot.lean ====
section
/-! DEFINITION. Power, resets and the boot sequence (R97 to R111, R130 to R137, R514, R533, R537, R539, R573, R575,
R580, R626). -/
namespace Sys2Proof.Machine
open Host

/-- Change the start-up state of a mast. -/
def State.setBoot (s : State) (m : Mast) (b : BootState) : State :=
  { s with md := { s.md with boot := s.md.boot.set m b } }

/-! ### Power -/

/-- Main power is gone: only the crow's nest contents, OTP and external flash survive (R130, R134, R137). -/
def State.losePower (s : State) : State :=
  let s1 := s.wipePackage true
  { s1 with
    hal := { s1.hal with seats := s1.hal.seats.map SeatState.restart, sessions := [], sched := [], loads := [],
                         rampDefault := 5, rampDefaults := []
                         lockoutReport := s1.hal.lockoutReport || decide (s.md.mode = .lockout) }
    port := .same .reset
    flt := .same .reset
    ctr := .same .reset
    snap := .reset
    tan := Tandem.reset
    sup := .same .reset
    alarm := { s1.alarm with tests := [], messages := s1.alarm.messages.map (fun x => { x with writing := false }) }
    sec := { s1.sec with writes := [], heldOtp := [], engineReset := false }
    md := { ModeState.reset with mode := .vault, bootCount := s1.md.bootCount, nest := s1.md.nest } }

/-- MAIN_POWER_LOSS (R130): VNEST has been below its reset level on both masts for 50 ms. -/
def execMainPowerLoss (s : State) : Outcome State Fault Refusal :=
  .next <|
    match s.md.vnestLow.a, s.md.vnestLow.b with
    | some x, some y => if Nat.max x y + 50 * Config.msec ≤ s.now then s.losePower else s
    | _, _ => s

/-- The rails of a mast are back: none is below its reset level. -/
def State.railsGood (s : State) (m : Mast) : State :=
  let x := s.sup.get m
  s.setSup m { x with rails := x.rails.map (fun r => if r.inReset then { r with inReset := false, low := false } else r) }

/-- POWER_GOOD (R100, R105, R131, R626): a mast boots from its own power-good; a held reset ball, a die that must cool, or a
BOOT that has failed for good keeps it waiting. -/
def execPowerGood (m : Mast) (s : State) : Outcome State Fault Refusal :=
  .next <|
    if (s.md.boot.get m).powerGood then s
    else
      let s0 := if s.md.mode = .vault then s.packageReset 1 true else s
      let s1 := s0.railsGood m
      let s2 : State := { s1 with md := { s1.md with vnestLow := s1.md.vnestLow.set m none } }
      let b := s2.md.boot.get m
      let runs := !b.held && !b.failed && !(s2.sup.get m).hot && s2.md.mode != .lockout
      (s2.setAlive m true).setBoot m { b with powerGood := true, phase := if runs then 1 else 0, startedAt := s2.now, watchdogAt := s2.now }

/-! ### Boot phases (R106) -/

/-- A report held until the first session opens (R107, R135). -/
def State.holdReport (s : State) (m : Mast) (src : Nat) : State :=
  let f := s.fl m
  s.setFl m { f with held := f.held ++ [(src, 0)] }

/-- A mast fails BOOT (R109): one retry, then OUT; both failing is bare poles. -/
def State.bootFail (s : State) (m : Mast) : State :=
  let b := s.md.boot.get m
  if !b.retried then s.mastReset m 9
  else
    let s1 := (s.setBoot m { b with phase := 0, failed := true, ready := false }).gateDies m
    let s2 : State := { s1 with md := { s1.md with elect := s.reelect m } }
    let gone := (s.md.boot.get m.other).failed || s.tan.barred.get m.other
    if gone && s2.md.mode = .boot then s2.report m 0xA3 0 else s2

/-- Phase A: the crow's nest, blank or not (R106, R135). -/
def State.phaseA (s : State) (m : Mast) (f : BootFacts) : State :=
  let b := s.md.boot.get m
  if !b.powerOn || !(f.nestBlank || s.md.nest.blank) then s
  else
    let first := decide ((s.md.boot.get m.other).phase ≤ 1)
    let s1 : State :=
      if first then
        let e : ResetEntry := { cause := 10, mast := 2, bootCount := s.md.bootCount, rtc := 0 }
        { s with
          md := { s.md with nest := { Nest.lost with resets := [e], blank := false } }
          mem := s.mem.map (fun x => { x with repair := (x.repair.filter (fun r => r.inOtp)).map (fun r => { r with inNest := true }) }) }
      else s
    s1.holdReport m 0x96

/-- Phase A checks the tamper state: a trip in VAULT is reported with the lockout record that it has left (R106, R130, R134). -/
def State.phaseTamper (s : State) : State :=
  if s.md.nest.tamper then
    { s with hal := { s.hal with lockoutReport := s.hal.lockoutReport || s.md.nest.lockout.valid }
             md := { s.md with nest := { s.md.nest with tamper := false } } }
  else s

/-- Phase B applies the repair map; a disagreement is reported once the first session opens (R106, R107). -/
def State.phaseB (s : State) (m : Mast) : State :=
  let x := s.mem.get m
  let s1 := s.setMem m x.unionMaps
  if x.mapsDisagree then s1.holdReport m 0x95 else s1

/-- Repairs of a boot march (R107, R109, R527, R529): spares as a destroying march gives them. The second part: whether the
mast fails BOOT, for a fault of the Lane die or of a memory that every Mix region needs. -/
def State.bootRepair (s : State) (m : Mast) (f : BootFacts) : State × Bool :=
  let r := assignSpares true f.fails (s.mem.get m)
  let s1 := s.setMem m r.1
  let fatal (site : Nat) : Bool :=
    let id := bitsOf site 25 20
    decide (0x2A ≤ id) || (decide (0x20 ≤ id) && decide (id < 0x24))
  if f.still || r.2.2.any fatal then (s1, true)
  else (r.2.2.foldl (fun acc site => acc.noSpareRow m site) s1, false)

/-- MAC units that the check vectors of phase F find failing (R106, R231). -/
def State.bootUnits (s : State) (m : Mast) (f : BootFacts) : State :=
  f.units.foldl (fun acc u => acc.unitFailed m (0x10000000 + u / 32 * 256 + u % 32)) s

/-- A profile copy that checks 2 to 4 of R571 accept, with "at least the floor" (R573). -/
def State.copyValid (s : State) (bad : Bool) (p : Option Profile) : Option Profile :=
  p.filter (fun x => !bad && decide (x.deviceCertHash = s.certHash) && decide (s.sec.profileSeqs.foldl Nat.max 0 ≤ x.seq))

/-- The profile copy that a mast takes: the valid one with the higher PROFILE_SEQ; 2 stands for none (R573). -/
def State.chooseProfile (s : State) (m : Mast) (f : BootFacts) : Nat × Option Profile :=
  let x := s.sec.flash.get m
  match s.copyValid f.badProfile0 x.profile0, s.copyValid f.badProfile1 x.profile1 with
  | some p, some q => if p.seq < q.seq then (1, some q) else (0, some p)
  | some p, none => (0, some p)
  | none, some q => (1, some q)
  | none, none => (2, none)

/-- The profile copy in use on a mast. -/
def FlashState.profile (x : FlashState) : Option Profile :=
  if x.profileUsed = 0 then x.profile0 else if x.profileUsed = 1 then x.profile1 else none

/-- The firmware slot in use on a mast. -/
def FlashState.firmware (x : FlashState) : Option FwImage := if x.fwBooted = 0 then x.fw0 else x.fw1

/-- Change the flash of a mast. -/
def State.setFlash (s : State) (m : Mast) (x : FlashState) : State :=
  { s with sec := { s.sec with flash := s.sec.flash.set m x } }

/-- Roles of BOOT are still open: no Captain runs and none has been settled. -/
def State.unsettled (s : State) : Bool := s.md.mode == .boot && s.md.elect.isNone

/-- Phase D: the profile's alarm sections, the alert signal, alarm-input supervision and the fallback player (R106, R573,
R580). A reset that keeps main power verifies the fallback memory in place; a package reset reloads it where its hash differs from
ALERT_HASH. -/
def State.phaseD (s : State) (m : Mast) (f : BootFacts) : State :=
  let c := if s.sec.lifecycle = 4 then (2, none) else s.chooseProfile m f
  let x := s.sec.flash.get m
  let s1 := s.setFlash m { x with profileUsed := c.1 }
  let s2 : State := if s1.unsettled then { s1 with sec := { s1.sec with profile := c.2 } } else s1
  let b := s2.md.boot.get m
  let s3 := s2.setBoot m { b with fallbackReady := true }
  match c.2 with
  | none => s3.setMem m { s3.mem.get m with alert := none }
  | some p =>
    let cur := (s3.mem.get m).alert
    let kept := !b.powerOn && (!b.package || cur.elim false (fun d => decide (fit 48 (Config.sha384 d) = p.alertHash)))
    let a := if kept then cur else s3.alertFor m p.alertHash
    let y := s3.sec.flash.get m
    let used := if a == some y.alert0 then 0 else if a == some y.alert1 then 1 else y.alertUsed
    let s4 := (s3.setMem m { s3.mem.get m with alert := a }).setFlash m { y with alertUsed := used }
    if a.isNone && !kept then s4.report m 0x98 0x32E00000 else s4

/-- The firmware slot that secure boot takes (R575). -/
def State.chooseFirmware (s : State) (m : Mast) (f : BootFacts) : Option (Nat × FwImage) :=
  let x := s.sec.flash.get m
  let ok (bad : Bool) (i : Option FwImage) : Option FwImage :=
    i.filter (fun y => y.good && !bad && decide (s.sec.rollback ≤ y.rollback))
  match ok f.badFw0 x.fw0, ok f.badFw1 x.fw1 with
  | some p, some q => if p.version < q.version then some (1, q) else some (0, p)
  | some p, none => some (0, p)
  | none, some q => some (1, q)
  | none, none => none

/-- Phase E: secure boot; it fails where neither slot qualifies. At its end the boot ROM sets REMAP, if it has not yet
(R106, R539, R575). -/
def State.phaseE (s : State) (m : Mast) (f : BootFacts) : State × Bool :=
  match s.chooseFirmware m f with
  | none => (s, true)
  | some c =>
    let x := s.sec.flash.get m
    let s1 := s.setFlash m { x with fwBooted := c.1 }
    let b := s1.md.boot.get m
    let s2 := s1.setBoot m { b with firmwareOk := true, remap := true }
    ({ s2 with sec := { s2.sec with
        rollback := Nat.max s2.sec.rollback c.2.rollback
        identityKey := decide (s2.sec.lifecycle != 4)
        fwVersion := if s2.unsettled then c.2.version else s2.sec.fwVersion } }, false)

/-- What R575 compares of two masts: FW_VERSION, ROLLBACK and PROFILE_HASH. -/
def State.imageOf (s : State) (m : Mast) : Nat × Nat × List Byte :=
  let x := s.sec.flash.get m
  ((x.firmware.elim 0 (fun i => i.version)), (x.firmware.elim 0 (fun i => i.rollback)),
    (x.profile.elim [] (fun p => p.hash)))

/-- The Captain's images reach a mast that differs; it writes them to its own flash and resets (R575). -/
def State.resync (s : State) (m : Mast) : State :=
  let own := s.sec.flash.get m
  let src := s.sec.flash.get m.other
  let x := if own.fwBooted = 0 then { own with fw1 := src.firmware } else { own with fw0 := src.firmware }
  let y := if x.profileUsed = 0 then { x with profile1 := src.profile } else { x with profile0 := src.profile }
  let s1 := (s.setFlash m y).mastReset m 11
  s1.setBoot m { s1.md.boot.get m with resynced := true }

/-- The mast that is Captain, or is settled to become it. -/
def State.bootCaptain (s : State) : Option Mast := if s.md.mode = .boot then s.md.elect else s.captain

/-- The step counter starts from the RTC in seconds where it is valid, and at 0 otherwise (R428): what already names a step
keeps its distance from the present. -/
def State.renumber (s : State) : State :=
  let n := if s.md.nest.rtcValid then s.md.nest.rtc * s.rate else 0
  let move (k : Nat) : Nat := n + k - s.step
  { s with
    step := n
    md := { s.md with modeStep := move s.md.modeStep }
    alm := s.alm.map (fun a => { a with playFrom := a.playFrom.map move
                                        assigned := a.assigned.map (fun x => { x with step := move x.step }) }) }

/-- A mast is settled to become CAPTAIN: its firmware and profile are the package's (R47), and TB_0's time starts (R428). -/
def State.electMast (s0 : State) (m : Mast) : State :=
  let x := s0.sec.flash.get m
  let s := ({ s0 with sec := { s0.sec with profile := x.profile } } : State).renumber
  { s with
    md := { s.md with elect := some m }
    sec := { s.sec with profile := x.profile, fwVersion := x.firmware.elim s.sec.fwVersion (fun i => i.version) } }

/-- Phase H: roles are settled (R47, R106, R575). -/
def State.phaseH (s : State) (m : Mast) : State :=
  let b := s.md.boot.get m
  let s1 := s.setBoot m { b with completedAt := s.now }
  match s1.bootCaptain with
  | none => if s1.md.mode = .boot then s1.electMast m else s1
  | some c =>
    if c = m then s1
    else if s1.md.mode = .boot && m = .a && decide (s1.now < (s1.md.boot.get .b).completedAt + Config.msec) then s1.electMast .a
    else if s1.imageOf m = s1.imageOf c then s1
    else if b.resynced then
      let s2 := s1.setBoot m { b with phase := 0, completedAt := s1.now }
      { s2 with tan := { s2.tan with barred := s2.tan.barred.set m true } }
    else s1.resync m

/-- The mast that is not elected takes the Captain's images even where it completed first (R47, R575). -/
def State.phaseHOther (s : State) (m : Mast) : State :=
  let o := m.other
  let b := s.md.boot.get o
  if s.md.mode = .boot && s.md.elect = some m && decide (9 ≤ b.phase) && s.imageOf m != s.imageOf o then s.resync o else s

/-- Phase F powers the Mix and Route dies (R106). -/
def State.powerDies (s : State) (m : Mast) : State :=
  { s with
    sup := s.sup.set m ((s.sup.get m).switchCore true)
    md := { s.md with mixOn := s.md.mixOn.set m true, routeOn := s.md.routeOn.set m true } }

/-- PLL_VID of a mast takes its dividers and the rate of the family of VIDEO_PRIMARY, of which 2 and 4 run at the 1.001 rates; TB_0
as VIDEO_PRIMARY gives 148.5 MHz (R444, R446). -/
def State.reloadVideoPll (s : State) (m : Mast) : State :=
  s.reloadPll m 2 (match s.sec.profile with
    | some p =>
      let fam := ((p.timebases[p.global.videoPrimary]?).map TimebaseItem.frameFamily).getD 1
      p.global.videoPrimary != 0 && (fam == 2 || fam == 4)
    | none => false)

/-- Phase I: the message store check starts (R106, R579). -/
def State.startCheck (s : State) (m : Mast) : State := s.setAlm m { s.alm.get m with checking := true }

/-- The dies of a mast at the end of its BOOT: power-gated where the package is in WATCH (R106 phase J). -/
def State.endDies (s : State) (m : Mast) : State :=
  let s1 := s.setAlm m { s.alm.get m with checkedAt := some s.now }
  if s1.md.mode = .watch then s1.gateDies m else s1

/-- Phase J ends on a mast: in BOOT it waits for the end step; once roles are settled it enters JOINING (R47, R108). -/
def State.phaseJ (s : State) (m : Mast) : State :=
  let b := s.md.boot.get m
  if s.md.mode = .boot then s.setBoot m { b with ready := true }
  else (((s.setBoot m { b with phase := 0, ready := false }).endDies m).settle).joinIfAble m true

/-- A change of a mast's BOOT phase since `old` shows in the MODE field of its window (R148, R552). -/
def State.phaseShown (s old : State) (m : Mast) : State :=
  if (s.md.boot.get m).phase = (old.md.boot.get m).phase then s
  else { s with port := s.port.set m ((s.port.get m).cause 2 s.now) }

/-- BOOT_PHASE_COMPLETE (R106 to R109): the phase in progress ends on a mast, with what it has found. -/
def execBootPhaseComplete (m : Mast) (f : BootFacts) (s : State) : Outcome State Fault Refusal :=
  .next <|
    State.phaseShown (old := s) (m := m) <|
    let b := s.md.boot.get m
    if !b.powerGood || b.held || b.failed || b.phase = 0 || b.ready || s.md.mode = .lockout then s
    else
      let go (x : State) : State :=
        let c := x.md.boot.get m
        if c.phase = b.phase then x.setBoot m { c with phase := c.phase + 1 } else x
      let tried (r : State × Bool) : State := if r.2 then r.1.bootFail m else go r.1
      match b.phase with
      | 1 => go (s.phaseA m f).phaseTamper
      | 2 => go (s.phaseB m)
      | 3 => tried (s.bootRepair m f)
      | 4 => (go (s.phaseD m f)).followFallback m
      | 5 => tried ((s.phaseE m f).1.powerDies m, (s.phaseE m f).2)
      | 6 => tried ((s.bootUnits m f).bootRepair m f)
      | 7 => go s
      | 8 => (go (s.phaseH m)).phaseHOther m
      | 9 => ((go (s.startCheck m)).reloadVideoPll m).settle
      | _ => s.phaseJ m

/-- BOOT_FAILURE (R109, R514): a phase does not complete, or 3 s pass without phase J. -/
def execBootFailure (m : Mast) (s : State) : Outcome State Fault Refusal :=
  .next <|
    let b := s.md.boot.get m
    if b.phase = 0 || b.failed || b.held || b.ready then s else s.bootFail m

/-- A mast's BOOT has ended. -/
def State.bootOver (s : State) (m : Mast) : State := s.setBoot m { s.md.boot.get m with phase := 0, ready := false }

/-- The package role and the Shroud fence that the profile gives (R57, R89). Roles that a take-over has turned round stay so
(R95). A pairing once refused may be tried again. -/
def State.profilePair (s : State) : State :=
  let x := s.tan.pairing
  let role := s.sec.profile.elim 0 (fun p => p.global.packageRole)
  let fence := s.sec.profile.elim 8 (fun p => p.global.shroudFence)
  let turned := role != 0 && x.swapped == some role
  { s with tan := { s.tan with pairing := { x with
      role := if turned then (if role = 1 then 2 else 3) else role
      swapped := if turned then x.swapped else none
      fence := fence, blocked := false } } }

/-- The mode after BOOT: ALARM where a zone is active on the Captain, else what the profile says (R97, R99). -/
def State.modeAfterBoot (s : State) (m : Mast) : Mode :=
  if !(s.dp.get m).acts.isEmpty && s.sec.lifecycle != 4 then .alarm else s.endMode

/-- The Captain's dies as the mode after BOOT has them: started, but for WATCH (R108, R318). -/
def State.firstDies (s : State) (m : Mast) (mode : Mode) : State :=
  let s1 : State := { s with md := { s.md with base := .quiet, mode := mode } }
  let s2 := if mode = .watch then s1.gateDies m else (s1.startDies m s1.step).restartOverlay m
  { s2 with md := { s2.md with mode := .boot } }

/-- The package leaves BOOT in a mode (R97, R108). -/
def State.runFrom (s : State) (mode : Mode) : State :=
  (((((s.enterMode mode .quiet 3).followOverlay).planShed).followFallback .a).followFallback .b).settle

/-- The settled mast becomes CAPTAIN at the end step, and another that is ready enters JOINING (R47, R99, R108). -/
def State.endBoot (s : State) (m : Mast) : State :=
  let other := (s.md.boot.get m.other).ready
  let s1 := if other then (s.bootOver m).bootOver m.other else s.bootOver m
  let s2 := ((s1.installSeats s1.sec.profile).profilePair).setTst m .captain
  let mode := s2.modeAfterBoot m
  let s3 := (s2.firstDies m mode).runFrom mode
  let s4 := s3.setAlm m { s3.alm.get m with checkedAt := some s3.now }
  if other then (s4.endDies m.other).joinIfAble m.other true else s4

/-- BOOT_END (R47, R97, R99, R108, R318): the end step, which begins at this boundary. -/
def execBootEnd (s : State) : Outcome State Fault Refusal :=
  .next <|
    match s.md.elect with
    | none => s
    | some m =>
      if s.md.mode != .boot || !(s.md.boot.get m).ready then s
      else s.atStep (s.step + 1) (fun x => x.endBoot m)

/-! ### The watchdog and REMAP -/

/-- WATCHDOG_EXPIRY (R537): in BOOT the mast has failed BOOT; after it, source 0x94 at Reef 3. -/
def execWatchdogExpiry (m : Mast) (s : State) : Outcome State Fault Refusal :=
  .next <|
    let b := s.md.boot.get m
    if !s.mastOn m then s
    else if b.phase != 0 then (if b.ready then s else s.bootFail m)
    else s.report m 0x94 0xC0000002

/-- REMAP_WRITE (R539): from the command processor's data port, once the security engine has passed the firmware. -/
def execRemapWrite (m : Mast) (x : BusMaster) (passed : Bool) (s : State) : Outcome State Fault Refusal :=
  .next <|
    let b := s.md.boot.get m
    if !s.mastOn m || b.remap then s
    else if x = .cpData && passed then s.setBoot m { b with remap := true }
    else if b.phase != 0 then s.bootFail m
    else s

/-! ### Resets -/

/-- A low on a reset ball acts from 26 XO cycles on; one of 24 or 25 is ignored or acted on (R626). The second part draws
the free choice. -/
def State.resetQualifies (s : State) (cycles : Nat) : Bool × State :=
  if cycles < 24 then (false, s)
  else if 26 ≤ cycles then (true, s)
  else
    let d := s.draw
    (d.1 % 2 == 1, d.2)

/-- RESET_N_ASSERT (R98, R130, R131, R626): a qualified low resets its mast, or the package where both lows begin within
1 ms. In LOCKOUT it is only counted. -/
def execResetNAssert (m : Mast) (cycles : Nat) (s : State) : Outcome State Fault Refusal :=
  .next <|
    let q := s.resetQualifies cycles
    if !q.1 || s.md.mode = .vault || (s.md.boot.get m).held then q.2
    else
      let s1 := q.2
      if s1.md.mode = .lockout then
        let r := s1.md.nest.lockout
        { s1 with md := { s1.md with nest := { s1.md.nest with lockout := { r with resetTries := Nat.min 65535 (r.resetTries + 1) } } } }
      else
        let s2 := s1.setBoot m { s1.md.boot.get m with held := true }
        let s3 : State := { s2 with md := { s2.md with resetFall := s2.md.resetFall.set m (some s2.now) } }
        let both := match s3.md.resetFall.get m.other with
          | some t => decide (s3.now < t + Config.msec)
          | none => false
        if both then s3.packageReset 2 false else s3.askedReset m 4

/-- RESET_N_RELEASE (R626): BOOT begins at the rising edge, or at power-good if that comes later. -/
def execResetNRelease (m : Mast) (s : State) : Outcome State Fault Refusal :=
  .next <|
    let b := s.md.boot.get m
    if !b.held then s
    else
      let runs := b.powerGood && !b.failed && !(s.sup.get m).hot && !s.serves m && s.md.mode != .lockout && s.md.mode != .vault
      s.setBoot m { b with held := false, phase := if runs then 1 else b.phase, startedAt := s.now, watchdogAt := s.now }

/-- TAMPER_TRIP (R134, R581, R582): in VAULT only TAMPER_N is monitored, and the trip is recorded as bare poles. -/
def execTamperTrip (m : Mast) (src : Nat) (s : State) : Outcome State Fault Refusal :=
  .next <|
    if src < 0xF0 ∨ 0xF3 < src then s
    else if s.md.mode = .vault then
      if src != 0xF3 then s
      else
        let s1 := s.zeroise
        let r : LockoutRecord :=
          { valid := true, mode := 0, source := 0xFFFF, step := 0, rtc := s1.md.nest.rtc, stateA := 3, stateB := 3,
            resetTries := 0 }
        let s2 : State :=
          { s1 with md := { s1.md with nest := { s1.md.nest with lockout := r } } }
        s2.recordReset 8 2
    else if !(s.md.boot.get m).powerGood then s
    else s.tamper m src

/-- LIFECYCLE_RESET (R533): 100 ms after a change of lifecycle state, a package reset that wipes more. Only a removal of main
power leaves LOCKOUT (R100, R130). -/
def execLifecycleReset (s : State) : Outcome State Fault Refusal :=
  .next <|
    match s.md.lifecycleReset with
    | none => s
    | some t =>
      if s.now < t + 100 * Config.msec || s.md.mode = .lockout || s.md.mode = .vault then s
      else
        let s0 : State := if s.sec.lifecycle = 4 then
            let z := s.zeroise
            { z with sec := { s.sec with identityKey := false, ownerKey := [] }
                     md := { z.md with nest := { z.md.nest with tamper := s.md.nest.tamper } } }
          else s
        let s1 := s0.packageReset 3 false
        { s1 with
          sec := { s1.sec with staging := { profile := none, firmware := none, alert := none } }
          mem := s1.mem.map (fun x => { x with alert := none }) }

/-- TL_ALIVE_DEAD (R128): in LOCKOUT the other mast drives the SINGLE-DRIVE fallback outputs, and its steering ball
rises. -/
def execTlAliveDead (m : Mast) (s : State) : Outcome State Fault Refusal :=
  .next <|
    if s.md.mode != .lockout || s.md.fallbackDriver != some m || !s.mastOn m.other then s
    else
      let t := s.mt m
      let o := s.mt m.other
      let s1 := ((s.setMt m { t with steer := false }).setAlive m false).setMt m.other { o with steer := true }
      { s1 with md := { s1.md with fallbackDriver := some m.other } }

end Sys2Proof.Machine
end

