-- ==== Sys2Proof/Machine/TimingOps.lean ====
section
/-! DEFINITION. Shared operations on reference candidates and timebases (R414 to R435): tolerances and quality, the
selection of R423, changes of timebase state with their reports, and a Stoker's take-over. -/
namespace Sys2Proof.Machine

/-- The frame period of a family at its lower frame rate, in thirds of a nanosecond (R348). -/
def familyPeriod (fam : Nat) : Nat :=
  if fam = 2 then 100100000 else if fam = 3 then 100000000 else if fam = 4 then 125125000
  else if fam = 5 then 125000000 else 120000000

/-! ### Candidates -/

/-- The rank of a candidate (R415). -/
def candRank (i : Nat) : Nat :=
  if i = 0 then 1 else if i ≤ 4 then 2 else if i = 5 then 3 else if i ≤ 69 then 4 else if i ≤ 86 then 5 else 6

/-- The tolerance of a candidate, in tenths of a ppb (R415). -/
def candTol (i : Nat) : Int :=
  if i = 0 then 500 else if i ≤ 4 then 10000 else if i = 5 then 50000 else 100000

/-- Whether a candidate has a phase marker (R415): none of ranks 5 and 6 has. -/
def candMarker (i : Nat) : Bool := decide (i ≤ 69)

/-- The timing of a mast. -/
def State.tm (s : State) (m : Mast) : TimingMast := s.tim.get m

/-- A candidate of a mast. -/
def TimingMast.cand (t : TimingMast) (i : Nat) : Cand := t.cands.getD i Cand.none

/-- A timebase of a mast. -/
def State.tb (s : State) (m : Mast) (i : Nat) : Timebase := atD (s.tm m).tbs i .reset

/-- A candidate as a timebase of a mast sees it: one that a refused jump has disqualified for it requalifies for itself (R474). -/
def State.candOf (s : State) (m : Mast) (t i : Nat) : Cand :=
  match (s.tb m t).barred with
  | some (j, c) => if j = i then c else (s.tm m).cand i
  | none => (s.tm m).cand i

/-- A candidate as REFERENCE_STATUS shows it: as a timebase has it that bars it, where one does (R215, R474). -/
def State.candShown (s : State) (m : Mast) (i : Nat) : Cand :=
  (((s.tm m).tbs.filterMap (fun x => x.barred)).find? (fun b => b.1 == i)).elim ((s.tm m).cand i) (fun b => b.2)

/-- The TIMEBASE item of the profile (R414, R570). -/
def State.tbItem (s : State) (i : Nat) : Option TimebaseItem := match s.sec.profile with
  | some p => p.timebases[i]?
  | none => none

/-- VIDEO_PRIMARY: TB_0 unless the profile names another (R414). -/
def State.videoPrimary (s : State) : Nat := match s.sec.profile with
  | some p => p.global.videoPrimary
  | none => 0

/-- Whether a timebase raises events and faults (R429). -/
def State.primaryTb (s : State) (i : Nat) : Bool := i == 0 || i == s.videoPrimary

/-- XO_TOL in tenths of a ppb (R414, R570). -/
def State.xoTol (s : State) : Int := match s.sec.profile with
  | some p => 10 * (p.global.xoTol : Int)
  | none => 50000

/-- u of R418: XO_TOL until the XO has a calibration. -/
def State.xoUncertainty (s : State) (m : Mast) : Int := if (s.tm m).xoCal.isSome then 0 else s.xoTol

/-- Whether a window's offset is in tolerance (R418). -/
def State.inTolerance (s : State) (m : Mast) (i : Nat) (y : Int) : Bool := decide ((y.natAbs : Int) ≤ candTol i + s.xoUncertainty m)

/-- Tenths of a ppb rounded to the nearest ppb (R418). -/
def toPpb (y : Int) : Int := (y + 5).fdiv 10

/-- The offset of the last window. -/
def Cand.last (c : Cand) : Int := c.windows.headD 0

/-- QUALITY of a candidate (R421). -/
def Cand.quality (c : Cand) : Nat :=
  match c.windows with
  | [] => 0
  | y :: ys =>
    if c.st = .absent then 0
    else
      let hi := ys.foldl (fun a b => max a b) y
      let lo := ys.foldl (fun a b => min a b) y
      1000000 - Nat.min 1000000 ((toPpb y).natAbs + 4 * (toPpb hi - toPpb lo).natAbs)

/-- Whether a mast's telltales run: from BOOT phase H on (R418). -/
def State.telltalesRun (s : State) (m : Mast) : Bool :=
  let b := s.md.boot.get m
  b.powerGood && !b.held && !b.failed && s.md.mode != .vault && (b.phase == 0 || decide (8 ≤ b.phase))

/-- Whether a timebase lists a candidate (R416). -/
def State.lists (s : State) (t i : Nat) : Bool := (s.tbItem t).elim false (fun x => bit x.candidates i)

/-! ### Reports (R429, R430) -/

/-- Set a sticky bit of TIMING_HISTORY in every seat's copy, in the word of each primary timebase that `t` is (R430). -/
def State.sticky (s : State) (t k : Nat) : State :=
  let set (b : Bool) (v : Nat) : Nat := if b then v ||| 2 ^ k else v
  { s with hal := { s.hal with seats := s.hal.seats.map (fun x =>
      { x with stickyAudio := set (t == 0) x.stickyAudio, stickyVideo := set (t == s.videoPrimary) x.stickyVideo }) } }

/-- TB_0 time at the start of a step, in the PTP Timestamp format (R477, R478): seconds, nanoseconds, and units of 2^-16 ns. -/
def stepToTime (rate k : Nat) : Nat × Nat × Nat :=
  let r := k % rate * 10 ^ 9
  (k / rate, r / rate, r % rate * 2 ^ 16 / rate)

/-- The step within which an instant of TB_0 falls (R478). -/
def timeToStep (rate seconds ns : Nat) : Nat := seconds * rate + ns * rate / 10 ^ 9

/-- SITE of a candidate of a timebase (R485). -/
def candSite (t i : Nat) : Nat := 0xA0000000 + 256 * t + i % 256

/-- The code of a reference: its index, or 0xFF (R215). -/
def refCode (r : Option Nat) : Nat := r.getD 0xFF

/-- Raise a fault of a primary timebase: the audio source where it is TB_0, the video source where it is VIDEO_PRIMARY
(R429, R484). -/
def State.tbFault (s : State) (m : Mast) (t ref audio video : Nat) : State :=
  let s1 := if t = 0 then s.report m audio (candSite t ref) else s
  if t = s.videoPrimary then s1.report m video (candSite t ref) else s1

/-- Whether a timebase of a mast takes its PTP from the other mast's path: in Solo a mast receives only its own network (R51,
R87). -/
def State.usesOther (s : State) (m : Mast) (t : Nat) : Bool :=
  (atD (s.ptp.get m).doms t .reset).otherPath && s.inTandem

/-- Replace a timebase of a mast. -/
def State.putTb (s : State) (m : Mast) (t : Nat) (x : Timebase) : State :=
  let y := s.tm m
  { s with tim := s.tim.set m { y with tbs := setAt y.tbs t x } }

/-- The other mast's copy follows the Captain's timebase, keeping its own shadow choice and its own XO's failure (R434). -/
def State.mirrorTb (s : State) (m : Mast) (t : Nat) : State :=
  let o := m.other
  let x := s.tb m t
  let y := s.tb o t
  if s.isCaptain m && (s.tst o = .stoker || s.tst o = .joining) then
    s.putTb o t { x with shadow := y.shadow, st := if (s.tm o).xoFailed then .lost else x.st }
  else s

/-- Change a timebase on the mast that decides it, and on the mast that follows. -/
def State.changeTb (s : State) (m : Mast) (t : Nat) (f : Timebase → Timebase) : State :=
  (s.putTb m t (f (s.tb m t))).mirrorTb m t

/-- A timebase enters a state: EV_TIMING_STATE on a change of a primary timebase of the Captain (R429). -/
def State.enterTb (s : State) (m : Mast) (t : Nat) (st : TbSt) : State :=
  let x := s.tb m t
  if x.st = st then s
  else
    let since := match st with
      | .holdover => some s.now
      | .lost => x.holdoverAt
      | _ => none
    let s1 := s.changeTb m t (fun y => { y with st := st, holdoverAt := since })
    if s.primaryTb t && s.isCaptain m then
      s1.event m.code evTimingState (be 1 t ++ be 1 st.code ++ be 1 x.st.code ++ be 1 (refCode x.ref))
    else s1

/-- EV_REFERENCE_CHANGE of a primary timebase of the Captain, with its sticky bit (R429). -/
def State.refChanged (s : State) (m : Mast) (t : Nat) (from' to' : Option Nat) (cause : Nat) : State :=
  if s.primaryTb t && s.isCaptain m then
    (s.sticky t 2).event m.code evReferenceChange (be 1 t ++ be 1 (refCode from') ++ be 1 (refCode to') ++ be 1 cause)
  else s

/-! ### Selection (R423) -/

/-- Whether two offsets of equal rank disagree (R424). -/
def disagrees (i : Nat) (y z : Int) : Bool := decide (candTol i < (y - z).natAbs)

/-- The qualified candidates of a timebase's bitmap that share the best rank present (R423). -/
def State.bestRank (s : State) (m : Mast) (t : Nat) : List Nat :=
  let q := ((List.range 87).filter (fun i => s.lists t i && (s.candOf m t i).st == .qualified))
  let r := q.foldl (fun a i => Nat.min a (candRank i)) 99
  q.filter (fun i => candRank i == r)

/-- The member of a set that is chosen (R423): with a disagreement the least |y| first; then higher quality, then the lower
index. -/
def State.chooseRef (s : State) (m : Mast) (t : Nat) (q : List Nat) : Option Nat :=
  let c (i : Nat) : Cand := s.candOf m t i
  let split := q.any (fun i => q.any (fun j => disagrees i (c i).last (c j).last))
  q.foldl (fun best i => match best with
    | none => some i
    | some b =>
      let y := (c i).last.natAbs
      let z := (c b).last.natAbs
      if split && decide (y < z) then some i
      else if split && decide (z < y) then some b
      else if (c b).quality < (c i).quality then some i else some b) none

/-- Whether the candidate that a timebase has selected still stands: neither absent nor disqualified. -/
def State.refStands (s : State) (m : Mast) (t i : Nat) : Bool :=
  let st := (s.candOf m t i).st
  st != .absent && st != .disqualified

/-- The holdover frequency (R428): the mean of the last 100 s of LOCKED operation, less the windows that disqualified the
reference, which `skip` counts. -/
def Timebase.holdMean (x : Timebase) (skip : Nat) : Int :=
  let h := (x.hist.drop skip).take 10
  if h.isEmpty then x.freq else (h.foldl (fun a b => a + b) 0).fdiv h.length

/-- A timebase acquires a candidate (R426, R428). -/
def State.acquire (s : State) (m : Mast) (t i : Nat) : State :=
  ((s.changeTb m t (fun x => { x with ref := some i })).enterTb m t .acquiring)

/-- A timebase loses its reference and none is qualified (R428). -/
def State.loseRef (s : State) (m : Mast) (t skip : Nat) (lost : Option Nat) : State :=
  let x := s.tb m t
  let s1 := s.changeTb m t (fun y => { y with ref := none, holdFreq := y.holdMean skip, freq := y.holdMean skip, hist := [] })
  if x.everLocked then
    let s2 := s1.enterTb m t .holdover
    if s.primaryTb t && s.isCaptain m then (s2.sticky t 0).tbFault m t (lost.getD 0xFF) 0x69 0x6B else s2
  else s1.enterTb m t .freeRun

/-- Whether a timebase may acquire: a LOST timebase whose XO has failed stays LOST (R428). -/
def State.mayAcquire (s : State) (m : Mast) : Bool := !(s.tm m).xoFailed

/-- Evaluate the selection of a timebase on the Captain (R423, R428); `skip` as in `holdMean`. -/
def State.evaluate (s : State) (m : Mast) (skip t : Nat) : State :=
  let x := s.tb m t
  if !s.mayAcquire m then s
  else
    let pick := s.chooseRef m t (s.bestRank m t)
    match x.ref with
    | some i =>
      if s.refStands m t i then
        match pick with
        | some j =>
          if candRank j < candRank i then (s.acquire m t j).refChanged m t (some i) (some j) 1 else s
        | none => s
      else
        let cause := if (s.candOf m t i).st = .absent then 2 else 0
        match pick with
        | some j =>
          let s1 := s.changeTb m t (fun y => { y with freq := y.holdMean skip, holdFreq := y.holdMean skip, hist := [] })
          (s1.acquire m t j).refChanged m t (some i) (some j) cause
        | none => (s.loseRef m t skip (some i)).refChanged m t (some i) none cause
    | none =>
      match pick with
      | some j => (s.acquire m t j).refChanged m t none (some j) 1
      | none => s

/-- The Stoker's shadow choice (R434): by the same rules, with no event. -/
def State.evaluateShadow (s : State) (m : Mast) (t : Nat) : State :=
  let x := s.tb m t
  let pick := s.chooseRef m t (s.bestRank m t)
  let next := match x.shadow with
    | some i => if s.refStands m t i then (match pick with
        | some j => if candRank j < candRank i then some j else some i
        | none => some i) else pick
    | none => pick
  s.putTb m t { x with shadow := next }

/-- Every timebase of a mast is evaluated: the Captain selects, another mast shadows. -/
def State.evaluateAll (s : State) (m : Mast) (skip : Nat) : State :=
  (List.range 4).foldl (fun acc t => if acc.isCaptain m then acc.evaluate m skip t else acc.evaluateShadow m t) s

/-- A Stoker that becomes CAPTAIN continues its timebases from their phase (R435). -/
def State.takeTiming (s : State) (m : Mast) : State :=
  (List.range 4).foldl (fun acc t =>
    let x := acc.tb m t
    let own := x.shadow.filter (fun i => (acc.candOf m t i).st == .qualified)
    let held := x.st = .holdover || x.st = .lost
    let acc1 := acc.putTb m t { x with ref := if held then none else own, shadow := none }
    if (acc.tm m).xoFailed then acc1.enterTb m t .lost
    else if held then acc1
    else match own with
      | some i =>
        let acc2 := acc1.enterTb m t .acquiring
        if x.ref = some i then acc2 else acc2.refChanged m t x.ref (some i) 1
      | none => if x.st = .freeRun then acc1 else acc1.loseRef m t 0 x.ref) s

/-- Steps of a REALIGN fade: 2 ms (R431). -/
def State.realignFade (s : State) : Nat := if s.rate48 then 96 else 192

/-- Seconds from the entry to HOLDOVER, which go on through LOST (R428). -/
def State.holdoverS (s : State) (x : Timebase) : Nat :=
  x.holdoverAt.elim 0 (fun t => (s.now - t) / Config.second)

/-- REALIGN_TOL of a timebase in ns (R414). -/
def State.realignTol (s : State) (t : Nat) : Nat := (s.tbItem t).elim 1000 (fun x => x.realignTol)

/-- TB_FLAGS [0]: the pending realign offset exceeds its tolerance (R427). -/
def State.pendingSet (s : State) (m : Mast) (t : Nat) : Bool := decide (s.realignTol t < (s.tb m t).pendingNs.natAbs)

/-- FRAME_FAMILY of a timebase (R414). -/
def State.tbFamily (s : State) (t : Nat) : Nat := (s.tbItem t).elim 1 (fun x => x.frameFamily)

end Sys2Proof.Machine
end

