-- ==== Sys2Proof/Machine/VideoOps.lean ====
section
/-! DEFINITION. Shared operations of the video crosspoint: rasters and formats (R348 to R352), port types (R347), frame
timing and slack (R361 to R368), fabric load (R377), and the outcome of a switch (R369 to R372). Times in this file are
in 2,250ths of a third of a nanosecond, in which every line period is whole. -/
namespace Sys2Proof.Machine

/-! ### Formats -/

/-- One row of the raster table (R348, R362). -/
structure Raster where
  family : Nat
  /-- Frames per frame of the family's lower rate: 2 for 50, 59.94 and 60 Hz. -/
  mult : Nat
  lines : Nat
  width : Nat
  height : Nat
  slack : Nat
  /-- SDI carriage: 1 HD, 2 3G, 3 12G. -/
  carriage : Nat
  /-- TRO in lines. -/
  tro : Nat
  deriving DecidableEq, Repr

/-- The rasters, by code from 0x01 (R348, R362). -/
def rasters : List Raster :=
  [ ⟨1, 1, 1125, 1920, 1080, 4, 1, 22⟩, ⟨2, 1, 1125, 1920, 1080, 4, 1, 22⟩, ⟨3, 1, 1125, 1920, 1080, 4, 1, 22⟩,
    ⟨4, 1, 1125, 1920, 1080, 4, 1, 43⟩, ⟨5, 1, 1125, 1920, 1080, 4, 1, 43⟩, ⟨1, 1, 1125, 1920, 1080, 4, 1, 43⟩,
    ⟨2, 1, 1125, 1920, 1080, 4, 1, 43⟩, ⟨3, 1, 1125, 1920, 1080, 4, 1, 43⟩, ⟨1, 2, 1125, 1920, 1080, 4, 2, 43⟩,
    ⟨2, 2, 1125, 1920, 1080, 4, 2, 43⟩, ⟨3, 2, 1125, 1920, 1080, 4, 2, 43⟩, ⟨1, 2, 750, 1280, 720, 6, 1, 28⟩,
    ⟨2, 2, 750, 1280, 720, 6, 1, 28⟩, ⟨3, 2, 750, 1280, 720, 6, 1, 28⟩, ⟨1, 2, 2250, 3840, 2160, 2, 3, 86⟩,
    ⟨2, 2, 2250, 3840, 2160, 2, 3, 86⟩, ⟨3, 2, 2250, 3840, 2160, 2, 3, 86⟩ ]

/-- KIND of a FORMAT byte (R349). -/
def fmtKind (f : Nat) : Nat := bitsOf f 7 6

/-- The raster of a FORMAT byte of KIND 1 or 2. -/
def fmtRaster (f : Nat) : Option Raster :=
  if fmtKind f = 1 ∨ fmtKind f = 2 then (if f % 64 = 0 then none else rasters[f % 64 - 1]?) else none

/-- The family of a FORMAT byte, 0 where it has none. -/
def fmtFamily (f : Nat) : Nat :=
  match fmtRaster f with
  | some r => r.family
  | none => if fmtKind f = 3 then f % 8 else 0

/-- A FORMAT byte that R349 admits. -/
def fmtValid (f : Nat) : Bool :=
  f == 0 || (fmtRaster f).isSome ||
    (fmtKind f == 3 && bitsOf f 4 3 == 0 && decide (1 ≤ f % 8) && decide (f % 8 ≤ 5) && decide (f < 256))

/-- A third of a nanosecond in this file's unit. -/
def fine (t : Int) : Int := 2250 * t

/-- The frame period of a raster, or of a family where there is none (R361). -/
def framePeriod (r : Option Raster) (fam : Nat) : Int :=
  match r with
  | some x => 2250 * (familyPeriod x.family : Int) / x.mult
  | none => 2250 * (familyPeriod fam : Int)

/-- The line period H (R348). -/
def Raster.line (r : Raster) : Int := framePeriod (some r) 0 / r.lines

/-- Half of the slack, (L/2) × H (R364). -/
def Raster.half (r : Raster) : Int := (r.slack / 2 : Nat) * r.line

/-- The slack window's half-width, (L/2) × H − G, with G of 2.56 µs (R365). -/
def Raster.window (r : Raster) : Int := r.half - fine 7680

/-- A 10-bit sample enters at 12 bits; a 12-bit sample leaves at 10 bits (R352). -/
def sampleIn10 (x : Nat) : Nat := 4 * x

/-- A 12-bit sample as it leaves at 10 bits (R352). -/
def sampleOut10 (x : Nat) : Nat := Nat.min 0x3FB (Nat.max 0x004 ((x + 2) / 4))

/-! ### Ports (R345, R347, R353) -/

/-- The entry that binds a flow input, if any. -/
def VideoMast.binding (v : VideoMast) (i : Nat) : Option (Nat × FlowEntry) := v.flows.find? (fun e => e.2.owner == i)

/-- The type of a logical input (R347). -/
def VideoMast.inType (v : VideoMast) (i : Nat) : Nat :=
  if i < 64 then sdiType else match v.binding i with
    | some e => e.2.typ
    | none => 0

/-- Whether an input type may feed an output type (R347). -/
def typesFit (inT outT : Nat) : Bool :=
  if outT = 1 ∨ outT = 2 then inT == outT else inT == 0 || inT == sdiType

/-- The VIDEO_OUTPUT item of an output (R353, R570). -/
def State.videoItem (s : State) (o : Nat) : Option VideoOutItem :=
  match s.sec.profile with
  | some p => p.videoOutputs.find? (fun x => x.output == o)
  | none => none

/-- FAMILY of an output (R353). -/
def State.outFamily (s : State) (o : Nat) : Nat := (s.videoItem o).elim 1 (fun x => x.family)

/-- TIMEBASE of an output (R353). -/
def State.outTimebase (s : State) (o : Nat) : Nat := (s.videoItem o).elim s.videoPrimary (fun x => x.timebase)

/-- Whether an output is flow-timed: SDI outputs never are (R353). -/
def State.flowTimed (s : State) (o : Nat) : Bool := decide (64 ≤ o) && (s.videoItem o).elim true (fun x => bit x.flags 0)

/-- The time of an output's timebase less TB_0's (log entry 13). -/
def State.outShift (s : State) (m : Mast) (o : Nat) : Int := fine (s.tb m (s.outTimebase o)).shift

/-- A video input of a mast. -/
def VideoMast.inp (v : VideoMast) (i : Nat) : VideoIn := v.inputs.getD i VideoIn.none

/-- Replace a video output of a mast. -/
def State.setOut (s : State) (m : Mast) (o : Nat) (x : XptOut) : State :=
  let v := s.vid.get m
  { s with vid := s.vid.set m { v with outputs := v.outputs.put o x } }

/-- Replace a video input of a mast. -/
def State.setInp (s : State) (m : Mast) (i : Nat) (x : VideoIn) : State :=
  let v := s.vid.get m
  { s with vid := s.vid.set m { v with inputs := v.inputs.put i x } }

/-- The outputs that an input feeds on a mast. -/
def VideoMast.fedBy (v : VideoMast) (i : Nat) : List Nat :=
  (v.outputs.filter (fun x => x.2.input == i && i != 0xFFFF)).map (fun x => x.1)

/-! ### Timing (R361 to R368) -/

/-- Reduce to the range −T/2 to +T/2 (R363). -/
def wrapHalf (x period : Int) : Int := (x + period / 2).fmod period - period / 2

/-- The raster that times an output: the one it emits, else the one its next source has (log entry 14). -/
def VideoMast.timingRaster (v : VideoMast) (o next : Nat) : Option Raster :=
  if passthrough (v.outType o) then none
  else match fmtRaster (v.out o).fmt with
    | some r => some r
    | none => fmtRaster (v.inp next).fmt

/-- K_f − R_f of an output (R362). -/
def State.arrivalPoint (s : State) (o : Nat) (r : Option Raster) : Int :=
  match r with
  | some x => if s.flowTimed o then (x.tro : Int) * x.line else 0
  | none => 0

/-- The offset of an input against the nominal arrival point of an output (R363). -/
def State.offsetOf (s : State) (m : Mast) (o i : Nat) (r : Option Raster) : Option Int :=
  (((s.vid.get m).inp i).arrival).map (fun a =>
    wrapHalf (fine a + s.outShift m o - s.arrivalPoint o r) (framePeriod r (s.outFamily o)))

/-- Where a source would be tracked: its arrival plus (L/2) × H against the frame reference (R364, R373). -/
def State.trackOf (s : State) (m : Mast) (o i : Nat) (r : Option Raster) : Option Int :=
  (((s.vid.get m).inp i).arrival).map (fun a =>
    (fine a + s.outShift m o + r.elim 0 Raster.half).fmod (framePeriod r (s.outFamily o)))

/-- T_p of R367 against twice a distance: the distance lies within ±T_p/2, for a payload rate in bits per second. -/
def inPacketSlack (d : Int) (rate : Nat) : Bool :=
  decide (2 * d.natAbs ≤ 2250 * 300000) && decide (2 * d.natAbs * rate ≤ 2250 * 184320 * 3000000000)

/-- A source is inside the slack of a NOMINAL output (R365, R367). -/
def State.insideSlack (s : State) (m : Mast) (o i : Nat) : Bool :=
  let v := s.vid.get m
  let x := v.inp i
  if passthrough (v.outType o) then
    fmtFamily x.fmt == s.outFamily o &&
    (match x.arrival, (v.inp (v.out o).input).arrival with
     | some a, some b => inPacketSlack (wrapHalf (fine (a - b)) (framePeriod none (s.outFamily o))) x.rate
     | some _, none => true
     | none, _ => false)
  else
    match fmtRaster x.fmt with
    | none => false
    | some r =>
      let r0 := (v.timingRaster o i).getD r
      r.family == s.outFamily o &&
      (match s.offsetOf m o i (some r0) with
       | some a => decide (-r0.window ≤ a) && decide (a ≤ r0.window)
       | none => false)

/-- A source lies within the window around a tracking point (R365, R374). -/
def State.insideTrack (s : State) (m : Mast) (o i : Nat) (track : Int) : Bool :=
  let v := s.vid.get m
  match v.timingRaster o i with
  | none => true
  | some r =>
    match s.trackOf m o i (some r) with
    | some t =>
      let d := wrapHalf (t - track) (framePeriod (some r) (s.outFamily o))
      decide (-r.window ≤ d) && decide (d ≤ r.window)
    | none => false

/-- The emission point of line 1 against the frame reference: O_f, or the tracking point (R364). -/
def State.emitPoint (s : State) (v : VideoMast) (o next : Nat) : Int :=
  let r := v.timingRaster o next
  match (v.out o).track with
  | some t => t
  | none => s.arrivalPoint o r + r.elim 0 Raster.half

/-- The switch point of frame 0 of an output, in TB_0's time (R368): line 7, or 14, of an SDI output; the emission point
of an ST 2110-20 output; for a passthrough output the first frame start of its old source from the family's frame. -/
def State.switchBase (s : State) (m : Mast) (o next : Nat) : Int :=
  let v := s.vid.get m
  let r := v.timingRaster o next
  let at' := s.emitPoint v o next - s.outShift m o
  if v.outType o = sdiType then
    at' + (match r with
      | some x => (if x.lines = 2250 then 13 else 6) * x.line
      | none => 0)
  else if passthrough (v.outType o) then
    match (v.inp (v.out o).input).arrival with
    | some a =>
      let base := - s.outShift m o
      base + (fine a - base).fmod (framePeriod none (s.outFamily o))
    | none => - s.outShift m o
  else at'

/-- The first frame whose switch point falls at or after a time (R369), and that switch point. -/
def State.firstSwitch (s : State) (m : Mast) (o next : Nat) (from' : Int) : Nat × Int :=
  let period := framePeriod ((s.vid.get m).timingRaster o next) (s.outFamily o)
  let base := s.switchBase m o next
  let f := -((base - from').fdiv period)
  (f.toNat, base + f * period)

/-- The start of a step, in this file's unit. -/
def State.stepStart (s : State) (n : Nat) : Int := fine (n * s.stepTime : Nat)

/-- The step in which a time falls. -/
def State.stepOf (s : State) (t : Int) : Nat := (t.fdiv (fine s.stepTime)).toNat

/-! ### Fabric load (R377) -/

/-- The fabric limit in each direction, in units of 1/1001 bit per second. -/
def fabricLimit : Nat := 3600000000000 * 1001

/-- The factor of a family's frame rate in 1/1001. -/
def rateFactor (fam : Nat) : Nat := if fam = 2 ∨ fam = 4 then 1000 else 1001

/-- Whole frames per second of a family's lower rate, before the factor. -/
def familyRate (fam : Nat) : Nat := if fam = 1 then 25 else if fam = 2 ∨ fam = 3 then 30 else 24

/-- The fabric rate of a port of a type that carries a format, in 1/1001 bit per second (R377). -/
def fabricRate (typ fmt rate : Nat) : Nat :=
  match fmtRaster fmt with
  | some r =>
    if typ = sdiType then
      (if r.carriage = 1 then 1782000000 else if r.carriage = 2 then 3564000000 else 14256000000) * rateFactor r.family
    else r.width * r.height * 24 * familyRate r.family * r.mult * rateFactor r.family
  | none => if passthrough typ then (rate + 9999999) / 10000000 * 10000000 * 1001 else 0

/-- The connection that an output has once every decision already made is included. -/
def XptOut.decided (x : XptOut) : Nat × Nat :=
  x.pending.foldl (fun acc p => match p.decision with
    | some .clean => (p.input, p.fmt)
    | some .unclean => (p.input, p.fmt)
    | _ => acc) (x.input, x.fmt)

/-- Ingress and egress of a list of connections: output, input and emitted format. -/
def VideoMast.load (v : VideoMast) (cs : List (Nat × Nat × Nat)) : Nat × Nat :=
  let live := cs.filter (fun c => c.2.1 != 0xFFFF)
  let ins := (live.map (fun c => c.2.1)).eraseDups
  (ins.foldl (fun acc i => acc + fabricRate (v.inType i) (v.inp i).fmt (v.inp i).rate) 0,
   live.foldl (fun acc c => acc + fabricRate (v.outType c.1) c.2.2 (v.inp c.2.1).rate) 0)

/-- Whether connections fit the fabric in both directions. -/
def VideoMast.fits (v : VideoMast) (cs : List (Nat × Nat × Nat)) : Bool :=
  decide ((v.load cs).1 ≤ fabricLimit) && decide ((v.load cs).2 ≤ fabricLimit)

/-- The connections of a mast, with every decision already made included. -/
def VideoMast.connections (v : VideoMast) : List (Nat × Nat × Nat) :=
  v.outputs.map (fun x => (x.1, x.2.decided.1, x.2.decided.2))

/-! ### The outcome of a switch (R369 to R373) -/

/-- The format an output emits from a source: SDI outputs always 10 bits (R349, R352); black in the format before from a
source that has none. -/
def VideoMast.emitFmt (v : VideoMast) (o i : Nat) : Nat :=
  let f := (v.inp i).fmt
  if i = 0xFFFF ∨ f = 0 then (v.out o).fmt else if v.outType o = sdiType then 64 + f % 64 else f

/-- Whether an input's type and family may feed an output (R347, R370). -/
def State.pairFits (s : State) (m : Mast) (o i : Nat) : Bool :=
  let v := s.vid.get m
  i == 0xFFFF || (typesFit (v.inType i) (v.outType o) &&
    ((v.inp i).fmt == 0 || fmtFamily (v.inp i).fmt == s.outFamily o))

/-- Whether a switch of an output to an input would be CLEAN on a mast's measurement (R371). -/
def State.switchClean (s : State) (m : Mast) (o i : Nat) : Bool :=
  let v := s.vid.get m
  let x := v.out o
  x.track.isNone && (i == 0xFFFF || (v.inp i).fmt == 0 || s.insideSlack m o i) &&
    (x.fmt == 0 || v.emitFmt o i == x.fmt)

/-- The final decision of an entry on a mast's measurement (R371): the outcome, the timing and the format after it. An
UNCLEAN switch is NOMINAL on disconnection, on a source without a format, and where a TRACKING output's source is inside
the slack (log entry 15). -/
def State.settleSwitch (s : State) (m : Mast) (o : Nat) (p : XptPending) : XptPending :=
  let v := s.vid.get m
  let x := v.out o
  let f := v.emitFmt o p.input
  let others := v.connections.filter (fun c => c.1 != o)
  let refused := s.outputOut o ||
    (decide (p.input < 64) && ((s.aud.get s.lead).single).contains (portKey 4 p.input)) ||
    !v.fits (others ++ [(o, p.input, f)]) || !s.pairFits m o p.input
  let clean := s.switchClean m o p.input
  if refused || (!clean && p.cleanOnly) then { p with decision := some .refused }
  else if clean then { p with decision := some .clean, track := none, fmt := f }
  else
    let nominal := p.input == 0xFFFF || (v.inp p.input).fmt == 0 || (x.track.isSome && s.insideSlack m o p.input)
    { p with decision := some .unclean, fmt := f
             track := if nominal then none else s.trackOf m o p.input (fmtRaster f) }

/-- Add to a counter of an output on every serving mast. -/
def State.bumpOut (s : State) (o k n : Nat) : State :=
  s.servers.foldl (fun acc m => acc.bump m (outCounter o + k) n) s

/-- A mast marks a flow input as unrepaired for a frame, once (R54): the frame counts in the flow's counter, and EV_FLOW_UNREPAIRED
is raised with the count at most once per flow per second. -/
def State.markUnrepaired (s : State) (m : Mast) (port ts : Nat) : State :=
  let v := s.vid.get m
  let u := v.unrepaired.getD port Unrepaired.none
  if u.ts = some ts then s
  else
    let due := u.eventAt.elim true (fun t => decide (t + Config.second ≤ s.now))
    let u1 : Unrepaired := { count := u.count + 1, ts := some ts, eventAt := if due then some s.now else u.eventAt }
    let s1 := ({ s with vid := s.vid.set m { v with unrepaired := v.unrepaired.put port u1 } } : State).bump m 0x6008 1
    if due then s1.event m.code evFlowUnrepaired (be 2 port ++ zeros 2 ++ be 4 (Nat.min u1.count (2 ^ 32 - 1))) else s1

/-- Change a job of a command, by its order of acceptance. -/
def State.changeJob (s : State) (order : Nat) (f : XptJob → XptJob) : State :=
  { s with jobs := s.jobs.map (fun j => if j.order = order then f j else j) }

/-- Commands whose last entry has been switched, refused or superseded report at the step after (R211, R375). -/
def State.finishJobs (s : State) : State :=
  let ended := s.jobs.filter (fun j => j.left == 0)
  let s1 : State := { s with jobs := s.jobs.filter (fun j => j.left != 0) }
  ended.foldl (fun acc j => acc.eventTo j.seat acc.lead.code evXptSwitched j.hostSeq acc.step
    (be 2 j.clean ++ be 2 j.unclean ++ be 2 j.refused ++ be 2 j.superseded ++ be 8 (j.first.getD j.eff))) s1

end Sys2Proof.Machine
end

