-- ==== Sys2Proof/Machine/VideoOut.lean ====
section
/-! DEFINITION. What video outputs send: what each shows (R364, R374, R380, R382), the packets of ST 2110-20 flows (R358, R359, R480)
and of passthrough flows (R359, R360), and test routes (R221). -/
namespace Sys2Proof.Machine

/-- The first raster of a family, at 10 bits (R382). -/
def firstRaster (fam : Nat) : Nat :=
  64 + 1 + (rasters.takeWhile (fun r => r.family != fam)).length

/-- Whether a fault forces an SDI output of a mast to its safe state (R82, R490). -/
def State.sdiForced (s : State) (m : Mast) (o : Nat) : Bool :=
  let d := (s.mt m).drive
  decide (o < 64) && (d.allSafe || (d.liveSafe && (s.videoItem o).elim false (fun x => bit x.flags 3)))

/-- What an output of a mast shows, and its format (R364, R374, R380, R382): in MAINTAIN a test route, and the safe state elsewhere;
black where it is in HOLD_BLACK, its source delivers nothing or a fault forces it; nothing where it has never emitted a format. -/
def State.shows (s : State) (m : Mast) (o : Nat) : Show × Nat :=
  let v := s.vid.get m
  let x := v.out o
  let test := s.tests.find? (fun t => t.cls == 1 && t.output == o)
  if v.idle || !s.videoRuns then (.idle, 0)
  else match test with
    | some t =>
      let f := if x.fmt = 0 then firstRaster (s.outFamily o) else x.fmt
      (if t.signal = 2 then .input t.src else if t.signal = 1 then .bars else .black, f)
    | none =>
      if x.fmt = 0 then (.idle, 0)
      else if x.input = 0xFFFF || x.black || s.md.mode = .maintain || s.sdiForced m o then (.black, x.fmt)
      else (.input x.input, x.fmt)

/-- Black at 12 bits: Cb, Y, Cr, Y (R352). -/
def blackSample (i : Nat) : Nat := if i % 2 = 0 then 0x800 else 0x100

/-- A sample of a slack buffer (R364): of the newest row of a line that holds it; black where it is missing (R357). -/
def slackSample (rows : List SlackRow) (line i : Nat) : Nat :=
  ((rows.reverse.filter (fun r => r.line == line && decide (r.first ≤ i) && decide (i < r.first + r.count))).head?).elim
    (blackSample i) (fun r => sampleAt r.words (i - r.first))

/-- One sample of what an output shows, at 12 bits, of the frame that starts at a time (R352, R364). -/
def State.showSample (s : State) (m : Mast) (o : Nat) (w : Show) (width : Nat) (start : Int) (line i : Nat) : Nat :=
  match w with
  | .input k => if k < 64 then Config.sdiSample k start line i % 4096 else slackSample ((s.vid.get m).slack.getD o []) line i
  | .bars => Config.barSample width line i % 4096
  | _ => blackSample i

/-- Rasters 0x01 to 0x03 are interlaced (R348). -/
def interlaced (fmt : Nat) : Bool := decide (1 ≤ fmt % 64) && decide (fmt % 64 ≤ 3)

/-- Lines of a field's or a frame's active picture. -/
def activeRows (fmt : Nat) (r : Raster) : Nat := if interlaced fmt then r.height / 2 else r.height

/-- Octets of a pgroup of two pixels: 5 at 10 bits, 6 at 12 (R351). -/
def pgroup (fmt : Nat) : Nat := if fmtKind fmt = 2 then 6 else 5

/-- Packets of a line, and the pgroups of each but the last: the fewest of equal length with at most 1,200 octets (R358). -/
def linePackets (fmt width : Nat) : Nat × Nat :=
  let groups := width / 2
  let n := (groups * pgroup fmt + 1199) / 1200
  (n, (groups + n - 1) / n)

/-- The 90 kHz clock at a time, modulo 2^32 (R359, R480). -/
def clock90 (t : Int) : Nat := ((t.fdiv 75000000) % 2 ^ 32).toNat

/-- The RTP timestamp of a frame whose line 1 is emitted at a time of the output's timebase (R359, R480): the clock at the reference
instant, which for a TRACKING output lies as far before line 1 as for a NOMINAL one (DEDUCED, log entry 103). Field 2 lies 563
line periods on. -/
def State.frameTs (s : State) (o : Nat) (r : Raster) (start : Int) (field2 : Bool) : Nat :=
  clock90 (start - s.arrivalPoint o (some r) - r.half + (if field2 then 563 * r.line else 0))

/-- One packet of a line: the `j`-th of line `row` of a field of the frame that starts at a time. -/
def State.linePacket (s : State) (m : Mast) (o : Nat) (t : FlowTx) (w : Show) (fmt : Nat) (r : Raster) (start : Int)
    (field2 : Bool) (row j count : Nat) : VideoPkt :=
  let k := linePackets fmt r.width
  let first := 4 * k.2 * j
  let len := Nat.min (4 * k.2) (2 * r.width - first)
  let out (x : Nat) : Nat := if fmtKind fmt = 2 then x else sampleOut10 x
  { seq := count % 2 ^ 16, extended := count / 2 ^ 16 % 2 ^ 16, ts := s.frameTs o r start field2,
    marker := decide (row + 1 = activeRows fmt r) && decide (j + 1 = k.1), payloadType := fld t.params 42 1,
    ssrc := fld t.params 4 4, field2 := field2, line := row, first := first,
    samples := (List.range len).map (fun i => out (s.showSample m o w r.width start row (first + i))), deep := fmtKind fmt == 2 }

/-- The packets due in a stretch of time, in order: the start of their frame, their field, line and place in it (R358). Each line's
packets are spread evenly over its period. -/
def packetsDue (fmt : Nat) (r : Raster) (base since from' till : Int) : List (Int × Bool × Nat × Nat) :=
  let period := framePeriod (some r) 0
  let n := (linePackets fmt r.width).1
  let f0 := (from' - base).fdiv period
  let frames := (List.range (((till - from').fdiv period).toNat + 2)).map (fun (i : Nat) => base + (f0 + (i : Int)) * period)
  (frames.filter (fun t => decide (since ≤ t))).flatMap (fun t =>
    let l0 := ((from' - t).fdiv r.line - 1).toNat
    let lines := (List.range (((till - from').fdiv r.line).toNat + 4)).map (fun i => l0 + i)
    lines.flatMap (fun l =>
      let field2 := interlaced fmt && decide (563 ≤ l)
      let row := if field2 then l - 563 else l
      if activeRows fmt r ≤ row then []
      else ((List.range n).filter (fun (j : Nat) =>
        let at' := t + (l : Int) * r.line + ((j : Int) * r.line).fdiv n
        decide (from' ≤ at') && decide (at' < till))).map (fun j => (t, field2, row, j))))

/-- The bytes of a packet's UDP payload: the RTP header, the extended sequence number, one row header, and whole pgroups. -/
def VideoPkt.bytes (x : VideoPkt) (fmt : Nat) : Nat := 12 + 2 + 6 + x.samples.length / 4 * pgroup fmt

/-- The destination of an egress flow of a mast (R213, R358). -/
def FlowTx.dest (t : FlowTx) (m : Mast) : Nat := if m = .a then fld t.params 8 16 else fld t.params 24 16

/-- The length of a frame of an egress flow. -/
def FlowTx.frame (t : FlowTx) (m : Mast) (payload : Nat) : Nat :=
  udpFrame (decide (2 ^ 32 ≤ t.dest m)) (fld t.params 44 2 != 0) payload

/-- The egress queue of a flow by its TYPE: ST 2110-40 before ST 2110-20 and ST 2110-22 (R390). -/
def flowQueue (typ : Nat) : Nat := if typ = 2 then 2 else 3

/-! ### SDI lines -/

/-- The starts of lines of a timing in a stretch of time. -/
def lineStarts (base line from' till : Int) : List Int :=
  let k0 := -((base - from').fdiv line)
  let k1 := -((base - till).fdiv line)
  (List.range (k1 - k0).toNat).map (fun (i : Nat) => base + (k0 + (i : Int)) * line)

/-- The line that begins at a time of a timing. -/
def sdiLineAt (base : Int) (r : Raster) (w : Show) (t : Int) : SdiLine :=
  { frame := (t - base).fdiv (framePeriod (some r) 0), line := (((t - base).fdiv r.line).fmod r.lines).toNat + 1, shown := w, stretch := 0 }

/-- The lines that an SDI output of a raster begins in a stretch of time (R364, R368, R373). Before its latest switch they come from the
old source on the old timing; black lines that repeat the number of the line before the switching line fill the inserted interval, and
the last of them takes what remains of it; then the new timing begins. Where the interval is shorter than a line, the line before the
switching line takes it (DEDUCED, log entry 103). -/
def sdiLines (r : Raster) (now : Show) (new : Int) (old : Option (Show × Int)) (since from' till : Int) : List SdiLine :=
  let next (a : Int) : List SdiLine := (lineStarts new r.line (max a from') till).map (sdiLineAt new r now)
  match old with
  | none => next since
  | some (was, base) =>
    let gap := (new - base).fmod (framePeriod (some r) 0)
    let count := (gap.fdiv r.line).toNat
    let rest := gap.fmod r.line
    let before := (lineStarts base r.line from' (min since till)).map (fun t =>
      { sdiLineAt base r was t with stretch := if count = 0 && t + r.line = since then rest else 0 })
    let starts := (List.range count).map (fun (j : Nat) => since + (j : Int) * r.line)
    let filled := (starts.filter (fun t => decide (from' ≤ t) && decide (t < till))).map (fun t =>
      { sdiLineAt base r .black (since - r.line) with stretch := if t + r.line = since + count * r.line then rest else 0 })
    before ++ filled ++ next (since + gap)

/-- Start of frame 0 of an output on a timing, in TB_0's time. -/
def State.timingBase (s : State) (m : Mast) (o : Nat) (r : Raster) (track : Option Int) : Int :=
  track.getD (s.arrivalPoint o (some r) + r.half) - s.outShift m o

/-- The lines that an SDI output of a mast began in the step before step `n`. -/
def State.sdiSent (s : State) (m : Mast) (n o : Nat) : List SdiLine :=
  let x := (s.vid.get m).out o
  let w := s.shows m o
  match fmtRaster w.2, w.1 with
  | _, .idle => []
  | none, _ => []
  | some r, _ =>
    let was := x.before.map (fun b => ((if b.1 = 0xFFFF then Show.black else .input b.1), s.timingBase m o r b.2))
    sdiLines r w.1 (s.timingBase m o r x.track) was x.since (s.stepStart (n - 1)) (s.stepStart n)

/-- The SDI outputs of a mast at step `n`. -/
def State.stepSdiVideo (s : State) (m : Mast) (n : Nat) : State :=
  let v := s.vid.get m
  let tests := (s.tests.filter (fun t => t.cls == 1 && decide (t.output < 64))).map (fun t => t.output)
  let outs := ((v.outputs.map (fun e => e.1)).filter (fun o => decide (o < 64)) ++ tests).eraseDups
  let lines := (outs.map (fun o => (o, s.sdiSent m n o))).filter (fun e => !e.2.isEmpty)
  { s with vid := s.vid.set m { v with sdi := lines } }

/-- An output's ST 2110-20 packets of the step before step `n` on a mast (R330, R358, R359): they leave where its packet outputs are
on, and in MAINTAIN only for a test route (R124). -/
def State.stepFlow (s : State) (m : Mast) (n o : Nat) (t : FlowTx) : State :=
  let v := s.vid.get m
  let w := s.shows m o
  let tested := s.tests.any (fun x => x.cls == 1 && x.output == o)
  let open' := bit (fld t.params 2 1) 0 && (s.mt m).drive.packets && (s.md.mode != .maintain || tested)
  let pkts := match fmtRaster w.2 with
    | some r =>
      if !open' || w.1 = .idle || fld t.params 3 1 != 0 then []
      else
        let shift := s.outShift m o
        let due := packetsDue w.2 r (s.timingBase m o r (v.out o).track) (v.out o).since (s.stepStart (n - 1)) (s.stepStart n)
        (List.range due.length).map (fun i =>
          let d := atD due i (0, false, 0, 0)
          s.linePacket m o t w.1 w.2 r (d.1 + shift) d.2.1 d.2.2.1 d.2.2.2 (t.count + i))
    | none => []
  let s1 : State := { s with vid := s.vid.set m { v with tx := v.tx.put o { t with
    count := (t.count + pkts.length) % 2 ^ 32, sent := pkts } } }
  pkts.foldl (fun acc x => acc.offer m (s.portFor m (t.dest m)) (flowQueue 0) (t.frame m (x.bytes w.2))) s1

/-- The video flows of a mast in step `n`. -/
def State.stepVideo (s : State) (m : Mast) (n : Nat) : State :=
  ((s.vid.get m).tx.filter (fun e => fld e.2.params 3 1 == 0)).foldl (fun acc e => acc.stepFlow m n e.1 e.2) s

/-- A passthrough output forwards a packet of its source, with its sequence number, payload type and SSRC rewritten and its
timestamp and payload copied (R359, R360); in MAINTAIN only a test route does (R124, R382). -/
def State.forwardVideo (s : State) (m : Mast) (o typ : Nat) (r : RtpFacts) (row : VideoRow) : State :=
  let v := s.vid.get m
  match v.tx.find o with
  | none => s
  | some t =>
    let tested := s.tests.any (fun e => e.cls == 1 && e.output == o)
    if !bit (fld t.params 2 1) 0 || !(s.mt m).drive.packets || (s.md.mode = .maintain && !tested) then s
    else
      let x : VideoPkt :=
        { seq := t.count % 2 ^ 16, extended := 0, ts := r.ts % 2 ^ 32, marker := r.marker, payloadType := fld t.params 42 1,
          ssrc := fld t.params 4 4, field2 := false, line := row.line, first := row.first, samples := row.samples,
          deep := row.deep }
      let s1 : State := { s with vid := s.vid.set m { v with tx := v.tx.put o { t with
        count := (t.count + 1) % 2 ^ 16, sent := [x] } } }
      s1.offer m (s.portFor m (t.dest m)) (flowQueue typ) (t.frame m (r.payloadLen + 12))

end Sys2Proof.Machine
end

