-- ==== Sys2Proof/Machine/Video.lean ====
section
/-! DEFINITION. Group 0x07 (R211 to R214, R354, R369, R370, R382) and the events of the video crosspoint (R54, R350, R356,
R357, R363, R368 to R381). -/
namespace Sys2Proof.Machine
open Host

/-! ### Switches -/

/-- The entries of an XPT_SWITCH or XPT_SALVO: output and input (R211). -/
def xptEntries (p : List Byte) : List (Nat × Nat) :=
  (List.range (fld p 0 2)).map (fun i => (fld p (4 + 4 * i) 2, fld p (6 + 4 * i) 2))

/-- Refusals of the entries of a crosspoint command (R7, R179, R211, R370). A variant without the crosspoint lacks what the
command acts on, whatever its entries hold (DESIGN CHOICE, log entry 92). -/
def State.xptRefusals (s : State) (salvo : Bool) (p : List Byte) : List Nat :=
  let n := fld p 0 2
  let es := xptEntries p
  let m := s.lead
  let fams := (es.map (fun e => s.outFamily e.1)).eraseDups
  refuseIf (!Config.hasVideo s.variant || es.any (fun e => videoAbsent s.variant e.1 || videoAbsent s.variant e.2)) stNotPresent ++
  refuseIf (!s.videoRuns) stBadMode ++
  refuseIf (n == 0 || decide (n > (if salvo then 1536 else 64)) || decide (fld p 2 2 > 1) || !distinct (es.map (fun e => e.1)) ||
    es.any (fun e => decide (e.1 > 1535) || (decide (e.2 > 1535) && e.2 != 0xFFFF) || !s.pairFits m e.1 e.2) ||
    (salvo && decide (fams.length > 1))) stBadParam ++
  refuseIf (bit (fld p 2 2) 0 && es.any (fun e => !s.switchClean m e.1 e.2)) stCleanRefused

/-- Switch frames of the entries from the start of the effective step: each output its own first, or the first at or
after the salvo's switch point P0 (R369). -/
def State.switchFrames (s : State) (m : Mast) (salvo : Bool) (eff : Nat) (es : List (Nat × Nat)) :
    List (Nat × Nat × Nat × Nat) :=
  let t0 := s.stepStart eff
  let firsts := es.map (fun e => (s.firstSwitch m e.1 e.2 t0).2)
  let p0 := match firsts with
    | [] => t0
    | t :: ts => ts.foldl (fun a b => min a b) t
  es.map (fun e =>
    let r := s.firstSwitch m e.1 e.2 (if salvo then p0 else t0)
    (e.1, e.2, r.1, s.stepOf r.2))

/-- Requests of an output that a new one for the same frame supersedes (R375). -/
def XptOut.superseded (x : XptOut) (f : Nat) : List XptPending := x.pending.filter (fun p => p.frame == f)

/-- Put one entry on an output of both masts; an earlier request for the same frame that no final decision has refused is superseded,
reported to its own seat and counted in its own command (R375). -/
def State.placeEntry (s : State) (o : Nat) (p : XptPending) : State :=
  let gone := (((s.vid.get s.lead).out o).superseded p.frame).filter (fun q => q.decision != some .refused)
  let s1 := bothMasts.foldl (fun acc m =>
    let x := (acc.vid.get m).out o
    acc.setOut m o { x with pending := x.pending.filter (fun q => q.frame != p.frame) ++ [p] }) s
  gone.foldl (fun acc q =>
    (acc.changeJob q.order (fun j => { j with superseded := j.superseded + 1, left := j.left - 1 })).eventTo q.seat
      acc.lead.code evXptSuperseded q.hostSeq acc.step (be 2 o ++ be 2 q.input ++ be 1 p.seat ++ zeros 3 ++ be 4 p.hostSeq)) s1

/-- Acceptance of a crosspoint command: its switch frames are assigned and its entries wait for them (R369). -/
def State.placeSwitch (s : State) (code seat hostSeq eff : Nat) (p : List Byte) : State :=
  let order := s.hal.nextOrder
  let es := s.switchFrames s.lead (code == 0x0702) eff (xptEntries p)
  let j : XptJob :=
    { code := code, order := order, seat := seat, hostSeq := hostSeq, eff := eff, left := es.length, clean := 0, unclean := 0,
      refused := 0, superseded := 0, first := none }
  es.foldl (fun acc e =>
    acc.placeEntry e.1
      { input := e.2.1, frame := e.2.2.1, q := e.2.2.2, cleanOnly := bit (fld p 2 2) 0, order := order, seat := seat,
        hostSeq := hostSeq, decision := none, track := none, fmt := 0 }) { s with jobs := s.jobs ++ [j] }

/-- XPT_SWITCH (R211, R369, R370). -/
def execXptSwitch (h : Hdr) (p : List Byte) (s : State) : Outcome State Fault Refusal :=
  .next <| s.receive h 0x0701 fun seat s1 =>
    let eff := s1.effectiveStep h
    s1.schedule h seat 0x0701 p (p.length == 4 + 4 * fld p 0 2) (s1.xptRefusals false p) eff 0 fun s2 =>
      (s2.placeSwitch 0x0701 seat h.hostSeq eff p, [])

/-- XPT_SALVO (R211, R369, R370). -/
def execXptSalvo (h : Hdr) (p : List Byte) (s : State) : Outcome State Fault Refusal :=
  .next <| s.receive h 0x0702 fun seat s1 =>
    let eff := s1.effectiveStep h
    s1.schedule h seat 0x0702 p (p.length == 4 + 4 * fld p 0 2) (s1.xptRefusals true p) eff 0 fun s2 =>
      (s2.placeSwitch 0x0702 seat h.hostSeq eff p, [])

/-- A crosspoint command at its effective step: its entries already wait for their frames (R369); presence and mode are
checked again (R172). -/
def State.applyXpt (s : State) (c : SchedCmd) (_ms : List Mast) : State × Nat :=
  let es := xptEntries c.payload
  if !Config.hasVideo s.variant || es.any (fun e => videoAbsent s.variant e.1 || videoAbsent s.variant e.2) then (s, stNotPresent)
  else if !s.videoRuns then (s, stBadMode)
  else (s, stOk)

/-! ### Reads and flow settings -/

/-- XPT_STATUS item (R214). -/
def State.xptItem (s : State) (o : Nat) : List Byte :=
  let x := (s.vid.get s.lead).out o
  let conn := x.input != 0xFFFF
  be 2 x.input ++ be 1 (b01 conn + 2 * b01 x.clean + 4 * b01 (!x.pending.isEmpty)) ++ be 1 x.fmt ++
    be 4 (min ((s.ct s.lead).read (outCounter o)) (2 ^ 32 - 1))

/-- XPT_STATUS (R184, R214). On an EA-2048N the absent outputs 0 to 63 are listed as items that are not connected, so that
FIRST keeps naming a logical output (DESIGN CHOICE, log entry 91). -/
def execXptStatus (h : Hdr) (p : List Byte) (s : State) : Outcome State Fault Refusal :=
  .next <| s.receive h 0x0703 fun seat s1 =>
    let own := refuseIf (!Config.hasVideo s1.variant) stNotPresent ++
      refuseIf (fld p 4 2 = 0 || fld p 6 2 != 0) stBadParam
    s1.runNow h seat 0x0703 (p.length == 8) .package own 8 fun s2 =>
      (s2, pageBytes (fld p 0 4) (fld p 4 2) (s2.fitting h 8 8) 1536 s2.xptItem)

/-- Why a FLOW_RX_SET is refused (R212, R354). -/
def State.flowRxRefusals (s : State) (p : List Byte) : List Nat :=
  let entry := fld p 0 2
  let port := fld p 2 2
  let fl := fld p 4 1
  let mt := fldBytes p 8 44
  let v := s.vid.get s.lead
  let form := decide (entry ≥ 4096) || decide (port > 1535) || decide (port < 64) || decide (fl > 1) || fld p 6 2 != 0 ||
    !matchReserved mt
  let values := decide (fld p 5 1 > 2) || !matchValid mt || v.matchTaken entry mt ||
    v.flows.any (fun e => e.1 != entry && e.2.owner == port)
  refuseIf (!Config.hasVideo s.variant || videoAbsent s.variant port) stNotPresent ++
    refuseIf (!s.videoRuns) stBadMode ++ refuseIf form stBadParam ++
    (if bit fl 0 then refuseIf values stBadParam ++ refuseIf (v.entryTaken entry port) stBusy else [])

/-- FLOW_RX_SET (R212, R354). -/
def execFlowRxSet (h : Hdr) (p : List Byte) (s : State) : Outcome State Fault Refusal :=
  .next <| s.receive h 0x0704 fun seat s1 =>
    s1.schedule h seat 0x0704 p (p.length == 52) (s1.flowRxRefusals p) (s1.effectiveStep h) 0 fun s2 => (s2, [])

/-- Apply a FLOW_RX_SET: the entry is bound, or released and its input delivers nothing (R212, R374, R382). -/
def State.applyFlowRx (s : State) (c : SchedCmd) (ms : List Mast) : State × Nat :=
  let p := c.payload
  let port := fld p 2 2
  if !s.videoRuns then (s, stBadMode)
  else
    let en := bit (fld p 4 1) 0
    let e : FlowEntry := { owner := port, typ := fld p 5 1, flags := fld p 4 1, match' := fldBytes p 8 44 }
    (ms.foldl (fun acc m =>
      let v := acc.vid.get m
      let same := v.flows.find (fld p 0 2) == some e
      let freed := v.flows.filter (fun x => x.2.owner != port)
      let v1 : VideoMast :=
        { v with flows := if en then Assoc.put freed (fld p 0 2) e else freed
                 inputs := if en && same then v.inputs else v.inputs.drop port }
      ({ acc with vid := acc.vid.set m v1 } : State).gauge m (0x6800 + 2 * port) (if en && same then (v.inp port).fmt else 0)) s,
     stOk)

/-- Why a FLOW_TX_SET is refused (R213, R382, R389). -/
def State.flowTxRefusals (s : State) (p : List Byte) : List Nat :=
  let port := fld p 0 2
  let bad := decide (port < 64) || decide (port > 1535) || decide (fld p 2 1 > 1) || decide (fld p 3 1 > 2) ||
    decide (fld p 42 1 < 96) || decide (fld p 42 1 > 127) || decide (fld p 43 1 > 63) || decide (fld p 44 2 > 4095) ||
    fld p 46 2 != 0 || (s.portFor .a (fld p 8 16)).isNone || (s.portFor .b (fld p 24 16)).isNone
  refuseIf (!Config.hasVideo s.variant || videoAbsent s.variant port) stNotPresent ++
    refuseIf (!s.videoRuns) stBadMode ++ refuseIf bad stBadParam

/-- FLOW_TX_SET (R213, R382, R389). -/
def execFlowTxSet (h : Hdr) (p : List Byte) (s : State) : Outcome State Fault Refusal :=
  .next <| s.receive h 0x0705 fun seat s1 =>
    s1.schedule h seat 0x0705 p (p.length == 48) (s1.flowTxRefusals p) (s1.effectiveStep h) 0 fun s2 => (s2, [])

/-- Apply a FLOW_TX_SET: the packet count starts at 0 when the output is enabled (R359); an output whose source its new TYPE
cannot carry is disconnected to HOLD_BLACK, and a new TYPE has emitted nothing (R380, R382). -/
def State.applyFlowTx (s : State) (c : SchedCmd) (ms : List Mast) : State × Nat :=
  let p := c.payload
  let port := fld p 0 2
  if !s.videoRuns then (s, stBadMode)
  else
    (ms.foldl (fun acc m =>
      let v := acc.vid.get m
      let on (t : FlowTx) : Bool := bit (fld t.params 2 1) 0
      let n := match v.tx.find port with
        | some t => if on t then t.count else 0
        | none => 0
      let x := v.out port
      let v1 : VideoMast := { v with tx := v.tx.put port { params := p, count := n, sent := [] } }
      let cut := x.input != 0xFFFF && !typesFit (v.inType x.input) (fld p 3 1)
      let y : XptOut := if cut then x.hold else x
      let z : XptOut := if v.outType port = fld p 3 1 then y else { y with fmt := 0 }
      ({ acc with vid := acc.vid.set m v1 } : State).setOut m port z) s, stOk)

/-- FLOW_READ item of a mast (R214). -/
def State.flowItem (s : State) (m : Mast) (e : Nat) : List Byte :=
  let hits := min ((s.ct m).read (0x4000 + 2 * e)) (2 ^ 32 - 1)
  match (s.vid.get m).flows.find e with
  | some x => be 2 e ++ be 2 x.owner ++ be 1 x.typ ++ be 1 x.flags ++ zeros 2 ++ fit 44 x.match' ++ be 4 hits ++ zeros 8
  | none => be 2 e ++ be 2 0xFFFF ++ zeros 48 ++ be 4 hits ++ zeros 8

/-- The pages of the flow table of each mast that serves (R183, R184, R214). -/
def State.flowPage (s : State) (h : Hdr) (p : List Byte) : List Byte :=
  let fitting := s.fitting h (8 + 8 * s.serving) (64 * Nat.max 1 s.serving)
  s.perMast (fun m => pageBytes (fld p 0 4) (fld p 4 2) fitting 4096 (s.flowItem m))

/-- FLOW_READ (R183, R184, R214): every variant has the 4,096 entries of the table (R2). -/
def execFlowRead (h : Hdr) (p : List Byte) (s : State) : Outcome State Fault Refusal :=
  .next <| s.receive h 0x0706 fun seat s1 =>
    let own := refuseIf (fld p 4 2 = 0 || fld p 6 2 != 0) stBadParam
    s1.runNow h seat 0x0706 (p.length == 8) .perMast own (16 * s1.serving) fun s2 => (s2, s2.flowPage h p)

/-! ### What arrives -/

/-- Put a row into a slack buffer, at 12 bits, keeping the newest 5,120 words (R246, R352, R364). -/
def putRow (rows : List SlackRow) (r : VideoRow) : List SlackRow :=
  let row : SlackRow :=
    { line := r.line, first := r.first, count := r.samples.length,
      words := packSamples (r.samples.map (fun x => if r.deep then x % 4096 else sampleIn10 (x % 1024))) }
  (((rows ++ [row]).reverse).foldl (fun (acc : Nat × List SlackRow) x =>
    if acc.1 + x.words.length ≤ 5120 then (acc.1 + x.words.length, x :: acc.2) else (5121, acc.2)) (0, [])).2

/-- The packets that a sequence number shows to be missing after the newest one received (R54). -/
def VideoSeq.gap (x : VideoSeq) (seq : Nat) : List Nat :=
  let ahead := (seq + 2 ^ 16 - x.seq) % 2 ^ 16
  if ahead < 2 ^ 15 then (List.range (ahead - 1)).map (fun i => (x.seq + 1 + i) % 2 ^ 16) else []

/-- A packet of a flow input is received (R54, R357): packets that are now known to be missing are asked for over the Stay link. -/
def State.videoSeq (s : State) (m : Mast) (port : Nat) (r : RtpFacts) : State :=
  let v := s.vid.get m
  let seq := r.seq % 2 ^ 16
  let ts := r.ts % 2 ^ 32
  let x := v.seqs.getD port { seq := seq, ts := ts, bytes := r.frame.length, missing := [] }
  let gap := x.gap seq
  let newer := decide ((seq + 2 ^ 16 - x.seq) % 2 ^ 16 < 2 ^ 15)
  let y : VideoSeq :=
    { seq := if newer then seq else x.seq, ts := if newer then ts else x.ts, bytes := r.frame.length
      missing := x.missing.filter (fun e => e.1 != seq && decide ((x.seq + 2 ^ 16 - e.1) % 2 ^ 16 < 2 ^ 15)) ++
        gap.map (fun q => (q, ts)) }
  let asked := if s.sharing then gap.map (fun q => (port, q)) else []
  { s with vid := s.vid.set m { v with seqs := v.seqs.put port y
                                       notices := v.notices.filter (fun n => n != (port, seq)) ++ asked } }

/-- A packet of a flow input that passes its checks goes to the outputs that the input feeds (R357, R359, R360): the row of an
ST 2110-20 packet into their slack buffers; a packet of a passthrough input with its header rewritten, into the egress queue of
its type (R390). -/
def State.videoPacket (s : State) (m : Mast) (x : FlowEntry) (r : RtpFacts) (row : VideoRow) : State :=
  let v := s.vid.get m
  let tests := (s.tests.filter (fun t => t.cls == 1 && t.signal == 2 && t.src == x.owner)).map (fun t => t.output)
  let outs := if v.idle then [] else (v.fedBy x.owner ++ tests).eraseDups
  if x.typ = 0 then
    { s with vid := s.vid.set m { v with slack := outs.foldl (fun t o => t.put o (putRow (t.getD o []) row)) v.slack } }
  else outs.foldl (fun acc o => acc.forwardVideo m o x.typ r row) s

/-- Whether a row lies within a recognised geometry (R351, R357). -/
def VideoRow.within (x : VideoRow) (fmt : Nat) : Bool :=
  match fmtRaster fmt with
  | some r => decide (x.line < activeRows fmt r) && decide (x.first + x.samples.length ≤ 2 * r.width) && (x.deep == (fmtKind fmt == 2))
  | none => false

/-- VIDEO_PACKET_RX (R354, R355, R357, R359, R360, R388): a frame with a packet of a bound input, or one that the table misses. -/
def execVideoPacketRx (m : Mast) (r : RtpFacts) (row : VideoRow) (s : State) : Outcome State Fault Refusal :=
  .next <|
    if !s.hears m r.frame.port then s
    else if s.frameBad m r.frame then s.countFrame m r.frame
    else
      match (s.vid.get m).lookup r with
      | none => (s.countFrame m r.frame).flowMiss m r
      | some (e, x) =>
        if x.typ = 3 then s
        else
          let s1 := (s.countFrame m r.frame).bump m (0x4000 + 2 * e) 1
          if x.typ = 0 && (r.version ≠ 2 || r.extras || !row.headerOk || !row.within ((s.vid.get m).inp x.owner).fmt) then s1.bump m (0x4000 + 2 * e + 1) 1
          else (s1.videoSeq m x.owner r).videoPacket m x r row

/-- FLOW_UNREPAIRED (R54, R357): a missing packet of a video input, of the frame with timestamp `ts`, was not delivered in time;
`black` samples leave as black on each output it feeds. -/
def execFlowUnrepaired (m : Mast) (port ts black : Nat) (s : State) : Outcome State Fault Refusal :=
  .next <|
    let v := s.vid.get m
    if (v.binding port).isNone || decide (port < 64) || decide (port > 1535) || !s.serves m then s
    else ((v.fedBy port).foldl (fun acc o => acc.bump m (outCounter o + 1) black) s).markUnrepaired m port (ts % 2 ^ 32)

/-- MEMBERSHIP_QUERY (R355, R356): a mast answers with a report of every group it keeps. -/
def execMembershipQuery (m : Mast) (s : State) : Outcome State Fault Refusal :=
  .next <|
    if s.receives m then s.sendReports m ((s.vid.get m).members.map (fun x => (x, false))) else s

/-- FORMAT_RECOGNISED (R350, R351): two agreeing frames, or FORMAT 0 after loss. The Captain's recognition of a flow is used on
both masts. -/
def execFormatRecognised (m : Mast) (i fmt : Nat) (s : State) : Outcome State Fault Refusal :=
  .next <|
    if !s.videoRuns || !Config.hasVideo s.variant || decide (i > 1535) || videoAbsent s.variant i || !fmtValid fmt || !s.live m then s
    else
      let t := (s.vid.get m).inType i
      let fits := fmt == 0 || (if t = 1 then decide (192 ≤ fmt) && !bit fmt 5 else if t = 2 then decide (192 ≤ fmt) && bit fmt 5
        else decide (fmt < 192)) && (decide (i < 64) || ((s.vid.get m).binding i).isSome)
      let ms := if i < 64 then [m] else if s.isCaptain m then bothMasts else []
      if !fits then s
      else ms.foldl (fun acc k =>
        let x := (acc.vid.get k).inp i
        (acc.setInp k i { x with fmt := fmt, present := decide (fmt ≠ 0),
                                 arrival := if fmt = 0 then none else x.arrival }).gauge k (0x6800 + 2 * i) fmt) s

/-- ARRIVAL_MEASUREMENT (R363, R376): once per frame a mast measures an input: the arrival in TB_0's time and its payload
rate. Where its own copy falls outside the buffer of an output, the `slips` samples it cannot place count there. -/
def execArrivalMeasurement (m : Mast) (i : Nat) (arrival : Int) (rate slips : Nat) (s : State) : Outcome State Fault Refusal :=
  .next <|
    let x := (s.vid.get m).inp i
    if decide (i > 1535) || !s.live m || !s.videoRuns || x.fmt = 0 then s
    else
      let s1 := s.setInp m i { x with arrival := some arrival, rate := rate, present := true }
      let per := framePeriod (fmtRaster x.fmt) (fmtFamily x.fmt)
      let off := wrapHalf (fine (arrival + (s.tb m s.videoPrimary).shift)) per
      let s2 := s1.gauge m (0x6800 + 2 * i + 1) (off.fdiv 6750)
      let v := s2.vid.get m
      (v.fedBy i).foldl (fun acc o =>
        match v.timingRaster o i with
        | none => acc
        | some r =>
          match s2.trackOf m o i (some r) with
          | none => acc
          | some t =>
            let d := wrapHalf (s2.emitPoint v o i - (t - r.half)) (framePeriod (some r) (s.outFamily o))
            if d < 0 ∨ 2 * r.half < d then acc.bump m (outCounter o + 2) slips else acc) s2

/-! ### Switching (R368 to R375) -/

/-- The request of an output whose switch point falls first. -/
def nextDue (x : XptOut) (by' : Nat) : Option XptPending :=
  (x.pending.filter (fun p => decide (p.q ≤ by'))).foldl (fun best p => match best with
    | none => some p
    | some b => if p.frame < b.frame then some p else some b) none

/-- Record a decision on a mast. -/
def State.setDecision (s : State) (m : Mast) (o : Nat) (p : XptPending) : State :=
  let x := (s.vid.get m).out o
  s.setOut m o { x with pending := x.pending.map (fun q => if q.order = p.order ∧ q.frame = p.frame then p else q) }

/-- SWITCH_FINAL_DECISION (R369, R371): at step Q − 8 the Captain decides an output's entry and sends it to the Stoker, which it
reaches or not. A refused entry counts in its command at once. -/
def execSwitchFinalDecision (o : Nat) (reached : Bool) (s : State) : Outcome State Fault Refusal :=
  .next <|
    match s.captain with
    | none => s
    | some c =>
      match nextDue ((s.vid.get c).out o) (s.step + 8) with
      | none => s
      | some p =>
        if p.decision.isSome then s
        else
          let d := s.settleSwitch c o p
          let s1 := s.setDecision c o d
          let s2 := if reached then s1.setDecision c.other o d else s1
          if d.decision = some .refused then
            s2.changeJob p.order (fun j => { j with refused := j.refused + 1, left := j.left - 1 })
          else s2

/-- STOKER_OWN_SWITCH_DECISION (R369): with no decision by step Q − 2 the Stoker decides from its own measurement, and flags the
step as a late commit. -/
def execStokerOwnSwitchDecision (o : Nat) (s : State) : Outcome State Fault Refusal :=
  .next <|
    match bothMasts.find? (fun m => s.tst m == .stoker) with
    | none => s
    | some m =>
      match nextDue ((s.vid.get m).out o) (s.step + 2) with
      | none => s
      | some p =>
        if p.decision.isSome then s
        else (s.setDecision m o (s.settleSwitch m o p)).flag m .lateCommit s.step s.window

/-- The time of the switch point of a request (R368). -/
def State.switchTime (s : State) (m : Mast) (o : Nat) (p : XptPending) : Int :=
  s.switchBase m o p.input + p.frame * framePeriod ((s.vid.get m).timingRaster o p.input) (s.outFamily o)

/-- An output of a mast takes its decided request (R371, R373): its frames begin on a new timing only from the switch point on. -/
def XptOut.switch (x : XptOut) (v : VideoMast) (p : XptPending) (at' : Int) : XptOut :=
  let y : XptOut := { x with pending := x.pending.filter (fun q => !(q.order == p.order && q.frame == p.frame)) }
  let z : XptOut :=
    { y with input := p.input, fmt := p.fmt, since := at', before := if x.fmt = 0 then Option.none else some (x.input, x.track),
             black := p.input != 0xFFFF && (v.inp p.input).fmt == 0 }
  match p.decision with
  | some .clean => { z with clean := true, track := Option.none }
  | some .unclean => { z with clean := false, track := p.track }
  | _ => y

/-- SWITCH_POINT (R368, R371, R375): the switch point of an output's decided request has come, on both masts. -/
def execSwitchPoint (o : Nat) (s : State) : Outcome State Fault Refusal :=
  .next <|
    let lead := s.lead
    match nextDue ((s.vid.get lead).out o) s.step with
    | none => s
    | some p =>
      if p.decision.isNone || s.captain.isNone then s
      else
        let s1 := bothMasts.foldl (fun acc m =>
          let v := acc.vid.get m
          match (v.out o).pending.find? (fun q => q.order == p.order && q.frame == p.frame) with
          | some q =>
            let q1 : XptPending := if q.decision.isSome then q else p
            let acc1 := acc.setOut m o ((v.out o).switch v q1 (acc.switchTime m o q1))
            if q1.decision = some .unclean && s.serves m then acc1.bump m (outCounter o) 1 else acc1
          | none => acc) s
        match p.decision with
        | some .clean => s1.changeJob p.order (fun j =>
            { j with clean := j.clean + 1, left := j.left - 1, first := some (j.first.elim p.q (fun f => Nat.min f p.q)) })
        | some .unclean => s1.changeJob p.order (fun j =>
            { j with unclean := j.unclean + 1, left := j.left - 1, first := some (j.first.elim p.q (fun f => Nat.min f p.q)) })
        | _ => s1

/-- What an output does on a change of its source, by the Captain's measurement (R374). -/
inductive SourceAct where
  | keep
  | black
  | resume
  | retrack (track : Option Int) (fmt : Nat)
  deriving DecidableEq, Repr

/-- Decide a change of the source of an output (R374). -/
def State.sourceAct (s : State) (m : Mast) (o : Nat) (delivers : Bool) : SourceAct :=
  let v := s.vid.get m
  let x := v.out o
  let i := v.inp x.input
  let f := v.emitFmt o x.input
  let r := fmtRaster f
  if !delivers || i.fmt = 0 then .black
  else
    let within := passthrough (v.outType o) || (match x.track with
      | some t => s.insideTrack m o x.input t
      | none => s.insideSlack m o x.input)
    if within && (x.fmt = 0 || f = x.fmt) then (if x.black then .resume else .keep)
    else .retrack (s.trackOf m o x.input r) f

/-- The switch point from which an output is re-tracked (R373, R374): its first from the present step on. -/
def State.retrackPoint (s : State) (m : Mast) (o : Nat) : Int :=
  (s.firstSwitch m o ((s.vid.get m).out o).input (s.stepStart s.step)).2

/-- SOURCE_CHANGE (R374): the Captain tests the source of a connected output at a frame, given whether it delivers; `black`
samples leave as black where it delivers nothing. Both masts apply it. -/
def execSourceChange (o : Nat) (delivers : Bool) (black : Nat) (s : State) : Outcome State Fault Refusal :=
  .next <|
    match s.captain with
    | none => s
    | some c =>
      let x := (s.vid.get c).out o
      if x.input = 0xFFFF || (s.vid.get c).idle then s
      else
        let both (st : State) (f : XptOut → XptOut) : State :=
          bothMasts.foldl (fun acc m => acc.setOut m o (f ((acc.vid.get m).out o))) st
        match s.sourceAct c o delivers with
        | .keep => s
        | .black => (both s (fun y => { y with black := true })).bumpOut o 1 (if x.fmt = 0 then 0 else black)
        | .resume => both s (fun y => { y with black := false, fmt := (s.vid.get c).emitFmt o x.input })
        | .retrack t f =>
          (both s (fun y =>
            { y with black := false, clean := false, track := t, fmt := f, since := s.retrackPoint c o
                     before := if y.fmt = 0 then Option.none else some (y.input, y.track) })).bumpOut o 0 1

/-- Put outputs into HOLD_BLACK in descending order of index until the fabric fits (R379). -/
def VideoMast.overloaded (v : VideoMast) : List Nat → List (Nat × Nat × Nat) → List Nat
  | [], _ => []
  | o :: rest, cs => if v.fits cs then [] else o :: v.overloaded rest (cs.filter (fun c => c.1 != o))

/-- FABRIC_OVERLOAD (R379): a rate has grown past the limit; at the next frame the Captain disconnects outputs from the
highest index down. -/
def execFabricOverload (s : State) : Outcome State Fault Refusal :=
  .next <|
    match s.captain with
    | none => s
    | some c =>
      let v := s.vid.get c
      let cs := v.outputs.map (fun x => (x.1, x.2.input, x.2.fmt))
      let conn := ((v.outputs.filter (fun x => x.2.input != 0xFFFF)).map (fun x => x.1)).reverse
      let gone := v.overloaded conn cs
      if gone.isEmpty then s
      else
        (gone.foldl (fun acc o =>
          (bothMasts.foldl (fun a m => a.setOut m o ((a.vid.get m).out o).hold) acc).bumpOut o 3 1) s).report c 0x27 0xC0000001

/-- CELL_CRC_MISMATCH (R381): a cell error; the targeted self-test of the cell starts. -/
def execCellCrcMismatch (m : Mast) (region cell : Nat) (s : State) : Outcome State Fault Refusal :=
  .next <|
    if decide (region > 3) || decide (cell > 391) || !s.videoRuns || !s.live m || !Config.hasVideo s.variant then s
    else s.report m 0x20 (0x40000000 + region * 512 + cell)

end Sys2Proof.Machine
end

