-- ==== Sys2Proof/Machine/Timing.lean ====
section
/-! DEFINITION. Group 0x08 (R215, R216, R431, R476) and the events of reference selection and holdover (R415 to R432). -/
namespace Sys2Proof.Machine
open Host

/-! ### Reads -/

/-- TIMEBASE_STATUS item of a mast (R215, R434): a Stoker reports its shadow choice in REF. Where no reference is selected, RANK is 0
(DESIGN CHOICE, log entry 110). -/
def State.tbStatus (s : State) (m : Mast) (t : Nat) : List Byte :=
  let x := s.tb m t
  let following := s.tst m = .stoker
  let ref := if following then x.shadow else x.ref
  be 1 x.st.code ++ be 1 (refCode ref) ++ be 1 (ref.elim 0 candRank) ++
    be 1 (b01 (s.pendingSet m t) + 2 * b01 x.jumpRefused + 4 * b01 following) ++ be 4 (s.holdoverS x) ++
    beSigned 4 (toPpb x.freq) ++ beSigned 8 x.pendingNs ++ zeros 12

/-- TIMEBASE_STATUS (R215). -/
def execTimebaseStatus (h : Hdr) (p : List Byte) (s : State) : Outcome State Fault Refusal :=
  .next <| s.receive h 0x0801 fun seat s1 =>
    s1.runNow h seat 0x0801 (p.length == 0) .perMast [] (8 + 128 * s1.serving) fun s2 =>
      (s2, s2.perMast (fun m => ((List.range 4).map (s2.tbStatus m)).flatten))

/-- Candidates that the variant does not have (R415). -/
def State.candHere (s : State) (i : Nat) : Bool := decide (i ≤ 87) && (decide (i < 6) || decide (69 < i) || decide (i - 6 < Config.sdiPorts s.variant))

/-- STATE of a candidate in REFERENCE_STATUS (R215, R420): 4 where a timebase of the mast has it selected. -/
def State.candCode (s : State) (m : Mast) (i : Nat) : Nat :=
  if i = 87 then (if (s.tm m).xoFailed then 0 else 3)
  else
    let sel := (List.range 4).any (fun t =>
      (if s.tst m = .stoker then (s.tb m t).shadow else (s.tb m t).ref) == some i)
    match (s.candShown m i).st with
    | .absent => 0
    | .disqualified => 1
    | .requalifying => 2
    | .qualified => if sel then 4 else 3

/-- REFERENCE_STATUS item of a mast (R215, R419). -/
def State.candItem (s : State) (m : Mast) (i : Nat) : List Byte :=
  let c := s.candShown m i
  let y := if i = 87 then (s.tm m).xoCal.getD 0 else c.last
  let q := match c.st, c.since with
    | .qualified, some t => (s.now - t) / Config.second
    | _, _ => 0
  be 1 i ++ be 1 (candRank i) ++ be 1 (s.candCode m i) ++ be 1 (Nat.min c.bad 255) ++ beSigned 4 (toPpb y) ++ be 4 c.quality ++ be 4 q

/-- The pages of the 88 candidates of each mast that serves (R183, R184, R215). -/
def State.referencePage (s : State) (h : Hdr) (p : List Byte) : List Byte :=
  let fitting := s.fitting h (8 + 8 * s.serving) (16 * Nat.max 1 s.serving)
  s.perMast (fun m => pageBytes (fld p 0 4) (fld p 4 2) fitting 88 (s.candItem m))

/-- REFERENCE_STATUS (R215). -/
def execReferenceStatus (h : Hdr) (p : List Byte) (s : State) : Outcome State Fault Refusal :=
  .next <| s.receive h 0x0802 fun seat s1 =>
    s1.runNow h seat 0x0802 (p.length == 8) .perMast (refuseIf (fld p 4 2 = 0 || fld p 6 2 != 0) stBadParam)
      (16 * s1.serving) fun s2 => (s2, s2.referencePage h p)

/-- TIMING_HISTORY (R215, R430): the seat's own copy is returned and cleared. -/
def execTimingHistory (h : Hdr) (p : List Byte) (s : State) : Outcome State Fault Refusal :=
  .next <| s.receive h 0x0803 fun seat s1 =>
    s1.runNow h seat 0x0803 (p.length == 0) .package [] 8 fun s2 =>
      let x := s2.seat seat
      (s2.setSeat seat { x with stickyAudio := 0, stickyVideo := 0 }, be 4 x.stickyAudio ++ be 4 x.stickyVideo)

/-! ### Frame boundary steps and REALIGN -/

/-- The first frame boundary step at or after a step (R414). -/
def State.boundaryFrom (s : State) (t n : Nat) : Nat :=
  let period : Int := familyPeriod (s.tbFamily t)
  let sh := (s.tb s.lead t).shift
  let start : Int := (n * s.stepTime : Nat)
  let f := -((-(start + sh)).fdiv period)
  ((f * period - sh).fdiv s.stepTime).toNat

/-- Whether a step is a frame boundary step of a timebase (R414). -/
def State.isBoundary (s : State) (t n : Nat) : Bool := s.boundaryFrom t n == n

/-- The step a REALIGN is assigned or names (R216). -/
def State.realignStep (s : State) (h : Hdr) (t : Nat) : Nat :=
  if bit h.flags 15 then h.effStep
  else s.boundaryFrom t (if t = 0 then Nat.max s.assignedStep (s.step + 16 + s.realignFade) else s.assignedStep)

/-- Whether a REALIGN of a timebase is pending (R216). -/
def State.realignPending (s : State) (t : Nat) : Bool :=
  s.hal.sched.any (fun c => c.code == 0x0805 && fld c.payload 0 1 == t) || (s.tb s.lead t).realign.isSome

/-- Whole seconds of consistent observation of a timebase's domain (R475). -/
def State.observed (s : State) (m : Mast) (t : Nat) : Nat := (atD (s.ptp.get m).doms t .reset).observed

/-- Why a REALIGN is refused (R216, R431, R476). -/
def State.realignRefusals (s : State) (h : Hdr) (p : List Byte) : List Nat :=
  let t := fld p 0 1
  let m := s.lead
  let x := s.tb m t
  let named := bit h.flags 15
  refuseIf (decide (t > 3) || fld p 1 3 != 0) stBadParam ++
    refuseIf (t == 0 && decide (x.pendingNs < -100000000)) stBadParam ++
    refuseIf (named && t == 0 && decide (h.effStep < s.step + 16 + s.realignFade)) stStepTooSoon ++
    refuseIf (named && !s.isBoundary t h.effStep) stBadBoundary ++
    refuseIf (s.realignPending t) stBusy ++
    refuseIf (x.jumpRefused && decide (s.observed m t < 30)) stNotSettled ++
    refuseIf (!s.pendingSet m t) stNoPendingOffset

/-- REALIGN (R216, R431, R476). -/
def execRealign (h : Hdr) (p : List Byte) (s : State) : Outcome State Fault Refusal :=
  .next <| s.receive h 0x0805 fun seat s1 =>
    s1.schedule h seat 0x0805 p (p.length == 4) (s1.realignRefusals h p) (s1.realignStep h (fld p 0 1)) 0 fun s2 => (s2, [])

/-- A REALIGN has been applied (R432, R475): its event and sticky bit, and a refused jump ends. -/
def State.realignDone (s : State) (t : Nat) (offset : Int) : State :=
  let m := s.lead
  let s1 := s.changeTb m t (fun x => { x with pendingNs := 0, jumpRefused := false })
  let clear (y : PtpMast) : PtpMast :=
    { y with doms := setAt y.doms t { atD y.doms t .reset with refusedJump := 0, observed := 0 } }
  let s2 : State := if (s.tb m t).jumpRefused then { s1 with ptp := s1.ptp.map clear } else s1
  let s3 := if s2.primaryTb t then s2.sticky t 5 else s2
  s3.event m.code evRealignDone (be 1 t ++ zeros 3 ++ beSigned 8 offset)

/-- The first step k computed on the moved grid of TB_0 (R432). -/
def State.realignResume (s : State) (e : Nat) (offset : Int) : Nat :=
  let k0 := e + s.realignFade
  (k0 + (-((-(3 * offset)).fdiv s.stepTime)).toNat)

/-- Apply a REALIGN at step E (R431, R432, R476): the frame grid moves; for TB_0 the fade down begins. -/
def State.applyRealign (s : State) (c : SchedCmd) (_ms : List Mast) : State × Nat :=
  let t := fld c.payload 0 1
  let m := s.lead
  let x := s.tb m t
  if x.jumpRefused && decide (s.observed m t < 30) then (s, stNotSettled)
  else if !s.pendingSet m t || x.st != .locked then (s, stNoPendingOffset)
  else
    let d := x.pendingNs
    let s1 := s.changeTb m t (fun y => { y with shift := y.shift + 3 * d })
    if t = 0 then
      let r : Realign := { step := s.step, offset := d, resume := s.realignResume s.step d, moved := false }
      (s1.changeTb m t (fun y => { y with realign := some r }), stOk)
    else ((s1.changeTb m t (fun y => { y with realignedAt := some s.step })).realignDone t d, stOk)

/-- The step grid of TB_0 moves at the end of step E + N_R − 1 (R432): steps are numbered on the moved grid from k. Every
other timebase keeps its own instants. -/
def State.gridMoves (s : State) (r : Realign) : State :=
  let move (y : TimingMast) : TimingMast :=
    { y with tbs := (List.range 4).map (fun i =>
        let x := atD y.tbs i .reset
        if i = 0 then { x with shift := x.shift - 3 * r.offset, realign := some { r with moved := true } }
        else { x with shift := x.shift - 3 * r.offset }) }
  { s with tim := s.tim.map move }

/-! ### Telltales and selection -/

/-- A window ends for a candidate (R418, R420): its next state, and whether it has just been disqualified. -/
def Cand.window (c : Cand) (good inTol : Bool) (y : Int) (now : Nat) : Cand × Bool :=
  if !good then ({ c with bad := 0, good := 0 }, false)
  else
    let d : Cand := { c with windows := (y :: c.windows).take 6, bad := if inTol then 0 else c.bad + 1 }
    match c.st with
    | .absent => ({ d with st := .requalifying, good := 0, bad := 0 }, false)
    | .requalifying =>
      if !inTol then ({ d with good := 0 }, false)
      else if d.good + 1 ≥ (if c.ever then 6 else 1) then
        ({ d with st := .qualified, ever := true, good := 0, since := some now }, false)
      else ({ d with good := d.good + 1 }, false)
    | .qualified => if d.bad ≥ 3 then ({ d with st := .disqualified, since := Option.none }, true) else (d, false)
    | .disqualified => if inTol then ({ d with st := .requalifying, good := 0 }, false) else (d, false)

/-- Replace a candidate of a mast. -/
def State.putCand (s : State) (m : Mast) (i : Nat) (c : Cand) : State :=
  let y := s.tm m
  { s with tim := s.tim.set m { y with cands := y.cands.put i c } }

/-- A disqualified candidate of a primary timebase's bitmap: Reef 0, and sticky bit [4] (R429). -/
def State.disqualifiedReport (s : State) (m : Mast) (i : Nat) : State :=
  if s.isCaptain m then
    ([0, s.videoPrimary].eraseDups.filter (fun t => s.lists t i)).foldl (fun acc t =>
      (acc.sticky t 4).report m 0x6D (candSite t i)) s
  else s

/-- A timebase's view of a barred candidate changes; once it is qualified again it is barred no more (R475). -/
def Timebase.barredStep (x : Timebase) (i : Nat) (f : Cand → Cand) : Timebase :=
  match x.barred with
  | some (j, c) => if j = i then { x with barred := if (f c).st = .qualified then none else some (j, f c) } else x
  | none => x

/-- Change a barred candidate in every timebase of a mast that bars it. -/
def State.barredStep (s : State) (m : Mast) (i : Nat) (f : Cand → Cand) : State :=
  let y := s.tm m
  { s with tim := s.tim.set m { y with tbs := y.tbs.map (fun x => x.barredStep i f) } }

/-- The window of one candidate ends. -/
def State.windowEnd (s : State) (m : Mast) (w : WindowRow) : State :=
  if !s.candHere w.cand || w.cand = 87 then s
  else
    let next (c : Cand) : Cand × Bool := c.window w.good (s.inTolerance m w.cand w.offset) w.offset s.now
    let r := next ((s.tm m).cand w.cand)
    let s1 := (s.putCand m w.cand r.1).barredStep m w.cand (fun c => (next c).1)
    if r.2 then s1.disqualifiedReport m w.cand else s1

/-- Follow the reference of each LOCKED timebase, clamped to its tolerance (R425, R428); its frequency is held while a master change is
under observation (R473). -/
def State.followFreq (s : State) (m : Mast) : State :=
  (List.range 4).foldl (fun acc t =>
    let x := acc.tb m t
    match x.ref, x.st with
    | some i, .locked =>
      if (atD (acc.ptp.get m).doms t .reset).change.isSome then acc else
      let lim := candTol i + acc.xoUncertainty m
      let f := max (-lim) (min lim ((acc.tm m).cand i).last)
      acc.changeTb m t (fun y => { y with freq := f, hist := (f :: y.hist).take 13 })
    | _, _ => acc) s

/-- Disagreements of a timebase's selected candidate with its equal-rank rivals (R424): an event at the first window of
each; one ends after 6 windows without it. -/
def State.disagreements (s : State) (m : Mast) (t : Nat) (rows : List Nat) : State :=
  let x := s.tb m t
  match x.ref with
  | none => s.changeTb m t (fun y => { y with disagree := [] })
  | some i =>
    let c := (s.tm m).cand i
    let rivals := (List.range 87).filter (fun j => j != i && s.lists t j && candRank j == candRank i &&
      rows.contains j && ((s.tm m).cand j).st != .absent)
    rivals.foldl (fun acc j =>
      let d := (acc.tm m).cand j
      let open' := (acc.tb m t).disagree.find? (fun e => e.1 == j)
      let rest := (acc.tb m t).disagree.filter (fun e => e.1 != j)
      if disagrees i c.last d.last then
        let acc1 := acc.changeTb m t (fun y => { y with disagree := rest ++ [(j, 0)] })
        match open' with
        | some _ => acc1
        | none => if acc.primaryTb t then
            acc1.event m.code evReferenceDisagree (be 1 t ++ be 1 i ++ be 1 j ++ zeros 1 ++ beSigned 4 (toPpb d.last - toPpb c.last))
          else acc1
      else match open' with
        | some e => acc.changeTb m t (fun y => { y with disagree := if e.2 + 1 ≥ 6 then rest else rest ++ [(j, e.2 + 1)] })
        | none => acc) s

/-- TELLTALE_WINDOW_END (R417 to R425, R428, R434): the windows of a mast's candidates end, 10 s after the ones before; then the Captain evaluates every
timebase, and another mast its shadow choice. -/
def execTelltaleWindowEnd (m : Mast) (rows : List WindowRow) (s : State) : Outcome State Fault Refusal :=
  .next <|
    if !s.telltalesRun m || (s.tm m).windowAt.elim false (fun t => decide (s.now < t + 10 * Config.second)) then s
    else
      let s0 : State := { s with tim := s.tim.set m { s.tm m with windowAt := some s.now } }
      let s1 := rows.foldl (fun acc w => acc.windowEnd m w) s0
      if s1.isCaptain m then
        let s2 := s1.followFreq m
        let s3 := (List.range 4).foldl (fun acc t => acc.disagreements m t (rows.map (fun w => w.cand))) s2
        s3.evaluateAll m 3
      else s1.evaluateAll m 3

/-- A candidate becomes absent on a mast, and a selected one is dropped at once (R415, R420, R423). -/
def State.absent (s : State) (m : Mast) (i : Nat) : State :=
  let c := (s.tm m).cand i
  let gone (c : Cand) : Cand := { c with st := .absent, bad := 0, good := 0, since := none }
  if c.st = .absent then s else ((s.putCand m i (gone c)).barredStep m i gone).evaluateAll m 0

/-- Whether the absence condition of a candidate can hold on what the state shows (R415): an SDI input that is locked with a
format, or an AES3 input that is locked, is not absent. -/
def State.maybeAbsent (s : State) (m : Mast) (i : Nat) : Bool :=
  if 6 ≤ i ∧ i ≤ 69 then
    let x := (s.vid.get m).inp (i - 6)
    !(x.locked && x.fmt != 0)
  else if 70 ≤ i ∧ i ≤ 85 then !((s.aud.get m).aesIn[i - 70]?).elim false (fun x => x.locked)
  else true

/-- Set the RTC from TB_0 less the parent's UTC offset (R482): while TB_0 is LOCKED to a PTP candidate. -/
def State.rtcFromTb (s : State) : State :=
  match s.captain with
  | none => s
  | some c =>
    let x := s.tb c 0
    let i := x.ref.getD 0
    let d := atD (s.ptp.get c).doms (i - 1) .reset
    let par := if s.usesOther c (i - 1) then (atD (s.ptp.get c.other).doms (i - 1) .reset).parent else d.parent
    match par with
    | none => s
    | some a =>
      match a.utc with
      | none => s
      | some u =>
        if x.st != .locked || decide (i < 1) || decide (i > 4) then s
        else
          let y := s.tm c
          { s with
            md := { s.md with nest := { s.md.nest with rtc := (((stepToTime s.rate s.step).1 : Int) - u).toNat, rtcValid := true,
                                                       rtcFrac := 0 } }
            tim := s.tim.set c { y with rtcAt := some s.now } }

/-- TIMEBASE_LOCKED (R419, R426 to R428, R482): the frequency has stayed within 5 ppb of the reference for 10 s. `xo` is what
the Stoker measures of its XO against the output it follows, in tenths of a ppb. -/
def execTimebaseLocked (t : Nat) (xo : Int) (s : State) : Outcome State Fault Refusal :=
  .next <|
    match s.captain with
    | none => s
    | some m =>
      let x := s.tb m t
      if decide (t > 3) || x.st != .acquiring then s
      else
        let f := ((s.tm m).cand (x.ref.getD 87)).last
        let s1 := (s.changeTb m t (fun y => { y with everLocked := true, freq := f, hist := [] })).enterTb m t .locked
        if t ≠ 0 then s1
        else
          let cal (acc : State) (k : Mast) (v : Int) : State :=
            let y := acc.tm k
            if y.xoCal.isSome || y.xoFailed then acc
            else ({ acc with tim := acc.tim.set k { y with xoCal := some v, xoAt := acc.now } } : State).gauge k 0x741C (toPpb v)
          let s2 := cal s1 m (-f)
          (if s2.tst m.other = .stoker then cal s2 m.other xo else s2).rtcFromTb

/-- HOLDOVER_LIMIT (R428, R429). -/
def execHoldoverLimit (t : Nat) (s : State) : Outcome State Fault Refusal :=
  .next <|
    match s.captain with
    | none => s
    | some m =>
      let x := s.tb m t
      let lim := match s.sec.profile with
        | some p => p.global.holdoverLimit
        | none => 86400
      if decide (t > 3) || x.st != .holdover || decide (s.holdoverS x < lim) then s
      else
        let s1 := s.enterTb m t .lost
        if s1.primaryTb t then (s1.sticky t 1).tbFault m t 0xFF 0x6A 0x6C else s1

/-- XO_CHECK (R422, R428, R429): the count of XO cycles in 32,768 of NEST, and whether edges arrive. -/
def execXoCheck (m : Mast) (count : Nat) (edges : Bool) (s : State) : Outcome State Fault Refusal :=
  .next <|
    let y := s.tm m
    let ok := edges && decide (24987500 ≤ count) && decide (count ≤ 25012500)
    if ok || y.xoFailed || !s.telltalesRun m then s
    else
      let s1 : State := { s with tim := s.tim.set m { y with xoFailed := true } }
      let s2 := (List.range 4).foldl (fun acc t => acc.enterTb m t .lost) s1
      s2.report m 0x66 0x70000001

/-- XO_CALIBRATION_UPDATE (R419): every 3,600 s while TB_0 stays LOCKED, c moves towards the XO's mean offset by at most
XO_DRIFT. -/
def execXoCalibrationUpdate (m : Mast) (mean : Int) (s : State) : Outcome State Fault Refusal :=
  .next <|
    let y := s.tm m
    let drift : Int := match s.sec.profile with
      | some p => p.global.xoDrift
      | none => 50
    match y.xoCal with
    | none => s
    | some c =>
      if !s.serves m || (s.tb m 0).st != .locked || decide (s.now < y.xoAt + 3600 * Config.second) || y.xoFailed then s
      else
        let v := c + max (-drift) (min drift (mean - c))
        ({ s with tim := s.tim.set m { y with xoCal := some v, xoAt := s.now } } : State).gauge m 0x741C (toPpb v)

/-- PHASE_MARKER (R427): a LOCKED timebase measures its pending realign offset, in ns; a PPS edge within half a second, a
frame start within half a frame. -/
def execPhaseMarker (t : Nat) (offset : Int) (s : State) : Outcome State Fault Refusal :=
  .next <|
    match s.captain with
    | none => s
    | some m =>
      let x := s.tb m t
      match x.ref with
      | none => s
      | some i =>
        let half : Nat := if i = 0 then 500000000 else familyPeriod (s.tbFamily t) / 6
        let ok := decide (1 ≤ i ∧ i ≤ 4) || decide (offset.natAbs ≤ half)
        if decide (t > 3) || x.st != .locked || !ok || x.realign.isSome then s
        else s.changeTb m t (fun y => { y with pendingNs := if candMarker i then clampSigned 64 offset else 0 })

/-- RTC_UPDATE (R482): once per hour while TB_0 is LOCKED to a PTP candidate; each entry to LOCKED sets it too. -/
def execRtcUpdate (s : State) : Outcome State Fault Refusal :=
  .next <|
    match s.captain with
    | none => s
    | some c =>
      match (s.tm c).rtcAt with
      | some t => if s.now < t + 3600 * Config.second then s else s.rtcFromTb
      | none => s.rtcFromTb

end Sys2Proof.Machine
end

