-- ==== Sys2Proof/Machine/Health.lean ====
section
/-! DEFINITION. The health report (R510, R511): the record of each mast, HEALTH and EV_HEALTH. -/
namespace Sys2Proof.Machine
open Host

/-- A 32-bit figure, saturating. -/
def be4sat (n : Nat) : List Byte := be 4 (Nat.min n (2 ^ 32 - 1))

/-- A 16-bit figure, saturating. -/
def be2sat (n : Nat) : List Byte := be 2 (Nat.min n (2 ^ 16 - 1))

/-- The value of a gauge, zero where it has none. -/
def State.gaugeOf (s : State) (m : Mast) (i : Nat) : Int := ((s.ct m).gauges.find i).getD 0

/-- Increments in the last 10 s of one counter. -/
def State.last10 (s : State) (m : Mast) (i : Nat) : Nat := s.lately m (10 * Config.second) (fun k => k == i)

/-- Increments in the last 10 s of a block of counters at a stride. -/
def State.last10Of (s : State) (m : Mast) (base count stride item : Nat) : Nat :=
  s.lately m (10 * Config.second) (fun k => decide (base ≤ k) && decide (k < base + count) && (k - base) % stride == item)

/-- STATE to LOG_LOST: the first 24 bytes, which a ledger entry keeps as the record's summary. -/
def State.healthSummary (s : State) (m : Mast) : List Byte :=
  let log := (s.fl m).log
  let un := log.filter (fun e => !e.acked)
  let worst := if un.isEmpty then 0xFF else un.foldl (fun (n : Nat) e => Nat.max n e.reef) 0
  be 2 1 ++ be 2 384 ++ be 1 (s.tst m).code ++ be 1 s.md.mode.code ++ be 1 worst ++ zeros 1 ++ be 8 s.step ++
  be 2 un.length ++ be 2 log.length ++ be4sat ((s.ct m).read 0x0101)

/-- TEMPS: a gated die, or one not read yet, gives 0x8000. -/
def State.healthTemps (s : State) (m : Mast) : List Byte :=
  let die (i : Nat) (on : Bool) : List Byte :=
    match on, ((s.sup.get m).temps[i]?).elim none (fun t => t.value) with
    | true, some v => beSigned 2 v
    | _, _ => be 2 0x8000
  die 0 (s.md.mixOn.get m) ++ die 1 (s.md.routeOn.get m) ++ die 2 true ++ zeros 2

/-- SPARE_UNITS in step `now`: the spare unit, number 16, serves a position (R231). -/
def MemMast.spareUnits (x : MemMast) (now : Nat) : Nat :=
  (List.range 32).foldl (fun (n c : Nat) =>
    let mine := (x.unitsOut.filter (fun u => u.1 / 32 == c && decide (u.2 ≤ now))).map (fun u => u.1)
    if mine.any (fun u => u % 32 != 16) && !mine.any (fun u => u % 32 == 16) then n + 2 ^ c else n) 0

/-- Spare cells in use in a Route region in step `now` (R381). -/
def VideoMast.cellSpares (v : VideoMast) (now r : Nat) : Nat :=
  ((cellPlan ((v.cellsOut.filter (fun c => c.1 / 512 == r && decide (c.2 ≤ now))).map (fun c => c.1 % 512))).1).length

/-- ROWS_FREE_MIN: each bank has 8 spare rows (R515). -/
def MemMast.rowsFreeMin (x : MemMast) : Nat :=
  (x.repair.filter (fun e => e.typ == 1)).foldl (fun (n : Nat) e =>
    Nat.min n (8 - (x.rowSpares e.memory e.bank).eraseDups.length)) 8

/-- SPARE_UNITS to LANES_DOWN. -/
def State.healthRepairs (s : State) (m : Mast) : List Byte :=
  let x := s.mem.get m
  let v := s.vid.get m
  let lanes := (s.lan.get m).lanes
  be 4 (x.spareUnits s.step) ++ be 4 x.clustersOut ++
  be 1 (v.cellSpares s.step 3) ++ be 1 (v.cellSpares s.step 2) ++ be 1 (v.cellSpares s.step 1) ++ be 1 (v.cellSpares s.step 0) ++
  be2sat x.rowsSpared ++ be 2 x.rowsFreeMin ++ be 2 (lanes.filter (fun l => l.2.st == .retired)).length ++
  be 2 (lanes.filter (fun l => l.2.st == .down)).length

/-- ECC_CORR to LATE_DEPARTURES. -/
def State.healthCounts (s : State) (m : Mast) : List Byte :=
  be4sat (s.last10Of m 0x0200 128 2 0) ++ be4sat (s.last10Of m 0x0200 128 2 1) ++ be4sat (s.last10 m 0x6007) ++
  ((List.range 8).map (fun g => be4sat (s.last10 m (0x0300 + 8 * g)))).flatten

/-- AVS_DEMAND to AGEING, with the reserved bytes that follow. -/
def State.healthSupplies (s : State) (m : Mast) : List Byte :=
  let x := s.sup.get m
  ((List.range 12).map (fun g => be 2 (atD x.demand g 0))).flatten ++
  ((List.range 3).map (fun i => be 2 ((x.regs[i]?).elim 0 (fun r => r.setMv)))).flatten ++ zeros 2 ++
  ((List.range 12).map (fun g =>
    be4sat (s.last10 m (0x0300 + 8 * g + 1)) ++ be4sat (s.last10 m (0x0300 + 8 * g + 2)))).flatten ++
  ((List.range 12).map (fun g => beSigned 2 (s.gaugeOf m (0x7410 + g)))).flatten ++ zeros 8

/-- TIMEBASES, XO_CAL, SAGS and GATE_TIMEOUTS. -/
def State.healthTiming (s : State) (m : Mast) : List Byte :=
  ((List.range 4).map (fun t =>
    let st := s.tbStatus m t
    let x := s.tb m t
    let ref := if s.tst m = .stoker then x.shadow else x.ref
    fldBytes st 0 2 ++ fldBytes st 3 1 ++ zeros 1 ++ be 4 (ref.elim 0 (fun i => ((s.tm m).cand i).quality)))).flatten ++
  beSigned 4 (toPpb ((s.tm m).xoCal.getD 0)) ++
  be4sat (s.lately m (60 * Config.second) (fun k => decide (0x0110 ≤ k) && decide (k < 0x0120))) ++
  be4sat (s.last10Of m 0x0300 96 8 7) ++ zeros 4

/-- The lane with the lowest figure of a kind, among powered lanes measured in the last 10 s. Where there is none, the spec
states no value: a free one (log entry 1). -/
def State.eyeLow (s : State) (m : Mast) (horizontal : Bool) : List Byte :=
  let one (l : Nat × Lane) : List (Nat × Nat) :=
    if l.2.st = .unpowered ∨ l.2.st = .retired then []
    else (l.2.eyes.filter (fun e => decide (s.now ≤ e.1 + 10 * Config.second))).map (fun e =>
      (if horizontal then e.2.2 else e.2.1, l.1))
  let all := ((s.lan.get m).lanes.map one).flatten
  match all with
  | [] => be 4 (Config.freeNat (s.freeCount + 2 * m.code + b01 horizontal))
  | y :: ys =>
    let w := ys.foldl (fun a b => if b.1 < a.1 then b else a) y
    be 2 w.1 ++ be 2 w.2

/-- The ASRC estimates of a mast against the Captain's: the number of each channel and the difference in ppb (R56, R511). -/
def State.asrcDevs (s : State) (m : Mast) : List (Nat × Nat) :=
  let a := s.aud.get m
  let dev (f : Feed) : Nat :=
    let c := f.estimateAt s.step
    if c = 0 then 0 else (if f.own < c then c - f.own else f.own - c) * 1000000000 / c
  ((List.range a.aesIn.length).map (fun i => (portKey 0 i, (a.aesIn[i]?).elim 0 (fun x => dev x.feed)))) ++
  ((a.rx.filter (fun x => x.2.async)).map (fun x => (portKey 2 x.1, dev x.2.feed))) ++
  ((a.sdi.filter (fun x => x.2.inGroups != 0)).map (fun x => (portKey 4 x.1, dev x.2.feed)))

/-- SINGLE_HOMED: bits 0 to 15 AES3 inputs, 16 to 79 SDI inputs. -/
def State.singleMap (s : State) : Nat :=
  let on := (s.aud.get s.lead).single
  (List.range 80).foldl (fun (n i : Nat) =>
    if on.contains (if i < 16 then i else portKey 4 (i - 16)) then n + 2 ^ i else n) 0

/-- EYE_MIN to the end of the record. -/
def State.healthLinks (s : State) (m : Mast) : List Byte :=
  let w := if s.isCaptain m then (0, 0) else (s.asrcDevs m).foldl (fun a b => if a.2 < b.2 then b else a) (0, 0)
  s.eyeLow m false ++ s.eyeLow m true ++ be 1 (s.stayAligned m) ++ be 1 (s.shroudAligned m) ++ zeros 6 ++
  be4sat (s.last10Of m 0x0300 96 8 3) ++ be4sat (s.last10Of m 0x0300 96 8 4) ++
  be4sat (s.lately m (60 * Config.second) (fun k => decide (0x0300 ≤ k) && decide (k < 0x0360) && (k - 0x0300) % 8 == 5)) ++
  be 10 s.singleMap ++ zeros 2 ++ be4sat w.2 ++ be 2 (Config.poolChannel w.1 % 1536) ++ zeros 2 ++
  ((List.range 3).map (fun t => be4sat (s.last10Of m (0x0140 + 16 * t) 16 1 0))).flatten ++
  be4sat s.tan.pairing.refusals ++ be4sat s.tan.pairing.beacons ++ be4sat (s.last10 m 0x6000) ++
  be4sat (s.last10Of m 0x0C00 2372 4 1) ++ zeros 4

/-- The health record of a mast (R511): 384 bytes. -/
def State.healthRecord (s : State) (m : Mast) : List Byte :=
  fit 384 (s.healthSummary m ++ s.healthTemps m ++ s.healthRepairs m ++ s.healthCounts m ++ s.healthSupplies m ++ s.healthTiming m ++
    s.healthLinks m)

/-- HEALTH (R220, R510). -/
def execHealth (h : Hdr) (p : List Byte) (s : State) : Outcome State Fault Refusal :=
  .next <| s.receive h 0x0A06 fun seat s1 =>
    s1.runNow h seat 0x0A06 (p.length == 0) .perMast [] (8 + 384 * s1.serving) fun s2 =>
      ({ s2 with freeCount := s2.freeCount + 4 }, s2.perMast s2.healthRecord)

/-- The modes in which EV_HEALTH is raised (R510). -/
def healthMode : Mode → Bool
  | .watch => true
  | .quiet => true
  | .service => true
  | .alarm => true
  | .maintain => true
  | .vault => false
  | .boot => false
  | .lockout => false

/-- HEALTH_EVENT (R510): at a step that is a multiple of 10 R, each mast that serves raises EV_HEALTH with its record. -/
def execHealthEvent (s : State) : Outcome State Fault Refusal :=
  .next <|
    if s.step % (10 * s.rate) != 0 || !healthMode s.md.mode then s
    else
      let one (acc : State) (m : Mast) : State :=
        if s.serves m then acc.event m.code evHealth (s.healthRecord m) else acc
      { one (one s .a) .b with freeCount := s.freeCount + 4 }

end Sys2Proof.Machine
end

