-- ==== Sys2Proof/Machine/HostPorts.lean ====
section
/-! DEFINITION. The transports of a mast: the host register window and its rings, the serial port, the management
lane, and the resets of their engines (R145 to R152, R549 to R555). -/
namespace Sys2Proof.Machine
open Host

/-- The host port of a mast. -/
def State.hp (s : State) (m : Mast) : HostPort := s.port.get m

/-- Replace the host port of a mast. -/
def State.setHp (s : State) (m : Mast) (p : HostPort) : State := { s with port := s.port.set m p }

/-- Replace the window of a mast. -/
def State.setWindow (s : State) (m : Mast) (w : Window) : State := s.setHp m { s.hp m with window := w }

/-- The window answers from BOOT phase B onwards, and never in VAULT (R551). -/
def State.windowAnswers (s : State) (m : Mast) : Bool :=
  s.md.mode != .vault && (s.md.boot.get m).powerGood && !(s.md.boot.get m).held && (s.md.boot.get m).phase != 1

/-- A mast is in BOOT (R111). -/
def State.booting (s : State) (m : Mast) : Bool := s.md.mode = .boot || (s.md.boot.get m).phase != 0

/-- CMD_TAIL_DOORBELL: ignored while ENABLE is 0; descriptors are to be fetched from CMD_HEAD up to CMD_TAIL, none before the end of
BOOT (R147, R554). -/
def execCmdTailDoorbell (m : Mast) (v : Nat) (s : State) : Outcome State Fault Refusal :=
  .next <|
    let p := s.hp m
    if !s.windowAnswers m || !p.window.ringEnable then s
    else s.setHp m { p with
      window := { p.window with cmdTail := v % 256 }
      ring := { p.ring with fetching := p.ring.fetching || p.window.cmdHead != v % 256 } }

/-- Bytes a packet takes in a mailbox ring: segments of up to 4,096 bytes, each with its 8-byte header and padded to
16 bytes (R549). -/
def segmentBytes (len : Nat) : Nat :=
  (len / 4096) * 4112 + (if len % 4096 = 0 then 0 else (8 + len % 4096 + 15) / 16 * 16)

/-- Advance a pointer of a 32,704-byte ring whose data starts at `base` (R549). -/
def ringAdvance (base ptr n : Nat) : Nat := base + (ptr - base + n) % 32704

/-- A whole packet is published in the inbound ring (R549, R550). -/
def HostPort.deliver (p : HostPort) (t : Transport) (len : Nat) : HostPort :=
  ({ p with mailbox := { p.mailbox with inWr := ringAdvance 0x40 p.mailbox.inWr (segmentBytes len) } }).setInQ t
    (p.inQ t ++ [len])

/-- COMMAND_DESCRIPTOR_DONE: a fetched descriptor owned by the device is read; DESC_STATUS is 2 on a DMA error, 1 on a
length error (BUF_LEN below 56 or above MAX_PACKET, log entry 9), else 0. It is written back with OWN clear, and CMD_HEAD advances;
a status other than 0 carries no packet into Halyard (R146 to R148). -/
def execCommandDescriptorDone (m : Mast) (d : Desc) (dmaError : Bool) (s : State) :
    Outcome State Fault Refusal :=
  .next <|
    let p := s.hp m
    if !d.own || !p.ring.fetching || s.booting m then s
    else
      let head := (p.window.cmdHead + 1) % 256
      let st := if dmaError then 2 else if d.len < 56 || decide (d.len > p.window.maxPacket) then 1 else 0
      let p1 : HostPort := { p with
        window := { p.window with cmdHead := head }
        ring := { p.ring with
          fetching := p.window.ringEnable && head != p.window.cmdTail
          cmdDone := p.ring.cmdDone.put p.window.cmdHead { d with own := false, status := st } } }
      let p2 := p1.cause 1 s.now
      if st = 0 then s.setHp m (p2.deliver .pcie d.len)
      else (s.setHp m (p2.cause 3 s.now)).discard m .pcie (10 + st)

/-- REPLY_TAIL_DOORBELL: ignored while ENABLE is 0 (R147, R554). -/
def execReplyTailDoorbell (m : Mast) (v : Nat) (s : State) : Outcome State Fault Refusal :=
  .next <|
    let p := s.hp m
    if !s.windowAnswers m || !p.window.ringEnable then s
    else s.setWindow m { p.window with replyTail := v % 256 }

/-- A packet leaves through the outbound mailbox ring (R549). -/
def HostPort.sent (p : HostPort) (q : Packet) : HostPort :=
  let wr := ringAdvance 0x8040 p.mailbox.outWr (segmentBytes q.size)
  { p with mailbox := { p.mailbox with outWr := wr, outRd := wr }, lastPacket := some q }

/-- REPLY_PACKET_WRITE: the next outgoing packet goes into the next posted buffer, whose BUF_LEN, DESC_STATUS and OWN are written
back, and REPLY_HEAD advances; on a DMA error, or in a buffer that is too short, the packet waits for the next buffer (log entry 9)
and DESC_ERROR is raised (R146 to R148). A buffer that the device does not own waits. -/
def execReplyPacketWrite (m : Mast) (d : Desc) (dmaError : Bool) (s : State) : Outcome State Fault Refusal :=
  .next <|
    let p := s.hp m
    if !d.own || !p.window.ringEnable || p.window.replyHead = p.window.replyTail then s
    else
      match p.outPcie with
      | [] => s
      | q :: rest =>
        let st := if dmaError then 2 else if d.len < q.size then 1 else 0
        let d1 : Desc := { d with len := if st = 0 then q.size else d.len, own := false, status := st }
        let p1 : HostPort := { p with
          window := { p.window with replyHead := (p.window.replyHead + 1) % 256 }
          ring := { p.ring with replyDone := p.ring.replyDone.put p.window.replyHead d1 } }
        if st ≠ 0 then s.setHp m (p1.cause 3 s.now)
        else s.setHp m (({ p1 with outPcie := rest }).sent q |>.cause 0 s.now)

/-- RING_ENABLE_WRITE (R147, R554): 0 to 1 zeroes the ring indices; a zero stops further fetches once the current
descriptor is done. -/
def execRingEnableWrite (m : Mast) (v : Nat) (s : State) : Outcome State Fault Refusal :=
  .next <|
    let p := s.hp m
    if !s.windowAnswers m then s
    else if bit v 0 && !p.window.ringEnable then
      s.setHp m { p with
        window := { p.window with ringEnable := true, cmdHead := 0, cmdTail := 0, replyHead := 0, replyTail := 0 }
        ring := { p.ring with fetching := false } }
    else s.setWindow m { p.window with ringEnable := bit v 0 }

/-- INT_STATUS_CLEAR: W1C (R148, R553). -/
def execIntStatusClear (m : Mast) (v : Nat) (s : State) : Outcome State Fault Refusal :=
  .next <|
    if !s.windowAnswers m then s
    else
      let w := (s.hp m).window
      s.setWindow m { w with intStatus := clearOnes w.intStatus v }

/-- INT_ENABLE_WRITE: a bit written to 1 while its cause bit is 1 signals its vector (R553). -/
def execIntEnableWrite (m : Mast) (v : Nat) (s : State) : Outcome State Fault Refusal :=
  .next <|
    if !s.windowAnswers m then s
    else
      let p := s.hp m
      let p1 : HostPort := { p with window := { p.window with intEnable := v % 16 } }
      s.setHp m ((List.range 4).foldl (fun acc i =>
        if bit v i && bit p.window.intStatus i then acc.signalHeld i s.now else acc) p1)

/-- MSIX_HOLDOFF_EXPIRY: a held vector 0 message is signalled once INT_HOLDOFF has passed since the last (R553). -/
def execMsixHoldoffExpiry (m : Mast) (s : State) : Outcome State Fault Refusal :=
  .next <|
    let p := s.hp m
    if p.ring.msi0Held && decide (s.now ≥ p.ring.lastMsi0 + p.window.intHoldoff * Config.usec) then
      s.setHp m (({ p with ring := { p.ring with msi0Held := false } }).signal 0 s.now)
    else s

/-- The 64-bit fields of the window (R552): their value by the offset of the low half. -/
def Window.wide (w : Window) (off : Nat) : Option Nat :=
  if off = 0x040 then some w.cmdRingBase
  else if off = 0x048 then some w.replyRingBase
  else if off = 0x900 then some w.msixPba
  else none

/-- Write a 64-bit field: the ring bases keep their 4 KiB alignment and ignore writes while ENABLE is 1 (R552,
R554). -/
def Window.putWide (w : Window) (off v : Nat) : Window :=
  if w.ringEnable then w
  else if off = 0x040 then { w with cmdRingBase := v / 4096 * 4096 }
  else if off = 0x048 then { w with replyRingBase := v / 4096 * 4096 }
  else w

/-- WINDOW_HIGH_HALF_LATCH: a read of a low half latches the high half; a write to a low half is held until the high
half is written, and both then take effect together (R551). `write` tells a write from a read. -/
def execWindowHighHalfLatch (m : Mast) (write : Bool) (off v : Nat) (s : State) : Outcome State Fault Refusal :=
  .next <|
    if !s.windowAnswers m then s
    else
      let w := (s.hp m).window
      match w.wide off with
      | some cur =>
        if write then s.setWindow m { w with heldLow := w.heldLow.put off (v % 2 ^ 32) }
        else s.setWindow m { w with readLatch := cur / 2 ^ 32 }
      | none =>
        match w.wide (off - 4) with
        | some cur =>
          if write && decide (4 ≤ off) then
            let low := Assoc.getD w.heldLow (off - 4) (cur % 2 ^ 32)
            s.setWindow m { (w.putWide (off - 4) (v % 2 ^ 32 * 2 ^ 32 + low)) with heldLow := w.heldLow.drop (off - 4) }
          else s
        | none => s

/-- An unmasked vector whose pending bit is set is signalled (R552; the MSI-X rule is PRESUMED, log entry 9). -/
def HostPort.unmaskPending (p : HostPort) (now : Nat) : HostPort :=
  (List.range 4).foldl (fun acc v =>
    if bit acc.window.msixPba v && !bit (atD acc.window.msixTable (4 * v + 3) 1) 0 then
      ({ acc with window := { acc.window with msixPba := acc.window.msixPba - 2 ^ v } }).signal v now
    else acc) p

/-- WINDOW_REGISTER_WRITE: an aligned 32-bit write to a field that has no behaviour of its own (R551, R552, R554).
`playHere` and `recHere` say whether the host rings are on this mast (R338). -/
def State.windowWrite (s : State) (m : Mast) (off v : Nat) (playHere recHere : Bool) : State :=
  let p := s.hp m
  let w := p.window
  if !s.windowAnswers m || off % 4 ≠ 0 then s
  else if off = 0x020 then s.setWindow m { w with intHoldoff := v % 2 ^ 16 }
  else if off = 0x050 then
    if w.ringEnable || decide (v < 4096) || decide (v > Config.maxPacketBytes) then s
    else s.setWindow m { w with maxPacket := v }
  else if off = 0x080 then if playHere then s.setWindow m { w with playWr := v % 2 ^ 32 } else s
  else if off = 0x08C then if recHere then s.setWindow m { w with recRd := v % 2 ^ 32 } else s
  else if 0x800 ≤ off ∧ off < 0x840 then
    s.setHp m (({ p with window := { w with msixTable := setAt w.msixTable ((off - 0x800) / 4) (v % 2 ^ 32) } }).unmaskPending
      s.now)
  else s

/-- WINDOW_REGISTER_WRITE (R551, R552): the pointers of the host rings are writable on the mast that holds the ring (R338). -/
def execWindowRegisterWrite (m : Mast) (off v : Nat) (s : State) : Outcome State Fault Refusal :=
  let a := s.aud.get m
  .next (s.windowWrite m off v (a.play.any (fun g => g.mast == m)) (a.rec'.any (fun g => g.mast == m)))

/-- A transport engine is reset (R550): unpublished bytes are dropped; a packet with FIRST but no LAST published ends
in an ABORT segment and counts under cause 4; a complete packet is not touched. -/
def State.engineReset (s : State) (m : Mast) (t : Transport) (x : Transfer) : State :=
  match x with
  | .nothing => s
  | .unpublished => s
  | .complete => s
  | .firstPublished =>
    let p := s.hp m
    (s.setHp m { p with mailbox := { p.mailbox with inWr := ringAdvance 0x40 p.mailbox.inWr 16 } }).discard m t 4

/-- PCIE_RESET: the window returns to its reset values and descriptors in transfer are abandoned; the outbound queue
and complete packets stay (R545, R555). -/
def execPcieReset (m : Mast) (x : Transfer) (s : State) : Outcome State Fault Refusal :=
  .next <|
    if s.md.mode = .vault then s
    else (s.setHp m { s.hp m with window := Window.reset, ring := RingState.reset }).engineReset m .pcie x

/-- Bytes waiting in the serial inbound buffer (R150). -/
def HostPort.cspUsed (p : HostPort) : Nat := p.inCsp.foldl (· + ·) 0

/-- ROOM: at least 65,592 of the 131,072 bytes are free (R150). -/
def HostPort.cspRoom (p : HostPort) : Bool := decide (p.cspUsed + Config.maxPacketBytes ≤ Config.queueBytes)

/-- The serial port returns bytes after a transfer's first (R149). -/
def State.returned (s : State) (m : Mast) (bs : List Byte) : State := s.setHp m { s.hp m with lastRead := bs }

/-- CSP_WRITE: a packet into the inbound buffer; discarded in BOOT, without ROOM, or where its length at deselection
is not 56 + PAYLOAD_LEN (R111, R150). The device returns zero bytes (R149). -/
def execCspWrite (m : Mast) (wireLen payloadLen : Nat) (s : State) : Outcome State Fault Refusal :=
  .next <|
    if s.md.mode = .vault then s
    else
      let s1 := s.returned m (zeros wireLen)
      if s.booting m then s1.discard m .csp 7
      else if !(s.hp m).cspRoom then s1.discard m .csp 9
      else if wireLen ≠ 56 + payloadLen then s1.discard m .csp 4
      else s1.setHp m ((s1.hp m).deliver .csp wireLen)

/-- CSP_READ: 4 zero bytes, the length and the packet; the packet leaves the queue only when all its bytes have been
clocked out (R149, R150). `clocked` counts the packet bytes clocked. -/
def execCspRead (m : Mast) (clocked : Nat) (s : State) : Outcome State Fault Refusal :=
  .next <|
    if s.md.mode = .vault then s
    else
      let p := s.hp m
      match p.outCsp with
      | [] => s.setHp m { p with lastRead := zeros 4 ++ be 4 0 }
      | q :: rest =>
        let p1 : HostPort := { p with lastRead := zeros 4 ++ be 4 q.size ++ q.wire.take clocked }
        if clocked ≥ q.size then s.setHp m (({ p1 with outCsp := rest }).sent q) else s.setHp m p1

/-- The serial status byte (R150). -/
def State.cspStatus (s : State) (m : Mast) : Nat :=
  let p := s.hp m
  128 * b01 (!p.outCsp.isEmpty) + 64 * b01 p.cspRoom + 32 * b01 p.cspDiscarded + 16 * b01 (s.tst m = .captain) +
    8 * b01 (s.booting m)

/-- CSP_STATUS: one zero byte and the status byte; DISCARDED is cleared by the read (R149, R150). -/
def execCspStatus (m : Mast) (s : State) : Outcome State Fault Refusal :=
  .next <|
    if s.md.mode = .vault then s
    else s.setHp m { s.hp m with lastRead := zeros 1 ++ be 1 (s.cspStatus m), cspDiscarded := false }

/-- CSP_FRAMING_DISCARD: a transfer whose first byte is none of 0x01, 0x02, 0x05 (R149). -/
def execCspFramingDiscard (m : Mast) (first : Nat) (s : State) : Outcome State Fault Refusal :=
  .next <|
    if s.md.mode = .vault || [0x01, 0x02, 0x05].contains first then s else s.discard m .csp 8

/-- TRANSPORT_ENGINE_RESET (R545, R550). -/
def execTransportEngineReset (m : Mast) (t : Transport) (x : Transfer) (s : State) : Outcome State Fault Refusal :=
  .next (if s.md.mode = .vault then s else s.engineReset m t x)

/-- MGMT_SERVICE_FRAME: ARP, neighbour discovery and ICMP echo are answered and nothing else; IP fragments are
discarded and counted (R151). -/
def execMgmtServiceFrame (m : Mast) (f : ServiceFrame) (s : State) : Outcome State Fault Refusal :=
  .next <|
    if s.md.mode = .vault then s
    else
      match f with
      | .fragment => s.discard m .mgmt 10
      | .other => s
      | .arp => s.setHp m { s.hp m with serviceAnswers := (s.hp m).serviceAnswers + 1 }
      | .neighbour => s.setHp m { s.hp m with serviceAnswers := (s.hp m).serviceAnswers + 1 }
      | .icmpEcho => s.setHp m { s.hp m with serviceAnswers := (s.hp m).serviceAnswers + 1 }

end Sys2Proof.Machine
end

