-- ==== Sys2Proof/Machine/LinkCode.lean ====
section
/-! DEFINITION. The block coding of the Stay and Shroud links: CRC-8, MARKER, TANDEM and START payloads, the scrambler
and bit stuffing (R400 to R406). -/
namespace Sys2Proof.Machine

/-- One step of CRC-8 with x^8 + x^2 + x + 1, most significant bit first (R402). -/
def crc8Bit (c : Nat) (b : Bool) : Nat :=
  let c1 := 2 * c % 256
  if (bit c 7) != b then c1 ^^^ 7 else c1

/-- CRC-8 over the top `n` bits of a 64-bit payload, from bit 63 down. -/
def crc8From (p : Nat) : Nat → Nat → Nat
  | 0, c => c
  | n + 1, c => crc8From p n (crc8Bit c (bit p (n + 8)))

/-- CRC-8 over P[63:8] (R402). -/
def crc8 (p : Nat) : Nat := crc8From p 56 0

/-- A payload with its CRC-8 in [7:0]. -/
def withCrc8 (p : Nat) : Nat := p / 256 * 256 + crc8 p

/-- The MARKER payload (R402): LINK 0 Stay, 1 Shroud. -/
def markerPayload (link lane mast seed frame : Nat) : Nat :=
  withCrc8 (0x4D * 2 ^ 56 + link * 2 ^ 54 + lane * 2 ^ 49 + mast * 2 ^ 48 + seed * 2 ^ 16 + frame % 256 * 2 ^ 8)

/-- The TANDEM payload (R402). -/
def tandemPayload (mast state mode step : Nat) : Nat :=
  withCrc8 (0x5A * 2 ^ 56 + mast * 2 ^ 55 + state * 2 ^ 52 + mode * 2 ^ 49 + step % 2 ^ 40 * 2 ^ 8)

/-- A TANDEM payload is valid: CTYPE, reserved bit, CRC and STATE code (R401, R402). -/
def tandemValid (p : Nat) : Bool :=
  bitsOf p 63 56 == 0x5A && !bit p 48 && decide (p % 256 = crc8 p) && decide (bitsOf p 54 52 < 4)

/-- The next 31 bits of the scrambler's shift register hold p(n) to p(n + 30), p(n) in bit 30 (R403). -/
def prbsNext (r : Nat) : Nat := 2 * r % 2 ^ 31 + b01 (bit r 30 != bit r 27)

/-- `n` bits of the scrambler from a register, first bit first (R403). -/
def prbsBits : Nat → Nat → List Bool
  | 0, _ => []
  | n + 1, r => bit r 30 :: prbsBits n (prbsNext r)

/-- A payload scrambled with the first 64 bits of a frame (R403). -/
def scrambleFirst (seed payload : Nat) : Nat :=
  (prbsBits 64 seed).foldl (fun acc b => 2 * acc + b01 b) 0 ^^^ payload

/-- The line bits of a block, in line order, before stuffing (R400). -/
def blockBits (header payload : Nat) : List Bool :=
  bit header 1 :: bit header 0 :: (List.range 64).map (fun i => bit payload (63 - i))

/-- Stuffing (R404): after each bit that brings the run to 24, one bit of the opposite value. The state is the last line
bit and the run's count. -/
def stuff : List Bool → Bool → Nat → List Bool
  | [], _, _ => []
  | b :: rest, last, c =>
    let n := if b = last then c + 1 else 1
    if n = 24 then b :: (!b) :: stuff rest (!b) 1 else b :: stuff rest b n

/-- The START payload of a container (R406). LENGTH counts data blocks less one. -/
def startPayload (cls length seq : Nat) : Nat :=
  0x33 * 2 ^ 56 + cls * 2 ^ 52 + length % 256 * 2 ^ 32 + seq % 2 ^ 32

/-- Destuffing of a raw bit stream (R404): the bit after each run of 24 is removed; the second part counts those that violate stuffing. -/
def destuff : List Bool → Bool → Nat → Bool → List Bool × Nat
  | [], _, _, _ => ([], 0)
  | b :: rest, last, c, drop =>
    if drop then
      let r := destuff rest b 1 false
      (r.1, r.2 + (if b = last then 1 else 0))
    else
      let n := if b = last then c + 1 else 1
      let r := destuff rest b n (n == 24)
      (b :: r.1, r.2)

/-- CRC-32C of the top `n` bits of a 64-bit payload, most significant bit first (R406). -/
def crc32cFrom (p : Nat) : Nat → Nat → Nat
  | 0, c => c
  | n + 1, c =>
    let c1 := 2 * c % 2 ^ 32
    crc32cFrom (2 * p) n (if bit c 31 != bit p 63 then c1 ^^^ 0x1EDC6F41 else c1)

/-- The check of a Stay container: over its START payload and every data payload bit before the check itself (R406). -/
def containerCrc (cls seq : Nat) (blocks : List Nat) : Nat :=
  let c0 := crc32cFrom (startPayload cls (blocks.length - 1) seq) 64 (2 ^ 32 - 1)
  let c1 := (blocks.take (blocks.length - 1)).foldl (fun c p => crc32cFrom p 64 c) c0
  crc32cFrom (atD blocks (blocks.length - 1) 0) 32 c1 ^^^ (2 ^ 32 - 1)

/-- Whether a Stay container's check agrees: it stands in P[31:0] of its last data block (R406). -/
def containerOk (cls seq : Nat) (blocks : List Nat) : Bool :=
  atD blocks (blocks.length - 1) 0 % 2 ^ 32 == containerCrc cls seq blocks

/-- Whether CLASS and LENGTH of a START block are allowed (R401, R406). -/
def startOk (cls length : Nat) : Bool :=
  decide (1 ≤ cls) && decide (cls ≤ 4) && (if cls = 1 then decide (length ≤ 31) else decide (length ≤ 255))

end Sys2Proof.Machine
end

