-- ==== Sys2Proof/Machine/Lanes.lean ====
section
/-! DEFINITION. Events of the lanes and of the two links: detectors, tests, alignment, markers, containers, TANDEM blocks
and BEATs (R394 to R413, R585). -/
namespace Sys2Proof.Machine
open Host

/-- LANE_LOS (R395, R506): the detector asserts or clears. -/
def execLaneLos (m : Mast) (l : Nat) (on : Bool) (s : State) : Outcome State Fault Refusal :=
  .next <|
    let x := s.lane m l
    if !x.watched || x.los = on then s
    else (if on then s.bump m (0x0400 + 8 * l) 1 else s).laneDetect m l { x with los := on }

/-- LANE_LOL (R395, R506). On a Stay or Shroud lane, lock is alignment, which LANE_ALIGNED reports. -/
def execLaneLol (m : Mast) (l : Nat) (on : Bool) (s : State) : Outcome State Fault Refusal :=
  .next <|
    let x := s.lane m l
    if !x.watched || x.lol = on || (decide (192 ≤ l) && decide (l < 232)) then s
    else (if on then s.bump m (0x0400 + 8 * l + 1) 1 else s).laneDetect m l { x with lol := on }

/-- LANE_ERROR_BURST (R397): 10 errors of one kind in 1 s on a lane that is up. `second` picks PCS block errors rather
than FEC codewords on an Ethernet lane. -/
def execLaneErrorBurst (m : Mast) (l : Nat) (second : Bool) (s : State) : Outcome State Fault Refusal :=
  .next <|
    let x := s.lane m l
    if x.st != .up then s
    else (s.bump m (0x0400 + 8 * l + (if second && decide (l < 128) then 3 else 2)) 10).report m 0x42 (0x50000000 + l)

/-- Whether an eye meets the minimum of its lane (R394, R397, R621). -/
def State.eyePasses (s : State) (m : Mast) (l : Nat) : Bool :=
  match (s.lane m l).eyes with
  | [] => true
  | e :: _ => decide ((s.eyeMin m l).1 ≤ e.2.1) && decide ((s.eyeMin m l).2 ≤ e.2.2)

/-- LANE_SELF_TEST_RESULT (R397, R399, R498): a lane that is down passes its loopback on zero bit errors; a lane that is up
passes on its eye. On a lane in a near-end loopback, the PRBS31 checker adds its bit errors. -/
def execLaneSelfTestResult (m : Mast) (l bitErrors : Nat) (s : State) : Outcome State Fault Refusal :=
  .next <|
    let x := s.lane m l
    if x.loop = 1 then s.setLane m l { x with loopErrors := x.loopErrors + bitErrors }
    else match (s.fl m).tests.find? (fun t => t.site == 0x50000000 + l) with
    | none => s
    | some t => s.testResult m t (if (s.lane m l).st = .down then decide (bitErrors = 0) else s.eyePasses m l)

/-- LANE_BRINGUP_TIMEOUT (R398): one report; then R396 applies. -/
def execLaneBringupTimeout (m : Mast) (l : Nat) (s : State) : Outcome State Fault Refusal :=
  .next <|
    let x := s.lane m l
    if x.st != .bringUp || decide (s.now < x.poweredAt + 10 * Config.second) then s
    else (s.setLane m l { x with st := .down, bringUpFault := true }).report m 0x44 (0x50000000 + l)

/-- EYE_MEASUREMENT (R394, R505): once per second; the gauges hold the lowest of the last 10 s. -/
def execEyeMeasurement (m : Mast) (l v h : Nat) (s : State) : Outcome State Fault Refusal :=
  .next <|
    let x := s.lane m l
    if !x.watched || (x.eyes.head?).elim false (fun e => decide (s.now < e.1 + Config.second)) then s
    else
      let eyes := (s.now, v, h) :: x.eyes.filter (fun e => decide (s.now ≤ e.1 + 10 * Config.second))
      let s1 := s.setLane m l { x with eyes := eyes }
      let low := eyes.foldl (fun (n : Nat × Nat) e => (Nat.min n.1 e.2.1, Nat.min n.2 e.2.2)) (v, h)
      (s1.gauge m (0x6100 + 4 * l) (low.1 : Int)).gauge m (0x6100 + 4 * l + 1) (low.2 : Int)

/-- Whether a receiver moves from one state to another in one (R405). -/
def AlignSt.moves (a b : AlignSt) : Bool :=
  match a, b with
  | .hunt, .headerLock => true
  | .headerLock, .aligned => true
  | .headerLock, .hunt => true
  | .aligned, .headerLock => true
  | .aligned, .hunt => true
  | _, _ => false

/-- LANE_ALIGNED (R405): the receiver of a Stay or Shroud lane moves to a state. In ALIGNED, it takes the marker of the next frame; one
whose FRAME breaks the sequence is used, and counts. -/
def execLaneAligned (m : Mast) (l : Nat) (a : AlignSt) (seed frame : Nat) (s : State) : Outcome State Fault Refusal :=
  .next <|
    let x := s.lane m l
    if !(decide (192 ≤ l) && decide (l < 232)) || !x.watched then s
    else if x.align = .aligned && a = .aligned then
      let s1 := if frame % 256 = (x.rxFrame + 1) % 256 then s else s.bump m (0x0400 + 8 * l + 5) 1
      s1.setLane m l { x with rxFrame := frame % 256, seed := seed % 2 ^ 31 }
    else if !x.align.moves a then s
    else
      let lol := a != .aligned
      let s1 := if lol && !x.lol then s.bump m (0x0400 + 8 * l + 1) 1 else s
      let y : Lane := { x with align := a, lol := lol, rxFrame := if lol then x.rxFrame else frame % 256,
                               seed := if lol then x.seed else seed % 2 ^ 31 }
      s1.laneDetect m l y

/-- MARKER_SEND (R402, R403): a new seed, never zero, and the next FRAME. -/
def execMarkerSend (m : Mast) (l : Nat) (s : State) : Outcome State Fault Refusal :=
  .next <|
    let x := s.lane m l
    if !(decide (192 ≤ l) && decide (l < 232)) || !x.watched then s
    else
      let d := s.draw
      d.2.setLane m l { x with txFrame := (x.txFrame + 1) % 256, txSeed := d.1 % (2 ^ 31 - 1) + 1 }

/-- The marker that a lane sent last (R402). -/
def State.markerSent (s : State) (m : Mast) (l : Nat) : Nat :=
  let x := s.lane m l
  markerPayload (if l < 224 then 0 else 1) (if l < 224 then l - 192 else l - 224) m.code x.txSeed x.txFrame

/-- The sequences of a link of a mast. -/
def State.linkOf (s : State) (m : Mast) (shroud : Bool) : LinkSeq :=
  if shroud then (s.lan.get m).shroud else (s.lan.get m).stay

/-- Replace the sequences of a link. -/
def State.setLink (s : State) (m : Mast) (shroud : Bool) (x : LinkSeq) : State :=
  let y := s.lan.get m
  { s with lan := s.lan.set m (if shroud then { y with shroud := x } else { y with stay := x }) }

/-- Deliver, in SEQ order, the containers of a class that are held without a gap (R406). -/
def LinkSeq.drain (x : LinkSeq) (cls : Nat) : Nat → LinkSeq
  | 0 => x
  | n + 1 =>
    let e := atD x.expected (cls - 1) 0
    if x.beyond.any (fun b => b.1 == cls && b.2.1 == e) then
      LinkSeq.drain { x with beyond := x.beyond.filter (fun b => !(b.1 == cls && b.2.1 == e)),
                             expected := setAt x.expected (cls - 1) ((e + 1) % 2 ^ 32) } cls n
    else x

/-- Take one container of a class in: deliver it, hold it beyond a gap, or drop it as a second copy (R406, R407). -/
def LinkSeq.take (x : LinkSeq) (cls seq now : Nat) : LinkSeq :=
  let e := atD x.expected (cls - 1) 0
  let ahead := (seq + 2 ^ 32 - e) % 2 ^ 32
  if ahead = 0 then
    ({ x with expected := setAt x.expected (cls - 1) ((e + 1) % 2 ^ 32) }).drain cls (x.beyond.length + 1)
  else if ahead < 2 ^ 31 && !(x.beyond.any (fun b => b.1 == cls && b.2.1 == seq)) then
    { x with beyond := x.beyond ++ [(cls, seq, now)] }
  else x

/-- A Shroud container authenticates under a key that the mast holds (R411, R585). -/
def LaneMast.verifies (x : LaneMast) : TagKey → Bool
  | .linkKey => x.linkKey.isSome
  | .former => x.formerKey.isSome
  | .none => false

/-- A Shroud container has come in: it counts, and the first under the link key ends the former key (R585). -/
def LaneMast.received (x : LaneMast) (tag : TagKey) : LaneMast :=
  { x with containers := x.containers + 1, formerKey := if tag = .linkKey then none else x.formerKey }

/-- CONTAINER_RX (R401, R406, R411, R412, R585): a START block and its data blocks. A Stay container checks by its CRC-32C, and a
Shroud container by its tag, under the key that `tag` names. `beat`: the step a BEAT holds. -/
def execContainerRx (m : Mast) (l cls seq : Nat) (blocks : List Nat) (tag : TagKey) (beat : Option Nat) (s : State) :
    Outcome State Fault Refusal :=
  .next <|
    let shroud := decide (224 ≤ l)
    let x := s.lane m l
    if !(decide (192 ≤ l) && decide (l < 232)) || x.align != .aligned || x.st != .up || blocks.isEmpty then s
    else if !startOk cls (blocks.length - 1) then s.bump m (0x0400 + 8 * l + 3) 1
    else if !(if shroud then (s.lan.get m).verifies tag else containerOk cls seq blocks) then s.bump m (0x0400 + 8 * l + 2) 1
    else
      let s1 := s.bump m (0x0400 + 8 * l + 7) 1
      let s2 := s1.setLink m shroud ((s1.linkOf m shroud).take cls seq s1.now)
      let s3 : State := if shroud then { s2 with lan := s2.lan.set m ((s2.lan.get m).received tag) } else s2
      if shroud && decide (cls = 1) && decide (blocks.length = 1) then
        match beat with
        | some n => { s3 with lan := s3.lan.set m { s3.lan.get m with beatAt := some s3.now, beatStep := n } }
        | none => s3
      else s3

/-- CONTAINER_SEQ_SKIP (R406): 4 µs after a later SEQ has arrived, the missing ones are skipped. -/
def execContainerSeqSkip (m : Mast) (shroud : Bool) (cls : Nat) (s : State) : Outcome State Fault Refusal :=
  .next <|
    let x := s.linkOf m shroud
    let e := atD x.expected (cls - 1) 0
    let far (seq : Nat) : Nat := (seq + 2 ^ 32 - e) % 2 ^ 32
    let waits := x.beyond.filter (fun b => b.1 == cls)
    match waits.map (fun b => far b.2.1) with
    | [] => s
    | d :: ds =>
      if waits.all (fun b => decide (s.now < b.2.2 + 4 * Config.usec)) then s else
      let near := ds.foldl Nat.min d
      s.setLink m shroud (({ x with expected := setAt x.expected (cls - 1) ((e + near) % 2 ^ 32), lost := x.lost + near }).drain
        cls (x.beyond.length + 1))

/-- TANDEM_BLOCK_SEND (R402, R407): on the next aligned Stay lane. -/
def execTandemBlockSend (m : Mast) (s : State) : Outcome State Fault Refusal :=
  .next <|
    let y := s.lan.get m
    match s.nextAligned m 192 32 y.tandemNext with
    | none => s
    | some l =>
      let b : TandemBlock := { mast := m.code, state := (s.tst m).code, mode := s.md.mode.code, step := s.step % 2 ^ 40 }
      { s with lan := s.lan.set m { y with tandemTx := some b, tandemNext := 192 + (l - 192 + 1) % 32 } }

/-- TANDEM_BLOCK_RX (R401, R402): a valid block, or a control error. -/
def execTandemBlockRx (m : Mast) (l payload : Nat) (s : State) : Outcome State Fault Refusal :=
  .next <|
    let x := s.lane m l
    if !(decide (192 ≤ l) && decide (l < 224)) || x.align != .aligned || x.st != .up then s
    else if !tandemValid payload then s.bump m (0x0400 + 8 * l + 3) 1
    else
      let b : TandemBlock := { mast := bitsOf payload 55 55, state := bitsOf payload 54 52, mode := bitsOf payload 51 49,
                               step := bitsOf payload 47 8 }
      { s with lan := s.lan.set m { s.lan.get m with tandemAt := some s.now, tandemRx := some b } }

/-- BEAT_SEND (R411, R412): the sender's step number, under the link key, on the next aligned Shroud lane. -/
def execBeatSend (m : Mast) (s : State) : Outcome State Fault Refusal :=
  .next <|
    let y := s.lan.get m
    match s.nextAligned m 224 8 y.beatNext with
    | none => s
    | some l =>
      if y.linkKey.isNone then s
      else
        { s with lan := s.lan.set m { y with beatTx := s.step, beatNext := 224 + (l - 224 + 1) % 8,
                                             shroud := y.shroud.send 1 1, containers := y.containers + 1 } }

/-- A mast has cause to hold its Shroud link down (R412): fewer than 4 aligned lanes, or 1,024 CTRL cycles without a BEAT. -/
def State.shroudBad (s : State) (m : Mast) : Bool :=
  decide (s.shroudAligned m < 4) || (match (s.lan.get m).beatAt with
    | some t => decide (t + 1024 * Config.ctrlCycle ≤ s.now)
    | none => true)

/-- SHROUD_LINK_UP (R412): 4 aligned lanes and an authenticated BEAT. -/
def execShroudLinkUp (m : Mast) (s : State) : Outcome State Fault Refusal :=
  .next <|
    let y := s.lan.get m
    if y.shroudUp || s.shroudBad m then s
    else { s with lan := s.lan.set m { y with shroudUp := true }
                  tan := { s.tan with pairing := { s.tan.pairing with blocked := false } } }

/-- SHROUD_LINK_DOWN (R94, R396, R412): the take-over delay starts. -/
def execShroudLinkDown (m : Mast) (s : State) : Outcome State Fault Refusal :=
  .next <|
    let y := s.lan.get m
    if !y.shroudUp || !s.shroudBad m then s
    else
      let s1 : State := { s with lan := s.lan.set m { y.dropKey with shroudUp := false, beatAt := none } }
      let s2 : State := { s1 with tan := { s1.tan with pairing := { s1.tan.pairing with lastBeacon := s1.now } } }
      (s2.event 2 evShroudDown (be 4 s2.tan.pairing.beacons)).report m 0x49 0xD0000004

/-- The key of the PURPOSE 1 slot, K_s (R561, R585). -/
def State.shroudSecret (s : State) : Option Nat :=
  (s.md.nest.keySlots.find? (fun k => k.elim false (fun v => v.purpose == 1))).bind (fun k => k.map (fun v => v.key))

/-- The Shroud link key of a mast (R585): HKDF of K_s, the Primary's nonce and then the Reserve's, "shroud-1" and the mast. -/
def shroudKey (secret : Nat) (m : Mast) (primary : Bool) (own peer : List Byte) : List Byte :=
  fit 32 (Config.sealBytes 4 (be 32 secret ++ (if primary then own ++ peer else peer ++ own) ++
    [0x73, 0x68, 0x72, 0x6F, 0x75, 0x64, 0x2D, 0x31] ++ be 1 m.code))

/-- A HELLO passes: its tag verifies under K_s, and its CERT_HASH is PEER_CERT_HASH (R585). -/
def State.helloOk (s : State) (cert : List Byte) (tagOk : Bool) : Bool :=
  tagOk && s.sec.profile.elim false (fun p => p.global.peerCertHash == cert)

/-- HELLO_RX (R585): a HELLO that passes, with this mast's own, gives a new link key; the former one serves until a container
authenticates under the new. A mast that has sent none in the exchange sends its own, with a fresh nonce (DEDUCED, log entry 121);
a second copy of a HELLO does nothing. -/
def execHelloRx (m : Mast) (nonce cert : List Byte) (tagOk : Bool) (s : State) : Outcome State Fault Refusal :=
  .next <|
    match s.shroudSecret with
    | none => s
    | some k =>
      let y := s.lan.get m
      if !s.helloOk cert tagOk || decide (s.shroudAligned m = 0) || (y.linkKey.isSome && y.peerNonce == nonce) then s
      else
        let d := match y.nonce with
          | some own => (own, s)
          | none => s.drawBytes 32
        let key := shroudKey k m (d.2.tan.pairing.role != 2) d.1 nonce
        { d.2 with lan := d.2.lan.set m { y with linkKey := some key, formerKey := y.linkKey, nonce := none, peerNonce := nonce,
                                                 containers := 0 } }

/-- SHROUD_REKEY (R585): after 2^40 containers a new HELLO exchange runs; the link key serves until it ends. -/
def execShroudRekey (m : Mast) (s : State) : Outcome State Fault Refusal :=
  .next <|
    let y := s.lan.get m
    if y.containers < 2 ^ 40 || y.linkKey.isNone || y.nonce.isSome then s
    else
      let d := s.drawBytes 32
      { d.2 with lan := d.2.lan.set m { y with nonce := some d.1 } }

end Sys2Proof.Machine
end

