-- ==== Sys2Proof/Machine/Params.lean ====
section
/-! DEFINITION. Group 0x05: parameters and ramps (R201, R202, R239 to R241, R286, R288, R634). -/
namespace Sys2Proof.Machine
open Host

/-- ST_NO_SPACE of a command's entries: either limit of R241 would be exceeded at a step from its effective step to the
last step of its longest ramp. -/
def State.noRampSpace (s : State) (code eff dflt : Nat) (p : List Byte) : List Nat :=
  match s.rigDue eff with
  | none => []
  | some r =>
    let mine := entryLoads r s.rate48 dflt eff (entriesOf code r p)
    let last := mine.foldl (fun n w => Nat.max n w.last) eff
    refuseIf (!loadsOk (s.writeLoads ++ mine) eff last) stNoSpace

/-- Why a PARAM_SET is refused (R201). -/
def State.paramSetRefusals (s : State) (h : Hdr) (p : List Byte) (seat : Nat) : List Nat :=
  let eff := s.effectiveStep h
  let n := fld p 0 2
  let form := decide (n = 0) || decide (n > 1024) || fld p 2 2 != 0 ||
    (List.range n).any (fun i => fld p (10 + 16 * i) 2 != 0 || decide (fld p (8 + 16 * i) 2 > 2000))
  refuseIf form stBadParam ++ s.entryRefusals seat 0x0501 eff p ++ s.noRampSpace 0x0501 eff (s.defaultRamp eff) p

/-- PARAM_SET (R201). -/
def execParamSet (h : Hdr) (p : List Byte) (s : State) : Outcome State Fault Refusal :=
  .next <| s.receive h 0x0501 fun seat s1 =>
    s1.schedule h seat 0x0501 p (p.length == 4 + 16 * fld p 0 2) (s1.paramSetRefusals h p seat) (s1.effectiveStep h)
      (s1.defaultRamp (s1.effectiveStep h)) fun s2 => (s2, [])

/-- Why a SCENE_RECALL is refused (R202). -/
def State.sceneRefusals (s : State) (h : Hdr) (p : List Byte) (seat : Nat) : List Nat :=
  let eff := s.effectiveStep h
  refuseIf (decide (fld p 2 2 > 2000)) stBadParam ++ s.entryRefusals seat 0x0503 eff p ++
    s.noRampSpace 0x0503 eff (s.defaultRamp eff) p

/-- SCENE_RECALL (R202). -/
def execSceneRecall (h : Hdr) (p : List Byte) (s : State) : Outcome State Fault Refusal :=
  .next <| s.receive h 0x0503 fun seat s1 =>
    s1.schedule h seat 0x0503 p (p.length == 4) (s1.sceneRefusals h p seat) (s1.effectiveStep h)
      (s1.defaultRamp (s1.effectiveStep h)) fun s2 => (s2, [])

/-- Apply a PARAM_SET or SCENE_RECALL at its effective step: every entry is checked again, and none applies where one
fails (R172, R201). -/
def State.applyParams (s : State) (c : SchedCmd) (ms : List Mast) : State × Nat :=
  match firstRefusal (s.entryRefusals c.seat c.code s.step c.payload) with
  | some st => (s, st)
  | none =>
    match s.rigDue s.step with
    | none => (s, stBadParam)
    | some r =>
      let es := entriesOf c.code r c.payload
      let set (d : Datapath) := d.setParams s.sharedNow s.rate48 s.step c.aux c.seat c.hostSeq es
      let old := (set s.leadDp).2
      ((s.changeDp ms (fun d => (set d).1)).superseded c.seat c.hostSeq old, stOk)

/-- A page of the parameters of the active rig (R184, R202): none where no rig is active. -/
def State.paramPage (s : State) (h : Hdr) (p : List Byte) : List Byte :=
  match s.leadDp.active with
  | none => pageBytes (fld p 0 4) (fld p 4 2) (s.fitting h 8 8) 0 (fun _ => [])
  | some r => pageBytes (fld p 0 4) (fld p 4 2) (s.fitting h 8 8) r.rig.params.length (fun i => be 8 (r.paramValue i))

/-- PARAM_GET: values as reached at the step of execution (R202). -/
def execParamGet (h : Hdr) (p : List Byte) (s : State) : Outcome State Fault Refusal :=
  .next <| s.receive h 0x0502 fun seat s1 =>
    s1.runNow h seat 0x0502 (p.length == 8) .package (refuseIf (fld p 4 2 = 0 || fld p 6 2 != 0) stBadParam) 8 fun s2 =>
      (s2, s2.paramPage h p)

/-- An accepted default ramp time stands beside the one in force until it is applied (R634). -/
def State.defaultAccepted (s : State) (eff ms : Nat) : State :=
  { s with hal := { s.hal with rampDefaults := s.hal.rampDefaults ++ [{ effStep := eff, order := s.hal.nextOrder, ms := ms }] } }

/-- RAMP_DEFAULT_SET (R202, R634): from its acceptance it decides for commands whose effective step is at or after its
own. -/
def execRampDefaultSet (h : Hdr) (p : List Byte) (s : State) : Outcome State Fault Refusal :=
  .next <| s.receive h 0x0504 fun seat s1 =>
    s1.schedule h seat 0x0504 p (p.length == 4)
      (refuseIf (decide (fld p 0 2 = 0) || decide (fld p 0 2 > 2000) || fld p 2 2 != 0) stBadParam) (s1.effectiveStep h)
      (fld p 0 2) fun s2 => (s2.defaultAccepted (s1.effectiveStep h) (fld p 0 2), [])

/-- The active ramps of each of the 32 clusters, those of a tack's outgoing rig that are not carried among them (R202, R286). -/
def State.rampCounts (s : State) : List Byte :=
  let shared := s.rigs.plan.elim [] (fun p => p.shared)
  let ramps := (s.leadDp.active.map (fun r => r.ramps)).getD [] ++
    ((s.leadDp.outgoing.map (fun r => r.ramps)).getD []).filter (fun x => !shared.contains (posOf x.key))
  ((List.range 32).map (fun c => be 2 (ramps.filter (fun x => keyCluster x.key == c)).length)).flatten

/-- RAMP_STATUS: active ramps per cluster (R202). -/
def execRampStatus (h : Hdr) (p : List Byte) (s : State) : Outcome State Fault Refusal :=
  .next <| s.receive h 0x0505 fun seat s1 =>
    s1.runNow h seat 0x0505 (p.length == 0) .package [] 64 fun s2 => (s2, s2.rampCounts)

/-- End the ramps of a run whose last step is the current one: the target stands exactly and the entry leaves the
table (R240). -/
def RigRun.endRamps (r : RigRun) (n : Nat) : RigRun :=
  let ended (p : Ramp) : Bool := decide (p.fade.start + p.fade.len ≤ n + 1)
  { r with words := (r.ramps.filter ended).foldl (fun t p => wput t p.key (wordOf p.fade.u1)) r.words
           ramps := r.ramps.filter (fun p => !ended p) }

/-- RAMP_END (R240): on both masts. -/
def execRampEnd (s : State) : Outcome State Fault Refusal :=
  .next { s with dp := s.dp.map (fun d =>
    { d with active := d.active.map (fun r => r.endRamps s.step)
             outgoing := d.outgoing.map (fun r => r.endRamps s.step) }) }

end Sys2Proof.Machine
end

