-- ==== Sys2Proof/Machine/Ptp.lean ====
section
/-! DEFINITION. Network time (R463 to R476): PTP messages, parents and paths, Sync pairing, delay measurement, master changes
and refused jumps. Times are in units of 2^-16 ns. -/
namespace Sys2Proof.Machine
open Host

/-- A domain of a mast. -/
def State.dom (s : State) (m : Mast) (t : Nat) : PtpDom := atD (s.ptp.get m).doms t .reset

/-- Replace a domain of a mast. -/
def State.setDom (s : State) (m : Mast) (t : Nat) (d : PtpDom) : State :=
  let y := s.ptp.get m
  { s with ptp := s.ptp.set m { y with doms := setAt y.doms t d } }

/-- PTP_DOMAIN of a timebase (R463): TB_0 binds domain 127 by default. -/
def State.ptpDomain (s : State) (t : Nat) : Nat := (s.tbItem t).elim (if t = 0 then 127 else 255) (fun x => x.ptpDomain)

/-- The timebases that a port lists for a domain (R463, R465). -/
def State.listed (s : State) (m : Mast) (port domain : Nat) : List Nat :=
  match s.portItem m port with
  | some x => (List.range 4).filter (fun t => bit x.ptpPorts t && s.ptpDomain t == domain && domain != 255)
  | none => []

/-- The limits of a PTP profile on logSyncInterval and logAnnounceInterval (R464). -/
def State.intervalOk (s : State) (t : Nat) (sync : Bool) (log : Int) : Bool :=
  let p := (s.tbItem t).elim 0 (fun x => x.ptpProfile)
  let lim : Int × Int :=
    if sync then (if p = 0 then (-7, -1) else if p = 1 then (-4, 1) else (-1, 1))
    else if p = 0 then (-3, 1) else (0, 4)
  decide (lim.1 ≤ log) && decide (log ≤ lim.2)

/-- 2^log seconds, in thirds of a nanosecond. -/
def logTime (log : Int) : Nat := if log < 0 then Config.second / 2 ^ log.natAbs else Config.second * 2 ^ log.natAbs

/-- Whether an Announce has not timed out: 3 announce intervals (R464, R470). -/
def Announce.fresh (a : Announce) (now : Nat) : Bool := decide (now ≤ a.at' + 3 * logTime a.logInterval)

/-- Whether an Announce is excluded before the comparison (R466). -/
def State.announceExcluded (s : State) (t : Nat) (a : AnnounceBody) : Bool :=
  match s.tbItem t with
  | some x => decide (a.steps ≥ 255) || decide (a.clockClass > x.maxClockClass) || (!x.gmAllow.isEmpty && !x.gmAllow.contains a.gmId)
  | none => decide (a.steps ≥ 255) || decide (a.clockClass > 248)

/-- The best master clock comparison of IEEE 1588 (R466; PRESUMED, log entry 16): the same grandmaster by steps removed, then
by sender; else priority1, class, accuracy, variance, priority2 and identity, lower first. -/
def Announce.better (a b : Announce) : Bool :=
  let key (x : Announce) : List Nat :=
    if a.gmId = b.gmId then [x.steps, x.source, x.port]
    else [x.priority1, x.clockClass, x.accuracy, x.variance, x.priority2, x.gmId]
  decide (key a < key b)

/-- The parent among the Announces that have not timed out. -/
def bestParent (now : Nat) (l : List Announce) : Option Announce :=
  (l.filter (fun a => a.fresh now)).foldl (fun best a => match best with
    | none => some a
    | some b => if a.better b then some a else some b) none

/-- The domain whose samples serve a timebase of the Captain (R467): its own parent's, else the other mast's. -/
def State.pathDom (s : State) (m : Mast) (t : Nat) : PtpDom :=
  if s.usesOther m t then s.dom m.other t else s.dom m t

/-- Whether a timebase of a mast follows its own PTP candidate, or is in HOLDOVER from it (R473). -/
def State.followsPtp (s : State) (m : Mast) (t : Nat) : Bool :=
  s.isCaptain m && ((s.tb m t).ref == some (1 + t) || ((s.tb m t).st == .holdover && (s.dom m t).followed))

/-- JUMP_THRESHOLD (R463). -/
def State.jumpThreshold (s : State) (t : Nat) : Int := 65536 * ((s.tbItem t).elim 1000 (fun x => x.jumpThreshold) : Nat)

/-- A master change (R473): the servo is held for 1 s. While a jump stands refused it only upsets the second (R475). -/
def State.masterChange (s : State) (m : Mast) (t : Nat) (old : Int) : State :=
  let d := s.dom m t
  if !s.followsPtp m t then s
  else if (s.tb m t).jumpRefused then s.setDom m t { d with upset := true }
  else match d.change with
    | some _ => s
    | none => s.setDom m t { d with change := some { at' := s.now, oldMean := old }, sum := 0, count := 0 }

/-- Choose the path of a timebase of a mast, and its parents; a change of grandmaster, parent port or path is a master change
(R466, R467, R473). -/
def State.choosePath (s : State) (m : Mast) (t : Nat) : State :=
  let before := s.pathDom m t
  let d := s.dom m t
  let o := s.dom m.other t
  let p := bestParent s.now d.announces
  let other := p.isNone && s.inTandem && (bestParent s.now o.announces).isSome
  let same := p.map (fun a => a.source) = d.parent.map (fun a => a.source)
  let d1 : PtpDom := { d with parent := p, otherPath := other, announces := d.announces.filter (fun a => a.fresh s.now),
                              path := if same then d.path else none
                              reqs := if same then d.reqs else [], reqLog := if same then d.reqLog else 0 }
  let s1 := s.setDom m t d1
  let after := s1.pathDom m t
  let id (x : PtpDom) : Option (Nat × Nat) := x.parent.map (fun a => (a.gmId, a.source))
  if (id before).isSome && (id after).isSome && (id before != id after || d.otherPath != other) then
    s1.masterChange m t (d.mean.getD 0)
  else s1

/-- A paired Sync gives a sample where a path delay is known (R468, R469): the offset, PTP time minus the timebase's. -/
def State.paired (s : State) (m : Mast) (t : Nat) (origin t2 : Int) : State :=
  let d : PtpDom := { s.dom m t with sync := some (origin, t2), syncAt := some s.now, held := none }
  let s1 := s.setDom m t d
  let note (acc : State) (c : Mast) : State :=
    match d.path with
    | none => acc
    | some path =>
      let e := acc.dom c t
      acc.setDom c t { e with sum := e.sum + (origin + path - t2), count := e.count + 1 }
  if s.isCaptain m.other then (if s.usesOther m.other t then note s1 m.other else s1)
  else if s.usesOther m t then s1 else note s1 m

/-- The port identity of a mast's port (R469): its lane number. -/
def ownPortId (m : Mast) (port : Nat) : Nat := 256 * m.code + port

/-- One message on one timebase's domain (R466 to R469). -/
def State.ptpOn (s : State) (m : Mast) (x : PtpMsg) (t : Nat) : State :=
  let d := s.dom m t
  let t2 := atD x.stamps t 0
  let fromParent := match d.parent with
    | some a => a.source == x.source
    | none => false
  match x.body with
  | .announce a =>
    if !s.intervalOk t false x.logInterval then s.bump m 0x6004 1
    else if s.announceExcluded t a then s
    else
      let e : Announce :=
        { source := x.source, port := x.port, gmId := a.gmId, priority1 := a.priority1, clockClass := a.clockClass,
          accuracy := a.accuracy, variance := a.variance, priority2 := a.priority2, steps := a.steps,
          logInterval := x.logInterval, at' := s.now, utc := a.utc }
      let s1 := s.setDom m t { d with announces := d.announces.filter (fun b => b.source != x.source) ++ [e] }
      (s1.choosePath m t).choosePath m.other t
  | .sync two t1 =>
    if !s.intervalOk t true x.logInterval then s.bump m 0x6004 1
    else if !fromParent then s
    else
      let s1 := if d.held.isSome then (s.setDom m t { d with held := none }).bump m 0x6003 1 else s
      if two then
        s1.setDom m t { s1.dom m t with held := some { seq := x.seq, source := x.source, t2 := t2, c1 := x.correction, at' := s.now } }
      else s1.paired m t (t1 + x.correction) t2
  | .followUp t1 =>
    match d.held with
    | some hs =>
      if hs.seq = x.seq && hs.source = x.source then s.paired m t (t1 + hs.c1 + x.correction) hs.t2 else s.bump m 0x6003 1
    | none => s.bump m 0x6003 1
  | .delayResp t4 req =>
    match d.reqs.find? (fun r => r.seq == x.seq) with
    | none => s
    | some r =>
      if req != ownPortId m x.port then s
      else
        let e : PtpDom := { d with reqs := d.reqs.filter (fun q => q.seq != x.seq) }
        if r.at' + Config.second < s.now then (s.setDom m t e).bump m 0x6005 1
        else
          let path := match d.sync with
            | some (origin, t2) => some ((t2 - origin + (t4 - r.t3 - x.correction)).fdiv 2)
            | none => d.path
          s.setDom m t { e with path := path, unanswered := 0, reqLog := x.logInterval }
  | .delayReq => s
  | .pdelay => s
  | .management => s

/-- The members of a port's transparent-clock group that send a message on (R472). -/
def State.tcMembers (s : State) (m : Mast) (port : Nat) : List Nat :=
  match s.portItem m port, s.sec.profile with
  | some x, some p =>
    if x.tcGroup = 0 then []
    else (p.ports.filter (fun y => y.mast == m.code && y.mode != 0 && y.tcGroup == x.tcGroup && y.lane != port &&
      s.portUp m y.lane)).map (fun y => y.lane)
  | _, _ => []

/-- Whether the absence condition of PTP_t holds on a mast (R470): no parent on either network, no paired Sync for 1 s on the
path, or 16 Delay_Req messages unanswered. -/
def State.ptpAbsent (s : State) (m : Mast) (t : Nat) : Bool :=
  let d := s.pathDom m t
  d.parent.isNone || decide (d.unanswered ≥ 16) || (match d.syncAt with
    | some a => decide (a + Config.second ≤ s.now)
    | none => true)

/-- The return of PTP_t after an absence is a master change, whose old mean is that before the absence (R473). -/
def State.ptpReturns (s : State) (m : Mast) (t : Nat) : State :=
  let d := s.dom m t
  if d.absent && !s.ptpAbsent m t then
    let s1 := s.setDom m t { d with absent := false }
    if d.followed then s1.masterChange m t (d.mean.getD 0) else s1
  else s

/-- Whether a PTP message comes by PTP_TRANSPORT and, over UDP, to 224.0.1.129, to FF0E::181 or to an address of its port (R463, R465). -/
def State.ptpReaches (s : State) (m : Mast) (x : PtpMsg) : Bool :=
  let want := match s.sec.profile with
    | some p => p.global.ptpTransport
    | none => 0
  let own := (s.portItem m x.port).elim [] (fun y => [y.ipv4, y.ipv6a, y.ipv6b].filter (fun a => a != 0))
  x.transport == want && (want == 2 || x.dest == 0xE0000181 || x.dest == 0xFF0E0000000000000000000000000181 || own.contains x.dest)

/-- The residence time of a relayed message, in 2^-16 ns: free, within 10 µs (R472; DESIGN CHOICE, log entry 80). -/
def State.residence (s : State) : Int × State :=
  let d := s.draw
  (((d.1 % (10000 * 2 ^ 16 + 1) : Nat) : Int), d.2)

/-- The transparent clock sends a message on, on each other member of its port's group (R472): Sync and Delay_Req with their residence
time added to the correctionField, Follow_Up, Delay_Resp and Announce as they are. -/
def State.relay (s : State) (m : Mast) (x : PtpMsg) : State :=
  let on := if x.body = .management then [] else s.tcMembers m x.port
  let timed := match x.body with
    | .sync _ _ => true
    | .delayReq => true
    | _ => false
  let y := s.ptp.get m
  on.foldl (fun acc l =>
    let r := if timed then acc.residence else (0, acc)
    let z := r.2.ptp.get m
    let e : Relay := { port := l, source := x.source, seq := x.seq, correction := x.correction + r.1 }
    ({ r.2 with ptp := r.2.ptp.set m { z with relayed := z.relayed ++ [e] } } : State).offer m (some l) 0 (udpFrame false false 64))
    { s with ptp := s.ptp.set m { y with forwarded := y.forwarded + on.length, relayed := [] } }

/-- PTP_MESSAGE_RX (R51, R355, R464 to R469, R472). -/
def execPtpMessageRx (m : Mast) (x : PtpMsg) (s : State) : Outcome State Fault Refusal :=
  .next <|
    if !s.telltalesRun m || decide (x.port ≥ 128) || !s.portUp m x.port then s
    else
      let ts := s.listed m x.port x.domain
      let bad := x.version ≠ 2 || decide (x.minor > 1) || ts.isEmpty || !s.ptpReaches m x || x.body == .pdelay
      if bad then s.bump m (0x0400 + 8 * x.port + 5) 1
      else ts.foldl (fun acc t => ((acc.ptpOn m x t).ptpReturns m t).ptpReturns m.other t) (s.relay m x)

/-- SYNC_PAIR_TIMEOUT (R468). -/
def execSyncPairTimeout (m : Mast) (t : Nat) (s : State) : Outcome State Fault Refusal :=
  .next <|
    let d := s.dom m t
    match d.held with
    | some hs => if s.now < hs.at' + Config.second then s else (s.setDom m t { d with held := none }).bump m 0x6003 1
    | none => s

/-- DELAY_REQ_SEND (R469): on the parent's port, at the interval its Delay_Resp messages give; `t3` is the transmit
stamp. -/
def execDelayReqSend (m : Mast) (t : Nat) (t3 : Int) (s : State) : Outcome State Fault Refusal :=
  .next <|
    let d := s.dom m t
    let due := match d.reqAt with
      | some r => decide (r + logTime d.reqLog ≤ s.now)
      | none => true
    if d.parent.isNone || !due || !s.telltalesRun m || decide (t > 3) then s
    else
      let unicast := (s.tbItem t).elim false (fun x => x.delayMode == 1)
      let r : DelayReq :=
        { dest := if unicast then d.parent.map (fun a => a.source) else none, seq := d.reqSeq, t3 := t3, at' := s.now }
      let s1 := s.setDom m t { d with reqs := keepLast 16 (d.reqs ++ [r]), reqSeq := (d.reqSeq + 1) % 65536,
                                      unanswered := d.unanswered + 1, reqAt := some s.now }
      let y := s1.ptp.get m
      ({ s1 with ptp := s1.ptp.set m { y with delayReqs := y.delayReqs + 1 } } : State).offer m (d.parent.map (fun a => a.port)) 0
        (udpFrame false false 44)

/-- The mean of the offsets gathered. -/
def PtpDom.newMean (d : PtpDom) : Option Int := if d.count = 0 then none else some (d.sum.fdiv d.count)

/-- A refused jump ends because a mean lies within the threshold of the old time (R475). -/
def State.jumpEnds (s : State) (m : Mast) (t : Nat) : State :=
  (s.setDom m t { s.dom m t with refusedJump := 0, observed := 0 }).changeTb m t (fun x => { x with jumpRefused := false })

/-- PTP_OFFSET_SECOND (R469, R470, R473, R475): the 1 s mean of a timebase's offset is formed on the Captain. -/
def execPtpOffsetSecond (t : Nat) (s0 : State) : Outcome State Fault Refusal :=
  .next <|
    match s0.captain with
    | none => s0
    | some m =>
      if decide (t > 3) || (s0.dom m t).secondAt.elim false (fun a => decide (s0.now < a + Config.second)) then s0
      else
        let s := (s0.choosePath m t).choosePath m.other t
        let d := s.dom m t
        if d.change.isSome then s
        else
          match d.newMean with
          | none => s.setDom m t { d with upset := false, secondAt := some s.now
                                          observed := if (s.tb m t).jumpRefused then 0 else d.observed }
          | some mean =>
            let thr := s.jumpThreshold t
            let e : PtpDom := { d with mean := some mean, sum := 0, count := 0, upset := false, secondAt := some s.now,
                                       followed := d.followed || (s.tb m t).ref == some (1 + t) }
            let near (v : Int) : Bool := decide (((mean - v).natAbs : Int) ≤ thr)
            if (s.tb m t).jumpRefused then
              if near d.oldMean then (s.setDom m t e).jumpEnds m t
              else if !d.upset && (d.mean.elim false near) then s.setDom m t { e with observed := d.observed + 1 }
              else s.setDom m t { e with observed := 0, refusedJump := mean - d.oldMean }
            else match d.mean with
              | some old => if near old then s.setDom m t e else (s.setDom m t e).masterChange m t old
              | none => s.setDom m t e

/-- JUMP_DECISION (R473, R474): 1 s after a master change the jump is absorbed, or refused. -/
def execJumpDecision (t : Nat) (s : State) : Outcome State Fault Refusal :=
  .next <|
    match s.captain with
    | none => s
    | some m =>
      let d := s.dom m t
      match d.change with
      | none => s
      | some c =>
        if s.now < c.at' + Config.second then s
        else
          match d.newMean with
          | none => s
          | some mean =>
            let j := mean - c.oldMean
            let e : PtpDom := { d with change := none, mean := some mean, secondAt := some s.now, sum := 0, count := 0 }
            if (j.natAbs : Int) ≤ s.jumpThreshold t then s.setDom m t e
            else
              let s1 := s.setDom m t { e with refusedJump := j, oldMean := c.oldMean, observed := 0, upset := false, followed := true }
              let s2 := s1.changeTb m t (fun x => { x with jumpRefused := true })
              let s3 := if s2.primaryTb t then
                  ((s2.sticky t 3).event m.code evJumpRefused
                    (be 1 t ++ be 1 (s2.ptpDomain t) ++ zeros 2 ++ beSigned 8 (j.fdiv 65536)))
                else s2
              let cand : Cand := { (s3.tm m).cand (1 + t) with st := .disqualified, since := none, good := 0 }
              let s4 := s3.changeTb m t (fun x => { x with barred := some (1 + t, cand) })
              let s5 := s4.evaluateAll m 0
              if s5.primaryTb t then s5.report m 0x6E (candSite t (1 + t)) else s5

/-- CANDIDATE_ABSENT (R415, R420, R470). -/
def execCandidateAbsent (m : Mast) (i : Nat) (s : State) : Outcome State Fault Refusal :=
  .next <|
    if !s.telltalesRun m || !s.candHere i || i = 87 || !s.maybeAbsent m i then s
    else if 1 ≤ i ∧ i ≤ 4 then
      let s1 := (s.choosePath m (i - 1)).choosePath m.other (i - 1)
      if s1.ptpAbsent m (i - 1) then (s1.setDom m (i - 1) { s1.dom m (i - 1) with absent := true }).absent m i else s1
    else s.absent m i

/-- PTP_STATE (R470): 1 follows a present PTP candidate with no jump refused; 2 a jump stands refused, or it was followed and
is absent; else 0. -/
def State.ptpState (s : State) (m : Mast) (t : Nat) : Nat :=
  let x := s.tb m t
  if x.jumpRefused then 2
  else if x.ref = some (1 + t) then 1
  else if (s.dom m t).followed && (s.candShown m (1 + t)).st == .absent then 2 else 0

/-- PTP_STATUS item of a mast (R215, R469, R470). -/
def State.ptpItem (s : State) (m : Mast) (t : Nat) : List Byte :=
  let d := s.dom m t
  let p := (s.pathDom m t)
  be 1 (s.ptpDomain t) ++ be 1 (s.ptpState m t) ++ be 2 (p.parent.elim 0 (fun a => a.steps)) ++
    be 8 (p.parent.elim 0 (fun a => a.gmId)) ++ beSigned 8 ((d.mean.getD 0).fdiv 65536) ++
    beSigned 8 ((p.path.getD 0).fdiv 65536) ++ beSigned 8 (d.refusedJump.fdiv 65536) ++ be 4 d.observed ++ zeros 8

/-- PTP_STATUS (R215). -/
def execPtpStatus (h : Hdr) (p : List Byte) (s : State) : Outcome State Fault Refusal :=
  .next <| s.receive h 0x0804 fun seat s1 =>
    s1.runNow h seat 0x0804 (p.length == 0) .perMast [] (8 + 192 * s1.serving) fun s2 =>
      (s2, s2.perMast (fun m => ((List.range 4).map (s2.ptpItem m)).flatten))

end Sys2Proof.Machine
end

