-- ==== Sys2Proof/Machine/Tandem.lean ====
section
/-! DEFINITION. The two masts in step: switch-over, the Stay link's loss and return, joining, digests (R45 to R88, R217,
R409, R627). -/
namespace Sys2Proof.Machine
open Host

/-! ### The tandem reads and TANDEM_SWAP (R217) -/

/-- Joins of a mast in the last 60 s (R217). -/
def State.joinsLately (s : State) (m : Mast) : Nat :=
  ((s.tan.joinTimes.get m).filter (fun t => decide (s.now < t + 60 * Config.second))).length

/-- TANDEM_STATUS (R217). -/
def execTandemStatus (h : Hdr) (p : List Byte) (s : State) : Outcome State Fault Refusal :=
  .next <| s.receive h 0x0901 fun seat s1 =>
    s1.runNow h seat 0x0901 (p.length == 0) .package [] 16 fun s2 =>
      (s2, be 1 (s2.stayAligned .a) ++ be 1 (s2.stayAligned .b) ++ be 2 (s2.joinsLately .a) ++ be 2 (s2.joinsLately .b) ++
        be 1 s2.tan.lastCause ++ zeros 1 ++ be 8 s2.tan.lastSwitchStep)

/-- TANDEM_SWAP (R83, R217). -/
def execTandemSwap (h : Hdr) (p : List Byte) (s : State) : Outcome State Fault Refusal :=
  .next <| s.receive h 0x0902 fun seat s1 =>
    s1.schedule h seat 0x0902 p (p.length == 0) (refuseIf (!s1.inTandem) stNotTandem) (s1.effectiveStep h) 0
      fun s2 => (s2, [])

/-- Apply a TANDEM_SWAP (R83): TL_YIELD rises, and no fault is logged. -/
def State.applySwap (s : State) (_c : SchedCmd) (_ms : List Mast) : State × Nat :=
  match s.captain with
  | some m => if s.inTandem then (s.yieldRole m true 0xFFFF, stOk) else (s, stNotTandem)
  | none => (s, stNotTandem)

/-- The counter of a digest item: MISMATCH 3, TIMEOUT 4, UNEXPLAINED 5 of a region (R505). -/
def digestCounter (g k : Nat) : Nat := 0x0300 + 8 * g + k

/-- The three digest counters of each region of a mast, saturated to 4 bytes (R217, R505). -/
def State.digestCounts (s : State) (m : Mast) : List Byte :=
  ((List.range 8).map (fun g => ((List.range 3).map (fun k =>
    be 4 (Nat.min 0xFFFFFFFF ((s.ct m).read (digestCounter g (3 + k)))))).flatten)).flatten

/-- DIGEST_STATUS (R217): the counters of R505, saturated to 4 bytes. -/
def execDigestStatus (h : Hdr) (p : List Byte) (s : State) : Outcome State Fault Refusal :=
  .next <| s.receive h 0x0903 fun seat s1 =>
    s1.runNow h seat 0x0903 (p.length == 0) .perMast [] (8 + 96 * s1.serving) fun s2 =>
      (s2, s2.perMast s2.digestCounts)

/-- SHROUD_STATUS (R217). -/
def execShroudStatus (h : Hdr) (p : List Byte) (s : State) : Outcome State Fault Refusal :=
  .next <| s.receive h 0x0904 fun seat s1 =>
    s1.runNow h seat 0x0904 (p.length == 0) .package [] 12 fun s2 =>
      let x := s2.tan.pairing
      (s2, be 1 (b01 x.paired) ++ be 1 x.reason ++ be 1 x.tracking ++ be 1 x.fence ++ be 2 x.rtt ++ zeros 2 ++
        be 4 x.beacons)

/-! ### Switch-over (R79 to R83) -/

/-- A mast takes the CAPTAIN role with its drivers on and TL_TAKE high; its steering ball rises at the end (R79). -/
def State.take (s : State) (m : Mast) : State :=
  let s1 := (s.setTst m .captain).takeTiming m
  let t := s1.mt m
  s1.setMt m { t with steer := false, lines := { t.lines with take0 := true, take1 := true } }

/-- TAKE_CAPTAIN (R79): the Stoker sees TL_YIELD on both sets. -/
def execTakeCaptain (m : Mast) (s : State) : Outcome State Fault Refusal :=
  .next (if s.tst m = .stoker && s.isCaptain m.other && (s.mt m.other).yields then s.take m else s)

/-- The end of a take-over on the new Captain: STEER high. The spec gives the rise of TL_TAKE and TL_YIELD and not their
fall: both fall as the old Captain leaves the role (DESIGN CHOICE, log entry 95). -/
def State.settleRole (s : State) (m : Mast) : State :=
  let t := s.mt m
  s.setMt m { t with steer := true, lines := { t.lines with take0 := false, take1 := false } }

/-- RELEASE_DRIVERS (R79, R80, R83, R173): the old Captain sees TL_TAKE and releases. After a fault or a reset it goes OUT
and is reset; after a planned swap it becomes STOKER. -/
def execReleaseDrivers (m : Mast) (s : State) : Outcome State Fault Refusal :=
  .next <|
    if !(s.isCaptain m && (s.mt m).yields && s.isCaptain m.other && (s.mt m.other).takes) then s
    else
      let planned := s.tan.planned
      let s1 := (s.setTst m (if planned then .stoker else .out)).settleRole m.other
      let s2 := s1.switchedOver m.other (if planned then 2 else 0) s.tan.switchSource
      let s3 : State := { s2 with tan := { s2.tan with planned := false, switchSource := 0xFFFF } }
      if planned then s3 else (s3.dropUncommitted).mastReset m ((s.tan.resetCause.get m).getD 6)

/-- EV_DUAL_CAPTAIN where both steering balls have been high at once for longer than 40 ns (R85). -/
def State.dualEnds (s : State) : State :=
  match s.tan.stay.dualSince with
  | some t =>
    let s1 : State := { s with tan := { s.tan with stay := { s.tan.stay with dualSince := none } } }
    if t + 120 < s.now then s1.event 2 evDualCaptain (be 4 ((s.now - t) / Config.xoCycle)) else s1
  | none => s

/-- The old Captain is found dead: its drives are off, and it boots again from its next power-good. -/
def State.lostMast (s : State) (m : Mast) : State :=
  let s1 := ((s.setTst m .out).setAlive m false).wipeMast m
  { s1 with
    md := { s1.md with boot := s1.md.boot.set m { BootState.off with held := (s1.md.boot.get m).held } }
    port := s1.port.set m HostPort.reset }

/-- ABRUPT_TAKEOVER (R81, R85): TL_ALIVE of the Captain reads dead, its steering ball low, and the Stay link is down. No
report has moved the role, so SOURCE of EV_SWITCH_OVER is 0xFFFF (DESIGN CHOICE, log entry 48). -/
def execAbruptTakeover (m : Mast) (dead steerLow : Bool) (s : State) : Outcome State Fault Refusal :=
  .next <|
    if !(s.tst m = .stoker && s.isCaptain m.other && dead && steerLow && !s.tan.stay.up) then s
    else
      let s1 := (((s.dualEnds.setTst m .captain).lostMast m.other).takeTiming m).dropUncommitted
      let s2 : State := { s1 with tan := { s1.tan with planned := false, join := none
                                                       stay := { s1.tan.stay with claim := none } } }
      s2.switchedOver m 1 0xFFFF

/-- STEER_READBACK_FAULT (R627): a ball's read-back disagrees with the level that its own mast drives. -/
def execSteerReadbackFault (m ball : Mast) (s : State) : Outcome State Fault Refusal :=
  .next (if s.mastOn m then (s.bump m 0x010B 1).report m 0xA4 (0xF0000000 + ball.code) else s)

/-! ### The Stay link (R84, R85, R409) -/

/-- A mast's receiver of the Stay link is up: at least 16 lanes aligned, and a valid TANDEM block in hand. -/
def State.stayGood (s : State) (m : Mast) : Bool := decide (16 ≤ s.stayAligned m) && (s.lan.get m).tandemAt.isSome

/-- A mast has cause to declare the Stay link down (R84): 1,024 CTRL cycles with no valid TANDEM block. -/
def State.stayBad (s : State) (m : Mast) : Bool :=
  decide (s.stayAligned m < 16) || (match (s.lan.get m).tandemAt with
    | some t => decide (t + 1024 * Config.ctrlCycle ≤ s.now)
    | none => true)

/-- STAY_LINK_UP (R409). -/
def execStayLinkUp (s : State) : Outcome State Fault Refusal :=
  .next <|
    if s.tan.stay.up || !(s.stayGood .a && s.stayGood .b) then s
    else { s with tan := { s.tan with stay := { s.tan.stay with up := true, upSince := s.now } } }

/-- A copy is abandoned: the joining mast goes OUT (R74). -/
def State.abandonJoin (s : State) : State :=
  match s.tan.join with
  | some j =>
    let s1 := s.setTst j.mast .out
    { s1 with tan := { s1.tan with join := none } }
  | none => s

/-- The Stoker claims the CAPTAIN role provisionally (R84): its steering ball rises and its SINGLE-DRIVE drivers run. -/
def State.claimRole (s : State) (m : Mast) : State :=
  let t := s.mt m
  let s1 := s.setMt m { t with steer := true, drive := { t.drive with single := true } }
  let o := s1.mt m.other
  let x : StayState := { s1.tan.stay with claim := some m, claimAt := s1.now
                                          holdStayed := o.lines.hold0 && o.lines.hold1 && o.steer
                                          dualSince := if o.steer then some s1.now else none }
  { s1 with tan := { s1.tan with stay := x } }

/-- What is under way over the Stay link is lost with it (R409). -/
def State.loseStay (s : State) : State :=
  let s1 := s.changeAud bothMasts (fun a => { a with sent := [], notices := [], forwards := [] })
  { s1 with vid := s1.vid.map (fun v => { v with notices := [] }), lan := s1.lan.map (fun x => { x with videoOut := [] }) }

/-- The Stay link is down: a copy is abandoned, and replies that wait for the Stoker go out (R63, R74). -/
def State.stayFalls (s : State) (m : Mast) : State :=
  ((({ s with tan := { s.tan with stay := { s.tan.stay with up := false } } } : State).report m 0x47
    0xD0000003).loseStay.abandonJoin).answerAll

/-- STAY_LINK_DOWN (R74, R84, R85): a mast declares the link down, and the Stoker claims the role. The link's state is one for
the package: what either mast declares holds for both (DESIGN CHOICE, log entry 96). -/
def execStayLinkDown (m : Mast) (s : State) : Outcome State Fault Refusal :=
  .next <|
    if !s.stayBad m || !s.mastOn m then s
    else
      let s1 : State := if s.tan.stay.up then s.stayFalls m else s
      let k := s1.lead.other
      if s1.tst k = .stoker && s1.tan.stay.claim.isNone && s1.md.mode != .lockout then s1.claimRole k else s1

/-- STAY_ARBITRATION (R84): 256 XO cycles after the claim. A Captain whose TL_HOLD and steering ball have stayed high keeps
the role; otherwise the claimant does. -/
def execStayArbitration (s : State) : Outcome State Fault Refusal :=
  .next <|
    match s.tan.stay.claim with
    | none => s
    | some m =>
      if s.now < s.tan.stay.claimAt + 256 * Config.xoCycle then s
      else if s.tst m != .stoker then
        ({ s with tan := { s.tan with stay := { s.tan.stay with claim := none } } } : State).dualEnds
      else
        let o := s.mt m.other
        let healthy := s.tan.stay.holdStayed && s.isCaptain m.other && o.lines.hold0 && o.lines.hold1 && o.steer
        let s1 : State := { s with tan := { s.tan with stay := { s.tan.stay with claim := none } } }
        if healthy then
          ((s1.setTst m .out).dualEnds).event m.other.code evStayDown
            (be 1 (s1.stayAligned .a) ++ be 1 (s1.stayAligned .b) ++ zeros 2)
        else
          let fault := (s1.tan.resetCause.get m.other).isSome
          let s2 := ((((s1.setTst m .captain).setTst m.other .out).takeTiming m).dualEnds).switchedOver m (if fault then 0 else 1) s1.tan.switchSource
          let s3 : State := { s2 with tan := { s2.tan with switchSource := 0xFFFF } }
          (s3.dropUncommitted).mastReset m.other ((s1.tan.resetCause.get m.other).getD 6)

/-- STAY_REJOIN_TIMER (R85): the Stay link has been up for 1 s; a mast that is OUT joins. -/
def execStayRejoinTimer (s : State) : Outcome State Fault Refusal :=
  .next <|
    if !s.tan.stay.up || decide (s.now < s.tan.stay.upSince + Config.second) then s
    else (s.joinIfAble .a false).joinIfAble .b false

/-! ### Joining (R70 to R75) -/

/-- SLOT_PRELOAD_END (R72): the Captain now decides to resynchronise. -/
def execSlotPreloadEnd (s : State) : Outcome State Fault Refusal :=
  .next <|
    match s.tan.join with
    | some j => if j.preload then { s with tan := { s.tan with join := some { j with preload := false, decision := s.step, slowAt := if 24 ≤ s.stayAligned j.mast then none else some s.step } } } else s
    | none => s

/-- The last step that J may be (R72, R409): 64 steps after the decision to resynchronise while 24 lanes carry the copy, and 128 from
when fewer do. -/
def Join.limit (j : Join) : Nat :=
  match j.slowAt with
  | some n => n + 128
  | none => j.decision + 64

/-- Lanes that carry a copy have fallen below 24 (R409). -/
def State.watchCopy (s : State) : State :=
  match s.tan.join with
  | some j =>
    if j.preload || j.joinStep.isSome || j.slowAt.isSome || decide (24 ≤ s.stayAligned j.mast) then s
    else { s with tan := { s.tan with join := some { j with slowAt := some s.step } } }
  | none => s

/-- A converter of a joining mast: the Captain's phase and ratio with its own filter history (R70). -/
def Feed.joinCopy (own c : Feed) : Feed := { own with ratio := c.ratio, phase := c.phase, ests := c.ests }

/-- The frames a joining mast has captured, with the steps that the Captain has assigned (R70). -/
def joinCaps (own c : List Captured) : List Captured :=
  own.map (fun x => match c.find? (fun y => y.index == x.index && y.step.isSome) with
    | some y => { x with step := y.step, phase := y.phase }
    | none => x)

/-- A received stream of a joining mast: the Captain's, but for the packets that the mast itself holds (R70). -/
def RxStream.joinCopy (own : Option RxStream) (c : RxStream) : RxStream :=
  match own.filter (fun x => x.params == c.params) with
  | some x => { c with held := x.held, newest := x.newest, slots := x.slots, feed := x.feed.joinCopy c.feed }
  | none =>
    { c with held := [], newest := none, slots := []
             feed := (Feed.reset c.feed.conceal.length c.feed.ratio).joinCopy c.feed }

/-- SDI audio of a joining mast: the Captain's groups, and what the mast itself captures (R70). -/
def SdiAudio.joinCopy (own c : SdiAudio) : SdiAudio :=
  { own with inGroups := c.inGroups, outGroups := c.outGroups, restart := c.restart, caps := joinCaps own.caps c.caps,
             feed := own.feed.joinCopy c.feed }

/-- The audio state of a joining mast: configuration, sinks, and ASRC phases and ratios are the Captain's; captured frames,
packets, locks and filter histories its own (R70). -/
def AudioMast.joinCopy (own c : AudioMast) : AudioMast :=
  { c with
    aesIn := (List.range c.aesIn.length).map (fun i =>
      let x := atD own.aesIn i .reset
      let y := atD c.aesIn i .reset
      { x with enabled := y.enabled, caps := joinCaps x.caps y.caps, feed := x.feed.joinCopy y.feed })
    rx := c.rx.map (fun e => (e.1, RxStream.joinCopy (own.rx.find e.1) e.2))
    sdi := c.sdi.map (fun e => (e.1, (own.sdi.getD e.1 .reset).joinCopy e.2))
    recFrame := own.recFrame, reports := own.reports, notices := own.notices, sent := [], forwards := own.forwards }

/-- The state that the copy of R70 carries to a joining mast: the datapath, audio state, selections, egress flows, alarm
state and the dies' power. Counters, logs, lanes, telltales and what the mast itself receives stay its own. -/
def State.copyTo (s : State) (m : Mast) : State :=
  let c := m.other
  let v := s.vid.get c
  let w := s.vid.get m
  { s with
    dp := s.dp.set m (s.dp.get c)
    aud := s.aud.set m ((s.aud.get m).joinCopy (s.aud.get c))
    vid := s.vid.set m { w with flows := v.flows, outputs := v.outputs, tx := v.tx, idle := v.idle }
    tim := s.tim.set m { s.tm m with
      tbs := (List.range 4).map (fun i => { s.tb c i with shadow := (s.tb m i).shadow
                                                          st := if (s.tm m).xoFailed then .lost else (s.tb c i).st }) }
    alm := s.alm.set m { s.alm.get m with
      assigned := (s.alm.get c).assigned
      inputs := (List.range 8).map (fun i =>
        { s.alarmIn m i with acted := (s.alarmIn c i).acted, solo := none }) }
    md := { s.md with mixOn := s.md.mixOn.set m (s.md.mixOn.get c), routeOn := s.md.routeOn.set m (s.md.routeOn.get c) } }

/-- COPY_PASS_END (R70 to R72): the copy holds what the Captain held; where the rest fits one step, J is named 4 steps ahead, and every commit for J or later goes with
the rest; else another pass starts. A pass that would take J past its bound is the last, for the rates of R72 leave no more
than one step's transfer then. -/
def execCopyPassEnd (fits : Bool) (s : State) : Outcome State Fault Refusal :=
  .next <|
    match s.tan.join with
    | some j =>
      if j.preload || j.joinStep.isSome then s
      else
        let k := s.step + 4
        let last := fits || decide (j.limit ≤ k)
        let s1 := s.copyTo j.mast
        { s1 with tan := { s1.tan with join := some { j with pass := j.pass + 1, joinStep := if last then some k else none } }
                  hal := { s1.hal with sched := if last then s1.hal.sched.map (fun c => if k ≤ c.effStep then { c with stokerHolds := true } else c)
                    else s1.hal.sched } }
    | none => s

/-- Flags raised before the join step are discarded (R67). -/
def MastTandem.dropFlags (t : MastTandem) (j : Nat) : MastTandem :=
  { t with flags := t.flags.filter (fun f => decide (j ≤ f.step)) }

/-- Step J comes: the joining mast holds the Captain's state and computes from here (R71); at a later boundary the step is flagged
(R633). -/
def State.joinNow (s : State) (n : Nat) : State :=
  match s.tan.join with
  | some j =>
    match j.joinStep with
    | some k =>
      if j.joined || decide (n < k) then s
      else
        let s1 := s.copyTo j.mast
        let s2 : State := { s1 with tan := { s1.tan with join := some { j with joined := true }
                                                         m := s1.tan.m.map (fun t => t.dropFlags k) } }
        if k < n then s2.flagLate j.mast k else s2
    | none => s
  | none => s

/-- JOIN_STEP (R71): step J, which begins at this boundary. -/
def execJoinStep (s : State) : Outcome State Fault Refusal := .next (s.joinNow (s.step + 1))

/-- Digests are formed: a datapath runs, and a wake is over (R64, R103, R113). -/
def State.formsDigests (s : State) : Bool :=
  (s.md.mode == .quiet || s.md.mode == .service || s.md.mode == .alarm || s.md.mode == .maintain) && s.md.wake.isNone

/-- Modes in which digests are compared (R103, R113, R124). -/
def State.digestMode (s : State) : Bool :=
  (s.md.mode == .quiet || s.md.mode == .service || s.md.mode == .alarm) && s.md.wake.isNone

/-- The digests of a step agree: each mast holds the same of its own, or none are formed in this mode. -/
def State.digestsAgree (s : State) (n : Nat) : Bool :=
  !s.digestMode || ((s.mt .a).own.find n == (s.mt .b).own.find n && ((s.mt .a).own.find n).isSome)

/-- STOKER_REJOIN (R73, R80): at J + 3 the joining mast becomes STOKER where the digests of step J agree; otherwise one
further attempt is made, and then it goes OUT and is reset. -/
def execStokerRejoin (s : State) : Outcome State Fault Refusal :=
  .next <|
    match s.tan.join with
    | some j =>
      match j.joinStep with
      | some k =>
        if !j.joined || decide (s.step + 1 < k + 3) then s
        else
          let s1 : State := { s with tan := { s.tan with join := none } }
          if s.digestsAgree k then
            (s1.setTst j.mast .stoker).event 2 evTandemRejoin (be 1 j.mast.code ++ zeros 3 ++ be 8 k)
          else if j.attempts = 0 then s1.beginJoin j.mast false 1
          else s1.mastReset j.mast 6
      | none => s
    | none => s

/-- JOIN_HOLD_EXPIRY (R75): a mast held OUT for 60 s makes one attempt to join. -/
def execJoinHoldExpiry (m : Mast) (s : State) : Outcome State Fault Refusal :=
  .next <|
    match s.tan.heldUntil.get m with
    | some t =>
      if s.now < t then s
      else if s.canJoin m then s.enterJoining m false
      else { s with tan := { s.tan with heldUntil := s.tan.heldUntil.set m none } }
    | none => s

/-! ### Digests (R64 to R68) -/

/-- Keep the newest `n` entries of a table by step. -/
def keepSteps {α : Type} (n : Nat) (t : Assoc α) : Assoc α := t.drop (t.length - n)

/-- DIGEST_RECEIVED (R65): what the peer formed for a step arrives over the Stay link. -/
def execDigestReceived (m : Mast) (n : Nat) (s : State) : Outcome State Fault Refusal :=
  .next <|
    match (s.mt m.other).own.find n with
    | some d =>
      if s.tan.stay.up then
        let t := s.mt m
        s.setMt m { t with peer := keepSteps 16 (t.peer.put n d) }
      else s
    | none => s

/-- Regions whose digests of a step differ on a mast, and regions whose peer digest has not arrived (R65, R66). -/
def MastTandem.compare (t : MastTandem) (n : Nat) : List Nat × List Nat :=
  let own := (t.own.find n).getD []
  let peer := t.peer.find n
  let region (l : List (Option Nat)) (g : Nat) : Option Nat := atD l g none
  ((List.range 8).filter (fun g => match region own g, peer with
      | some x, some l => (match region l g with
        | some y => x != y
        | none => false)
      | _, _ => false),
   (List.range 8).filter (fun g => match region own g, peer with
      | some _, some l => (region l g).isNone
      | some _, none => true
      | none, _ => false))

/-- A mast compares its digests of a step with its peer's: counts, and the regions that count as mismatched; three timeouts
in a row are a mismatch at the third (R65, R66). -/
def State.compareOn (s : State) (m : Mast) (n : Nat) : State × List Nat :=
  let t := s.mt m
  let r := t.compare n
  let late := if s.tan.stay.up then r.2 else []
  let times := (List.range 8).map (fun g => if late.contains g then atD t.timeouts g 0 + 1 else 0)
  let third := late.filter (fun g => decide (3 ≤ atD times g 0))
  let cleared := (List.range 8).map (fun g => if third.contains g then 0 else atD times g 0)
  let s1 := s.setMt m { t with timeouts := cleared, compared := Nat.max t.compared n }
  let s2 := (r.1 ++ third).foldl (fun acc g => acc.bump m (digestCounter g 3) 1) s1
  let s3 := late.foldl (fun acc g => acc.bump m (digestCounter g 4) 1) s2
  (s3, r.1 ++ third)

/-- The cause of a mismatch for a step, by the flags of both masts in its attribution window (R67): 2 DATAPATH, 0 INPUT,
1 UNEXPLAINED. -/
def State.culprit (s : State) (stoker : Mast) (n : Nat) : Nat :=
  let w := s.window
  let inWindow (f : Flag) : Bool := decide (n ≤ f.step + w) && decide (f.step ≤ n)
  let overflow (t : MastTandem) : Bool := match t.overflowUntil with
    | some k => decide (n < k + w)
    | none => false
  if (s.mt stoker).flags.any (fun f => inWindow f && f.kind == .datapath) then 2
  else if bothMasts.any (fun m => overflow (s.mt m) || (s.mt m).flags.any (fun f => inWindow f && f.kind != .datapath)) then 0
  else 1

/-- What a mismatch leads to (R67, R68, R70): the event, and the Stoker's resynchronisation. -/
def State.diverged (s : State) (stoker : Mast) (n g : Nat) : State :=
  let cause := s.culprit stoker n
  let s1 := s.event 2 evTandemDiverge (be 1 g ++ be 1 cause ++ zeros 2 ++ be 8 n)
  let s2 :=
    if cause = 1 then
      let l := s1.tan.unexplained.filter (fun t => decide (s1.now < t + 60 * Config.second)) ++ [s1.now]
      let s2 := ({ s1 with tan := { s1.tan with unexplained := l } } : State).bump stoker.other (digestCounter g 5) 1
      let s3 := s2.bump stoker (digestCounter g 5) 1
      if l.length ≥ 3 then s3.report s3.lead 0xA0 0 else s3
    else s1
  if s2.tst stoker = .stoker then s2.enterJoining stoker false else s2

/-- Both masts hold each other's digests of a step. -/
def State.allArrived (s : State) (n : Nat) : Bool := bothMasts.all (fun m => ((s.mt m).compare n).2.isEmpty)

/-- DIGEST_COMPARE (R65 to R68): by the end of step n + 2. The Captain's comparison decides. -/
def execDigestCompare (n : Nat) (s : State) : Outcome State Fault Refusal :=
  .next <|
    match s.captain with
    | none => s
    | some c =>
      if !s.inTandem || !s.digestMode || decide (n ≤ (s.mt c).compared) || decide (s.step < n) ||
          ((s.mt c).own.find n).isNone || (decide (s.step < n + 2) && !s.allArrived n) then s
      else
        let r := s.compareOn c n
        let q := r.1.compareOn c.other n
        match r.2 with
        | [] => q.1
        | g :: _ => q.1.diverged c.other n g

/-- A region of a mast has failed its step: an overrun of a Mix region, a late departure of a Route region, and a Reef 3 fault (R24,
R66, R254, R505). -/
def State.stepFailed (s : State) (m : Mast) (g : Nat) : State :=
  if !(s.serves m || s.joined m) || !s.formsDigests then s
  else (if g < 4 then s.bump m (digestCounter g 0) 1 else s).report m (if g < 4 then 0x07 else 0x26) (0x60000000 + g)

/-- STEP_FAILURE (R24, R66, R461): a region has not formed its digest in time; its mast takes a Reef 3 fault. -/
def execStepFailure (m : Mast) (g : Nat) (s : State) : Outcome State Fault Refusal :=
  .next <| if 8 ≤ g then s else s.stepFailed m g

end Sys2Proof.Machine
end

