-- ==== Sys2Proof/Machine/Reserve.lean ====
section
/-! DEFINITION. Pairing with another package, tracking, and take-over (R89 to R96, R410). -/
namespace Sys2Proof.Machine
open Host

/-- Replace the pairing. -/
def State.setPair (s : State) (x : Pairing) : State := { s with tan := { s.tan with pairing := x } }

/-- A Shroud link of the package is up. -/
def State.shroudAny (s : State) : Bool := s.lan.a.shroudUp || s.lan.b.shroudUp

/-- The package is out of BOOT and not in LOCKOUT or VAULT. -/
def State.running (s : State) : Bool := s.md.mode.led

/-- Bytes of a CAPS record that hold the variant and every capacity field (R6, R190). -/
def capacityBytes (caps : List Byte) : List Byte := fldBytes caps 4 1 ++ caps.drop 8

/-- The role a package pairs in: a former Primary, once it runs again beside an acting Primary, is a Reserve (R95). -/
def State.pairRole (s : State) (x : PeerFacts) : Nat :=
  if s.tan.pairing.role = 1 && x.role = 3 then 2 else s.tan.pairing.role

/-- Pairing starts: both sealed profiles name each other's device certificate, the package roles are opposite, and a Shroud link
is up (R89). -/
def State.pairable (s : State) (x : PeerFacts) : Bool :=
  (match s.sec.profile, x.profile with
   | some p, some q => p.global.peerCertHash == x.certHash && q.global.peerCertHash == s.certHash
   | _, _ => false) &&
  s.shroudAny && s.running && !s.tan.pairing.paired && !s.tan.pairing.blocked &&
  ((s.pairRole x == 2 && (x.role == 1 || x.role == 3)) || ((s.pairRole x == 1 || s.pairRole x == 3) && x.role == 2))

/-- The six pairing checks, in the order of their reason codes (R6, R89, R90). -/
def State.pairChecks (s : State) (x : PeerFacts) : List Bool :=
  let alarm (p : Option Profile) := p.map Profile.alarmParts
  [capacityBytes s.caps == capacityBytes x.caps,
   x.internalRate == s.rate && x.fence == s.fence && x.profile.map (fun p => p.global.shroudFence) == some s.tan.pairing.fence,
   x.fwVersion == s.sec.fwVersion && x.rollback == s.sec.rollback,
   alarm x.profile == alarm s.sec.profile,
   decide (-2000 ≤ s.tan.pairing.phaseNs) && decide (s.tan.pairing.phaseNs ≤ 2000),
   decide (s.tan.pairing.rtt ≤ 8)]

/-- The reason code of the first check that fails, or 0. -/
def firstFailure (checks : List Bool) : Nat :=
  match checks.findIdx? (fun b => !b) with
  | some i => i + 1
  | none => 0

/-- SHROUD_PAIRING (R6, R89, R90, R95): the six checks in order. The Reserve reports; the Primary counts. A refused pairing is
blocked until a new profile or a Shroud link that comes up again. -/
def execShroudPairing (x : PeerFacts) (s : State) : Outcome State Fault Refusal :=
  .next <|
    if !s.pairable x then s
    else
      let role := s.pairRole x
      let reason := firstFailure (s.pairChecks x)
      let y := s.tan.pairing
      let z : Pairing := { y with role := role, reason := reason, swapped := if role = y.role then y.swapped else some y.role }
      let s1 := s.setPair
        (if reason = 0 then { z with paired := true, tracking := 1, divergedAt := none }
         else { z with tracking := 0, blocked := true, refusals := if role = 2 then z.refusals else z.refusals + 1 })
      if role = 2 then s1.event 2 evShroudPair (be 1 reason ++ zeros 3) else s1

/-- The Reserve suspends tracking. -/
def State.suspend (s : State) : State := s.setPair { s.tan.pairing with tracking := 2, suspendedAt := s.now }

/-- The Reserve suspends tracking for its step phase or its round trip, reason code 5 or 6, and reports it (R90, R436). -/
def State.suspendFor (s : State) (reason : Nat) : State :=
  let s1 := s.suspend
  (s1.setPair { s1.tan.pairing with reason := reason }).event 2 evShroudPair (be 1 reason ++ zeros 3)

/-- The step phase lies within 2 µs (R89, R436). -/
def Pairing.inPhase (x : Pairing) : Bool := decide (x.phaseNs.natAbs ≤ 2000)

/-- Tracking goes on after a suspension: the digests are to agree again (R92). -/
def State.resumeTracking (s : State) : State := s.setPair { s.tan.pairing with tracking := 1, divergedAt := some s.step }

/-- SHROUD_MEASUREMENT (R90, R410, R436): every 10 ms. A round trip that grows past the fence less 2 suspends tracking, and so does a
step phase beyond 2 µs for 1 s; that one resumes once the phase has stayed within 2 µs for 60 s. -/
def execShroudMeasurement (rtt : Nat) (phaseNs : Int) (s : State) : Outcome State Fault Refusal :=
  .next <|
    if !s.shroudAny || s.tan.pairing.measuredAt.elim false (fun t => decide (s.now < t + 10 * Config.msec)) then s
    else
      let x := s.tan.pairing
      let y : Pairing := { x with rtt := rtt, phaseNs := phaseNs, measuredAt := some s.now }
      let z : Pairing := { y with phaseAt := if x.measuredAt.isSome && y.inPhase == x.inPhase then x.phaseAt else s.now }
      let s1 := s.setPair z
      let grown := x.tracking == 1 || decide (x.rtt + 2 ≤ x.fence)
      if !x.paired || x.role != 2 || x.tracking = 0 then s1
      else if grown && decide (x.fence < rtt + 2) then s1.suspendFor 6
      else if x.tracking = 1 && !z.inPhase && decide (z.phaseAt + Config.second ≤ s.now) then s1.suspendFor 5
      else if x.tracking = 2 && x.reason = 5 && z.inPhase && decide (z.phaseAt + 60 * Config.second ≤ s.now) then s1.resumeTracking
      else s1

/-- The state that the Primary's Captain has copied reaches the Reserve's masts at its join step (R70, R71, R92). What the masts
themselves receive stays their own, as in a join. -/
def State.takeCopy (s : State) (x : PrimaryState) : State :=
  let one (acc : State) (m : Mast) : State :=
    let v := acc.vid.get m
    let a := acc.alm.get m
    { acc with
      dp := acc.dp.set m x.dp
      aud := acc.aud.set m ((acc.aud.get m).joinCopy x.aud)
      vid := acc.vid.set m { v with flows := x.vid.flows, outputs := x.vid.outputs, tx := x.vid.tx, idle := x.vid.idle }
      alm := acc.alm.set m { a with
        assigned := x.assigned
        inputs := (List.range 8).map (fun i => { acc.alarmIn m i with acted := atD x.acted i 0, solo := none }) } }
  let s1 := s.servers.foldl one s
  let runs (m : Mode) : Bool := m == .quiet || m == .service || m == .alarm
  let s2 : State := { s1 with rigs := x.rigs, md := { s1.md with base := x.base } }
  if runs s2.md.mode && runs x.mode && s2.md.mode != x.mode then s2.enterMode x.mode x.base 0 else s2

/-- RESERVE_DIGEST_COMPARE (R92): the Primary's digests of a step against the Reserve Captain's, within 16 steps. `copy` is the
Primary's state where a copy has ended; it is taken at its join step. -/
def execReserveDigestCompare (n : Nat) (ds : List (Option Nat)) (copy : Option PrimaryState) (s : State) :
    Outcome State Fault Refusal :=
  .next <|
    let x := s.tan.pairing
    if !s.tracks || !s.digestMode then s
    else
      let s0 := match copy with
        | some c => if x.divergedAt.isSome && decide (c.joinStep ≤ s.step + 1) then s.takeCopy c else s
        | none => s
      match (s0.mt s0.lead).own.find n with
      | none => s0
      | some own =>
        if s0.step > n + 16 then s0
        else if (List.range 8).all (fun g => atD own g none == atD ds g none) then s0.setPair { x with divergedAt := none }
        else
          let s1 := s0.event 2 evReserveDiverge (be 8 n)
          match x.divergedAt with
          | none => s1.setPair { x with divergedAt := some n }
          | some k => if k + 512 < n then s1.suspend else s1

/-- RESERVE_TRACK_RETRY (R90, R92, R436): after 60 s of suspension the Reserve tries again; one suspended for its step phase waits for
60 s within 2 µs. -/
def execReserveTrackRetry (s : State) : Outcome State Fault Refusal :=
  .next <|
    let x := s.tan.pairing
    if x.tracking != 2 || decide (s.now < x.suspendedAt + 60 * Config.second) then s
    else if x.fence < x.rtt + 2 then s.suspendFor 6
    else if x.reason = 5 && !(x.inPhase && decide (x.phaseAt + 60 * Config.second ≤ s.now)) then s
    else s.resumeTracking

/-- PRESENCE_BEACON_SEND (R94): every 10 ms, by the Primary, on both networks: each mast that serves sends on its own. -/
def execPresenceBeaconSend (s : State) : Outcome State Fault Refusal :=
  .next <|
    let x := s.tan.pairing
    if (x.role = 1 || x.role = 3) && s.running && s.captain.isSome && decide (x.lastBeacon + 10 * Config.msec ≤ s.now) then
      s.setPair { x with lastBeacon := s.now, beaconsSent := s.servers.foldl (fun b m => b.set m (b.get m + 1)) x.beaconsSent }
    else s

/-- PRESENCE_BEACON_RX (R94): the take-over delay starts again; counted while the Shroud link is down on both masts. -/
def execPresenceBeaconRx (m : Mast) (s : State) : Outcome State Fault Refusal :=
  .next <|
    let x := s.tan.pairing
    if x.role != 2 || !s.serves m then s
    else s.setPair { x with lastBeacon := s.now, beacons := if s.shroudAny then x.beacons else x.beacons + 1 }

/-- TAKEOVER_MS of the profile: 500 ms where it gives none (R94). -/
def State.takeoverMs (s : State) : Nat :=
  match s.sec.profile with
  | some p => if p.global.takeoverMs = 0 then 500 else p.global.takeoverMs
  | none => 500

/-- The Reserve's Captain names the take-over step: the next boundary plus 2 steps (R94). -/
def State.nameTakeover (s : State) (cause : Nat) : State :=
  s.setPair { s.tan.pairing with takeoverStep := some (s.step + 3), takeoverCause := cause }

/-- TAKEOVER_DELAY_EXPIRY (R94): the Shroud link is down on both masts, and no beacon has come for the delay. -/
def execTakeoverDelayExpiry (s : State) : Outcome State Fault Refusal :=
  .next <|
    let x := s.tan.pairing
    if x.role != 2 || !x.paired || x.takeoverStep.isSome || s.shroudAny || s.captain.isNone || !s.running ||
        decide (s.now < x.lastBeacon + s.takeoverMs * Config.msec) then s
    else s.nameTakeover 1

/-- BARE_POLES_NOTICE_RX (R94). -/
def execBarePolesNoticeRx (s : State) : Outcome State Fault Refusal :=
  .next <|
    let x := s.tan.pairing
    if x.role != 2 || !x.paired || x.takeoverStep.isSome || s.captain.isNone || !s.running then s else s.nameTakeover 0

/-- RESERVE_TAKEOVER (R94, R95): the Reserve becomes the acting Primary, and its outputs are released. -/
def execReserveTakeover (s : State) : Outcome State Fault Refusal :=
  .next <|
    let x := s.tan.pairing
    match x.takeoverStep with
    | none => s
    | some k =>
      if s.step + 1 < k ∨ x.role ≠ 2 then s
      else (s.flagFollower k).atStep (s.step + 1) (fun y =>
        let inTrack := x.tracking = 1 && x.divergedAt.isNone
        let s1 := y.setPair { x with role := 3, paired := false, tracking := 0, takeoverStep := none, swapped := some 2 }
        let s2 := s1.servers.foldl (fun acc m => acc.setMt m { acc.mt m with drive := driveOf (acc.tst m) }) s1
        s2.event 2 evReserveTakeover (be 1 x.takeoverCause ++ be 1 (b01 inTrack) ++ zeros 2 ++ be 8 s2.step))

end Sys2Proof.Machine
end

