-- ==== Sys2Proof/Machine/ProfileImage.lean ====
section
/-! DEFINITION. The sealed profile as the device reads it (R569, R570) and the structural checks of R571. Reading is total:
bytes past the image's end read as zero, and the checks decide what is refused. -/
namespace Sys2Proof.Machine

/-- Item size of a section type (R570). -/
def profileItemSize : Nat → Nat
  | 1 => 128
  | 2 => 56
  | 3 => 96
  | 4 => 64
  | 5 => 20
  | 6 => 64
  | 7 => 16
  | 8 => 2
  | 9 => 2
  | 10 => 16
  | 11 => 160
  | 12 => 16
  | 13 => 40
  | 14 => 8
  | 15 => 64
  | 16 => 8
  | _ => 0

/-- FLOW_MATCH at an offset (R186). -/
def readMatch (b : List Byte) (o : Nat) : FlowMatch :=
  { ipVer := fld b o 1, flags := fld b (o + 1) 1, vlan := fld b (o + 2) 2, dest := fld b (o + 4) 16, src := fld b (o + 20) 16,
    port := fld b (o + 36) 2, ssrc := fld b (o + 40) 4 }

/-- GLOBAL item (R570). -/
def readGlobal (b : List Byte) (o : Nat) : GlobalItem :=
  { internalRate := fld b o 1, endMode := fld b (o + 1) 1, packageRole := fld b (o + 2) 1, videoPrimary := fld b (o + 3) 1,
    syncRaster := fld b (o + 4) 1, wclkRate := fld b (o + 5) 1, ptpTransport := fld b (o + 6) 1,
    shroudFence := fld b (o + 7) 1, holdoverLimit := fld b (o + 8) 4, xoTol := fld b (o + 12) 4,
    xoDrift := fld b (o + 16) 4, takeoverMs := fld b (o + 20) 2, alarmMinGain := signedOf 36 (fld b (o + 24) 8),
    peerCertHash := fldBytes b (o + 32) 48 }

/-- TIMEBASE item (R570): CANDIDATES has bit 0 in its last byte. -/
def readTimebase (b : List Byte) (o : Nat) : TimebaseItem :=
  { candidates := fld b o 11, frameFamily := fld b (o + 11) 1, realignTol := fld b (o + 12) 4, ptpDomain := fld b (o + 16) 1,
    ptpProfile := fld b (o + 17) 1, delayMode := fld b (o + 18) 1, maxClockClass := fld b (o + 19) 1,
    jumpThreshold := fld b (o + 20) 4,
    gmAllow := (List.range (Nat.min 8 (fld b (o + 24) 1))).map (fun i => fld b (o + 32 + 8 * i) 8) }

/-- PORT item (R570). -/
def readPort (b : List Byte) (o : Nat) : PortItem :=
  { lane := fld b o 1, mode := fld b (o + 1) 1, fec := fld b (o + 2) 1, laneFlags := fld b (o + 3) 1,
    ptpPorts := fld b (o + 4) 1, tcGroup := fld b (o + 5) 1, mast := fld b (o + 6) 1, txSwing := fld b (o + 7) 1,
    asymNs := signedOf 32 (fld b (o + 8) 4), mac := fld b (o + 12) 6, mtu := fld b (o + 18) 2, ipv4 := fld b (o + 20) 4,
    ipv4Prefix := fld b (o + 24) 1, ipv6Prefix0 := fld b (o + 25) 1, ipv6Prefix1 := fld b (o + 26) 1,
    ipv6a := fld b (o + 28) 16, ipv6b := fld b (o + 44) 16, rangeFirst := fld b (o + 60) 2, rangeCount := fld b (o + 62) 2 }

/-- ALARM_INPUT item (R570). -/
def readAlarmInput (b : List Byte) (o : Nat) : AlarmInputItem :=
  { input := fld b o 1, flags := fld b (o + 1) 1, priority := fld b (o + 2) 1, sourceKind := fld b (o + 3) 1,
    sourceIndex := fld b (o + 4) 2, zoneFirst := fld b (o + 6) 2, zoneCount := fld b (o + 8) 2, fallback := fld b (o + 12) 4 }

/-- The offsets of the items of a section. -/
def itemOffsets (d : List DirEntry) (typ : Nat) : List Nat :=
  match dirOf d typ with
  | some e => (List.range (Nat.min e.count 4096)).map (fun i => e.offset + profileItemSize typ * i)
  | none => []

/-- Read a sealed profile (R569, R570). -/
def readProfile (b : List Byte) : Profile :=
  let d := directory' b
  let at' {α : Type} (typ : Nat) (f : Nat → α) : List α := (itemOffsets d typ).map f
  { seq := fld b 12 4, variant := fld b 16 1, deviceCertHash := fldBytes b 32 48, alertHash := fldBytes b 80 48,
    hash := fit 48 (Config.sha384 b),
    global := readGlobal b ((itemOffsets d 1).headD 0),
    seats := at' 2 (fun o =>
      { seat := fld b o 1, role := fld b (o + 1) 1, prioLimit := fld b (o + 2) 1, eventMask := fld b (o + 4) 2,
        certHash := fldBytes b (o + 8) 48 }),
    timebases := at' 3 (readTimebase b), ports := at' 4 (readPort b),
    ranges := at' 5 (fun o => { ipVer := fld b o 1, prefixLen := fld b (o + 1) 1, address := fld b (o + 4) 16 }),
    mgmt := at' 6 (fun o =>
      { mast := fld b o 1, place := fld b (o + 1) 1, lane := fld b (o + 2) 1, ipv4Prefix := fld b (o + 3) 1,
        mtu := fld b (o + 4) 2, ipv6Prefix := fld b (o + 6) 1, ipv4 := fld b (o + 8) 4, gw4 := fld b (o + 12) 4,
        ipv6 := fld b (o + 16) 16, gw6 := fld b (o + 32) 16 }),
    zones := at' 7 (fun o =>
      { zone := fld b o 2, floor := fld b (o + 2) 1, outFirst := fld b (o + 4) 2, outCount := fld b (o + 6) 2,
        gain := signedOf 36 (fld b (o + 8) 8) }),
    zoneOutputs := at' 8 (fun o => fld b o 2), zoneList := at' 9 (fun o => fld b o 2),
    alarmInputs := at' 10 (readAlarmInput b),
    alarmStreams := at' 11 (fun o => { input := readAlarmInput b o, flow := readMatch b (o + 16), key := fldBytes b (o + 60) 97 }),
    outChannels := at' 12 (fun o =>
      { channel := fld b o 2, muteInAlarm := bit (fld b (o + 2) 1) 0, releaseMs := fld b (o + 4) 2,
        ceiling := signedOf 36 (fld b (o + 8) 8) }),
    sinks := at' 13 (fun o =>
      { cls := fld b o 1, index := fld b (o + 1) 1, flags := fld b (o + 2) 1, rate := fld b (o + 3) 1,
        userFrom := fld b (o + 4) 1, channels := (List.range 16).map (fun i => fld b (o + 8 + 2 * i) 2) }),
    videoOutputs := at' 14 (fun o =>
      { output := fld b o 2, timebase := fld b (o + 2) 1, family := fld b (o + 3) 1, flags := fld b (o + 4) 1,
        safe := fld b (o + 5) 1 }),
    streams := at' 15 (fun o => { dir := fld b o 1, params := fldBytes b (o + 4) 60 }),
    patch := at' 16 (fun o =>
      { channel := fld b o 2, srcClass := fld b (o + 2) 1, flags := fld b (o + 3) 1, srcIndex := fld b (o + 4) 2,
        srcChannel := fld b (o + 6) 2 }) }
where
  /-- The section directory follows the 128-byte header (R258, R569); SECTION_COUNT is at offset 17. -/
  directory' (b : List Byte) : List DirEntry :=
    (List.range (fld b 17 1)).map fun i =>
      let o := 128 + 16 * i
      { typ := fld b o 2, reserved := fld b (o + 2) 2, offset := fld b (o + 4) 4, length := fld b (o + 8) 4,
        count := fld b (o + 12) 4 }

/-! ### The checks of R571 -/

/-- Reserved fields of the items of each section (R570): type, offset in the item, and size. -/
def profileReserved : List (Nat × Nat × Nat) :=
  [ (1, 22, 2), (1, 80, 48), (2, 3, 1), (2, 6, 2), (3, 25, 7), (4, 27, 1), (5, 2, 2), (6, 7, 1), (6, 48, 16), (7, 3, 1),
    (10, 10, 2), (11, 10, 2), (11, 54, 2), (11, 157, 3), (12, 3, 1), (12, 6, 2), (13, 5, 3), (14, 6, 2), (15, 1, 3) ]

/-- Whether two directory entries overlap. -/
def DirEntry.overlaps (x y : DirEntry) : Bool :=
  decide (x.offset < y.offset + y.length) && decide (y.offset < x.offset + x.length)

/-- The header, the directory, reserved fields and padding of a profile (R569, R571). -/
def profileFormOk (b : List Byte) : Bool :=
  let d := readProfile.directory' b
  let n := fld b 17 1
  let base := 128 + 16 * n
  let stop := b.length - 96
  let inSection (i : Nat) : Bool := d.any (fun e => decide (e.offset ≤ i) && decide (i < e.offset + e.length))
  fld b 0 4 == 0x50524631 && fld b 4 2 == 1 && fld b 6 2 == 128 && fld b 8 4 == b.length && decide (b.length ≤ 1048576) &&
  fld b 12 4 != 0 && decide (2 ≤ n) && decide (n ≤ 16) && fldBytes b 18 14 == zeros 14 && decide (base + 96 ≤ b.length) &&
  d.all (fun e => decide (1 ≤ e.typ) && decide (e.typ ≤ 16) && e.reserved == 0 && e.offset % 8 == 0 && decide (base ≤ e.offset) &&
    decide (e.offset + e.length ≤ stop) && e.length == e.count * profileItemSize e.typ) &&
  distinct (d.map (fun e => e.typ)) && d.all (fun e => d.all (fun x => e.typ == x.typ || !e.overlaps x)) &&
  (dirOf d 1).elim false (fun e => e.count == 1) && (dirOf d 2).elim false (fun e => decide (1 ≤ e.count) && decide (e.count ≤ 8)) &&
  (dirOf d 3).elim true (fun e => e.count == 4) && (dirOf d 6).elim true (fun e => e.count == 2) &&
  (dirOf d 7).elim true (fun e => decide (e.count ≤ 512)) && (dirOf d 10).elim true (fun e => decide (e.count ≤ 8)) &&
  (dirOf d 11).elim true (fun e => decide (e.count ≤ 8)) && (dirOf d 13).elim true (fun e => decide (e.count ≤ 84)) &&
  (dirOf d 14).elim true (fun e => decide (e.count ≤ 1536)) && (dirOf d 15).elim true (fun e => decide (e.count ≤ 128)) &&
  (dirOf d 12).elim true (fun e => decide (e.count ≤ 2048)) && (dirOf d 16).elim true (fun e => decide (e.count ≤ 2048)) &&
  profileReserved.all (fun r => (itemOffsets d r.1).all (fun o => fldBytes b (o + r.2.1) r.2.2 == zeros r.2.2)) &&
  b.zipIdx.all (fun x => decide (x.2 < base) || decide (stop ≤ x.2) || inSection x.2 || x.1 == 0)

/-- GLOBAL values (R57, R90, R94, R414, R570). -/
def GlobalItem.ok (g : GlobalItem) : Bool :=
  decide (g.internalRate ≤ 1) && (g.endMode == 1 || g.endMode == 3) && decide (g.packageRole ≤ 2) && decide (g.videoPrimary ≤ 3) &&
  decide (1 ≤ g.syncRaster) && decide (g.syncRaster ≤ 17) && decide (g.wclkRate ≤ 6) && decide (g.ptpTransport ≤ 2) &&
  decide (4 ≤ g.shroudFence) && decide (g.shroudFence ≤ 16) && decide (600 ≤ g.holdoverLimit) &&
  decide (g.holdoverLimit ≤ 2592000) && decide (10 ≤ g.xoTol) && decide (g.xoTol ≤ 50000) && decide (1 ≤ g.xoDrift) &&
  decide (g.xoDrift ≤ 1000) && decide (100 ≤ g.takeoverMs) && decide (g.takeoverMs ≤ 10000) &&
  (g.packageRole != 0 || g.peerCertHash == zeros 48)

/-- TIMEBASE values (R414, R463). -/
def TimebaseItem.ok (t : TimebaseItem) : Bool :=
  decide (t.candidates < 2 ^ 87) && decide (1 ≤ t.frameFamily) && decide (t.frameFamily ≤ 5) && decide (10 ≤ t.realignTol) &&
  decide (t.realignTol ≤ 1000000) && (decide (t.ptpDomain ≤ 127) || t.ptpDomain == 255) && decide (t.ptpProfile ≤ 2) &&
  decide (t.delayMode ≤ 1) && decide (6 ≤ t.maxClockClass) && decide (100 ≤ t.jumpThreshold) &&
  decide (t.jumpThreshold ≤ 1000000)

/-- PORT values but for the groups of MODE 3 (R386, R463). -/
def PortItem.ok (x : PortItem) (ranges : Nat) : Bool :=
  let leads := x.mode != 3 || x.lane % 4 == 0
  decide (x.lane < 128) && decide (x.mode ≤ 3) &&
  (x.fec == 0 || (x.fec == 1 && x.mode == 2) || (x.fec == 2 && (x.mode == 2 || x.mode == 3))) && decide (x.laneFlags ≤ 3) &&
  !(x.mode == 3 && bit x.laneFlags 0) && decide (x.ptpPorts ≤ 15) && decide (x.tcGroup ≤ 8) && decide (x.mast ≤ 1) &&
  (x.txSwing == 0 || (decide (8 ≤ x.txSwing) && decide (x.txSwing ≤ 20))) && decide (-10000 ≤ x.asymNs) &&
  decide (x.asymNs ≤ 10000) && (x.mtu == 0 || (decide (1500 ≤ x.mtu) && decide (x.mtu ≤ 9198))) && decide (x.ipv4Prefix ≤ 32) &&
  decide (x.ipv6Prefix0 ≤ 128) && decide (x.ipv6Prefix1 ≤ 128) && decide (x.rangeCount ≤ 16) &&
  decide (x.rangeFirst + x.rangeCount ≤ ranges) && (x.mode == 0 || !leads || (x.mac != 0 && !bit x.mac 40))

/-- Groups of four for MODE 3, one item per lane pair, and the limits on watch and QUIET lanes (R386). -/
def portsOk (ps : List PortItem) : Bool :=
  let lane (m l : Nat) : Option PortItem := ps.find? (fun x => x.mast == m && x.lane == l)
  distinct (ps.map (fun x => (x.mast, x.lane))) &&
  ps.all (fun x => x.mode != 3 || (List.range 4).all (fun i => (lane x.mast (x.lane / 4 * 4 + i)).elim false (fun y => y.mode == 3))) &&
  [0, 1].all (fun m =>
    decide ((ps.filter (fun x => x.mast == m && x.mode != 0 && bit x.laneFlags 0)).length ≤ 4) &&
    decide ((ps.filter (fun x => x.mast == m && x.mode != 0 && bit x.laneFlags 1)).length ≤ 32))

/-- A PTP candidate is bound, and has a watch lane of each mast in its PTP_PORTS; SYNC_RASTER fits (R416, R463). -/
def Profile.timingOk (p : Profile) : Bool :=
  p.timebases.all (fun t => t.ok) &&
  (List.range p.timebases.length).all (fun i =>
    match p.timebases[i]? with
    | none => true
    | some t =>
      let ptp := (List.range 4).filter (fun n => bit t.candidates (1 + n))
      (!bit t.candidates 5 || (rasters[p.global.syncRaster - 1]?).elim false (fun r => r.family == t.frameFamily)) &&
      ptp.all (fun n => (p.timebases[n]?).elim false (fun u => u.ptpDomain != 255)) &&
      (ptp.isEmpty || [0, 1].all (fun m => p.ports.any (fun x => x.mast == m && x.mode != 0 && bit x.laneFlags 0 && bit x.ptpPorts i))))

/-- The zones that an alarm input or stream names. -/
def Profile.inputZones (p : Profile) (x : AlarmInputItem) : List Nat := (p.zoneList.drop x.zoneFirst).take x.zoneCount

/-- Values of an alarm input or stream (R294, R570, R571). -/
def Profile.alarmItemOk (p : Profile) (x : AlarmInputItem) : Bool :=
  decide (x.flags ≤ 7) && decide (x.priority ≤ 7) && decide (x.sourceKind ≤ 2) && (x.sourceKind != 0 || decide (x.sourceIndex ≤ 63)) &&
  (x.sourceKind != 1 || p.patch.any (fun y => y.channel == x.sourceIndex && bit y.flags 0)) &&
  decide (x.zoneFirst + x.zoneCount ≤ p.zoneList.length) && decide (x.fallback < 2 ^ 20) &&
  (p.inputZones x).all (fun z => (p.zones.find? (fun y => y.zone == z)).elim true (fun y => decide (x.priority ≤ y.floor)))

/-- Profile streams of a direction are numbered from 0 without a gap or a repeat, at most 64 (R331). -/
def Profile.streamsRun (p : Profile) (dir : Nat) : Bool :=
  let ns := (p.streams.filter (fun x => x.dir == dir)).map (fun x => fld x.params 0 2)
  decide (ns.length ≤ 64) && distinct ns && ns.all (fun n => decide (n < ns.length))

/-- Zone outputs of every zone. -/
def Profile.zoned (p : Profile) : List Nat := (p.zones.map (fun z => p.outputsOf z)).flatten

/-- Audio values (R292, R294, R318, R570, R571). -/
def Profile.audioOk (p : Profile) : Bool :=
  let zoned := p.zoned
  p.zones.all (fun z => decide (z.zone ≤ 511) && decide (z.floor ≤ 7) && decide (z.outFirst + z.outCount ≤ p.zoneOutputs.length) &&
    decide (p.global.alarmMinGain ≤ z.gain)) &&
  distinct (p.zones.map (fun z => z.zone)) && distinct zoned && p.zoneOutputs.all (fun c => decide (c ≤ 2047)) &&
  p.zoneList.all (fun z => decide (z ≤ 511)) &&
  p.alarmInputs.all (fun x => decide (x.input ≤ 7) && p.alarmItemOk x) && distinct (p.alarmInputs.map (fun x => x.input)) &&
  (List.range p.alarmStreams.length).all (fun i => (p.alarmStreams[i]?).elim true (fun x =>
    x.input.input == 8 + i && p.alarmItemOk x.input && (x.flow.ipVer == 4 || x.flow.ipVer == 6) && decide (x.flow.flags < 8))) &&
  p.outChannels.all (fun x => decide (x.channel ≤ 2047) && decide (10 ≤ x.releaseMs) && decide (x.releaseMs ≤ 2000) &&
    decide (0x1000000 ≤ x.ceiling) && decide (x.ceiling ≤ 0xFFFFFEF) && !(x.muteInAlarm && zoned.contains x.channel)) &&
  distinct (p.outChannels.map (fun x => x.channel)) &&
  p.sinks.all (fun x => decide (x.cls ≤ 2) && decide (x.index < (if x.cls = 0 then 16 else if x.cls = 1 then 4 else 64)) &&
    decide (x.flags ≤ 15) && decide (x.rate ≤ 6) && (decide (x.userFrom ≤ 15) || x.userFrom == 0xFF) &&
    x.channels.all (fun c => decide (c ≤ 2047) || c == 0xFFFF) &&
    (x.cls != 0 || bit x.flags 0 || (x.channels.take 2).all (fun c => !zoned.contains c))) &&
  distinct (p.sinks.map (fun x => (x.cls, x.index))) &&
  p.patch.all (fun x => decide (x.channel ≤ 2047) && decide (x.flags ≤ 1) && decide (x.srcClass ≤ 4)) &&
  distinct (p.patch.map (fun x => x.channel)) && p.streams.all (fun x => decide (x.dir ≤ 1)) && p.streamsRun 0 && p.streamsRun 1

/-- Seat values (R162, R224, R571). -/
def Profile.seatsOk (p : Profile) : Bool :=
  p.seats.all (fun x => decide (x.seat ≤ 7) && decide (1 ≤ x.role) && decide (x.role ≤ 5) && decide (x.prioLimit ≤ 7) &&
    x.eventMask &&& 0xC001 == 0) &&
  distinct (p.seats.map (fun x => x.seat)) && distinct (p.seats.map (fun x => x.certHash)) &&
  p.seats.any (fun x => x.role == 4 || x.role == 5)

/-- Video values (R353, R570). -/
def Profile.videoOk (p : Profile) : Bool :=
  p.videoOutputs.all (fun x => decide (x.output ≤ 1535) && decide (x.timebase ≤ 3) && decide (1 ≤ x.family) && decide (x.family ≤ 5) &&
    decide (x.flags ≤ 15) && x.safe == 0) && distinct (p.videoOutputs.map (fun x => x.output))

/-- Management values (R151, R570). -/
def Profile.mgmtOk (p : Profile) : Bool :=
  (List.range p.mgmt.length).all (fun i => (p.mgmt[i]?).elim true (fun x => x.mast == i && decide (x.place ≤ 1) &&
    decide (x.ipv4Prefix ≤ 32) && decide (x.ipv6Prefix ≤ 128) &&
    (x.place == 0 || p.ports.any (fun y => y.mast == i && y.lane == x.lane && y.mode != 0 && bit y.laneFlags 0))))

/-- No alarm output lies on a MODE 3 port whose lane pairs would be powered in part (R391). -/
def State.partPowered (s : State) (p : Profile) : Bool :=
  let t : State := { s with sec := { s.sec with profile := some p } }
  let mixed (m l : Nat) : Bool :=
    let g := p.ports.filter (fun x => x.mast == m && x.mode == 3 && x.lane / 4 * 4 == l)
    g.any (fun x => bit x.laneFlags 1) && g.any (fun x => !bit x.laneFlags 1)
  p.streams.any (fun x => x.dir == 1 &&
    ((t.portFor .a (fld x.params 16 16)).elim false (mixed 0) || (t.portFor .b (fld x.params 32 16)).elim false (mixed 1)))

/-- Structure and values of a profile (R571, check 6). -/
def State.profileOk (s : State) (b : List Byte) (p : Profile) : Bool :=
  profileFormOk b && p.variant == Config.variantCode s.variant && p.global.ok && p.seatsOk && p.timingOk &&
  p.ports.all (fun x => x.ok p.ranges.length) && portsOk p.ports && p.audioOk && p.videoOk && p.mgmtOk && !s.partPowered p &&
  p.ranges.all (fun r => (r.ipVer == 4 && decide (r.prefixLen ≤ 32)) || (r.ipVer == 6 && decide (r.prefixLen ≤ 128)))

/-- Whether a profile names a unit that the variant does not have (R7, R11, R415). -/
def Profile.absent (p : Profile) (v : Variant) : Bool :=
  let ch (c : Nat) : Bool := decide (Config.audioChannels v ≤ c) && decide (c < 2048)
  let sdi (i : Nat) : Bool := decide (Config.sdiPorts v ≤ i) && decide (i < 64)
  p.ports.any (fun x => decide (Config.ethLanes v ≤ x.lane) && decide (x.lane < 128)) || p.zoneOutputs.any ch ||
  p.outChannels.any (fun x => ch x.channel) || p.sinks.any (fun x => (x.cls == 2 && sdi x.index) || x.channels.any ch) ||
  p.videoOutputs.any (fun x => !Config.hasVideo v || sdi x.output) ||
  p.patch.any (fun x => ch x.channel || (x.srcClass == 2 && sdi x.srcIndex) ||
    (x.srcClass == 1 && decide (Config.streams v ≤ x.srcIndex) && decide (x.srcIndex < 512))) ||
  p.timebases.any (fun t => (List.range 64).any (fun i => bit t.candidates (6 + i) && sdi i)) ||
  p.streams.any (fun x => x.dir == 1 && (runPresence v (fld x.params 10 2) (fld x.params 4 1)).contains stNotPresent) ||
  (p.alarmInputs ++ p.alarmStreams.map (fun x => x.input)).any (fun x => x.sourceKind == 1 && ch x.sourceIndex)

end Sys2Proof.Machine
end

