-- ==== Sys2Proof/Machine/Security.lean ====
section
/-! DEFINITION. Group 0x0C: lifecycle, certificates, images, keys and the RTC (R222, R223, R533, R556 to R580), with the end
of an image write. -/
namespace Sys2Proof.Machine
open Host

/-- The bit map of filled key slots (R222). -/
def State.filledSlots (s : State) : Nat :=
  (List.range 8).foldl (fun (n i : Nat) => if (atD s.md.nest.keySlots i none).isSome then n + 2 ^ i else n) 0

/-- LIFECYCLE_GET (R222): KEY_SLOTS is the bit map of filled slots. -/
def execLifecycleGet (h : Hdr) (p : List Byte) (s : State) : Outcome State Fault Refusal :=
  .next <| s.receive h 0x0C01 fun seat s1 =>
    s1.runNow h seat 0x0C01 (p.length == 0) .package [] 8 fun s2 =>
      (s2, be 1 s2.sec.lifecycle ++ be 1 (b01 (!s2.sec.ownerKey.isEmpty)) ++ be 1 s2.filledSlots ++ zeros 1 ++
        be 4 s2.sec.rollback)

/-- CERT_READ (R222): bytes of the chain, leaf first. -/
def execCertRead (h : Hdr) (p : List Byte) (s : State) : Outcome State Fault Refusal :=
  .next <| s.receive h 0x0C02 fun seat s1 =>
    let off := fld p 0 4
    let len := fld p 4 4
    s1.runNow h seat 0x0C02 (p.length == 8) .package (refuseIf (decide (s1.sec.certChain.length < off + len)) stBadParam) len fun s2 =>
      (s2, (s2.sec.certChain.drop off).take len)

/-- OWNER_ENROL (R222, R556). `sigOk`: VENDOR_AUTH verifies over CERT_HASH and OWNER_KEY (R558). -/
def execOwnerEnrol (h : Hdr) (p : List Byte) (sigOk : Bool) (s : State) : Outcome State Fault Refusal :=
  .next <| s.receive h 0x0C03 fun seat s1 =>
    s1.runNow h seat 0x0C03 (p.length == 196) .package
      (refuseIf (s1.sec.lifecycle != 1) stBadLifecycle ++ refuseIf (fld p 97 3 != 0) stBadParam ++
        refuseIf (!sigOk) stBadSignature) 0 fun s2 => (s2.lifecycleTo 2 (fldBytes p 0 97), [])

/-! ### Images -/

/-- The most bytes an image of a kind may have (R569, R574, R580): 0 sealed profile, 1 firmware, 2 sealed alert signal. -/
def imageLimit : Nat → Nat
  | 0 => 1048576
  | 1 => 256 + 393216
  | _ => 64 + 1548000

/-- Replace the staged image of a kind. -/
def Staging.put (x : Staging) (kind : Nat) (v : Option (List Byte)) : Staging :=
  match kind with
  | 0 => { x with profile := v }
  | 1 => { x with firmware := v }
  | _ => { x with alert := v }

/-- A chunk of an image: staged whole at LAST; a first chunk drops the image staged before (R185, R222). -/
def State.loadImage (s : State) (seat : Nat) (p : List Byte) : State × Nat :=
  let k := fld p 9 1
  let r := s.storeChunk (.image k) seat p
  let held :=
    if bit (fld p 8 1) 1 then r.1.sec.staging.put k (some r.2)
    else if bit (fld p 8 1) 0 then r.1.sec.staging.put k none
    else r.1.sec.staging
  ({ r.1 with sec := { r.1.sec with staging := held } }, r.2.length)

/-- IMAGE_LOAD (R185, R222): one chunk of an image, staged whole at LAST. A first chunk takes the place of the image staged
before. -/
def execImageLoad (h : Hdr) (p : List Byte) (s : State) : Outcome State Fault Refusal :=
  .next <| s.receive h 0x0C04 fun seat s1 =>
    s1.runChunk h seat 0x0C04 (.image (fld p 9 1)) p
      (refuseIf (decide (2 < fld p 9 1)) stBadParam ++ s1.chunkRefusals (.image (fld p 9 1)) seat p (imageLimit (fld p 9 1)))
      fun s2 => ((s2.loadImage seat p).1, be 4 (s2.loadImage seat p).2)

/-- The highest PROFILE_SEQ the OTP log holds: the floor (R572). -/
def Security.floor (x : Security) : Nat := x.profileSeqs.foldl Nat.max 0

/-- Whether flash holds an alert signal of a hash on the mast that answers (R571). -/
def State.alertHeld (s : State) (hash : List Byte) : Bool := (s.alertFor s.lead hash).isSome

/-- Whether a staged alert image has a hash. -/
def Staging.alertIs (x : Staging) (hash : List Byte) : Bool :=
  x.alert.elim false (fun a => decide (fit 48 (Config.sha384 a) = hash))

/-- The checks of R571, in their order. `sigOk`: the trailer verifies under the owner key. -/
def State.profileRefusals (s : State) (sigOk : Bool) : List Nat :=
  match s.sec.staging.profile with
  | none => [stWrongState]
  | some b =>
    let p := readProfile b
    refuseIf (!sigOk) stBadSignature ++
    refuseIf (decide (p.deviceCertHash ≠ s.certHash)) stBadSignature ++
    refuseIf (decide (p.seq ≤ s.sec.floor) || decide (1024 ≤ s.sec.profileSeqs.length)) stRollback ++
    refuseIf (p.absent s.variant) stNotPresent ++
    refuseIf (!s.profileOk b p) stBadParam ++
    refuseIf (!s.alertHeld p.alertHash && !s.sec.staging.alertIs p.alertHash)
      (if s.sec.staging.alert.isSome then stBadSignature else stWrongState)

/-- The copy of a mast's flash that does not hold the installed profile is being written: it holds none meanwhile (R572). -/
def FlashState.clearSpare (x : FlashState) : FlashState :=
  if x.profileUsed = 0 then { x with profile1 := none } else { x with profile0 := none }

/-- Start the write of a checked profile (R223, R571). -/
def State.startProfile (s : State) (b : List Byte) (seat hostSeq : Nat) : State :=
  let p := readProfile b
  let takesAlert := s.sec.staging.alertIs p.alertHash
  let w : ImageWrite :=
    { image := 0, seat := seat, hostSeq := hostSeq, profile := some p, firmware := none,
      alert := if takesAlert then s.sec.staging.alert else none, startedAt := s.now }
  let held : Staging := { s.sec.staging with profile := none, alert := if takesAlert then none else s.sec.staging.alert }
  { s with sec := { s.sec with staging := held, writes := s.sec.writes ++ [w], flash := s.sec.flash.map FlashState.clearSpare } }

/-- Why a PROFILE_APPLY is refused: the checks of every opcode, then its own in the order of R571. -/
def State.profileApplyRefusals (s : State) (h : Hdr) (p : List Byte) (seat : Nat) (sigOk : Bool) : List Nat :=
  let early := refuseIf (decide (s.sec.lifecycle < 2)) stBadLifecycle ++
    (match opRow 0x0C05 with
     | some row => s.commonRefusals h seat row (p.length == 0)
     | none => [])
  if early.isEmpty then (s.profileRefusals sigOk).take 1 else early

/-- The staged profile is written to the spare copies of flash (R571). -/
def State.applyStaged (s : State) (seat hostSeq : Nat) : State :=
  match s.sec.staging.profile with
  | some b => s.startProfile b seat hostSeq
  | none => s

/-- PROFILE_APPLY (R222, R223, R571). Once the reply has gone, its seats, certificates, roles and event masks take
effect. -/
def execProfileApply (h : Hdr) (p : List Byte) (sigOk : Bool) (s : State) : Outcome State Fault Refusal :=
  .next <| s.receive h 0x0C05 fun seat s1 =>
    let own := s1.profileApplyRefusals h p seat sigOk
    let done := s1.runNow h seat 0x0C05 (p.length == 0) .package own 0 fun s2 => (s2.applyStaged seat h.hostSeq, [])
    if own.isEmpty then done.installSeats (s1.sec.staging.profile.map readProfile) else done

/-- The form of a firmware image (R574): its header, its length and CODE_HASH. -/
def firmwareFormOk (b : List Byte) : Bool :=
  fld b 0 4 == 0x46574131 && fld b 4 2 == 1 && fld b 6 2 == 0 && decide (fld b 12 4 ≤ 1024) && fldBytes b 20 12 == zeros 12 &&
  fldBytes b 80 80 == zeros 80 && decide (1 ≤ fld b 16 4) && decide (fld b 16 4 ≤ 393216) && b.length == 256 + fld b 16 4 &&
  decide (fldBytes b 32 48 = fit 48 (Config.sha384 (b.drop 256)))

/-- The slot of a mast's flash that was not booted is being written: it holds no image meanwhile (R575). -/
def FlashState.clearSlot (x : FlashState) : FlashState :=
  if x.fwBooted = 0 then { x with fw1 := none } else { x with fw0 := none }

/-- Why a FIRMWARE_APPLY is refused (R222, R575). An image whose form or CODE_HASH fails counts as one whose signature
fails. -/
def State.firmwareRefusals (s : State) (sigOk : Bool) : List Nat :=
  match s.sec.staging.firmware with
  | none => [stWrongState]
  | some b => refuseIf (!sigOk || !firmwareFormOk b) stBadSignature ++ refuseIf (decide (fld b 12 4 < s.sec.rollback)) stRollback

/-- The staged firmware is written to the slot of flash that is not in use (R222, R575). -/
def State.startFirmware (s : State) (seat hostSeq : Nat) : State :=
  match s.sec.staging.firmware with
  | none => s
  | some b =>
    let w : ImageWrite :=
      { image := 1, seat := seat, hostSeq := hostSeq, profile := none,
        firmware := some { version := fld b 8 4, rollback := fld b 12 4, good := true }, alert := none, startedAt := s.now }
    let held : Staging := { s.sec.staging with firmware := none }
    { s with sec := { s.sec with staging := held, writes := s.sec.writes ++ [w], flash := s.sec.flash.map FlashState.clearSlot } }

/-- FIRMWARE_APPLY (R222, R223, R575). `sigOk`: the header's signature verifies under the vendor firmware key. -/
def execFirmwareApply (h : Hdr) (p : List Byte) (sigOk : Bool) (s : State) : Outcome State Fault Refusal :=
  .next <| s.receive h 0x0C06 fun seat s1 =>
    s1.runNow h seat 0x0C06 (p.length == 0) .package (s1.firmwareRefusals sigOk) 0 fun s2 => (s2.startFirmware seat h.hostSeq, [])

/-- What a finished write leaves in a mast's flash (R572, R575, R580). -/
def FlashState.written (x : FlashState) (w : ImageWrite) : FlashState :=
  let x1 := match w.profile with
    | some p => if x.profileUsed = 0 then { x with profile1 := some p } else { x with profile0 := some p }
    | none => x
  let x2 := match w.firmware with
    | some i => if x1.fwBooted = 0 then { x1 with fw1 := some i } else { x1 with fw0 := some i }
    | none => x1
  match w.alert with
  | some a => if x2.alertUsed = 0 then { x2 with alert1 := a } else { x2 with alert0 := a }
  | none => x2

/-- VERSION of EV_IMAGE_APPLIED: PROFILE_SEQ or FW_VERSION. -/
def ImageWrite.version (w : ImageWrite) : Nat :=
  match w.profile, w.firmware with
  | some p, _ => p.seq
  | none, some i => i.version
  | none, none => 0

/-- IMAGE_WRITE_DONE (R223, R503, R572): the oldest write ends, unless it is held off; PROFILE_SEQ is logged once the copy has
been read back. `failed`: the write failed. RESULT of a write that succeeds is 0 for every image (DESIGN CHOICE, log entry 112). -/
def execImageWriteDone (failed : Bool) (s : State) : Outcome State Fault Refusal :=
  .next <|
    match s.sec.writes with
    | [] => s
    | w :: rest =>
      if s.writesHeld .a || s.writesHeld .b then s
      else
        let s1 : State := { s with sec := { s.sec with writes := rest } }
        let s2 : State := if failed then s1 else
          { s1 with sec := { s1.sec with
              flash := s1.sec.flash.map (fun x => x.written w)
              profileSeqs := if w.image = 0 then s1.sec.profileSeqs ++ [w.version] else s1.sec.profileSeqs } }
        s2.eventTo w.seat s2.lead.code evImageApplied w.hostSeq s2.step
          (be 1 w.image ++ be 1 (if failed then 2 else 0) ++ zeros 2 ++ be 4 w.version)

/-! ### Lifecycle, keys and the RTC -/

/-- Why a LIFECYCLE_SET is refused (R222, R556). -/
def State.lifecycleRefusals (s : State) (p : List Byte) (seat : Nat) (sigOk : Bool) : List Nat :=
  let target := fld p 0 1
  let l := s.sec.lifecycle
  let allowed := (target == 3 && l == 2 && s.sec.profile.isSome) || (target == 4 && (l == 2 || l == 3))
  refuseIf (!allowed) stBadLifecycle ++ refuseIf (target == 4 && (s.seat seat).role == 4) stRoleDenied ++
    refuseIf (fld p 1 3 != 0) stBadParam ++ refuseIf (!sigOk) stBadSignature

/-- LIFECYCLE_SET (R222, R556). `sigOk`: OWNER_SIG verifies over CERT_HASH, TARGET and the current BOOT_COUNT. -/
def execLifecycleSet (h : Hdr) (p : List Byte) (sigOk : Bool) (s : State) : Outcome State Fault Refusal :=
  .next <| s.receive h 0x0C07 fun seat s1 =>
    s1.runNow h seat 0x0C07 (p.length == 100) .package (s1.lifecycleRefusals p seat sigOk) 0 fun s2 =>
      (s2.lifecycleTo (fld p 0 1) [], [])

/-- A slot other than the one named holds a purpose (R562). -/
def Nest.heldElsewhere (x : Nest) (slot purpose : Nat) : Bool :=
  (List.range 8).any (fun i => i != slot && (atD x.keySlots i none).elim false (fun k => k.purpose == purpose))

/-- Messages against the key that a PURPOSE 0 slot now holds (R563, R577): a stored message is valid where the key check
passes and no chunk has failed on both masts. -/
def State.recheckMessages (s : State) : State :=
  { s with alarm := { s.alarm with messages := s.alarm.messages.map (fun x =>
      if x.samples = 0 || x.writing then x
      else { x with state := if s.keyMatches x && !x.badA.any (fun c => x.badB.contains c) then 1 else 2 }) } }

/-- Why a KEY_PROVISION is refused (R222, R561 to R563). -/
def State.keyRefusals (s : State) (p : List Byte) (unwrapOk : Bool) : List Nat :=
  let len := fld p 2 2
  refuseIf (decide (7 < fld p 0 1) || decide (1 < fld p 1 1) || len == 0 || decide (512 < len)) stBadParam ++
    refuseIf (s.md.nest.heldElsewhere (fld p 0 1) (fld p 1 1)) stBadParam ++ refuseIf (len != 241 || !unwrapOk) stBadSignature

/-- A key goes into its slot of the crow's nest (R561). A new PURPOSE 1 key serves the next exchange of HELLOs; a link that
is up keeps its link key (R585). -/
def State.putKey (s : State) (slot purpose key : Nat) : State :=
  let n := s.md.nest
  let s1 : State := { s with md := { s.md with nest := { n with keySlots := setAt n.keySlots slot (some { purpose := purpose, key := key }) } } }
  let s2 : State := if purpose = 1 then { s1 with lan := s1.lan.map LaneMast.dropKey } else s1
  s2.recheckMessages

/-- KEY_PROVISION (R222, R561 to R563, R585). `key`, `unwrapOk`: what WRAPPED unwraps to, and whether its signature and its tag
verify. -/
def execKeyProvision (h : Hdr) (p : List Byte) (key : Nat) (unwrapOk : Bool) (s : State) : Outcome State Fault Refusal :=
  .next <| s.receive h 0x0C08 fun seat s1 =>
    s1.runNow h seat 0x0C08 (decide (4 ≤ p.length) && p.length == 4 + fld p 2 2) .package (s1.keyRefusals p unwrapOk) 0 fun s2 =>
      (s2.putKey (fld p 0 1) (fld p 1 1) key, [])

/-- RTC_SET (R222). -/
def execRtcSet (h : Hdr) (p : List Byte) (s : State) : Outcome State Fault Refusal :=
  .next <| s.receive h 0x0C09 fun seat s1 =>
    s1.runNow h seat 0x0C09 (p.length == 8) .package [] 0 fun s2 =>
      ({ s2 with md := { s2.md with nest := { s2.md.nest with rtc := fld p 0 8, rtcValid := true, rtcFrac := 0 } } }, [])

end Sys2Proof.Machine
end

