-- ==== Sys2Proof/Machine/Sessions.lean ====
section
/-! DEFINITION. Groups 0x01 and 0x02: sessions, ledger, identity and capability; unknown opcodes, discards, and the
timeouts of sessions and loads (chapters 04, 05, 18). -/
namespace Sys2Proof.Machine
open Host

/-- A seat whose role the profile gives, or a provisional seat (R557): whether certificates' dates are checked. -/
def State.profileSeat (s : State) : Bool := s.sec.profile.isSome

/-- The token check of a SERVICE seat (R566). -/
def State.tokenOk (s : State) (seat : Nat) (tok : List Byte) (f : OpenFacts) : Bool :=
  let bind := bit (fld tok 3 1) 0
  decide (tok.length = 184) && decide (fld tok 0 2 = 1) && decide (fld tok 2 1 = seat) &&
  decide (fld tok 3 1 < 2) &&
  (if bind then decide (fld tok 4 4 = s.md.bootCount)
   else s.md.nest.rtcValid && decide (fld tok 8 8 ≤ s.md.nest.rtc) && decide (s.md.nest.rtc ≤ fld tok 16 8)) &&
  decide (fldBytes tok 24 16 = fit 16 s.sec.serial) && f.tokenHashOk && f.tokenSigOk

/-- The status of a SESSION_OPEN: the first check of R565 that fails, then whether the reply fits (R141). -/
def State.openStatus (s : State) (h : Hdr) (p : List Byte) (f : OpenFacts) : Nat :=
  let n := fld p 0 2
  let t := fld p 2 2
  let role := (s.seat h.seat).role
  if s.sec.lifecycle = 0 || s.sec.lifecycle = 4 then stBadLifecycle
  else if n = 0 || decide (n > 4096) || decide (t > 2048) || (t != 0 && role != 5) ||
      p.length != 136 + n + t + 96 || fld p 133 3 != 0 || h.session != 0 || h.hostSeq != 0 || h.devSeq != 0 ||
      h.flags != 0 || h.effStep != 0 || h.status != 0 || h.rsv10 != 0 || h.rsv34 != 0 || decide (h.seat > 7) ||
      !f.keyOnCurve then stBadParam
  else if role = 0 || !f.certBinds ||
      (s.profileSeat && s.md.nest.rtcValid &&
        !(decide (f.notBefore ≤ s.md.nest.rtc) && decide (s.md.nest.rtc ≤ f.notAfter))) then stBadCert
  else if !f.signatureOk then stBadCert
  else if role = 5 && !s.tokenOk h.seat (fldBytes p (136 + n) t) f then stBadCert
  else if s.md.mode = .lockout && role != 1 then stBadMode
  else if 56 + 148 + s.sec.leafLen + 96 > s.packetLimit h.mast h.transport h.ipv6 then stTooLarge
  else stOk

/-- A session id that no session holds: the first free one from a random non-zero draw (R187). -/
def freshId (used : List Nat) : Nat → Nat → Nat
  | 0, id => id
  | k + 1, id => if used.contains id then freshId used k (id % (2 ^ 32 - 1) + 1) else id

/-- Send a packet that belongs to no sequence on the transport a packet came by (R144, R188). -/
def State.sendPlain (s : State) (h : Hdr) (p : Packet) : State :=
  let hp := s.port.get h.mast
  { s with port := s.port.set h.mast (hp.setOutQ h.transport (hp.outQ h.transport ++ [p])) }

/-- A reply that belongs to no sequence, on the transport of the packet it answers (R144, R188). -/
def State.plainReply (s : State) (h : Hdr) (code status session : Nat) (key : Option (List Byte)) (hostSeq : Nat)
    (fields : List Byte) : Packet :=
  { kind := 2, opcode := code, flags := 0x4000 * h.mast.code + replyFlags h, seat := h.seat, hostSeq := hostSeq, devSeq := 0,
    effStep := s.step, status := status, session := session,
    payload := (if status = stOk then s.tandemReport (s.outcome .a .package) (s.outcome .b .package)
      else s.tandemReport (s.outcomeRefused .a) (s.outcomeRefused .b)) ++ fields,
    key := key, dest := h.source, ipv6 := h.ipv6 }

/-- The reply to a SESSION_OPEN that is refused: unsequenced, not ledgered, SESSION zero in its header (R144). -/
def State.openRefusal (s : State) (h : Hdr) (status : Nat) : State := s.sendPlain h (s.plainReply h 0x0101 status 0 none 0 [])

/-- The reply to a SESSION_OPEN that passes: `body` and the signature of the device identity key over the reply header, the payload
before it and the host's SIGNATURE (R187). -/
def State.openReply (s : State) (h : Hdr) (p body : List Byte) : Packet :=
  let q := s.plainReply h 0x0101 stOk 0 none 0 (body ++ zeros 96)
  let before := q.payload.take (q.payload.length - 96)
  { q with payload := before ++ fit 96 (Config.sealBytes 1 (q.header ++ before ++ p.drop (p.length - 96))) }

/-- The session keys, host to device and then device to host: HKDF of the ECDH result, the nonces, SESSION, SEAT and the hash of both
packets' headers and payloads (R567). -/
def sessionKeys (h : Hdr) (p : List Byte) (q : Packet) (id : Nat) (nonce devKey : List Byte) : List Byte :=
  let th := Config.sha384 (h.bytes 0x0101 ++ p ++ q.header ++ q.payload)
  fit 64 (Config.sealBytes 2 (fldBytes p 36 97 ++ devKey ++ fldBytes p 4 32 ++ nonce ++ be 4 id ++ be 2 h.seat ++ th))

/-- A SESSION_OPEN that passes: a pending session with fresh keys; an older session of the seat ends as SUPERSEDED
(R154, R155, R187, R567). -/
def State.openSession (s : State) (h : Hdr) (p : List Byte) : State :=
  let s1 := s.closeWhere (fun x => x.seat == h.seat) 1
  let d := s1.draw
  let id := freshId (d.2.hal.sessions.map (fun x => x.id)) 9 (d.1 % (2 ^ 32 - 1) + 1)
  let nonce := d.2.drawBytes 32
  let key := nonce.2.drawBytes 97
  let cert := s.sec.certChain.take s.sec.leafLen
  let q := key.2.openReply h p (be 4 id ++ be 2 cert.length ++ zeros 2 ++ nonce.1 ++ key.1 ++ zeros 3 ++ cert)
  let okm := sessionKeys h p q id nonce.1 key.1
  let x : Session :=
    { id := id, seat := h.seat, mast := h.mast, transport := h.transport, pending := true, openedAt := s.now,
      lastCmd := s.now, source := h.source, ipv6 := h.ipv6, keyIn := okm.take 32, keyOut := okm.drop 32, devUsed := 0,
      hostUsed := 0 }
  ({ key.2 with hal := { key.2.hal with sessions := key.2.hal.sessions ++ [x] } } : State).sendPlain h q

/-- SESSION_OPEN (R144, R156, R187, R565). -/
def execSessionOpen (h : Hdr) (p : List Byte) (f : OpenFacts) (s : State) : Outcome State Fault Refusal :=
  .next <|
    if s.md.mode = .vault then s
    else if s.md.mode = .boot || (s.md.boot.get h.mast).phase ≠ 0 then (s.takeInbound h).discard h.mast h.transport 7
    else if s.transportStopped h then s
    else
      let s0 := s.takeInbound h
      if h.magic ≠ 0xE5A1 then s0.discard h.mast h.transport 0
      else if h.version ≠ 1 then s0.discard h.mast h.transport 1
      else if h.kind ≠ 1 then s0.discard h.mast h.transport 2
      else if 56 + h.payloadLen > s0.packetLimit h.mast h.transport h.ipv6 then s0.discard h.mast h.transport 3
      else if h.wireLen ≠ 56 + h.payloadLen then s0.discard h.mast h.transport 4
      else if !s0.serves h.mast then s0
      else
        let st := s0.openStatus h p f
        if st = stOk then s0.openSession h p else s0.openRefusal h st

/-- Reports of BOOT held for the first session: the lockout record, then the faults of R107 and R135 (R130). -/
def State.firstSession (s : State) (seat : Nat) : State :=
  let s1 :=
    if s.hal.lockoutReport then
      ({ s with hal := { s.hal with lockoutReport := false } }).eventTo seat 2 evLockoutRecord 0 s.step s.lockoutBytes
    else s
  let give (acc : State) (m : Mast) : State :=
    let held := (acc.fl m).held
    held.foldl (fun a r => a.report m r.1 r.2) (acc.setFl m { acc.fl m with held := [] })
  give (give s1 .a) .b

/-- The fields of a SESSION_CONFIRM reply (R154). -/
def State.confirmFields (s : State) (seat : Nat) : List Byte :=
  let st := s.seat seat
  be 4 st.lastHostSeq ++ be 4 st.nextDev ++ be 4 st.oldestAfter ++ be 4 s.md.bootCount ++
  be 2 st.role ++ be 2 st.eventMask ++ zeros 4 ++ s.caps

/-- A reply to SESSION_CONFIRM that is neither sequenced nor ledgered (R188). -/
def State.confirmRefusal (s : State) (h : Hdr) (x : Session) (st : Nat) : State :=
  s.sendPlain h { s.plainReply h 0x0102 st x.id (some x.keyOut) h.hostSeq [] with seat := x.seat }

/-- SESSION_CONFIRM (R154, R188). -/
def execSessionConfirm (h : Hdr) (p : List Byte) (s : State) : Outcome State Fault Refusal :=
  .next <|
    if s.md.mode = .vault then s
    else if s.md.mode = .boot || (s.md.boot.get h.mast).phase ≠ 0 then (s.takeInbound h).discard h.mast h.transport 7
    else if s.transportStopped h then s
    else
      let s0 := s.takeInbound h
      match s0.discardCause h true with
      | some c => s0.discard h.mast h.transport c
      | none =>
        match s0.findSession h with
        | none => s0
        | some x =>
          let s1 := s0.touch h
          if !x.pending then
            s1.reply h x.seat 0x0102 false
              { status := stBadSession, effStep := s1.step, outA := s1.outcomeRefused .a, outB := s1.outcomeRefused .b,
                fields := [] }
          else if h.seat ≠ x.seat then s1.confirmRefusal h x stBadSession
          else if p.length != 0 || h.payloadLen != 0 || h.hostSeq != 0 || h.devSeq != 0 || h.effStep != 0 ||
              h.flags != 0 || h.rsv10 != 0 || h.rsv34 != 0 then
            (s1.confirmRefusal h x stBadParam).closeWhere (fun y => y.id == x.id) 0
          else
            let s2 : State := { s1 with hal := { s1.hal with sessions := s1.hal.sessions.map (fun y =>
              if y.id == x.id && y.seat == x.seat then { y with pending := false } else y) } }
            (s2.reply h x.seat 0x0102 false
              { status := stOk, effStep := s2.step, outA := s2.outcome .a .package, outB := s2.outcome .b .package,
                fields := s2.confirmFields x.seat }).firstSession x.seat

/-- SESSION_CLOSE: the reply, then the close with cause CLOSED (R155, R188). -/
def execSessionClose (h : Hdr) (p : List Byte) (s : State) : Outcome State Fault Refusal :=
  .next <| s.receive h 0x0103 fun seat s1 =>
    match firstRefusal (s1.commonRefusals h seat ⟨0x0103, .immediate, rAll, mWQSAML⟩ (p.length == 0)) with
    | some st => s1.refuse h seat 0x0103 st []
    | none => (s1.done h seat 0x0103 s1.step .package []).closeWhere (fun x => x.seat == seat) 0

/-- Seconds since a seat's session opened (R188). -/
def State.sessionAge (s : State) (seat : Nat) : Nat :=
  ((s.sessionOf seat).map (fun x => (s.now - x.openedAt) / Config.second)).getD 0

/-- The fields of a SESSION_STATUS reply (R188). -/
def State.sessionFields (s : State) (seat : Nat) : List Byte :=
  let st := s.seat seat
  be 4 st.lastHostSeq ++ be 4 st.ackPos ++ be 4 st.nextDev ++ be 4 st.oldestAfter ++ be 4 (s.sessionAge seat)

/-- SESSION_STATUS (R188). -/
def execSessionStatus (h : Hdr) (p : List Byte) (s : State) : Outcome State Fault Refusal :=
  .next <| s.receive h 0x0104 fun seat s1 =>
    s1.runNow h seat 0x0104 (p.length == 0) .package [] 20 fun s2 => (s2, s2.sessionFields seat)

/-- SESSION_EVENTS: the mask applies to events released after the reply (R162, R188). -/
def execSessionEvents (h : Hdr) (p : List Byte) (s : State) : Outcome State Fault Refusal :=
  .next <| s.receive h 0x0105 fun seat s1 =>
    let mask := fld p 0 2
    s1.runNow h seat 0x0105 (p.length == 4) .package
      (refuseIf (bit mask 15 || bit mask 14 || bit mask 0 || fld p 2 2 != 0) stBadParam) 4 fun s2 =>
      (s2.setSeat seat { s2.seat seat with eventMask := mask }, be 2 (s2.seat seat).eventMask ++ zeros 2)

/-- Cut a list of ledger entries into record packets (R165): `fuel` bounds their number. -/
def recordPackets (per : Nat) (mk : List LedgerEntry → Bool → Packet) : Nat → List LedgerEntry → List Packet
  | 0, _ => []
  | _, [] => []
  | k + 1, es => mk (es.take per) ((es.drop per).isEmpty) :: recordPackets per mk k (es.drop per)

/-- Carry out a LEDGER_READ: the reply first, then the records FIRST to LAST (R165, R166). -/
def State.ledgerRead (s : State) (h : Hdr) (seat : Nat) (p : List Byte) : State :=
  let st := s.seat seat
  let own := (st.devSeq + 1) % 2 ^ 32
  let oldest := st.oldestAfter
  let off := (fld p 0 4 + 2 ^ 32 - oldest) % 2 ^ 32
  let heldCount := (own + 2 ^ 32 - oldest) % 2 ^ 32
  let held := decide (off < heldCount)
  let first := if held then fld p 0 4 else oldest
  let last := (own + 2 ^ 32 - 1) % 2 ^ 32
  let count := min (fld p 4 2) ((own + 2 ^ 32 - first) % 2 ^ 32)
  let s1 := s.reply h seat 0x0106 true
    { status := if held || decide (heldCount = 0 && fld p 0 4 = oldest) then stOk else stLedgerGap, effStep := s.step,
      outA := s.outcome .a .package, outB := s.outcome .b .package,
      fields := be 4 oldest ++ be 4 first ++ be 4 last ++ be 4 count }
  match s1.sessionOf seat with
  | none => s1
  | some x =>
    let per := min 1024 ((s.packetLimit x.mast x.transport x.ipv6 - 56) / 64)
    let entries := ((s1.seat seat).ledger.dropWhile (fun e => e.devSeq != first)).take count
    let mk (es : List LedgerEntry) (lastOne : Bool) : Packet :=
      { kind := 4, opcode := 0x0106, flags := 0x4000 * x.mast.code + 0x1000 * b01 lastOne, seat := seat,
        hostSeq := h.hostSeq,
        devSeq := match es with
          | e :: _ => e.devSeq
          | [] => 0,
        effStep := 0, status := 0, session := x.id, payload := (es.map LedgerEntry.bytes).flatten, key := some x.keyOut,
        dest := x.source, ipv6 := x.ipv6 }
    (recordPackets per mk 4096 entries).foldl (fun acc q => acc.enqueue x q) s1

/-- LEDGER_READ (R165, R166, R188). -/
def execLedgerRead (h : Hdr) (p : List Byte) (s : State) : Outcome State Fault Refusal :=
  .next <| s.receive h 0x0106 fun seat s1 =>
    let ahead := (fld p 0 4 + 2 ^ 32 - (s1.seat seat).devSeq) % 2 ^ 32
    let bad := decide (fld p 4 2 = 0) || decide (fld p 4 2 > 4096) || fld p 6 2 != 0 ||
      (decide (0 < ahead) && decide (ahead < 2 ^ 31))
    match firstRefusal (s1.tooLarge h 16 ++
        s1.commonRefusals h seat ⟨0x0106, .read, rAll, mWQSAML⟩ (p.length == 8) ++ refuseIf bad stBadParam) with
    | some st => s1.refuse h seat 0x0106 st []
    | none => s1.ledgerRead h seat p

/-- IDENT_GET (R189). -/
def execIdentGet (h : Hdr) (p : List Byte) (s : State) : Outcome State Fault Refusal :=
  .next <| s.receive h 0x0201 fun seat s1 =>
    s1.runNow h seat 0x0201 (p.length == 0) .package [] 144 fun s2 => (s2, s2.ident)

/-- CAPS_GET (R190). -/
def execCapsGet (h : Hdr) (p : List Byte) (s : State) : Outcome State Fault Refusal :=
  .next <| s.receive h 0x0202 fun seat s1 =>
    s1.runNow h seat 0x0202 (p.length == 0) .package [] 64 fun s2 => (s2, s2.caps)

/-- LOCKOUT_RECORD_GET (R191). -/
def execLockoutRecordGet (h : Hdr) (p : List Byte) (s : State) : Outcome State Fault Refusal :=
  .next <| s.receive h 0x0203 fun seat s1 =>
    s1.runNow h seat 0x0203 (p.length == 0) .package [] 152 fun s2 => (s2, s2.lockoutBytes)

/-- UNKNOWN_OPCODE: an accepted command whose opcode is not in the table (R157, R179). A command whose opcode is in
the table is that command's own row. -/
def execUnknownOpcode (h : Hdr) (code : Nat) (_p : List Byte) (s : State) : Outcome State Fault Refusal :=
  .next <|
    match opRow code with
    | some _ => s
    | none => s.receive h code fun seat s1 => s1.refuse h seat code stBadOpcode []

/-- HALYARD_PACKET_DISCARD: a packet that meets a case of R139 is discarded and counted by cause; any other packet is
another row's. -/
def execHalyardPacketDiscard (h : Hdr) (s : State) : Outcome State Fault Refusal :=
  .next <|
    if s.md.mode = .vault then s
    else if s.md.mode = .boot || (s.md.boot.get h.mast).phase ≠ 0 then (s.takeInbound h).discard h.mast h.transport 7
    else
      match s.discardCause h false with
      | some c => (s.takeInbound h).discard h.mast h.transport c
      | none => s

/-- SESSION_IDLE_TIMEOUT: 120 s without an authenticated command close a session with cause IDLE (R155). -/
def execSessionIdleTimeout (s : State) : Outcome State Fault Refusal :=
  .next (s.closeWhere (fun x => decide (s.now ≥ x.lastCmd + 120 * Config.second)) 2)

end Sys2Proof.Machine
end

