-- ==== Sys2Proof/Machine/Pins.lean ====
section
/-! DEFINITION. The timing outputs of a mast: FRAME_OUT_0 to FRAME_OUT_3, PPS_OUT and WCLK_OUT (R432, R618, R625). Times are TB_0's, in
the unit of VideoOps. -/
namespace Sys2Proof.Machine

/-- One second. -/
def fineSecond : Int := 6750000000000

/-- The timing outputs of a mast drive: MEDIA runs, and the mast is past BOOT phase I; elsewhere they are at high impedance
(R618, R625). -/
def State.pinsDrive (s : State) (m : Mast) : Bool :=
  let b := s.md.boot.get m
  s.mastOn m && (b.phase == 0 || decide (10 ≤ b.phase)) && atD (s.clk.get m).domains 5 .primary != .stopped

/-- Rising edges of FRAME_OUT_n in a stretch of time: the frame starts of TB_n's grid (R414, R625). -/
def State.frameEdges (s : State) (m : Mast) (n : Nat) (from' till : Int) : List Int :=
  let fam := (s.sec.profile.elim none (fun p => (p.timebases[n]?).map TimebaseItem.frameFamily)).getD 1
  lineStarts (fine (-((s.tb m n).shift))) (framePeriod none fam) from' till

/-- Rising edges of a square wave of a rate whose sample `j` falls at j / Fs (R479, R625). -/
def sampleEdges (hz : Nat) (from' till : Int) : List Int :=
  let j0 := -((-(from' * hz)).fdiv fineSecond)
  let j1 := -((-(till * hz)).fdiv fineSecond)
  (List.range (j1 - j0).toNat).map (fun (i : Nat) => ((j0 + (i : Int)) * fineSecond).fdiv hz)

/-- The rising edges that the timing outputs of a mast gave in the step before step `n` (R625). -/
def State.pinEdges (s : State) (m : Mast) (n : Nat) : TimingPins :=
  let from' := s.stepStart (n - 1)
  let till := s.stepStart n
  if !s.pinsDrive m then TimingPins.idle
  else
    { frames := (List.range 4).map (fun k => s.frameEdges m k from' till)
      pps := lineStarts 0 fineSecond from' till
      wclk := sampleEdges (rateHz (s.sec.profile.elim 2 (fun p => p.global.wclkRate))) from' till }

/-- The timing outputs of a mast at step `n`. -/
def State.stepPins (s : State) (m : Mast) (n : Nat) : State :=
  { s with tim := s.tim.set m { s.tim.get m with pins := s.pinEdges m n } }

end Sys2Proof.Machine
end

