-- ==== Sys2Proof/Machine/Sinks.lean ====
section
/-! DEFINITION. What AES3 outputs, fallback outputs and SDI embedders send (R301 to R303, R315 to R319, R322, R334, R335). -/
namespace Sys2Proof.Machine

/-- The newest 64 of a history with a word before it. -/
def pushWord (h : List Int) (v : Int) : List Int := (v :: h).take 64

/-- A converter's word from a history of output words: zero where all are zero (R306, R307; log entry 1). -/
def convertedOut (ratio phase : Nat) (hist : List Int) : Int :=
  if hist.all (fun v => v == 0) then 0 else wordVal (Config.asrcWord ratio phase (hist.map wordOf))

/-- The fade of a sink's port sample around a restart (R322), in samples of the port: `left` of them remain before a pending
COMMON_START that names it, `since` have passed since one. -/
def sinkFade (left since : Option Nat) (v : Int) : Int :=
  let down := match left with
    | some k => if 0 < k ∧ k ≤ 32 then (v * (k : Int)).tdiv 32 else v
    | none => v
  match since with
  | some j => if j < 32 then (down * ((j + 1 : Nat) : Int)).tdiv 32 else down
  | none => down

/-! ### AES3 outputs (R315 to R317) -/

/-- The CRCC of 23 bytes of channel status (AES3; PRESUMED, log entry 105): x^8 + x^4 + x^3 + x^2 + 1 from all ones, first bit first. -/
def crcc (bs : List Byte) : Byte :=
  bs.foldl (fun c b => (List.range 8).foldl (fun (x : Byte) _ => if x.getLsbD 0 then (x >>> (1 : Nat)) ^^^ 0xB8#8 else x >>> (1 : Nat))
    (c ^^^ b)) 0xFF#8

/-- The generated channel status of a rate (R316), with the codes of AES3 (PRESUMED, log entry 105). -/
def generatedStatus (hz : Nat) : List Byte :=
  let b0 := 5 + (if hz = 48000 then 128 else if hz = 44100 then 64 else if hz = 32000 then 192 else 0)
  let b4 := if hz = 96000 then 16 else if hz = 192000 then 24 else if hz = 88200 then 80 else if hz = 176400 then 88 else 0
  be 1 b0 ++ be 1 0x08 ++ be 1 0x2C ++ zeros 1 ++ be 1 b4 ++ zeros 18

/-- The channel status that a block beginning now carries (R316). -/
def AesOut.blockStatus (x : AesOut) : List Byte :=
  let bs := if x.csHost then fit 23 x.cs else generatedStatus (rateHz x.rate)
  bs ++ [crcc bs]

/-- A bit of 24 bytes of a block, bit 0 of byte 0 first (R313). -/
def blockBit (bs : List Byte) (frame : Nat) : Bool := (atD bs (frame % 192 / 8) 0).getLsbD (frame % 8)

/-- The output latency of an AES3 output (R276). -/
def aesLatency (internal hz : Nat) : Nat := if hz = internal then 1 else 16

/-- The frames of an output that begin in the step `rel` steps after its first frame's (R315): frame f begins f frame periods
after it. -/
def framesIn (internal hz rel : Nat) : List Nat :=
  let first := (rel * hz + internal - 1) / internal
  (List.range ((rel * hz + hz + internal - 1) / internal - first)).map (fun i => first + i)

/-- The sample of frame `f` of an output from the history of a channel (R238, R315, R320): the word of the step before at the
internal rate, and a fixed-ratio conversion else. -/
def frameSample (internal hz f : Nat) (hist : List Int) : Int :=
  portOut 24 (if hz = internal then atD hist 1 0
    else convertedOut (internal * 2 ^ 32 / hz) (f * internal % hz * 2 ^ 32 / hz) hist)

/-- One frame of an output: the first of a block takes up the channel status and the user bits to send (R316, R317). -/
def AesOut.frame (x : AesOut) (internal : Nat) (pending : Option Nat) (n f : Nat) (user : List Byte) : AesOut :=
  let hz := rateHz x.rate
  let y : AesOut := if f % 192 = 0 then { x with status := x.blockStatus, user := fit 24 user } else x
  let left := pending.map (fun t => (t - n) * hz / internal)
  let fade (v : Int) : Int := sinkFade left (x.restart.map (fun _ => f)) v
  let out : AesOutFrame :=
    { begins := decide (f % 192 = 0), left := fade (frameSample internal hz f (atD x.hist 0 [])),
      right := fade (frameSample internal hz f (atD x.hist 1 [])), status := blockBit y.status f, user := blockBit y.user f }
  { y with frames := f + 1, sent := y.sent ++ [out] }

/-- An AES3 output in step `n` (R315): its words, and the frames that begin in the step. -/
def AesOut.step (x : AesOut) (internal n : Nat) (pending : Option Nat) (left right : Int) (user : List Byte) : AesOut :=
  let y : AesOut := { x with hist := [pushWord (atD x.hist 0 []) left, pushWord (atD x.hist 1 []) right], sent := [] }
  let first := x.start + aesLatency internal (rateHz x.rate)
  if !x.enabled || decide (n < first) then y
  else (framesIn internal (rateHz x.rate) (n - first)).foldl (fun acc f => acc.frame internal pending n f user) y

/-! ### The fallback driver (R301 to R303) -/

/-- Frames of the alert signal played before a loop ends: two for each stored sample (R301); none where the image is not held. -/
def State.alertFrames (s : State) (m : Mast) : Nat := 2 * ((s.mem.get m).alert.elim 0 (fun img => fld img 4 4))

/-- The 24-bit sample of frame `k` of the looping alert signal (R301): the stored sample, then the mean of it and the next, rounded half
up; a free word where the mast holds no image that has passed its check. -/
def State.alertFrame (s : State) (m : Mast) (k : Nat) : Int :=
  match (s.mem.get m).alert with
  | none => portOut 24 (s.alertWord m k)
  | some img =>
    let n := fld img 4 4
    if n = 0 then 0
    else
      let v (i : Nat) : Int := alertSample img (i % n)
      4096 * (if k % 2 = 0 then v (k / 2) else (v (k / 2) + v (k / 2 + 1) + 1).fdiv 2)

/-- The sample that a driven fallback output of a mast carries in the frame that begins in step `n` (R302): the signal while an alarm
input of its map is active, once for a FALLBACK_TEST, and zero else. -/
def State.fallbackSample (s : State) (m : Mast) (out n : Nat) : Int :=
  let at48 (steps : Nat) : Nat := steps * 48000 / s.rate
  if s.fallbackActive m out then s.alertFrame m (at48 (n - (s.alm.get m).playFrom.getD n))
  else match s.alarm.tests.find? (fun t => t.mast == m && t.output == out) with
    | some t =>
      let k := (s.now - t.startedAt) * 48000 / Config.second
      if (s.mem.get m).alert.isSome && decide (s.alertFrames m ≤ k) then 0 else s.alertFrame m k
    | none => 0

/-- The channel status of a fallback driver (R301): professional, linear PCM, 48 kHz, 24-bit words, all else zero, and the CRCC. -/
def fallbackStatus : List Byte :=
  let bs := be 1 0x81 ++ zeros 1 ++ be 1 0x2C ++ zeros 20
  bs ++ [crcc bs]

/-- A frame leaves a fallback driver, with the same sample in both subframes (R301). -/
def FallbackOut.leave (x : FallbackOut) (v : Int) : FallbackOut :=
  { x with frames := x.frames + 1, sent := x.sent ++ [{ begins := decide (x.frames % 192 = 0), left := v, right := v, status := blockBit fallbackStatus x.frames, user := false }] }

/-- A fallback output in a step. The driver holds its last 12 frames; where its drive ends, they leave scaled by (12 - k)/12, truncated
toward zero, so that the last carries zero (R303; DEDUCED, log entry 118). -/
def FallbackOut.step (x : FallbackOut) (driven frame : Bool) (v : Int) : FallbackOut :=
  let y : FallbackOut := { x with sent := [] }
  if !driven then
    if x.held.isEmpty then .reset
    else
      let z := ((List.range x.held.length).foldl (fun acc i =>
        acc.leave ((atD x.held i 0 * ((x.held.length - 1 - i : Nat) : Int)).tdiv 12)) y)
      { z with held := [], frames := 0 }
  else if !frame then y
  else if x.held.length < 12 then { y with held := x.held ++ [v] }
  else { y.leave (x.held.headD 0) with held := x.held.drop 1 ++ [v] }

/-- The fallback outputs of a mast in step `n`: a driver sends at 48 kHz (R301). -/
def State.stepFallback (s : State) (m : Mast) (n : Nat) : State :=
  let a := s.alm.get m
  s.setAlm m { a with fb := (List.range a.fb.length).map (fun o =>
    let drive := s.fallbackDrive m o
    (atD a.fb o .reset).step (drive || s.mutedDrive m o) (decide (n * 48000 % s.rate = 0))
      (if drive then s.fallbackSample m o n else 0)) }

/-- The AES3 outputs and fallback audio balls of a mast in step `n` (R315 to R319): a subframe left unbound carries zero, and so does
every one in the safe state. A ball that a fallback driver drives gets nothing from the Mix die (R301). -/
def State.stepAesOut (s : State) (m : Mast) (n : Nat) : State :=
  let a := s.aud.get m
  let d := s.dp.get m
  let item (i : Nat) : Option AudioSinkItem := if i < 16 then s.sinkItem 0 i else s.sinkItem 1 (i - 16)
  let word (i k : Nat) : Int :=
    if (s.mt m).drive.allSafe || ((s.mt m).drive.liveSafe && (item i).elim false (fun x => bit x.flags 2)) then 0
    else wordVal (wget d.out (atD ((item i).elim [] (fun x => x.channels)) k 0xFFFF))
  let user (i : Nat) : List Byte :=
    match (item i).bind (fun x => a.aesIn[x.userFrom]?) with
    | some p => if p.locked then p.user else zeros 24
    | none => zeros 24
  s.setAud m { a with aesOut := (List.range a.aesOut.length).map (fun i =>
    let y := (atD a.aesOut i .reset).step s.rate n (if i < 16 then s.hal.commonStartAt 1 i else none) (word i 0) (word i 1) (user i)
    if s.fallbackDrive m i || s.mutedDrive m i then { y with sent := [] } else y) }

/-! ### SDI embedding (R334, R335) -/

/-- The 48 kHz samples of a frame of a raster, by its position from 0 in the five-frame sequence (R335). -/
def frameQuota (r : Raster) (pos : Nat) : Nat :=
  if r.family = 2 then
    (if r.mult = 1 then atD [1602, 1601, 1602, 1601, 1602] pos 0 else atD [801, 800, 801, 801, 801] pos 0)
  else if r.family = 4 then 2002 else 48000 / ((if r.family = 1 then 25 else if r.family = 5 then 24 else 30) * r.mult)

/-- The line that follows the switching line of a raster, in which no audio packet stands (R334, R368). -/
def barredLine (r : Raster) : Nat := if r.lines = 2250 then 15 else 8

/-- The lines of a raster that carry its audio control packets, one for each field: the second after a switching line (PRESUMED, log
entry 106). -/
def controlLines (fmt : Nat) (r : Raster) : List Nat :=
  if interlaced fmt then [barredLine r + 1, barredLine r + 563] else [barredLine r + 1]

/-- The groups of a bit map, 0 to 3. -/
def groupsOf (bits : Nat) : List Nat := (List.range 4).filter (fun g => bit bits g)

/-- The samples that an embedder makes in step `n`: one for each 48 kHz instant of the step, converted where the rates differ, or by the
Captain's estimate where the output's timebase is not TB_0 (R238, R334). They may leave 16 steps on (R276). -/
def SdiAudio.make (x : SdiAudio) (internal n tb : Nat) (pending : Option Nat) (words : List Int) : SdiAudio :=
  let hist := (List.range 16).map (fun i => pushWord (atD x.outHist i []) (atD words i 0))
  let due := decide (x.outStart ≤ n) && decide ((n - x.outStart) * 48000 % internal = 0)
  let ratio := if tb = 0 then internal * 2 ^ 32 / 48000 else Config.embedRatio tb n
  let one (h : List Int) : Int := portOut 24 (if tb = 0 && internal == 48000 then h.headD 0 else convertedOut ratio 0 h)
  let left := pending.map (fun t => (t - n) * 48000 / internal)
  let sample := hist.map (fun h => sinkFade left (x.restart.map (fun _ => x.outMade)) (one h))
  if due then { x with outHist := hist, outMade := x.outMade + 1, fifo := x.fifo ++ [(n + 16, sample)] }
  else { x with outHist := hist }

/-- What an embedder puts into one line of a frame (R334, R335): the samples that may leave and that the frame still takes, a data
packet of each enabled group for each, and a control packet of each group in its lines. -/
def SdiAudio.line (x : SdiAudio) (fmt : Nat) (r : Raster) (n : Nat) (frame : Int) (l : Nat) : SdiAudio :=
  let placed := if x.frame = frame then x.placed else 0
  let pos := (frame % 5).toNat
  let room := frameQuota r pos - placed
  let ready := if l = barredLine r then [] else ((x.fifo.takeWhile (fun e => decide (e.1 ≤ n))).take room)
  let controls := if (controlLines fmt r).contains l then
      (groupsOf x.outGroups).map (fun g => Embedded.control l g (if r.family = 2 then pos + 1 else 0) 15) else []
  let datas := ready.flatMap (fun e => (groupsOf x.outGroups).map (fun g => Embedded.data l g ((e.2.drop (4 * g)).take 4)))
  { x with fifo := x.fifo.drop ready.length, frame := frame, placed := placed + ready.length,
           packets := x.packets ++ controls ++ datas }

/-- The fade of embedded audio on outputs of a timebase other than TB_0 in step `n` (R433): down over the N_R steps before a REALIGN of
the timebase takes effect, up over the N_R steps from there. -/
def State.embedCoef (s : State) (t n : Nat) : Int :=
  let len := s.realignFade
  let up : Fade := (s.tb s.lead t).realignedAt.elim (Fade.const unity) (fun e => { u0 := 0, u1 := unity, start := e, len := len })
  match s.hal.sched.find? (fun c => c.code == 0x0805 && fld c.payload 0 1 == t) with
  | some c => if n < c.effStep then ({ u0 := unity, u1 := 0, start := c.effStep - len, len := len } : Fade).at' n else up.at' n
  | none => up.at' n

/-- An SDI output's embedding in step `n` (R318, R334): nothing is inserted while the output is in its safe state (R117), and what the
embedder makes then is lost. -/
def State.stepEmbedder (s : State) (m : Mast) (n o : Nat) (x : SdiAudio) : SdiAudio :=
  let w := s.shows m o
  let safe := w.1 == .idle || ((s.vid.get m).out o).input == 0xFFFF || s.sdiForced m o
  let tb := s.outTimebase o
  let coef := if tb = 0 then unity else s.embedCoef tb n
  let words := (List.range 16).map (fun i =>
    scaled (wordVal (wget (s.dp.get m).out (atD ((s.sinkItem 2 o).elim [] (fun y => y.channels)) i 0xFFFF))) coef)
  let y := ({ x with packets := [] } : SdiAudio).make s.rate n tb (s.hal.commonStartAt 4 o) words
  if safe then { y with fifo := y.fifo.filter (fun e => decide (n < e.1)) }
  else match fmtRaster w.2 with
    | some r => ((s.vid.get m).sdi.getD o []).foldl (fun acc l => acc.line w.2 r n l.frame l.line) y
    | none => y

/-- The groups of an output's video that pass through from its source (R334). -/
def SdiAudio.passed (x : SdiAudio) : List Nat := (List.range 4).filter (fun g => !bit x.outGroups g)

/-- The SDI embedders of a mast in step `n`. -/
def State.stepSdiOut (s : State) (m : Mast) (n : Nat) : State :=
  let a := s.aud.get m
  s.setAud m { a with sdi := a.sdi.map (fun e => (e.1, if e.2.outGroups = 0 then e.2 else s.stepEmbedder m n e.1 e.2)) }

end Sys2Proof.Machine
end

