-- ==== Sys2Proof/Machine/StaySend.lean ====
section
/-! DEFINITION. What a mast has to send over the Stay link, by class, and the order in which it is served (R34, R406 to R408). -/
namespace Sys2Proof.Machine

/-- Containers of at most `most` data blocks that a content of some bytes takes, with the check in the last block of each (R406). -/
def containerCount (most bytes : Nat) : Nat := Nat.max 1 (((bytes + 7) / 8 + most - 2) / (most - 1))

/-- Payload bits that a content of some bytes takes of a link (R406): the data blocks, and a START block each. -/
def containerBits (most bytes : Nat) : Nat :=
  let n := containerCount most bytes
  64 * ((bytes + 4 * n + 7) / 8 + n)

/-- Payload bits that the aligned lanes of a mast's Stay link carry in one step: 27.25 Gb/s a lane (R408). -/
def State.stayCapacity (s : State) (m : Mast) : Nat := s.stayAligned m * 2725 * s.stepTime / 300

/-- Class 1 of a mast (R34, R407), in bytes: digests formed for the step, commits to the Stoker, capture assignments and gap
notices; the sizes are a DESIGN CHOICE (log entry 104). -/
def State.stayFirst (s : State) (m : Mast) : List Nat :=
  let a := s.aud.get m
  let v := s.vid.get m
  let commits := if s.isCaptain m then (s.hal.sched.filter (fun c => !c.stokerHolds)).map (fun c => 40 + c.payload.length) else []
  (if ((s.mt m).own.find s.step).isSome then [72] else []) ++ commits ++ a.sent.map (fun _ => 16) ++
    a.notices.map (fun _ => 8) ++ v.notices.map (fun _ => 8)

/-- Class 2 of a mast, in bytes: the audio packets that the other mast lacks. -/
def State.staySecond (s : State) (m : Mast) : List Nat :=
  (s.aud.get m).forwards.map (fun f => 16 + 3 * (f.2.samples.map List.length).foldl (· + ·) 0)

/-- The bits of a list of contents of one class: class 1 goes on two lanes (R407). -/
def classBits (first : Bool) (bytes : List Nat) : Nat :=
  bytes.foldl (fun n b => n + (if first then 2 * containerBits 32 b else containerBits 256 b)) 0

/-- What a step leaves for video packets (R34, R407): the capacity after classes 1 and 2, and after the state copy, which takes at most
75 % while one runs. -/
def State.stayLeft (s : State) (m : Mast) : Nat :=
  let cap := s.stayCapacity m
  let left := cap - (classBits true (s.stayFirst m) + classBits false (s.staySecond m))
  if s.tst m.other = .joining && s.isCaptain m then left - Nat.min left (3 * cap / 4) else left

/-- The video packets that a number of bits carries, oldest first, and the rest (R34). -/
def serveVideo : Nat → List VideoForward → List VideoForward × List VideoForward
  | _, [] => ([], [])
  | room, x :: rest =>
    if containerBits 256 x.bytes ≤ room then
      let r := serveVideo (room - containerBits 256 x.bytes) rest
      (x :: r.1, r.2)
    else ([], x :: rest)

/-- A mast's Stay link over one step (R34): the video packets that the remaining capacity carries are sent; the mast that lacks the
others marks their flows as unrepaired for the frame. -/
def State.serveStay (s : State) (m : Mast) : State :=
  let x := s.lan.get m
  if x.videoOut.isEmpty || !s.sharing then s
  else
    let r := serveVideo (s.stayLeft m) x.videoOut
    let n := r.1.foldl (fun n y => n + containerCount 256 y.bytes) 0
    r.2.foldl (fun acc y => acc.markUnrepaired m.other y.port y.ts)
      { s with lan := s.lan.set m { x with videoOut := [], stay := x.stay.send 3 n } }

end Sys2Proof.Machine
end

