-- ==== Sys2Proof/Machine/StepCompute.lean ====
section
/-! DEFINITION. Effective steps (R61, R62, R171 to R173) and the boundary of a step: what is due, the sources, the rigs, the
overlay, limiters and side-tone, the sinks and the digests (R14, R64, R278, R432). -/
namespace Sys2Proof.Machine
open Host

/-! ### Effective steps -/

/-- Apply a scheduled command on the masts named; a status other than 0 drops it. -/
def State.applyAction (s : State) (c : SchedCmd) (ms : List Mast) : State × Nat :=
  let group := c.code / 256
  let k := c.code % 256
  if group = 3 then (if k = 2 then s.applyModeSet c ms else s.applyReset c ms)
  else if group = 4 then s.applyTack c ms
  else if group = 5 then
    (if k = 4 then ({ s with hal := { s.hal with rampDefault := c.aux } }, stOk) else s.applyParams c ms)
  else if group = 6 then
    (match k with
     | 1 => s.applyAesConfig c ms
     | 3 => s.applyCommonStart c ms
     | 4 => s.applyStreamRx c ms
     | 5 => s.applyStreamTx c ms
     | 6 => s.applyPatch c ms
     | 7 => s.applyHostAudio c ms
     | 8 => s.applySdiAudio c ms
     | _ => s.applySidetone c ms)
  else if group = 7 then
    (match k with
     | 4 => s.applyFlowRx c ms
     | 5 => s.applyFlowTx c ms
     | _ => s.applyXpt c ms)
  else if group = 8 then s.applyRealign c ms
  else if group = 9 then s.applySwap c ms
  else if group = 10 then s.applySnapshot c
  else if group = 11 then s.applyTestRoute c ms
  else if k = 1 then s.applyAlarmActivate c ms
  else s.applyAlarmClear c ms

/-- The checks of role and mode made again at the effective step (R172); R101 governs the mode of a MODE_SET. -/
def State.recheck (s : State) (c : SchedCmd) : Option Nat :=
  match opRow c.code with
  | none => some stBadOpcode
  | some row =>
    firstRefusal (refuseIf (!c.primary && !row.roles.contains (s.seat c.seat).role) stRoleDenied ++
      (if c.code = 0x0302 then [] else
        refuseIf (!row.modes.contains s.md.mode) (if s.md.mode = .alarm then stAlarmActive else stBadMode) ++
        refuseIf (decide (s.md.mode = .alarm) && decide (row.code / 256 = 4) && !c.primary && (s.seat c.seat).role != 3) stAlarmActive))

/-- A RAMP_DEFAULT_SET that is applied takes those accepted before it out of the list (R634): no command to come can take them. It stays
in the list itself, beside any accepted after it. -/
def State.settleDefault (s : State) (c : SchedCmd) : State :=
  if c.code = 0x0504 then
    { s with hal := { s.hal with rampDefaults := s.hal.rampDefaults.filter (fun r => decide (c.order ≤ r.order)) } }
  else s

/-- A Stoker that holds no commit of a command due now has missed it (R62). -/
def State.noteMissed (s : State) (c : SchedCmd) : State :=
  let m := s.lead.other
  if !s.follows m || c.stokerHolds || (s.mt m).lateDiscard.contains c.order then s
  else s.setMt m { s.mt m with missed := keepLast Config.schedLimit ((s.mt m).missed ++ [(c.order, c.effStep)]) }

/-- A scheduled command leaves the queue: a Stoker that holds no commit has missed it, and a reply that it still owes goes out
(R62, R63). -/
def State.takeSched (s : State) (c : SchedCmd) : State :=
  (({ s with hal := { s.hal with sched := s.hal.sched.filter (fun x => x.order != c.order) } } : State).noteMissed c).answerDue c false

/-- Apply one scheduled command at the step that begins, or drop it (R62, R172, R173). -/
def State.applySched (s : State) (c : SchedCmd) : State :=
  (s.takeSched c).atStep (s.step + 1) fun x =>
    match x.recheck c with
    | some st => (x.undoAction c).dropSched c.answered st
    | none =>
      let r := (x.settleDefault c).applyAction c (x.appliers c.stokerHolds)
      if r.2 = stOk then r.1 else (r.1.undoAction c).dropSched c.answered r.2

/-- The first command due at the step that begins: by effective step, then by order of acceptance (R171). A step that a
realign has skipped counts as past (R432). -/
def State.firstDue (s : State) (pick : SchedCmd → Bool) : Option SchedCmd :=
  (s.hal.sched.filter (fun c => pick c && decide (c.effStep ≤ s.step + 1))).foldl (fun best c => match best with
    | none => some c
    | some b => if c.effStep < b.effStep || (c.effStep == b.effStep && decide (c.order < b.order)) then some c else some b) none

/-- Apply up to `k` commands that are due. -/
def State.applyDue (s : State) : Nat → State
  | 0 => s
  | k + 1 => match s.firstDue (fun _ => true) with
    | some c => (s.applySched c).applyDue k
    | none => s

/-- EFFECTIVE_STEP_APPLY (R172): the first command due at the step that begins. -/
def execEffectiveStepApply (s : State) : Outcome State Fault Refusal :=
  .next <|
    if s.captain.isNone then s
    else match s.firstDue (fun _ => true) with
      | some c => s.applySched c
      | none => s

/-- REALIGN_EFFECTIVE (R432): the REALIGN of a timebase at its step E. -/
def execRealignEffective (t : Nat) (s : State) : Outcome State Fault Refusal :=
  .next <|
    if s.captain.isNone then s
    else match s.firstDue (fun c => c.code == 0x0805 && fld c.payload 0 1 == t) with
      | some c => s.applySched c
      | none => s

/-- A commit that has come too late for a command's effective step: the Stoker flags that step, once (R62, R67). -/
def State.commitLate (s : State) (m : Mast) (order eff : Nat) : State :=
  let t := s.mt m
  (s.setMt m { t with lateDiscard := keepLast Config.schedLimit (t.lateDiscard ++ [order])
                      missed := t.missed.filter (fun x => x.1 != order) }).flag m .lateCommit eff s.window

/-- A commit reaches the Stoker `m` while its command waits (R62, R63). -/
def State.commitTo (s : State) (m : Mast) (c : SchedCmd) : State :=
  let hold := decide (s.step + 4 ≤ c.effStep)
  let s1 : State := { s with hal := { s.hal with sched := s.hal.sched.map (fun x =>
    if x.order == c.order then { x with stokerHolds := hold, due := none } else x) } }
  (if hold then s1 else s1.commitLate m c.order c.effStep).answerDue c (!hold)

/-- What the acceptance of a command of the Primary prepares at its Reserve (R91). -/
def State.preparePrimary (s : State) (c : PrimaryCommand) : State :=
  match c.code with
  | 0x0403 => c.plan.elim s (fun t => s.tackAccepted t)
  | 0x0504 => s.defaultAccepted c.effStep c.aux
  | 0x0701 => s.placeSwitch c.code c.seat c.hostSeq c.effStep c.payload
  | 0x0702 => s.placeSwitch c.code c.seat c.hostSeq c.effStep c.payload
  | 0x0A04 => s.snapAccepted c.effStep
  | _ => s

/-- A command of the Primary reaches a Reserve in track, which applies it at the same effective step; one that comes at or after
that step is discarded and flagged, as R62 has it of a commit (R91, R633), and so is one that finds 1,024 commands waiting (R170;
DESIGN CHOICE, log entry 113). -/
def State.primaryCommand (s : State) (c : PrimaryCommand) : State :=
  if s.step < c.effStep && decide (s.hal.sched.length < Config.schedLimit) then
    (s.preparePrimary c).waiting c.code c.payload c.seat c.hostSeq c.effStep c.aux true
  else s.servers.foldl (fun acc m => acc.flag m .lateCommit c.effStep acc.window) s

/-- COMMIT_RECEIVED (R62, R63, R91): in a Reserve in track, `primary` is a command of the Primary. Else the commit of the command with an order of acceptance reaches the Stoker, and the command's
reply goes out; a commit that comes after 4 steps before the effective step is discarded, flagged (R67, R633), and reported
with OUTCOME 1. One that comes at or after the effective step is flagged too. -/
def execCommitReceived (order : Nat) (primary : Option PrimaryCommand) (s : State) : Outcome State Fault Refusal :=
  .next <|
    match s.captain, primary with
    | none, _ => s
    | some _, some c => if s.tracks then s.primaryCommand c else s
    | some k, none =>
      let m := k.other
      if !s.follows m || !s.tan.stay.up || (s.mt m).lateDiscard.contains order then s
      else
        match s.hal.sched.find? (fun c => c.order == order) with
        | some c => if c.stokerHolds then s else s.commitTo m c
        | none => match (s.mt m).missed.find? (fun x => x.1 == order) with
          | some x => s.commitLate m order x.2
          | none => s

/-! ### The step of one mast -/

/-- The fade of a REALIGN of TB_0 in step `n` (R432): down over N_R steps from E, up over N_R steps from k. -/
def State.realignCoef (s : State) (n : Nat) : Int :=
  match (s.tb s.lead 0).realign with
  | none => unity
  | some r =>
    let down : Fade := { u0 := unity, u1 := 0, start := r.step, len := s.realignFade }
    let up : Fade := { u0 := 0, u1 := unity, start := r.resume, len := s.realignFade }
    if r.moved then up.at' n else down.at' n

/-- The fade at entry to WATCH in step `n` (R118). -/
def State.watchCoef (s : State) (n : Nat) : Int :=
  match s.md.watchFadeEnd with
  | some e => ({ u0 := unity, u1 := 0, start := e - s.msSteps 5, len := s.msSteps 5 } : Fade).at' n
  | none => unity

/-- The region of the Mix die that a channel's output stages lie in: the active rig's, or the outgoing rig's where the
active one does not write it (R278). -/
def Datapath.regionOf (d : Datapath) (ch : Nat) : Option Nat :=
  (d.rigsRun.map (fun r => (r.outputs.find? (fun o => o.channel == ch)).map (fun o => o.region))).findSome? id

/-- What shedding does to a channel's word in step `n`: nothing while its region is shed (R274), and 5 ms of fade after it has
been restored (R122). -/
def State.shedCoef (s : State) (d : Datapath) (n ch : Nat) : Int :=
  let x := s.md.shed
  let mine := (d.regionOf ch).elim false (fun g => bit x.mixRegions g)
  if !mine then unity
  else if x.inForce then 0
  else match x.fadeFrom with
    | some f => ({ u0 := 0, u1 := unity, start := f, len := s.msSteps 5 } : Fade).at' n
    | none => unity

/-- A quarter wave of the sine at −20 dB FS, one tenth of full scale, at 1/96 of a period a step, rounded down (R221, R234). -/
def sineQuarter : List Nat :=
  [0, 1755651, 3503785, 5236915, 6947620, 8628574, 10272580, 11872596, 13421772, 14913474, 16341315, 17699179, 18981253,
   20182046, 21296416, 22319592, 23247192, 24075244, 24800202, 25418962, 25928873, 26327754, 26613895, 26786071, 26843545]

/-- The test sine at a place of its period, in 1/96 (R221): its rounding up or down is a free value (log entry 99). -/
def sineAt (k : Nat) : Int :=
  let h := k % 48
  let q := if h ≤ 24 then h else 48 - h
  let e := if q = 0 then 0 else (Config.testWord 1 (k % 96 + 1)).toNat % 2
  let v : Int := ((atD sineQuarter q 0 + e : Nat) : Int)
  if k % 96 < 48 then v else -v

/-- The 1 kHz test sine in step `n`; the place at which it starts is a free value (R221, log entry 99). -/
def testSine (internal n : Nat) : Int := sineAt (n * (96000 / internal) + (Config.testWord 1 0).toNat % 96)

/-- The word of an audio test route in step `n` (R124, R221). -/
def TestRoute.word (t : TestRoute) (d : Datapath) (internal n : Nat) : Int :=
  match t.signal with
  | 0 => 0
  | 1 => testSine internal n
  | 3 => wordVal (wget d.inp t.src)
  | k => wordVal (Config.testWord k n)

/-- What the outputs of a mast need in one step. -/
structure OutCtx where
  n : Nat
  plan : Option TackPlan
  outW : Assoc (BitVec 36)
  inW : Assoc (BitVec 36)

/-- One output channel in one step: the limiter, the word that leaves, and whether the limiter's gain is below 1.0 (R278,
R291 to R293, R297). `side` is what the side-tone entries add. -/
def State.outputWord (s : State) (m : Mast) (d : Datapath) (x : OutCtx) (side : Int) (ch : Nat) : Limiter × Int × Bool :=
  let inp (c : Nat) : Int := wordVal (wget d.inp c)
  let c := ceilingOf s.sec.profile ch
  let rel := 4294967296 / s.msSteps (releaseOf s.sec.profile ch)
  let overlaid := d.overlayWord s.sec.profile x.plan x.outW x.inW (s.alarmWord m inp x.n) x.n ch
  let l := (d.limiters.getD ch Limiter.reset).push c rel overlaid
  let clipped := clipTo c (l.2.1 + side)
  let faded := scaled (scaled (scaled clipped (s.realignCoef x.n)) (s.watchCoef x.n)) (s.shedCoef d x.n ch)
  (l.1, faded, l.2.2)

/-- Saturations of a list of positions, counted per cluster (R235, R236). -/
def State.bumpSats (s : State) (m : Mast) (k : Nat) (positions : List Nat) : State :=
  positions.foldl (fun acc p => acc.bump m (0x0280 + 2 * (p / 16) + k) 1) s

/-- What a step of the audio sources needs. -/
def State.audioCtx (s : State) (n : Nat) : AudioCtx :=
  { internal := s.rate, n := n, fence := s.fence, sdi := s.videoRuns && (s.md.mode == .service || s.md.mode == .alarm) }

/-- The sources of a mast and the words its input channels deliver in step `n` (R289, R336). -/
def State.stepInputs (s : State) (m : Mast) (n : Nat) : State :=
  let r := (s.aud.get m).stepSources (s.audioCtx n)
  let s0 := if s.tst m = .captain then s
    else ((s.aud.get m).neverCaptured n s.fence).foldl (fun acc x => acc.captureError m x.1 x.2.1 3 x.2.2) s
  let s1 := r.2.foldl (fun acc i => acc.bump m i 1) (s0.setAud m r.1)
  let d := s1.dp.get m
  let chans := (d.patch.map (fun p => p.1) ++ d.routes.map (fun p => p.1)).eraseDups
  let words := chans.foldl (fun t ch => wput t ch (wordOf (d.inputWord r.1.word n ch))) []
  s1.setDp m { d with inp := words, routes := d.routes.filter (fun x => decide (n < x.2.start + x.2.len)) }

/-- The step has used what its uncorrectable reads gave. -/
def State.readsUsed (s : State) (m : Mast) : State :=
  if (s.mem.get m).badReads.isEmpty then s else { s with mem := s.mem.set m { s.mem.get m with badReads := [] } }

/-- The bank words of a rig that read as zero, and the rig with the delay lines and ramps that do (R250): `sites` are those of the step's
uncorrectable reads, and the physical word, or the ramp, in each is a free value. The rig's maps name what stands there (R281). -/
def RigRun.badReads (r : RigRun) (sites : List Nat) (n : Nat) : List Nat × RigRun :=
  sites.foldl (fun acc x =>
    let memory := x / 2 ^ 20 % 256
    let w := Config.badWord x n
    if memory < 0x20 then
      (acc.1 ++ (r.place.filter (fun e => posOf e.1 == (memory, x / 2 ^ 16 % 16) && e.2 == w % 4096)).map (fun e => e.1), acc.2)
    else if memory = 0x20 then
      match r.pool.find? (fun e => e.2.any (fun y => decide (y.1 ≤ w % Config.delayWords) && decide (w % Config.delayWords < y.1 + y.2))) with
      | some e => (acc.1, { acc.2 with lines := acc.2.lines.put e.1 (setAt (acc.2.lines.getD e.1 []) 0 0) })
      | none => acc
    else
      match acc.2.ramps[w % acc.2.ramps.length]? with
      | some p => (acc.1 ++ [p.key], acc.2)
      | none => acc) ([], r)

/-- The rigs of a mast in step `n`: their words by output channel, outgoing and active (R234, R274, R281, R283). A shared position runs
once, so its saturations count once. -/
def State.stepRigs (s : State) (m : Mast) (n : Nat) : State × Assoc (BitVec 36) × Assoc (BitVec 36) :=
  let shed := if s.md.shed.inForce then s.md.shed.mixRegions else 0
  let d0 := s.dp.get m
  let d := match s.rigs.state, s.rigs.plan with
    | .tacking, some p =>
      if n < p.outgoingStops then d0 else if p.kind = 3 then d0.hardSwap p else { d0 with outgoing := none }
    | _, _ => d0
  let one (x : Option RigRun) : Option (RigRun × Exec) := x.map (fun r =>
    let b := r.badReads (s.mem.get m).badReads n
    b.2.stepRun n shed b.1 d.inp)
  let out := one d.outgoing
  let act := one d.active
  let s1 := (s.setDp m { d with active := act.map (fun r => r.1), outgoing := out.map (fun r => r.1) }).readsUsed m
  let shared := if d.outgoing.isSome then s.rigs.plan.elim [] (fun p => p.shared) else []
  let count (acc : State) (x : Option (RigRun × Exec)) (but : List Pos) : State := match x with
    | some r =>
      let own := fun (p : Nat) => !but.contains (p / 16, p % 16)
      (acc.bumpSats m 0 (r.2.accSats.filter own)).bumpSats m 1 (r.2.storeSats.filter own)
    | none => acc
  let words (x : Option (RigRun × Exec)) : Assoc (BitVec 36) := x.elim [] (fun r => r.2.outs)
  (count (count s1 out shared) act [], words out, words act)

/-- The side-tone entries of a mast advance by one step: what each adds, with its destination (R293). -/
def State.stepSide (s : State) (m : Mast) (n : Nat) : State × List (Nat × Int) :=
  let d := s.dp.get m
  let zoned := (s.sec.profile.map (fun p => p.zoneFloors.map (fun z => z.1))).getD []
  let r := d.side.map (fun t =>
    let q := t.push n (wordVal (wget d.inp t.src)) (if zoned.contains t.dst then d.duckAt t.dst n else unity)
    (q.1, t.dst, q.2))
  (s.setDp m { d with side := r.map (fun x => x.1) }, r.map (fun x => x.2))

/-- The output channels of a mast in step `n` (R278). -/
def State.stepOutputs (s : State) (m : Mast) (n : Nat) : State :=
  let r := s.stepRigs m n
  let q := r.1.stepSide m n
  let s1 := q.1
  let d := s1.dp.get m
  let plan := match s1.rigs.state, s1.rigs.plan with
    | .tacking, some p => some p
    | _, _ => none
  let x : OutCtx := { n := n, plan := plan, outW := r.2.1, inW := r.2.2 }
  let zoned := (s1.sec.profile.map (fun p => p.zoneFloors.map (fun z => z.1))).getD []
  let chans := (r.2.1.map (fun w => w.1) ++ r.2.2.map (fun w => w.1) ++ d.limiters.map (fun l => l.1) ++ zoned ++
    (d.side.filter (fun t => t.enabled || t.recent.any (fun v => v != 0) || t.gain.running n)).map (fun t => t.dst)).eraseDups
  let one (acc : State × Assoc Limiter × Assoc (BitVec 36)) (ch : Nat) : State × Assoc Limiter × Assoc (BitVec 36) :=
    let side := q.2.foldl (fun (v : Int) e => if e.1 = ch then v + e.2 else v) 0
    let y := s1.outputWord m d x side ch
    (if y.2.2 then acc.1.bump m (0x1800 + ch) 1 else acc.1,
      (if y.1 = Limiter.reset then acc.2.1.drop ch else acc.2.1.put ch y.1), wput acc.2.2 ch (wordOf y.2.1))
  let z := chans.foldl one (s1, d.limiters, [])
  let d1 := z.1.dp.get m
  z.1.setDp m { d1 with limiters := z.2.1, out := z.2.2, ducks := d1.ducks.filter (fun f => f.2.running n || f.2.u1 != unity) }

/-- Outputs in MAINTAIN: the safe state, but for test routes (R124). -/
def State.stepTests (s : State) (m : Mast) (n : Nat) : State :=
  let d := s.dp.get m
  let ts := s.tests.filter (fun t => t.cls == 0)
  s.setDp m { d with out := ts.foldl (fun t x => wput t x.output (wordOf (x.word d s.rate n))) [] }

/-- The destination of a sent stream on a mast's network (R329). -/
def TxStream.dest (x : TxStream) (m : Mast) : Nat := if m = .a then fld x.params 16 16 else fld x.params 32 16

/-- The lane of a sent stream is shed on a mast: the stream sends nothing there until the restore step (R330). -/
def State.streamShed (s : State) (m : Mast) (x : TxStream) : Bool :=
  s.md.shed.inForce && (s.portFor m (x.dest m)).elim false (fun l => (s.lane m l).st == .unpowered)

/-- A sent stream's packet goes to its port's queue for audio (R329, R390). -/
def State.offerStream (s : State) (m : Mast) (x : TxStream) : State :=
  let dest := x.dest m
  s.offer m (s.portFor m dest) 1 (udpFrame (decide (2 ^ 32 ≤ dest)) (fld x.params 50 2 != 0) x.last.length)

/-- What the sent streams of a mast do in step `n` (R207, R329, R330, R342): zero samples in the safe state; nothing leaves
where packet outputs are off, and in MAINTAIN only a stream that carries a test route (R124). -/
def State.stepSent (s : State) (m : Mast) (n : Nat) : State :=
  let a := s.aud.get m
  let d := s.dp.get m
  let dr := (s.mt m).drive
  let word (ch : Nat) : Int := if dr.allSafe then 0 else wordVal (wget d.out ch)
  let tested (x : TxStream) : Bool :=
    s.tests.any (fun t => t.cls == 0 && decide (x.firstOut ≤ t.output) && decide (t.output < x.firstOut + x.channels))
  let next := a.tx.map (fun x =>
    (x.1, x.2.stepTx n (s.hal.commonStartAt 3 x.1) word (dr.packets && !s.streamShed m x.2 && (s.md.mode != .maintain || tested x.2))))
  let left := (a.tx.zip next).map (fun e => (e.2.2, e.2.2.sent - e.1.2.sent))
  left.foldl (fun acc e => (List.range e.2).foldl (fun acc' _ => acc'.offerStream m e.1) acc) (s.setAud m { a with tx := next })

/-! ### Digests (R31, R64) -/

/-- The digest of a Mix region: its outputs in the order of the active rig's OUTPUT section; none where the region is shed. -/
def State.mixDigest (s : State) (m : Mast) (n g : Nat) : Option Nat :=
  let d := s.dp.get m
  if decide (Config.mixRegions s.variant ≤ g) || (s.md.shed.inForce && bit s.md.shed.mixRegions g) then none
  else
    let outs := d.active.elim [] (fun r => r.rig.outputs.filter (fun o => o.region == g))
    some (digestWords (BitVec.ofNat 64 n) (outs.map (fun o => wget d.out o.channel))).toNat

/-- The selection record of a logical output (R64). -/
def XptOut.record (x : XptOut) : Nat :=
  if x.input = 0xFFFF then 2 ^ 30 * b01 x.clean else 2 ^ 31 + 2 ^ 30 * b01 x.clean + x.input % 2048

/-- Output channels whose words a Route region's embedders and packetisers carry. -/
def State.routeChannels (s : State) (m : Mast) (g : Nat) : List Nat :=
  let a := s.aud.get m
  let sdi := (a.sdi.filter (fun x => x.1 / 384 == g)).map (fun x =>
    let chans := (s.sinkItem 2 x.1).elim [] (fun i => i.channels)
    (List.range 16).filterMap (fun i => if bit x.2.outGroups (i / 4) then some (atD chans i 0xFFFF) else none))
  let tx := (a.tx.filter (fun x => Config.streamRegion x.1 % 4 == g)).map (fun x =>
    (List.range x.2.channels).map (fun i => x.2.firstOut + i))
  (sdi ++ tx).flatten

/-- The digest of a Route region (R64). -/
def State.routeDigest (s : State) (m : Mast) (n g : Nat) : Option Nat :=
  let v := s.vid.get m
  let outs := if Config.hasVideo s.variant then
      ((List.range 384).map (fun i => 384 * g + i)).filter (fun o => !videoAbsent s.variant o) else []
  let c := outs.foldl (fun c o => crcFeed 32 (v.out o).record c) (BitVec.ofNat 64 n)
  some (digestWords c ((s.routeChannels m g).map (fun ch => wget (s.dp.get m).out ch))).toNat

/-- Form the digests of step `n` on a mast. -/
def State.stepDigests (s : State) (m : Mast) (n : Nat) : State :=
  if !s.formsDigests then s
  else
    let ds := (List.range 4).map (s.mixDigest m n) ++ (List.range 4).map (s.routeDigest m n)
    let t := s.mt m
    s.setMt m { t with own := keepSteps 16 (t.own.put n ds) }

/-! ### The boundary -/

/-- A mast computes the datapath: it serves, or it is joining and step J has come; and its Mix die is powered. -/
def State.computes (s : State) (m : Mast) : Bool :=
  s.md.mixOn.get m && overlayMode s.md.mode && (s.md.mode != .watch || s.md.watchFadeEnd.isSome) && (s.serves m || s.joined m)

/-- A mast that joins runs its converters on its own captured inputs before step J (R70). -/
def State.rebuild (s : State) (m : Mast) (n : Nat) : State :=
  if s.tst m == .joining && s.formsDigests then s.setAud m ((s.aud.get m).stepSources (s.audioCtx n)).1 else s

/-- DSP cycles that the busiest position of a Mix region takes in a step: the slots of the rigs that run there, and its ramp writes
(R252, R253, R281). -/
def Datapath.regionLoad (d : Datapath) (g : Nat) : Nat :=
  let runs := d.active.toList ++ d.outgoing.toList
  let here := ((runs.map (fun r => r.rig.positions)).flatten.eraseDups).filter (fun p => p.1 / 8 == g)
  here.foldl (fun a p => Nat.max a (runs.foldl (fun b r =>
    b + r.rig.slotsAt p.1 p.2 + (r.ramps.filter (fun x => posOf x.key == p)).length) 0)) 0

/-- The lag of a Mix region after a step (R254, R459): a stretched region has half the cycles of the step, and the reserve pays the lag
back. A program that ends after its step counts one overrun; more than 8,192 cycles late, the region has failed its step. -/
def State.regionLag (s : State) (m : Mast) (g : Nat) : State :=
  let c := s.clk.get m
  match c.regions[g]? with
  | none => s
  | some r =>
    if r.since.isNone && r.lag = 0 then s
    else
      let cycles := s.stepTime / 3
      let open' := if r.since.isSome then cycles / 2 else cycles
      let lag := r.lag + (s.dp.get m).regionLoad g - open'
      let s1 : State := { s with clk := s.clk.set m { c with regions := setAt c.regions g { r with lag := lag } } }
      if lag = 0 then s1 else if lag ≤ 8192 then s1.bump m (digestCounter g 0) 1 else s1.stepFailed m g

/-- The departures of a Route region in a step: packets of flows and lines of SDI outputs (R346). -/
def VideoMast.departures (v : VideoMast) (r : Nat) : Nat :=
  let mine (o : Nat) : Bool := o / 384 == r
  ((v.tx.filter (fun e => mine e.1)).map (fun e => e.2.sent.length)).foldl (· + ·) 0 +
    ((v.sdi.filter (fun e => mine e.1)).map (fun e => e.2.length)).foldl (· + ·) 0

/-- The lag of Route region `r` after a step (R459, R461): a stretched region loses half of the step's FABRIC cycles, and what it makes up
is free (log entry 115). Beyond 4,096 cycles its departures count as late; beyond 8,192 it has failed its step. -/
def State.routeLag (s : State) (m : Mast) (n r : Nat) : State :=
  let c := s.clk.get m
  match c.regions[4 + r]? with
  | none => s
  | some x =>
    if x.since.isNone && x.lag = 0 then s
    else
      let lost := if x.since.isSome then s.stepTime * 4 / 30 else 0
      let lag := x.lag + lost - Config.routeCatchUp r n
      let s1 : State := { s with clk := s.clk.set m { c with regions := setAt c.regions (4 + r) { x with lag := lag } } }
      if lag ≤ 4096 then s1
      else
        let s2 := s1.bump m (digestCounter (4 + r) 0) ((s.vid.get m).departures r)
        if lag ≤ 8192 then s2 else s2.stepFailed m (4 + r)

/-- The Mix and Route regions of a mast after step `n`. -/
def State.stepLag (s : State) (m : Mast) (n : Nat) : State :=
  let s1 := (List.range 4).foldl (fun acc g => acc.regionLag m g) s
  if Config.hasVideo s.variant then (List.range 4).foldl (fun acc r => acc.routeLag m n r) s1 else s1

/-- One mast computes step `n`. -/
def State.computeMast (s : State) (m : Mast) (n : Nat) : State :=
  if !s.computes m then s.rebuild m n
  else
    let s1 := s.stepInputs m n
    let s2 := if s1.md.mode = .maintain then s1.stepTests m n else s1.stepOutputs m n
    ((((((s2.stepSent m n).stepAesOut m n).stepSdiVideo m n).stepSdiOut m n).stepVideo m n).stepDigests m n).stepLag m n

/-- The RTC counts seconds, from whatever it held (R131). -/
def Nest.tick (x : Nest) (dt : Nat) : Nest :=
  let f := x.rtcFrac + dt
  if f < Config.second then { x with rtcFrac := f }
  else { x with rtc := (x.rtc + f / Config.second) % 2 ^ 64, rtcFrac := f % Config.second }

/-- Time passes. -/
def State.pass (s : State) (dt : Nat) : State :=
  { s with now := s.now + dt, md := { s.md with nest := s.md.nest.tick dt } }

/-- The datagram of a packet (R151): from UDP port 9127 of the device's profiled address, by the management lane or the watch lane that
the profile names, to the source of the latest authenticated command of its session. -/
def State.datagramOf (s : State) (m : Mast) (q : Packet) : Datagram :=
  let item := s.sec.profile.bind (fun p => p.mgmt.find? (fun x => x.mast == m.code))
  let now := s.hal.sessions.find? (fun x => x.id == q.session && x.mast == m)
  let v6 := (now.map (fun x => x.ipv6)).getD q.ipv6
  { lane := item.elim 232 (fun x => if x.place = 0 then 232 else x.lane),
    device := item.elim 0 (fun x => if v6 then x.ipv6 else x.ipv4), srcPort := 9127,
    dest := (now.map (fun x => x.source)).getD q.dest, ipv6 := v6 }

/-- The management Ethernet sends the packet at the front of its queue, once its lane is up (R151, R152). -/
def State.sendMgmt (s : State) (m : Mast) : State :=
  let p := s.port.get m
  match p.outMgmt with
  | [] => s
  | q :: rest =>
    let d := s.datagramOf m q
    if s.mastOn m && (s.lane m d.lane).st == .up then
      { s with port := s.port.set m { p with outMgmt := rest, lastPacket := some q, datagram := some d } }
    else s

/-- What a step does after its outputs: fades and realigns that are over leave the state. -/
def State.endFades (s : State) (n : Nat) : State :=
  let x := s.md.shed
  let shed : Shed := match x.fadeFrom with
    | some f => if f + s.msSteps 5 ≤ n + 1 then { x with fadeFrom := none, mixRegions := 0 } else x
    | none => x
  let s1 : State := { s with md := { s.md with shed := shed } }
  match (s1.tb s1.lead 0).realign with
  | some r =>
    if r.moved && decide (r.resume + s1.realignFade ≤ n + 1) then
      { s1 with tim := s1.tim.map (fun y => { y with tbs := setAt y.tbs 0 { atD y.tbs 0 .reset with realign := none } }) }
    else s1
  | none => s1

/-- Restoring is planned once both ON_BATT balls have been low for 10 s, or when ALARM has ended (R122). -/
def State.restoreIfDue (s : State) : State :=
  let x := s.md.shed
  if x.inForce && x.restoreAt.isNone &&
      (s.md.mode != .alarm || (!s.onBattery && decide (x.lowSince + 10 * Config.second ≤ s.now))) then s.planRestore
  else s

/-- The Primary's Captain sends its digests of the newest step over the Shroud link (R92). -/
def State.sendDigests (s : State) : State :=
  let x := s.tan.pairing
  match (s.mt s.lead).own.getLast? with
  | some e =>
    if x.paired && (x.role == 1 || x.role == 3) && (s.lan.a.shroudUp || s.lan.b.shroudUp) && s.captain.isSome then
      { s with tan := { s.tan with pairing := { x with digestsSent := e.1 } } }
    else s
  | none => s

/-- Step `n` begins and is computed (R14, R278): what is due acts first, then both masts compute. -/
def State.beginStep (s : State) (n : Nat) (frame : List Byte) : State :=
  let s1 := (((s.rejoinFit .a).rejoinFit .b).alarmActions n).joinNow n
  let s2 := if s1.captain.isNone then s1 else s1.applyDue s1.hal.sched.length
  let s3 := ({ s2 with step := n } : State).pass s2.stepTime
  let s4 := ((s3.watchCopy.dropDead .a).dropDead .b).alarmEnds.restoreIfDue.finishJobs.stopRings.resumeOtp
  let s5 := s4.followOverlay.stepPlayback n frame
  let s6 := (((s5.computeMast .a n).computeMast .b n).stepFallback .a n).stepFallback .b n
  let g6 := (((s6.followGroups .a).followGroups .b).stepPins .a n).stepPins .b n
  let s7 := if g6.computes g6.lead then g6.stepRecording n (fun ch => wordVal (wget (g6.dp.get g6.lead).out ch)) else g6
  let s8 := (((s7.stepEgress .a).stepEgress .b).serveStay .a).serveStay .b
  ((s8.sendDigests.endFades n).sendMgmt .a).sendMgmt .b

/-- TB_0's grid waits between the end of step E + N_R − 1 and step k of a REALIGN (R432). -/
def State.gridWaits (s : State) : Option Realign :=
  match (s.tb s.lead 0).realign with
  | some r => if !r.moved && decide (r.step + s.realignFade ≤ s.step + 1) then some r else none
  | none => none

/-- STEP_BOUNDARY (R14): the next step. Without main power only the crow's nest counts time. `frame` is the frame that the
host's memory holds at PLAY_RD_PTR (R339). -/
def execStepBoundary (frame : List Byte) (s : State) : Outcome State Fault Refusal :=
  .next <|
    if s.md.mode = .vault then s.pass s.stepTime
    else if s.gridWaits.isSome then s
    else s.beginStep (s.step + 1) frame

/-- REALIGN_RESUME (R432): step k, the first on the moved grid; the steps between are skipped, or the pause passes. -/
def execRealignResume (frame : List Byte) (s : State) : Outcome State Fault Refusal :=
  .next <|
    match s.gridWaits with
    | none => s
    | some r =>
      let gap : Int := ((r.resume - (r.step + s.realignFade) : Nat) : Int) * s.stepTime - 3 * r.offset
      let s1 : State := { s.gridMoves r with step := r.resume - 1 }
      ((s1.pass gap.toNat).beginStep r.resume frame).realignDone 0 r.offset

end Sys2Proof.Machine
end

