-- ==== Sys2Proof/Machine/Dispatch.lean ====
section
/-! DEFINITION. One arm per command: each calls its meaning. -/
namespace Sys2Proof.Machine
open Sys2Proof

/-- The effect of a command on everything but the queue. -/
def exec (i : Instr) (s : State) : Host.Outcome State Fault Refusal :=
  match i with
  | .sessionOpen h p f => Sys2Proof.Machine.execSessionOpen h p f s
  | .sessionConfirm h p => Sys2Proof.Machine.execSessionConfirm h p s
  | .sessionClose h p => Sys2Proof.Machine.execSessionClose h p s
  | .sessionStatus h p => Sys2Proof.Machine.execSessionStatus h p s
  | .sessionEvents h p => Sys2Proof.Machine.execSessionEvents h p s
  | .ledgerRead h p => Sys2Proof.Machine.execLedgerRead h p s
  | .identGet h p => Sys2Proof.Machine.execIdentGet h p s
  | .capsGet h p => Sys2Proof.Machine.execCapsGet h p s
  | .lockoutRecordGet h p => Sys2Proof.Machine.execLockoutRecordGet h p s
  | .modeGet h p => Sys2Proof.Machine.execModeGet h p s
  | .modeSet h p => Sys2Proof.Machine.execModeSet h p s
  | .reset h p => Sys2Proof.Machine.execReset h p s
  | .rigLoad h p => Sys2Proof.Machine.execRigLoad h p s
  | .rigVerify h p => Sys2Proof.Machine.execRigVerify h p s
  | .tack h p => Sys2Proof.Machine.execTack h p s
  | .rigDiscard h p => Sys2Proof.Machine.execRigDiscard h p s
  | .rigStatus h p => Sys2Proof.Machine.execRigStatus h p s
  | .rigLatency h p => Sys2Proof.Machine.execRigLatency h p s
  | .paramSet h p => Sys2Proof.Machine.execParamSet h p s
  | .paramGet h p => Sys2Proof.Machine.execParamGet h p s
  | .sceneRecall h p => Sys2Proof.Machine.execSceneRecall h p s
  | .rampDefaultSet h p => Sys2Proof.Machine.execRampDefaultSet h p s
  | .rampStatus h p => Sys2Proof.Machine.execRampStatus h p s
  | .aesConfig h p => Sys2Proof.Machine.execAesConfig h p s
  | .audioStatus h p => Sys2Proof.Machine.execAudioStatus h p s
  | .commonStart h p => Sys2Proof.Machine.execCommonStart h p s
  | .streamRxSet h p => Sys2Proof.Machine.execStreamRxSet h p s
  | .streamTxSet h p => Sys2Proof.Machine.execStreamTxSet h p s
  | .patchSet h p => Sys2Proof.Machine.execPatchSet h p s
  | .hostAudioSet h p => Sys2Proof.Machine.execHostAudioSet h p s
  | .sdiAudioSet h p => Sys2Proof.Machine.execSdiAudioSet h p s
  | .sidetoneSet h p => Sys2Proof.Machine.execSidetoneSet h p s
  | .xptSwitch h p => Sys2Proof.Machine.execXptSwitch h p s
  | .xptSalvo h p => Sys2Proof.Machine.execXptSalvo h p s
  | .xptStatus h p => Sys2Proof.Machine.execXptStatus h p s
  | .flowRxSet h p => Sys2Proof.Machine.execFlowRxSet h p s
  | .flowTxSet h p => Sys2Proof.Machine.execFlowTxSet h p s
  | .flowRead h p => Sys2Proof.Machine.execFlowRead h p s
  | .timebaseStatus h p => Sys2Proof.Machine.execTimebaseStatus h p s
  | .referenceStatus h p => Sys2Proof.Machine.execReferenceStatus h p s
  | .timingHistory h p => Sys2Proof.Machine.execTimingHistory h p s
  | .ptpStatus h p => Sys2Proof.Machine.execPtpStatus h p s
  | .realign h p => Sys2Proof.Machine.execRealign h p s
  | .tandemStatus h p => Sys2Proof.Machine.execTandemStatus h p s
  | .tandemSwap h p => Sys2Proof.Machine.execTandemSwap h p s
  | .digestStatus h p => Sys2Proof.Machine.execDigestStatus h p s
  | .shroudStatus h p => Sys2Proof.Machine.execShroudStatus h p s
  | .faultLogRead h p => Sys2Proof.Machine.execFaultLogRead h p s
  | .faultAck h p => Sys2Proof.Machine.execFaultAck h p s
  | .counterRead h p => Sys2Proof.Machine.execCounterRead h p s
  | .snapshot h p => Sys2Proof.Machine.execSnapshot h p s
  | .snapshotRead h p => Sys2Proof.Machine.execSnapshotRead h p s
  | .health h p => Sys2Proof.Machine.execHealth h p s
  | .bankGive h p => Sys2Proof.Machine.execBankGive h p s
  | .bankHandover m idx idle => Sys2Proof.Machine.execBankHandover m idx idle s
  | .bankRead h p => Sys2Proof.Machine.execBankRead h p s
  | .bankWrite h p => Sys2Proof.Machine.execBankWrite h p s
  | .marchRun h p => Sys2Proof.Machine.execMarchRun h p s
  | .loopbackSet h p => Sys2Proof.Machine.execLoopbackSet h p s
  | .testRouteSet h p => Sys2Proof.Machine.execTestRouteSet h p s
  | .repairMapRead h p => Sys2Proof.Machine.execRepairMapRead h p s
  | .lifecycleGet h p => Sys2Proof.Machine.execLifecycleGet h p s
  | .certRead h p => Sys2Proof.Machine.execCertRead h p s
  | .ownerEnrol h p sigOk => Sys2Proof.Machine.execOwnerEnrol h p sigOk s
  | .imageLoad h p => Sys2Proof.Machine.execImageLoad h p s
  | .profileApply h p sigOk => Sys2Proof.Machine.execProfileApply h p sigOk s
  | .firmwareApply h p sigOk => Sys2Proof.Machine.execFirmwareApply h p sigOk s
  | .lifecycleSet h p sigOk => Sys2Proof.Machine.execLifecycleSet h p sigOk s
  | .keyProvision h p key unwrapOk => Sys2Proof.Machine.execKeyProvision h p key unwrapOk s
  | .rtcSet h p => Sys2Proof.Machine.execRtcSet h p s
  | .alarmActivate h p => Sys2Proof.Machine.execAlarmActivate h p s
  | .alarmClear h p => Sys2Proof.Machine.execAlarmClear h p s
  | .alarmStatus h p => Sys2Proof.Machine.execAlarmStatus h p s
  | .messageLoad h p sigOk => Sys2Proof.Machine.execMessageLoad h p sigOk s
  | .messageList h p => Sys2Proof.Machine.execMessageList h p s
  | .alarmInputStatus h p => Sys2Proof.Machine.execAlarmInputStatus h p s
  | .fallbackTest h p => Sys2Proof.Machine.execFallbackTest h p s
  | .fallbackTestDone => Sys2Proof.Machine.execFallbackTestDone s
  | .unknownOpcode h code p => Sys2Proof.Machine.execUnknownOpcode h code p s
  | .halyardPacketDiscard h => Sys2Proof.Machine.execHalyardPacketDiscard h s
  | .sessionIdleTimeout => Sys2Proof.Machine.execSessionIdleTimeout s
  | .loadTimeout t => Sys2Proof.Machine.execLoadTimeout t s
  | .cmdTailDoorbell m v => Sys2Proof.Machine.execCmdTailDoorbell m v s
  | .commandDescriptorDone m d dmaError => Sys2Proof.Machine.execCommandDescriptorDone m d dmaError s
  | .replyTailDoorbell m v => Sys2Proof.Machine.execReplyTailDoorbell m v s
  | .replyPacketWrite m d dmaError => Sys2Proof.Machine.execReplyPacketWrite m d dmaError s
  | .ringEnableWrite m v => Sys2Proof.Machine.execRingEnableWrite m v s
  | .intStatusClear m v => Sys2Proof.Machine.execIntStatusClear m v s
  | .intEnableWrite m v => Sys2Proof.Machine.execIntEnableWrite m v s
  | .msixHoldoffExpiry m => Sys2Proof.Machine.execMsixHoldoffExpiry m s
  | .windowHighHalfLatch m write off v => Sys2Proof.Machine.execWindowHighHalfLatch m write off v s
  | .windowRegisterWrite m off v => Sys2Proof.Machine.execWindowRegisterWrite m off v s
  | .pcieReset m x => Sys2Proof.Machine.execPcieReset m x s
  | .cspWrite m wireLen payloadLen => Sys2Proof.Machine.execCspWrite m wireLen payloadLen s
  | .cspRead m clocked => Sys2Proof.Machine.execCspRead m clocked s
  | .cspStatus m => Sys2Proof.Machine.execCspStatus m s
  | .cspFramingDiscard m first => Sys2Proof.Machine.execCspFramingDiscard m first s
  | .transportEngineReset m t x => Sys2Proof.Machine.execTransportEngineReset m t x s
  | .mgmtServiceFrame m f => Sys2Proof.Machine.execMgmtServiceFrame m f s
  | .remapWrite m x passed => Sys2Proof.Machine.execRemapWrite m x passed s
  | .watchdogExpiry m => Sys2Proof.Machine.execWatchdogExpiry m s
  | .powerGood m => Sys2Proof.Machine.execPowerGood m s
  | .bootPhaseComplete m f => Sys2Proof.Machine.execBootPhaseComplete m f s
  | .bootFailure m => Sys2Proof.Machine.execBootFailure m s
  | .bootEnd => Sys2Proof.Machine.execBootEnd s
  | .resetNAssert m cycles => Sys2Proof.Machine.execResetNAssert m cycles s
  | .mainPowerLoss => Sys2Proof.Machine.execMainPowerLoss s
  | .tamperTrip m src => Sys2Proof.Machine.execTamperTrip m src s
  | .lifecycleReset => Sys2Proof.Machine.execLifecycleReset s
  | .imageWriteDone failed => Sys2Proof.Machine.execImageWriteDone failed s
  | .watchFadeEnd => Sys2Proof.Machine.execWatchFadeEnd s
  | .wakeStep => Sys2Proof.Machine.execWakeStep s
  | .lateWake m => Sys2Proof.Machine.execLateWake m s
  | .onBattChange m level => Sys2Proof.Machine.execOnBattChange m level s
  | .shedStep => Sys2Proof.Machine.execShedStep s
  | .restoreStep => Sys2Proof.Machine.execRestoreStep s
  | .alarmInputSample m idx v pulse => Sys2Proof.Machine.execAlarmInputSample m idx v pulse s
  | .alarmInputDebounced m idx => Sys2Proof.Machine.execAlarmInputDebounced m idx s
  | .alarmTestPulse m idx dropMv => Sys2Proof.Machine.execAlarmTestPulse m idx dropMv s
  | .alarmInputAction primary => Sys2Proof.Machine.execAlarmInputAction primary s
  | .alarmInputSolo m idx => Sys2Proof.Machine.execAlarmInputSolo m idx s
  | .messagePlayBoundary msg => Sys2Proof.Machine.execMessagePlayBoundary msg s
  | .messageChunkFailure m msg chunk both => Sys2Proof.Machine.execMessageChunkFailure m msg chunk both s
  | .alarmStreamMessage m n r p sigOk tai => Sys2Proof.Machine.execAlarmStreamMessage m n r p sigOk tai s
  | .alarmStreamSilence n => Sys2Proof.Machine.execAlarmStreamSilence n s
  | .stepBoundary frame => Sys2Proof.Machine.execStepBoundary frame s
  | .preStartPulse => Sys2Proof.Machine.execPreStartPulse s
  | .rampEnd => Sys2Proof.Machine.execRampEnd s
  | .stepFailure m g => Sys2Proof.Machine.execStepFailure m g s
  | .digestReceived m n => Sys2Proof.Machine.execDigestReceived m n s
  | .digestCompare n => Sys2Proof.Machine.execDigestCompare n s
  | .effectiveStepApply => Sys2Proof.Machine.execEffectiveStepApply s
  | .commitReceived order primary => Sys2Proof.Machine.execCommitReceived order primary s
  | .tackEnd => Sys2Proof.Machine.execTackEnd s
  | .rigVerifyDone hashOk => Sys2Proof.Machine.execRigVerifyDone hashOk s
  | .snapshotEvent => Sys2Proof.Machine.execSnapshotEvent s
  | .healthEvent => Sys2Proof.Machine.execHealthEvent s
  | .audioPacketRx m r samples estimate => Sys2Proof.Machine.execAudioPacketRx m r samples estimate s
  | .packetExpectedTimeout m st seq => Sys2Proof.Machine.execPacketExpectedTimeout m st seq s
  | .gapNoticeRx m video st seq => Sys2Proof.Machine.execGapNoticeRx m video st seq s
  | .forwardedPacketRx m st seq primary => Sys2Proof.Machine.execForwardedPacketRx m st seq primary s
  | .packetDeadline m st seq => Sys2Proof.Machine.execPacketDeadline m st seq s
  | .audioPortEventDeferred m cls idx => Sys2Proof.Machine.execAudioPortEventDeferred m cls idx s
  | .aes3FrameRx m f => Sys2Proof.Machine.execAes3FrameRx m f s
  | .captureAssignmentRx m x => Sys2Proof.Machine.execCaptureAssignmentRx m x s
  | .asrcEstimateRx m cls idx step ratio => Sys2Proof.Machine.execAsrcEstimateRx m cls idx step ratio s
  | .asrcLock m cls idx ratio => Sys2Proof.Machine.execAsrcLock m cls idx ratio s
  | .aes3InputLock m port rate => Sys2Proof.Machine.execAes3InputLock m port rate s
  | .aes3InputUnlock m port => Sys2Proof.Machine.execAes3InputUnlock m port s
  | .singleHomedChange cls idx => Sys2Proof.Machine.execSingleHomedChange cls idx s
  | .sdiAudioPacket m p => Sys2Proof.Machine.execSdiAudioPacket m p s
  | .videoPacketRx m r row => Sys2Proof.Machine.execVideoPacketRx m r row s
  | .flowMissEvent m => Sys2Proof.Machine.execFlowMissEvent m s
  | .flowUnrepaired m port ts black => Sys2Proof.Machine.execFlowUnrepaired m port ts black s
  | .membershipQuery m => Sys2Proof.Machine.execMembershipQuery m s
  | .formatRecognised m idx fmt => Sys2Proof.Machine.execFormatRecognised m idx fmt s
  | .arrivalMeasurement m idx arrival rate slips => Sys2Proof.Machine.execArrivalMeasurement m idx arrival rate slips s
  | .switchFinalDecision o reached => Sys2Proof.Machine.execSwitchFinalDecision o reached s
  | .stokerOwnSwitchDecision o => Sys2Proof.Machine.execStokerOwnSwitchDecision o s
  | .switchPoint o => Sys2Proof.Machine.execSwitchPoint o s
  | .sourceChange o delivers black => Sys2Proof.Machine.execSourceChange o delivers black s
  | .fabricOverload => Sys2Proof.Machine.execFabricOverload s
  | .cellCrcMismatch m region cell => Sys2Proof.Machine.execCellCrcMismatch m region cell s
  | .laneLos m l on => Sys2Proof.Machine.execLaneLos m l on s
  | .laneLol m l on => Sys2Proof.Machine.execLaneLol m l on s
  | .laneErrorBurst m l second => Sys2Proof.Machine.execLaneErrorBurst m l second s
  | .laneSelfTestResult m l bitErrors => Sys2Proof.Machine.execLaneSelfTestResult m l bitErrors s
  | .laneBringupTimeout m l => Sys2Proof.Machine.execLaneBringupTimeout m l s
  | .laneAligned m l a seed frame => Sys2Proof.Machine.execLaneAligned m l a seed frame s
  | .markerSend m l => Sys2Proof.Machine.execMarkerSend m l s
  | .containerRx m l cls seq blocks tag beat => Sys2Proof.Machine.execContainerRx m l cls seq blocks tag beat s
  | .containerSeqSkip m shroud cls => Sys2Proof.Machine.execContainerSeqSkip m shroud cls s
  | .tandemBlockSend m => Sys2Proof.Machine.execTandemBlockSend m s
  | .tandemBlockRx m l payload => Sys2Proof.Machine.execTandemBlockRx m l payload s
  | .stayLinkUp => Sys2Proof.Machine.execStayLinkUp s
  | .stayLinkDown m => Sys2Proof.Machine.execStayLinkDown m s
  | .stayArbitration => Sys2Proof.Machine.execStayArbitration s
  | .stayRejoinTimer => Sys2Proof.Machine.execStayRejoinTimer s
  | .faultReport m src site step late => Sys2Proof.Machine.execFaultReport m src site step late s
  | .takeCaptain m => Sys2Proof.Machine.execTakeCaptain m s
  | .releaseDrivers m => Sys2Proof.Machine.execReleaseDrivers m s
  | .abruptTakeover m dead steerLow => Sys2Proof.Machine.execAbruptTakeover m dead steerLow s
  | .steerReadbackFault m ball => Sys2Proof.Machine.execSteerReadbackFault m ball s
  | .slotPreloadEnd => Sys2Proof.Machine.execSlotPreloadEnd s
  | .copyPassEnd fits => Sys2Proof.Machine.execCopyPassEnd fits s
  | .joinStep => Sys2Proof.Machine.execJoinStep s
  | .stokerRejoin => Sys2Proof.Machine.execStokerRejoin s
  | .joinHoldExpiry m => Sys2Proof.Machine.execJoinHoldExpiry m s
  | .logWrite m => Sys2Proof.Machine.execLogWrite m s
  | .burstClose m src => Sys2Proof.Machine.execBurstClose m src s
  | .targetedTestResult m site passed => Sys2Proof.Machine.execTargetedTestResult m site passed s
  | .rowCopyEnd m site => Sys2Proof.Machine.execRowCopyEnd m site s
  | .scrubRead m memory bank row word => Sys2Proof.Machine.execScrubRead m memory bank row word s
  | .fallbackMemoryCheck m passed reloadPassed => Sys2Proof.Machine.execFallbackMemoryCheck m passed reloadPassed s
  | .messageStoreCheck m fails => Sys2Proof.Machine.execMessageStoreCheck m fails s
  | .otpRepairWrite m => Sys2Proof.Machine.execOtpRepairWrite m s
  | .writeHoldoffEnd m rewriteFailed => Sys2Proof.Machine.execWriteHoldoffEnd m rewriteFailed s
  | .marchDone m target index first again still => Sys2Proof.Machine.execMarchDone m target index first again still s
  | .telltaleWindowEnd m rows => Sys2Proof.Machine.execTelltaleWindowEnd m rows s
  | .candidateAbsent m idx => Sys2Proof.Machine.execCandidateAbsent m idx s
  | .timebaseLocked t xo => Sys2Proof.Machine.execTimebaseLocked t xo s
  | .holdoverLimit t => Sys2Proof.Machine.execHoldoverLimit t s
  | .xoCheck m count edges => Sys2Proof.Machine.execXoCheck m count edges s
  | .xoCalibrationUpdate m mean => Sys2Proof.Machine.execXoCalibrationUpdate m mean s
  | .phaseMarker t offset => Sys2Proof.Machine.execPhaseMarker t offset s
  | .realignEffective t => Sys2Proof.Machine.execRealignEffective t s
  | .realignResume frame => Sys2Proof.Machine.execRealignResume frame s
  | .ptpMessageRx m x => Sys2Proof.Machine.execPtpMessageRx m x s
  | .syncPairTimeout m t => Sys2Proof.Machine.execSyncPairTimeout m t s
  | .delayReqSend m t t3 => Sys2Proof.Machine.execDelayReqSend m t t3 s
  | .ptpOffsetSecond t => Sys2Proof.Machine.execPtpOffsetSecond t s
  | .jumpDecision t => Sys2Proof.Machine.execJumpDecision t s
  | .rtcUpdate => Sys2Proof.Machine.execRtcUpdate s
  | .pllLoss m p oscStopped => Sys2Proof.Machine.execPllLoss m p oscStopped s
  | .pllGraceEnd m p => Sys2Proof.Machine.execPllGraceEnd m p s
  | .pllRelock m p => Sys2Proof.Machine.execPllRelock m p s
  | .derailleurHang m d toFallback newEdge oldEdge => Sys2Proof.Machine.execDerailleurHang m d toFallback newEdge oldEdge s
  | .syncDivEdge m => Sys2Proof.Machine.execSyncDivEdge m s
  | .freewheelClose m block => Sys2Proof.Machine.execFreewheelClose m block s
  | .forcedClosureTimeout m block => Sys2Proof.Machine.execForcedClosureTimeout m block s
  | .forcedClosureRetry m block idle => Sys2Proof.Machine.execForcedClosureRetry m block idle s
  | .frequencyMeasurement m tap against sel value => Sys2Proof.Machine.execFrequencyMeasurement m tap against sel value s
  | .droopTrip m g => Sys2Proof.Machine.execDroopTrip m g s
  | .droopStretchEnd m g => Sys2Proof.Machine.execDroopStretchEnd m g s
  | .railWarningDip m rail depthMv => Sys2Proof.Machine.execRailWarningDip m rail depthMv s
  | .sagRecovery m rail => Sys2Proof.Machine.execSagRecovery m rail s
  | .railResetLevel m rail => Sys2Proof.Machine.execRailResetLevel m rail s
  | .pmbusAlert m words => Sys2Proof.Machine.execPmbusAlert m words s
  | .avsUpdate m demands => Sys2Proof.Machine.execAvsUpdate m demands s
  | .pmbusFailure m rail confirmedMv => Sys2Proof.Machine.execPmbusFailure m rail confirmedMv s
  | .temperatureReading m die t => Sys2Proof.Machine.execTemperatureReading m die t s
  | .shroudLinkUp m => Sys2Proof.Machine.execShroudLinkUp m s
  | .shroudLinkDown m => Sys2Proof.Machine.execShroudLinkDown m s
  | .beatSend m => Sys2Proof.Machine.execBeatSend m s
  | .helloRx m nonce cert tagOk => Sys2Proof.Machine.execHelloRx m nonce cert tagOk s
  | .shroudRekey m => Sys2Proof.Machine.execShroudRekey m s
  | .shroudPairing x => Sys2Proof.Machine.execShroudPairing x s
  | .shroudMeasurement rtt phaseNs => Sys2Proof.Machine.execShroudMeasurement rtt phaseNs s
  | .reserveDigestCompare n ds copy => Sys2Proof.Machine.execReserveDigestCompare n ds copy s
  | .reserveTrackRetry => Sys2Proof.Machine.execReserveTrackRetry s
  | .presenceBeaconSend => Sys2Proof.Machine.execPresenceBeaconSend s
  | .presenceBeaconRx m => Sys2Proof.Machine.execPresenceBeaconRx m s
  | .takeoverDelayExpiry => Sys2Proof.Machine.execTakeoverDelayExpiry s
  | .barePolesNoticeRx => Sys2Proof.Machine.execBarePolesNoticeRx s
  | .reserveTakeover => Sys2Proof.Machine.execReserveTakeover s
  | .pllLaneRelockTimeout m r => Sys2Proof.Machine.execPllLaneRelockTimeout m r s
  | .resetNRelease m => Sys2Proof.Machine.execResetNRelease m s
  | .messageWriteDone idx => Sys2Proof.Machine.execMessageWriteDone idx s
  | .tlAliveDead m => Sys2Proof.Machine.execTlAliveDead m s
  | .eyeMeasurement m l v h => Sys2Proof.Machine.execEyeMeasurement m l v h s

end Sys2Proof.Machine
end

