-- ==== Sys2Proof/Safety.lean ====
section
/-! DEFINITION. The terms the statements use: when a Halyard command is accepted and permitted (R139, R152, R153, R157,
R178 to R181), what its reply is (R158, R174, R183), and the invariant of the package: the bounds of R153, R158, R163 and
R170 on Halyard's tables and the canonical form of the scratch banks (R516). -/
namespace Sys2Proof.Machine

/-- A packet from the host reaches the command processor of its mast as a command: the mast is out of BOOT, its
transport takes commands, no case of R139 discards the packet, the session `x` is open there, SEAT is that session's,
and the host sequence is the one expected (R9, R139, R152, R153, R157). -/
structure State.Accepts (s : State) (h : Hdr) (x : Session) : Prop where
  noVault : s.md.mode ≠ .vault
  noBoot : s.md.mode ≠ .boot
  mastUp : (s.md.boot.get h.mast).phase = 0
  room : s.transportStopped h = false
  sound : (s.takeInbound h).discardCause h false = none
  session : (s.takeInbound h).findSession h = some x
  seat : h.seat = x.seat
  known : x.seat < s.hal.seats.length
  inOrder : (((s.takeInbound h).touch h).seat x.seat).classify h.hostSeq = .inOrder

/-- The state in which an accepted command is carried out: its packet has left the inbound path, its session is touched
and its host sequence accepted (R155, R157, R160). -/
def State.accepted (s : State) (h : Hdr) (x : Session) : State := ((s.takeInbound h).touch h).acceptSeq x.seat h

/-- No refusal that every opcode shares holds of an accepted command (R120, R160, R169, R178 to R181). -/
def State.Permits (s : State) (h : Hdr) (seat code : Nat) (lengthOk : Bool) : Prop :=
  ∃ row, opRow code = some row ∧ s.commonRefusals h seat row lengthOk = []

/-- The reply with `fields` fits the session's transport (R141). -/
def State.Fits (s : State) (h : Hdr) (fieldsLen : Nat) : Prop := s.tooLarge h fieldsLen = []

/-- No refusal of scheduling holds: the margins of a named step and the command queue (R61, R170). -/
def State.Schedules (s : State) (h : Hdr) (code : Nat) : Prop :=
  ∃ row, opRow code = some row ∧ s.schedRefusals h row = []

/-- The reply kept for a command that was carried out or scheduled (R158, R174, R183): status ST_OK, the step, the
tandem report as the state `s` gives it, and the fields. -/
def okReply (s : State) (h : Hdr) (code eff : Nat) (reach : Reach) (fields : List Byte) : CachedReply :=
  { hostSeq := h.hostSeq, opcode := code, flags := 0x8000 * b01 (bit h.flags 15), status := stOk, effStep := eff,
    payload := s.tandemReport (s.outcome .a reach) (s.outcome .b reach) ++ fields }

/-- A seat's sequences, ledger and kept replies may differ; its role, its limits, its certificate, its event mask and its
sticky bits do not. -/
def SeatState.SameBut (st u : SeatState) : Prop :=
  u = { st with lastHostSeq := u.lastHostSeq, devSeq := u.devSeq, ackPos := u.ackPos, accepted := u.accepted,
                cached := u.cached, ledger := u.ledger }

/-- Nothing but the seats' sequences, ledgers and kept replies, the sessions, the host ports and the counters differs
between two states: what a command that only reads, and a reply, an event or a discard, may change. -/
structure State.OnlyHalyard (s t : State) : Prop where
  rest : t = { s with hal := { s.hal with seats := t.hal.seats, sessions := t.hal.sessions }, port := t.port, ctr := t.ctr }
  seats : t.hal.seats.length = s.hal.seats.length
  each : ∀ k, (s.seat k).SameBut (t.seat k)

/-- No session is near its last sequence, so that no packet sent now closes one for SEQ_WRAP (R143). -/
def State.keysLast (s : State) : Prop := ∀ y ∈ s.hal.sessions, y.devUsed + y.hostUsed + s.hal.sessions.length + 64 < seqWrapLimit

/-- The seat's last reply. -/
def State.lastReply (s : State) (seat : Nat) : Option CachedReply := (s.seat seat).cached.getLast?

/-- A command with header `h` is carried out wherever it is accepted and `ok` holds (R168, R174): `exec` answers a next
state in which its effect has happened, nothing else has changed but what its reply changes, and the seat's last reply is
the command's own, with status ST_OK. `effect`, `fields` and `ok` take the accepted state and the seat. -/
def Carries (i : Instr) (h : Hdr) (code : Nat) (reach : Reach) (ok : State → Nat → Prop) (eff : State → Nat)
    (effect : State → Nat → State) (fields : State → Nat → List Byte) : Prop :=
  ∀ (s : State) (x : Session), s.Accepts h x → ok (s.accepted h x) x.seat →
    ∃ t, exec i s = .next t ∧ (effect (s.accepted h x) x.seat).OnlyHalyard t ∧
      t.lastReply x.seat = some (okReply (effect (s.accepted h x) x.seat) h code (eff (s.accepted h x)) reach
        (fields (s.accepted h x) x.seat))

/-- A READ is answered and changes nothing else (R168). -/
def AnswersRead (i : Instr) (h : Hdr) (code : Nat) (reach : Reach) (lengthOk : Bool) (len : State → Nat) (ok : State → Prop)
    (fields : State → Nat → List Byte) : Prop :=
  Carries i h code reach (fun a n => a.Permits h n code lengthOk ∧ a.Fits h (len a) ∧ ok a) (fun a => a.step)
    (fun a _ => a) fields

/-- An IMMEDIATE command acts at once (R168). -/
def ActsAtOnce (i : Instr) (h : Hdr) (code : Nat) (reach : Reach) (lengthOk : Bool) (len : Nat) (ok : State → Nat → Prop)
    (effect : State → Nat → State) (fields : State → Nat → List Byte) : Prop :=
  Carries i h code reach (fun a n => a.Permits h n code lengthOk ∧ a.Fits h len ∧ ok a n) (fun a => a.step) effect fields

/-- The command queued last in `q` is answered as R63 says: where the Captain sends commits it owes its reply, no seat keeps a
further one and nothing else changes; where the Captain alone schedules, `t` is `q` answered with status ST_OK. -/
def Answered (q t : State) (h : Hdr) (seat code eff : Nat) (reach : Reach) (fields : List Byte) : Prop :=
  if q.commits then
    (q.owing { flags := 0x8000 * b01 (bit h.flags 15), reach := reach, fields := fields }).OnlyHalyard t ∧
      ∀ k, t.lastReply k = q.lastReply k
  else q.OnlyHalyard t ∧ t.lastReply seat = some (okReply q h code eff reach fields)

/-- A SCHEDULED command is queued, after `prep`, for the step `eff` that its reply reports, and answered as R63 says (R60, R168
to R171). -/
def QueuesUp (i : Instr) (h : Hdr) (p : List Byte) (code : Nat) (lengthOk : Bool) (ok : State → Nat → Prop) (eff aux : State → Nat)
    (prep : State → Nat → State) (fields : State → Nat → List Byte) : Prop :=
  ∀ (s : State) (x : Session), s.Accepts h x →
    (s.accepted h x).Permits h x.seat code lengthOk ∧ (s.accepted h x).Schedules h code ∧ ok (s.accepted h x) x.seat →
    ∃ t, exec i s = .next t ∧
      Answered ((prep (s.accepted h x) x.seat).queued code p x.seat h.hostSeq (eff (s.accepted h x)) (aux (s.accepted h x)))
        t h x.seat code (eff (s.accepted h x)) (schedReach code p) (fields (s.accepted h x) x.seat)

/-- The command brings the package from `s` to `u`; besides that, only events, replies and counters happen. -/
def Brings (c : Instr) (s u : State) : Prop := ∃ t, exec c s = .next t ∧ u.OnlyHalyard t

/-- The header and the opcode of a command that comes as a Halyard packet with an opcode of the table and into an open
session (R139, R178). -/
def halyardOf : Instr → Option (Hdr × Nat)
  | .sessionClose h .. => some (h, 0x0103)
  | .sessionStatus h .. => some (h, 0x0104)
  | .sessionEvents h .. => some (h, 0x0105)
  | .ledgerRead h .. => some (h, 0x0106)
  | .identGet h .. => some (h, 0x0201)
  | .capsGet h .. => some (h, 0x0202)
  | .lockoutRecordGet h .. => some (h, 0x0203)
  | .modeGet h .. => some (h, 0x0301)
  | .modeSet h .. => some (h, 0x0302)
  | .reset h .. => some (h, 0x0303)
  | .rigLoad h .. => some (h, 0x0401)
  | .rigVerify h .. => some (h, 0x0402)
  | .tack h .. => some (h, 0x0403)
  | .rigDiscard h .. => some (h, 0x0404)
  | .rigStatus h .. => some (h, 0x0405)
  | .rigLatency h .. => some (h, 0x0406)
  | .paramSet h .. => some (h, 0x0501)
  | .paramGet h .. => some (h, 0x0502)
  | .sceneRecall h .. => some (h, 0x0503)
  | .rampDefaultSet h .. => some (h, 0x0504)
  | .rampStatus h .. => some (h, 0x0505)
  | .aesConfig h .. => some (h, 0x0601)
  | .audioStatus h .. => some (h, 0x0602)
  | .commonStart h .. => some (h, 0x0603)
  | .streamRxSet h .. => some (h, 0x0604)
  | .streamTxSet h .. => some (h, 0x0605)
  | .patchSet h .. => some (h, 0x0606)
  | .hostAudioSet h .. => some (h, 0x0607)
  | .sdiAudioSet h .. => some (h, 0x0608)
  | .sidetoneSet h .. => some (h, 0x0609)
  | .xptSwitch h .. => some (h, 0x0701)
  | .xptSalvo h .. => some (h, 0x0702)
  | .xptStatus h .. => some (h, 0x0703)
  | .flowRxSet h .. => some (h, 0x0704)
  | .flowTxSet h .. => some (h, 0x0705)
  | .flowRead h .. => some (h, 0x0706)
  | .timebaseStatus h .. => some (h, 0x0801)
  | .referenceStatus h .. => some (h, 0x0802)
  | .timingHistory h .. => some (h, 0x0803)
  | .ptpStatus h .. => some (h, 0x0804)
  | .realign h .. => some (h, 0x0805)
  | .tandemStatus h .. => some (h, 0x0901)
  | .tandemSwap h .. => some (h, 0x0902)
  | .digestStatus h .. => some (h, 0x0903)
  | .shroudStatus h .. => some (h, 0x0904)
  | .faultLogRead h .. => some (h, 0x0A01)
  | .faultAck h .. => some (h, 0x0A02)
  | .counterRead h .. => some (h, 0x0A03)
  | .snapshot h .. => some (h, 0x0A04)
  | .snapshotRead h .. => some (h, 0x0A05)
  | .health h .. => some (h, 0x0A06)
  | .bankGive h .. => some (h, 0x0B01)
  | .bankRead h .. => some (h, 0x0B02)
  | .bankWrite h .. => some (h, 0x0B03)
  | .marchRun h .. => some (h, 0x0B04)
  | .loopbackSet h .. => some (h, 0x0B05)
  | .testRouteSet h .. => some (h, 0x0B06)
  | .repairMapRead h .. => some (h, 0x0B07)
  | .lifecycleGet h .. => some (h, 0x0C01)
  | .certRead h .. => some (h, 0x0C02)
  | .ownerEnrol h .. => some (h, 0x0C03)
  | .imageLoad h .. => some (h, 0x0C04)
  | .profileApply h .. => some (h, 0x0C05)
  | .firmwareApply h .. => some (h, 0x0C06)
  | .lifecycleSet h .. => some (h, 0x0C07)
  | .keyProvision h .. => some (h, 0x0C08)
  | .rtcSet h .. => some (h, 0x0C09)
  | .alarmActivate h .. => some (h, 0x0D01)
  | .alarmClear h .. => some (h, 0x0D02)
  | .alarmStatus h .. => some (h, 0x0D03)
  | .messageLoad h .. => some (h, 0x0D04)
  | .messageList h .. => some (h, 0x0D05)
  | .alarmInputStatus h .. => some (h, 0x0D06)
  | .fallbackTest h .. => some (h, 0x0D07)
  | _ => none

/-- The bounds on Halyard's tables: eight seats (R153), at most 4,096 ledger entries and 64 kept replies a seat (R158,
R163), at most 1,024 scheduled commands (R170). -/
def Halyard.wf (x : Halyard) : Bool :=
  decide (x.seats.length = 8) && x.seats.all (fun st => decide (st.ledger.length ≤ Config.ledgerEntries) &&
    decide (st.cached.length ≤ 64)) && decide (x.sched.length ≤ Config.schedLimit)

/-- Sixteen scratch banks on each mast, each with its bytes in canonical form (R516). -/
def banksWf (x : MemMast) : Bool := decide (x.banks.length = 16) && x.wf

/-- The invariant of the package. -/
def State.Inv (s : State) : Prop := s.hal.wf = true ∧ banksWf s.mem.a = true ∧ banksWf s.mem.b = true

/-- The bits of a line without the bits that stuffing has put in: after a run of 24 the next bit is dropped, and begins a run
of one (R404). The state is the last line bit and the run's count. -/
def unstuff : List Bool → Bool → Nat → List Bool
  | [], _, _ => []
  | b :: rest, last, c => if c = 24 then unstuff rest b 1 else b :: unstuff rest b (if b = last then c + 1 else 1)

/-! ### What a command may change -/

/-- The parts of the state that some command changes: every field but the queue and the variant. -/
inductive Part where
  | now
  | step
  | freeCount
  | hal
  | port
  | md
  | tan
  | flt
  | ctr
  | snap
  | sec
  | rigs
  | dp
  | aud
  | vid
  | lan
  | tim
  | clk
  | ptp
  | sup
  | mem
  | alm
  | alarm
  | jobs
  | handovers
  | tests
  deriving DecidableEq, Repr

/-- Every part. -/
def Part.every : List Part :=
  [.now, .step, .freeCount, .hal, .port, .md, .tan, .flt, .ctr, .snap, .sec, .rigs, .dp, .aud, .vid, .lan, .tim, .clk, .ptp,
   .sup, .mem, .alm, .alarm, .jobs, .handovers, .tests]

/-- Every part but those named. -/
def Part.allBut (l : List Part) : List Part := Part.every.filter (fun p => !l.contains p)

/-- A part is the same in two states. -/
def Part.Same (s t : State) : Part → Prop
  | .now => t.now = s.now
  | .step => t.step = s.step
  | .freeCount => t.freeCount = s.freeCount
  | .hal => t.hal = s.hal
  | .port => t.port = s.port
  | .md => t.md = s.md
  | .tan => t.tan = s.tan
  | .flt => t.flt = s.flt
  | .ctr => t.ctr = s.ctr
  | .snap => t.snap = s.snap
  | .sec => t.sec = s.sec
  | .rigs => t.rigs = s.rigs
  | .dp => t.dp = s.dp
  | .aud => t.aud = s.aud
  | .vid => t.vid = s.vid
  | .lan => t.lan = s.lan
  | .tim => t.tim = s.tim
  | .clk => t.clk = s.clk
  | .ptp => t.ptp = s.ptp
  | .sup => t.sup = s.sup
  | .mem => t.mem = s.mem
  | .alm => t.alm = s.alm
  | .alarm => t.alarm = s.alarm
  | .jobs => t.jobs = s.jobs
  | .handovers => t.handovers = s.handovers
  | .tests => t.tests = s.tests

/-- What the acceptance of a packet, a reply, an event and a discard may change: Halyard's tables, the host ports and the
counters. -/
def replies : List Part := [.hal, .port, .ctr]

/-- What a report to the fault collector may change: at Reef 3 and at bare poles nearly everything, but never time, the
snapshots, the security state or the alarm streams and messages. -/
def collector : List Part := Part.allBut [.now, .step, .freeCount, .snap, .sec, .alarm]

/-- The parts that a command may change; it leaves every other part as it was. -/
def mayChange : Instr → List Part
  | .sessionOpen .. | .health .. => replies ++ [.freeCount]
  | .sessionConfirm .. | .remapWrite .. | .watchdogExpiry .. | .bootFailure .. | .lateWake .. | .alarmInputDebounced ..
  | .alarmTestPulse .. | .stepFailure .. | .digestCompare .. | .singleHomedChange .. | .fabricOverload
  | .cellCrcMismatch .. | .laneLos .. | .laneLol .. | .laneErrorBurst .. | .laneSelfTestResult ..
  | .laneBringupTimeout .. | .laneAligned .. | .stayLinkDown .. | .stayRejoinTimer | .faultReport .. | .takeCaptain ..
  | .steerReadbackFault .. | .joinHoldExpiry .. | .targetedTestResult .. | .scrubRead .. | .fallbackMemoryCheck ..
  | .otpRepairWrite .. | .writeHoldoffEnd .. | .marchDone .. | .telltaleWindowEnd .. | .candidateAbsent ..
  | .holdoverLimit .. | .xoCheck .. | .jumpDecision .. | .pllLoss .. | .derailleurHang .. | .forcedClosureTimeout ..
  | .forcedClosureRetry .. | .frequencyMeasurement .. | .droopTrip .. | .sagRecovery .. | .railResetLevel ..
  | .pmbusFailure .. | .shroudLinkDown .. | .pllLaneRelockTimeout .. => collector
  | .sessionClose .. | .sessionStatus .. | .sessionEvents .. | .ledgerRead .. | .identGet .. | .capsGet ..
  | .lockoutRecordGet .. | .modeGet .. | .modeSet .. | .reset .. | .rigStatus .. | .rigLatency .. | .paramSet ..
  | .paramGet .. | .sceneRecall .. | .rampDefaultSet .. | .rampStatus .. | .aesConfig .. | .audioStatus ..
  | .commonStart .. | .streamRxSet .. | .streamTxSet .. | .patchSet .. | .hostAudioSet .. | .sdiAudioSet ..
  | .sidetoneSet .. | .xptStatus .. | .flowRxSet .. | .flowTxSet .. | .flowRead .. | .timebaseStatus ..
  | .referenceStatus .. | .timingHistory .. | .ptpStatus .. | .realign .. | .tandemStatus .. | .tandemSwap ..
  | .digestStatus .. | .shroudStatus .. | .faultLogRead .. | .counterRead .. | .snapshotRead .. | .testRouteSet ..
  | .repairMapRead .. | .lifecycleGet .. | .certRead .. | .alarmActivate .. | .alarmClear .. | .alarmStatus ..
  | .messageList .. | .alarmInputStatus .. | .unknownOpcode .. => replies
  | .rigLoad .. | .rigVerify .. | .tack .. | .rigDiscard .. => replies ++ [.rigs]
  | .xptSwitch .. | .xptSalvo .. => replies ++ [.vid, .jobs]
  | .faultAck .. | .logWrite .. => replies ++ [.flt]
  | .snapshot .. => replies ++ [.snap]
  | .bankGive .. => replies ++ [.handovers]
  | .bankHandover .. => replies ++ [.flt, .mem, .handovers]
  | .bankRead .. | .bankWrite .. | .marchRun .. => replies ++ [.mem]
  | .loopbackSet .. => replies ++ [.aud, .vid, .lan, .clk]
  | .ownerEnrol .. | .lifecycleSet .. => replies ++ [.md, .sec]
  | .imageLoad .. | .profileApply .. | .firmwareApply .. => replies ++ [.sec]
  | .keyProvision .. => replies ++ [.md, .lan, .alarm]
  | .rtcSet .. => replies ++ [.md]
  | .messageLoad .. | .fallbackTest .. => replies ++ [.alarm]
  | .fallbackTestDone | .alarmStreamSilence .. => [.hal, .port, .alarm]
  | .halyardPacketDiscard .. | .commandDescriptorDone .. | .pcieReset .. | .cspWrite .. | .cspFramingDiscard ..
  | .transportEngineReset .. | .mgmtServiceFrame .. => [.port, .ctr]
  | .sessionIdleTimeout => [.hal, .port]
  | .loadTimeout .. => [.hal, .rigs]
  | .cmdTailDoorbell .. | .replyTailDoorbell .. | .replyPacketWrite .. | .ringEnableWrite .. | .intStatusClear ..
  | .intEnableWrite .. | .msixHoldoffExpiry .. | .windowHighHalfLatch .. | .windowRegisterWrite .. | .cspRead ..
  | .cspStatus .. => [.port]
  | .powerGood .. | .mainPowerLoss | .lifecycleReset => collector ++ [.snap, .sec, .alarm]
  | .bootPhaseComplete .. => collector ++ [.step, .sec]
  | .bootEnd | .wakeStep => collector ++ [.step]
  | .resetNAssert .. => collector ++ [.freeCount, .snap, .sec, .alarm]
  | .tamperTrip .. | .temperatureReading .. => collector ++ [.sec, .alarm]
  | .imageWriteDone .. => [.hal, .port, .sec]
  | .watchFadeEnd => [.step, .hal, .port, .md, .ctr, .rigs, .dp, .aud, .vid, .lan, .clk, .sup]
  | .onBattChange .. => [.hal, .port, .md]
  | .shedStep => replies ++ [.step, .md, .tan, .vid, .lan, .clk, .jobs]
  | .restoreStep => replies ++ [.step, .md, .tan, .rigs, .dp, .vid, .lan, .clk]
  | .alarmInputSample .. => [.alm]
  | .alarmInputAction .. => Part.allBut [.now, .freeCount, .tan, .snap, .sec, .tim, .ptp, .handovers]
  | .alarmInputSolo .. => Part.allBut [.now, .freeCount, .snap, .sec, .tim, .ptp, .handovers]
  | .messagePlayBoundary .. => Part.allBut [.now, .freeCount, .tan, .snap, .sec, .tim, .ptp, .alm, .handovers]
  | .messageChunkFailure .. | .messageStoreCheck .. => collector ++ [.alarm]
  | .alarmStreamMessage .. => replies ++ [.md, .vid, .alm, .alarm]
  | .stepBoundary .. | .realignResume .. => collector ++ [.now, .step, .snap, .sec, .alarm]
  | .preStartPulse | .pllGraceEnd .. | .pllRelock .. | .freewheelClose .. => [.clk]
  | .rampEnd => [.dp]
  | .digestReceived .. | .stayLinkUp | .slotPreloadEnd | .presenceBeaconSend | .presenceBeaconRx ..
  | .takeoverDelayExpiry | .barePolesNoticeRx => [.tan]
  | .effectiveStepApply | .realignEffective .. => collector ++ [.step, .snap, .sec, .alarm]
  | .commitReceived .. => [.hal, .port, .tan, .snap, .rigs, .vid, .jobs]
  | .tackEnd => [.hal, .port, .rigs, .dp]
  | .rigVerifyDone .. => [.hal, .port, .rigs]
  | .snapshotEvent => [.hal, .port, .snap]
  | .healthEvent => [.freeCount, .hal, .port]
  | .audioPacketRx .. => replies ++ [.aud, .vid]
  | .packetExpectedTimeout .. | .aes3InputLock .. => [.aud]
  | .gapNoticeRx .. => [.aud, .vid, .lan]
  | .forwardedPacketRx .. => replies ++ [.aud]
  | .packetDeadline .. | .sdiAudioPacket .. => replies ++ [.tan, .aud]
  | .audioPortEventDeferred .. | .asrcLock .. | .aes3InputUnlock .. => [.hal, .port, .aud]
  | .aes3FrameRx .. | .captureAssignmentRx .. => [.tan, .ctr, .aud]
  | .asrcEstimateRx .. => [.tan, .aud]
  | .videoPacketRx .. => [.ctr, .vid, .lan]
  | .flowMissEvent .. => [.hal, .port, .vid]
  | .flowUnrepaired .. => replies ++ [.vid]
  | .membershipQuery .. => [.vid, .lan]
  | .formatRecognised .. | .arrivalMeasurement .. | .sourceChange .. => [.ctr, .vid]
  | .switchFinalDecision .. => [.vid, .jobs]
  | .stokerOwnSwitchDecision .. => [.tan, .vid]
  | .switchPoint .. => [.ctr, .vid, .jobs]
  | .markerSend .. => [.freeCount, .ctr, .lan]
  | .containerRx .. | .tandemBlockRx .. | .eyeMeasurement .. => [.ctr, .lan]
  | .containerSeqSkip .. | .tandemBlockSend .. | .beatSend .. => [.lan]
  | .stayArbitration | .abruptTakeover .. => collector ++ [.snap]
  | .releaseDrivers .. => Part.allBut [.now, .step, .freeCount, .sec, .alarm, .tests]
  | .copyPassEnd .. => [.hal, .md, .tan, .dp, .aud, .vid, .tim, .alm]
  | .joinStep => [.md, .tan, .dp, .aud, .vid, .tim, .alm]
  | .stokerRejoin => Part.allBut [.now, .step, .freeCount, .snap, .sec, .rigs, .alarm, .jobs, .tests]
  | .burstClose .. => [.flt, .ctr]
  | .rowCopyEnd .. => [.flt]
  | .timebaseLocked .. => replies ++ [.md, .tim]
  | .xoCalibrationUpdate .. => [.ctr, .tim]
  | .phaseMarker .. => [.tim]
  | .ptpMessageRx .. => [.freeCount, .ctr, .lan, .ptp]
  | .syncPairTimeout .. => [.ctr, .ptp]
  | .delayReqSend .. => [.lan, .ptp]
  | .ptpOffsetSecond .. => [.tim, .ptp]
  | .rtcUpdate => [.md, .tim]
  | .syncDivEdge .. | .droopStretchEnd .. => [.ctr, .clk]
  | .railWarningDip .. => [.clk, .sup]
  | .pmbusAlert .. | .avsUpdate .. => [.sup]
  | .shroudLinkUp .. => [.tan, .lan]
  | .helloRx .. | .shroudRekey .. => [.freeCount, .lan]
  | .shroudPairing .. | .shroudMeasurement .. | .reserveTrackRetry => [.hal, .port, .tan]
  | .reserveDigestCompare .. => [.hal, .port, .md, .tan, .rigs, .dp, .aud, .vid, .alm]
  | .reserveTakeover => [.step, .hal, .port, .tan]
  | .resetNRelease .. => [.md]
  | .messageWriteDone .. => [.alarm]
  | .tlAliveDead .. => [.md, .tan]

end Sys2Proof.Machine
end

