-- ==== Sys2Proof/Certificates/Slice0/Obligations.lean ====
section
/-! DEFINITION. The statements put to the provers: for every command where it completes and what it leaves unchanged, the
invariant that every step keeps, and rules of the spec over the whole machine. -/
open Sys2Proof Sys2Proof.Machine Host

/-! ### The queue, reset and the invariant -/

/-- A step takes the command at the front of the queue and is `exec` of it on the state with the queue's rest; on an empty
queue the block idles (log entry 17). -/
def Obligations.StepRunsTheFront : Prop :=
  (∀ (c : Instr) (rest : List Instr) (s : State), s.pending = c :: rest → step s = exec c { s with pending := rest }) ∧
  (∀ s : State, s.pending = [] → step s = .next s)

/-- Every step keeps the invariant: eight seats, the bounds of ledgers, kept replies and the command queue, and every
scratch bank in canonical form. -/
def Obligations.StepKeepsInv : Prop := ∀ s t : State, s.Inv → step s = .next t → t.Inv

/-- The invariant holds at reset. -/
def Obligations.ResetInv : Prop := State.reset.Inv

/-- Every command completes: whatever the state, `exec` of it answers a next state, in which the queue and the variant are
as they were, and every part of the state that `mayChange` does not name for it: no report, no reply, no role change and no
step of one unit reaches further than that. -/
def Obligations.CommandsLeaveTheRest : Prop :=
  ∀ (c : Instr) (s : State), ∃ t, exec c s = .next t ∧ t.pending = s.pending ∧ t.variant = s.variant ∧
    ∀ p, p ∉ mayChange c → p.Same s t

/-! ### Halyard: reads (R168, R183, R184) -/

/-- SESSION_STATUS, IDENT_GET, CAPS_GET, LOCKOUT_RECORD_GET, LIFECYCLE_GET and CERT_READ answer with their records.
MODE_GET, RIG_STATUS, RIG_LATENCY, PARAM_GET and RAMP_STATUS answer with their records. -/
def Obligations.RecordsAreRead : Prop :=
  (∀ (h : Hdr) (p : List Byte),
   AnswersRead (.sessionStatus h p) h 0x0104 .package (p.length == 0) (fun _ => 20) (fun _ => True)
     (fun a n => be 4 (a.seat n).lastHostSeq ++ be 4 (a.seat n).ackPos ++ be 4 (a.seat n).nextDev ++ be 4 (a.seat n).oldestAfter ++
       be 4 (a.sessionAge n)) ∧
   AnswersRead (.identGet h p) h 0x0201 .package (p.length == 0) (fun _ => 144) (fun _ => True) (fun a _ => a.ident) ∧
   AnswersRead (.capsGet h p) h 0x0202 .package (p.length == 0) (fun _ => 64) (fun _ => True) (fun a _ => a.caps) ∧
   AnswersRead (.lockoutRecordGet h p) h 0x0203 .package (p.length == 0) (fun _ => 152) (fun _ => True) (fun a _ => a.lockoutBytes) ∧
   AnswersRead (.lifecycleGet h p) h 0x0C01 .package (p.length == 0) (fun _ => 8) (fun _ => True)
     (fun a _ => be 1 a.sec.lifecycle ++ be 1 (b01 (!a.sec.ownerKey.isEmpty)) ++ be 1 a.filledSlots ++ zeros 1 ++ be 4 a.sec.rollback) ∧
   AnswersRead (.certRead h p) h 0x0C02 .package (p.length == 8) (fun _ => fld p 4 4)
     (fun a => fld p 0 4 + fld p 4 4 ≤ a.sec.certChain.length) (fun a _ => (a.sec.certChain.drop (fld p 0 4)).take (fld p 4 4))) ∧
  (∀ (h : Hdr) (p : List Byte),
   AnswersRead (.modeGet h p) h 0x0301 .package (p.length == 0) (fun _ => 12) (fun _ => True)
     (fun a _ => be 1 a.md.mode.code ++ be 1 a.md.base.code ++ be 1 (b01 a.md.onBatt.a + 2 * b01 a.md.onBatt.b) ++
       be 1 (b01 a.md.shed.inForce) ++ be 8 a.md.modeStep) ∧
   AnswersRead (.rigStatus h p) h 0x0405 .package (p.length == 0) (fun _ => 32) (fun _ => True) (fun a _ => a.rigStatus) ∧
   AnswersRead (.rigLatency h p) h 0x0406 .package (p.length == 12) (fun _ => 8) (fun a => a.latencyRefusals p = [])
     (fun a _ => a.latencyPage h p) ∧
   AnswersRead (.paramGet h p) h 0x0502 .package (p.length == 8) (fun _ => 8) (fun _ => fld p 4 2 ≠ 0 ∧ fld p 6 2 = 0)
     (fun a _ => a.paramPage h p) ∧
   AnswersRead (.rampStatus h p) h 0x0505 .package (p.length == 0) (fun _ => 64) (fun _ => True) (fun a _ => a.rampCounts))

/-- AUDIO_STATUS, XPT_STATUS and FLOW_READ answer with their pages. TIMEBASE_STATUS, REFERENCE_STATUS, PTP_STATUS,
TANDEM_STATUS, DIGEST_STATUS and SHROUD_STATUS answer with their records. -/
def Obligations.MediaAndTimingReads : Prop :=
  (∀ (h : Hdr) (p : List Byte),
   AnswersRead (.audioStatus h p) h 0x0602 .perMast (p.length == 12) (fun a => 16 * a.serving)
     (fun _ => fld p 0 1 ≤ 3 ∧ fld p 1 3 = 0 ∧ fld p 8 2 ≠ 0 ∧ fld p 10 2 = 0) (fun a _ => a.audioPage h p) ∧
   AnswersRead (.xptStatus h p) h 0x0703 .package (p.length == 8) (fun _ => 8)
     (fun a => Config.hasVideo a.variant = true ∧ fld p 4 2 ≠ 0 ∧ fld p 6 2 = 0)
     (fun a _ => pageBytes (fld p 0 4) (fld p 4 2) (a.fitting h 8 8) 1536 a.xptItem) ∧
   AnswersRead (.flowRead h p) h 0x0706 .perMast (p.length == 8) (fun a => 16 * a.serving)
     (fun _ => fld p 4 2 ≠ 0 ∧ fld p 6 2 = 0) (fun a _ => a.flowPage h p)) ∧
  (∀ (h : Hdr) (p : List Byte),
   AnswersRead (.timebaseStatus h p) h 0x0801 .perMast (p.length == 0) (fun a => 8 + 128 * a.serving) (fun _ => True)
     (fun a _ => a.perMast (fun m => ((List.range 4).map (a.tbStatus m)).flatten)) ∧
   AnswersRead (.referenceStatus h p) h 0x0802 .perMast (p.length == 8) (fun a => 16 * a.serving)
     (fun _ => fld p 4 2 ≠ 0 ∧ fld p 6 2 = 0) (fun a _ => a.referencePage h p) ∧
   AnswersRead (.ptpStatus h p) h 0x0804 .perMast (p.length == 0) (fun a => 8 + 192 * a.serving) (fun _ => True)
     (fun a _ => a.perMast (fun m => ((List.range 4).map (a.ptpItem m)).flatten)) ∧
   AnswersRead (.tandemStatus h p) h 0x0901 .package (p.length == 0) (fun _ => 16) (fun _ => True)
     (fun a _ => be 1 (a.stayAligned .a) ++ be 1 (a.stayAligned .b) ++ be 2 (a.joinsLately .a) ++ be 2 (a.joinsLately .b) ++
       be 1 a.tan.lastCause ++ zeros 1 ++ be 8 a.tan.lastSwitchStep) ∧
   AnswersRead (.digestStatus h p) h 0x0903 .perMast (p.length == 0) (fun a => 8 + 96 * a.serving) (fun _ => True)
     (fun a _ => a.perMast a.digestCounts) ∧
   AnswersRead (.shroudStatus h p) h 0x0904 .package (p.length == 0) (fun _ => 12) (fun _ => True)
     (fun a _ => be 1 (b01 a.tan.pairing.paired) ++ be 1 a.tan.pairing.reason ++ be 1 a.tan.pairing.tracking ++
       be 1 a.tan.pairing.fence ++ be 2 a.tan.pairing.rtt ++ zeros 2 ++ be 4 a.tan.pairing.beacons))

/-- FAULT_LOG_READ, COUNTER_READ, REPAIR_MAP_READ, BANK_READ, ALARM_STATUS, MESSAGE_LIST and ALARM_INPUT_STATUS answer with
their records; HEALTH does, and draws four free values for figures that the spec does not fix (log entry 1). SNAPSHOT_READ
answers from the latest frozen set, whose EPOCH it names, with the OUTCOME of each mast's set. TIMING_HISTORY answers with
the seat's own copies of the sticky bits and clears them, and nothing else. -/
def Obligations.RecordReadsAnswer : Prop :=
  (∀ (h : Hdr) (p : List Byte),
   AnswersRead (.faultLogRead h p) h 0x0A01 .perMast (p.length == 8) (fun a => 8 + 8 * a.serving)
     (fun _ => fld p 4 2 ≠ 0 ∧ fld p 6 2 = 0) (fun a _ => a.logPage h p) ∧
   AnswersRead (.counterRead h p) h 0x0A03 .perMast (p.length == 8) (fun a => 8 + 8 * a.serving)
     (fun _ => fld p 4 2 ≠ 0 ∧ fld p 6 2 = 0) (fun a _ => a.counterPage h p) ∧
   AnswersRead (.repairMapRead h p) h 0x0B07 .perMast (p.length == 8) (fun a => 8 + 8 * a.serving)
     (fun _ => fld p 4 2 ≠ 0 ∧ fld p 6 2 = 0) (fun a _ => a.repairPage h p) ∧
   Carries (.bankRead h p) h 0x0B02 (.readOf (fld p 0 1))
     (fun a n => a.Permits h n 0x0B02 (p.length == 12) ∧ a.Fits h (a.readLength p) ∧ a.accessRefusals p = []) (fun a => a.step)
     (fun a _ => a.bankFetch p)
     (fun a _ => (List.range (a.readLength p)).map (fun k =>
       cellRead (a.bank (Mast.ofCode (fld p 0 1)) (fld p 1 1)).data (fld p 4 4 + k))) ∧
   AnswersRead (.alarmStatus h p) h 0x0D03 .package (p.length == 8) (fun _ => 72)
     (fun _ => fld p 4 2 ≠ 0 ∧ fld p 6 2 = 0) (fun a _ => a.alarmPage h p) ∧
   AnswersRead (.messageList h p) h 0x0D05 .package (p.length == 0) (fun _ => 1024) (fun _ => True)
     (fun a _ => (a.alarm.messages.map Message.bytes).flatten) ∧
   AnswersRead (.alarmInputStatus h p) h 0x0D06 .perMast (p.length == 0) (fun a => 8 + 64 * a.serving) (fun _ => True)
     (fun a _ => a.perMast (fun m => ((List.range 8).map (a.alarmInputBytes m)).flatten)) ∧
   Carries (.health h p) h 0x0A06 .perMast
     (fun a n => a.Permits h n 0x0A06 (p.length == 0) ∧ a.Fits h (8 + 384 * a.serving)) (fun a => a.step)
     (fun a _ => { a with freeCount := a.freeCount + 4 }) (fun a _ => a.perMast a.healthRecord)) ∧
  (∀ (h : Hdr) (p : List Byte) (s : State) (x : Session), s.Accepts h x →
     let a := s.accepted h x
     a.Permits h x.seat 0x0A05 (p.length == 12) → a.Fits h (8 + 8 * a.snapBlocks) →
     fld p 8 2 ≠ 0 → fld p 10 2 = 0 → a.latestEpoch ≠ 0 → fld p 0 4 = a.latestEpoch →
     ∃ t, exec (.snapshotRead h p) s = .next t ∧ s.OnlyHalyard t ∧
       t.lastReply x.seat = some
         { hostSeq := h.hostSeq, opcode := 0x0A05, flags := 0x8000 * b01 (bit h.flags 15), status := stOk, effStep := s.step,
           payload := a.tandemReport (a.snapOutcome .a) (a.snapOutcome .b) ++ (a.snapBlock h p .a ++ a.snapBlock h p .b) }) ∧
  (∀ (h : Hdr) (p : List Byte),
     ActsAtOnce (.timingHistory h p) h 0x0803 .package (p.length == 0) 8 (fun _ _ => True)
       (fun a n => a.setSeat n { a.seat n with stickyAudio := 0, stickyVideo := 0 })
       (fun a n => be 4 (a.seat n).stickyAudio ++ be 4 (a.seat n).stickyVideo))

/-! ### Halyard: sessions -/

/-- LEDGER_READ is answered with the ledger's bounds and the number of records that follow; ST_LEDGER_GAP where the sequence
asked for has been overwritten (R165, R166). SESSION_EVENTS sets the seat's event mask, nothing else of it, and answers with
the mask before; SESSION_CLOSE answers, and no session of the seat is left. -/
def Obligations.LedgerAndSessionCommands : Prop :=
  (∀ (h : Hdr) (p : List Byte) (s : State) (x : Session), s.Accepts h x →
     let a := s.accepted h x
     let st := a.seat x.seat
     let span (u v : Nat) : Nat := (u + 2 ^ 32 - v) % 2 ^ 32
     let held := span (fld p 0 4) st.oldestAfter < span st.nextDev st.oldestAfter
     let first := if held then fld p 0 4 else st.oldestAfter
     a.Permits h x.seat 0x0106 (p.length == 8) → a.Fits h 16 → fld p 4 2 ≠ 0 → fld p 4 2 ≤ 4096 → fld p 6 2 = 0 →
     (span (fld p 0 4) st.devSeq = 0 ∨ 2 ^ 31 ≤ span (fld p 0 4) st.devSeq) →
     ∃ t, exec (.ledgerRead h p) s = .next t ∧ s.OnlyHalyard t ∧
       t.lastReply x.seat = some
         { hostSeq := h.hostSeq, opcode := 0x0106, flags := 0x8000 * b01 (bit h.flags 15),
           status := if held ∨ (span st.nextDev st.oldestAfter = 0 ∧ fld p 0 4 = st.oldestAfter) then stOk else stLedgerGap,
           effStep := s.step,
           payload := a.tandemReport (a.outcome .a .package) (a.outcome .b .package) ++
             (be 4 st.oldestAfter ++ be 4 first ++ be 4 (span st.nextDev 1) ++
               be 4 (min (fld p 4 2) (span st.nextDev first))) }) ∧
  (∀ (h : Hdr) (p : List Byte),
     ActsAtOnce (.sessionEvents h p) h 0x0105 .package (p.length == 4) 4
       (fun _ _ => bit (fld p 0 2) 15 = false ∧ bit (fld p 0 2) 14 = false ∧ bit (fld p 0 2) 0 = false ∧ fld p 2 2 = 0)
       (fun a n => a.setSeat n { a.seat n with eventMask := fld p 0 2 }) (fun a n => be 2 (a.seat n).eventMask ++ zeros 2) ∧
     (∀ (s : State) (x : Session), s.Accepts h x → (s.accepted h x).Permits h x.seat 0x0103 (p.length == 0) →
       ∃ t, exec (.sessionClose h p) s = .next t ∧ s.OnlyHalyard t ∧
         t.lastReply x.seat = some (okReply (s.accepted h x) h 0x0103 s.step .package []) ∧ ∀ y ∈ t.hal.sessions, y.seat ≠ x.seat))

/-- A SESSION_OPEN that passes every check of R565 leaves one pending session of its seat, on the transport it came by, with
an id that is not zero, and answers unsequenced with ST_OK (R144, R154, R187). A SESSION_CONFIRM of a pending session opens
it and is answered, sequenced, with ST_OK (R154, R188). -/
def Obligations.SessionsOpen : Prop :=
  (∀ (h : Hdr) (p : List Byte) (f : OpenFacts) (s : State),
     s.md.mode ≠ .vault → s.md.mode ≠ .boot → (s.md.boot.get h.mast).phase = 0 → s.transportStopped h = false →
     h.magic = 0xE5A1 → h.version = 1 → h.kind = 1 → 56 + h.payloadLen ≤ (s.takeInbound h).packetLimit h.mast h.transport h.ipv6 →
     h.wireLen = 56 + h.payloadLen → s.serves h.mast = true → (s.takeInbound h).openStatus h p f = stOk →
     ∃ t x, exec (.sessionOpen h p f) s = .next t ∧ t.hal.sessions.filter (fun y => y.seat == h.seat) = [x] ∧
       x.pending = true ∧ x.mast = h.mast ∧ x.transport = h.transport ∧ x.id ≠ 0 ∧ x.openedAt = s.now ∧
       (((t.port.get h.mast).outQ h.transport).getLast?.map (fun q => (q.kind, q.opcode, q.status, q.devSeq, q.session))) =
         some (2, 0x0101, stOk, 0, 0) ∧
       (∀ k, (s.seat k).SameBut (t.seat k)) ∧
       t = { s with hal := { s.hal with seats := t.hal.seats, sessions := t.hal.sessions }, port := t.port, ctr := t.ctr,
                    freeCount := t.freeCount }) ∧
  (∀ (h : Hdr) (p : List Byte) (s : State) (x : Session),
     s.md.mode ≠ .vault → s.md.mode ≠ .boot → (s.md.boot.get h.mast).phase = 0 → s.transportStopped h = false →
     (s.takeInbound h).discardCause h true = none → (s.takeInbound h).findSession h = some x → x.pending = true →
     h.seat = x.seat → x.seat < s.hal.seats.length → p = [] → h.payloadLen = 0 → h.hostSeq = 0 → h.devSeq = 0 →
     h.effStep = 0 → h.flags = 0 → h.rsv10 = 0 → h.rsv34 = 0 →
     s.hal.lockoutReport = false → s.flt.a.held = [] → s.flt.b.held = [] →
     ∃ t, exec (.sessionConfirm h p) s = .next t ∧ (∀ y ∈ t.hal.sessions, y.id = x.id → y.seat = x.seat → y.pending = false) ∧
       (∃ e ∈ (t.seat x.seat).ledger, e.kind = 2 ∧ e.opcode = 0x0102 ∧ e.status = stOk ∧ e.devSeq = (s.seat x.seat).nextDev ∧
         (s.keysLast → (t.seat x.seat).ledger.getLast? = some e)) ∧
       t.hal.sched = s.hal.sched ∧ t.md = s.md ∧ t.rigs = s.rigs ∧ t.dp = s.dp)

/-- A packet that a case of R139 discards is counted under that cause on its mast and transport, and changes nothing but
Halyard's own tables and the counters (R139, R507). An accepted command whose opcode the table does not hold is answered
ST_BAD_OPCODE and has no other effect (R179). The host sequences of a seat (R157, R158): a command that is not in order, or
that names another seat, is never carried out, whatever its opcode: the seat's accepted sequence and its kept replies stay
as they were. A duplicate whose reply is kept is answered with that reply, under a new device sequence. -/
def Obligations.PacketsAreGuarded : Prop :=
  (∀ (h : Hdr) (s : State) (c : Nat), s.md.mode ≠ .vault → s.md.mode ≠ .boot → (s.md.boot.get h.mast).phase = 0 →
     s.discardCause h false = some c →
     ∃ t, exec (.halyardPacketDiscard h) s = .next t ∧ s.OnlyHalyard t ∧ t.hal = s.hal ∧
       (t.ct h.mast).read (0x0140 + 16 * h.transport.code + c) =
         satAdd64 ((s.ct h.mast).read (0x0140 + 16 * h.transport.code + c)) 1) ∧
  (∀ (h : Hdr) (code : Nat) (p : List Byte) (s : State) (x : Session), s.Accepts h x → opRow code = none →
     ∃ t, exec (.unknownOpcode h code p) s = .next t ∧ s.OnlyHalyard t ∧
       (t.lastReply x.seat).map (fun r => (r.hostSeq, r.opcode, r.status)) = some (h.hostSeq, code, stBadOpcode)) ∧
  (∀ (i : Instr) (h : Hdr) (code : Nat) (s : State) (x : Session), halyardOf i = some (h, code) →
     s.md.mode ≠ .vault → s.md.mode ≠ .boot → (s.md.boot.get h.mast).phase = 0 → s.transportStopped h = false →
     (s.takeInbound h).discardCause h false = none → (s.takeInbound h).findSession h = some x → x.seat < s.hal.seats.length →
     let st := s.seat x.seat
     (h.seat ≠ x.seat ∨ st.classify h.hostSeq ≠ .inOrder) →
     ∃ t, exec i s = .next t ∧ s.OnlyHalyard t ∧ t.lastReply x.seat = s.lastReply x.seat ∧
       (t.seat x.seat).lastHostSeq = st.lastHostSeq ∧ (t.seat x.seat).ackPos = st.ackPos ∧
       (∀ r, h.seat = x.seat → st.classify h.hostSeq = .duplicate → st.cached.find? (fun c => c.hostSeq == h.hostSeq) = some r →
         ∃ e ∈ (t.seat x.seat).ledger, e.kind = 2 ∧ e.opcode = r.opcode ∧ e.status = r.status ∧ e.devSeq = st.nextDev ∧
           (s.keysLast → (t.seat x.seat).ledger.getLast? = some e)) ∧
       (h.seat = x.seat → st.classify h.hostSeq = .outOfWindow →
         ∃ e ∈ (t.seat x.seat).ledger, e.kind = 2 ∧ e.opcode = code ∧ e.status = stSeqOutOfWindow ∧ e.devSeq = st.nextDev ∧
           (s.keysLast → (t.seat x.seat).ledger.getLast? = some e)))

/-- SESSION_IDLE_TIMEOUT closes exactly the sessions that have had no authenticated command for 120 s (R155). A load with no
chunk for 60 s is discarded; one of the standby slot leaves the slot EMPTY (R185, R263). -/
def Obligations.TimeoutsClose : Prop :=
  (∀ s : State, ∃ t, exec .sessionIdleTimeout s = .next t ∧ s.OnlyHalyard t ∧
     (∀ y ∈ t.hal.sessions, ∃ z ∈ s.hal.sessions, z.id = y.id ∧ s.now < z.lastCmd + 120 * Config.second) ∧
     (s.keysLast → t.hal.sessions.map (fun y => y.id) =
       (s.hal.sessions.filter (fun y => decide (s.now < y.lastCmd + 120 * Config.second))).map (fun y => y.id))) ∧
  (∀ (g : LoadTarget) (l : Load) (s : State), s.loadOf g = some l → l.lastChunk + 60 * Config.second ≤ s.now →
     ∃ t, exec (.loadTimeout g) s = .next t ∧ t.loadOf g = none ∧
       (g = .rig → t.rigs.state = .empty ∧ t.rigs.image = [] ∧ t.rigs.active = s.rigs.active) ∧ (g ≠ .rig → t.rigs = s.rigs) ∧
       t = { s with hal := { s.hal with loads := t.hal.loads }, rigs := t.rigs })

/-! ### Halyard: scheduled commands (R60, R168 to R171) -/

/-- MODE_SET, RESET, PARAM_SET, SCENE_RECALL and RAMP_DEFAULT_SET are queued for their effective step; a default ramp time
stands from its acceptance (R634). An accepted TACK carries its plan: the standby slot is TACK_PENDING and the reply gives
KIND and the duration; an accepted SNAPSHOT takes the next EPOCH and waits for its step (R198, R220, R267, R508). -/
def Obligations.ControlCommands : Prop :=
  (∀ (h : Hdr) (p : List Byte),
   QueuesUp (.modeSet h p) h p 0x0302 (p.length == 4) (fun a n => a.modeRefusals n p = []) (fun a => a.effectiveStep h)
     (fun _ => 0) (fun a _ => a) (fun _ _ => []) ∧
   QueuesUp (.reset h p) h p 0x0303 (p.length == 4) (fun a _ => a.resetRefusals p = []) (fun a => a.effectiveStep h)
     (fun _ => 0) (fun a _ => a) (fun _ _ => []) ∧
   QueuesUp (.paramSet h p) h p 0x0501 (p.length == 4 + 16 * fld p 0 2) (fun a n => a.paramSetRefusals h p n = [])
     (fun a => a.effectiveStep h) (fun a => a.defaultRamp (a.effectiveStep h)) (fun a _ => a) (fun _ _ => []) ∧
   QueuesUp (.sceneRecall h p) h p 0x0503 (p.length == 4) (fun a n => a.sceneRefusals h p n = [])
     (fun a => a.effectiveStep h) (fun a => a.defaultRamp (a.effectiveStep h)) (fun a _ => a) (fun _ _ => []) ∧
   QueuesUp (.rampDefaultSet h p) h p 0x0504 (p.length == 4) (fun _ _ => 1 ≤ fld p 0 2 ∧ fld p 0 2 ≤ 2000 ∧ fld p 2 2 = 0)
     (fun a => a.effectiveStep h) (fun _ => fld p 0 2)
     (fun a _ => { a with hal := { a.hal with rampDefaults := a.hal.rampDefaults ++
       [{ effStep := a.effectiveStep h, order := a.hal.nextOrder, ms := fld p 0 2 }] } }) (fun _ _ => [])) ∧
  (∀ (h : Hdr) (p : List Byte),
   (∀ plan : State → Nat → TackPlan,
     QueuesUp (.tack h p) h p 0x0403 (p.length == 8)
       (fun a n => a.tackRefusals h p n = [] ∧ a.planFor h p n = some (plan a n)) (fun a => a.effectiveStep h)
       (fun a => a.tackMs h p) (fun a n => { a with rigs := { a.rigs with state := .tackPending, plan := some (plan a n) } })
       (fun a n => be 1 (plan a n).kind ++ zeros 3 ++ be 4 (plan a n).duration)) ∧
   QueuesUp (.snapshot h p) h p 0x0A04 (p.length == 0) (fun a _ => a.snap.pendingAt = none) (fun a => a.effectiveStep h)
     (fun a => a.nextEpoch)
     (fun a _ => { a with snap := { a.snap with epoch := (a.snap.epoch + 1) % 2 ^ 32, pendingAt := some (a.effectiveStep h) } })
     (fun a _ => be 4 ((a.snap.epoch + 1) % 2 ^ 32)))

/-- AES_CONFIG, COMMON_START, STREAM_RX_SET, STREAM_TX_SET, PATCH_SET, HOST_AUDIO_SET, SDI_AUDIO_SET and SIDETONE_SET are
queued for their effective step. FLOW_RX_SET, FLOW_TX_SET, REALIGN, TANDEM_SWAP, TEST_ROUTE_SET, ALARM_ACTIVATE and
ALARM_CLEAR are queued for their effective step; a crosspoint command also takes its place at each output (R369). -/
def Obligations.AudioAndSystemCommands : Prop :=
  (∀ (h : Hdr) (p : List Byte),
   QueuesUp (.aesConfig h p) h p 0x0601 (p.length == 28) (fun a _ => a.aesRefusals p = []) (fun a => a.effectiveStep h)
     (fun _ => 0) (fun a _ => a) (fun _ _ => []) ∧
   QueuesUp (.commonStart h p) h p 0x0603 (p.length == 4 + 4 * fld p 0 2) (fun a _ => a.commonStartRefusals p = [])
     (fun a => a.effectiveStep h) (fun _ => 0) (fun a _ => a) (fun _ _ => []) ∧
   QueuesUp (.streamRxSet h p) h p 0x0604 (p.length == 60) (fun a _ => a.streamRxRefusals p = [])
     (fun a => a.effectiveStep h) (fun _ => 0) (fun a _ => a) (fun _ _ => []) ∧
   QueuesUp (.streamTxSet h p) h p 0x0605 (p.length == 52) (fun a _ => a.streamTxRefusals p = [])
     (fun a => a.effectiveStep h) (fun _ => 0) (fun a _ => a) (fun _ _ => []) ∧
   QueuesUp (.patchSet h p) h p 0x0606 (p.length == 4 + 8 * fld p 0 2) (fun a n => a.patchRefusals p n = [])
     (fun a => a.effectiveStep h) (fun a => a.defaultRamp (a.effectiveStep h)) (fun a _ => a) (fun _ _ => []) ∧
   QueuesUp (.hostAudioSet h p) h p 0x0607 (p.length == 20) (fun a _ => a.hostAudioRefusals h p = [])
     (fun a => a.effectiveStep h) (fun _ => h.mast.code) (fun a _ => a) (fun _ _ => []) ∧
   QueuesUp (.sdiAudioSet h p) h p 0x0608 (p.length == 4) (fun a _ => a.sdiAudioRefusals p = [])
     (fun a => a.effectiveStep h) (fun _ => 0) (fun a _ => a) (fun _ _ => []) ∧
   QueuesUp (.sidetoneSet h p) h p 0x0609 (p.length == 16) (fun a _ => a.sidetoneRefusals p = [])
     (fun a => a.effectiveStep h) (fun a => a.defaultRamp (a.effectiveStep h)) (fun a _ => a) (fun _ _ => [])) ∧
  (∀ (h : Hdr) (p : List Byte),
   QueuesUp (.flowRxSet h p) h p 0x0704 (p.length == 52) (fun a _ => a.flowRxRefusals p = []) (fun a => a.effectiveStep h)
     (fun _ => 0) (fun a _ => a) (fun _ _ => []) ∧
   QueuesUp (.flowTxSet h p) h p 0x0705 (p.length == 48) (fun a _ => a.flowTxRefusals p = []) (fun a => a.effectiveStep h)
     (fun _ => 0) (fun a _ => a) (fun _ _ => []) ∧
   QueuesUp (.xptSwitch h p) h p 0x0701 (p.length == 4 + 4 * fld p 0 2) (fun a _ => a.xptRefusals false p = [])
     (fun a => a.effectiveStep h) (fun _ => 0) (fun a n => a.placeSwitch 0x0701 n h.hostSeq (a.effectiveStep h) p) (fun _ _ => []) ∧
   QueuesUp (.xptSalvo h p) h p 0x0702 (p.length == 4 + 4 * fld p 0 2) (fun a _ => a.xptRefusals true p = [])
     (fun a => a.effectiveStep h) (fun _ => 0) (fun a n => a.placeSwitch 0x0702 n h.hostSeq (a.effectiveStep h) p) (fun _ _ => []) ∧
   QueuesUp (.realign h p) h p 0x0805 (p.length == 4) (fun a _ => a.realignRefusals h p = [])
     (fun a => a.realignStep h (fld p 0 1)) (fun _ => 0) (fun a _ => a) (fun _ _ => []) ∧
   QueuesUp (.tandemSwap h p) h p 0x0902 (p.length == 0) (fun a _ => a.inTandem = true) (fun a => a.effectiveStep h)
     (fun _ => 0) (fun a _ => a) (fun _ _ => []) ∧
   QueuesUp (.testRouteSet h p) h p 0x0B06 (p.length == 8) (fun a _ => a.testRouteRefusals p = []) (fun a => a.effectiveStep h)
     (fun _ => 0) (fun a _ => a) (fun _ _ => []) ∧
   QueuesUp (.alarmActivate h p) h p 0x0D01 (p.length == 8 + 2 * fld p 0 2) (fun a n => a.activateRefusals p n = [])
     (fun a => a.effectiveStep h) (fun _ => 0) (fun a _ => a) (fun _ _ => []) ∧
   QueuesUp (.alarmClear h p) h p 0x0D02 (p.length == 4 + 2 * fld p 0 2) (fun a _ => a.clearRefusals p = [])
     (fun a => a.effectiveStep h) (fun _ => 0) (fun a _ => a) (fun _ _ => []))

/-! ### Halyard: immediate commands -/

/-- RIG_LOAD stages a chunk in the standby slot, which is LOADED at LAST; RIG_VERIFY starts a verification (R196, R197,
R263, R264). IMAGE_LOAD and MESSAGE_LOAD stage a chunk of their object; at LAST the image is staged whole, and the message
takes the place of its index (R185, R222, R225, R577). -/
def Obligations.LoadsAct : Prop :=
  (∀ (h : Hdr) (p : List Byte),
   ActsAtOnce (.rigLoad h p) h 0x0401 .package (chunkLengthOk p) 4 (fun a n => a.rigLoadRefusals n p = [])
     (fun a n => { (a.storeChunk .rig n p).1 with
       rigs := { a.rigs with image := (a.storeChunk .rig n p).2, state := (if bit (fld p 8 1) 1 then .loaded else .loading) } })
     (fun a n => be 4 (a.storeChunk .rig n p).2.length) ∧
   ActsAtOnce (.rigVerify h p) h 0x0402 .package (p.length == 0) 0 (fun a _ => a.rigs.state = .loaded)
     (fun a n => { a with rigs := { a.rigs with state := .verifying, verifySeat := n, verifySeq := h.hostSeq } })
     (fun _ _ => [])) ∧
  (∀ (h : Hdr) (p : List Byte) (sigOk : Bool),
   ActsAtOnce (.imageLoad h p) h 0x0C04 .package (chunkLengthOk p) 4
     (fun a n => fld p 9 1 ≤ 2 ∧ a.chunkRefusals (.image (fld p 9 1)) n p (imageLimit (fld p 9 1)) = [])
     (fun a n => (a.loadImage n p).1) (fun a n => be 4 (a.storeChunk (.image (fld p 9 1)) n p).2.length) ∧
   ActsAtOnce (.messageLoad h p sigOk) h 0x0D04 .package (chunkLengthOk p) 4 (fun a n => a.messageRefusals p n sigOk = [])
     (fun a n => (a.loadMessage n p).1) (fun a n => be 4 (a.storeChunk (.message (fld p 9 1)) n p).2.length) ∧
   (∀ (a : State) (n : Nat), bit (fld p 8 1) 1 = true →
     (fld p 9 1 = 1 → (a.loadImage n p).1.sec.staging.firmware = some (a.storeChunk (.image 1) n p).2) ∧
     (fld p 9 1 = 0 → (a.loadImage n p).1.sec.staging.profile = some (a.storeChunk (.image 0) n p).2) ∧
     (fld p 9 1 < a.alarm.messages.length →
       ((a.loadMessage n p).1.message (fld p 9 1)).samples = fld (a.storeChunk (.message (fld p 9 1)) n p).2 4 4 ∧
       ((a.loadMessage n p).1.message (fld p 9 1)).writing = true)))

/-- R199: RIG_DISCARD takes no parameters and empties the standby slot; in VERIFYING, TACK_PENDING and TACKING it is refused
with ST_BUSY. -/
def Obligations.RigDiscardEmpties : Prop :=
  ∀ (h : Hdr) (p : List Byte) (s : State) (x : Session), s.Accepts h x →
    let a := s.accepted h x
    let busy := s.rigs.state = .verifying ∨ s.rigs.state = .tackPending ∨ s.rigs.state = .tacking
    let answered (t : State) (st : Nat) := ∃ r, t.lastReply x.seat = some r ∧ r.hostSeq = h.hostSeq ∧ r.opcode = 0x0404 ∧ r.status = st
    a.Permits h x.seat 0x0404 true → a.Fits h 0 →
    (p = [] → ¬busy → ∃ t, exec (.rigDiscard h p) s = .next t ∧ answered t stOk ∧ t.rigs.state = .empty ∧
      t.rigs.image = [] ∧ t.rigs.active = s.rigs.active ∧
      ({ s with hal := { s.hal with loads := s.hal.loads.filter (fun l => l.target != .rig) },
                rigs := { s.rigs with state := .empty, image := [], plan := none } } : State).OnlyHalyard t) ∧
    (p = [] → busy → ∃ t, exec (.rigDiscard h p) s = .next t ∧ answered t stBusy ∧ s.OnlyHalyard t) ∧
    (p ≠ [] → ∃ t, exec (.rigDiscard h p) s = .next t ∧ answered t stBadParam ∧ s.OnlyHalyard t)

/-- FAULT_ACK, MARCH_RUN and FALLBACK_TEST act at once; LOOPBACK_SET puts a lane into loopback or brings it back (R219,
R221, R225, R496, R526). What a march and an acknowledgement leave: the march runs on each mast named that serves, and no
entry of a log named is unacknowledged (R219, R496, R526). -/
def Obligations.ServiceCommands : Prop :=
  (∀ (h : Hdr) (p : List Byte),
   ActsAtOnce (.faultAck h p) h 0x0A02 (.named (fld p 0 1)) (p.length == 8) 4 (fun a _ => a.ackRefusals p = [])
     (fun a _ => (a.ackFaults p).1) (fun a _ => be 4 (a.ackFaults p).2) ∧
   ActsAtOnce (.marchRun h p) h 0x0B04 (.named (fld p 0 1)) (p.length == 4) 0 (fun a _ => a.marchRunRefusals p = [])
     (fun a n => a.startMarch h n p) (fun _ _ => []) ∧
   ActsAtOnce (.loopbackSet h p) h 0x0B05 (.named (fld p 0 1)) (p.length == 4) 0 (fun a _ => a.loopbackRefusals p = [])
     (fun a n => a.setLoopback h n (Mast.ofCode (fld p 0 1)) (fld p 1 1) (fld p 2 2)) (fun _ _ => []) ∧
   ActsAtOnce (.fallbackTest h p) h 0x0D07 (.named (fld p 0 1)) (p.length == 4) 0
     (fun a _ => a.mastRefusals (fld p 0 1) false = [] ∧ fld p 1 1 = 0 ∧ fld p 2 2 ≤ 19)
     (fun a n =>
       let test : FallbackTest :=
         { mast := Mast.ofCode (fld p 0 1), output := fld p 2 2, seat := n, hostSeq := h.hostSeq, startedAt := a.now }
       { a with alarm := { a.alarm with tests := a.alarm.tests ++ [test] } })
     (fun _ _ => [])) ∧
  (∀ (h : Hdr) (p : List Byte) (a : State) (n : Nat) (m : Mast),
   m ∈ a.namedServing (fld p 0 1) →
     ((a.startMarch h n p).mem.get m).march = (a.mem.get m).march ++ [a.marchOf h n p] ∧
     (fld p 4 4 = 0xFFFFFFFF → ∀ e ∈ ((a.ackFaults p).1.fl m).log, e.acked = true))

/-- BANK_GIVE starts a handover whose reply waits; one to the owner that the bank has is answered at once (R221, R517).
BANK_HANDOVER of a bank whose old owner is idle passes it to the new owner, wiped where that is the host port, and sends the
reply that waited; every other bank keeps its owner and its bytes (R516, R517), and work on the rows of a bank that is wiped
ends (R534). BANK_WRITE stores its bytes from OFFSET on, and every other byte of every bank reads as before (R221, R518). -/
def Obligations.BanksChangeHands : Prop :=
  (∀ (h : Hdr) (p : List Byte) (s : State) (x : Session), s.Accepts h x →
     let a := s.accepted h x
     a.Permits h x.seat 0x0B01 (p.length == 4) → a.giveRefusals p = [] →
     ∃ t, exec (.bankGive h p) s = .next t ∧
       ((a.bank (Mast.ofCode (fld p 0 1)) (fld p 1 1)).owner = fld p 2 1 → s.OnlyHalyard t ∧
         t.lastReply x.seat = some (okReply a h 0x0B01 s.step (.named (fld p 0 1)) [])) ∧
       ((a.bank (Mast.ofCode (fld p 0 1)) (fld p 1 1)).owner ≠ fld p 2 1 →
         ({ s with handovers := s.handovers ++ [{ hdr := h, seat := x.seat, mast := Mast.ofCode (fld p 0 1), bank := fld p 1 1,
                                                  toOwner := fld p 2 1, startedAt := s.now }] } : State).OnlyHalyard t ∧
         t.lastReply x.seat = s.lastReply x.seat)) ∧
  (∀ (m : Mast) (i : Nat) (s : State) (x : Handover), s.handovers.find? (fun y => y.mast == m && y.bank == i) = some x →
     i < (s.mem.get m).banks.length → x.seat < s.hal.seats.length →
     ∃ t, exec (.bankHandover m i true) s = .next t ∧ (t.bank m i).owner = x.toOwner ∧
       (t.bank m i).data = (if x.toOwner = 2 then [] else (s.bank m i).data) ∧
       t.lastReply x.seat = some (okReply s x.hdr 0x0B01 s.step (.named x.mast.code) []) ∧
       (∀ k j, k ≠ m ∨ j ≠ i → t.bank k j = s.bank k j) ∧
       ({ s with handovers := t.handovers, mem := t.mem, flt := if x.toOwner = 2 then (s.wipeBank m i).flt else s.flt } : State).OnlyHalyard t) ∧
  (∀ (h : Hdr) (p : List Byte) (s : State) (x : Session), s.Accepts h x →
     let a := s.accepted h x
     let m := Mast.ofCode (fld p 0 1)
     a.Permits h x.seat 0x0B03 (decide (12 ≤ p.length) && p.length == 12 + fld p 8 4) → a.Fits h 0 →
     a.mastRefusals (fld p 0 1) false = [] → a.accessRefusals p = [] → fld p 1 1 < (s.mem.get m).banks.length →
     12 ≤ p.length →
     ∃ t, exec (.bankWrite h p) s = .next t ∧ t.lastReply x.seat = some (okReply a h 0x0B03 s.step (.named (fld p 0 1)) []) ∧
       (∀ k, k < p.length - 12 → cellRead (t.bank m (fld p 1 1)).data (fld p 4 4 + k) = (p.drop 12).getD k 0) ∧
       (∀ b, b < fld p 4 4 ∨ fld p 4 4 + (p.length - 12) ≤ b →
         cellRead (t.bank m (fld p 1 1)).data b = cellRead (s.bank m (fld p 1 1)).data b) ∧
       (∀ k j, k ≠ m ∨ j ≠ fld p 1 1 → t.bank k j = s.bank k j) ∧ ({ s with mem := t.mem } : State).OnlyHalyard t)

/-- OWNER_ENROL, FIRMWARE_APPLY, LIFECYCLE_SET, KEY_PROVISION and RTC_SET act at once (R222, R223, R556, R561). What the
security commands leave (R222, R503, R533, R556, R561): the lifecycle state, the owner key of an enrolment and the time of
the reset, or, while OTP writes are held off, the write that waits; the key in its slot and every other slot as it was; and
the write of the staged firmware at the end of the writes. -/
def Obligations.SecurityCommands : Prop :=
  (∀ (h : Hdr) (p : List Byte) (sigOk : Bool) (key : Nat),
   ActsAtOnce (.ownerEnrol h p sigOk) h 0x0C03 .package (p.length == 196) 0
     (fun a _ => a.sec.lifecycle = 1 ∧ fld p 97 3 = 0 ∧ sigOk = true)
     (fun a _ => a.lifecycleTo 2 (fldBytes p 0 97)) (fun _ _ => []) ∧
   ActsAtOnce (.firmwareApply h p sigOk) h 0x0C06 .package (p.length == 0) 0 (fun a _ => a.firmwareRefusals sigOk = [])
     (fun a n => a.startFirmware n h.hostSeq) (fun _ _ => []) ∧
   ActsAtOnce (.lifecycleSet h p sigOk) h 0x0C07 .package (p.length == 100) 0 (fun a n => a.lifecycleRefusals p n sigOk = [])
     (fun a _ => a.lifecycleTo (fld p 0 1) []) (fun _ _ => []) ∧
   ActsAtOnce (.keyProvision h p key sigOk) h 0x0C08 .package (decide (4 ≤ p.length) && p.length == 4 + fld p 2 2) 0
     (fun a _ => a.keyRefusals p sigOk = []) (fun a _ => a.putKey (fld p 0 1) (fld p 1 1) key) (fun _ _ => []) ∧
   ActsAtOnce (.rtcSet h p) h 0x0C09 .package (p.length == 8) 0 (fun _ _ => True)
     (fun a _ => { a with md := { a.md with nest := { a.md.nest with rtc := fld p 0 8, rtcValid := true, rtcFrac := 0 } } })
     (fun _ _ => [])) ∧
  (∀ (a : State) (target slot purpose key n hostSeq : Nat) (owner : List Byte),
   (a.writesHeld .a = false → a.writesHeld .b = false → a.sec.heldOtp = [] →
     (a.lifecycleTo target owner).sec =
       { a.sec with lifecycle := target, ownerKey := if target = 2 then owner else a.sec.ownerKey } ∧
     (a.lifecycleTo target owner).md = { a.md with lifecycleReset := some (a.md.lifecycleReset.getD a.now) }) ∧
   (a.writesHeld .a = true ∨ a.writesHeld .b = true ∨ a.sec.heldOtp ≠ [] →
     a.lifecycleTo target owner = { a with sec := { a.sec with heldOtp := a.sec.heldOtp ++ [(target, owner)] } }) ∧
   (slot < a.md.nest.keySlots.length →
     (a.putKey slot purpose key).md.nest.keySlots[slot]? = some (some { purpose := purpose, key := key }) ∧
     ∀ k, k ≠ slot → (a.putKey slot purpose key).md.nest.keySlots[k]? = a.md.nest.keySlots[k]?) ∧
   (∀ b, a.sec.staging.firmware = some b → ∃ w, (a.startFirmware n hostSeq).sec.writes = a.sec.writes ++ [w] ∧
     w.seat = n ∧ w.hostSeq = hostSeq ∧ w.image = 1 ∧ (a.startFirmware n hostSeq).sec.staging.firmware = none))

/-- PROFILE_APPLY of a staged profile that passes starts its write and is answered; the seats it gives then take effect
(R223, R564, R571). -/
def Obligations.ProfileApplyStarts : Prop :=
  ∀ (h : Hdr) (p : List Byte) (sigOk : Bool) (s : State) (x : Session) (b : List Byte), s.Accepts h x →
    let a := s.accepted h x
    a.Permits h x.seat 0x0C05 (p.length == 0) → a.Fits h 0 → a.profileApplyRefusals h p x.seat sigOk = [] →
    a.sec.staging.profile = some b →
    ∃ t w, exec (.profileApply h p sigOk) s = .next t ∧ t.sec.writes = s.sec.writes ++ [w] ∧ w.image = 0 ∧
      w.profile = some (readProfile b) ∧ w.seat = x.seat ∧ w.hostSeq = h.hostSeq ∧ t.sec.staging.profile = none ∧
      (∀ n, n < 8 → ∀ y, (a.seatItems (some (readProfile b))).find? (fun z => z.seat == n) = some y →
        n < s.hal.seats.length → (t.seat n).role = y.role ∧ (t.seat n).certHash = y.certHash ∧ (t.seat n).prioLimit = y.prioLimit) ∧
      t = { s with hal := { s.hal with seats := t.hal.seats, sessions := t.hal.sessions }, port := t.port, ctr := t.ctr,
                   sec := t.sec }

/-! ### The gate of Halyard and the effects at a step -/

/-- Roles and modes are enforced (R9, R120, R153, R169, R178): an accepted command of any opcode of the table is refused
where its seat's role or the mode does not permit it. It is answered with a status of the role or mode class, or of a check
that comes before it, and it has no other effect. -/
def Obligations.PrivilegeIsEnforced : Prop :=
  ∀ (i : Instr) (h : Hdr) (code : Nat) (row : OpRow) (s : State) (x : Session),
    halyardOf i = some (h, code) → opRow code = some row → s.Accepts h x →
    let role := row.roles.contains ((s.accepted h x).seat x.seat).role
    let mode := row.modes.contains s.md.mode
    (role = false ∨ mode = false) →
    ∃ t r, exec i s = .next t ∧ s.OnlyHalyard t ∧ t.lastReply x.seat = some r ∧ r.hostSeq = h.hostSeq ∧ r.opcode = code ∧
      1 ≤ statusClass r.status ∧ statusClass r.status ≤ 4 ∧ (role = false → statusClass r.status ≤ 3)

/-- EFFECTIVE_STEP_APPLY of a snapshot, a swap, a tack, a mode change, a test route and an alarm activation: what each does
at its effective step, which is the step that begins (R62, R80, R104, R119, R126, R172, R265, R267, R508, R526): the command
leaves the queue, a reply it still owes goes out (R63), and its effect is in force. -/
def Obligations.CommandsTakeEffect : Prop :=
  ∀ (s : State) (c : SchedCmd) (k : Mast), s.captain = some k → s.firstDue (fun _ => true) = some c →
    let u := s.takeSched c
    let x := { u with step := s.step + 1 }
    x.recheck c = none →
    (c.code = 0x0A04 → exec .effectiveStepApply s = .next { u with
      ctr := { a := u.ctr.a.freeze c.aux (u.serves .a), b := u.ctr.b.freeze c.aux (u.serves .b) },
      snap := { s.snap with pendingAt := none, frozenAt := some (s.step + 1), seat := c.seat, hostSeq := c.hostSeq } }) ∧
    (c.code = 0x0902 → s.inTandem = true → ∃ t, exec .effectiveStepApply s = .next t ∧
      t = { u with tan := t.tan } ∧ (t.mt k).yields = true ∧ t.tan.planned = true ∧ t.tst k = s.tst k ∧
      t.tst k.other = s.tst k.other) ∧
    (∀ p, c.code = 0x0403 → s.rigs.state = .tackPending → s.rigs.plan = some p →
      (x.tackPlan p.kind (s.step + 1) p.fade c.seat c.hostSeq).isSome = true →
      ∃ t, exec .effectiveStepApply s = .next t ∧ t = { u with rigs := t.rigs, dp := t.dp } ∧
        t.rigs = { s.rigs with state := .tacking, plan := some { p with step := s.step + 1 } }) ∧
    (c.code = 0x0302 → s.md.mode = .quiet → Mode.ofCode (fld c.payload 0 1) = some .service →
      (∀ y ∈ s.hal.sched, y.order ≠ c.order → y.code = 0x0302 → y.effStep = c.effStep → y.order ≤ c.order) →
      ∃ t, exec .effectiveStepApply s = .next t ∧ t.step = s.step ∧
        t.md = { s.md with mode := .service, base := .service, modeStep := s.step + 1 } ∧ t.rigs = s.rigs ∧ t.tan = u.tan) ∧
    (c.code = 0x0B06 → ∃ t, exec .effectiveStepApply s = .next t ∧ t = { u with tests := t.tests } ∧
      (∀ r, r.cls = fld c.payload 0 1 → r.output = fld c.payload 2 2 → (r ∈ t.tests ↔
        bit (fld c.payload 1 1) 0 = true ∧ r.signal = fld c.payload 4 1 ∧ r.src = fld c.payload 6 2))) ∧
    (c.code = 0x0D01 → (s.md.mode = .quiet ∨ s.md.mode = .service) → ∃ t, exec .effectiveStepApply s = .next t ∧
      t.step = s.step ∧ t.md.mode = .alarm ∧ t.md.base = s.md.base ∧ t.md.modeStep = s.step + 1 ∧
      ∃ a ∈ (t.dp.get k).acts, a.trigger = 1 ∧ a.priority = fld c.payload 2 1 ∧ a.zones = alarmZones 8 c.payload)

/-- R102: a MODE_SET that names the current mode, from a seat that may name it (R123), is accepted, and at its step it
leaves the queue and changes nothing else, so that no EV_MODE_CHANGE is raised. -/
def Obligations.SameModeIsKept : Prop :=
  (∀ (h : Hdr) (p : List Byte) (s : State) (x : Session), s.Accepts h x →
    let a := s.accepted h x
    a.Permits h x.seat 0x0302 (p.length == 4) → a.Schedules h 0x0302 → Mode.ofCode (fld p 0 1) = some s.md.mode → fld p 1 3 = 0 →
    (s.md.mode = .maintain → (a.seat x.seat).role ≠ 2 ∧ (a.seat x.seat).role ≠ 3) →
    ∃ t, exec (.modeSet h p) s = .next t ∧ t.md = s.md ∧
      Answered (a.queued 0x0302 p x.seat h.hostSeq (a.effectiveStep h) 0) t h x.seat 0x0302 (a.effectiveStep h) .package []) ∧
  (∀ (s : State) (c : SchedCmd), s.captain.isSome = true → s.firstDue (fun _ => true) = some c →
    ({ s.takeSched c with step := s.step + 1 }).recheck c = none →
    c.code = 0x0302 → Mode.ofCode (fld c.payload 0 1) = some s.md.mode → s.md.mode ≠ .alarm →
    (∀ y ∈ s.hal.sched, y.order ≠ c.order → y.code = 0x0302 → y.effStep = c.effStep → y.order ≤ c.order) →
    exec .effectiveStepApply s = .next (s.takeSched c))

/-- R74: a Stay link that goes down during a copy abandons it, and the joining mast goes OUT; a Reef 3 fault of the Captain
while the other mast is JOINING or OUT brings the package to bare poles. -/
def Obligations.NoTrustedMastRemains : Prop :=
  (∀ (m : Mast) (j : Join) (s : State), s.tan.stay.up = true → s.stayBad m = true → s.mastOn m = true → s.tan.join = some j →
    ∃ t, exec (.stayLinkDown m) s = .next t ∧ t.tan.stay.up = false ∧ t.tan.join = none ∧ t.tst j.mast = .out) ∧
  (∀ (m : Mast) (src site step : Nat) (late : Bool) (s : State), s.md.mode ≠ .vault → s.md.mode ≠ .lockout →
    (s.md.boot.get m).powerGood = true → knownSource src = true → s.classOf m src site late = some 3 → s.tst m = .captain →
    (s.tst m.other = .joining ∨ s.tst m.other = .out) →
    ∃ t, exec (.faultReport m src site step late) s = .next t ∧ t.md.mode = .lockout ∧
      ∀ k, (t.mt k).drive.allSafe = true ∧ (t.mt k).drive.packets = false)

/-! ### Host ports (R145 to R152, R549 to R555) -/

/-- CMD_TAIL_DOORBELL, REPLY_TAIL_DOORBELL and RING_ENABLE_WRITE, where the window answers: with ENABLE at 1 the doorbells
store the index and a write of ENABLE keeps the indices; with ENABLE at 0 the doorbells are ignored, and a write of 1 zeroes
all four indices (R147, R554). COMMAND_DESCRIPTOR_DONE of a descriptor that the device owns, of a good length, delivers its
packet, writes it back with DESC_STATUS 0 and OWN clear, and advances CMD_HEAD; REPLY_PACKET_WRITE moves the first outgoing
packet into the next posted buffer that is long enough, writes its length back, and REPLY_HEAD advances; on a DMA error the
packet waits (R146, R147, R148). -/
def Obligations.RingsWork : Prop :=
  (∀ (m : Mast) (v : Nat) (s : State), s.windowAnswers m = true →
     let p := s.hp m
     let w := p.window
     let fetching := p.ring.fetching || w.cmdHead != v % 256
     (w.ringEnable = true →
       exec (.cmdTailDoorbell m v) s = .next (s.setHp m { p with
         window := { w with cmdTail := v % 256 }, ring := { p.ring with fetching := fetching } }) ∧
       exec (.replyTailDoorbell m v) s = .next (s.setWindow m { w with replyTail := v % 256 }) ∧
       exec (.ringEnableWrite m v) s = .next (s.setWindow m { w with ringEnable := bit v 0 })) ∧
     (w.ringEnable = false →
       exec (.cmdTailDoorbell m v) s = .next s ∧ exec (.replyTailDoorbell m v) s = .next s ∧
       (bit v 0 = true → ∃ t, exec (.ringEnableWrite m v) s = .next t ∧ t = s.setHp m (t.hp m) ∧
         (t.hp m).window = { w with ringEnable := true, cmdHead := 0, cmdTail := 0, replyHead := 0, replyTail := 0 }))) ∧
  (∀ (m : Mast) (s : State),
     let p := s.hp m
     (∀ d : Desc, d.own = true → p.ring.fetching = true → s.booting m = false → 56 ≤ d.len → d.len ≤ p.window.maxPacket →
       ∃ t, exec (.commandDescriptorDone m d false) s = .next t ∧ t = s.setHp m (t.hp m) ∧
         (t.hp m).inPcie = p.inPcie ++ [d.len] ∧ (t.hp m).window.cmdHead = (p.window.cmdHead + 1) % 256 ∧
         (t.hp m).ring.cmdDone.find p.window.cmdHead = some { d with own := false, status := 0 } ∧
         (t.hp m).ring.fetching = (p.window.ringEnable && (p.window.cmdHead + 1) % 256 != p.window.cmdTail) ∧
         bit (t.hp m).window.intStatus 1 = true) ∧
     (∀ (d : Desc) q rest, d.own = true → p.window.ringEnable = true → p.window.replyHead ≠ p.window.replyTail →
       p.outPcie = q :: rest →
       (q.size ≤ d.len → ∃ t, exec (.replyPacketWrite m d false) s = .next t ∧ t = s.setHp m (t.hp m) ∧
         (t.hp m).outPcie = rest ∧ (t.hp m).lastPacket = some q ∧
         (t.hp m).window.replyHead = (p.window.replyHead + 1) % 256 ∧
         (t.hp m).ring.replyDone.find p.window.replyHead = some { d with len := q.size, own := false, status := 0 } ∧
         bit (t.hp m).window.intStatus 0 = true) ∧
       (∃ t, exec (.replyPacketWrite m d true) s = .next t ∧ t = s.setHp m (t.hp m) ∧ (t.hp m).outPcie = q :: rest ∧
         (t.hp m).ring.replyDone.find p.window.replyHead = some { d with own := false, status := 2 } ∧
         bit (t.hp m).window.intStatus 3 = true)))

/-- The interrupt causes (R148, R551, R553): a write of ones to INT_STATUS clears exactly those bits; a write of INT_ENABLE
stores it, leaves INT_STATUS, and signals where a bit meets its cause; MSIX_HOLDOFF_EXPIRY sends a held message of vector 0
once INT_HOLDOFF has passed, unless the vector is masked, and holds it no longer. -/
def Obligations.InterruptFlags : Prop :=
  ∀ (m : Mast) (v : Nat) (s : State), s.windowAnswers m = true →
    let p := s.hp m
    (∃ n, exec (.intStatusClear m v) s = .next (s.setWindow m { p.window with intStatus := n }) ∧
      ∀ k, n.testBit k = (p.window.intStatus.testBit k && !v.testBit k)) ∧
    (∃ t, exec (.intEnableWrite m v) s = .next t ∧ t = s.setHp m (t.hp m) ∧ (t.hp m).window.intEnable = v % 16 ∧
      (t.hp m).window.intStatus = p.window.intStatus ∧ (t.hp m).ring.fetching = p.ring.fetching ∧
      (∀ k, k < 4 → (bit v k = false ∨ bit p.window.intStatus k = false) →
        atD (t.hp m).ring.msiCount k 0 = atD p.ring.msiCount k 0) ∧
      (∀ k, 1 ≤ k → k < 4 → k < p.ring.msiCount.length → bit v k = true → bit p.window.intStatus k = true →
        bit (atD p.window.msixTable (4 * k + 3) 1) 0 = false →
        atD (t.hp m).ring.msiCount k 0 = atD p.ring.msiCount k 0 + 1)) ∧
    (p.ring.msi0Held = true → p.ring.lastMsi0 + p.window.intHoldoff * Config.usec ≤ s.now →
      bit (atD p.window.msixTable 3 1) 0 = false → 0 < p.ring.msiCount.length →
      ∃ t, exec (.msixHoldoffExpiry m) s = .next t ∧ t = s.setHp m (t.hp m) ∧ (t.hp m).ring.msi0Held = false ∧
        (t.hp m).ring.lastMsi0 = s.now ∧ atD (t.hp m).ring.msiCount 0 0 = atD p.ring.msiCount 0 0 + 1 ∧
        (t.hp m).window = p.window)

/-- The window's 64-bit fields and its plain registers (R551, R552, R554): a write of a low half is held and the field stays
as it was; the write of the high half stores both, aligned to 4 KiB; a read of a low half latches the high half; INT_HOLDOFF
keeps 16 bits, and MAX_PACKET a value of its range while ENABLE is 0. PCIE_RESET puts the window and its rings back to their
reset values and leaves the queues; an engine whose transfer had published FIRST without LAST counts a discard under cause
4, and one between transfers changes nothing (R545, R550, R555). -/
def Obligations.WindowWritesAndResets : Prop :=
  (∀ (m : Mast) (s : State) (v lo : Nat), s.windowAnswers m = true →
     let w := (s.hp m).window
     (exec (.windowHighHalfLatch m true 0x040 v) s = .next (s.setWindow m { w with heldLow := w.heldLow.put 0x040 (v % 2 ^ 32) })) ∧
     (exec (.windowHighHalfLatch m false 0x040 v) s = .next (s.setWindow m { w with readLatch := w.cmdRingBase / 2 ^ 32 })) ∧
     (w.ringEnable = false → w.heldLow.find 0x040 = some lo →
       exec (.windowHighHalfLatch m true 0x044 v) s = .next (s.setWindow m
         { w with cmdRingBase := (v % 2 ^ 32 * 2 ^ 32 + lo) / 4096 * 4096, heldLow := w.heldLow.drop 0x040 })) ∧
     (exec (.windowRegisterWrite m 0x020 v) s = .next (s.setWindow m { w with intHoldoff := v % 2 ^ 16 })) ∧
     (w.ringEnable = false → 4096 ≤ v → v ≤ 65592 →
       exec (.windowRegisterWrite m 0x050 v) s = .next (s.setWindow m { w with maxPacket := v })) ∧
     (w.ringEnable = true → exec (.windowRegisterWrite m 0x050 v) s = .next s)) ∧
  (∀ (m : Mast) (tr : Transport) (s : State), s.md.mode ≠ .vault →
     (exec (.pcieReset m .nothing) s = .next (s.setHp m { s.hp m with window := Window.reset, ring := RingState.reset })) ∧
     (exec (.transportEngineReset m tr .complete) s = .next s) ∧
     (∃ t, exec (.transportEngineReset m tr .firstPublished) s = .next t ∧ s.OnlyHalyard t ∧
       (t.ct m).read (0x0140 + 16 * tr.code + 4) = satAdd64 ((s.ct m).read (0x0140 + 16 * tr.code + 4)) 1 ∧
       (t.hp m).inQ tr = (s.hp m).inQ tr ∧ (t.hp m).outQ tr = (s.hp m).outQ tr))

/-- The serial port (R149, R150, R152): a whole packet goes to the inbound buffer where there is ROOM; a read sends the
first packet only once all its bytes have been clocked out; the status read clears DISCARDED; a first byte that starts no
transfer is counted under cause 8. The management lane answers ARP, neighbour discovery and echo, and counts fragments
(R151). -/
def Obligations.SerialAndManagement : Prop :=
  ∀ (m : Mast) (s : State), s.md.mode ≠ .vault →
    let p := s.hp m
    (∀ len, s.booting m = false → p.cspUsed + 65592 ≤ 131072 → exec (.cspWrite m (56 + len) len) s = .next (s.setHp m
      ({ p with lastRead := zeros (56 + len) }.deliver .csp (56 + len)))) ∧
    (∀ q rest n, p.outCsp = q :: rest →
      (n < q.size → exec (.cspRead m n) s = .next (s.setHp m { p with lastRead := zeros 4 ++ be 4 q.size ++ q.wire.take n })) ∧
      (q.size ≤ n → ∃ t, exec (.cspRead m n) s = .next t ∧ t = s.setHp m (t.hp m) ∧ (t.hp m).outCsp = rest ∧
        (t.hp m).lastRead = zeros 4 ++ be 4 q.size ++ q.wire.take n ∧ (t.hp m).lastPacket = some q)) ∧
    (exec (.cspStatus m) s = .next (s.setHp m { p with lastRead := zeros 1 ++ be 1 (s.cspStatus m), cspDiscarded := false })) ∧
    (∀ b, b ≠ 1 → b ≠ 2 → b ≠ 5 → ∃ t, exec (.cspFramingDiscard m b) s = .next t ∧ s.OnlyHalyard t ∧
      (t.ct m).read (0x0140 + 16 + 8) = satAdd64 ((s.ct m).read (0x0140 + 16 + 8)) 1) ∧
    (exec (.mgmtServiceFrame m .arp) s = .next (s.setHp m { p with serviceAnswers := p.serviceAnswers + 1 })) ∧
    (exec (.mgmtServiceFrame m .neighbour) s = .next (s.setHp m { p with serviceAnswers := p.serviceAnswers + 1 })) ∧
    (exec (.mgmtServiceFrame m .icmpEcho) s = .next (s.setHp m { p with serviceAnswers := p.serviceAnswers + 1 })) ∧
    (∃ t, exec (.mgmtServiceFrame m .fragment) s = .next t ∧ s.OnlyHalyard t ∧
      (t.ct m).read (0x0140 + 32 + 10) = satAdd64 ((s.ct m).read (0x0140 + 32 + 10)) 1)

/-! ### Power, resets and BOOT (R97 to R111, R130, R131, R533, R537, R539, R573, R575, R581, R626) -/

/-- POWER_GOOD of a mast starts its BOOT at phase A, unless a reset ball holds it, its dies must cool or it has failed BOOT
for good; in VAULT it first boots the package. MAIN_POWER_LOSS after 50 ms is VAULT and keeps the crow's nest, OTP and
flash; LIFECYCLE_RESET 100 ms after a change boots the package with nothing staged, and not in LOCKOUT (R105, R130, R131,
R533). -/
def Obligations.PowerComesAndGoes : Prop :=
  ∀ (m : Mast) (s : State),
    (∀ b, b = s.md.boot.get m → b.powerGood = false → s.md.mode ≠ .vault →
      let waits := b.held || b.failed || (s.sup.get m).hot || s.md.mode == .lockout
      ∃ t, exec (.powerGood m) s = .next t ∧
        t.md.boot = s.md.boot.set m { b with powerGood := true, startedAt := s.now, watchdogAt := s.now,
                                             phase := if waits then 0 else 1 } ∧
        t.md.vnestLow.get m = none ∧ t.md.mode = s.md.mode ∧ t.md.nest = s.md.nest ∧ (t.mt m).lines.alive0 = true ∧
        (t.mt m).lines.alive1 = true ∧ (∀ r ∈ (t.sup.get m).rails, r.inReset = false) ∧
        t = { s with md := t.md, tan := t.tan, sup := t.sup }) ∧
    ((s.md.boot.get m).powerGood = false → s.md.mode = .vault →
      ∃ t, exec (.powerGood m) s = .next t ∧ t.md.mode = .boot ∧ t.md.bootCount = s.md.bootCount + 1 ∧
        (t.md.boot.get m).powerGood = true ∧ t.sec.flash = s.sec.flash ∧ t.sec.lifecycle = s.sec.lifecycle ∧
        t.md.nest.resets.head? = some { cause := 1, mast := 2, bootCount := s.md.bootCount + 1, rtc := s.md.nest.rtc }) ∧
    (∀ x y, s.md.vnestLow.a = some x → s.md.vnestLow.b = some y →
      (s.now < Nat.max x y + 50 * Config.msec → exec .mainPowerLoss s = .next s) ∧
      (Nat.max x y + 50 * Config.msec ≤ s.now →
        ∃ t, exec .mainPowerLoss s = .next t ∧ t.md.mode = .vault ∧ t.md.nest = s.md.nest ∧ t.md.bootCount = s.md.bootCount ∧
          t.hal.sessions = [] ∧ t.hal.sched = [] ∧ (∀ k, t.tst k = .out) ∧ t.sec.flash = s.sec.flash ∧
          t.sec.lifecycle = s.sec.lifecycle ∧ t.sec.rollback = s.sec.rollback ∧ t.step = s.step ∧ t.now = s.now)) ∧
    (∀ x, s.md.lifecycleReset = some x → x + 100 * Config.msec ≤ s.now →
      (s.md.mode = .lockout → exec .lifecycleReset s = .next s) ∧
      (s.md.mode ≠ .lockout → s.md.mode ≠ .vault →
        ∃ t, exec .lifecycleReset s = .next t ∧ t.md.mode = .boot ∧ t.md.bootCount = s.md.bootCount + 1 ∧
          t.md.lifecycleReset = none ∧ t.sec.lifecycle = s.sec.lifecycle ∧ t.sec.staging.profile = none ∧
          t.sec.staging.firmware = none ∧ t.sec.staging.alert = none ∧ (∀ k, (t.mem.get k).alert = none) ∧ t.hal.sessions = [] ∧
          (s.sec.lifecycle = 4 → t.sec.identityKey = false ∧ t.sec.ownerKey = [])))

/-- RESET_N_ASSERT of 26 XO cycles or more takes a mast that is not CAPTAIN out, holds it, and records cause 4; a CAPTAIN in
Tandem first yields its role; with the other ball low within 1 ms the package resets with cause 2; a shorter low than 24
cycles is ignored, and LOCKOUT only counts the try. RESET_N_RELEASE begins BOOT (R98, R130, R131, R626). -/
def Obligations.ResetBalls : Prop :=
  ∀ (m : Mast) (s : State) (cycles : Nat),
    (cycles < 24 → exec (.resetNAssert m cycles) s = .next s) ∧
    (26 ≤ cycles → s.md.mode = .lockout → (s.md.boot.get m).held = false →
      ∃ t, exec (.resetNAssert m cycles) s = .next t ∧ t = { s with md := t.md } ∧ t.md.mode = .lockout ∧
        t.md.nest.lockout.resetTries = min 65535 (s.md.nest.lockout.resetTries + 1) ∧ t.md.boot = s.md.boot) ∧
    (26 ≤ cycles → s.md.mode ≠ .lockout → s.md.mode ≠ .vault → (s.md.boot.get m).held = false → s.md.resetFall.get m.other = none →
      (s.isCaptain m = true → s.inTandem = true → ∃ t, exec (.resetNAssert m cycles) s = .next t ∧
        (t.md.boot.get m).held = true ∧ (t.mt m).lines.yield0 = true ∧ (t.mt m).lines.yield1 = true ∧ t.tan.resetCause.get m = some 4 ∧
        t.md.mode = s.md.mode ∧ t = { s with md := t.md, tan := t.tan }) ∧
      (s.isCaptain m = false → (s.sup.get m).hot = false → s.md.mode.led = false ∨ s.canLead m.other = true →
        ∃ t, exec (.resetNAssert m cycles) s = .next t ∧ t.tst m = .out ∧ (t.md.boot.get m).held = true ∧
          (t.md.boot.get m).phase = 0 ∧ t.md.boot.get m.other = s.md.boot.get m.other ∧ t.md.mode = s.md.mode ∧
          (∀ x ∈ t.hal.sessions, x.mast ≠ m) ∧ t.sec = s.sec ∧ t.rigs = s.rigs ∧ t.dp.get m.other = s.dp.get m.other ∧
          t.md.nest.resets.head? = some { cause := 4, mast := m.code, bootCount := s.md.bootCount, rtc := s.md.nest.rtc })) ∧
    (∀ x, 26 ≤ cycles → s.md.mode ≠ .lockout → s.md.mode ≠ .vault → (s.md.boot.get m).held = false →
      s.md.resetFall.get m.other = some x → s.now < x + Config.msec →
      ∃ t, exec (.resetNAssert m cycles) s = .next t ∧ t.md.mode = .boot ∧ t.md.bootCount = s.md.bootCount + 1 ∧
        (t.md.boot.get m).held = true ∧ t.hal.sessions = [] ∧
        t.md.nest.resets.head? = some { cause := 2, mast := 2, bootCount := s.md.bootCount + 1, rtc := s.md.nest.rtc }) ∧
    (∀ b, b = s.md.boot.get m → b.held = true →
      let runs := b.powerGood && !b.failed && !(s.sup.get m).hot && !s.serves m && s.md.mode != .lockout && s.md.mode != .vault
      exec (.resetNRelease m) s = .next (s.setBoot m
        { b with held := false, phase := (if runs then 1 else b.phase), startedAt := s.now, watchdogAt := s.now }))

/-- BOOT_PHASE_COMPLETE leads a mast to its next phase: A clears the tamper state it has checked, B applies the union of the
repair maps, C and F give spares to what the march has found, D has the fallback player ready and keeps an alert signal that
power never left, E takes the good firmware of the higher version and sets REMAP, H settles the first mast that completes
it, I starts the message store check, and J waits for the end step in BOOT; a phase that fails, and BOOT_FAILURE, give one
retry and then leave the mast OUT (R47, R106, R107, R109, R539, R575). BOOT_END: at the end step the settled mast becomes
CAPTAIN and the package leaves BOOT, for ALARM where a zone is active and for QUIET or WATCH as the profile says otherwise
(R47, R97, R99, R108). -/
def Obligations.BootRunsToItsEnd : Prop :=
  (∀ (m : Mast) (s : State) (b : BootState) (f : BootFacts), b = s.md.boot.get m → b.powerGood = true → b.held = false →
     b.failed = false → b.ready = false → s.md.mode ≠ .lockout →
     (b.phase = 1 → ∃ t, exec (.bootPhaseComplete m f) s = .next t ∧ t.md.boot = s.md.boot.set m { b with phase := 2 } ∧
       t.md.nest.tamper = false ∧ t.tan = s.tan ∧ t.sec = s.sec ∧
       (b.powerOn = true → f.nestBlank = true → (0x96, 0) ∈ (t.fl m).held)) ∧
     (b.phase = 2 → ∃ t, exec (.bootPhaseComplete m f) s = .next t ∧ t.md.boot = s.md.boot.set m { b with phase := 3 } ∧
       t.tan = s.tan ∧ t.mem = s.mem.set m (s.mem.get m).unionMaps ∧ t.sec = s.sec ∧
       ((s.mem.get m).mapsDisagree = true → (0x95, 0) ∈ (t.fl m).held)) ∧
     (b.phase = 3 ∨ (b.phase = 6 ∧ f.units = []) → f.still = false → (assignSpares true f.fails (s.mem.get m)).2.2 = [] →
       ∃ t, exec (.bootPhaseComplete m f) s = .next t ∧ t.md.boot = s.md.boot.set m { b with phase := b.phase + 1 } ∧
         t.mem = s.mem.set m (assignSpares true f.fails (s.mem.get m)).1 ∧ t.tan = s.tan ∧ t.hal = s.hal ∧ t.sec = s.sec) ∧
     (b.phase = 3 → f.still = true → b.retried = false → (s.sup.get m).hot = false →
       ∃ t, exec (.bootPhaseComplete m f) s = .next t ∧ t.tst m = .out ∧ (t.md.boot.get m).retried = true ∧ (t.md.boot.get m).phase = 1) ∧
     (b.phase = 4 → (s.chooseProfile m f).2 = none → ∃ t, exec (.bootPhaseComplete m f) s = .next t ∧
       t.md.boot = s.md.boot.set m { b with phase := 5, fallbackReady := true } ∧ (t.mem.get m).alert = none ∧
       (t.sec.flash.get m).profileUsed = 2) ∧
     (∀ p, b.phase = 4 → s.sec.lifecycle ≠ 4 → (s.chooseProfile m f).2 = some p → b.powerOn = false → b.package = false →
       ∃ t, exec (.bootPhaseComplete m f) s = .next t ∧
         t.md.boot = s.md.boot.set m { b with phase := 5, fallbackReady := true } ∧ (t.mem.get m).alert = (s.mem.get m).alert) ∧
     (∀ p d, b.phase = 4 → s.sec.lifecycle ≠ 4 → (s.chooseProfile m f).2 = some p → b.powerOn = true →
       s.alertFor m p.alertHash = some d → ∃ t, exec (.bootPhaseComplete m f) s = .next t ∧
         t.md.boot = s.md.boot.set m { b with phase := 5, fallbackReady := true } ∧ (t.mem.get m).alert = some d) ∧
     (∀ i w, b.phase = 5 → s.chooseFirmware m f = some (i, w) →
       ∃ t, exec (.bootPhaseComplete m f) s = .next t ∧
         t.md.boot = s.md.boot.set m { b with phase := 6, firmwareOk := true, remap := true } ∧ t.md.mixOn.get m = true ∧
         t.md.routeOn.get m = true ∧ (t.sec.flash.get m).fwBooted = i ∧ t.sec.rollback = Nat.max s.sec.rollback w.rollback) ∧
     (b.phase = 5 → s.chooseFirmware m f = none → b.retried = false → (s.sup.get m).hot = false →
       ∃ t, exec (.bootPhaseComplete m f) s = .next t ∧ t.tst m = .out ∧ (t.md.boot.get m).retried = true ∧ (t.md.boot.get m).phase = 1) ∧
     (b.phase = 7 → ∃ t, exec (.bootPhaseComplete m f) s = .next t ∧ t.md = { s.md with boot := s.md.boot.set m { b with phase := 8 } } ∧
       t = { s with md := t.md, port := t.port }) ∧
     (b.phase = 8 → s.md.mode = .boot → s.md.elect = none → (s.md.boot.get m.other).phase < 9 →
       ∃ t, exec (.bootPhaseComplete m f) s = .next t ∧ t.md.elect = some m ∧
         t.md.boot = s.md.boot.set m { b with phase := 9, completedAt := s.now } ∧ t.sec.profile = (s.sec.flash.get m).profile) ∧
     (b.phase = 9 → ∃ t, exec (.bootPhaseComplete m f) s = .next t ∧ t.md = { s.md with boot := s.md.boot.set m { b with phase := 10 } } ∧
       t.tan = s.tan ∧ t.sec = s.sec ∧ (t.alm.get m).checking = true) ∧
     (b.phase = 10 → s.md.mode = .boot → exec (.bootPhaseComplete m f) s = .next (s.setBoot m { b with ready := true })) ∧
     (b.phase ≠ 0 → b.retried = false → (s.sup.get m).hot = false → ∃ t, exec (.bootFailure m) s = .next t ∧ t.tst m = .out ∧
       (t.md.boot.get m).retried = true ∧ (t.md.boot.get m).phase = 1 ∧
       t.md.nest.resets.head? = some { cause := 9, mast := m.code, bootCount := s.md.bootCount, rtc := s.md.nest.rtc }) ∧
     (b.phase ≠ 0 → b.retried = true → (s.md.boot.get m.other).failed = false → s.tan.barred.get m.other = false →
       ∃ t, exec (.bootFailure m) s = .next t ∧ t.md.boot = s.md.boot.set m { b with phase := 0, failed := true } ∧
         t.md.mixOn.get m = false ∧ t.md.routeOn.get m = false ∧ t.tan = s.tan ∧ t.md.mode = s.md.mode) ∧
     (b.phase ≠ 0 → b.retried = true → (s.md.boot.get m.other).failed = true → s.md.mode = .boot →
       ∃ t, exec (.bootFailure m) s = .next t ∧ (t.md.boot.get m).failed = true ∧ t.md.mode = .lockout ∧
         t.md.nest.lockout.source = 0xFFFF)) ∧
  (∀ (m : Mast) (s : State), s.md.elect = some m → s.md.mode = .boot → (s.md.boot.get m).ready = true →
     ∃ t, exec .bootEnd s = .next t ∧ t.tst m = .captain ∧ (t.md.boot.get m).phase = 0 ∧ t.step = s.step ∧
       (t.md.mode = .alarm ∨ t.md.mode = .quiet ∨ t.md.mode = .watch))

/-- The watchdog after BOOT is a Reef 3 report of source 0x94; REMAP is set once, from the data port and for firmware that
has passed; a tamper in any mode with main power zeroises and is bare poles; a dead fallback driver in LOCKOUT hands its
outputs over (R128, R537, R539, R581, R582). -/
def Obligations.GuardsAct : Prop :=
  ∀ (m : Mast) (s : State),
    (s.mastOn m = true → (s.md.boot.get m).phase = 0 → exec (.watchdogExpiry m) s = .next (s.report m 0x94 0xC0000002)) ∧
    (s.mastOn m = true → (s.md.boot.get m).remap = false →
      exec (.remapWrite m .cpData true) s = .next (s.setBoot m { s.md.boot.get m with remap := true })) ∧
    ((s.md.boot.get m).remap = true → ∀ x q, exec (.remapWrite m x q) s = .next s) ∧
    (∀ src, 0xF0 ≤ src → src ≤ 0xF3 → s.md.mode ≠ .vault → (s.md.boot.get m).powerGood = true →
      ∃ t, exec (.tamperTrip m src) s = .next t ∧ t.md.mode = .lockout ∧ t.md.nest.tamper = true ∧ t.hal.sessions = [] ∧
        t.md.nest.keySlots = List.replicate 8 none ∧ t.sec.lifecycle = s.sec.lifecycle ∧ t.sec.rollback = s.sec.rollback ∧
        (∀ k, (t.lan.get k).linkKey = none) ∧
        (s.md.mode ≠ .lockout → t.hal.sched = [] ∧ t.md.nest.lockout.source = 0xFFFF ∧ ∀ k, (t.mt k).drive.allSafe = true)) ∧
    (s.md.mode = .vault → ∃ t, exec (.tamperTrip m 0xF3) s = .next t ∧ t.md.mode = .vault ∧ t.md.nest.tamper = true ∧
      t.md.nest.keySlots = List.replicate 8 none ∧ t.md.nest.lockout.valid = true ∧ t.md.nest.lockout.source = 0xFFFF) ∧
    (s.md.mode = .lockout → s.md.fallbackDriver = some m → s.mastOn m.other = true →
      ∃ t, exec (.tlAliveDead m) s = .next t ∧ t.md = { s.md with fallbackDriver := some m.other } ∧
        (t.mt m.other).steer = true ∧ (t.mt m).steer = false ∧ (t.mt m).lines.alive0 = false ∧
        t = { s with tan := t.tan, md := t.md })

/-- IMAGE_WRITE_DONE ends the oldest write: a good one is in both masts' flash and a profile's number is logged, a failed
one changes neither; MESSAGE_WRITE_DONE takes the message out of MSG_STATE 0; a write that the supply or WATCH holds off
stays (R223, R503, R572, R575, R577). -/
def Obligations.WritesToFlashEnd : Prop :=
  ∀ (s : State) (i : Nat),
    (∀ w rest, s.sec.writes = w :: rest → s.writesHeld .a = false → s.writesHeld .b = false →
      (∃ t, exec (.imageWriteDone false) s = .next t ∧ t.sec.writes = rest ∧ t.sec.flash = s.sec.flash.map (fun x => x.written w) ∧
        t.sec.profileSeqs = (if w.image = 0 then s.sec.profileSeqs ++ [w.version] else s.sec.profileSeqs) ∧
        ({ s with sec := t.sec } : State).OnlyHalyard t) ∧
      (∃ t, exec (.imageWriteDone true) s = .next t ∧ t.sec = { s.sec with writes := rest } ∧
        ({ s with sec := t.sec } : State).OnlyHalyard t)) ∧
    ((s.writesHeld .a || s.writesHeld .b) = true → ∀ bad, exec (.imageWriteDone bad) s = .next s ∧ exec (.messageWriteDone i) s = .next s) ∧
    ((s.message i).writing = true → i < s.alarm.messages.length → s.writesHeld .a = false → s.writesHeld .b = false →
      ∃ t, exec (.messageWriteDone i) s = .next t ∧ t = { s with alarm := t.alarm } ∧ (t.message i).writing = false ∧
        (t.message i).checked = s.md.nest.rtc ∧ (t.message i).state = (if s.keyMatches (s.message i) then 1 else 2) ∧
        (t.message i).data = (s.message i).data ∧ ∀ k, k ≠ i → t.message k = s.message k)

/-! ### Modes, battery and the alarm logic (R59, R113 to R122, R295 to R302, R577 to R584, R605, R628 to R630) -/

/-- WATCH_FADE_END gates the dies of both masts and empties the slots, and the alarm activations stay; WAKE_STEP starts the
dies of every mast that serves, with those activations; LATE_WAKE is a report of source 0x86, once for each mast (R113,
R115, R118). -/
def Obligations.WatchAndWake : Prop :=
  ∀ (s : State) (m : Mast),
    (∀ e, s.md.mode = .watch → s.md.watchFadeEnd = some e → e ≤ s.step + 1 →
      ∃ t, exec .watchFadeEnd s = .next t ∧ t.step = s.step ∧ t.rigs.state = .empty ∧ t.rigs.active = none ∧
        t.md = { s.md with watchFadeEnd := none, mixOn := .same false, routeOn := .same false } ∧
        (t.dp.get m).active = none ∧ (t.dp.get m).acts = (s.dp.get m).acts ∧ t.vid.get m = (s.vid.get m).wiped) ∧
    (∀ w, s.md.wake = some w → s.md.mode ≠ .watch → w.triggerStep + 4 ≤ s.step + 1 →
      ∃ t, exec .wakeStep s = .next t ∧ t.step = s.step ∧ t.md.wake = none ∧ t.md.mode = s.md.mode ∧
        t.rigs = s.rigs ∧ (t.dp.get m).acts = (s.dp.get m).acts ∧
        (s.serves m = true → t.md.mixOn.get m = true ∧ t.md.routeOn.get m = true ∧ (t.dp.get m).active = none)) ∧
    (∀ w, s.md.wake = some w → s.md.mode = .alarm → s.serves m = true → w.triggerAt + 120 * Config.msec ≤ s.now →
      (if m = .a then w.lateA else w.lateB) = false →
      ∃ u : State, exec (.lateWake m) s = .next (u.report m 0x86 0xC0000000) ∧ u = { s with md := u.md, alm := u.alm } ∧
        u.md = { s.md with wake := some (if m = .a then { w with lateA := true } else { w with lateB := true }) })

/-- ON_BATT_CHANGE keeps the level, and in ALARM a rise assigns a shedding step, or calls a restore off; SHED_STEP sheds the
regions that the rigs mark, with the video crosspoint; RESTORE_STEP ends the shedding, and outputs fade in from it (R121,
R122, R605). -/
def Obligations.BatterySheds : Prop :=
  ∀ (m : Mast) (s : State),
    (∀ level, s.md.mode ≠ .vault → s.mastOn m = true → s.md.onBatt.get m ≠ level →
      ∃ t, exec (.onBattChange m level) s = .next t ∧ t.md.onBatt = s.md.onBatt.set m level ∧ t.md.mode = s.md.mode ∧
        t.md.shed.inForce = s.md.shed.inForce ∧ t.step = s.step ∧
        (level = true → t.md.battAt = s.now ∧
          (s.md.mode = .alarm → s.inTandem = true ∨ s.lead = m →
            (s.md.shed.inForce = false → s.md.shed.shedAt = none → t.md.shed.shedAt = some s.assignedStep) ∧
            (s.md.shed.inForce = true → t.md.shed.restoreAt = none))) ∧
        (level = false → s.md.onBatt.get m.other = false → t.md.shed.lowSince = s.now)) ∧
    (∀ e, s.md.shed.shedAt = some e → s.md.shed.inForce = false → s.md.mode = .alarm → e ≤ s.step + 1 →
      ∃ t, exec .shedStep s = .next t ∧ t.step = s.step ∧ t.md.mode = .alarm ∧ t.md.shed.inForce = true ∧
        t.md.shed.mixRegions = s.shedRegions ∧ t.md.shed.video = true ∧
        (s.videoRuns = true → t.jobs = [] ∧ (t.vid.get m).idle = true ∧ (t.vid.get m).outputs = [])) ∧
    (∀ e, s.md.shed.restoreAt = some e → s.md.shed.inForce = true → e ≤ s.step + 1 →
      ∃ t, exec .restoreStep s = .next t ∧ t.step = s.step ∧ t.md = { s.md with
        shed := { Shed.none with mixRegions := s.md.shed.mixRegions, fadeFrom := some (s.step + 1) } })

/-- The alarm inputs (R59, R629, R630): a sample is classed by its window and counted, and a sample under a test pulse is
not; 80 samples that agree on another class change the debounced class, and in Tandem the Captain assigns the change to both
masts at D + F + 2; at that step they act on it; a mast that waits for no other acts on its own change, and a Stoker that
waits in vain acts alone; a test pulse out of its window three times in a row is a report. -/
def Obligations.AlarmInputsAct : Prop :=
  ∀ (m : Mast) (i : Nat) (s : State), i < 8 → i < (s.alm.get m).inputs.length →
    let x := s.alarmIn m i
    (s.alarmRuns m = true →
      (∀ v, exec (.alarmInputSample m i v true) s = .next s) ∧
      (∀ v c, (v < 1200 ∧ c = 3) ∨ (1700 ≤ v ∧ v ≤ 3900 ∧ c = 0) ∨ (4700 ≤ v ∧ v ≤ 7000 ∧ c = 1) ∨ (7900 < v ∧ c = 2) ∨
          (((1200 ≤ v ∧ v < 1700) ∨ (3900 < v ∧ v < 4700) ∨ (7000 < v ∧ v ≤ 7900)) ∧ c = x.last) →
        exec (.alarmInputSample m i v false) s = .next (s.setAlarmIn m i
          { x with last := c, count := if c = x.last then Nat.min 80 (x.count + 1) else 1
                   since := if c = x.last && x.count != 0 then x.since else s.now })) ∧
      (80 ≤ x.count → x.last ≠ x.deb →
        let u := s.setAlarmIn m i { x with deb := x.last, changes := x.changes + 1 }
        let c : Assigned := { input := i, state := x.last, step := s.step + s.fence + 2, since := x.since }
        (x.last ≤ 1 → s.alarmTarget m i ≠ x.last → s.tracks = false → s.inTandem = true → s.tan.stay.up = true →
          s.isCaptain m = true → Brings (.alarmInputDebounced m i) s ((u.assignAlarm bothMasts c).followFallback m)) ∧
        (x.last ≤ 1 → s.alarmTarget m i ≠ x.last →
          s.tracks = true ∨ (s.inTandem = true ∧ s.tan.stay.up = true ∧ s.isCaptain m = false) →
          Brings (.alarmInputDebounced m i) s (u.setAlarmIn m i
            { u.alarmIn m i with solo := some (s.step + s.fence + 4, x.last) })) ∧
        (x.last ≤ 1 → s.alarmTarget m i ≠ x.last → s.tracks = false → s.inTandem = false ∨ s.tan.stay.up = false →
          Brings (.alarmInputDebounced m i) s ((u.assignAlarm (s.alarmMasts m) c).followFallback m)) ∧
        (x.last = 2 → ∃ v : State, exec (.alarmInputDebounced m i) s = .next (v.report m 0xB0 (inputSite 2 i)) ∧ u.OnlyHalyard v) ∧
        (x.last = 3 → ∃ v : State, exec (.alarmInputDebounced m i) s = .next (v.report m 0xB1 (inputSite 2 i)) ∧ u.OnlyHalyard v)) ∧
      (∀ drop, s.tst m ≠ .out → x.deb ≤ 1 → x.last ≤ 1 →
        let e := if x.deb = 1 then 556 else 246
        (e * 70 ≤ drop * 100 → drop * 100 ≤ e * 130 →
          exec (.alarmTestPulse m i drop) s = .next (s.setAlarmIn m i { x with failed := 0 })) ∧
        ((drop * 100 < e * 70 ∨ e * 130 < drop * 100) → x.failed < 2 →
          exec (.alarmTestPulse m i drop) s = .next (s.setAlarmIn m i { x with failed := x.failed + 1 })) ∧
        (drop * 100 < e * 70 → 2 ≤ x.failed → exec (.alarmTestPulse m i drop) s =
          .next ((s.setAlarmIn m i { x with failed := 0 }).report m 0xB1 (inputSite 2 i))) ∧
        (e * 130 < drop * 100 → 2 ≤ x.failed → exec (.alarmTestPulse m i drop) s =
          .next ((s.setAlarmIn m i { x with failed := 0 }).report m 0xB0 (inputSite 2 i))))) ∧
    (∀ l, ∃ t, exec (.alarmInputAction l) s = .next t ∧ t.step = s.step ∧ (∀ a ∈ (t.alm.get m).assigned, s.step + 1 < a.step) ∧
      (∀ a, s.tracks = false → (∀ k j, (s.alarmIn k j).solo = none) →
        (s.alm.get m).assigned.filter (fun b => decide (b.step ≤ s.step + 1)) = [a] → a.input = i →
        (t.alarmIn m i).acted = a.state ∧ (t.alarmIn m i).solo = none) ∧
      (∀ due st, x.solo = some (due, st) → due ≤ s.step + 3 → s.waitsAlarm m = false → s.waitsAlarm m.other = true →
        (∀ a ∈ (s.alm.get m).assigned, a.input ≠ i ∨ s.step + 1 < a.step) →
        (t.alarmIn m i).acted = st ∧ (t.alarmIn m i).solo = none)) ∧
    (∀ due st, x.solo = some (due, st) → due ≤ s.step + 1 → s.tst m = .stoker → s.tracks = false →
      ∃ t, exec (.alarmInputSolo m i) s = .next t ∧ t.step = s.step ∧ (t.alarmIn m i).acted = st ∧
        ((s.mt m).flags.length < 4096 → (t.mt m).flags = (s.mt m).flags ++ [{ kind := .soloAlarm, step := due }]))

/-- Messages and the fallback test (R225, R298, R299, R579): a play that ends counts for the activations by command that
began before it, which end at their REPEAT-th; a chunk that fails on both masts fails its message, whose activations turn to
the fallback alert; one that fails on one mast is noted there; a store check dates every valid message. Alarm streams
(R584): an accepted message keeps its counter and time, and a change of state is assigned to both masts at D + F + 2; one
that is not accepted is a miss; 5 s without one is a silence, shown once. -/
def Obligations.MessagesAndStreams : Prop :=
  (∀ (m : Mast) (i : Nat) (s : State), i < s.alarm.messages.length →
     (∀ x rest, s.alarm.tests = x :: rest → ∃ t, exec .fallbackTestDone s = .next t ∧ t.alarm = { s.alarm with tests := rest } ∧
       ({ s with alarm := t.alarm } : State).OnlyHalyard t) ∧
     (∀ st k, (s.dp.get m).plays.find i = some st → s.playSteps i ≠ 0 → k ≠ 0 → st + k * s.playSteps i = s.step + 1 →
       ∃ t, exec (.messagePlayBoundary i) s = .next t ∧ t.step = s.step ∧
         (∀ a ∈ (s.dp.get m).acts, a.source.kind = 0 → a.source.index = i → a.trigger = 1 → a.start < s.step + 1 →
           (a.repeats = 0 ∨ a.plays + 1 < a.repeats) → { a with plays := a.plays + 1 } ∈ (t.dp.get m).acts) ∧
         (∀ a ∈ (t.dp.get m).acts, a.source.kind = 0 → a.source.index = i → a.trigger = 1 → a.start < s.step + 1 →
           a.repeats ≠ 0 → a.plays < a.repeats)) ∧
     ((s.message i).state = 1 → ∀ c,
       (s.inTandem = true → exec (.messageChunkFailure m i c false) s = .next (s.setMessage i (if m = .a
         then { s.message i with badA := ((s.message i).badA ++ [c]).eraseDups }
         else { s.message i with badB := ((s.message i).badB ++ [c]).eraseDups }))) ∧
       (∃ t, exec (.messageChunkFailure m i c true) s = .next t ∧ (t.message i).state = 2 ∧
         ∀ n, ∀ a ∈ (t.dp.get n).acts, ¬ (a.source.kind = 0 ∧ a.source.index = i)) ∧
       (s.checkDue m = true → ∃ t, exec (.messageStoreCheck m [(i, c, true)]) s = .next t ∧ (t.message i).state = 2 ∧
         (t.message i).checked = s.md.nest.rtc) ∧
       (s.checkDue m = true → s.inTandem = true → s.writesHeld m = false → ∃ t, exec (.messageStoreCheck m [(i, c, false)]) s = .next t ∧
         (t.message i).state = 1 ∧ c ∉ (t.message i).badA ∧ c ∉ (t.message i).badB)) ∧
     (s.checkDue m = true → ∃ t, exec (.messageStoreCheck m []) s = .next t ∧ t = { s with alarm := t.alarm, alm := t.alm } ∧
       t.alm = s.alm.set m { s.alm.get m with checking := false, checkedAt := some s.now } ∧
       t.alarm = { s.alarm with
         messages := s.alarm.messages.map (fun x => if x.state = 1 then { x with checked := s.md.nest.rtc } else x) })) ∧
  (∀ (m : Mast) (n : Nat) (r : RtpFacts) (p : List Byte) (sigOk : Bool) (tai : Nat) (s : State),
     n < s.alarm.streams.length → n < s.md.nest.streamCounters.length →
     let x := atD s.alarm.streams n { state := 0, lastAt := none, silent := false }
     (s.serves m = true → s.streamAccepts n p sigOk true tai = true →
       ∃ t, exec (.alarmStreamMessage m n r p sigOk tai) s = .next t ∧
         t.alarm.streams[n]? = some { x with lastAt := some s.now, silent := false } ∧
         t.md = { s.md with nest := { s.md.nest with streamCounters := setAt s.md.nest.streamCounters n (fld p 4 8) } } ∧
         (s.inTandem = true → s.tan.stay.up = true → x.state ≠ fld p 3 1 →
           (∀ a ∈ (s.alm.get s.lead).assigned, a.input ≠ 8 + n) → ∀ k, (t.alm.get k).assigned =
             (s.alm.get k).assigned ++ [{ input := 8 + n, state := fld p 3 1, step := s.step + s.fence + 2, since := s.now }])) ∧
     (s.serves m = true → s.streamAccepts n p sigOk false tai = false →
       exec (.alarmStreamMessage m n r p sigOk tai) s = .next (s.flowMiss m r)) ∧
     (x.silent = false → x.lastAt.getD 0 + 5 * Config.second ≤ s.now → (s.alarmItem (8 + n)).isSome = true →
       ∃ t, exec (.alarmStreamSilence n) s = .next t ∧
         t.alarm = { s.alarm with streams := setAt s.alarm.streams n { x with silent := true } } ∧
         ({ s with alarm := t.alarm } : State).OnlyHalyard t))

/-! ### The step, what falls due at it, and the digests (R13, R14, R23, R62 to R68, R172, R263, R283, R432, R454, R508, R511) -/

/-- STEP_BOUNDARY begins the next step, one step later in time; without main power only time passes, and the RTC counts;
while a realign of TB_0 holds the grid no step begins, and REALIGN_RESUME begins the first step on the moved grid (R13, R14,
R131, R432). -/
def Obligations.StepsBegin : Prop :=
  ∀ (frame : List Byte) (s : State),
    (s.md.mode ≠ .vault → s.gridWaits = none → ∃ t, exec (.stepBoundary frame) s = .next t ∧ t.step = s.step + 1 ∧
      s.now < t.now ∧ (s.hal.sched = [] → s.tan.join = none → t.now = s.now + s.stepTime)) ∧
    (s.md.mode = .vault → exec (.stepBoundary frame) s =
      .next { s with now := s.now + s.stepTime, md := { s.md with nest := s.md.nest.tick s.stepTime } }) ∧
    (∀ r, s.md.mode ≠ .vault → s.gridWaits = some r → exec (.stepBoundary frame) s = .next s ∧
      ∃ t, exec (.realignResume frame) s = .next t ∧ t.step = r.resume ∧ s.now < t.now)

/-- What falls due at a step: PRE_START_PULSE opens the gates of the blocks with work, RAMP_END takes the ramps that are
over from the ramp table, with their words at their targets, and TACK_END makes the incoming rig the active one, and the
outgoing one VERIFIED unless it routes an input that is single-homed; RIG_VERIFY_DONE leaves the rig VERIFIED or REFUSED;
SNAPSHOT_EVENT and HEALTH_EVENT follow (R43, R240, R263, R265, R267, R283, R454, R508, R511). -/
def Obligations.StepEventsAct : Prop :=
  ∀ (m : Mast) (s : State),
    (∃ t, exec .preStartPulse s = .next t ∧ t = { s with clk := t.clk } ∧
      ∀ i x, (s.clk.get m).gates[i]? = some x →
        (t.clk.get m).gates[i]? = some (if s.blockWork m i then { x with open' := true } else x)) ∧
    (∃ t, exec .rampEnd s = .next t ∧ t = { s with dp := t.dp } ∧ ∀ r, (s.dp.get m).active = some r →
      ∃ r', (t.dp.get m).active = some r' ∧ r' = { r with words := r'.words, ramps := r'.ramps } ∧
        r'.ramps = r.ramps.filter (fun p => decide (s.step + 1 < p.fade.start + p.fade.len)) ∧
        (∀ p ∈ r.ramps, p.fade.start + p.fade.len ≤ s.step + 1 →
          (∀ q ∈ r.ramps, q.fade.start + q.fade.len ≤ s.step + 1 → q.key = p.key → q = p) →
          wget r'.words p.key = wordOf p.fade.u1)) ∧
    (∀ p, s.rigs.state = .tacking → s.rigs.plan = some p → p.step + p.duration ≤ s.step →
      ∃ t, exec .tackEnd s = .next t ∧ ({ s with rigs := t.rigs, dp := t.dp } : State).OnlyHalyard t ∧
        t.dp = s.dp.map (fun d => { d with outgoing := none }) ∧
        t.rigs = { s.rigs with active := some s.rigs.image, image := s.rigs.active.getD [], state := t.rigs.state, plan := none } ∧
        (s.rigs.active = none → t.rigs.state = .empty) ∧
        (∀ old, s.rigs.active = some old → t.rigs.state =
          if (verifyImage old (s.verifyCtx true)).rule = 0x0205 then .refused else .verified)) ∧
    (∀ hashOk, s.rigs.state = .verifying → ∃ t, exec (.rigVerifyDone hashOk) s = .next t ∧
      t.rigs = { s.rigs with
        state := if (verifyImage s.rigs.image (s.verifyCtx hashOk)).rule = 0 then .verified else .refused } ∧
      ({ s with rigs := t.rigs } : State).OnlyHalyard t) ∧
    (∀ e, s.snap.frozenAt = some e → e + 2 ≤ s.step → ∃ t, exec .snapshotEvent s = .next t ∧
      t.snap = { s.snap with frozenAt := none } ∧ ({ s with snap := t.snap } : State).OnlyHalyard t) ∧
    (s.step % (10 * s.rate) = 0 → healthMode s.md.mode = true → ∃ t, exec .healthEvent s = .next t ∧
      ({ s with freeCount := s.freeCount + 4 } : State).OnlyHalyard t)

/-- The first scheduled command that is due is taken from the queue at its step: one that its seat's role or the mode no
longer permits is dropped with no other effect, and a RAMP_DEFAULT_SET becomes the default; a commit that reaches the Stoker
in time is held there and the reply goes out, a late one is discarded and flagged, and so is one whose command has been
applied meanwhile (R62, R63, R67, R171, R172, R633, R634). -/
def Obligations.ScheduledCommandsFallDue : Prop :=
  ∀ (s : State) (c : SchedCmd),
    (s.captain.isSome = true → s.firstDue (fun _ => true) = some c →
      let u := { s.hal with sched := s.hal.sched.filter (fun x => x.order != c.order) }
      (∃ t, exec .effectiveStepApply s = .next t ∧ t.step = s.step) ∧
      (c.stokerHolds = true → c.due = none →
        (∀ st, s.recheck c = some st → (c.code / 256 = 5 ∨ c.code / 256 = 6) → c.code ≠ 0x0504 →
          Brings .effectiveStepApply s { s with hal := u }) ∧
        (s.recheck c = none → c.code = 0x0504 → exec .effectiveStepApply s = .next { s with hal := { u with
          rampDefault := c.aux, rampDefaults := s.hal.rampDefaults.filter (fun r => decide (c.order ≤ r.order)) } }))) ∧
    (∀ k, s.captain = some k → s.tst k.other = .stoker → s.tan.stay.up = true →
      (s.mt k.other).lateDiscard.contains c.order = false →
      (s.hal.sched.find? (fun x => x.order == c.order) = some c → c.stokerHolds = false →
        let held (hold : Bool) : State := { s with hal := { s.hal with sched := s.hal.sched.map (fun x =>
          if x.order == c.order then { x with stokerHolds := hold, due := none } else x) } }
        (s.step + 4 ≤ c.effStep → ∃ t, exec (.commitReceived c.order none) s = .next t ∧ (held true).OnlyHalyard t ∧
          (c.due = none → t = held true)) ∧
        (c.effStep < s.step + 4 → (s.mt k.other).flags.length < 4096 →
          ∃ t, exec (.commitReceived c.order none) s = .next t ∧ c.order ∈ (t.mt k.other).lateDiscard ∧
            (t.mt k.other).flags = (s.mt k.other).flags ++ [{ kind := .lateCommit, step := c.effStep }] ∧
            ((held false).setMt k.other (t.mt k.other)).OnlyHalyard t)) ∧
      (∀ eff, s.hal.sched.find? (fun x => x.order == c.order) = none →
        (s.mt k.other).missed.find? (fun x => x.1 == c.order) = some (c.order, eff) → (s.mt k.other).flags.length < 4096 →
        ∃ t, exec (.commitReceived c.order none) s = .next t ∧ t = s.setMt k.other (t.mt k.other) ∧
          (t.mt k.other).flags = (s.mt k.other).flags ++ [{ kind := .lateCommit, step := eff }]))

/-- Digests (R24, R64 to R68): what the peer formed arrives over the Stay link; where the digests of a step agree, nothing
moves and both masts have compared it; a mismatch takes the Stoker out of step, and never the Captain; a region that has not
formed its digest is a report on its own mast. -/
def Obligations.DigestsCompare : Prop :=
  ∀ (m c : Mast) (n g : Nat) (s : State),
    (∀ d, (s.mt m.other).own.find n = some d → s.tan.stay.up = true → (∀ k ∈ (s.mt m).peer, k.1 < n) →
      ∃ t, exec (.digestReceived m n) s = .next t ∧ t = s.setMt m { s.mt m with peer := (t.mt m).peer } ∧
        (t.mt m).peer.find n = some d) ∧
    (s.captain = some c → s.inTandem = true → s.digestMode = true → (s.mt c).compared < n → n ≤ s.step →
      ((s.mt c).own.find n).isSome = true → n + 2 ≤ s.step ∨ s.allArrived n = true →
      ((s.mt c).compare n = ([], []) → ∃ t, exec (.digestCompare n) s = .next t ∧ t.tst c = .captain ∧ t.tst c.other = .stoker ∧
        (t.mt c).compared = n ∧ (t.mt c).timeouts = List.replicate 8 0) ∧
      (((s.mt c).compare n).1 ≠ [] → ∃ t, exec (.digestCompare n) s = .next t ∧ t.tst c = .captain ∧
        (t.tst c.other = .joining ∨ t.tst c.other = .out))) ∧
    (s.serves m = true → s.formsDigests = true →
      (g < 4 → exec (.stepFailure m g) s = .next ((s.bump m (digestCounter g 0) 1).report m 0x07 (0x60000000 + g))) ∧
      (4 ≤ g → g < 8 → exec (.stepFailure m g) s = .next (s.report m 0x26 (0x60000000 + g))))

/-! ### Roles, the Stay link and joining (R45, R70 to R85, R217, R409, R627) -/

/-- A switch-over (R79 to R83): TAKE_CAPTAIN makes the Stoker CAPTAIN with TL_TAKE high, beside the yielding one;
RELEASE_DRIVERS ends the overlap, and the old Captain becomes STOKER after a planned swap, else it goes OUT and boots;
ABRUPT_TAKEOVER makes the Stoker CAPTAIN and the dead mast OUT; a steering ball that reads wrong is a report (R627). -/
def Obligations.RolesMove : Prop :=
  ∀ (m ball : Mast) (s : State),
    (s.tst m = .stoker → s.isCaptain m.other = true → (s.mt m.other).yields = true →
      ∃ t, exec (.takeCaptain m) s = .next t ∧ t.tst m = .captain ∧ t.tst m.other = .captain ∧ t.captain = some m ∧
        (t.mt m).takes = true ∧ (t.mt m).steer = false ∧ (t.mt m.other).yields = true) ∧
    (s.isCaptain m = true → (s.mt m).yields = true → s.isCaptain m.other = true → (s.mt m.other).takes = true →
      ∃ t, exec (.releaseDrivers m) s = .next t ∧ t.tst m.other = .captain ∧ (t.mt m.other).steer = true ∧
        (t.mt m.other).takes = false ∧ t.tan.lastSwitchStep = s.step ∧
        (s.tan.planned = true → t.tst m = .stoker ∧ t.tan.lastCause = 2 ∧ t.tan.planned = false) ∧
        (s.tan.planned = false → t.tst m = .out ∧ t.tan.lastCause = 0 ∧ ((s.sup.get m).hot = false → t.md.nest.resets.head? =
          some { cause := (s.tan.resetCause.get m).getD 6, mast := m.code, bootCount := s.md.bootCount, rtc := s.md.nest.rtc }))) ∧
    (s.tst m = .stoker → s.isCaptain m.other = true → s.tan.stay.up = false →
      ∃ t, exec (.abruptTakeover m true true) s = .next t ∧ t.tst m = .captain ∧ t.tst m.other = .out ∧
        t.tan.lastSwitchStep = s.step ∧ t.tan.lastCause = 1 ∧ t.tan.join = none ∧ (t.md.boot.get m.other).powerGood = false) ∧
    (s.mastOn m = true →
      exec (.steerReadbackFault m ball) s = .next ((s.bump m 0x010B 1).report m 0xA4 (0xF0000000 + ball.code)))

/-- The Stay link (R74, R84, R85, R409): it comes up where both receivers are good; at its loss, which either mast may
declare (model's choice, log entry 96), a report follows, a join in progress is abandoned, and the Stoker claims the role;
at the arbitration a Captain that has held on keeps the role and the claimant goes OUT, else the claimant is CAPTAIN; a mast
that is OUT joins once the link has been up for 1 s. -/
def Obligations.StayLinkMoves : Prop :=
  ∀ (m : Mast) (s : State),
    let x := s.tan.stay
    (x.up = false → s.stayGood .a = true → s.stayGood .b = true →
      exec .stayLinkUp s = .next { s with tan := { s.tan with stay := { x with up := true, upSince := s.now } } }) ∧
    (s.stayBad m = true → s.mastOn m = true →
      (x.up = true → ∃ t, exec (.stayLinkDown m) s = .next t ∧ t.tan.stay.up = false ∧ t.tan.join = none ∧
        (t.ct m).read 0x47 = satAdd64 ((s.ct m).read 0x47) 1 ∧
        (∀ k, s.tan.join = none → s.tst k = .stoker → s.isCaptain k.other = true → x.claim = none → s.md.mode ≠ .lockout →
          t.tan.stay.claim = some k ∧ t.tan.stay.claimAt = s.now ∧ (t.mt k).steer = true ∧ (t.mt k).drive.single = true)) ∧
      (∀ k, x.up = false → s.tst k = .stoker → s.isCaptain k.other = true → x.claim = none → s.md.mode ≠ .lockout →
        ∃ t, exec (.stayLinkDown m) s = .next t ∧ t = { s with tan := t.tan } ∧ t.tan.stay.claim = some k ∧
          (t.mt k).steer = true ∧ (t.mt k).drive.single = true)) ∧
    (x.claim = some m → x.claimAt + 256 * Config.xoCycle ≤ s.now → s.tst m = .stoker → s.isCaptain m.other = true →
      let o := s.mt m.other
      (x.holdStayed = true → o.lines.hold0 = true → o.lines.hold1 = true → o.steer = true →
        ∃ t, exec .stayArbitration s = .next t ∧ t.tst m = .out ∧ t.tst m.other = .captain ∧ t.tan.stay.claim = none) ∧
      (x.holdStayed = false → ∃ t, exec .stayArbitration s = .next t ∧ t.tst m = .captain ∧ t.tst m.other = .out ∧
        t.tan.stay.claim = none ∧ t.tan.lastSwitchStep = s.step)) ∧
    (x.up = true → x.upSince + Config.second ≤ s.now → s.canJoin m = true → s.tan.heldUntil.get m = none →
      ((s.tan.joinTimes.get m).filter (fun t => decide (s.now < t + 60 * Config.second))).length < 4 →
      ∃ t, exec .stayRejoinTimer s = .next t ∧ t.tst m = .joining ∧ t.tst m.other = .captain ∧ t.tan.join = some
        { mast := m, preload := false, decision := s.step, slowAt := none, pass := 0, attempts := 0, joinStep := none,
          joined := false })

/-- A join goes on (R70 to R75): after the preload the passes run; where the rest fits, or at the bound of R72, J is named 4
steps ahead and the commits for J or later go with the rest, else another pass starts; at J the mast holds the Captain's
datapath; at J + 3 it is STOKER where the digests of J agree, else it tries once more; a mast held OUT for 60 s makes one
attempt. -/
def Obligations.JoinsProceed : Prop :=
  ∀ (s : State) (m : Mast),
    (∀ j, s.tan.join = some j →
      (j.preload = true → exec .slotPreloadEnd s =
        .next { s with tan := { s.tan with join := some { j with preload := false, decision := s.step,
                                                                 slowAt := if 24 ≤ s.stayAligned j.mast then none else some s.step } } }) ∧
      (j.preload = false → j.joinStep = none → ∀ fits,
        let last := fits || decide (j.limit ≤ s.step + 4)
        ∃ t, exec (.copyPassEnd fits) s = .next t ∧
          t.tan = { s.tan with join := some { j with pass := j.pass + 1, joinStep := if last then some (s.step + 4) else none } } ∧
          t.dp.get j.mast = s.dp.get j.mast.other ∧ t.dp.get j.mast.other = s.dp.get j.mast.other ∧ t.step = s.step ∧
          (last = true → ∀ c ∈ t.hal.sched, s.step + 4 ≤ c.effStep → c.stokerHolds = true)) ∧
      (∀ k, j.joinStep = some k →
        (j.joined = false → k ≤ s.step + 1 → ∃ t, exec .joinStep s = .next t ∧ t.tan.join = some { j with joined := true } ∧
          t.dp.get j.mast = s.dp.get j.mast.other ∧ t.dp.get j.mast.other = s.dp.get j.mast.other ∧
          (t.vid.get j.mast).outputs = (s.vid.get j.mast.other).outputs ∧ t.tst m = s.tst m ∧
          (∀ f ∈ (t.mt m).flags, k ≤ f.step)) ∧
        (j.joined = true → k + 3 ≤ s.step + 1 →
          (s.digestsAgree k = true → ∃ t, exec .stokerRejoin s = .next t ∧ t.tst j.mast = .stoker ∧ t.tan.join = none) ∧
          (s.digestsAgree k = false → j.attempts = 0 → ∃ t, exec .stokerRejoin s = .next t ∧ t.tst j.mast = .joining ∧
            t.tan.join = some { mast := j.mast, preload := false, decision := s.step, slowAt := none, pass := 0,
                                attempts := 1, joinStep := none, joined := false }) ∧
          (s.digestsAgree k = false → j.attempts ≠ 0 → ∃ t, exec .stokerRejoin s = .next t ∧ t.tst j.mast = .out ∧
            t.tan.join = none)))) ∧
    (∀ x, s.tan.heldUntil.get m = some x → x ≤ s.now →
      (s.canJoin m = true → ∃ t, exec (.joinHoldExpiry m) s = .next t ∧ t.tst m = .joining ∧ t.tan.heldUntil.get m = none) ∧
      (s.canJoin m = false → exec (.joinHoldExpiry m) s =
        .next { s with tan := { s.tan with heldUntil := s.tan.heldUntil.set m none } }))

/-! ### The fault collector and the memories (R483 to R503, R519 to R529, R581) -/

/-- FAULT_REPORT of a source that does not escalate, at Reef 0 to 2 (R484, R488, R494): it counts; outside a burst it goes
to the log writer's queue with its site, class and step; within 1 ms of its source's last report it is coalesced. The log
(R492 to R494): the log writer takes the oldest report into the log under the next ENTRY_ID, where a slot qualifies, and
else the report is lost and counted; a burst that has been quiet for 1 ms closes, with a summary of what it coalesced. -/
def Obligations.ReportsReachTheLog : Prop :=
  (∀ (m : Mast) (src site step cls : Nat) (late : Bool) (s : State),
     let own := if packageSource src then s.lead else m
     s.md.mode ≠ .vault → (s.md.boot.get m).powerGood = true → knownSource src = true → escalates src = false →
     s.classOf m src site late = some cls → cls ≤ 2 →
       ((s.fl own).bursts.find src = none → (s.fl own).queue.length < 64 →
         ∃ t, exec (.faultReport m src site step late) s = .next t ∧ t = { s with flt := t.flt, ctr := t.ctr } ∧
           (t.ct own).read src = satAdd64 ((s.ct own).read src) 1 ∧
           ∃ q, (t.fl own).queue = (s.fl own).queue ++ [q] ∧ q.source = src ∧ q.reef = cls ∧ q.site = site ∧ q.step = step ∧
             q.count = 1 ∧ q.escalated = false) ∧
       (∀ b, s.burstOf own src = some b →
         ∃ t, exec (.faultReport m src site step late) s = .next t ∧ t = { s with flt := t.flt, ctr := t.ctr } ∧
           (t.ct own).read src = satAdd64 ((s.ct own).read src) 1 ∧ (t.fl own).queue = (s.fl own).queue ∧
           (t.fl own).bursts.find src =
             some { b with last := s.now, coalesced := b.coalesced + 1, site := site, level := cls, step := step })) ∧
  (∀ (m : Mast) (s : State),
     (∀ q rest, (s.fl m).queue = q :: rest →
       (∀ room, logRoom (s.fl m).log = some room → ∃ t e, exec (.logWrite m) s = .next t ∧ (t.fl m).queue = rest ∧
         (t.fl m).log = room ++ [e] ∧ e.id = (s.fl m).nextId ∧ e.source = q.source ∧ e.reef = q.reef ∧ e.site = q.site ∧
         e.step = q.step ∧ e.count = q.count ∧ e.acked = false ∧ (t.fl m).nextId = nextEntryId (s.fl m).nextId ∧
         (t.ct m).read 0x0100 = satAdd64 ((s.ct m).read 0x0100) 1) ∧
       (logRoom (s.fl m).log = none → ∃ t, exec (.logWrite m) s = .next t ∧ (t.fl m).queue = rest ∧
         (t.fl m).log = (s.fl m).log ∧ (t.ct m).read 0x0101 = satAdd64 ((s.ct m).read 0x0101) 1)) ∧
     (∀ src b, (s.fl m).bursts.find src = some b → b.last + Config.msec ≤ s.now →
       ∃ t, exec (.burstClose m src) s = .next t ∧ (t.fl m).bursts.find src = none ∧
         (b.coalesced = 0 → (t.fl m).queue = (s.fl m).queue) ∧
         (b.coalesced ≠ 0 → (s.fl m).queue.length < 64 → ∃ q, (t.fl m).queue = (s.fl m).queue ++ [q] ∧ q.source = src ∧
           q.summary = true ∧ q.count = b.coalesced ∧ q.reef = b.level)))

/-- The reactions of the reef levels (R128, R487, R491): Reef 3 on a Stoker takes it OUT and resets it, on a Captain in
Tandem raises TL_YIELD with the reset to come, and on a Captain alone is bare poles; level 4 is bare poles, with the source
in the lockout record. -/
def Obligations.ReefLevelsReact : Prop :=
  ∀ (m : Mast) (src site step : Nat) (late : Bool) (s : State),
    s.md.mode ≠ .vault → s.md.mode ≠ .lockout → (s.md.boot.get m).powerGood = true → knownSource src = true →
      (s.classOf m src site late = some 3 →
        (s.tst m = .stoker → s.isCaptain m.other = true → (s.mt m.other).yields = false →
          ∃ t, exec (.faultReport m src site step late) s = .next t ∧ t.tst m = .out ∧
            t.tst m.other = .captain ∧ t.md.mode = s.md.mode ∧ ((s.sup.get m).hot = false → t.md.nest.resets.head? = some
              { cause := if src = 0x82 then 7 else 6, mast := m.code, bootCount := s.md.bootCount, rtc := s.md.nest.rtc })) ∧
        (s.tst m = .captain → s.inTandem = true → ∃ t, exec (.faultReport m src site step late) s = .next t ∧
          t.tst m = .captain ∧ (t.mt m).yields = true ∧ (t.mt m).drive.liveSafe = true ∧ (t.mt m).drive.packets = false ∧
          t.tan.resetCause.get m = some (if src = 0x82 then 7 else 6) ∧ t.tan.planned = false ∧ t.tan.switchSource = src) ∧
        (s.tst m = .captain → s.inTandem = false → s.isCaptain m.other = false → ∃ t, exec (.faultReport m src site step late) s = .next t ∧
          t.md.mode = .lockout ∧ t.md.nest.lockout.source = 0xA2)) ∧
      (s.classOf m src site late = some 4 → ∃ t, exec (.faultReport m src site step late) s = .next t ∧
        t.md.mode = .lockout ∧ t.md.nest.lockout.valid = true ∧ t.md.nest.lockout.mode = s.md.mode.code ∧
        t.md.nest.lockout.source = (if src ≥ 0xF0 ∨ src = 0xA3 then 0xFFFF else src) ∧ t.hal.sched = [] ∧
        (∀ k, (t.mt k).drive.allSafe = true ∧ (t.mt k).drive.packets = false))

/-- Memory faults (R248 to R250, R497 to R503, R519 to R521, R529, R581): a scrub read reports what the code finds; a test
that passes is a transient, and one of a row that fails takes the lowest free spare; a row copy ends; a pending entry
reaches OTP; a march that finds nothing ends its test with RESULT 0 (MARCH_DONE, R526); writes go on after a hold-off; the
alert is loaded again from flash. -/
def Obligations.MemoryFaultsAct : Prop :=
  ∀ (m : Mast) (s : State),
    let x := s.mem.get m
    (∀ memory bank row word, memory ≤ 0x30 → (memory < 0x24 → s.md.mixOn.get m = true) → (memory < 0x24 ∨ 0x28 ≤ memory) →
      memory ≠ 0x29 → s.md.mode ≠ .vault → bank < 16 → row < 65536 →
      let site := 0x30000000 + memory * 2 ^ 20 + bank * 2 ^ 16 + row
      (rsDecode word = .clean → exec (.scrubRead m memory bank row word) s = .next s) ∧
      (∀ w, rsDecode word = .corrected w → exec (.scrubRead m memory bank row word) s =
        .next ((s.bump m (0x0200 + 2 * memory) 1).report m (readSources memory).1 site)) ∧
      (rsDecode word = .uncorrectable → exec (.scrubRead m memory bank row word) s =
        .next ((s.bump m (0x0200 + 2 * memory + 1) 1).report m (readSources memory).2 site))) ∧
    (∀ t0, (s.fl m).tests.find? (fun t => t.site == t0.site) = some t0 →
      (siteKind t0.site ≠ 5 → ((s.fl m).history.any (fun h => h.1 == t0.site && decide (s.now ≤ h.2 + 86400 * Config.second))) = false →
        ∃ t, exec (.targetedTestResult m t0.site true) s = .next t ∧ t = { s with flt := t.flt, ctr := t.ctr } ∧
          (t.fl m).tests = (s.fl m).tests.filter (fun y => y.site != t0.site) ∧ (t0.site, s.now) ∈ (t.fl m).history ∧
          (t.ct m).read 0x0106 = satAdd64 ((s.ct m).read 0x0106) 1) ∧
      (∀ memory bank row sp, t0.site = 0x30000000 + memory * 2 ^ 20 + bank * 2 ^ 16 + row → memory ≤ 0x30 → bank < 16 →
        row < 65536 → x.freeRow memory bank = some sp → (s.fl m).regs.find (retiredSource memory) = none →
        (∀ e ∈ x.repair, ¬ (e.typ = 1 ∧ e.memory = memory ∧ e.bank = bank ∧ e.index = row)) →
        ∃ t, exec (.targetedTestResult m t0.site false) s = .next t ∧ t = { s with flt := t.flt, ctr := t.ctr, mem := t.mem } ∧
          (t.mem.get m).repair = x.repair ++
            [{ typ := 1, memory := memory, bank := bank, spare := sp, index := row, pending := true, inOtp := false,
               inNest := true }] ∧
          (t.ct m).read 0x0107 = satAdd64 ((s.ct m).read 0x0107) 1)) ∧
    (∀ site, exec (.rowCopyEnd m site) s =
      .next (s.setFl m { s.fl m with copies := (s.fl m).copies.filter (fun c => c.1 != site) })) ∧
    (∀ i e, s.writesHeld m = false → x.repair.findIdx? (fun y => y.pending) = some i → x.repair[i]? = some e →
      ((x.repair.filter (fun y => y.inOtp)).length < 1024 → exec (.otpRepairWrite m) s =
        .next (s.setMem m { x with repair := setAt x.repair i { e with pending := false, inOtp := true } })) ∧
      (1024 ≤ (x.repair.filter (fun y => y.inOtp)).length → x.otpFull < (x.repair.filter (fun y => y.pending)).length →
        exec (.otpRepairWrite m) s = .next ((s.setMem m { x with otpFull := x.otpFull + 1 }).report m 0x97 0))) ∧
    (∀ y, x.march.find? (fun z => z.target == y.target && z.index == y.index) = some y →
      let rest := x.march.filter (fun z => !(z.target == y.target && z.index == y.index))
      ∃ t, exec (.marchDone m y.target y.index [] [] false) s = .next t ∧ (t.mem.get m).march = rest ∧
        (t.mem.get m).repair = x.repair ∧
        (y.destroying = false → t = (s.setMem m { x with march := rest }).eventTo y.seat m.code evTestDone y.hostSeq s.step
          (be 1 0 ++ be 1 0 ++ be 2 (y.target * 256 + y.index % 256) ++ be 4 0))) ∧
    (s.railHold m = false → (s.sup.get m).rails.any (fun r => r.recoveredAt.isSome) = true →
      let u : State := { s with sup := s.sup.set m { s.sup.get m with
        rails := (s.sup.get m).rails.map (fun r => { r with recoveredAt := none }) } }
      exec (.writeHoldoffEnd m false) s = .next u ∧ exec (.writeHoldoffEnd m true) s = .next (u.report m 0x97 0)) ∧
    (∀ p, s.mastOn m = true → s.sec.profile = some p → exec (.fallbackMemoryCheck m false true) s =
      .next (s.setMem m { x with alert := s.alertFor m p.alertHash }))

/-- An event reaches every seat that wants its group, once: it takes the seat's next device sequence and stands last in its
ledger; the other seats keep theirs (R159, R162, R163). -/
def Obligations.EventsReachTheSeats : Prop :=
  ∀ (s : State) (origin code n : Nat) (fields : List Byte), n < 8 → n < s.hal.seats.length →
    (((s.seat n).wants code = true → ∃ e ∈ ((s.event origin code fields).seat n).ledger, e.kind = 3 ∧ e.opcode = code ∧
        e.effStep = s.step ∧ e.devSeq = ((s.seat n).devSeq + 1) % 2 ^ 32 ∧
        (s.keysLast → ((s.event origin code fields).seat n).devSeq = ((s.seat n).devSeq + 1) % 2 ^ 32 ∧
          ((s.event origin code fields).seat n).ledger.getLast? = some e)) ∧
    ((s.seat n).wants code = false → (s.event origin code fields).seat n = s.seat n))

/-! ### Audio from outside (R49 to R58, R307 to R314, R324 to R333, R343, R354, R355, R388) -/

/-- Network audio (R49 to R52, R91, R324 to R328, R343, R354, R355, R388): a bad frame is discarded and counted; a packet
that the flow table gives to a stream is counted and held, a malformed one and a duplicate are only counted, and one with no
entry is a miss; a packet that is two steps overdue is asked of the peer, which queues it; the packet so forwarded, or one
that the Primary supplies, is held; at its deadline a packet is merge-late where the peer holds it, and else lost; the
eighth in a row returns the stream to STATE 1; held port events and misses show at most once a second. -/
def Obligations.NetworkAudioArrives : Prop :=
  ∀ (m : Mast) (r : RtpFacts) (samples : List (List Int)) (est : Nat) (s : State), s.receives m = true →
    (s.hears m r.frame.port = true →
      let u := s.bump m (0x0400 + 8 * r.frame.port + 7) 1
      (s.frameBad m r.frame = true → exec (.audioPacketRx m r samples est) s = .next (u.bump m (0x0400 + 8 * r.frame.port + 4) 1)) ∧
      (s.frameBad m r.frame = false →
        ((s.vid.get m).lookup r = none → exec (.audioPacketRx m r samples est) s = .next (u.flowMiss m r)) ∧
        (∀ i e x, (s.vid.get m).lookup r = some (i, e) → e.typ = 3 → s.rxOf m (e.owner - 0x8000) = some x →
          let st := e.owner - 0x8000
          let p : HeldPacket := { seq := r.seq % 65536, ts := r.ts % 2 ^ 32, at' := s.step, samples := samples }
          let whole := x.samples * x.channels * (if x.l16 then 2 else 3)
          ((r.version ≠ 2 ∨ r.extras = true ∨ r.payloadLen ≠ whole) → exec (.audioPacketRx m r samples est) s =
            .next ((u.bump m (0x4000 + 2 * i) 1).bump m (sourceCounter 2 st + 3) 1)) ∧
          (r.version = 2 → r.extras = false → r.payloadLen = whole → x.holds p.seq p.ts = true →
            exec (.audioPacketRx m r samples est) s = .next ((u.bump m (0x4000 + 2 * i) 1).bump m 0x6001 1)) ∧
          (r.version = 2 → r.extras = false → r.payloadLen = whole → x.holds p.seq p.ts = false →
            x.async = true ∨ x.arrivalStep s.rate s.step p.ts ≤ s.step + 2 * packetSteps s.rate x.samples x.hz →
            s.step ≤ x.lastStep s.rate p →
            ∃ t y, exec (.audioPacketRx m r samples est) s = .next t ∧ t.rxOf m st = some y ∧ p ∈ y.held ∧ y.missing = 0 ∧
              (t.ct m).read (0x4000 + 2 * i) = satAdd64 ((s.ct m).read (0x4000 + 2 * i)) 1 ∧
              ((t.aud.get m).report 2 st).state = 2)))) ∧
    (∀ st seq x, s.rxOf m st = some x →
      (s.sharing = true → x.overdue s.rate s.step seq = true → exec (.packetExpectedTimeout m st seq) s =
        .next (s.setAud m ((s.aud.get m).notice [(st, seq)]))) ∧
      (s.sharing = false → exec (.packetExpectedTimeout m st seq) s = .next s) ∧
      (∀ p, x.held.find? (fun q => q.seq == seq) = some p → s.sharing = true →
        ∃ t, exec (.gapNoticeRx m false st seq) s = .next t ∧ t = { s with aud := t.aud } ∧
          t.aud.get m = { s.aud.get m with forwards := (s.aud.get m).forwards ++ [(st, p)] } ∧
          (st, seq) ∉ (t.aud.get m.other).notices) ∧
      (∀ f, (s.aud.get m.other).forwards.find? (fun f => f.1 == st && f.2.seq == seq) = some f → s.sharing = true →
        x.holds f.2.seq f.2.ts = false → s.step ≤ x.lastStep s.rate f.2 →
        ∃ t y, exec (.forwardedPacketRx m st seq none) s = .next t ∧ t.rxOf m st = some y ∧ f.2 ∈ y.held ∧
          (t.aud.get m.other).forwards = (s.aud.get m.other).forwards.filter (fun g => !(g.1 == st && g.2.seq == seq)) ∧
          (st, seq) ∉ (t.aud.get m).notices) ∧
      (∀ p : HeldPacket, s.tracks = true → (s.lan.get m).shroudUp = true → x.holds p.seq p.ts = false →
        s.step ≤ x.lastStep s.rate p → ∃ t y, exec (.forwardedPacketRx m st seq (some p)) s = .next t ∧
          t.rxOf m st = some y ∧ p ∈ y.held) ∧
      ((∀ p ∈ x.held, p.seq ≠ seq) →
        (∀ y, s.rxOf m.other st = some y → s.serves m.other = true → (∃ p ∈ y.held, p.seq = seq) →
          exec (.packetDeadline m st seq) s = .next (((s.bump m (sourceCounter 2 st + 2) 1).bump m 0x6007 1).flag m
            .mergeLate s.step s.window)) ∧
        (s.serves m.other = false → ∃ t, exec (.packetDeadline m st seq) s = .next t ∧
          t.rxOf m st = some { x with missing := x.missing + 1 } ∧
          (t.ct m).read (sourceCounter 2 st) = satAdd64 ((s.ct m).read (sourceCounter 2 st)) 1 ∧
          (x.missing = 7 → ((t.aud.get m).report 2 st).state = 1)))) ∧
    (∀ cls idx x, ((s.aud.get m).report cls idx).last = some x → ((s.aud.get m).report cls idx).held = true →
      x + Config.second ≤ s.now → ∃ t, exec (.audioPortEventDeferred m cls idx) s = .next t ∧
        t.aud = s.aud.set m
          { s.aud.get m with reports := (s.aud.get m).reports.put (portKey cls idx)
                               { (s.aud.get m).report cls idx with last := some s.now, held := false } } ∧
        ({ s with aud := t.aud } : State).OnlyHalyard t) ∧
    ((s.vid.get m).misses ≠ 0 → (∀ x, (s.vid.get m).missAt = some x → x + Config.second ≤ s.now) →
      ∃ t, exec (.flowMissEvent m) s = .next t ∧
        t.vid = s.vid.set m { s.vid.get m with misses := 0, missAt := some s.now } ∧
        ({ s with vid := t.vid } : State).OnlyHalyard t)

/-- Captures (R55 to R58, R307, R310 to R314, R321, R332, R333, R633): a frame of an enabled input is numbered, the Captain
gives it the step it begins in, and bad halves are missing samples; a copy that comes after its assignment takes its place;
the Stoker gives its copies the Captain's steps and takes its estimates, and flags a copy with an error that the Captain's
lacks, and an estimate that comes late; lock and its loss change the input and its port's STATE; an input with lock on one
mast only for 10 s is single-homed, and a report. -/
def Obligations.CapturesArrive : Prop :=
  ∀ (m : Mast) (port : Nat) (s : State) (x : AesIn), (s.aud.get m).aesIn[port]? = some x →
    (∀ f, f.port = port → x.enabled = true → s.live m = true →
      ∃ t y, exec (.aes3FrameRx m f) s = .next t ∧ (t.aud.get m).aesIn[port]? = some y ∧ y.frames = x.frames + 1 ∧
        ((∀ c ∈ x.caps, c.index ≠ x.frames) → ∃ c, y.caps = x.caps ++ [c] ∧ c.index = x.frames ∧ c.phase = f.phase ∧
          c.step = (if s.assigns m then some s.step else none) ∧
          (f.lineOk = true → f.leftOk = true → f.rightOk = true →
            c.samples = [some (clampSigned 24 f.left), some (clampSigned 24 f.right)]) ∧
          (f.lineOk = false → c.samples = [none, none] ∧ c.bad = 2)) ∧
        (∀ c ∈ x.caps, c.index = x.frames → 3 ≤ c.bad → ∃ d ∈ y.caps, d.index = x.frames ∧ d.step = c.step ∧ d.bad < 3)) ∧
    (∀ c : CaptureNote, c.cls = 0 → c.port = port → s.tst m = .stoker → s.tracks = false →
      (s.aud.get m.other).sent.contains c = true → s.step < c.step + s.fence →
      ∃ t y, exec (.captureAssignmentRx m c) s = .next t ∧ (t.aud.get m).aesIn[port]? = some y ∧
        (∀ d ∈ y.caps, d.index = c.index → d.step = some c.step) ∧ (∃ d ∈ y.caps, d.index = c.index) ∧
        c ∉ (t.aud.get m.other).sent ∧
        ((∀ d ∈ x.caps, d.index = c.index → d.bad = 0) → (t.mt m).flags = (s.mt m).flags) ∧
        (∀ d, x.caps.find? (fun d => d.index == c.index) = some d → d.bad ≠ 0 → c.bad = false → (s.mt m).flags.length < 4096 →
          (t.mt m).flags = (s.mt m).flags ++ [{ kind := .captureError, step := c.step }])) ∧
    (∀ step ratio, s.assigns m = false →
      (s.step < step + 16 → ∃ t, exec (.asrcEstimateRx m 0 port step ratio) s = .next t ∧ t = { s with aud := t.aud } ∧
        (t.aud.get m).aesIn[port]? = some { x with feed := { x.feed with ests := x.feed.ests.put step (ratio % 2 ^ 64) } }) ∧
      (step + 16 ≤ s.step → s.live m = true → (s.mt m).flags.length < 4096 →
        ∃ t, exec (.asrcEstimateRx m 0 port step ratio) s = .next t ∧ (t.aud.get m).aesIn[port]? =
          some { x with feed := { x.feed with ests := x.feed.ests.put (s.step + 1 - 16) (ratio % 2 ^ 64) } } ∧
        (t.mt m).flags = (s.mt m).flags ++ [{ kind := .lateCommit, step := step }])) ∧
    (∀ ratio, s.live m = true → x.enabled = true → x.locked = true →
      tracks (ratio % 2 ^ 64) (nominalRatio s.rate (rateHz x.rate)) = true →
      ∃ t y, exec (.asrcLock m 0 port ratio) s = .next t ∧ (t.aud.get m).aesIn[port]? = some { x with feed := y } ∧
        y.locked = true ∧ y.own = ratio % 2 ^ 64 ∧ ((t.aud.get m).report 0 port).state = 2) ∧
    (∀ rate, s.live m = true → x.enabled = true → x.locked = false → rate ≤ 6 →
      ∃ t y, exec (.aes3InputLock m port rate) s = .next t ∧ (t.aud.get m).aesIn[port]? = some y ∧ y.locked = true ∧
        y.rate = rate ∧ y.feed.locked = false ∧ (s.tst m = .captain → y.frames = 0 ∧ y.caps = [])) ∧
    (x.locked = true → ∃ t, exec (.aes3InputUnlock m port) s = .next t ∧ (t.aud.get m).aesIn[port]? =
      some { x with locked := false, rate := 0xFF, feed := { x.feed with locked := false } } ∧
      ((t.aud.get m).report 0 port).state = (if x.enabled then 1 else 0)) ∧
    (s.inTandem = true → port < 16 → s.locksStand 0 port = true →
      let on := (s.aud.get s.lead).single.contains port
      let la := s.inputLocked .a 0 port
      let lb := s.inputLocked .b 0 port
      (on = false → la ≠ lb → exec (.singleHomedChange 0 port) s = .next (((s.changeAud [.a, .b] (fun a =>
        { a with single := a.single ++ [port] })).report (if la then .b else .a) 0xB4 (0x90000000 + port)).singleHomedRigs)) ∧
      (on = true → la = true → lb = true → exec (.singleHomedChange 0 port) s =
        .next (s.changeAud [.a, .b] (fun a => { a with single := a.single.filter (fun k => k != port) })))) ∧
    (∀ p z, (s.aud.get m).sdi.find p.port = some z → s.variant = .v2048V → s.md.mode = .service → bit z.inGroups p.group = true →
      p.group ≤ 3 → s.md.shed.video = false → s.live m = true →
      ∃ t y, exec (.sdiAudioPacket m p) s = .next t ∧ (t.aud.get m).sdi.find p.port = some y ∧
        (∀ ok, p.control = some ok → y.locked = true ∧ y.rateOk = ok ∧
          (ok = false → ((t.aud.get m).report 4 p.port).state = 1)) ∧
        (p.control = none → y.frames = z.frames + 1 ∧ ((∀ c ∈ z.caps, c.index ≠ z.frames) →
          ∃ c, y.caps = z.caps ++ [c] ∧ c.index = z.frames ∧ c.first = 4 * p.group ∧ c.bad = (if p.checksOk then 0 else 1))))

/-! ### Video (R43, R54, R350 to R381) -/

/-- Video inputs (R34, R54, R350, R351, R354 to R357, R359, R363, R388): a bad frame is discarded and counted; a good ST
2110-20 packet reaches the slack buffer of every output its input feeds and a bad one is counted, a packet of a passthrough
input is forwarded, and one with no entry is a miss; a frame with an unrepaired packet is counted once, and shown at most
once a second; a notice queues the packet for the peer; a query is answered with every group kept; a format that is
recognised and an arrival that is measured are the input's. -/
def Obligations.VideoArrives : Prop :=
  ∀ (m : Mast) (r : RtpFacts) (row : VideoRow) (s : State),
    (s.hears m r.frame.port = true → s.frameBad m r.frame = true → exec (.videoPacketRx m r row) s =
      .next ((s.bump m (0x0400 + 8 * r.frame.port + 7) 1).bump m (0x0400 + 8 * r.frame.port + 4) 1)) ∧
    (s.hears m r.frame.port = true → s.frameBad m r.frame = false →
      let u := s.bump m (0x0400 + 8 * r.frame.port + 7) 1
      let v := s.vid.get m
      (v.lookup r = none → exec (.videoPacketRx m r row) s = .next (u.flowMiss m r)) ∧
      (∀ e x, v.lookup r = some (e, x) →
        (x.typ = 0 → (r.version ≠ 2 ∨ r.extras = true ∨ row.headerOk = false ∨ row.within (v.inp x.owner).fmt = false) →
          exec (.videoPacketRx m r row) s = .next ((u.bump m (0x4000 + 2 * e) 1).bump m (0x4000 + 2 * e + 1) 1)) ∧
        (x.typ = 0 → r.version = 2 → r.extras = false → row.headerOk = true → row.within (v.inp x.owner).fmt = true →
          ∃ t, exec (.videoPacketRx m r row) s = .next t ∧
            (t.ct m).read (0x4000 + 2 * e) = satAdd64 ((s.ct m).read (0x4000 + 2 * e)) 1 ∧
            (∀ o ∈ v.fedBy x.owner, v.idle = false →
              (t.vid.get m).slack.find o = some (putRow (v.slack.getD o []) row)) ∧
            ((∀ y ∈ s.tests, y.cls ≠ 1) → ∀ o, o ∉ v.fedBy x.owner → (t.vid.get m).slack.find o = v.slack.find o)) ∧
        (x.typ = 1 ∨ x.typ = 2 → ∃ t, exec (.videoPacketRx m r row) s = .next t ∧
          ∀ o ∈ v.fedBy x.owner, ∀ y, v.idle = false → v.tx.find o = some y → bit (fld y.params 2 1) 0 = true →
            (s.mt m).drive.packets = true → s.md.mode ≠ .maintain → ∃ z, (t.vid.get m).tx.find o = some z ∧
              z.params = y.params ∧ z.count = (y.count + 1) % 65536 ∧
              ∃ q, z.sent = [q] ∧ q.seq = y.count % 65536 ∧ q.ts = r.ts % 2 ^ 32 ∧ q.ssrc = fld y.params 4 4))) ∧
    (∀ port ts black, ((s.vid.get m).binding port).isSome = true → 64 ≤ port → port ≤ 1535 → s.serves m = true →
      let old := (s.vid.get m).unrepaired.getD port Unrepaired.none
      let due := old.eventAt.elim true (fun x => decide (x + Config.second ≤ s.now))
      (old.ts = some (ts % 2 ^ 32) → ∃ t, exec (.flowUnrepaired m port ts black) s = .next t ∧ t = { s with ctr := t.ctr } ∧
        (t.ct m).read 0x6008 = (s.ct m).read 0x6008) ∧
      (old.ts ≠ some (ts % 2 ^ 32) → ∃ t, exec (.flowUnrepaired m port ts black) s = .next t ∧
        (t.ct m).read 0x6008 = satAdd64 ((s.ct m).read 0x6008) 1 ∧ (t.vid.get m).unrepaired.find port =
          some { count := old.count + 1, ts := some (ts % 2 ^ 32), eventAt := if due then some s.now else old.eventAt })) ∧
    (∀ port seq x, s.sharing = true → s.receives m = true → (s.vid.get m).seqs.find port = some x →
      (∀ y ∈ x.missing, y.1 ≠ seq) → (x.seq + 65536 - seq) % 65536 < 32768 →
      ∃ t, exec (.gapNoticeRx m true port seq) s = .next t ∧ t = { s with vid := t.vid, lan := t.lan } ∧
        t.lan = s.lan.set m { s.lan.get m with
          videoOut := (s.lan.get m).videoOut ++ [{ port := port, seq := seq, ts := x.ts, bytes := x.bytes }] } ∧
        (port, seq) ∉ (t.vid.get m.other).notices) ∧
    (s.receives m = true → ∃ t, exec (.membershipQuery m) s = .next t ∧
      t.vid = s.vid.set m { s.vid.get m with reported := (s.vid.get m).members.map (fun x => (x, false)) }) ∧
    (∀ i fmt, s.videoRuns = true → Config.hasVideo s.variant = true → i ≤ 1535 → videoAbsent s.variant i = false →
      fmtValid fmt = true → s.isCaptain m = true → 64 ≤ i →
      (fmt = 0 → ∃ t, exec (.formatRecognised m i 0) s = .next t ∧ ∀ k, (t.vid.get k).inp i =
        { (s.vid.get k).inp i with fmt := 0, present := false, arrival := none }) ∧
      (fmt ≠ 0 → fmt < 192 → (s.vid.get m).inType i = 0 → ((s.vid.get m).binding i).isSome = true →
        ∃ t, exec (.formatRecognised m i fmt) s = .next t ∧ ∀ k, (t.vid.get k).inp i =
          { (s.vid.get k).inp i with fmt := fmt, present := true })) ∧
    (∀ i arrival rate slips, i ≤ 1535 → s.live m = true → s.videoRuns = true → ((s.vid.get m).inp i).fmt ≠ 0 →
      ∃ t, exec (.arrivalMeasurement m i arrival rate slips) s = .next t ∧ (t.vid.get m).inp i =
        { (s.vid.get m).inp i with arrival := some arrival, rate := rate, present := true })

/-- Switching (R368 to R375, R379, R381): eight steps before its point the Captain decides an entry and the Stoker takes the
decision, and a Stoker without one decides alone and flags a late commit; at the point the output takes its input, and the
command counts it; a source that stops delivering is black; an overload of the fabric puts the highest outputs into
HOLD_BLACK; a cell error is a report. -/
def Obligations.SwitchesHappen : Prop :=
  ∀ (c : Mast) (o : Nat) (s : State),
    (∀ p, s.captain = some c → nextDue ((s.vid.get c).out o) (s.step + 8) = some p → p.decision = none →
      let d := s.settleSwitch c o p
      ∀ reached, ∃ t, exec (.switchFinalDecision o reached) s = .next t ∧ d.decision.isSome = true ∧
        (∀ q ∈ ((t.vid.get c).out o).pending, q.order = p.order → q.frame = p.frame → q = d) ∧
        (reached = true → ∀ q ∈ ((t.vid.get c.other).out o).pending, q.order = p.order → q.frame = p.frame → q = d) ∧
        (reached = false → t.vid.get c.other = s.vid.get c.other) ∧
        (d.decision = some .refused → ∀ j ∈ s.jobs, j.order = p.order →
          { j with refused := j.refused + 1, left := j.left - 1 } ∈ t.jobs)) ∧
    (∀ m p, s.tst m = .stoker → s.tst m.other ≠ .stoker → nextDue ((s.vid.get m).out o) (s.step + 2) = some p →
      p.decision = none → exec (.stokerOwnSwitchDecision o) s =
        .next ((s.setDecision m o (s.settleSwitch m o p)).flag m .lateCommit s.step s.window)) ∧
    (∀ p, s.captain = some c → nextDue ((s.vid.get c).out o) s.step = some p →
      ((s.vid.get c).out o).pending.find? (fun q => q.order == p.order && q.frame == p.frame) = some p →
      (p.decision = some .clean → ∃ t, exec (.switchPoint o) s = .next t ∧ ((t.vid.get c).out o).input = p.input ∧
        ((t.vid.get c).out o).clean = true ∧ ((t.vid.get c).out o).track = none ∧
        (∀ q ∈ ((t.vid.get c).out o).pending, ¬ (q.order = p.order ∧ q.frame = p.frame)) ∧
        (∀ j ∈ s.jobs, j.order = p.order → ∃ k ∈ t.jobs, k.order = j.order ∧ k.clean = j.clean + 1 ∧ k.left = j.left - 1)) ∧
      (p.decision = some .unclean → ∃ t, exec (.switchPoint o) s = .next t ∧ ((t.vid.get c).out o).input = p.input ∧
        ((t.vid.get c).out o).clean = false ∧ ((t.vid.get c).out o).track = p.track ∧
        (t.ct c).read (outCounter o) = satAdd64 ((s.ct c).read (outCounter o)) 1 ∧
        (∀ j ∈ s.jobs, j.order = p.order → ∃ k ∈ t.jobs, k.order = j.order ∧ k.unclean = j.unclean + 1 ∧ k.left = j.left - 1)) ∧
      (p.decision = some .refused → ∃ t, exec (.switchPoint o) s = .next t ∧
        ((t.vid.get c).out o).input = ((s.vid.get c).out o).input ∧
        (∀ q ∈ ((t.vid.get c).out o).pending, ¬ (q.order = p.order ∧ q.frame = p.frame)))) ∧
    (∀ black k, s.captain = some c → ((s.vid.get c).out o).input ≠ 0xFFFF → (s.vid.get c).idle = false →
      (∃ t, exec (.sourceChange o false black) s = .next t ∧ (t.vid.get k).out o = { (s.vid.get k).out o with black := true }) ∧
      (s.sourceAct c o true = .keep → exec (.sourceChange o true black) s = .next s) ∧
      (s.sourceAct c o true = .resume → ∃ t, exec (.sourceChange o true black) s = .next t ∧
        ((t.vid.get k).out o).black = false ∧ ((t.vid.get k).out o).track = ((s.vid.get k).out o).track) ∧
      (∀ tr f, s.sourceAct c o true = .retrack tr f → ∃ t, exec (.sourceChange o true black) s = .next t ∧
        ((t.vid.get k).out o).input = ((s.vid.get k).out o).input ∧ ((t.vid.get k).out o).black = false ∧
        ((t.vid.get k).out o).clean = false ∧ ((t.vid.get k).out o).track = tr ∧ ((t.vid.get k).out o).fmt = f)) ∧
    (s.captain = some c →
      let v := s.vid.get c
      let gone := v.overloaded ((v.outputs.filter (fun x => x.2.input != 0xFFFF)).map (fun x => x.1)).reverse
        (v.outputs.map (fun x => (x.1, x.2.input, x.2.fmt)))
      (gone = [] → exec .fabricOverload s = .next s) ∧
      (gone ≠ [] → ∃ u : State, exec .fabricOverload s = .next (u.report c 0x27 0xC0000001) ∧
        u = { s with vid := u.vid, ctr := u.ctr } ∧
        ∀ k, (∀ n ∈ gone, (u.vid.get k).out n = ((s.vid.get k).out n).hold) ∧
          ∀ n, n ∉ gone → (u.vid.get k).out n = (s.vid.get k).out n)) ∧
    (∀ m region cell, region ≤ 3 → cell ≤ 391 → s.videoRuns = true → s.live m = true → Config.hasVideo s.variant = true →
      exec (.cellCrcMismatch m region cell) s = .next (s.report m 0x20 (0x40000000 + region * 512 + cell)))

/-! ### Lanes, links and the Reserve (R84, R89 to R98, R394 to R413, R585, R621) -/

/-- Lanes (R394 to R398, R405, R498, R505, R506): a detector that asserts on a lane that is up takes it down with one
report, and one that clears brings it up; bursts of errors and a bring-up of 10 s are reports; a loopback that fails retires
the lane, and a lane in a near-end loopback adds its bit errors; alignment is lock on the lanes of the links, and a FRAME
out of sequence counts; the eyes of the last 10 s are kept. -/
def Obligations.LanesMove : Prop :=
  ∀ (m : Mast) (l : Nat) (s : State),
    let x := s.lane m l
    let site := 0x50000000 + l
    (x.los = false → x.st = .up → ∃ u : State, exec (.laneLos m l true) s = .next (u.report m (laneDownSource l) site) ∧
      u.lane m l = { x with los := true, st := .down } ∧
      (u.ct m).read (0x0400 + 8 * l) = satAdd64 ((s.ct m).read (0x0400 + 8 * l)) 1) ∧
    (x.los = true → x.lol = false → (x.st = .down ∨ x.st = .bringUp) → ∃ t, exec (.laneLos m l false) s = .next t ∧
      t.lane m l = { x with los := false, st := .up, upOnce := true } ∧ t = { s with aud := t.aud, vid := t.vid, lan := t.lan }) ∧
    ((l < 192 ∨ 232 ≤ l) →
      (x.lol = false → x.st = .up → ∃ u : State, exec (.laneLol m l true) s = .next (u.report m (laneDownSource l) site) ∧
        u.lane m l = { x with lol := true, st := .down } ∧
        (u.ct m).read (0x0400 + 8 * l + 1) = satAdd64 ((s.ct m).read (0x0400 + 8 * l + 1)) 1) ∧
      (x.lol = true → x.los = false → (x.st = .down ∨ x.st = .bringUp) → ∃ t, exec (.laneLol m l false) s = .next t ∧
        t.lane m l = { x with lol := false, st := .up, upOnce := true })) ∧
    (∀ second, x.st = .up → exec (.laneErrorBurst m l second) s = .next ((s.bump m (0x0400 + 8 * l +
      (if second = true ∧ l < 128 then 3 else 2)) 10).report m 0x42 site)) ∧
    (∀ n, x.loop = 1 → exec (.laneSelfTestResult m l n) s = .next (s.setLane m l { x with loopErrors := x.loopErrors + n })) ∧
    (∀ t0 n, l < 233 → x.loop ≠ 1 → (s.fl m).tests.find? (fun t => t.site == site) = some t0 → t0.site = site → x.st = .down →
      (s.fl m).history.any (fun h => h.1 == site && decide (s.now ≤ h.2 + 86400 * Config.second)) = false →
      ∃ t, exec (.laneSelfTestResult m l n) s = .next t ∧
        (n = 0 → (t.fl m).tests = (s.fl m).tests.filter (fun y => y.site != site) ∧ (site, s.now) ∈ (t.fl m).history ∧
          (t.ct m).read 0x0106 = satAdd64 ((s.ct m).read 0x0106) 1 ∧ t.lane m l = x) ∧
        (n ≠ 0 → t.lane m l = { x with st := .retired } ∧
          (t.ct m).read 0x0107 = satAdd64 ((s.ct m).read 0x0107) 1)) ∧
    (x.st = .bringUp → x.poweredAt + 10 * Config.second ≤ s.now → exec (.laneBringupTimeout m l) s =
      .next ((s.setLane m l { x with st := .down, bringUpFault := true }).report m 0x44 site)) ∧
    (∀ a seed frame, 192 ≤ l → l < 232 → x.watched = true →
      (x.align = .headerLock → a = .aligned → x.los = false → ∃ t, exec (.laneAligned m l a seed frame) s = .next t ∧
        (t.lane m l).align = .aligned ∧ (t.lane m l).st = .up ∧ (t.lane m l).lol = false ∧
        (t.lane m l).rxFrame = frame % 256 ∧ (t.lane m l).seed = seed % 2 ^ 31) ∧
      (x.align.moves a = true → a ≠ .aligned → x.st = .up → ∃ u : State, exec (.laneAligned m l a seed frame) s =
        .next (u.report m (laneDownSource l) site) ∧ u.lane m l = { x with align := a, lol := true, st := .down }) ∧
      (x.align = .aligned → a = .aligned → frame % 256 ≠ (x.rxFrame + 1) % 256 → exec (.laneAligned m l a seed frame) s =
        .next ((s.bump m (0x0400 + 8 * l + 5) 1).setLane m l { x with rxFrame := frame % 256, seed := seed % 2 ^ 31 })) ∧
      (x.align = .hunt → a = .aligned → exec (.laneAligned m l a seed frame) s = .next s)) ∧
    (∀ v h, x.watched = true → (∀ e, x.eyes.head? = some e → e.1 + Config.second ≤ s.now) →
      ∃ t, exec (.eyeMeasurement m l v h) s = .next t ∧ t.lane m l = { x with
          eyes := (s.now, v, h) :: x.eyes.filter (fun e => decide (s.now ≤ e.1 + 10 * Config.second)) } ∧
        (x.eyes = [] → (t.ct m).gauges.find (0x6100 + 4 * l) = some (v : Int) ∧
          (t.ct m).gauges.find (0x6100 + 4 * l + 1) = some (h : Int)))

/-- R404: the line bits that the transmitter sends after a run of `c` bits. After every run of 24 comes a bit of the
opposite value, so that no run exceeds 24; and what it sends besides is the bits themselves, all of them in order. -/
def Obligations.LineRunsStayShort : Prop :=
  ∀ (bits : List Bool) (last : Bool) (c : Nat), c ≤ 23 →
    let line := List.replicate c last ++ stuff bits last c
    (∀ l r b, line = l ++ List.replicate 24 b ++ r → ∃ r', r = (!b) :: r') ∧
    (∀ n b, List.replicate n b <:+: line → n ≤ 24) ∧
    unstuff (stuff bits last c) last c = bits

/-- The Stay and Shroud links (R84, R94, R401 to R413, R585): a marker takes a new seed that is never zero; a container of
the expected SEQ is delivered, one beyond a gap is held, a second copy is dropped, bad ones are counted, and missing ones
are skipped after 4 µs; TANDEM blocks and, under a link key, BEATs go out on the aligned lanes in turn; the Shroud link
comes up on 4 lanes and a BEAT, and its loss is a report and ends its keys; a HELLO that checks makes a new link key of both
nonces, and 2^40 containers ask for another. -/
def Obligations.LinksCarry : Prop :=
  ∀ (m : Mast) (l : Nat) (s : State),
    let x := s.lane m l
    let y := s.lan.get m
    (192 ≤ l → l < 232 → x.watched = true → ∃ t seed, exec (.markerSend m l) s = .next t ∧ 1 ≤ seed ∧ seed < 2 ^ 31 ∧
      t.lane m l = { x with txFrame := (x.txFrame + 1) % 256, txSeed := seed } ∧ t.freeCount = s.freeCount + 1) ∧
    (∀ cls seq blocks tag beat, 192 ≤ l → l < 232 → x.align = .aligned → x.st = .up → blocks ≠ [] →
      (startOk cls (blocks.length - 1) = false → exec (.containerRx m l cls seq blocks tag beat) s =
        .next (s.bump m (0x0400 + 8 * l + 3) 1)) ∧
      (startOk cls (blocks.length - 1) = true → (l < 224 ∧ containerOk cls seq blocks = false) ∨
          (224 ≤ l ∧ y.verifies tag = false) →
        exec (.containerRx m l cls seq blocks tag beat) s = .next (s.bump m (0x0400 + 8 * l + 2) 1)) ∧
      (startOk cls (blocks.length - 1) = true → containerOk cls seq blocks = true → l < 224 → y.stay.beyond = [] →
        let e := atD y.stay.expected (cls - 1) 0
        let ahead := (seq + 2 ^ 32 - e) % 2 ^ 32
        ∃ t, exec (.containerRx m l cls seq blocks tag beat) s = .next t ∧
          (t.ct m).read (0x0400 + 8 * l + 7) = satAdd64 ((s.ct m).read (0x0400 + 8 * l + 7)) 1 ∧
          (ahead = 0 → (t.lan.get m).stay = { y.stay with expected := setAt y.stay.expected (cls - 1) ((e + 1) % 2 ^ 32) }) ∧
          (0 < ahead → ahead < 2 ^ 31 → (t.lan.get m).stay = { y.stay with beyond := [(cls, seq, s.now)] }) ∧
          (2 ^ 31 ≤ ahead → (t.lan.get m).stay = y.stay)) ∧
      (∀ n, cls = 1 → blocks.length = 1 → 224 ≤ l → y.verifies tag = true → beat = some n →
        ∃ t, exec (.containerRx m l cls seq blocks tag beat) s = .next t ∧ (t.lan.get m).beatAt = some s.now ∧
          (t.lan.get m).beatStep = n ∧ (t.lan.get m).containers = y.containers + 1 ∧
          (t.lan.get m).formerKey = if tag = .linkKey then none else y.formerKey)) ∧
    (∀ shroud cls seq x0, 1 ≤ cls → cls ≤ 4 → seq < 2 ^ 32 → (s.linkOf m shroud).beyond = [(cls, seq, x0)] →
      x0 + 4 * Config.usec ≤ s.now →
      (s.linkOf m shroud).expected.length = 4 → atD (s.linkOf m shroud).expected (cls - 1) 0 < 2 ^ 32 →
      ∃ t, exec (.containerSeqSkip m shroud cls) s = .next t ∧ (t.linkOf m shroud).beyond = [] ∧
        atD (t.linkOf m shroud).expected (cls - 1) 0 = (seq + 1) % 2 ^ 32 ∧ (t.linkOf m shroud).lost =
          (s.linkOf m shroud).lost + (seq + 2 ^ 32 - atD (s.linkOf m shroud).expected (cls - 1) 0) % 2 ^ 32) ∧
    (s.nextAligned m 192 32 y.tandemNext = some l → exec (.tandemBlockSend m) s = .next { s with lan := s.lan.set m { y with
      tandemTx := some { mast := m.code, state := (s.tst m).code, mode := s.md.mode.code, step := s.step % 2 ^ 40 },
      tandemNext := 192 + (l - 192 + 1) % 32 } }) ∧
    (∀ payload, 192 ≤ l → l < 224 → x.align = .aligned → x.st = .up →
      (tandemValid payload = true → ∃ t b, exec (.tandemBlockRx m l payload) s = .next t ∧
        t.lan.get m = { y with tandemAt := some s.now, tandemRx := some b } ∧ b.step = bitsOf payload 47 8) ∧
      (tandemValid payload = false → exec (.tandemBlockRx m l payload) s = .next (s.bump m (0x0400 + 8 * l + 3) 1))) ∧
    (s.nextAligned m 224 8 y.beatNext = some l → y.linkKey.isSome = true → exec (.beatSend m) s = .next { s with
      lan := s.lan.set m { y with beatTx := s.step, beatNext := 224 + (l - 224 + 1) % 8, shroud := y.shroud.send 1 1,
                                  containers := y.containers + 1 } }) ∧
    (y.shroudUp = false → s.shroudBad m = false → exec (.shroudLinkUp m) s = .next { s with
      lan := s.lan.set m { y with shroudUp := true }
      tan := { s.tan with pairing := { s.tan.pairing with blocked := false } } }) ∧
    (y.shroudUp = true → s.shroudBad m = true → ∃ u : State, exec (.shroudLinkDown m) s = .next (u.report m 0x49 0xD0000004) ∧
      u.lan.get m = { y.dropKey with shroudUp := false, beatAt := none } ∧
      u.tan.pairing = { s.tan.pairing with lastBeacon := s.now }) ∧
    (∀ k nonce cert ok, s.shroudSecret = some k → s.shroudAligned m ≠ 0 →
      (s.helloOk cert ok = false → exec (.helloRx m nonce cert ok) s = .next s) ∧
      (s.helloOk cert ok = true → (y.linkKey.isSome && y.peerNonce == nonce) = false →
        ∃ t own, exec (.helloRx m nonce cert ok) s = .next t ∧ t = { s with lan := t.lan, freeCount := t.freeCount } ∧
          t.lan.get m = { y with linkKey := some (shroudKey k m (s.tan.pairing.role != 2) own nonce), formerKey := y.linkKey,
                                 nonce := none, peerNonce := nonce, containers := 0 } ∧
          (∀ z, y.nonce = some z → own = z ∧ t.freeCount = s.freeCount) ∧
          (y.nonce = none → own.length = 32 ∧ t.freeCount = s.freeCount + 32))) ∧
    (2 ^ 40 ≤ y.containers → y.linkKey.isSome = true → y.nonce = none → ∃ t own, exec (.shroudRekey m) s = .next t ∧
      own.length = 32 ∧ t = { s with freeCount := s.freeCount + 32, lan := s.lan.set m { y with nonce := some own } })

/-- The Reserve (R6, R89 to R96, R410, R436): six checks in order pair two packages, the first that fails is the reason, and
a refused pairing waits for a new profile or link; a round trip beyond the fence and a step phase beyond 2 µs for 1 s
suspend tracking; digests that agree are in track, one that differs begins a divergence, and 512 steps of it suspend
tracking; after 60 s the Reserve tries again; it takes the Primary's commands and copy; the Primary sends beacons every 10
ms, which restart the take-over delay, which names the take-over step, as the Primary's notice of bare poles does; at that
step the Reserve is the acting Primary. -/
def Obligations.ReserveFollows : Prop :=
  ∀ (m : Mast) (s : State),
    let x := s.tan.pairing
    let after (t : State) : Prop := ({ s with tan := t.tan } : State).OnlyHalyard t
    (∀ p, s.pairable p = true →
      let role := s.pairRole p
      let checks := s.pairChecks p
      ∃ t, exec (.shroudPairing p) s = .next t ∧ after t ∧ t.tan.pairing.role = role ∧
        ((∀ i, i < 6 → atD checks i false = true) → t.tan.pairing.paired = true ∧ t.tan.pairing.reason = 0 ∧
          t.tan.pairing.tracking = 1 ∧ t.tan.pairing.divergedAt = none ∧ t.tan.pairing.refusals = x.refusals) ∧
        (∀ i, i < 6 → atD checks i false = false → (∀ k, k < i → atD checks k false = true) →
          t.tan.pairing.paired = x.paired ∧ t.tan.pairing.reason = i + 1 ∧ t.tan.pairing.tracking = 0 ∧
          t.tan.pairing.blocked = true ∧
          t.tan.pairing.refusals = (if role = 2 then x.refusals else x.refusals + 1)) ∧
        (capacityBytes s.caps ≠ capacityBytes p.caps → t.tan.pairing.reason = 1)) ∧
    (∀ rtt phase, s.shroudAny = true → (∀ k, x.measuredAt = some k → k + 10 * Config.msec ≤ s.now) →
      ∃ t, exec (.shroudMeasurement rtt phase) s = .next t ∧ after t ∧ t.tan.pairing.rtt = rtt ∧ t.tan.pairing.phaseNs = phase ∧
        t.tan.pairing.measuredAt = some s.now ∧ t.tan.pairing.paired = x.paired ∧ t.tan.pairing.role = x.role ∧
        (x.paired = false ∨ x.role ≠ 2 ∨ x.tracking = 0 → t.tan.pairing.tracking = x.tracking ∧ t.tan.pairing.reason = x.reason) ∧
        (x.paired = true → x.role = 2 →
          (x.tracking = 1 → x.fence < rtt + 2 →
            t.tan.pairing.tracking = 2 ∧ t.tan.pairing.suspendedAt = s.now ∧ t.tan.pairing.reason = 6) ∧
          (x.tracking = 1 → rtt + 2 ≤ x.fence → 2000 < phase.natAbs → x.measuredAt.isSome = true → x.inPhase = false →
            x.phaseAt + Config.second ≤ s.now →
            t.tan.pairing.tracking = 2 ∧ t.tan.pairing.suspendedAt = s.now ∧ t.tan.pairing.reason = 5) ∧
          (x.tracking = 1 → rtt + 2 ≤ x.fence → phase.natAbs ≤ 2000 →
            t.tan.pairing.tracking = 1 ∧ t.tan.pairing.reason = x.reason) ∧
          (x.tracking = 2 → x.reason = 5 → rtt + 2 ≤ x.fence → phase.natAbs ≤ 2000 → x.measuredAt.isSome = true →
            x.inPhase = true → x.phaseAt + 60 * Config.second ≤ s.now → t.tan.pairing.tracking = 1))) ∧
    (∀ n ds own, s.tracks = true → s.digestMode = true → s.step ≤ n + 16 → (s.mt s.lead).own.find n = some own →
      ((∀ g, g < 8 → atD own g none = atD ds g none) → exec (.reserveDigestCompare n ds none) s =
        .next (s.setPair { x with divergedAt := none })) ∧
      (∀ g, g < 8 → atD own g none ≠ atD ds g none →
        (x.divergedAt = none → ∃ t, exec (.reserveDigestCompare n ds none) s = .next t ∧ after t ∧
          t.tan = { s.tan with pairing := { x with divergedAt := some n } }) ∧
        (∀ k, x.divergedAt = some k → k + 512 < n → ∃ t, exec (.reserveDigestCompare n ds none) s = .next t ∧ after t ∧
          t.tan = { s.tan with pairing := { x with tracking := 2, suspendedAt := s.now } }))) ∧
    (∀ n ds c, s.tracks = true → s.digestMode = true → x.divergedAt.isSome = true → c.joinStep ≤ s.step + 1 →
      ∃ t, exec (.reserveDigestCompare n ds (some c)) s = .next t ∧ t.rigs = c.rigs ∧ t.md.base = c.base ∧
        (s.serves m = true → t.dp.get m = c.dp)) ∧
    (∀ o (c : PrimaryCommand), s.tracks = true → s.captain.isSome = true → s.step < c.effStep → s.hal.sched.length < 1024 →
      ∃ t, exec (.commitReceived o (some c)) s = .next t ∧ ∃ d ∈ t.hal.sched, d.code = c.code ∧ d.payload = c.payload ∧
        d.effStep = c.effStep ∧ d.aux = c.aux ∧ d.primary = true ∧ d.due = none) ∧
    (x.tracking = 2 → x.suspendedAt + 60 * Config.second ≤ s.now →
      (x.fence < x.rtt + 2 → ∃ t, exec .reserveTrackRetry s = .next t ∧ after t ∧
        t.tan = { s.tan with pairing := { x with tracking := 2, suspendedAt := s.now, reason := 6 } }) ∧
      (x.rtt + 2 ≤ x.fence → x.reason ≠ 5 → exec .reserveTrackRetry s =
        .next (s.setPair { x with tracking := 1, divergedAt := some s.step }))) ∧
    ((x.role = 1 ∨ x.role = 3) → s.running = true → s.captain.isSome = true →
      (x.lastBeacon + 10 * Config.msec ≤ s.now → ∃ t, exec .presenceBeaconSend s = .next t ∧
        t.tan = { s.tan with pairing := { x with lastBeacon := s.now, beaconsSent := t.tan.pairing.beaconsSent } } ∧
        t = { s with tan := t.tan } ∧ t.tan.pairing.beaconsSent.get m = x.beaconsSent.get m + (if s.serves m then 1 else 0)) ∧
      (s.now < x.lastBeacon + 10 * Config.msec → exec .presenceBeaconSend s = .next s)) ∧
    (x.role = 2 → s.serves m = true → exec (.presenceBeaconRx m) s = .next (s.setPair
      { x with lastBeacon := s.now, beacons := if s.shroudAny then x.beacons else x.beacons + 1 })) ∧
    (x.role = 2 → x.paired = true → x.takeoverStep = none → s.captain.isSome = true → s.running = true →
      (exec .barePolesNoticeRx s = .next (s.setPair { x with takeoverStep := some (s.step + 3), takeoverCause := 0 })) ∧
      (s.shroudAny = false → x.lastBeacon + s.takeoverMs * Config.msec ≤ s.now → exec .takeoverDelayExpiry s =
        .next (s.setPair { x with takeoverStep := some (s.step + 3), takeoverCause := 1 }))) ∧
    (∀ k, x.takeoverStep = some k → k ≤ s.step + 1 → x.role = 2 → ∃ t, exec .reserveTakeover s = .next t ∧ t.step = s.step ∧
      t.tan.pairing = { x with role := 3, paired := false, tracking := 0, takeoverStep := none, swapped := some 2 } ∧
      (s.serves m = true → (t.mt m).drive = driveOf (s.tst m)) ∧ t.tst m = s.tst m)

/-! ### Timing and network time (R415 to R435, R463 to R476, R482) -/

/-- Telltales and timebases (R415 to R429): a window in tolerance makes an absent candidate requalify and qualifies one that
never was, and the third out of tolerance disqualifies; an absent candidate counts nothing; the selection takes the best
candidate; a timebase whose frequency has settled is LOCKED, one too long in HOLDOVER is LOST, and all are where the XO
fails; the calibration moves with the XO. -/
def Obligations.TimebasesFollow : Prop :=
  ∀ (m : Mast) (k : Nat) (s : State), k < 4 → (∀ n, (s.tm n).tbs.length = 4) →
    (∀ w, s.telltalesRun m = true → (∀ x, (s.tm m).windowAt = some x → x + 10 * Config.second ≤ s.now) →
      s.candHere w.cand = true → w.cand ≠ 87 → w.good = true →
      let c := (s.tm m).cand w.cand
      ∃ t, exec (.telltaleWindowEnd m [w]) s = .next t ∧
        ((t.tm m).cand w.cand).windows = (w.offset :: c.windows).take 6 ∧
        (c.st = .absent → ((t.tm m).cand w.cand).st = .requalifying) ∧
        (c.st = .requalifying → c.ever = false → s.inTolerance m w.cand w.offset = true →
          ((t.tm m).cand w.cand).st = .qualified ∧ ((t.tm m).cand w.cand).since = some s.now) ∧
        (c.st = .qualified → c.bad = 2 → s.inTolerance m w.cand w.offset = false →
          ((t.tm m).cand w.cand).st = .disqualified)) ∧
    (∀ i, s.telltalesRun m = true → s.candHere i = true → i ≠ 87 → s.maybeAbsent m i = true →
      (1 ≤ i → i ≤ 4 → ((s.choosePath m (i - 1)).choosePath m.other (i - 1)).ptpAbsent m (i - 1) = true) →
      ∃ t, exec (.candidateAbsent m i) s = .next t ∧
        ((t.tm m).cand i).st = .absent ∧ (((s.tm m).cand i).st ≠ .absent → ((t.tm m).cand i).good = 0 ∧ ((t.tm m).cand i).bad = 0)) ∧
    (∀ j, s.mayAcquire m = true → (s.tb m k).ref = none → s.chooseRef m k (s.bestRank m k) = some j →
      ((s.evaluate m 0 k).tb m k).ref = some j ∧ ((s.evaluate m 0 k).tb m k).st = .acquiring) ∧
    (∀ xo, s.captain = some m → (s.tb m k).st = .acquiring → ∃ t, exec (.timebaseLocked k xo) s = .next t ∧
      (t.tb m k).st = .locked ∧ (t.tb m k).everLocked = true ∧
      (k = 0 → (s.tm m).xoCal = none → (s.tm m).xoFailed = false →
        (t.tm m).xoCal = some (-((s.tm m).cand ((s.tb m k).ref.getD 87)).last))) ∧
    (s.captain = some m → (s.tb m k).st = .holdover → (s.sec.profile = none → 86400 ≤ s.holdoverS (s.tb m k)) →
      (∀ p, s.sec.profile = some p → p.global.holdoverLimit ≤ s.holdoverS (s.tb m k)) →
      ∃ t, exec (.holdoverLimit k) s = .next t ∧ (t.tb m k).st = .lost ∧ (t.tb m k).holdoverAt = (s.tb m k).holdoverAt) ∧
    (∀ count edges, (s.tm m).xoFailed = false → s.telltalesRun m = true →
      (edges = true → 24987500 ≤ count → count ≤ 25012500 → exec (.xoCheck m count edges) s = .next s) ∧
      ((edges = false ∨ count < 24987500 ∨ 25012500 < count) → ∃ u : State, exec (.xoCheck m count edges) s =
        .next (u.report m 0x66 0x70000001) ∧ (u.tm m).xoFailed = true ∧ (u.tb m k).st = .lost)) ∧
    (∀ c mean, (s.tm m).xoCal = some c → s.serves m = true → (s.tb m 0).st = .locked → (s.tm m).xoFailed = false →
      (s.tm m).xoAt + 3600 * Config.second ≤ s.now → s.sec.profile = none →
      ∃ t, exec (.xoCalibrationUpdate m mean) s = .next t ∧ (t.tm m).xoCal = some (c + max (-50) (min 50 (mean - c))) ∧
        (t.tm m).xoAt = s.now)

/-- The phase of a timebase (R427, R431, R432, R482): a locked one measures its pending offset, which is zero where its
candidate has no phase marker; a REALIGN at its step moves the frame grid by it, and for TB_0 the fade begins; the RTC is
set from TB_0 less the parent's UTC offset. -/
def Obligations.PhasesAndRtc : Prop :=
  ∀ (m : Mast) (k : Nat) (s : State), k < 4 → (∀ n, (s.tm n).tbs.length = 4) → s.captain = some m →
    (∀ i offset, (s.tb m k).ref = some i → (s.tb m k).st = .locked → (s.tb m k).realign = none →
      ((1 ≤ i ∧ i ≤ 4) ∨ offset.natAbs ≤ (if i = 0 then 500000000 else familyPeriod (s.tbFamily k) / 6)) →
      ∃ t, exec (.phaseMarker k offset) s = .next t ∧ t = { s with tim := t.tim } ∧
        (i ≤ 69 → (t.tb m k).pendingNs = clampSigned 64 offset) ∧ (69 < i → (t.tb m k).pendingNs = 0)) ∧
    (∀ c, s.firstDue (fun c => c.code == 0x0805 && fld c.payload 0 1 == k) = some c → (s.takeSched c).recheck c = none →
      ((s.tb m k).jumpRefused = false ∨ 30 ≤ s.observed m k) → s.pendingSet m k = true → (s.tb m k).st = .locked →
      ∃ t, exec (.realignEffective k) s = .next t ∧ t.step = s.step ∧
        (t.tb m k).shift = (s.tb m k).shift + 3 * (s.tb m k).pendingNs ∧
        (k ≠ 0 → (t.tb m k).pendingNs = 0 ∧ (t.tb m k).jumpRefused = false) ∧
        (k = 0 → ∃ r, (t.tb m 0).realign = some r ∧ r.step = s.step + 1 ∧ r.offset = (s.tb m 0).pendingNs ∧ r.moved = false)) ∧
    (∀ i a u, ((s.tm m).rtcAt = none ∨ ∃ x, (s.tm m).rtcAt = some x ∧ x + 3600 * Config.second ≤ s.now) →
      (s.tb m 0).st = .locked → (s.tb m 0).ref = some i → 1 ≤ i → i ≤ 4 →
      (if s.usesOther m (i - 1) then s.dom m.other (i - 1) else s.dom m (i - 1)).parent = some a → a.utc = some u →
      ∃ t, exec .rtcUpdate s = .next t ∧ t = { s with md := t.md, tim := t.tim } ∧
        t.md.nest.rtc = (((s.step / s.rate : Nat) : Int) - u).toNat ∧ t.md.nest.rtcValid = true ∧ (t.tm m).rtcAt = some s.now)

/-- Network time (R464 to R475): an Announce that is not excluded is heard, a Follow_Up pairs its Sync, a Delay_Resp gives
the path delay; what is malformed or unpaired is counted; the transparent clock sends a message on at every other member of
its port's group; a Delay_Req is numbered; the mean of a second is formed; a jump within the threshold is absorbed, and one
beyond it is refused and disqualifies its candidate; while a jump stands refused its seconds are observed, and it ends where
a mean lies within the threshold of the old time. -/
def Obligations.NetworkTimeServes : Prop :=
  ∀ (m : Mast) (k : Nat) (s : State), k < 4 → (∀ n, (s.ptp.get n).doms.length = 4) →
    let d := s.dom m k
    (∀ x, s.telltalesRun m = true → x.port < 128 → s.portUp m x.port = true →
      ((x.version ≠ 2 ∨ 1 < x.minor ∨ s.listed m x.port x.domain = [] ∨ s.ptpReaches m x = false ∨ x.body = .pdelay) →
        exec (.ptpMessageRx m x) s = .next (s.bump m (0x0400 + 8 * x.port + 5) 1)) ∧
      (x.version = 2 → x.minor ≤ 1 → s.ptpReaches m x = true → s.listed m x.port x.domain = [k] →
        (x.body ≠ .pdelay → x.body ≠ .management → ∃ t, exec (.ptpMessageRx m x) s = .next t ∧
          (t.ptp.get m).relayed.map (fun r => r.port) = s.tcMembers m x.port ∧
          (∀ r ∈ (t.ptp.get m).relayed, r.source = x.source ∧ r.seq = x.seq) ∧
          ((∀ two t1, x.body ≠ .sync two t1) → x.body ≠ .delayReq → ∀ r ∈ (t.ptp.get m).relayed, r.correction = x.correction)) ∧
        (∀ a, x.body = .announce a → s.intervalOk k false x.logInterval = true → s.announceExcluded k a = false →
          ∃ t e, exec (.ptpMessageRx m x) s = .next t ∧ e ∈ (t.dom m k).announces ∧ e.source = x.source ∧ e.gmId = a.gmId ∧
            e.steps = a.steps ∧ e.at' = s.now) ∧
        (∀ t1 hs, x.body = .followUp t1 → d.held = some hs → hs.seq = x.seq → hs.source = x.source →
          ∃ t, exec (.ptpMessageRx m x) s = .next t ∧ (t.dom m k).sync = some (t1 + hs.c1 + x.correction, hs.t2) ∧
            (t.dom m k).held = none ∧ (t.dom m k).syncAt = some s.now) ∧
        (∀ t4 req r origin t2, x.body = .delayResp t4 req → d.reqs.find? (fun q => q.seq == x.seq) = some r →
          req = ownPortId m x.port → s.now ≤ r.at' + Config.second → d.sync = some (origin, t2) →
          ∃ t, exec (.ptpMessageRx m x) s = .next t ∧ (t.dom m k).unanswered = 0 ∧
            (t.dom m k).path = some ((t2 - origin + (t4 - r.t3 - x.correction)).fdiv 2)))) ∧
    (∀ hs, d.held = some hs → hs.at' + Config.second ≤ s.now → exec (.syncPairTimeout m k) s =
      .next ((s.setDom m k { d with held := none }).bump m 0x6003 1)) ∧
    (∀ t3, d.parent.isSome = true → s.telltalesRun m = true →
      (d.reqAt = none ∨ ∃ x, d.reqAt = some x ∧ x + logTime d.reqLog ≤ s.now) →
      ∃ t, exec (.delayReqSend m k t3) s = .next t ∧ t = { s with ptp := t.ptp, lan := t.lan } ∧
        (t.dom m k).reqSeq = (d.reqSeq + 1) % 65536 ∧ (t.dom m k).unanswered = d.unanswered + 1 ∧
        (t.dom m k).reqAt = some s.now ∧ ∃ r ∈ (t.dom m k).reqs, r.seq = d.reqSeq ∧ r.t3 = t3 ∧ r.at' = s.now) ∧
    (s.captain = some m →
      (∀ mean, (∀ a, d.secondAt = some a → a + Config.second ≤ s.now) →
        let u := (s.choosePath m k).choosePath m.other k
        (u.dom m k).change = none → (u.dom m k).newMean = some mean →
        let near (v : Int) : Prop := ((mean - v).natAbs : Int) ≤ s.jumpThreshold k
        ∃ t, exec (.ptpOffsetSecond k) s = .next t ∧ (t.dom m k).mean = some mean ∧ (t.dom m k).count = 0 ∧
          (t.dom m k).sum = 0 ∧ (t.dom m k).secondAt = some s.now ∧
          ((s.tb m k).jumpRefused = false → ∀ old, (u.dom m k).mean = some old → ¬ near old → (s.tb m k).ref = some (1 + k) →
            (t.dom m k).change = some { at' := s.now, oldMean := old }) ∧
          ((s.tb m k).jumpRefused = true → (s.tm m).tbs.length = 4 → near (u.dom m k).oldMean →
            (t.tb m k).jumpRefused = false ∧ (t.dom m k).refusedJump = 0 ∧ (t.dom m k).observed = 0) ∧
          ((s.tb m k).jumpRefused = true → ¬ near (u.dom m k).oldMean →
            (∀ old, (u.dom m k).mean = some old → (u.dom m k).upset = false → near old →
              (t.dom m k).observed = (u.dom m k).observed + 1) ∧
            (((u.dom m k).upset = true ∨ (∀ old, (u.dom m k).mean = some old → ¬ near old)) →
              (t.dom m k).observed = 0 ∧ (t.dom m k).refusedJump = mean - (u.dom m k).oldMean))) ∧
      (∀ c mean, d.change = some c → c.at' + Config.second ≤ s.now → d.newMean = some mean →
        (((mean - c.oldMean).natAbs : Int) ≤ s.jumpThreshold k → exec (.jumpDecision k) s =
          .next (s.setDom m k { d with change := none, mean := some mean, secondAt := some s.now, sum := 0, count := 0 })) ∧
        (s.jumpThreshold k < ((mean - c.oldMean).natAbs : Int) → (s.tm m).tbs.length = 4 →
          ∃ t, exec (.jumpDecision k) s = .next t ∧ (t.dom m k).change = none ∧
            (t.dom m k).refusedJump = mean - c.oldMean ∧ (t.dom m k).oldMean = c.oldMean ∧ (t.dom m k).observed = 0 ∧
            (t.tb m k).jumpRefused = true ∧ (t.candOf m k (1 + k)).st = .disqualified)))

/-! ### Clocks, droop, rails, AVS and temperatures (R26, R445 to R460, R501 to R503, R594 to R600, R607) -/

/-- Clocks (R445 to R457): a lost PLL is counted and reported, and its domains with a fallback move there; 1 µs later its
outputs are gated, and DSP and FABRIC stop with PLL_SYS; a relock returns it; a chain drop leaves the domain on the source
that shows an edge; gates close after idle cycles, and a forced closure that fails is tried again; a tap out of its limit
fails its PLL. -/
def Obligations.ClocksAct : Prop :=
  ∀ (m : Mast) (p : Nat) (s : State) (c : ClockMast), c = s.clk.get m → c.domains.length = 8 →
    (∀ x, c.plls[p]? = some x →
      (x.locked = true → ∃ u : State, exec (.pllLoss m p false) s = .next (u.report m (pllSource p) (0x70000010 + p)) ∧
        u.pll m p = some { x with locked := false, lostAt := s.now, grace := true } ∧
        (u.ct m).read (0x0388 + p) = satAdd64 ((s.ct m).read (0x0388 + p)) 1 ∧
        (∀ d, (p = 0 ∧ d = 2) ∨ (p = 1 ∧ d = 5) ∨ (p = 2 ∧ d = 6) → atD c.domains d .primary = .primary →
          atD (u.clk.get m).domains d .primary = .fallback) ∧
        (3 ≤ p → ∀ l ∈ (u.lan.get m).lanes, laneRegion l.1 = p - 3 → l.2.st ≠ .up ∧ l.2.st ≠ .bringUp)) ∧
      (x.grace = true → x.lostAt + 25 * Config.xoCycle ≤ s.now → ∃ t, exec (.pllGraceEnd m p) s = .next t ∧
        t = { s with clk := t.clk } ∧ t.pll m p = some { x with grace := false, gated := true } ∧
        (p = 0 → ∀ d, (d = 3 ∨ d = 4) → atD c.domains d .primary = .primary →
          atD (t.clk.get m).domains d .primary = .stopped)) ∧
      (x.locked = false → exec (.pllRelock m p) s = .next (s.setClk m { c with plls := setAt c.plls p ({ x with
        locked := true, grace := false, gated := if p ≥ 3 && !x.failed then false else x.gated } : Pll) })) ∧
      (∀ r, p = 3 + r → r ≤ 3 → x.locked = false → x.failed = false → x.lostAt + 10 * Config.msec ≤ s.now →
        exec (.pllLaneRelockTimeout m r) s = .next ((s.setClk m { c with
          plls := setAt c.plls p ({ x with failed := true } : Pll) }).reportInfo m 0x63 (0x70000013 + r)
          { ReportInfo.plain s.step with late := true, capacity := true }))) ∧
    (∀ d toFallback oldEdge, 2 ≤ d → d ≤ 6 → s.domainRuns m d = true →
      (∀ q x, domainPll d = some q → c.plls[q]? = some x → x.locked = true) →
      (∃ u : State, exec (.derailleurHang m d toFallback true oldEdge) s = .next (u.report m 0x65 (0x70000000 + d)) ∧
        atD (u.clk.get m).domains d .primary = (if toFallback then .fallback else .primary) ∧
        (u.ct m).read (0x0380 + d) = satAdd64 ((s.ct m).read (0x0380 + d)) 1) ∧
      (∃ u : State, exec (.derailleurHang m d toFallback false true) s = .next (u.report m 0x65 (0x70000000 + d)) ∧
        atD (u.clk.get m).domains d .primary = (if toFallback then .primary else .fallback)) ∧
      (∃ (u : State) (site : Nat), exec (.derailleurHang m d toFallback false false) s =
        .next ((u.report m 0x65 (0x70000000 + d)).report m 0x64 site) ∧
        atD (u.clk.get m).domains d .primary = .stopped)) ∧
    (s.md.mode ≠ .vault →
      (1 ≤ (s.md.boot.get m).phase → (s.md.boot.get m).phase ≤ 7 → s.md.mixOn.get m = false → exec (.syncDivEdge m) s =
        .next (s.setClk m { c with dividerResets := c.dividerResets + 1 })) ∧
      ((s.md.boot.get m).phase = 0 ∨ 7 < (s.md.boot.get m).phase ∨ s.md.mixOn.get m = true →
        exec (.syncDivEdge m) s = .next (s.bump m 0x038F 1))) ∧
    (∀ b g, c.gates[b]? = some g →
      (b < 4 → exec (.freewheelClose m b) s = .next s) ∧
      (4 ≤ b → g.forced = none → exec (.freewheelClose m b) s =
        .next (s.setClk m { c with gates := setAt c.gates b { g with open' := false } })) ∧
      (g.forced = none → exec (.forcedClosureTimeout m b) s = .next ((s.setClk m { c with
        gates := setAt c.gates b { open' := true, forced := some { tries := 1, retryAt := s.now + Config.msec } } }).gateTimeout m b false)) ∧
      (∀ f idle, g.forced = some f → f.retryAt ≤ s.now → f.tries < 8 → s.blockWanted m b = true →
        exec (.forcedClosureRetry m b idle) s = .next (s.setClk m { c with gates := setAt c.gates b { g with forced := none } })) ∧
      (∀ f, g.forced = some f → f.retryAt ≤ s.now → f.tries < 8 → s.blockWanted m b = false →
        exec (.forcedClosureRetry m b true) s =
          .next (s.setClk m { c with gates := setAt c.gates b { open' := false, forced := none } }) ∧
        exec (.forcedClosureRetry m b false) s = .next ((s.setClk m { c with
          gates := setAt c.gates b { open' := true, forced := some { tries := f.tries + 1, retryAt := s.now + Config.msec } } }).gateTimeout m b
            (decide (f.tries = 7))))) ∧
    (∀ tap sel value, s.md.mode ≠ .vault → s.tapRuns m tap = true →
      (tap < 14 → (tap = 7 → value.natAbs ≤ 2000) →
        exec (.frequencyMeasurement m tap 0 sel value) s = .next (s.gauge m (0x7400 + tap) value)) ∧
      (tap = 14 → sel < 12 → exec (.frequencyMeasurement m tap 0 sel value) s = .next (s.gauge m (0x7410 + sel) value)) ∧
      (tap = 15 → sel ≤ 232 → exec (.frequencyMeasurement m tap 0 sel value) s = .next (s.gauge m (0x6100 + 4 * sel + 2) value)) ∧
      (∀ against q, 100 < value.natAbs →
        ((2 ≤ tap ∧ tap ≤ 4 ∧ against = 7 ∧ q = 0) ∨ (10 ≤ tap ∧ tap ≤ 13 ∧ against = 7 ∧ q = tap - 7) ∨
          (tap = 5 ∧ against = 8 ∧ q = 1 ∧ atD c.domains 5 .primary = .primary) ∨
          (tap = 6 ∧ against = 9 ∧ q = 2 ∧ atD c.domains 6 .primary = .primary)) →
        exec (.frequencyMeasurement m tap against sel value) s = .next ((s.bump m (0x0390 + q) 1).pllLost m q false)) ∧
      (tap = 7 → 2000 < value.natAbs → exec (.frequencyMeasurement m tap 0 sel value) s =
        .next ((s.gauge m 0x7407 value).report m 0x64 0x70000017)))

/-- Droop, rails, AVS and temperatures (R26, R458 to R460, R501, R503, R594, R596 to R600, R607): a trip stretches its
region until the margin is back, and the stretched time counts; a dip of a core rail stretches every region; a sag that is
over is counted; a rail at its reset level takes power-good from its mast and is a report; AVS follows the demands; a
regulator that does not answer keeps its confirmed setting; a die that is hot twice is shut down, and a reading out of range
is a tamper event. -/
def Obligations.SuppliesAct : Prop :=
  ∀ (m : Mast) (s : State) (x : SupplyMast), x = s.sup.get m →
    (exec (.droopTrip m 12) s = .next (s.report m 0x68 0xC0000002)) ∧
    (∀ g r, g < 12 → (s.clk.get m).regions[g]? = some r →
      (r.since = none → s.regionOn m g = true → ∃ t, exec (.droopTrip m g) s = .next t ∧
        (t.clk.get m).regions[g]? = some { r with since := some s.now } ∧
        (t.ct m).read (0x0300 + 8 * g + 1) = satAdd64 ((s.ct m).read (0x0300 + 8 * g + 1)) 1) ∧
      (∀ t0, r.since = some t0 → (s.now < t0 + 250 * Config.xoCycle ∨ s.railStretches m = true) →
        exec (.droopStretchEnd m g) s = .next s) ∧
      (∀ t0, r.since = some t0 → t0 + 250 * Config.xoCycle ≤ s.now → s.railStretches m = false →
        ∃ t, exec (.droopStretchEnd m g) s = .next t ∧ (t.clk.get m).regions[g]? = some { r with since := none } ∧
        ((s.now - t0) / Config.xoCycle ≠ 0 → (t.ct m).read (0x0300 + 8 * g + 2) =
          satAdd64 ((s.ct m).read (0x0300 + 8 * g + 2)) ((s.now - t0) / Config.xoCycle)))) ∧
    (∀ rail r, rail ≤ 8 → x.rails[rail]? = some r →
      (∀ depth, s.railMasked m rail = false → r.low = false → ∃ t, exec (.railWarningDip m rail depth) s = .next t ∧
        (t.sup.get m).rails[rail]? = some { r with low := true, dipAt := s.now, depthMv := depth } ∧
        (rail < 3 → ∀ g ∈ (t.clk.get m).regions, g.since.isSome = true)) ∧
      (r.low = true → r.inReset = false → r.rateAt = none →
        (r.sags.filter (fun t => decide (s.now < t + 60 * Config.second))).length < 16 →
        ∃ t, exec (.sagRecovery m rail) s = .next t ∧ (t.sup.get m).rails[rail]? = some { r with
          low := false, recoveredAt := some s.now,
          sags := r.sags.filter (fun t => decide (s.now < t + 60 * Config.second)) ++ [s.now] } ∧
          (t.ct m).read (0x0110 + rail) = satAdd64 ((s.ct m).read (0x0110 + rail)) 1 ∧
          (rail < 3 → (s.clk.get m).regions.length = 12 →
            (∀ i q, i < 3 → i ≠ rail → x.rails[i]? = some q → q.low = false) →
            ∀ g ∈ (t.clk.get m).regions, g.since = none)) ∧
      (s.railMasked m rail = false → r.inReset = false → s.md.mode ≠ .vault →
        ∃ u t : State, exec (.railResetLevel m rail) s = .next t ∧
          (u.sup.get m).rails[rail]? = some { r with low := true, inReset := true } ∧ (rail = 6 → u.md.vnestLow.get m = some s.now) ∧
          (t.md.boot.get m).powerGood = false ∧ (t.md.boot.get m).phase = 0 ∧
          let v := u.report m 0x82 (0x80000000 + rail)
          t = (if s.tst m = .out ∧ s.bootRuns m = false ∧ (s.md.boot.get m).powerGood = true ∧ s.md.mode ≠ .lockout then
            v.mastReset m 7 else v).holdUnpowered m)) ∧
    (∀ i r, x.regs[i]? = some r →
      (∀ words, s.md.mode ≠ .vault → (s.md.boot.get m).powerGood = true → ∃ t, exec (.pmbusAlert m words) s = .next t ∧
        t = s.setSup m (t.sup.get m) ∧ (t.sup.get m).alerts = x.alerts + 1 ∧
        (∀ w, words[i]? = some (some w) → (t.sup.get m).regs[i]? = some { r with status := w % 65536, failed := false }) ∧
        (words[i]? = some none → (t.sup.get m).regs[i]? = some r)) ∧
      (∀ demands, s.md.mode ≠ .vault → (s.md.boot.get m).powerGood = true →
        let ds := (List.range 12).map (fun g => if s.regionOn m g then clampDemand (atD demands g 0) else 0)
        let top := ((ds.drop (4 * i)).take 4).foldl Nat.max 0
        ∃ t, exec (.avsUpdate m demands) s = .next t ∧ t = s.setSup m (t.sup.get m) ∧ (t.sup.get m).demand = ds ∧
          (t.sup.get m).kept = (List.range 12).map (fun g => if s.regionOn m g then atD ds g 0 else atD x.kept g 0) ∧
          (x.avsHeld s.now = true → (t.sup.get m).regs[i]? = some r) ∧
          (x.avsHeld s.now = false → r.on = true → r.failed = false → r.setMv < top →
            (t.sup.get m).regs[i]? = some { r with setMv := top, raisedAt := some s.now }) ∧
          (x.avsHeld s.now = false → r.on = true → r.failed = false → top ≠ 0 → top < r.setMv →
            top ≤ ((x.demand.drop (4 * i)).take 4).foldl Nat.max 0 →
            (∀ a, r.raisedAt = some a → a + Config.second ≤ s.now) → (∀ a, r.loweredAt = some a → a + Config.msec ≤ s.now) →
            (t.sup.get m).regs[i]? = some { r with setMv := Nat.max top (r.setMv - 5), loweredAt := some s.now })) ∧
      (∀ mv, exec (.pmbusFailure m i mv) s = .next ((s.setSup m { x with
        regs := setAt x.regs i { r with failed := true, setMv := mv } }).report m 0x83 (0x80000000 + i)))) ∧
    (∀ die d v, x.temps[die]? = some d → s.md.mode ≠ .vault →
      (-550 ≤ v → v < 1000 → x.hot = false → ∃ t, exec (.temperatureReading m die v) s = .next t ∧
        t = s.setSup m (t.sup.get m) ∧ (t.sup.get m).temps[die]? =
          some { value := some v, warned := if v < 950 then false else d.warned, hot := 0 }) ∧
      (1000 ≤ v → v < 1150 → d.warned = false → exec (.temperatureReading m die v) s = .next (((s.setSup m { x with
        temps := setAt x.temps die { value := some v, warned := true, hot := 0 } }).report m (tempSources die).1
          (0xC0000000 + die)).cooled m)) ∧
      ((v < -550 ∨ (1250 < v ∧ d.warned = true ∧ d.hot = 0)) → exec (.temperatureReading m die v) s = .next (((s.setSup m { x with
        temps := setAt x.temps die { value := some v, warned := if v < 950 then false else d.warned, hot := if 1150 ≤ v then 1 else 0 } }).tamper
          m 0xF2).cooled m)) ∧
      (1150 ≤ v → v ≤ 1250 → d.warned = true → d.hot = 1 → exec (.temperatureReading m die v) s = .next (((s.setSup m { x with
        temps := setAt x.temps die { value := some v, warned := true, hot := 2 } }).overheat m (tempSources die).2
          die).cooled m)))
end

