-- ==== Sys2Proof/Laws/State.lean ====
section
/-! SUPPORT. The small laws of the state: what each named update leaves of each field, and what it puts into its own. -/
namespace Sys2Proof.Machine
open Sys2Proof

@[simp] theorem Both_get_set {α : Type} (x : Both α) (m : Mast) (v : α) : (x.set m v).get m = v := by cases m <;> rfl
@[simp] theorem Both_get_set_other {α : Type} (x : Both α) (m : Mast) (v : α) : (x.set m v).get m.other = x.get m.other := by
  cases m <;> rfl
@[simp] theorem Both_get_map {α : Type} (x : Both α) (f : α → α) (m : Mast) : (x.map f).get m = f (x.get m) := by cases m <;> rfl
@[simp] theorem Both_get_same {α : Type} (v : α) (m : Mast) : (Both.same v).get m = v := by cases m <;> rfl

theorem Both_get_set_ne {α : Type} (x : Both α) {m k : Mast} (v : α) (hk : k ≠ m) : (x.set m v).get k = x.get k := by
  cases m <;> cases k <;> first | rfl | exact absurd rfl hk

variable (s : State)

/-! ### setMt -/

@[simp] theorem State.setMt_pending (m : Mast) (t : MastTandem) : (s.setMt m t).pending = s.pending := rfl
@[simp] theorem State.setMt_now (m : Mast) (t : MastTandem) : (s.setMt m t).now = s.now := rfl
@[simp] theorem State.setMt_step (m : Mast) (t : MastTandem) : (s.setMt m t).step = s.step := rfl
@[simp] theorem State.setMt_freeCount (m : Mast) (t : MastTandem) : (s.setMt m t).freeCount = s.freeCount := rfl
@[simp] theorem State.setMt_variant (m : Mast) (t : MastTandem) : (s.setMt m t).variant = s.variant := rfl
@[simp] theorem State.setMt_hal (m : Mast) (t : MastTandem) : (s.setMt m t).hal = s.hal := rfl
@[simp] theorem State.setMt_port (m : Mast) (t : MastTandem) : (s.setMt m t).port = s.port := rfl
@[simp] theorem State.setMt_md (m : Mast) (t : MastTandem) : (s.setMt m t).md = s.md := rfl
@[simp] theorem State.setMt_tan (m : Mast) (t : MastTandem) : (s.setMt m t).tan = { s.tan with m := s.tan.m.set m t } := rfl
@[simp] theorem State.setMt_flt (m : Mast) (t : MastTandem) : (s.setMt m t).flt = s.flt := rfl
@[simp] theorem State.setMt_ctr (m : Mast) (t : MastTandem) : (s.setMt m t).ctr = s.ctr := rfl
@[simp] theorem State.setMt_snap (m : Mast) (t : MastTandem) : (s.setMt m t).snap = s.snap := rfl
@[simp] theorem State.setMt_sec (m : Mast) (t : MastTandem) : (s.setMt m t).sec = s.sec := rfl
@[simp] theorem State.setMt_rigs (m : Mast) (t : MastTandem) : (s.setMt m t).rigs = s.rigs := rfl
@[simp] theorem State.setMt_dp (m : Mast) (t : MastTandem) : (s.setMt m t).dp = s.dp := rfl
@[simp] theorem State.setMt_aud (m : Mast) (t : MastTandem) : (s.setMt m t).aud = s.aud := rfl
@[simp] theorem State.setMt_vid (m : Mast) (t : MastTandem) : (s.setMt m t).vid = s.vid := rfl
@[simp] theorem State.setMt_lan (m : Mast) (t : MastTandem) : (s.setMt m t).lan = s.lan := rfl
@[simp] theorem State.setMt_tim (m : Mast) (t : MastTandem) : (s.setMt m t).tim = s.tim := rfl
@[simp] theorem State.setMt_clk (m : Mast) (t : MastTandem) : (s.setMt m t).clk = s.clk := rfl
@[simp] theorem State.setMt_ptp (m : Mast) (t : MastTandem) : (s.setMt m t).ptp = s.ptp := rfl
@[simp] theorem State.setMt_sup (m : Mast) (t : MastTandem) : (s.setMt m t).sup = s.sup := rfl
@[simp] theorem State.setMt_mem (m : Mast) (t : MastTandem) : (s.setMt m t).mem = s.mem := rfl
@[simp] theorem State.setMt_alm (m : Mast) (t : MastTandem) : (s.setMt m t).alm = s.alm := rfl
@[simp] theorem State.setMt_alarm (m : Mast) (t : MastTandem) : (s.setMt m t).alarm = s.alarm := rfl
@[simp] theorem State.setMt_jobs (m : Mast) (t : MastTandem) : (s.setMt m t).jobs = s.jobs := rfl
@[simp] theorem State.setMt_handovers (m : Mast) (t : MastTandem) : (s.setMt m t).handovers = s.handovers := rfl
@[simp] theorem State.setMt_tests (m : Mast) (t : MastTandem) : (s.setMt m t).tests = s.tests := rfl

/-! ### setSeat -/

@[simp] theorem State.setSeat_pending (n : Nat) (v : SeatState) : (s.setSeat n v).pending = s.pending := rfl
@[simp] theorem State.setSeat_now (n : Nat) (v : SeatState) : (s.setSeat n v).now = s.now := rfl
@[simp] theorem State.setSeat_step (n : Nat) (v : SeatState) : (s.setSeat n v).step = s.step := rfl
@[simp] theorem State.setSeat_freeCount (n : Nat) (v : SeatState) : (s.setSeat n v).freeCount = s.freeCount := rfl
@[simp] theorem State.setSeat_variant (n : Nat) (v : SeatState) : (s.setSeat n v).variant = s.variant := rfl
@[simp] theorem State.setSeat_hal (n : Nat) (v : SeatState) : (s.setSeat n v).hal = { s.hal with seats := setAt s.hal.seats n v } := rfl
@[simp] theorem State.setSeat_port (n : Nat) (v : SeatState) : (s.setSeat n v).port = s.port := rfl
@[simp] theorem State.setSeat_md (n : Nat) (v : SeatState) : (s.setSeat n v).md = s.md := rfl
@[simp] theorem State.setSeat_tan (n : Nat) (v : SeatState) : (s.setSeat n v).tan = s.tan := rfl
@[simp] theorem State.setSeat_flt (n : Nat) (v : SeatState) : (s.setSeat n v).flt = s.flt := rfl
@[simp] theorem State.setSeat_ctr (n : Nat) (v : SeatState) : (s.setSeat n v).ctr = s.ctr := rfl
@[simp] theorem State.setSeat_snap (n : Nat) (v : SeatState) : (s.setSeat n v).snap = s.snap := rfl
@[simp] theorem State.setSeat_sec (n : Nat) (v : SeatState) : (s.setSeat n v).sec = s.sec := rfl
@[simp] theorem State.setSeat_rigs (n : Nat) (v : SeatState) : (s.setSeat n v).rigs = s.rigs := rfl
@[simp] theorem State.setSeat_dp (n : Nat) (v : SeatState) : (s.setSeat n v).dp = s.dp := rfl
@[simp] theorem State.setSeat_aud (n : Nat) (v : SeatState) : (s.setSeat n v).aud = s.aud := rfl
@[simp] theorem State.setSeat_vid (n : Nat) (v : SeatState) : (s.setSeat n v).vid = s.vid := rfl
@[simp] theorem State.setSeat_lan (n : Nat) (v : SeatState) : (s.setSeat n v).lan = s.lan := rfl
@[simp] theorem State.setSeat_tim (n : Nat) (v : SeatState) : (s.setSeat n v).tim = s.tim := rfl
@[simp] theorem State.setSeat_clk (n : Nat) (v : SeatState) : (s.setSeat n v).clk = s.clk := rfl
@[simp] theorem State.setSeat_ptp (n : Nat) (v : SeatState) : (s.setSeat n v).ptp = s.ptp := rfl
@[simp] theorem State.setSeat_sup (n : Nat) (v : SeatState) : (s.setSeat n v).sup = s.sup := rfl
@[simp] theorem State.setSeat_mem (n : Nat) (v : SeatState) : (s.setSeat n v).mem = s.mem := rfl
@[simp] theorem State.setSeat_alm (n : Nat) (v : SeatState) : (s.setSeat n v).alm = s.alm := rfl
@[simp] theorem State.setSeat_alarm (n : Nat) (v : SeatState) : (s.setSeat n v).alarm = s.alarm := rfl
@[simp] theorem State.setSeat_jobs (n : Nat) (v : SeatState) : (s.setSeat n v).jobs = s.jobs := rfl
@[simp] theorem State.setSeat_handovers (n : Nat) (v : SeatState) : (s.setSeat n v).handovers = s.handovers := rfl
@[simp] theorem State.setSeat_tests (n : Nat) (v : SeatState) : (s.setSeat n v).tests = s.tests := rfl

/-! ### setHp -/

@[simp] theorem State.setHp_pending (m : Mast) (p : HostPort) : (s.setHp m p).pending = s.pending := rfl
@[simp] theorem State.setHp_now (m : Mast) (p : HostPort) : (s.setHp m p).now = s.now := rfl
@[simp] theorem State.setHp_step (m : Mast) (p : HostPort) : (s.setHp m p).step = s.step := rfl
@[simp] theorem State.setHp_freeCount (m : Mast) (p : HostPort) : (s.setHp m p).freeCount = s.freeCount := rfl
@[simp] theorem State.setHp_variant (m : Mast) (p : HostPort) : (s.setHp m p).variant = s.variant := rfl
@[simp] theorem State.setHp_hal (m : Mast) (p : HostPort) : (s.setHp m p).hal = s.hal := rfl
@[simp] theorem State.setHp_port (m : Mast) (p : HostPort) : (s.setHp m p).port = s.port.set m p := rfl
@[simp] theorem State.setHp_md (m : Mast) (p : HostPort) : (s.setHp m p).md = s.md := rfl
@[simp] theorem State.setHp_tan (m : Mast) (p : HostPort) : (s.setHp m p).tan = s.tan := rfl
@[simp] theorem State.setHp_flt (m : Mast) (p : HostPort) : (s.setHp m p).flt = s.flt := rfl
@[simp] theorem State.setHp_ctr (m : Mast) (p : HostPort) : (s.setHp m p).ctr = s.ctr := rfl
@[simp] theorem State.setHp_snap (m : Mast) (p : HostPort) : (s.setHp m p).snap = s.snap := rfl
@[simp] theorem State.setHp_sec (m : Mast) (p : HostPort) : (s.setHp m p).sec = s.sec := rfl
@[simp] theorem State.setHp_rigs (m : Mast) (p : HostPort) : (s.setHp m p).rigs = s.rigs := rfl
@[simp] theorem State.setHp_dp (m : Mast) (p : HostPort) : (s.setHp m p).dp = s.dp := rfl
@[simp] theorem State.setHp_aud (m : Mast) (p : HostPort) : (s.setHp m p).aud = s.aud := rfl
@[simp] theorem State.setHp_vid (m : Mast) (p : HostPort) : (s.setHp m p).vid = s.vid := rfl
@[simp] theorem State.setHp_lan (m : Mast) (p : HostPort) : (s.setHp m p).lan = s.lan := rfl
@[simp] theorem State.setHp_tim (m : Mast) (p : HostPort) : (s.setHp m p).tim = s.tim := rfl
@[simp] theorem State.setHp_clk (m : Mast) (p : HostPort) : (s.setHp m p).clk = s.clk := rfl
@[simp] theorem State.setHp_ptp (m : Mast) (p : HostPort) : (s.setHp m p).ptp = s.ptp := rfl
@[simp] theorem State.setHp_sup (m : Mast) (p : HostPort) : (s.setHp m p).sup = s.sup := rfl
@[simp] theorem State.setHp_mem (m : Mast) (p : HostPort) : (s.setHp m p).mem = s.mem := rfl
@[simp] theorem State.setHp_alm (m : Mast) (p : HostPort) : (s.setHp m p).alm = s.alm := rfl
@[simp] theorem State.setHp_alarm (m : Mast) (p : HostPort) : (s.setHp m p).alarm = s.alarm := rfl
@[simp] theorem State.setHp_jobs (m : Mast) (p : HostPort) : (s.setHp m p).jobs = s.jobs := rfl
@[simp] theorem State.setHp_handovers (m : Mast) (p : HostPort) : (s.setHp m p).handovers = s.handovers := rfl
@[simp] theorem State.setHp_tests (m : Mast) (p : HostPort) : (s.setHp m p).tests = s.tests := rfl

/-! ### setFl -/

@[simp] theorem State.setFl_pending (m : Mast) (f : FaultState) : (s.setFl m f).pending = s.pending := rfl
@[simp] theorem State.setFl_now (m : Mast) (f : FaultState) : (s.setFl m f).now = s.now := rfl
@[simp] theorem State.setFl_step (m : Mast) (f : FaultState) : (s.setFl m f).step = s.step := rfl
@[simp] theorem State.setFl_freeCount (m : Mast) (f : FaultState) : (s.setFl m f).freeCount = s.freeCount := rfl
@[simp] theorem State.setFl_variant (m : Mast) (f : FaultState) : (s.setFl m f).variant = s.variant := rfl
@[simp] theorem State.setFl_hal (m : Mast) (f : FaultState) : (s.setFl m f).hal = s.hal := rfl
@[simp] theorem State.setFl_port (m : Mast) (f : FaultState) : (s.setFl m f).port = s.port := rfl
@[simp] theorem State.setFl_md (m : Mast) (f : FaultState) : (s.setFl m f).md = s.md := rfl
@[simp] theorem State.setFl_tan (m : Mast) (f : FaultState) : (s.setFl m f).tan = s.tan := rfl
@[simp] theorem State.setFl_flt (m : Mast) (f : FaultState) : (s.setFl m f).flt = s.flt.set m f := rfl
@[simp] theorem State.setFl_ctr (m : Mast) (f : FaultState) : (s.setFl m f).ctr = s.ctr := rfl
@[simp] theorem State.setFl_snap (m : Mast) (f : FaultState) : (s.setFl m f).snap = s.snap := rfl
@[simp] theorem State.setFl_sec (m : Mast) (f : FaultState) : (s.setFl m f).sec = s.sec := rfl
@[simp] theorem State.setFl_rigs (m : Mast) (f : FaultState) : (s.setFl m f).rigs = s.rigs := rfl
@[simp] theorem State.setFl_dp (m : Mast) (f : FaultState) : (s.setFl m f).dp = s.dp := rfl
@[simp] theorem State.setFl_aud (m : Mast) (f : FaultState) : (s.setFl m f).aud = s.aud := rfl
@[simp] theorem State.setFl_vid (m : Mast) (f : FaultState) : (s.setFl m f).vid = s.vid := rfl
@[simp] theorem State.setFl_lan (m : Mast) (f : FaultState) : (s.setFl m f).lan = s.lan := rfl
@[simp] theorem State.setFl_tim (m : Mast) (f : FaultState) : (s.setFl m f).tim = s.tim := rfl
@[simp] theorem State.setFl_clk (m : Mast) (f : FaultState) : (s.setFl m f).clk = s.clk := rfl
@[simp] theorem State.setFl_ptp (m : Mast) (f : FaultState) : (s.setFl m f).ptp = s.ptp := rfl
@[simp] theorem State.setFl_sup (m : Mast) (f : FaultState) : (s.setFl m f).sup = s.sup := rfl
@[simp] theorem State.setFl_mem (m : Mast) (f : FaultState) : (s.setFl m f).mem = s.mem := rfl
@[simp] theorem State.setFl_alm (m : Mast) (f : FaultState) : (s.setFl m f).alm = s.alm := rfl
@[simp] theorem State.setFl_alarm (m : Mast) (f : FaultState) : (s.setFl m f).alarm = s.alarm := rfl
@[simp] theorem State.setFl_jobs (m : Mast) (f : FaultState) : (s.setFl m f).jobs = s.jobs := rfl
@[simp] theorem State.setFl_handovers (m : Mast) (f : FaultState) : (s.setFl m f).handovers = s.handovers := rfl
@[simp] theorem State.setFl_tests (m : Mast) (f : FaultState) : (s.setFl m f).tests = s.tests := rfl

/-! ### setMem -/

@[simp] theorem State.setMem_pending (m : Mast) (x : MemMast) : (s.setMem m x).pending = s.pending := rfl
@[simp] theorem State.setMem_now (m : Mast) (x : MemMast) : (s.setMem m x).now = s.now := rfl
@[simp] theorem State.setMem_step (m : Mast) (x : MemMast) : (s.setMem m x).step = s.step := rfl
@[simp] theorem State.setMem_freeCount (m : Mast) (x : MemMast) : (s.setMem m x).freeCount = s.freeCount := rfl
@[simp] theorem State.setMem_variant (m : Mast) (x : MemMast) : (s.setMem m x).variant = s.variant := rfl
@[simp] theorem State.setMem_hal (m : Mast) (x : MemMast) : (s.setMem m x).hal = s.hal := rfl
@[simp] theorem State.setMem_port (m : Mast) (x : MemMast) : (s.setMem m x).port = s.port := rfl
@[simp] theorem State.setMem_md (m : Mast) (x : MemMast) : (s.setMem m x).md = s.md := rfl
@[simp] theorem State.setMem_tan (m : Mast) (x : MemMast) : (s.setMem m x).tan = s.tan := rfl
@[simp] theorem State.setMem_flt (m : Mast) (x : MemMast) : (s.setMem m x).flt = s.flt := rfl
@[simp] theorem State.setMem_ctr (m : Mast) (x : MemMast) : (s.setMem m x).ctr = s.ctr := rfl
@[simp] theorem State.setMem_snap (m : Mast) (x : MemMast) : (s.setMem m x).snap = s.snap := rfl
@[simp] theorem State.setMem_sec (m : Mast) (x : MemMast) : (s.setMem m x).sec = s.sec := rfl
@[simp] theorem State.setMem_rigs (m : Mast) (x : MemMast) : (s.setMem m x).rigs = s.rigs := rfl
@[simp] theorem State.setMem_dp (m : Mast) (x : MemMast) : (s.setMem m x).dp = s.dp := rfl
@[simp] theorem State.setMem_aud (m : Mast) (x : MemMast) : (s.setMem m x).aud = s.aud := rfl
@[simp] theorem State.setMem_vid (m : Mast) (x : MemMast) : (s.setMem m x).vid = s.vid := rfl
@[simp] theorem State.setMem_lan (m : Mast) (x : MemMast) : (s.setMem m x).lan = s.lan := rfl
@[simp] theorem State.setMem_tim (m : Mast) (x : MemMast) : (s.setMem m x).tim = s.tim := rfl
@[simp] theorem State.setMem_clk (m : Mast) (x : MemMast) : (s.setMem m x).clk = s.clk := rfl
@[simp] theorem State.setMem_ptp (m : Mast) (x : MemMast) : (s.setMem m x).ptp = s.ptp := rfl
@[simp] theorem State.setMem_sup (m : Mast) (x : MemMast) : (s.setMem m x).sup = s.sup := rfl
@[simp] theorem State.setMem_mem (m : Mast) (x : MemMast) : (s.setMem m x).mem = s.mem.set m x := rfl
@[simp] theorem State.setMem_alm (m : Mast) (x : MemMast) : (s.setMem m x).alm = s.alm := rfl
@[simp] theorem State.setMem_alarm (m : Mast) (x : MemMast) : (s.setMem m x).alarm = s.alarm := rfl
@[simp] theorem State.setMem_jobs (m : Mast) (x : MemMast) : (s.setMem m x).jobs = s.jobs := rfl
@[simp] theorem State.setMem_handovers (m : Mast) (x : MemMast) : (s.setMem m x).handovers = s.handovers := rfl
@[simp] theorem State.setMem_tests (m : Mast) (x : MemMast) : (s.setMem m x).tests = s.tests := rfl

/-! ### setAud -/

@[simp] theorem State.setAud_pending (m : Mast) (a : AudioMast) : (s.setAud m a).pending = s.pending := rfl
@[simp] theorem State.setAud_now (m : Mast) (a : AudioMast) : (s.setAud m a).now = s.now := rfl
@[simp] theorem State.setAud_step (m : Mast) (a : AudioMast) : (s.setAud m a).step = s.step := rfl
@[simp] theorem State.setAud_freeCount (m : Mast) (a : AudioMast) : (s.setAud m a).freeCount = s.freeCount := rfl
@[simp] theorem State.setAud_variant (m : Mast) (a : AudioMast) : (s.setAud m a).variant = s.variant := rfl
@[simp] theorem State.setAud_hal (m : Mast) (a : AudioMast) : (s.setAud m a).hal = s.hal := rfl
@[simp] theorem State.setAud_port (m : Mast) (a : AudioMast) : (s.setAud m a).port = s.port := rfl
@[simp] theorem State.setAud_md (m : Mast) (a : AudioMast) : (s.setAud m a).md = s.md := rfl
@[simp] theorem State.setAud_tan (m : Mast) (a : AudioMast) : (s.setAud m a).tan = s.tan := rfl
@[simp] theorem State.setAud_flt (m : Mast) (a : AudioMast) : (s.setAud m a).flt = s.flt := rfl
@[simp] theorem State.setAud_ctr (m : Mast) (a : AudioMast) : (s.setAud m a).ctr = s.ctr := rfl
@[simp] theorem State.setAud_snap (m : Mast) (a : AudioMast) : (s.setAud m a).snap = s.snap := rfl
@[simp] theorem State.setAud_sec (m : Mast) (a : AudioMast) : (s.setAud m a).sec = s.sec := rfl
@[simp] theorem State.setAud_rigs (m : Mast) (a : AudioMast) : (s.setAud m a).rigs = s.rigs := rfl
@[simp] theorem State.setAud_dp (m : Mast) (a : AudioMast) : (s.setAud m a).dp = s.dp := rfl
@[simp] theorem State.setAud_aud (m : Mast) (a : AudioMast) : (s.setAud m a).aud = s.aud.set m a := rfl
@[simp] theorem State.setAud_vid (m : Mast) (a : AudioMast) : (s.setAud m a).vid = s.vid := rfl
@[simp] theorem State.setAud_lan (m : Mast) (a : AudioMast) : (s.setAud m a).lan = s.lan := rfl
@[simp] theorem State.setAud_tim (m : Mast) (a : AudioMast) : (s.setAud m a).tim = s.tim := rfl
@[simp] theorem State.setAud_clk (m : Mast) (a : AudioMast) : (s.setAud m a).clk = s.clk := rfl
@[simp] theorem State.setAud_ptp (m : Mast) (a : AudioMast) : (s.setAud m a).ptp = s.ptp := rfl
@[simp] theorem State.setAud_sup (m : Mast) (a : AudioMast) : (s.setAud m a).sup = s.sup := rfl
@[simp] theorem State.setAud_mem (m : Mast) (a : AudioMast) : (s.setAud m a).mem = s.mem := rfl
@[simp] theorem State.setAud_alm (m : Mast) (a : AudioMast) : (s.setAud m a).alm = s.alm := rfl
@[simp] theorem State.setAud_alarm (m : Mast) (a : AudioMast) : (s.setAud m a).alarm = s.alarm := rfl
@[simp] theorem State.setAud_jobs (m : Mast) (a : AudioMast) : (s.setAud m a).jobs = s.jobs := rfl
@[simp] theorem State.setAud_handovers (m : Mast) (a : AudioMast) : (s.setAud m a).handovers = s.handovers := rfl
@[simp] theorem State.setAud_tests (m : Mast) (a : AudioMast) : (s.setAud m a).tests = s.tests := rfl

/-! ### setDp -/

@[simp] theorem State.setDp_pending (m : Mast) (d : Datapath) : (s.setDp m d).pending = s.pending := rfl
@[simp] theorem State.setDp_now (m : Mast) (d : Datapath) : (s.setDp m d).now = s.now := rfl
@[simp] theorem State.setDp_step (m : Mast) (d : Datapath) : (s.setDp m d).step = s.step := rfl
@[simp] theorem State.setDp_freeCount (m : Mast) (d : Datapath) : (s.setDp m d).freeCount = s.freeCount := rfl
@[simp] theorem State.setDp_variant (m : Mast) (d : Datapath) : (s.setDp m d).variant = s.variant := rfl
@[simp] theorem State.setDp_hal (m : Mast) (d : Datapath) : (s.setDp m d).hal = s.hal := rfl
@[simp] theorem State.setDp_port (m : Mast) (d : Datapath) : (s.setDp m d).port = s.port := rfl
@[simp] theorem State.setDp_md (m : Mast) (d : Datapath) : (s.setDp m d).md = s.md := rfl
@[simp] theorem State.setDp_tan (m : Mast) (d : Datapath) : (s.setDp m d).tan = s.tan := rfl
@[simp] theorem State.setDp_flt (m : Mast) (d : Datapath) : (s.setDp m d).flt = s.flt := rfl
@[simp] theorem State.setDp_ctr (m : Mast) (d : Datapath) : (s.setDp m d).ctr = s.ctr := rfl
@[simp] theorem State.setDp_snap (m : Mast) (d : Datapath) : (s.setDp m d).snap = s.snap := rfl
@[simp] theorem State.setDp_sec (m : Mast) (d : Datapath) : (s.setDp m d).sec = s.sec := rfl
@[simp] theorem State.setDp_rigs (m : Mast) (d : Datapath) : (s.setDp m d).rigs = s.rigs := rfl
@[simp] theorem State.setDp_dp (m : Mast) (d : Datapath) : (s.setDp m d).dp = s.dp.set m d := rfl
@[simp] theorem State.setDp_aud (m : Mast) (d : Datapath) : (s.setDp m d).aud = s.aud := rfl
@[simp] theorem State.setDp_vid (m : Mast) (d : Datapath) : (s.setDp m d).vid = s.vid := rfl
@[simp] theorem State.setDp_lan (m : Mast) (d : Datapath) : (s.setDp m d).lan = s.lan := rfl
@[simp] theorem State.setDp_tim (m : Mast) (d : Datapath) : (s.setDp m d).tim = s.tim := rfl
@[simp] theorem State.setDp_clk (m : Mast) (d : Datapath) : (s.setDp m d).clk = s.clk := rfl
@[simp] theorem State.setDp_ptp (m : Mast) (d : Datapath) : (s.setDp m d).ptp = s.ptp := rfl
@[simp] theorem State.setDp_sup (m : Mast) (d : Datapath) : (s.setDp m d).sup = s.sup := rfl
@[simp] theorem State.setDp_mem (m : Mast) (d : Datapath) : (s.setDp m d).mem = s.mem := rfl
@[simp] theorem State.setDp_alm (m : Mast) (d : Datapath) : (s.setDp m d).alm = s.alm := rfl
@[simp] theorem State.setDp_alarm (m : Mast) (d : Datapath) : (s.setDp m d).alarm = s.alarm := rfl
@[simp] theorem State.setDp_jobs (m : Mast) (d : Datapath) : (s.setDp m d).jobs = s.jobs := rfl
@[simp] theorem State.setDp_handovers (m : Mast) (d : Datapath) : (s.setDp m d).handovers = s.handovers := rfl
@[simp] theorem State.setDp_tests (m : Mast) (d : Datapath) : (s.setDp m d).tests = s.tests := rfl

/-! ### setClk -/

@[simp] theorem State.setClk_pending (m : Mast) (c : ClockMast) : (s.setClk m c).pending = s.pending := rfl
@[simp] theorem State.setClk_now (m : Mast) (c : ClockMast) : (s.setClk m c).now = s.now := rfl
@[simp] theorem State.setClk_step (m : Mast) (c : ClockMast) : (s.setClk m c).step = s.step := rfl
@[simp] theorem State.setClk_freeCount (m : Mast) (c : ClockMast) : (s.setClk m c).freeCount = s.freeCount := rfl
@[simp] theorem State.setClk_variant (m : Mast) (c : ClockMast) : (s.setClk m c).variant = s.variant := rfl
@[simp] theorem State.setClk_hal (m : Mast) (c : ClockMast) : (s.setClk m c).hal = s.hal := rfl
@[simp] theorem State.setClk_port (m : Mast) (c : ClockMast) : (s.setClk m c).port = s.port := rfl
@[simp] theorem State.setClk_md (m : Mast) (c : ClockMast) : (s.setClk m c).md = s.md := rfl
@[simp] theorem State.setClk_tan (m : Mast) (c : ClockMast) : (s.setClk m c).tan = s.tan := rfl
@[simp] theorem State.setClk_flt (m : Mast) (c : ClockMast) : (s.setClk m c).flt = s.flt := rfl
@[simp] theorem State.setClk_ctr (m : Mast) (c : ClockMast) : (s.setClk m c).ctr = s.ctr := rfl
@[simp] theorem State.setClk_snap (m : Mast) (c : ClockMast) : (s.setClk m c).snap = s.snap := rfl
@[simp] theorem State.setClk_sec (m : Mast) (c : ClockMast) : (s.setClk m c).sec = s.sec := rfl
@[simp] theorem State.setClk_rigs (m : Mast) (c : ClockMast) : (s.setClk m c).rigs = s.rigs := rfl
@[simp] theorem State.setClk_dp (m : Mast) (c : ClockMast) : (s.setClk m c).dp = s.dp := rfl
@[simp] theorem State.setClk_aud (m : Mast) (c : ClockMast) : (s.setClk m c).aud = s.aud := rfl
@[simp] theorem State.setClk_vid (m : Mast) (c : ClockMast) : (s.setClk m c).vid = s.vid := rfl
@[simp] theorem State.setClk_lan (m : Mast) (c : ClockMast) : (s.setClk m c).lan = s.lan := rfl
@[simp] theorem State.setClk_tim (m : Mast) (c : ClockMast) : (s.setClk m c).tim = s.tim := rfl
@[simp] theorem State.setClk_clk (m : Mast) (c : ClockMast) : (s.setClk m c).clk = s.clk.set m c := rfl
@[simp] theorem State.setClk_ptp (m : Mast) (c : ClockMast) : (s.setClk m c).ptp = s.ptp := rfl
@[simp] theorem State.setClk_sup (m : Mast) (c : ClockMast) : (s.setClk m c).sup = s.sup := rfl
@[simp] theorem State.setClk_mem (m : Mast) (c : ClockMast) : (s.setClk m c).mem = s.mem := rfl
@[simp] theorem State.setClk_alm (m : Mast) (c : ClockMast) : (s.setClk m c).alm = s.alm := rfl
@[simp] theorem State.setClk_alarm (m : Mast) (c : ClockMast) : (s.setClk m c).alarm = s.alarm := rfl
@[simp] theorem State.setClk_jobs (m : Mast) (c : ClockMast) : (s.setClk m c).jobs = s.jobs := rfl
@[simp] theorem State.setClk_handovers (m : Mast) (c : ClockMast) : (s.setClk m c).handovers = s.handovers := rfl
@[simp] theorem State.setClk_tests (m : Mast) (c : ClockMast) : (s.setClk m c).tests = s.tests := rfl

/-! ### setSup -/

@[simp] theorem State.setSup_pending (m : Mast) (x : SupplyMast) : (s.setSup m x).pending = s.pending := rfl
@[simp] theorem State.setSup_now (m : Mast) (x : SupplyMast) : (s.setSup m x).now = s.now := rfl
@[simp] theorem State.setSup_step (m : Mast) (x : SupplyMast) : (s.setSup m x).step = s.step := rfl
@[simp] theorem State.setSup_freeCount (m : Mast) (x : SupplyMast) : (s.setSup m x).freeCount = s.freeCount := rfl
@[simp] theorem State.setSup_variant (m : Mast) (x : SupplyMast) : (s.setSup m x).variant = s.variant := rfl
@[simp] theorem State.setSup_hal (m : Mast) (x : SupplyMast) : (s.setSup m x).hal = s.hal := rfl
@[simp] theorem State.setSup_port (m : Mast) (x : SupplyMast) : (s.setSup m x).port = s.port := rfl
@[simp] theorem State.setSup_md (m : Mast) (x : SupplyMast) : (s.setSup m x).md = s.md := rfl
@[simp] theorem State.setSup_tan (m : Mast) (x : SupplyMast) : (s.setSup m x).tan = s.tan := rfl
@[simp] theorem State.setSup_flt (m : Mast) (x : SupplyMast) : (s.setSup m x).flt = s.flt := rfl
@[simp] theorem State.setSup_ctr (m : Mast) (x : SupplyMast) : (s.setSup m x).ctr = s.ctr := rfl
@[simp] theorem State.setSup_snap (m : Mast) (x : SupplyMast) : (s.setSup m x).snap = s.snap := rfl
@[simp] theorem State.setSup_sec (m : Mast) (x : SupplyMast) : (s.setSup m x).sec = s.sec := rfl
@[simp] theorem State.setSup_rigs (m : Mast) (x : SupplyMast) : (s.setSup m x).rigs = s.rigs := rfl
@[simp] theorem State.setSup_dp (m : Mast) (x : SupplyMast) : (s.setSup m x).dp = s.dp := rfl
@[simp] theorem State.setSup_aud (m : Mast) (x : SupplyMast) : (s.setSup m x).aud = s.aud := rfl
@[simp] theorem State.setSup_vid (m : Mast) (x : SupplyMast) : (s.setSup m x).vid = s.vid := rfl
@[simp] theorem State.setSup_lan (m : Mast) (x : SupplyMast) : (s.setSup m x).lan = s.lan := rfl
@[simp] theorem State.setSup_tim (m : Mast) (x : SupplyMast) : (s.setSup m x).tim = s.tim := rfl
@[simp] theorem State.setSup_clk (m : Mast) (x : SupplyMast) : (s.setSup m x).clk = s.clk := rfl
@[simp] theorem State.setSup_ptp (m : Mast) (x : SupplyMast) : (s.setSup m x).ptp = s.ptp := rfl
@[simp] theorem State.setSup_sup (m : Mast) (x : SupplyMast) : (s.setSup m x).sup = s.sup.set m x := rfl
@[simp] theorem State.setSup_mem (m : Mast) (x : SupplyMast) : (s.setSup m x).mem = s.mem := rfl
@[simp] theorem State.setSup_alm (m : Mast) (x : SupplyMast) : (s.setSup m x).alm = s.alm := rfl
@[simp] theorem State.setSup_alarm (m : Mast) (x : SupplyMast) : (s.setSup m x).alarm = s.alarm := rfl
@[simp] theorem State.setSup_jobs (m : Mast) (x : SupplyMast) : (s.setSup m x).jobs = s.jobs := rfl
@[simp] theorem State.setSup_handovers (m : Mast) (x : SupplyMast) : (s.setSup m x).handovers = s.handovers := rfl
@[simp] theorem State.setSup_tests (m : Mast) (x : SupplyMast) : (s.setSup m x).tests = s.tests := rfl

/-! ### setAlm -/

@[simp] theorem State.setAlm_pending (m : Mast) (a : AlarmMast) : (s.setAlm m a).pending = s.pending := rfl
@[simp] theorem State.setAlm_now (m : Mast) (a : AlarmMast) : (s.setAlm m a).now = s.now := rfl
@[simp] theorem State.setAlm_step (m : Mast) (a : AlarmMast) : (s.setAlm m a).step = s.step := rfl
@[simp] theorem State.setAlm_freeCount (m : Mast) (a : AlarmMast) : (s.setAlm m a).freeCount = s.freeCount := rfl
@[simp] theorem State.setAlm_variant (m : Mast) (a : AlarmMast) : (s.setAlm m a).variant = s.variant := rfl
@[simp] theorem State.setAlm_hal (m : Mast) (a : AlarmMast) : (s.setAlm m a).hal = s.hal := rfl
@[simp] theorem State.setAlm_port (m : Mast) (a : AlarmMast) : (s.setAlm m a).port = s.port := rfl
@[simp] theorem State.setAlm_md (m : Mast) (a : AlarmMast) : (s.setAlm m a).md = s.md := rfl
@[simp] theorem State.setAlm_tan (m : Mast) (a : AlarmMast) : (s.setAlm m a).tan = s.tan := rfl
@[simp] theorem State.setAlm_flt (m : Mast) (a : AlarmMast) : (s.setAlm m a).flt = s.flt := rfl
@[simp] theorem State.setAlm_ctr (m : Mast) (a : AlarmMast) : (s.setAlm m a).ctr = s.ctr := rfl
@[simp] theorem State.setAlm_snap (m : Mast) (a : AlarmMast) : (s.setAlm m a).snap = s.snap := rfl
@[simp] theorem State.setAlm_sec (m : Mast) (a : AlarmMast) : (s.setAlm m a).sec = s.sec := rfl
@[simp] theorem State.setAlm_rigs (m : Mast) (a : AlarmMast) : (s.setAlm m a).rigs = s.rigs := rfl
@[simp] theorem State.setAlm_dp (m : Mast) (a : AlarmMast) : (s.setAlm m a).dp = s.dp := rfl
@[simp] theorem State.setAlm_aud (m : Mast) (a : AlarmMast) : (s.setAlm m a).aud = s.aud := rfl
@[simp] theorem State.setAlm_vid (m : Mast) (a : AlarmMast) : (s.setAlm m a).vid = s.vid := rfl
@[simp] theorem State.setAlm_lan (m : Mast) (a : AlarmMast) : (s.setAlm m a).lan = s.lan := rfl
@[simp] theorem State.setAlm_tim (m : Mast) (a : AlarmMast) : (s.setAlm m a).tim = s.tim := rfl
@[simp] theorem State.setAlm_clk (m : Mast) (a : AlarmMast) : (s.setAlm m a).clk = s.clk := rfl
@[simp] theorem State.setAlm_ptp (m : Mast) (a : AlarmMast) : (s.setAlm m a).ptp = s.ptp := rfl
@[simp] theorem State.setAlm_sup (m : Mast) (a : AlarmMast) : (s.setAlm m a).sup = s.sup := rfl
@[simp] theorem State.setAlm_mem (m : Mast) (a : AlarmMast) : (s.setAlm m a).mem = s.mem := rfl
@[simp] theorem State.setAlm_alm (m : Mast) (a : AlarmMast) : (s.setAlm m a).alm = s.alm.set m a := rfl
@[simp] theorem State.setAlm_alarm (m : Mast) (a : AlarmMast) : (s.setAlm m a).alarm = s.alarm := rfl
@[simp] theorem State.setAlm_jobs (m : Mast) (a : AlarmMast) : (s.setAlm m a).jobs = s.jobs := rfl
@[simp] theorem State.setAlm_handovers (m : Mast) (a : AlarmMast) : (s.setAlm m a).handovers = s.handovers := rfl
@[simp] theorem State.setAlm_tests (m : Mast) (a : AlarmMast) : (s.setAlm m a).tests = s.tests := rfl

/-! ### gauge -/

@[simp] theorem State.gauge_pending (m : Mast) (i : Nat) (v : Int) : (s.gauge m i v).pending = s.pending := rfl
@[simp] theorem State.gauge_now (m : Mast) (i : Nat) (v : Int) : (s.gauge m i v).now = s.now := rfl
@[simp] theorem State.gauge_step (m : Mast) (i : Nat) (v : Int) : (s.gauge m i v).step = s.step := rfl
@[simp] theorem State.gauge_freeCount (m : Mast) (i : Nat) (v : Int) : (s.gauge m i v).freeCount = s.freeCount := rfl
@[simp] theorem State.gauge_variant (m : Mast) (i : Nat) (v : Int) : (s.gauge m i v).variant = s.variant := rfl
@[simp] theorem State.gauge_hal (m : Mast) (i : Nat) (v : Int) : (s.gauge m i v).hal = s.hal := rfl
@[simp] theorem State.gauge_port (m : Mast) (i : Nat) (v : Int) : (s.gauge m i v).port = s.port := rfl
@[simp] theorem State.gauge_md (m : Mast) (i : Nat) (v : Int) : (s.gauge m i v).md = s.md := rfl
@[simp] theorem State.gauge_tan (m : Mast) (i : Nat) (v : Int) : (s.gauge m i v).tan = s.tan := rfl
@[simp] theorem State.gauge_flt (m : Mast) (i : Nat) (v : Int) : (s.gauge m i v).flt = s.flt := rfl
@[simp] theorem State.gauge_ctr (m : Mast) (i : Nat) (v : Int) : (s.gauge m i v).ctr = s.ctr.set m { s.ct m with gauges := (s.ct m).gauges.put i v } := rfl
@[simp] theorem State.gauge_snap (m : Mast) (i : Nat) (v : Int) : (s.gauge m i v).snap = s.snap := rfl
@[simp] theorem State.gauge_sec (m : Mast) (i : Nat) (v : Int) : (s.gauge m i v).sec = s.sec := rfl
@[simp] theorem State.gauge_rigs (m : Mast) (i : Nat) (v : Int) : (s.gauge m i v).rigs = s.rigs := rfl
@[simp] theorem State.gauge_dp (m : Mast) (i : Nat) (v : Int) : (s.gauge m i v).dp = s.dp := rfl
@[simp] theorem State.gauge_aud (m : Mast) (i : Nat) (v : Int) : (s.gauge m i v).aud = s.aud := rfl
@[simp] theorem State.gauge_vid (m : Mast) (i : Nat) (v : Int) : (s.gauge m i v).vid = s.vid := rfl
@[simp] theorem State.gauge_lan (m : Mast) (i : Nat) (v : Int) : (s.gauge m i v).lan = s.lan := rfl
@[simp] theorem State.gauge_tim (m : Mast) (i : Nat) (v : Int) : (s.gauge m i v).tim = s.tim := rfl
@[simp] theorem State.gauge_clk (m : Mast) (i : Nat) (v : Int) : (s.gauge m i v).clk = s.clk := rfl
@[simp] theorem State.gauge_ptp (m : Mast) (i : Nat) (v : Int) : (s.gauge m i v).ptp = s.ptp := rfl
@[simp] theorem State.gauge_sup (m : Mast) (i : Nat) (v : Int) : (s.gauge m i v).sup = s.sup := rfl
@[simp] theorem State.gauge_mem (m : Mast) (i : Nat) (v : Int) : (s.gauge m i v).mem = s.mem := rfl
@[simp] theorem State.gauge_alm (m : Mast) (i : Nat) (v : Int) : (s.gauge m i v).alm = s.alm := rfl
@[simp] theorem State.gauge_alarm (m : Mast) (i : Nat) (v : Int) : (s.gauge m i v).alarm = s.alarm := rfl
@[simp] theorem State.gauge_jobs (m : Mast) (i : Nat) (v : Int) : (s.gauge m i v).jobs = s.jobs := rfl
@[simp] theorem State.gauge_handovers (m : Mast) (i : Nat) (v : Int) : (s.gauge m i v).handovers = s.handovers := rfl
@[simp] theorem State.gauge_tests (m : Mast) (i : Nat) (v : Int) : (s.gauge m i v).tests = s.tests := rfl

end Sys2Proof.Machine
end

