-- ==== Sys2Proof/Laws/Assoc.lean ====
section
/-! SUPPORT. Sparse tables: what a put leaves to be found, and their canonical form. -/
namespace Sys2Proof

theorem Assoc_find_put {α : Type} (t : Assoc α) (i : Nat) (v : α) : (t.put i v).find i = some v := by
  induction t with
  | nil => simp [Assoc.put, Assoc.find]
  | cons p rest ih =>
    obtain ⟨k, w⟩ := p
    unfold Assoc.put
    split
    · simp [Assoc.find]
    · split
      · simp [Assoc.find]
      · rename_i h1 h2
        simp [Assoc.find, h2, ih]

theorem Assoc_find_put_ne {α : Type} (t : Assoc α) {i j : Nat} (v : α) (h : j ≠ i) : (t.put i v).find j = t.find j := by
  induction t with
  | nil => simp [Assoc.put, Assoc.find, Ne.symm h]
  | cons p rest ih =>
    obtain ⟨k, w⟩ := p
    unfold Assoc.put
    split
    · simp [Assoc.find, Ne.symm h]
    · split
      · subst_vars
        simp [Assoc.find, Ne.symm h]
      · simp only [Assoc.find, ih]

@[simp] theorem Assoc_getD_put {α : Type} (t : Assoc α) (i : Nat) (v d : α) : Assoc.getD (t.put i v) i d = v := by
  simp [Assoc.getD, Assoc_find_put]

theorem Assoc_getD_put_ne {α : Type} (t : Assoc α) {i j : Nat} (v d : α) (h : j ≠ i) :
    Assoc.getD (t.put i v) j d = Assoc.getD t j d := by simp [Assoc.getD, Assoc_find_put_ne t v h]

namespace Machine

/-- A counter after an increment (R504): it saturates. -/
theorem Counters_read_bump (c : Counters) (now i n : Nat) : (c.bump now i n).read i = satAdd64 (c.read i) n := by
  simp [Counters.bump, Counters.read]

theorem Counters_read_bump_ne (c : Counters) (now n : Nat) {i j : Nat} (h : j ≠ i) : (c.bump now i n).read j = c.read j := by
  simp [Counters.bump, Counters.read, Assoc_getD_put_ne _ _ _ h]

theorem bump_ct (s : State) (m : Mast) (i n : Nat) (hn : n ≠ 0) : (s.bump m i n).ct m = (s.ct m).bump s.now i n := by
  simp [State.bump, hn, State.ct]

end Machine
end Sys2Proof
end

