-- ==== Sys2Proof/Laws/Halyard.lean ====
section
/-! SUPPORT. What Halyard's shared operations do: they touch Halyard's tables, the host ports and the counters only; only a
reply adds a kept reply; an accepted command that nothing refuses is carried out and answered. -/
namespace Sys2Proof.Machine
open Sys2Proof

/-! ### What stays -/

theorem SameBut_refl (st : SeatState) : st.SameBut st := rfl

theorem SameBut_trans {a b c : SeatState} (h : a.SameBut b) (k : b.SameBut c) : a.SameBut c := by
  unfold SeatState.SameBut at *
  rw [k, h]

theorem OnlyHalyard_refl (s : State) : s.OnlyHalyard s := ⟨rfl, rfl, fun _ => rfl⟩

theorem OnlyHalyard_trans {s t u : State} (h : s.OnlyHalyard t) (k : t.OnlyHalyard u) : s.OnlyHalyard u where
  rest := by
    have a := k.rest
    rw [h.rest] at a
    exact a
  seats := k.seats.trans h.seats
  each n := SameBut_trans (h.each n) (k.each n)

/-- A change that leaves the seats alone. -/
theorem OnlyHalyard_of_seats {s t : State} (hs : t.hal.seats = s.hal.seats)
    (h : t = { s with hal := { s.hal with seats := t.hal.seats, sessions := t.hal.sessions }, port := t.port, ctr := t.ctr }) :
    s.OnlyHalyard t := ⟨h, by rw [hs], fun k => by simp [State.seat, hs, SeatState.SameBut]⟩

theorem OnlyHalyard_foldl {α : Type} (f : State → α → State) (hf : ∀ (s : State) a, s.OnlyHalyard (f s a)) (l : List α) (s : State) :
    s.OnlyHalyard (l.foldl f s) := by
  induction l generalizing s with
  | nil => exact OnlyHalyard_refl s
  | cons a l ih => exact OnlyHalyard_trans (hf s a) (ih (f s a))

theorem bump_only (s : State) (m : Mast) (i n : Nat) : s.OnlyHalyard (s.bump m i n) := by
  unfold State.bump; split
  · exact OnlyHalyard_refl s
  · exact OnlyHalyard_of_seats rfl rfl

theorem discard_only (s : State) (m : Mast) (t : Transport) (c : Nat) : s.OnlyHalyard (s.discard m t c) := by
  unfold State.discard
  cases t
  · exact bump_only ..
  · dsimp only
    split
    · exact bump_only ..
    · exact OnlyHalyard_trans (bump_only ..) (OnlyHalyard_of_seats rfl rfl)
  · exact bump_only ..

theorem takeInbound_only (s : State) (h : Hdr) : s.OnlyHalyard (s.takeInbound h) := by
  unfold State.takeInbound; dsimp only; split
  · exact OnlyHalyard_refl s
  · split
    · exact OnlyHalyard_of_seats rfl rfl
    · exact OnlyHalyard_refl s

theorem touch_only (s : State) (h : Hdr) : s.OnlyHalyard (s.touch h) := OnlyHalyard_of_seats rfl rfl

theorem setSeat_length (s : State) (n : Nat) (v : SeatState) : (s.setSeat n v).hal.seats.length = s.hal.seats.length := by
  simp [setAt]

theorem setSeat_seat (s : State) (n : Nat) (v : SeatState) (hn : n < s.hal.seats.length) : (s.setSeat n v).seat n = v := by
  simp [State.seat, State.setSeat, atD, setAt, hn]

theorem setSeat_seat_ne (s : State) {n k : Nat} (v : SeatState) (h : k ≠ n) : (s.setSeat n v).seat k = s.seat k := by
  simp [State.seat, State.setSeat, atD, setAt, Ne.symm h]

theorem setSeat_seat_out (s : State) {n : Nat} (v : SeatState) (h : ¬n < s.hal.seats.length) : (s.setSeat n v).seat n = s.seat n := by
  have h' : s.hal.seats.length ≤ n := Nat.le_of_not_lt h
  simp [State.seat, State.setSeat, atD, setAt, h']

theorem setSeat_only (s : State) (n : Nat) (v : SeatState) (hv : (s.seat n).SameBut v) : s.OnlyHalyard (s.setSeat n v) where
  rest := rfl
  seats := setSeat_length ..
  each k := by
    by_cases h : k = n
    · subst h
      by_cases hk : k < s.hal.seats.length
      · rw [setSeat_seat _ _ _ hk]; exact hv
      · rw [setSeat_seat_out _ _ hk]; exact SameBut_refl _
    · rw [setSeat_seat_ne _ _ h]; exact SameBut_refl _

theorem setSessions_only (s : State) (l : List Session) : s.OnlyHalyard (s.setSessions l) := OnlyHalyard_of_seats rfl rfl

theorem acceptSeq_only (s : State) (seat : Nat) (h : Hdr) : s.OnlyHalyard (s.acceptSeq seat h) :=
  OnlyHalyard_trans (setSeat_only s seat _ (by exact rfl)) (setSessions_only _ _)

theorem enqueue_only (s : State) (x : Session) (p : Packet) : s.OnlyHalyard (s.enqueue x p) := by
  unfold State.enqueue; dsimp only; split
  · exact OnlyHalyard_refl s
  · exact OnlyHalyard_of_seats rfl rfl

theorem enter_same (st : SeatState) (m : Mast) (p : Packet) : st.SameBut (st.enter m p) := by
  simp only [SeatState.SameBut, SeatState.enter]

theorem endWrapped_only (s : State) (x : Session) : s.OnlyHalyard (s.endWrapped x) := by
  unfold State.endWrapped; dsimp only; split
  · exact OnlyHalyard_trans (setSessions_only _ _) (setSeat_only _ _ _ (enter_same _ _ _))
  · exact setSessions_only _ _

theorem sendOn_only (s : State) (ses : Option Session) (p : Packet) : s.OnlyHalyard (s.sendOn ses p) := by
  cases ses with
  | none => exact OnlyHalyard_refl s
  | some x =>
    have h := OnlyHalyard_trans (enqueue_only s x p) (setSessions_only _
      (s.hal.sessions.map (fun y => if y.id == x.id then { y with devUsed := y.devUsed + 1 } else y)))
    unfold State.sendOn; dsimp only; split
    · exact OnlyHalyard_trans h (endWrapped_only _ _)
    · exact h

theorem release_only (s : State) (seat kind opcode flags hs eff st : Nat) (p : List Byte) :
    s.OnlyHalyard (s.release seat kind opcode flags hs eff st p) :=
  OnlyHalyard_trans (setSeat_only _ _ _ (enter_same _ _ _)) (sendOn_only _ _ _)

theorem eventTo_only (s : State) (seat o c hs st : Nat) (f : List Byte) : s.OnlyHalyard (s.eventTo seat o c hs st f) := by
  unfold State.eventTo; split
  · exact release_only ..
  · exact OnlyHalyard_refl s

theorem eventFull_only (s : State) (o r n c st : Nat) (f : List Byte) : s.OnlyHalyard (s.eventFull o r n c st f) := by
  unfold State.eventFull
  refine OnlyHalyard_foldl _ (fun s a => ?_) _ _
  split
  · exact release_only ..
  · exact OnlyHalyard_refl s

theorem event_only (s : State) (o c : Nat) (f : List Byte) : s.OnlyHalyard (s.event o c f) := eventFull_only ..

theorem closeWhere_only (s : State) (w : Session → Bool) (c : Nat) : s.OnlyHalyard (s.closeWhere w c) := by
  unfold State.closeWhere; dsimp only
  refine OnlyHalyard_trans (setSessions_only s _) (OnlyHalyard_foldl _ (fun s a => ?_) _ _)
  split
  · exact OnlyHalyard_refl s
  · exact eventTo_only ..

theorem closeWrapped_only (s : State) : s.OnlyHalyard s.closeWrapped := closeWhere_only ..

theorem replyWith_only (s : State) (seat code flags hs : Nat) (a : Bool) (r : Reply) :
    s.OnlyHalyard (s.replyWith seat code flags hs a r) := by
  unfold State.replyWith; dsimp only; split
  · exact OnlyHalyard_trans (release_only ..) (setSeat_only _ _ _ (by exact rfl))
  · exact release_only ..

theorem reply_only (s : State) (h : Hdr) (seat code : Nat) (a : Bool) (r : Reply) : s.OnlyHalyard (s.reply h seat code a r) :=
  replyWith_only ..

theorem answerDue_only (s : State) (c : SchedCmd) (late : Bool) : s.OnlyHalyard (s.answerDue c late) := by
  unfold State.answerDue; split
  · exact OnlyHalyard_refl s
  · exact replyWith_only ..

theorem refuse_only (s : State) (h : Hdr) (seat code st : Nat) (f : List Byte) : s.OnlyHalyard (s.refuse h seat code st f) :=
  reply_only ..

theorem done_only (s : State) (h : Hdr) (seat code eff : Nat) (pm : Reach) (f : List Byte) :
    s.OnlyHalyard (s.done h seat code eff pm f) := reply_only ..

theorem answerDuplicate_only (s : State) (h : Hdr) (seat : Nat) : s.OnlyHalyard (s.answerDuplicate h seat) := by
  unfold State.answerDuplicate; split
  · exact release_only ..
  · exact discard_only ..

theorem accepted_only (s : State) (h : Hdr) (x : Session) : s.OnlyHalyard (s.accepted h x) :=
  OnlyHalyard_trans (takeInbound_only ..) (OnlyHalyard_trans (touch_only ..) (acceptSeq_only ..))

theorem admit_only (s : State) (h : Hdr) (code : Nat) (x : Session) (k : Nat → State → State)
    (hk : ∀ n (t : State), t.OnlyHalyard (k n t)) : s.OnlyHalyard (s.takeUp h code x k) := by
  unfold State.takeUp
  split
  · exact reply_only _ _ _ _ _ _
  · split
    · exact reply_only _ _ _ _ _ _
    · exact answerDuplicate_only _ _ _
    · exact OnlyHalyard_trans (acceptSeq_only _ _ _) (OnlyHalyard_trans (hk _ _) (closeWrapped_only _))

theorem process_only (s : State) (h : Hdr) (code : Nat) (k : Nat → State → State)
    (hk : ∀ n (t : State), t.OnlyHalyard (k n t)) : s.OnlyHalyard (s.process h code k) := by
  unfold State.process
  split
  · exact discard_only _ _ _ _
  · exact OnlyHalyard_refl s
  · exact OnlyHalyard_trans (touch_only s h) (admit_only _ h code _ k hk)

/-- Whatever happens to a received packet, the state is Halyard's change of the state before, or what the command
itself makes of a state so changed. -/
theorem receive_only (s : State) (h : Hdr) (code : Nat) (k : Nat → State → State)
    (hk : ∀ n (t : State), t.OnlyHalyard (k n t)) : s.OnlyHalyard (s.receive h code k) := by
  unfold State.receive
  split
  · exact OnlyHalyard_refl s
  · split
    · exact OnlyHalyard_trans (takeInbound_only s h) (discard_only _ _ _ _)
    · split
      · exact OnlyHalyard_refl s
      · exact OnlyHalyard_trans (takeInbound_only s h) (process_only _ h code k hk)

/-! ### Seats and kept replies -/

theorem setSeat_seat_cached (s : State) (n k : Nat) (v : SeatState) (hv : v.cached = (s.seat n).cached) :
    ((s.setSeat n v).seat k).cached = (s.seat k).cached := by
  simp only [State.seat, State.setSeat, atD, setAt, List.getElem?_set] at *
  split
  · split
    · subst_vars; simpa using hv
    · subst_vars; rw [List.getElem?_eq_none (by omega)]
  · rfl

theorem enqueue_hal (s : State) (x : Session) (p : Packet) : (s.enqueue x p).hal = s.hal := by
  unfold State.enqueue; dsimp only; split <;> rfl

/-- Two states whose seats have the same kept replies, seat by seat. -/
def SameReplies (s t : State) : Prop :=
  t.hal.seats.length = s.hal.seats.length ∧ ∀ k, (t.seat k).cached = (s.seat k).cached

theorem SameReplies_refl (s : State) : SameReplies s s := ⟨rfl, fun _ => rfl⟩

theorem SameReplies_trans {s t u : State} (h : SameReplies s t) (k : SameReplies t u) : SameReplies s u :=
  ⟨k.1.trans h.1, fun n => (k.2 n).trans (h.2 n)⟩

theorem SameReplies_of_seats {s t : State} (h : t.hal.seats = s.hal.seats) : SameReplies s t :=
  ⟨by rw [h], fun k => by simp [State.seat, h]⟩

theorem SameReplies_foldl {α : Type} (f : State → α → State) (hf : ∀ s a, SameReplies s (f s a)) (l : List α) (s : State) :
    SameReplies s (l.foldl f s) := by
  induction l generalizing s with
  | nil => exact SameReplies_refl s
  | cons a l ih => exact SameReplies_trans (hf s a) (ih (f s a))

theorem setSeat_replies (s : State) (n : Nat) (v : SeatState) (hv : v.cached = (s.seat n).cached) :
    SameReplies s (s.setSeat n v) := ⟨setSeat_length .., fun k => setSeat_seat_cached s n k v hv⟩

theorem enqueue_replies (s : State) (x : Session) (p : Packet) : SameReplies s (s.enqueue x p) :=
  SameReplies_of_seats (by rw [enqueue_hal])

theorem setSessions_replies (s : State) (l : List Session) : SameReplies s (s.setSessions l) := SameReplies_of_seats rfl

theorem endWrapped_replies (s : State) (x : Session) : SameReplies s (s.endWrapped x) := by
  unfold State.endWrapped; dsimp only; split
  · exact SameReplies_trans (setSessions_replies _ _) (setSeat_replies _ _ _ rfl)
  · exact setSessions_replies _ _

theorem sendOn_replies (s : State) (ses : Option Session) (p : Packet) : SameReplies s (s.sendOn ses p) := by
  cases ses with
  | none => exact SameReplies_refl s
  | some x =>
    have h := SameReplies_trans (enqueue_replies s x p) (setSessions_replies _
      (s.hal.sessions.map (fun y => if y.id == x.id then { y with devUsed := y.devUsed + 1 } else y)))
    unfold State.sendOn; dsimp only; split
    · exact SameReplies_trans h (endWrapped_replies _ _)
    · exact h

theorem release_replies (s : State) (seat kind opcode flags hs eff st : Nat) (p : List Byte) :
    SameReplies s (s.release seat kind opcode flags hs eff st p) := by
  unfold State.release
  exact SameReplies_trans (setSeat_replies s seat _ (by rfl)) (sendOn_replies _ _ _)

theorem eventTo_replies (s : State) (seat o c hs st : Nat) (f : List Byte) : SameReplies s (s.eventTo seat o c hs st f) := by
  unfold State.eventTo; split
  · exact release_replies ..
  · exact SameReplies_refl s

theorem closeWhere_replies (s : State) (w : Session → Bool) (c : Nat) : SameReplies s (s.closeWhere w c) := by
  unfold State.closeWhere; dsimp only
  refine SameReplies_trans (setSessions_replies s _) (SameReplies_foldl _ (fun s a => ?_) _ _)
  split
  · exact SameReplies_refl _
  · exact eventTo_replies ..

theorem closeWrapped_replies (s : State) : SameReplies s s.closeWrapped := closeWhere_replies ..

theorem takeInbound_hal (s : State) (h : Hdr) : (s.takeInbound h).hal = s.hal := by
  unfold State.takeInbound; dsimp only; split
  · rfl
  · split <;> rfl

theorem accepted_length (s : State) (h : Hdr) (x : Session) : (s.accepted h x).hal.seats.length = s.hal.seats.length := by
  simp [State.accepted, State.acceptSeq, State.touch, State.setSessions, setAt, takeInbound_hal]

theorem lastReply_of_same {s t : State} (h : SameReplies s t) (n : Nat) : t.lastReply n = s.lastReply n := by
  simp [State.lastReply, h.2 n]

theorem keepLast_snoc {α : Type} (n : Nat) (l : List α) (a : α) (hn : 0 < n) : (keepLast n (l ++ [a])).getLast? = some a := by
  unfold keepLast
  rw [List.getLast?_drop]
  simp only [List.length_append, List.length_cons, List.length_nil, List.getLast?_concat]
  rw [if_neg (by omega)]

/-- The reply of an accepted command is the last one its seat keeps (R158). -/
theorem replyWith_lastReply (s : State) (seat code flags hostSeq : Nat) (r : Reply) (hs : seat < s.hal.seats.length) :
    (s.replyWith seat code flags hostSeq true r).lastReply seat = some
      { hostSeq := hostSeq, opcode := code, flags := flags, status := r.status,
        effStep := r.effStep, payload := s.tandemReport r.outA r.outB ++ r.fields } := by
  unfold State.replyWith State.lastReply
  dsimp only
  rw [if_pos rfl, setSeat_seat _ _ _ (by rw [(release_replies ..).1]; exact hs)]
  exact keepLast_snoc _ _ _ (by omega)

theorem done_lastReply (s : State) (h : Hdr) (seat code eff : Nat) (pm : Reach) (f : List Byte) (hs : seat < s.hal.seats.length) :
    (s.done h seat code eff pm f).lastReply seat = some (okReply s h code eff pm f) := replyWith_lastReply s seat code _ _ _ hs

/-! ### Acceptance -/

/-- An accepted packet is carried out on the accepted state, and sessions whose sequences would wrap then close
(R143, R157). -/
theorem receive_accepts {s : State} {h : Hdr} {x : Session} (a : s.Accepts h x) (code : Nat) (k : Nat → State → State) :
    s.receive h code k = (k x.seat (s.accepted h x)).closeWrapped := by
  unfold State.receive
  rw [if_neg a.noVault, if_neg (by simp [a.noBoot, a.mastUp]), if_neg (by simp [a.room])]
  simp only [State.process, a.sound, a.session, State.takeUp, a.seat, ne_eq, not_true_eq_false, if_false, a.inOrder, State.accepted]

theorem firstRefusal_append_nil {l k : List Nat} (h : l = []) (hk : k = []) : firstRefusal (l ++ k) = none := by
  subst h; subst hk; rfl

/-- A permitted READ or IMMEDIATE command runs, and its reply follows (R168, R169, R174). -/
theorem runNow_permitted {s : State} {h : Hdr} {seat code len : Nat} {lengthOk : Bool} {reach : Reach} {own : List Nat}
    (run : State → State × List Byte) (hp : s.Permits h seat code lengthOk) (hf : s.Fits h len) (ho : own = []) :
    s.runNow h seat code lengthOk reach own len run = (run s).1.done h seat code s.step reach (run s).2 := by
  obtain ⟨row, hr, hc⟩ := hp
  unfold State.Fits at hf
  unfold State.runNow
  simp only [hr, hf, hc, ho, List.append_nil, firstRefusal]

/-- A permitted SCHEDULED command is queued for its effective step, and its reply goes as R63 says (R60, R169, R171). -/
theorem schedule_permitted {s : State} {h : Hdr} {seat code eff aux : Nat} {p : List Byte} {lengthOk : Bool} {own : List Nat}
    (prep : State → State × List Byte) (hp : s.Permits h seat code lengthOk) (hs : s.Schedules h code) (ho : own = []) :
    s.schedule h seat code p lengthOk own eff aux prep =
      ((prep s).1.queued code p seat h.hostSeq eff aux).answerQueued h seat code eff (schedReach code p) (prep s).2 := by
  obtain ⟨row, hr, hc⟩ := hp
  obtain ⟨row', hr', hc'⟩ := hs
  rw [hr] at hr'; cases hr'
  unfold State.schedule
  simp only [hr, hc, hc', ho, List.append_nil, firstRefusal]

/-- What an accepted command that runs at once leaves: its reply is the seat's last, and beside Halyard's own tables
only what `run` changes has changed. -/
theorem runNow_lastReply {s : State} {h : Hdr} {seat code len : Nat} {lengthOk : Bool} {reach : Reach} {own : List Nat}
    (run : State → State × List Byte) (hp : s.Permits h seat code lengthOk) (hf : s.Fits h len) (ho : own = [])
    (hn : seat < (run s).1.hal.seats.length) :
    ((s.runNow h seat code lengthOk reach own len run).closeWrapped).lastReply seat =
      some (okReply (run s).1 h code s.step reach (run s).2) := by
  rw [runNow_permitted run hp hf ho, lastReply_of_same (closeWrapped_replies _), done_lastReply _ _ _ _ _ _ _ hn]

/-! ### Commands carried out -/

theorem refuseIf_nil {b : Bool} {st : Nat} (h : b = false) : refuseIf b st = [] := by simp [refuseIf, h]

theorem refuseIf_eq_nil {b : Bool} {st : Nat} : refuseIf b st = [] ↔ b = false := by cases b <;> simp [refuseIf]

/-- What is left of a command that has been done, once sessions that would wrap have closed. -/
theorem done_closed {s : State} {h : Hdr} {seat code eff : Nat} {pm : Reach} {f : List Byte} (hs : seat < s.hal.seats.length) :
    s.OnlyHalyard (s.done h seat code eff pm f).closeWrapped ∧
      (s.done h seat code eff pm f).closeWrapped.lastReply seat = some (okReply s h code eff pm f) :=
  ⟨OnlyHalyard_trans (done_only ..) (closeWrapped_only _), by
    rw [lastReply_of_same (closeWrapped_replies _), done_lastReply _ _ _ _ _ _ _ hs]⟩

/-- A command whose meaning is to run at once, where nothing refuses it. -/
theorem Carries_of_runNow {i : Instr} {h : Hdr} {code : Nat} {pm : Reach} {lengthOk : Bool} {own : State → Nat → List Nat}
    {len : State → Nat} {ok : State → Nat → Prop} {effect : State → Nat → State} {fields : State → Nat → List Byte}
    (hx : ∀ s, exec i s = .next (s.receive h code fun n s1 =>
      s1.runNow h n code lengthOk pm (own s1 n) (len s1) fun s2 => (effect s2 n, fields s2 n)))
    (hok : ∀ a n, ok a n → a.Permits h n code lengthOk ∧ a.Fits h (len a) ∧ own a n = [])
    (hlen : ∀ a n, (effect a n).hal.seats.length = a.hal.seats.length) :
    Carries i h code pm ok (fun a => a.step) effect fields := by
  intro s x hs hp
  obtain ⟨h1, h2, h3⟩ := hok _ _ hp
  refine ⟨_, hx s, ?_⟩
  rw [receive_accepts hs, runNow_permitted _ h1 h2 h3]
  exact done_closed (by rw [hlen, accepted_length]; exact hs.known)

/-- What is left of a command that waits, once its reply is owed or out and sessions that would wrap have closed (R63). -/
theorem answerQueued_closed {q : State} {h : Hdr} {seat code eff : Nat} {r : Reach} {f : List Byte} (hs : seat < q.hal.seats.length) :
    Answered q (q.answerQueued h seat code eff r f).closeWrapped h seat code eff r f := by
  unfold Answered State.answerQueued
  split
  · exact ⟨closeWrapped_only _, fun k => by
      rw [lastReply_of_same (closeWrapped_replies _)]; exact lastReply_of_same (SameReplies_of_seats rfl) k⟩
  · exact done_closed hs

/-- A command whose meaning is to be scheduled, where nothing refuses it. -/
theorem Carries_of_schedule {i : Instr} {h : Hdr} {code : Nat} {p : List Byte} {lengthOk : Bool} {own : State → Nat → List Nat}
    {ok : State → Nat → Prop} {eff aux : State → Nat} {prep : State → Nat → State} {fields : State → Nat → List Byte}
    (hx : ∀ s, exec i s = .next (s.receive h code fun n s1 =>
      s1.schedule h n code p lengthOk (own s1 n) (eff s1) (aux s1) fun s2 => (prep s2 n, fields s2 n)))
    (hok : ∀ a n, ok a n → own a n = []) (hlen : ∀ a n, (prep a n).hal.seats.length = a.hal.seats.length) :
    QueuesUp i h p code lengthOk ok eff aux prep fields := by
  intro s x hs hp
  obtain ⟨h1, h2, h3⟩ := hp
  refine ⟨_, hx s, ?_⟩
  rw [receive_accepts hs, schedule_permitted _ h1 h2 (hok _ _ h3)]
  exact answerQueued_closed (by
    show x.seat < (prep (s.accepted h x) x.seat).hal.seats.length
    rw [hlen, accepted_length]; exact hs.known)

end Sys2Proof.Machine
end

