-- ==== Sys2Proof/Laws/Keeps.lean ====
section
/-! SUPPORT. What every operation keeps. `Keeps w s t`: from `s` to `t` the queue, the variant, the number of seats, the bounds
on Halyard's tables and the canonical form of the scratch banks are kept, and every part of the state whose bit in the mask `w`
is 0 is unchanged. The bits follow the order of State's fields, from bit 0 for `pending`. Each operation has one lemma that
names its mask, and the lemmas chain. -/
namespace Sys2Proof.Machine
open Sys2Proof

/-- What is kept between the Halyard tables of two states. -/
structure HalKeeps (a b : Halyard) : Prop where
  seats : b.seats.length = a.seats.length
  wf : a.wf = true → b.wf = true

/-- What is kept between the memories of two states. -/
def MemKeeps (a b : Both MemMast) : Prop := ∀ m, banksWf (a.get m) = true → banksWf (b.get m) = true

/-- A part of the state is as it was, unless the mask has its bit. -/
def Fixed {α : Type} (w k : Nat) (old new : α) : Prop := w.testBit k = true ∨ new = old

/-- See the head of this file. -/
structure Keeps (w : Nat) (s t : State) : Prop where
  pending : t.pending = s.pending
  variant : t.variant = s.variant
  halKeeps : HalKeeps s.hal t.hal
  memKeeps : MemKeeps s.mem t.mem
  now : Fixed w 1 s.now t.now
  step : Fixed w 2 s.step t.step
  freeCount : Fixed w 3 s.freeCount t.freeCount
  hal : Fixed w 5 s.hal t.hal
  port : Fixed w 6 s.port t.port
  md : Fixed w 7 s.md t.md
  tan : Fixed w 8 s.tan t.tan
  flt : Fixed w 9 s.flt t.flt
  ctr : Fixed w 10 s.ctr t.ctr
  snap : Fixed w 11 s.snap t.snap
  sec : Fixed w 12 s.sec t.sec
  rigs : Fixed w 13 s.rigs t.rigs
  dp : Fixed w 14 s.dp t.dp
  aud : Fixed w 15 s.aud t.aud
  vid : Fixed w 16 s.vid t.vid
  lan : Fixed w 17 s.lan t.lan
  tim : Fixed w 18 s.tim t.tim
  clk : Fixed w 19 s.clk t.clk
  ptp : Fixed w 20 s.ptp t.ptp
  sup : Fixed w 21 s.sup t.sup
  mem : Fixed w 22 s.mem t.mem
  alm : Fixed w 23 s.alm t.alm
  alarm : Fixed w 24 s.alarm t.alarm
  jobs : Fixed w 25 s.jobs t.jobs
  handovers : Fixed w 26 s.handovers t.handovers
  tests : Fixed w 27 s.tests t.tests

@[simp ↓] theorem Fixed_refl {α : Type} (w k : Nat) (a : α) : Fixed w k a a := .inr rfl

@[simp ↓ high] theorem Fixed_bit {α : Type} {w k : Nat} {a b : α} (h : w / 2 ^ k % 2 = 1) : Fixed w k a b :=
  .inl (by rw [Nat.testBit_eq_decide_div_mod_eq, h]; rfl)

theorem Fixed_trans {α : Type} {w k : Nat} {a b c : α} (h : Fixed w k a b) (g : Fixed w k b c) : Fixed w k a c := by
  rcases g with g | g
  · exact .inl g
  · subst g; exact h

theorem Fixed_mono {α : Type} {v w k : Nat} {a b : α} (h : Fixed v k a b) (hw : v &&& w = v) : Fixed w k a b := by
  rcases h with h | h
  · left; rw [← hw, Nat.testBit_and] at h; simp_all
  · exact .inr h

@[simp ↓] theorem HalKeeps_refl (a : Halyard) : HalKeeps a a := ⟨rfl, id⟩

theorem HalKeeps_trans {a b c : Halyard} (h : HalKeeps a b) (k : HalKeeps b c) : HalKeeps a c :=
  ⟨k.seats.trans h.seats, fun w => k.wf (h.wf w)⟩

@[simp ↓] theorem MemKeeps_refl (a : Both MemMast) : MemKeeps a a := fun _ h => h

@[simp ↓] theorem keeps_refl (w : Nat) (s : State) : Keeps w s s := by
  constructor <;> first | exact Fixed_refl _ _ _ | exact HalKeeps_refl _ | exact MemKeeps_refl _ | rfl

theorem keeps_trans {w : Nat} {s t u : State} (h : Keeps w s t) (k : Keeps w t u) : Keeps w s u := by
  constructor
  · exact k.pending.trans h.pending
  · exact k.variant.trans h.variant
  · exact HalKeeps_trans h.halKeeps k.halKeeps
  · exact fun m x => k.memKeeps m (h.memKeeps m x)
  · exact Fixed_trans h.now k.now
  · exact Fixed_trans h.step k.step
  · exact Fixed_trans h.freeCount k.freeCount
  · exact Fixed_trans h.hal k.hal
  · exact Fixed_trans h.port k.port
  · exact Fixed_trans h.md k.md
  · exact Fixed_trans h.tan k.tan
  · exact Fixed_trans h.flt k.flt
  · exact Fixed_trans h.ctr k.ctr
  · exact Fixed_trans h.snap k.snap
  · exact Fixed_trans h.sec k.sec
  · exact Fixed_trans h.rigs k.rigs
  · exact Fixed_trans h.dp k.dp
  · exact Fixed_trans h.aud k.aud
  · exact Fixed_trans h.vid k.vid
  · exact Fixed_trans h.lan k.lan
  · exact Fixed_trans h.tim k.tim
  · exact Fixed_trans h.clk k.clk
  · exact Fixed_trans h.ptp k.ptp
  · exact Fixed_trans h.sup k.sup
  · exact Fixed_trans h.mem k.mem
  · exact Fixed_trans h.alm k.alm
  · exact Fixed_trans h.alarm k.alarm
  · exact Fixed_trans h.jobs k.jobs
  · exact Fixed_trans h.handovers k.handovers
  · exact Fixed_trans h.tests k.tests

theorem keeps_mono {v w : Nat} {s t : State} (h : Keeps v s t) (hw : v &&& w = v) : Keeps w s t := by
  constructor
  · exact h.pending
  · exact h.variant
  · exact h.halKeeps
  · exact h.memKeeps
  · exact Fixed_mono h.now hw
  · exact Fixed_mono h.step hw
  · exact Fixed_mono h.freeCount hw
  · exact Fixed_mono h.hal hw
  · exact Fixed_mono h.port hw
  · exact Fixed_mono h.md hw
  · exact Fixed_mono h.tan hw
  · exact Fixed_mono h.flt hw
  · exact Fixed_mono h.ctr hw
  · exact Fixed_mono h.snap hw
  · exact Fixed_mono h.sec hw
  · exact Fixed_mono h.rigs hw
  · exact Fixed_mono h.dp hw
  · exact Fixed_mono h.aud hw
  · exact Fixed_mono h.vid hw
  · exact Fixed_mono h.lan hw
  · exact Fixed_mono h.tim hw
  · exact Fixed_mono h.clk hw
  · exact Fixed_mono h.ptp hw
  · exact Fixed_mono h.sup hw
  · exact Fixed_mono h.mem hw
  · exact Fixed_mono h.alm hw
  · exact Fixed_mono h.alarm hw
  · exact Fixed_mono h.jobs hw
  · exact Fixed_mono h.handovers hw
  · exact Fixed_mono h.tests hw

/-- An operation's own lemma, lifted to any chain whose mask includes its own. -/
theorem keeps_lift {v w : Nat} {s0 s t : State} (hk : Keeps w s0 s) (hw : v &&& w = v) (h : Keeps v s t) : Keeps w s0 t :=
  keeps_trans hk (keeps_mono h hw)

/-- A record update keeps what its old state keeps, if the parts it changes have their bits. -/
@[simp ↓] theorem keeps_mk {w : Nat} {s0 x : State} {a1 a2 a3 : Nat} {a6 : Halyard} {a7 : Both HostPort}
    {a8 : ModeState} {a9 : Tandem} {b1 : Both FaultState} {b2 : Both Counters} {b3 : SnapshotState} {b4 : Security}
    {b5 : RigSlots} {b6 : Both Datapath} {b7 : Both AudioMast} {b8 : Both VideoMast} {b9 : Both LaneMast} {c1 : Both TimingMast}
    {c2 : Both ClockMast} {c3 : Both PtpMast} {c4 : Both SupplyMast} {c5 : Both MemMast} {c6 : Both AlarmMast} {c7 : AlarmShared}
    {c8 : List XptJob} {c9 : List Handover} {d1 : List TestRoute}
    (hk : Keeps w s0 x) (hh : HalKeeps x.hal a6) (hm : MemKeeps x.mem c5)
    (h1 : Fixed w 1 x.now a1) (h2 : Fixed w 2 x.step a2) (h3 : Fixed w 3 x.freeCount a3) (h5 : Fixed w 5 x.hal a6)
    (h6 : Fixed w 6 x.port a7) (h7 : Fixed w 7 x.md a8) (h8 : Fixed w 8 x.tan a9) (h9 : Fixed w 9 x.flt b1)
    (h10 : Fixed w 10 x.ctr b2) (h11 : Fixed w 11 x.snap b3) (h12 : Fixed w 12 x.sec b4) (h13 : Fixed w 13 x.rigs b5)
    (h14 : Fixed w 14 x.dp b6) (h15 : Fixed w 15 x.aud b7) (h16 : Fixed w 16 x.vid b8) (h17 : Fixed w 17 x.lan b9)
    (h18 : Fixed w 18 x.tim c1) (h19 : Fixed w 19 x.clk c2) (h20 : Fixed w 20 x.ptp c3) (h21 : Fixed w 21 x.sup c4)
    (h22 : Fixed w 22 x.mem c5) (h23 : Fixed w 23 x.alm c6) (h24 : Fixed w 24 x.alarm c7) (h25 : Fixed w 25 x.jobs c8)
    (h26 : Fixed w 26 x.handovers c9) (h27 : Fixed w 27 x.tests d1) :
    Keeps w s0 ⟨x.pending, a1, a2, a3, x.variant, a6, a7, a8, a9, b1, b2, b3, b4, b5, b6, b7, b8, b9, c1, c2, c3, c4, c5, c6,
      c7, c8, c9, d1⟩ :=
  keeps_trans hk ⟨rfl, rfl, hh, hm, h1, h2, h3, h5, h6, h7, h8, h9, h10, h11, h12, h13, h14, h15, h16, h17, h18, h19, h20, h21,
    h22, h23, h24, h25, h26, h27⟩

theorem keeps_foldl {α : Type} {w : Nat} {s0 s : State} (f : State → α → State) (l : List α) (h : Keeps w s0 s)
    (hf : ∀ (t : State) (a : α), Keeps w t (f t a)) : Keeps w s0 (l.foldl f s) := by
  induction l generalizing s with
  | nil => exact h
  | cons a l ih => exact ih (keeps_trans h (hf s a))

theorem keeps_foldl_fst {α β : Type} {w : Nat} {s0 : State} (f : State × β → α → State × β) (l : List α) (p : State × β)
    (h : Keeps w s0 p.1) (hf : ∀ (q : State × β) (a : α), Keeps w q.1 (f q a).1) : Keeps w s0 (l.foldl f p).1 := by
  induction l generalizing p with
  | nil => exact h
  | cons a l ih => exact ih _ (keeps_trans h (hf p a))

@[simp ↓] theorem keeps_ite {w : Nat} {s0 a b : State} {c : Prop} [Decidable c] (ha : Keeps w s0 a) (hb : Keeps w s0 b) :
    Keeps w s0 (if c then a else b) := by split <;> assumption

/-! ### Halyard's tables and the memories -/

@[simp ↓] theorem HalKeeps_seats {a b : Halyard} (h : b.seats = a.seats) (hs : b.sched.length ≤ a.sched.length) : HalKeeps a b := by
  refine ⟨by rw [h], fun w => ?_⟩
  simp only [Halyard.wf, h, Bool.and_eq_true, decide_eq_true_eq] at *
  exact ⟨w.1, Nat.le_trans hs w.2⟩

theorem HalKeeps_setAt {a : Halyard} (n : Nat) (v : SeatState)
    (hv : ∀ st, a.seats[n]? = some st → st.ledger.length ≤ Config.ledgerEntries ∧ st.cached.length ≤ 64 →
      v.ledger.length ≤ Config.ledgerEntries ∧ v.cached.length ≤ 64) :
    HalKeeps a { a with seats := setAt a.seats n v } := by
  refine ⟨by simp [setAt], fun w => ?_⟩
  simp only [Halyard.wf, Bool.and_eq_true, decide_eq_true_eq, List.all_eq_true, setAt,
    List.length_set] at *
  refine ⟨⟨w.1.1, fun st hm => ?_⟩, w.2⟩
  rcases List.mem_or_eq_of_mem_set hm with hm | hm
  · exact w.1.2 st hm
  · subst hm
    by_cases hn : n < a.seats.length
    · exact hv _ (List.getElem?_eq_getElem hn) (w.1.2 _ (List.getElem_mem hn))
    · rw [List.set_eq_of_length_le (by omega)] at hm
      exact w.1.2 _ hm

/-- Every seat changes, and keeps its bounds. -/
theorem HalKeeps_map {a b : Halyard} (f : SeatState → SeatState) (h : b.seats = a.seats.map f)
    (hs : b.sched.length ≤ a.sched.length)
    (hf : ∀ st, (f st).ledger.length ≤ st.ledger.length ∧ (f st).cached.length ≤ st.cached.length) : HalKeeps a b := by
  refine ⟨by rw [h]; simp, fun w => ?_⟩
  simp only [Halyard.wf, h, Bool.and_eq_true, decide_eq_true_eq, List.all_eq_true, List.length_map, List.mem_map] at *
  refine ⟨⟨w.1.1, ?_⟩, Nat.le_trans hs w.2⟩
  rintro st ⟨u, hu, rfl⟩
  have := w.1.2 u hu
  exact ⟨Nat.le_trans (hf u).1 this.1, Nat.le_trans (hf u).2 this.2⟩

theorem setSeat_keeps {w : Nat} {s0 s : State} (n : Nat) (v : SeatState) (hk : Keeps w s0 s) (hw : 32 &&& w = 32)
    (hv : (s.seat n).ledger.length ≤ Config.ledgerEntries ∧ (s.seat n).cached.length ≤ 64 →
      v.ledger.length ≤ Config.ledgerEntries ∧ v.cached.length ≤ 64) :
    Keeps w s0 (s.setSeat n v) := by
  have hh : HalKeeps s.hal { s.hal with seats := setAt s.hal.seats n v } := HalKeeps_setAt n v (fun st hst => by
    have : s.seat n = st := by simp [State.seat, atD, hst]
    rw [← this]; exact hv)
  refine keeps_lift hk hw ?_
  unfold State.setSeat
  simp [hh]

theorem keepLast_length {α : Type} {n : Nat} (l : List α) : (keepLast n l).length ≤ n := by
  simp only [keepLast, List.length_drop]; omega

theorem banksWf_of_banks {x y : MemMast} (h : x.banks = y.banks) : banksWf x = banksWf y := by
  simp only [banksWf, MemMast.wf, h]

theorem MemKeeps_set {b : Both MemMast} (m : Mast) {x : MemMast} (h : banksWf (b.get m) = true → banksWf x = true) :
    MemKeeps b (b.set m x) := by
  intro k w
  by_cases hk : k = m
  · subst hk; simpa using h w
  · rw [Both_get_set_ne _ _ hk]; exact w

@[simp ↓] theorem MemKeeps_set_banks {b : Both MemMast} (m : Mast) {x : MemMast} (h : x.banks = (b.get m).banks) :
    MemKeeps b (b.set m x) := MemKeeps_set m (fun w => by rw [banksWf_of_banks h]; exact w)

theorem MemKeeps_map {b : Both MemMast} (f : MemMast → MemMast) (h : ∀ x, banksWf x = true → banksWf (f x) = true) :
    MemKeeps b (b.map f) := by
  intro k w
  have : (b.map f).get k = f (b.get k) := by cases k <;> rfl
  rw [this]; exact h _ w

theorem banksWf_of_data {x y : MemMast} (f : ScratchBank → ScratchBank) (h : y.banks = x.banks.map f)
    (hf : ∀ b, cellsWf b.data = true → cellsWf (f b).data = true) : banksWf x = true → banksWf y = true := by
  simp only [banksWf, MemMast.wf, h, Bool.and_eq_true, decide_eq_true_eq, List.length_map, List.all_eq_true, List.mem_map]
  rintro ⟨h1, h2⟩
  refine ⟨h1, ?_⟩
  rintro b ⟨c, hc, rfl⟩
  exact hf _ (h2 c hc)

theorem banksWf_range {y : MemMast} (f : Nat → ScratchBank) (h : y.banks = (List.range 16).map f)
    (hf : ∀ i, cellsWf (f i).data = true) : banksWf y = true := by
  simp [banksWf, MemMast.wf, h, hf, List.all_eq_true]

/-- A change of a mast's memories that leaves its banks' form. -/
theorem setMem_keeps_of {w : Nat} {s0 s : State} (m : Mast) (x : MemMast) (hk : Keeps w s0 s) (hw : 4194304 &&& w = 4194304)
    (hx : banksWf (s.mem.get m) = true → banksWf x = true) : Keeps w s0 (s.setMem m x) := by
  refine keeps_lift hk hw ?_
  unfold State.setMem
  simp [MemKeeps_set m hx]

/-- A change of a mast's memories that leaves its banks alone. -/
@[simp ↓] theorem setMem_keeps {w : Nat} {s0 s : State} (m : Mast) (x : MemMast) (hk : Keeps w s0 s)
    (hw : 4194304 &&& w = 4194304) (hx : x.banks = (s.mem.get m).banks) : Keeps w s0 (s.setMem m x) :=
  setMem_keeps_of m x hk hw (fun h => by rw [banksWf_of_banks hx]; exact h)

/-! ### The shared operations of Halyard -/

@[simp ↓] theorem setSessions_keeps {w : Nat} {s0 s : State} (l : List Session) (hk : Keeps w s0 s) (hw : 32 &&& w = 32) :
    Keeps w s0 (s.setSessions l) := keeps_lift hk hw (by unfold State.setSessions; simp (maxDischargeDepth := 9))

@[simp ↓] theorem bump_keeps {w : Nat} {s0 s : State} (m : Mast) (i n : Nat) (hk : Keeps w s0 s) (hw : 1024 &&& w = 1024) :
    Keeps w s0 (s.bump m i n) := keeps_lift hk hw (by unfold State.bump; simp (maxDischargeDepth := 9))

@[simp ↓] theorem gauge_keeps {w : Nat} {s0 s : State} (m : Mast) (i : Nat) (v : Int) (hk : Keeps w s0 s)
    (hw : 1024 &&& w = 1024) : Keeps w s0 (s.gauge m i v) := keeps_lift hk hw (by unfold State.gauge; simp (maxDischargeDepth := 9))

@[simp ↓] theorem ungauge_keeps {w : Nat} {s0 s : State} (m : Mast) (i : Nat) (hk : Keeps w s0 s) (hw : 1024 &&& w = 1024) :
    Keeps w s0 (s.ungauge m i) := keeps_lift hk hw (by unfold State.ungauge; simp (maxDischargeDepth := 9))

@[simp ↓] theorem setMt_keeps {w : Nat} {s0 s : State} (m : Mast) (t : MastTandem) (hk : Keeps w s0 s) (hw : 256 &&& w = 256) :
    Keeps w s0 (s.setMt m t) := keeps_lift hk hw (by unfold State.setMt; simp (maxDischargeDepth := 9))

@[simp ↓] theorem setHp_keeps {w : Nat} {s0 s : State} (m : Mast) (t : HostPort) (hk : Keeps w s0 s) (hw : 64 &&& w = 64) :
    Keeps w s0 (s.setHp m t) := keeps_lift hk hw (by unfold State.setHp; simp (maxDischargeDepth := 9))

@[simp ↓] theorem setWindow_keeps {w : Nat} {s0 s : State} (m : Mast) (t : Window) (hk : Keeps w s0 s) (hw : 64 &&& w = 64) :
    Keeps w s0 (s.setWindow m t) := setHp_keeps _ _ hk hw

@[simp ↓] theorem setFl_keeps {w : Nat} {s0 s : State} (m : Mast) (t : FaultState) (hk : Keeps w s0 s) (hw : 512 &&& w = 512) :
    Keeps w s0 (s.setFl m t) := keeps_lift hk hw (by unfold State.setFl; simp (maxDischargeDepth := 9))

@[simp ↓] theorem draw_keeps {w : Nat} {s0 s : State} (hk : Keeps w s0 s) (hw : 8 &&& w = 8) : Keeps w s0 s.draw.2 :=
  keeps_lift hk hw (by unfold State.draw; simp (maxDischargeDepth := 9))

@[simp ↓] theorem drawBytes_keeps {w : Nat} {s0 s : State} (n : Nat) (hk : Keeps w s0 s) (hw : 8 &&& w = 8) :
    Keeps w s0 (s.drawBytes n).2 := by
  induction n generalizing s with
  | zero => exact hk
  | succ n ih => exact ih (s := { s with freeCount := s.freeCount + 1 }) (keeps_lift hk hw (by simp (maxDischargeDepth := 9)))

@[simp ↓] theorem discard_keeps {w : Nat} {s0 s : State} (m : Mast) (t : Transport) (c : Nat) (hk : Keeps w s0 s)
    (hw : 1088 &&& w = 1088) : Keeps w s0 (s.discard m t c) :=
  keeps_lift hk hw (by unfold State.discard; cases t <;> simp (maxDischargeDepth := 9))

@[simp ↓] theorem takeInbound_keeps {w : Nat} {s0 s : State} (x : Hdr) (hk : Keeps w s0 s) (hw : 64 &&& w = 64) :
    Keeps w s0 (s.takeInbound x) :=
  keeps_lift hk hw (by unfold State.takeInbound; dsimp only; (repeat' split) <;> simp (maxDischargeDepth := 9))

@[simp ↓] theorem touch_keeps {w : Nat} {s0 s : State} (x : Hdr) (hk : Keeps w s0 s) (hw : 32 &&& w = 32) :
    Keeps w s0 (s.touch x) := setSessions_keeps _ hk hw

@[simp ↓] theorem acceptSeq_keeps {w : Nat} {s0 s : State} (n : Nat) (x : Hdr) (hk : Keeps w s0 s) (hw : 32 &&& w = 32) :
    Keeps w s0 (s.acceptSeq n x) := setSessions_keeps _ (setSeat_keeps _ _ hk hw id) hw

@[simp ↓] theorem enqueue_keeps {w : Nat} {s0 s : State} (x : Session) (p : Packet) (hk : Keeps w s0 s) (hw : 64 &&& w = 64) :
    Keeps w s0 (s.enqueue x p) := keeps_lift hk hw (by unfold State.enqueue; simp (maxDischargeDepth := 9))

theorem enter_bounds (st : SeatState) (m : Mast) (p : Packet) (w : st.ledger.length ≤ Config.ledgerEntries ∧ st.cached.length ≤ 64) :
    (st.enter m p).ledger.length ≤ Config.ledgerEntries ∧ (st.enter m p).cached.length ≤ 64 := by
  simp only [SeatState.enter, w.2, and_true]
  exact keepLast_length (n := Config.ledgerEntries) _

@[simp ↓] theorem endWrapped_keeps {w : Nat} {s0 s : State} (x : Session) (hk : Keeps w s0 s) (hw : 32 &&& w = 32) :
    Keeps w s0 (s.endWrapped x) := by
  refine keeps_lift hk hw ?_
  unfold State.endWrapped; dsimp only; split
  · exact setSeat_keeps _ _ (setSessions_keeps _ (keeps_refl _ _) rfl) rfl (enter_bounds _ _ _)
  · exact setSessions_keeps _ (keeps_refl _ _) rfl

@[simp ↓] theorem sendOn_keeps {w : Nat} {s0 s : State} (x : Option Session) (p : Packet) (hk : Keeps w s0 s)
    (hw : 96 &&& w = 96) : Keeps w s0 (s.sendOn x p) :=
  keeps_lift hk hw (by unfold State.sendOn; dsimp only; (repeat' split) <;> simp (maxDischargeDepth := 9))

@[simp ↓] theorem release_keeps {w : Nat} {s0 s : State} (seat kind opcode flags hs eff st : Nat) (p : List Byte)
    (hk : Keeps w s0 s) (hw : 96 &&& w = 96) : Keeps w s0 (s.release seat kind opcode flags hs eff st p) := by
  refine keeps_lift hk hw ?_
  unfold State.release
  exact sendOn_keeps _ _ (setSeat_keeps _ _ (keeps_refl _ _) rfl (enter_bounds _ _ _)) rfl

@[simp ↓] theorem eventTo_keeps {w : Nat} {s0 s : State} (seat o c hs st : Nat) (f : List Byte) (hk : Keeps w s0 s)
    (hw : 96 &&& w = 96) : Keeps w s0 (s.eventTo seat o c hs st f) :=
  keeps_lift hk hw (by unfold State.eventTo; simp (maxDischargeDepth := 9))

@[simp ↓] theorem eventFull_keeps {w : Nat} {s0 s : State} (o r n c st : Nat) (f : List Byte) (hk : Keeps w s0 s)
    (hw : 96 &&& w = 96) : Keeps w s0 (s.eventFull o r n c st f) := by
  refine keeps_lift hk hw ?_
  unfold State.eventFull
  exact keeps_foldl _ _ (keeps_refl _ _) (fun t a => by simp (maxDischargeDepth := 9))

@[simp ↓] theorem event_keeps {w : Nat} {s0 s : State} (o c : Nat) (f : List Byte) (hk : Keeps w s0 s) (hw : 96 &&& w = 96) :
    Keeps w s0 (s.event o c f) := eventFull_keeps _ _ _ _ _ _ hk hw

@[simp ↓] theorem closeWhere_keeps {w : Nat} {s0 s : State} (p : Session → Bool) (c : Nat) (hk : Keeps w s0 s)
    (hw : 96 &&& w = 96) : Keeps w s0 (s.closeWhere p c) := by
  refine keeps_lift hk hw ?_
  unfold State.closeWhere
  exact keeps_foldl _ _ (by simp (maxDischargeDepth := 9)) (fun t a => by simp (maxDischargeDepth := 9))

@[simp ↓] theorem closeWrapped_keeps {w : Nat} {s0 s : State} (hk : Keeps w s0 s) (hw : 96 &&& w = 96) :
    Keeps w s0 s.closeWrapped := closeWhere_keeps _ _ hk hw

@[simp ↓] theorem replyWith_keeps {w : Nat} {s0 s : State} (seat code fl hs : Nat) (a : Bool) (r : Reply) (hk : Keeps w s0 s)
    (hw : 96 &&& w = 96) : Keeps w s0 (s.replyWith seat code fl hs a r) := by
  refine keeps_lift hk hw ?_
  unfold State.replyWith; dsimp only
  split
  · exact setSeat_keeps _ _ (by simp (maxDischargeDepth := 9)) rfl (fun w => ⟨w.1, keepLast_length _⟩)
  · simp (maxDischargeDepth := 9)

@[simp ↓] theorem reply_keeps {w : Nat} {s0 s : State} (x : Hdr) (seat code : Nat) (a : Bool) (r : Reply) (hk : Keeps w s0 s)
    (hw : 96 &&& w = 96) : Keeps w s0 (s.reply x seat code a r) := replyWith_keeps _ _ _ _ _ _ hk hw

@[simp ↓] theorem answerDue_keeps {w : Nat} {s0 s : State} (c : SchedCmd) (late : Bool) (hk : Keeps w s0 s)
    (hw : 96 &&& w = 96) : Keeps w s0 (s.answerDue c late) := by
  refine keeps_lift hk hw ?_
  unfold State.answerDue; split <;> simp (maxDischargeDepth := 9)

@[simp ↓] theorem answerAll_keeps {w : Nat} {s0 s : State} (hk : Keeps w s0 s) (hw : 96 &&& w = 96) :
    Keeps w s0 s.answerAll := by
  refine keeps_lift hk hw ?_
  unfold State.answerAll
  exact keeps_foldl _ _ (by simp (maxDischargeDepth := 9)) (fun t a => by simp (maxDischargeDepth := 9))

@[simp ↓] theorem refuse_keeps {w : Nat} {s0 s : State} (x : Hdr) (seat code st : Nat) (f : List Byte) (hk : Keeps w s0 s)
    (hw : 96 &&& w = 96) : Keeps w s0 (s.refuse x seat code st f) := reply_keeps _ _ _ _ _ hk hw

@[simp ↓] theorem done_keeps {w : Nat} {s0 s : State} (x : Hdr) (seat code eff : Nat) (pm : Reach) (f : List Byte)
    (hk : Keeps w s0 s) (hw : 96 &&& w = 96) : Keeps w s0 (s.done x seat code eff pm f) := reply_keeps _ _ _ _ _ hk hw

@[simp ↓] theorem turnAway_keeps {w : Nat} {s0 s : State} (x : Hdr) (seat code st : Nat) (f : List Byte) (hk : Keeps w s0 s)
    (hw : 96 &&& w = 96) : Keeps w s0 (s.turnAway x seat code st f) := reply_keeps _ _ _ _ _ hk hw

@[simp ↓] theorem answerDuplicate_keeps {w : Nat} {s0 s : State} (x : Hdr) (seat : Nat) (hk : Keeps w s0 s)
    (hw : 1120 &&& w = 1120) : Keeps w s0 (s.answerDuplicate x seat) :=
  keeps_lift hk hw (by unfold State.answerDuplicate; split <;> simp (maxDischargeDepth := 9))

theorem admit_keeps {w : Nat} {s0 s : State} (x : Hdr) (code : Nat) (y : Session) (k : Nat → State → State)
    (hk : Keeps w s0 s) (hw : 1120 &&& w = 1120) (hr : ∀ n (t : State), Keeps w t (k n t)) :
    Keeps w s0 (s.takeUp x code y k) := by
  have h96 : 96 &&& w = 96 := by rw [show 96 = 96 &&& 1120 from rfl, Nat.and_assoc, hw]
  have h32 : 32 &&& w = 32 := by rw [show 32 = 32 &&& 1120 from rfl, Nat.and_assoc, hw]
  unfold State.takeUp
  split
  · exact turnAway_keeps _ _ _ _ _ hk h96
  · split
    · exact turnAway_keeps _ _ _ _ _ hk h96
    · exact answerDuplicate_keeps _ _ hk hw
    · exact closeWrapped_keeps (keeps_trans (acceptSeq_keeps _ _ hk h32) (hr _ _)) h96

/-- A received packet keeps what is kept, whatever its command does, if that keeps it (R139, R157). -/
theorem receive_keeps {w : Nat} {s0 s : State} (x : Hdr) (code : Nat) (k : Nat → State → State) (hk : Keeps w s0 s)
    (hw : 1120 &&& w = 1120) (hr : ∀ n (t : State), Keeps w t (k n t)) : Keeps w s0 (s.receive x code k) := by
  have hd : 1088 &&& w = 1088 := by rw [show 1088 = 1088 &&& 1120 from rfl, Nat.and_assoc, hw]
  have h64 : 64 &&& w = 64 := by rw [show 64 = 64 &&& 1120 from rfl, Nat.and_assoc, hw]
  have h32 : 32 &&& w = 32 := by rw [show 32 = 32 &&& 1120 from rfl, Nat.and_assoc, hw]
  unfold State.receive
  split
  · exact hk
  · split
    · exact discard_keeps _ _ _ (takeInbound_keeps _ hk h64) hd
    · split
      · exact hk
      · unfold State.process
        split
        · exact discard_keeps _ _ _ (takeInbound_keeps _ hk h64) hd
        · exact takeInbound_keeps _ hk h64
        · exact admit_keeps _ _ _ _ (touch_keeps _ (takeInbound_keeps _ hk h64) h32) hw hr

theorem runNow_keeps {w : Nat} {s0 s : State} (x : Hdr) (seat code len : Nat) (a : Bool) (b : Reach) (own : List Nat)
    (run : State → State × List Byte) (hk : Keeps w s0 s) (hw : 96 &&& w = 96) (hr : Keeps w s (run s).1) :
    Keeps w s0 (s.runNow x seat code a b own len run) := by
  unfold State.runNow
  split
  · exact refuse_keeps _ _ _ _ _ hk hw
  · split
    · exact refuse_keeps _ _ _ _ _ hk hw
    · exact done_keeps _ _ _ _ _ _ (keeps_trans hk hr) hw

theorem firstRefusal_eq_none {l : List Nat} (h : firstRefusal l = none) : l = [] := by
  cases l with
  | nil => rfl
  | cons st rest =>
    unfold firstRefusal at h
    split at h
    · cases h
    · split at h <;> cases h

@[simp ↓] theorem owing_keeps {w : Nat} {s0 s : State} (d : DueReply) (hk : Keeps w s0 s) (hw : 32 &&& w = 32) :
    Keeps w s0 (s.owing d) := keeps_lift hk hw (by unfold State.owing; simp (maxDischargeDepth := 9))

@[simp ↓] theorem answerQueued_keeps {w : Nat} {s0 s : State} (x : Hdr) (seat code eff : Nat) (r : Reach) (f : List Byte)
    (hk : Keeps w s0 s) (hw : 96 &&& w = 96) : Keeps w s0 (s.answerQueued x seat code eff r f) :=
  keeps_lift hk hw (by unfold State.answerQueued; simp (maxDischargeDepth := 9))

/-- A command joins those that wait, where there is room (R170). -/
theorem waiting_keeps {w : Nat} {s0 s : State} (code : Nat) (p : List Byte) (seat hostSeq eff aux : Nat) (b : Bool) (hk : Keeps w s0 s)
    (hw : 32 &&& w = 32) (hr : s.hal.sched.length < Config.schedLimit) :
    Keeps w s0 (s.waiting code p seat hostSeq eff aux b) := by
  have hh : HalKeeps s.hal (s.waiting code p seat hostSeq eff aux b).hal := ⟨rfl, fun v => by
    simp only [Halyard.wf, Bool.and_eq_true, decide_eq_true_eq] at v ⊢
    exact ⟨v.1, by simp only [State.waiting, List.length_append, List.length_cons, List.length_nil]; omega⟩⟩
  unfold State.waiting at hh
  refine keeps_lift hk hw ?_
  unfold State.waiting
  simp (maxDischargeDepth := 9) [hh]

theorem schedule_keeps {w : Nat} {s0 s : State} (x : Hdr) (seat code eff aux : Nat) (p : List Byte) (a : Bool)
    (own : List Nat) (prep : State → State × List Byte) (hk : Keeps w s0 s) (hw : 96 &&& w = 96)
    (hr : Keeps w s (prep s).1) (hq : (prep s).1.hal.sched = s.hal.sched)
    (hc : (opRow code).all (fun r => r.cls == .scheduled) = true) :
    Keeps w s0 (s.schedule x seat code p a own eff aux prep) := by
  have h32 : 32 &&& w = 32 := by rw [show 32 = 32 &&& 96 from rfl, Nat.and_assoc, hw]
  unfold State.schedule
  split
  · exact refuse_keeps _ _ _ _ _ hk hw
  · rename_i row hrow
    split
    · exact refuse_keeps _ _ _ _ _ hk hw
    · rename_i hf
      refine answerQueued_keeps _ _ _ _ _ _ (waiting_keeps _ _ _ _ _ _ _ (keeps_trans hk hr) h32 ?_) hw
      have hn : s.schedRefusals x row = [] := by
        have := firstRefusal_eq_none hf
        simp only [List.append_eq_nil_iff] at this
        exact this.1.2
      have hcl : row.cls = .scheduled := by simpa [hrow] using hc
      simp only [State.schedRefusals, hcl, if_true, List.append_eq_nil_iff, refuseIf_eq_nil, decide_eq_false_iff_not] at hn
      rw [hq]
      omega

end Sys2Proof.Machine
end

