-- ==== Sys2Proof/Laws/Memory.lean ====
section
/-! SUPPORT. The bytes of a scratch bank (R516): a read after a write, and the canonical form that every write keeps. -/
namespace Sys2Proof.Machine

theorem cellRead_lt {l : List (Nat × Byte)} {k a : Nat} {v : Byte} (h : cellsWf ((k, v) :: l) = true) (ha : a ≤ k) :
    cellRead l a = 0 := by
  induction l generalizing k v with
  | nil => rfl
  | cons p l ih =>
    obtain ⟨j, u⟩ := p
    simp only [cellsWf, Assoc.rising, List.all_cons, Bool.and_eq_true, decide_eq_true_eq] at h
    have hj : k < j := h.1.1
    have : cellsWf ((j, u) :: l) = true := by
      simp only [cellsWf, List.all_cons, Bool.and_eq_true]
      exact ⟨h.1.2, h.2.2⟩
    simp only [cellRead, show ¬ j = a by omega, if_false]
    exact ih this (by omega)

theorem cellsWf_tail {l : List (Nat × Byte)} {p : Nat × Byte} (h : cellsWf (p :: l) = true) : cellsWf l = true := by
  cases l with
  | nil => rfl
  | cons q l =>
    simp only [cellsWf, Assoc.rising, List.all_cons, Bool.and_eq_true] at h ⊢
    exact ⟨h.1.2, h.2.2⟩

/-- A read of the byte written gives the value written, and of every other byte what it gave before. -/
theorem cellRead_cellWrite {l : List (Nat × Byte)} (h : cellsWf l = true) (a b : Nat) (v : Byte) :
    cellRead (cellWrite l a v) b = if b = a then v else cellRead l b := by
  induction l with
  | nil =>
    by_cases hv : v = 0#8
    · by_cases hb : b = a <;> simp [cellWrite, cellRead, hv, hb]
    · by_cases hb : b = a
      · simp [cellWrite, cellRead, hv, hb]
      · simp [cellWrite, cellRead, hv, hb, Ne.symm hb]
  | cons p l ih =>
    obtain ⟨k, w⟩ := p
    have ih := ih (cellsWf_tail h)
    unfold cellWrite
    by_cases h1 : a < k
    · by_cases hv : v = 0#8
      · rw [if_pos h1, if_pos (show v = 0 from hv)]
        by_cases hb : b = a
        · subst hb
          have := cellRead_lt (a := b) h (Nat.le_of_lt h1)
          simp [hv, cellRead, this, show ¬ k = b by omega]
        · simp [hb]
      · by_cases hb : b = a
        · simp [h1, hv, hb, cellRead]
        · simp [h1, hv, hb, cellRead, Ne.symm hb]
    · by_cases h2 : k = a
      · subst h2
        by_cases hv : v = 0#8
        · by_cases hb : b = k
          · simp [hv, hb, cellRead_lt h (Nat.le_refl k)]
          · simp [hv, hb, cellRead, Ne.symm hb]
        · by_cases hb : b = k
          · simp [hv, hb, cellRead]
          · simp [hv, hb, cellRead, Ne.symm hb]
      · simp only [h1, h2, if_false, cellRead, ih]
        by_cases hb : b = a
        · simp [hb, h2]
        · simp [hb]

theorem cellsWf_cons {k : Nat} {v : Byte} {l : List (Nat × Byte)} :
    cellsWf ((k, v) :: l) = true ↔ v ≠ 0 ∧ (∀ p ∈ l.head?, k < p.1) ∧ cellsWf l = true := by
  cases l with
  | nil => simp [cellsWf, Assoc.rising]
  | cons q l =>
    obtain ⟨j, u⟩ := q
    simp only [cellsWf, Assoc.rising, List.all_cons, Bool.and_eq_true, decide_eq_true_eq, bne_iff_ne, List.head?_cons,
      Option.mem_def, Option.some.injEq, forall_eq']
    constructor
    · rintro ⟨⟨h1, h2⟩, h3, h4⟩; exact ⟨h3, h1, h2, h4⟩
    · rintro ⟨h3, h1, h2, h4⟩; exact ⟨⟨h1, h2⟩, h3, h4⟩

theorem cellWrite_head (l : List (Nat × Byte)) (a : Nat) (v : Byte) (k : Nat) (hk : k < a) (h : cellsWf l = true)
    (hl : ∀ p ∈ l.head?, k < p.1) : ∀ p ∈ (cellWrite l a v).head?, k < p.1 := by
  cases l with
  | nil => unfold cellWrite; split <;> simp [hk]
  | cons q l =>
    obtain ⟨j, u⟩ := q
    have hj : k < j := by simpa using hl
    unfold cellWrite
    split
    · split <;> simp [hk, hj]
    · split
      · split
        · intro p hp
          have := (cellsWf_cons.mp h).2.1 p hp
          omega
        · simp [hk]
      · simp [hj]

/-- A write keeps the canonical form. -/
theorem cellWrite_wf {l : List (Nat × Byte)} (h : cellsWf l = true) (a : Nat) (v : Byte) : cellsWf (cellWrite l a v) = true := by
  induction l with
  | nil =>
    unfold cellWrite
    split
    · rfl
    · rename_i hv; exact cellsWf_cons.mpr ⟨hv, by simp, rfl⟩
  | cons p l ih =>
    obtain ⟨k, w⟩ := p
    have hp := cellsWf_cons.mp h
    unfold cellWrite
    split
    · split
      · exact h
      · rename_i hk hv; exact cellsWf_cons.mpr ⟨hv, by simpa using hk, h⟩
    · split
      · split
        · exact hp.2.2
        · rename_i hk hv
          subst hk
          exact cellsWf_cons.mpr ⟨hv, hp.2.1, hp.2.2⟩
      · exact cellsWf_cons.mpr ⟨hp.1, cellWrite_head l a v k (by omega) hp.2.2 hp.2.1, ih hp.2.2⟩

theorem cellsWrite_wf {l : List (Nat × Byte)} (h : cellsWf l = true) (a : Nat) (vs : List Byte) :
    cellsWf (cellsWrite l a vs) = true := by
  induction vs generalizing l a with
  | nil => exact h
  | cons v vs ih => exact ih (cellWrite_wf h a v) (a + 1)

/-- What a write of several bytes leaves at every address. -/
theorem cellRead_cellsWrite {l : List (Nat × Byte)} (h : cellsWf l = true) (a b : Nat) (vs : List Byte) :
    cellRead (cellsWrite l a vs) b = if a ≤ b ∧ b < a + vs.length then vs.getD (b - a) 0 else cellRead l b := by
  induction vs generalizing l a with
  | nil => simp [cellsWrite, show ¬ (a ≤ b ∧ b < a) by omega]
  | cons v vs ih =>
    rw [cellsWrite, ih (cellWrite_wf h a v), cellRead_cellWrite h]
    by_cases hb : b = a
    · subst hb; simp [show ¬ (b + 1 ≤ b) by omega]
    · by_cases h1 : a + 1 ≤ b ∧ b < a + 1 + vs.length
      · have h2 : a ≤ b ∧ b < a + (vs.length + 1) := by omega
        obtain ⟨n, rfl⟩ : ∃ n, b = a + (n + 1) := ⟨b - a - 1, by omega⟩
        simp [h1, show a + (n + 1) - (a + 1) = n by omega, show a + (n + 1) - a = n + 1 by omega]
        omega
      · have h2 : ¬ (a ≤ b ∧ b < a + (vs.length + 1)) := by omega
        rw [if_neg h1, List.length_cons, if_neg h2]
        simp [hb]

/-- Replacing a bank by one in canonical form keeps what is kept. -/
theorem setBank_keeps {msk : Nat} {s0 s : State} (m : Mast) (i : Nat) (b : ScratchBank) (hk : Keeps msk s0 s)
    (hw : 4194304 &&& msk = 4194304) (hb : cellsWf (s.bank m i).data = true → cellsWf b.data = true) :
    Keeps msk s0 (s.setBank m i b) := by
  unfold State.setBank
  refine setMem_keeps_of _ _ hk hw (fun hy => ?_)
  simp only [banksWf, MemMast.wf, Bool.and_eq_true, decide_eq_true_eq, List.all_eq_true, setAt, List.length_set] at *
  refine ⟨hy.1, fun x hx => ?_⟩
  rcases List.mem_or_eq_of_mem_set hx with h | h
  · exact hy.2 x h
  · subst h
    refine hb ?_
    unfold State.bank atD
    cases hg : (s.mem.get m).banks[i]? with
    | none => simp [ScratchBank.reset, cellsWf, Assoc.rising]
    | some c => exact hy.2 c (List.mem_of_getElem? hg)

/-! ### Spares leave the scratch banks alone (R527) -/

@[simp] theorem MemMast.addRepair_banks (x : MemMast) (t m b sp i : Nat) : (x.addRepair t m b sp i).banks = x.banks := rfl
@[simp] theorem MemMast.spend_banks (x : MemMast) (t m b sp : Nat) : (x.spend t m b sp).banks = x.banks := rfl

/-- Marking spares used leaves the scratch banks alone. -/
theorem spendAll_banks {α : Type} (f : α → Nat × Nat × Nat × Nat) (l : List α) (x : MemMast) :
    (l.foldl (fun y a => y.spend (f a).1 (f a).2.1 (f a).2.2.1 (f a).2.2.2) x).banks = x.banks := by
  induction l generalizing x with
  | nil => rfl
  | cons a l ih => rw [List.foldl_cons, ih, MemMast.spend_banks]

theorem assignCols_banks (memory bank : Nat) (syms : List SymFail) (cs : List Nat) (x : Spares) (taken : List Nat) :
    (assignCols memory bank syms cs x taken).1.mem.banks = x.mem.banks := by
  induction cs generalizing x taken with
  | nil => rfl
  | cons c cs ih =>
    unfold assignCols
    dsimp only
    split
    · split
      · rw [ih, MemMast.addRepair_banks]
      · exact ih _ _
    · exact ih _ _

theorem assignRows_banks (memory bank : Nat) (rs : List Nat) (x : Spares) :
    (assignRows memory bank rs x).mem.banks = x.mem.banks := by
  induction rs generalizing x with
  | nil => rfl
  | cons r rs ih =>
    unfold assignRows
    split <;> rw [ih]
    rw [MemMast.addRepair_banks]

theorem assignBank_banks (d : Bool) (memory bank : Nat) (syms : List SymFail) (x : MemMast) :
    (assignBank d memory bank syms x).mem.banks = x.banks := by
  unfold assignBank
  dsimp only
  rw [assignRows_banks]
  refine (spendAll_banks (fun sp => (1, memory, bank, sp)) _ _).trans ?_
  split
  · rw [assignCols_banks]; exact spendAll_banks (fun (f : SymFail) => (2, memory, bank, f.column - 768)) _ _
  · exact spendAll_banks (fun (f : SymFail) => (2, memory, bank, f.column - 768)) _ _

@[simp] theorem assignSpares_banks (d : Bool) (syms : List SymFail) (x : MemMast) :
    (assignSpares d syms x).1.banks = x.banks := by
  unfold assignSpares
  suffices h : ∀ (l : List (Nat × Nat)) (acc : MemMast × Nat × List Nat), (l.foldl (fun (acc : MemMast × Nat × List Nat) b =>
      ((assignBank d b.1 b.2 syms acc.1).mem, acc.2.1 + (assignBank d b.1 b.2 syms acc.1).fails,
        acc.2.2 ++ (assignBank d b.1 b.2 syms acc.1).left.map (fun row => 0x30000000 + b.1 * 2 ^ 20 + b.2 * 2 ^ 16 + row)))
      acc).1.banks = acc.1.banks from h _ _
  intro l
  induction l with
  | nil => intro acc; rfl
  | cons b l ih => intro acc; rw [List.foldl_cons, ih]; exact assignBank_banks _ _ _ _ _

end Sys2Proof.Machine
end

