-- ==== Sys2Proof/Laws/Operations.lean ====
section
/-! SUPPORT. What each operation keeps (see Sys2Proof.Laws.Keeps): one lemma per operation, which names the mask of the parts
it may change. -/
namespace Sys2Proof.Machine
open Sys2Proof

@[simp ↓] theorem stateChanged_keeps {msk : Nat} {s0 s : State} (hk : Keeps msk s0 s) (hw : 64 &&& msk = 64) : Keeps msk s0 s.stateChanged := by
  refine keeps_lift hk hw ?_
  unfold State.stateChanged
  simp (maxDischargeDepth := 99)

@[simp ↓] theorem closeMast_keeps {msk : Nat} {s0 s : State} (m : Mast) (hk : Keeps msk s0 s) (hw : 96 &&& msk = 96) : Keeps msk s0 (s.closeMast m) := by
  refine keeps_lift hk hw ?_
  unfold State.closeMast
  simp (maxDischargeDepth := 99)

@[simp ↓] theorem setTst_keeps {msk : Nat} {s0 s : State} (m : Mast) (st : TandemSt) (hk : Keeps msk s0 s) (hw : 352 &&& msk = 352) : Keeps msk s0 (s.setTst m st) := by
  refine keeps_lift hk hw ?_
  unfold State.setTst
  (repeat' split) <;> simp (maxDischargeDepth := 99)

@[simp ↓] theorem setAlive_keeps {msk : Nat} {s0 s : State} (m : Mast) (v : Bool) (hk : Keeps msk s0 s) (hw : 256 &&& msk = 256) : Keeps msk s0 (s.setAlive m v) := by
  refine keeps_lift hk hw ?_
  unfold State.setAlive
  simp (maxDischargeDepth := 99)

@[simp ↓] theorem dropSched_keeps {msk : Nat} {s0 s : State} (c : SchedCmd) (st : Nat) (hk : Keeps msk s0 s) (hw : 96 &&& msk = 96) : Keeps msk s0 (s.dropSched c st) := by
  refine keeps_lift hk hw ?_
  unfold State.dropSched
  simp (maxDischargeDepth := 99)

@[simp ↓] theorem switchedOver_keeps {msk : Nat} {s0 s : State} (m : Mast) (cause source : Nat) (hk : Keeps msk s0 s) (hw : 352 &&& msk = 352) : Keeps msk s0 (s.switchedOver m cause source) := by
  refine keeps_lift hk hw ?_
  unfold State.switchedOver
  simp (maxDischargeDepth := 99)

@[simp ↓] theorem yieldRole_keeps {msk : Nat} {s0 s : State} (m : Mast) (planned : Bool) (source : Nat) (hk : Keeps msk s0 s) (hw : 256 &&& msk = 256) : Keeps msk s0 (s.yieldRole m planned source) := by
  refine keeps_lift hk hw ?_
  unfold State.yieldRole
  simp (maxDischargeDepth := 99)

@[simp ↓] theorem keepRole_keeps {msk : Nat} {s0 s : State} (m : Mast) (hk : Keeps msk s0 s) (hw : 256 &&& msk = 256) : Keeps msk s0 (s.keepRole m) := by
  refine keeps_lift hk hw ?_
  unfold State.keepRole
  simp (maxDischargeDepth := 99)

@[simp ↓] theorem flag_keeps {msk : Nat} {s0 s : State} (m : Mast) (k : FlagKind) (step window : Nat) (hk : Keeps msk s0 s) (hw : 256 &&& msk = 256) : Keeps msk s0 (s.flag m k step window) := by
  refine keeps_lift hk hw ?_
  unfold State.flag
  simp (maxDischargeDepth := 99)

@[simp ↓] theorem enterMode_keeps {msk : Nat} {s0 s : State} (mode base : Mode) (cause : Nat) (hk : Keeps msk s0 s) (hw : 224 &&& msk = 224) : Keeps msk s0 (s.enterMode mode base cause) := by
  refine keeps_lift hk hw ?_
  unfold State.enterMode
  simp (maxDischargeDepth := 99)

@[simp ↓] theorem recordReset_keeps {msk : Nat} {s0 s : State} (cause mast : Nat) (hk : Keeps msk s0 s) (hw : 128 &&& msk = 128) : Keeps msk s0 (s.recordReset cause mast) := by
  refine keeps_lift hk hw ?_
  unfold State.recordReset
  simp (maxDischargeDepth := 99)

@[simp ↓] theorem flagLate_keeps {msk : Nat} {s0 s : State} (m : Mast) (k : Nat) (hk : Keeps msk s0 s) (hw : 256 &&& msk = 256) : Keeps msk s0 (s.flagLate m k) := by
  refine keeps_lift hk hw ?_
  unfold State.flagLate
  simp (maxDischargeDepth := 99)

@[simp ↓] theorem flagFollower_keeps {msk : Nat} {s0 s : State} (k : Nat) (hk : Keeps msk s0 s) (hw : 256 &&& msk = 256) : Keeps msk s0 (s.flagFollower k) := by
  refine keeps_lift hk hw ?_
  unfold State.flagFollower
  (repeat' split) <;> simp (maxDischargeDepth := 99)

@[simp ↓] theorem wipeMast_keeps {msk : Nat} {s0 s : State} (m : Mast) (hk : Keeps msk s0 s) (hw : 83869824 &&& msk = 83869824) : Keeps msk s0 (s.wipeMast m) := by
  refine keeps_lift hk hw ?_
  have h : MemKeeps s.mem (s.mem.set m (s.mem.get m).mastReset) := MemKeeps_set m (fun _ => by
    simp [banksWf, MemMast.wf, MemMast.mastReset, ScratchBank.reset, cellsWf, Assoc.rising, List.all_eq_true])
  unfold State.wipeMast
  simp (maxDischargeDepth := 99) [h]

@[simp ↓] theorem wipePackage_keeps {msk : Nat} {s0 s : State} (powerOn : Bool) (hk : Keeps msk s0 s) (hw : 268427392 &&& msk = 268427392) : Keeps msk s0 (s.wipePackage powerOn) := by
  refine keeps_lift hk hw ?_
  unfold State.wipePackage
  have h : ∀ x : Both MemMast, MemKeeps x (x.map MemMast.powerOn) :=
    fun x => MemKeeps_map _ (fun y _ => by
      simp [banksWf, MemMast.wf, MemMast.powerOn, MemMast.reset, ScratchBank.reset, cellsWf, Assoc.rising, List.all_eq_true])
  split <;> simp (maxDischargeDepth := 99) [h]

@[simp ↓] theorem gateForLockout_keeps {msk : Nat} {s0 s : State} (hk : Keeps msk s0 s) (hw : 241295424 &&& msk = 241295424) : Keeps msk s0 s.gateForLockout := by
  refine keeps_lift hk hw ?_
  have h : MemKeeps s.mem (s.mem.map (fun x => { x with banks := x.banks.map (fun b => { b with data := [] }), march := [] })) :=
    MemKeeps_map _ (fun y hy => banksWf_of_data (fun b => { b with data := [] }) rfl (fun b _ => by simp [cellsWf, Assoc.rising]) hy)
  unfold State.gateForLockout
  simp (maxDischargeDepth := 99) [h]

@[simp ↓] theorem queueReport_keeps {msk : Nat} {s0 s : State} (m : Mast) (r : QueuedReport) (hk : Keeps msk s0 s) (hw : 1536 &&& msk = 1536) : Keeps msk s0 (s.queueReport m r) := by
  refine keeps_lift hk hw ?_
  unfold State.queueReport
  simp (maxDischargeDepth := 99)

@[simp ↓] theorem faultEvent_keeps {msk : Nat} {s0 s : State} (m : Mast) (r : QueuedReport) (id : Nat) (hk : Keeps msk s0 s) (hw : 96 &&& msk = 96) : Keeps msk s0 (s.faultEvent m r id) := by
  refine keeps_lift hk hw ?_
  unfold State.faultEvent
  simp (maxDischargeDepth := 99)

@[simp ↓] theorem writeEntry_keeps {msk : Nat} {s0 s : State} (m : Mast) (r : QueuedReport) (hk : Keeps msk s0 s) (hw : 1632 &&& msk = 1632) : Keeps msk s0 (s.writeEntry m r) := by
  refine keeps_lift hk hw ?_
  unfold State.writeEntry
  dsimp only
  (repeat' split) <;> simp (maxDischargeDepth := 99)

@[simp ↓] theorem logWrite_keeps {msk : Nat} {s0 s : State} (m : Mast) (hk : Keeps msk s0 s) (hw : 1632 &&& msk = 1632) : Keeps msk s0 (s.logWrite m) := by
  refine keeps_lift hk hw ?_
  unfold State.logWrite
  (repeat' split) <;> simp (maxDischargeDepth := 99)

@[simp ↓] theorem closeBurst_keeps {msk : Nat} {s0 s : State} (m : Mast) (src : Nat) (hk : Keeps msk s0 s) (hw : 1536 &&& msk = 1536) : Keeps msk s0 (s.closeBurst m src) := by
  refine keeps_lift hk hw ?_
  unfold State.closeBurst
  (repeat' split) <;> simp (maxDischargeDepth := 99)

@[simp ↓] theorem flushLog_keeps {msk : Nat} {s0 s : State} (m : Mast) (hk : Keeps msk s0 s) (hw : 1632 &&& msk = 1632) : Keeps msk s0 (s.flushLog m) := by
  refine keeps_lift hk hw ?_
  unfold State.flushLog
  exact keeps_foldl _ _ (keeps_foldl _ _ (keeps_refl _ _) (fun t y => by simp (maxDischargeDepth := 99))) (fun t y => by simp (maxDischargeDepth := 99))

@[simp ↓] theorem logOnly_keeps {msk : Nat} {s0 s : State} (m : Mast) (src level site : Nat) (hk : Keeps msk s0 s) (hw : 1536 &&& msk = 1536) : Keeps msk s0 (s.logOnly m src level site) := by
  refine keeps_lift hk hw ?_
  unfold State.logOnly
  simp (maxDischargeDepth := 99)

@[simp ↓] theorem wipeRows_keeps {msk : Nat} {s0 s : State} (m : Mast) (wiped : Nat → Bool) (hk : Keeps msk s0 s) (hw : 1536 &&& msk = 1536) : Keeps msk s0 (s.wipeRows m wiped) := by
  refine keeps_lift hk hw ?_
  unfold State.wipeRows
  simp (maxDischargeDepth := 99)

@[simp ↓] theorem abortMarchesOf_keeps {msk : Nat} {s0 s : State} (kind : March → Bool) (hk : Keeps msk s0 s) (hw : 4194400 &&& msk = 4194400) : Keeps msk s0 (s.abortMarchesOf kind) := by
  refine keeps_lift hk hw ?_
  have h : MemKeeps s.mem (s.mem.map (fun x => { x with march := x.march.filter (fun y => !kind y) })) :=
    MemKeeps_map _ (fun y hy => by rw [banksWf_of_banks]; exact hy; rfl)
  unfold State.abortMarchesOf
  exact keeps_foldl _ _ (by simp (maxDischargeDepth := 99) [h]) (fun t y => by simp (maxDischargeDepth := 99))

@[simp ↓] theorem abortMarches_keeps {msk : Nat} {s0 s : State} (hk : Keeps msk s0 s) (hw : 4194400 &&& msk = 4194400) : Keeps msk s0 s.abortMarches := by
  refine keeps_lift hk hw ?_
  unfold State.abortMarches
  simp (maxDischargeDepth := 99)

@[simp ↓] theorem resetMast_keeps {msk : Nat} {s0 s : State} (m : Mast) (kind : Nat) (hk : Keeps msk s0 s) (hw : 83871712 &&& msk = 83871712) : Keeps msk s0 (s.resetMast m kind) := by
  refine keeps_lift hk hw ?_
  unfold State.resetMast
  simp (maxDischargeDepth := 99)

@[simp ↓] theorem awaitCool_keeps {msk : Nat} {s0 s : State} (m : Mast) (kind : Nat) (hk : Keeps msk s0 s) (hw : 480 &&& msk = 480) : Keeps msk s0 (s.awaitCool m kind) := by
  refine keeps_lift hk hw ?_
  unfold State.awaitCool
  simp (maxDischargeDepth := 99)

@[simp ↓] theorem mastReset_keeps {msk : Nat} {s0 s : State} (m : Mast) (kind : Nat) (hk : Keeps msk s0 s) (hw : 83871712 &&& msk = 83871712) : Keeps msk s0 (s.mastReset m kind) := by
  refine keeps_lift hk hw ?_
  unfold State.mastReset
  simp (maxDischargeDepth := 99)

@[simp ↓] theorem packageReset_keeps {msk : Nat} {s0 s : State} (kind : Nat) (powerOn : Bool) (hk : Keeps msk s0 s) (hw : 268435424 &&& msk = 268435424) : Keeps msk s0 (s.packageReset kind powerOn) := by
  refine keeps_lift hk hw ?_
  have h : ∀ x : Halyard, HalKeeps x { x with seats := x.seats.map SeatState.restart, sessions := [], sched := [], loads := [], rampDefault := 5, rampDefaults := [] } :=
    fun x => HalKeeps_map SeatState.restart rfl (by simp) (fun st => by simp [SeatState.restart])
  unfold State.packageReset
  simp (maxDischargeDepth := 99) [h]

@[simp ↓] theorem lockout_keeps {msk : Nat} {s0 s : State} (source : Nat) (tamper : Bool) (hk : Keeps msk s0 s) (hw : 241297376 &&& msk = 241297376) : Keeps msk s0 (s.lockout source tamper) := by
  refine keeps_lift hk hw ?_
  unfold State.lockout
  simp (maxDischargeDepth := 99)

@[simp ↓] theorem noCaptain_keeps {msk : Nat} {s0 s : State} (hk : Keeps msk s0 s) (hw : 241297376 &&& msk = 241297376) : Keeps msk s0 s.noCaptain := by
  refine keeps_lift hk hw ?_
  unfold State.noCaptain
  simp (maxDischargeDepth := 99)

@[simp ↓] theorem settleLead_keeps {msk : Nat} {s0 s : State} (hk : Keeps msk s0 s) (hw : 241297376 &&& msk = 241297376) : Keeps msk s0 s.settleLead := by
  refine keeps_lift hk hw ?_
  unfold State.settleLead
  (repeat' split) <;> simp (maxDischargeDepth := 99)

@[simp ↓] theorem takeOut_keeps {msk : Nat} {s0 s : State} (m : Mast) (source resetKind : Nat) (hk : Keeps msk s0 s) (hw : 251652064 &&& msk = 251652064) : Keeps msk s0 (s.takeOut m source resetKind) := by
  refine keeps_lift hk hw ?_
  unfold State.takeOut
  dsimp only
  (repeat' split) <;> simp (maxDischargeDepth := 99)

@[simp ↓] theorem startTest_keeps {msk : Nat} {s0 s : State} (m : Mast) (src site : Nat) (hk : Keeps msk s0 s) (hw : 1536 &&& msk = 1536) : Keeps msk s0 (s.startTest m src site) := by
  refine keeps_lift hk hw ?_
  unfold State.startTest
  simp (maxDischargeDepth := 99)

@[simp ↓] theorem coalesce_keeps {msk : Nat} {s0 s : State} (own : Mast) (src site level step : Nat) (b : Burst) (hk : Keeps msk s0 s) (hw : 1536 &&& msk = 1536) : Keeps msk s0 (s.coalesce own src site level step b) := by
  refine keeps_lift hk hw ?_
  unfold State.coalesce
  simp (maxDischargeDepth := 99)

@[simp ↓] theorem openBurst_keeps {msk : Nat} {s0 s : State} (own : Mast) (src site level : Nat) (esc : Bool) (i : ReportInfo) (hk : Keeps msk s0 s) (hw : 1536 &&& msk = 1536) : Keeps msk s0 (s.openBurst own src site level esc i) := by
  refine keeps_lift hk hw ?_
  unfold State.openBurst
  simp (maxDischargeDepth := 99)

@[simp ↓] theorem collect_keeps {msk : Nat} {s0 s : State} (own : Mast) (src site level : Nat) (esc : Bool) (i : ReportInfo) (hk : Keeps msk s0 s) (hw : 1536 &&& msk = 1536) : Keeps msk s0 (s.collect own src site level esc i) := by
  refine keeps_lift hk hw ?_
  unfold State.collect
  (repeat' split) <;> simp (maxDischargeDepth := 99)

@[simp ↓] theorem react_keeps {msk : Nat} {s0 s : State} (m : Mast) (src level : Nat) (hk : Keeps msk s0 s) (hw : 251652064 &&& msk = 251652064) : Keeps msk s0 (s.react m src level) := by
  refine keeps_lift hk hw ?_
  unfold State.react
  simp (maxDischargeDepth := 99)

@[simp ↓] theorem reportCore_keeps {msk : Nat} {s0 s : State} (m : Mast) (src site : Nat) (i : ReportInfo) (hk : Keeps msk s0 s) (hw : 251652064 &&& msk = 251652064) : Keeps msk s0 (s.reportCore m src site i) := by
  refine keeps_lift hk hw ?_
  unfold State.reportCore
  (repeat' split) <;> simp (maxDischargeDepth := 99)

@[simp ↓] theorem repairReport_keeps {msk : Nat} {s0 s : State} (m : Mast) (src site : Nat) (capacity : Bool) (hk : Keeps msk s0 s) (hw : 251652064 &&& msk = 251652064) : Keeps msk s0 (s.repairReport m src site capacity) := by
  refine keeps_lift hk hw ?_
  unfold State.repairReport
  simp (maxDischargeDepth := 99)

@[simp ↓] theorem clusterOut_keeps {msk : Nat} {s0 s : State} (m : Mast) (c : Nat) (hk : Keeps msk s0 s) (hw : 251652064 &&& msk = 251652064) : Keeps msk s0 (s.clusterOut m c) := by
  refine keeps_lift hk hw ?_
  unfold State.clusterOut
  simp (maxDischargeDepth := 99)

@[simp ↓] theorem unitFailed_keeps {msk : Nat} {s0 s : State} (m : Mast) (site : Nat) (hk : Keeps msk s0 s) (hw : 251652064 &&& msk = 251652064) : Keeps msk s0 (s.unitFailed m site) := by
  refine keeps_lift hk hw ?_
  unfold State.unitFailed
  simp (maxDischargeDepth := 99)

@[simp ↓] theorem outputsGone_keeps {msk : Nat} {s0 s : State} (m : Mast) (outs : List Nat) (hk : Keeps msk s0 s) (hw : 65536 &&& msk = 65536) : Keeps msk s0 (s.outputsGone m outs) := by
  refine keeps_lift hk hw ?_
  unfold State.outputsGone
  simp (maxDischargeDepth := 99)

@[simp ↓] theorem noSpareRow_keeps {msk : Nat} {s0 s : State} (m : Mast) (site : Nat) (hk : Keeps msk s0 s) (hw : 251652064 &&& msk = 251652064) : Keeps msk s0 (s.noSpareRow m site) := by
  refine keeps_lift hk hw ?_
  unfold State.noSpareRow
  dsimp only
  split
  · simp (maxDischargeDepth := 99)
  · split
    · simp (maxDischargeDepth := 99)
    · split
      · refine repairReport_keeps _ _ _ _ (setMem_keeps_of _ _ (by simp (maxDischargeDepth := 99)) rfl ?_) rfl
        intro hy
        simp only [banksWf, MemMast.wf, Bool.and_eq_true, decide_eq_true_eq, List.all_eq_true, List.length_map, List.length_range, List.mem_map] at *
        refine ⟨hy.1, ?_⟩
        rintro b ⟨i, hi, rfl⟩
        split
        · rename_i c hc
          have := hy.2 c (List.mem_of_getElem? hc)
          split <;> exact this
        · simp [ScratchBank.reset, cellsWf, Assoc.rising]
      · simp (maxDischargeDepth := 99)

@[simp ↓] theorem retireRow_keeps {msk : Nat} {s0 s : State} (m : Mast) (site : Nat) (hk : Keeps msk s0 s) (hw : 251652064 &&& msk = 251652064) : Keeps msk s0 (s.retireRow m site) := by
  refine keeps_lift hk hw ?_
  unfold State.retireRow
  dsimp only
  (repeat' split) <;> simp (maxDischargeDepth := 99)

@[simp ↓] theorem cellFailed_keeps {msk : Nat} {s0 s : State} (m : Mast) (site : Nat) (hk : Keeps msk s0 s) (hw : 251652064 &&& msk = 251652064) : Keeps msk s0 (s.cellFailed m site) := by
  refine keeps_lift hk hw ?_
  unfold State.cellFailed
  simp (maxDischargeDepth := 99)

@[simp ↓] theorem retireLane_keeps {msk : Nat} {s0 s : State} (m : Mast) (site : Nat) (hk : Keeps msk s0 s) (hw : 251652064 &&& msk = 251652064) : Keeps msk s0 (s.retireLane m site) := by
  refine keeps_lift hk hw ?_
  unfold State.retireLane
  simp (maxDischargeDepth := 99)

@[simp ↓] theorem repair_keeps {msk : Nat} {s0 s : State} (m : Mast) (site : Nat) (hk : Keeps msk s0 s) (hw : 251652064 &&& msk = 251652064) : Keeps msk s0 (s.repair m site) := by
  refine keeps_lift hk hw ?_
  unfold State.repair
  (repeat' split) <;> simp (maxDischargeDepth := 99)

@[simp ↓] theorem reportInfo_keeps {msk : Nat} {s0 s : State} (m : Mast) (src site : Nat) (i : ReportInfo) (hk : Keeps msk s0 s) (hw : 251652064 &&& msk = 251652064) : Keeps msk s0 (s.reportInfo m src site i) := by
  refine keeps_lift hk hw ?_
  unfold State.reportInfo
  simp (maxDischargeDepth := 99)

@[simp ↓] theorem report_keeps {msk : Nat} {s0 s : State} (m : Mast) (src site : Nat) (hk : Keeps msk s0 s) (hw : 251652064 &&& msk = 251652064) : Keeps msk s0 (s.report m src site) := by
  refine keeps_lift hk hw ?_
  unfold State.report
  simp (maxDischargeDepth := 99)

@[simp ↓] theorem setDp_keeps {msk : Nat} {s0 s : State} (m : Mast) (d : Datapath) (hk : Keeps msk s0 s) (hw : 16384 &&& msk = 16384) : Keeps msk s0 (s.setDp m d) := by
  refine keeps_lift hk hw ?_
  unfold State.setDp
  simp (maxDischargeDepth := 99)

@[simp ↓] theorem changeDp_keeps {msk : Nat} {s0 s : State} (ms : List Mast) (f : Datapath → Datapath) (hk : Keeps msk s0 s) (hw : 16384 &&& msk = 16384) : Keeps msk s0 (s.changeDp ms f) := by
  refine keeps_lift hk hw ?_
  unfold State.changeDp
  exact keeps_foldl _ _ (keeps_refl _ _) (fun t y => by (try dsimp only); (repeat' split) <;> simp (maxDischargeDepth := 99))

@[simp ↓] theorem superseded_keeps {msk : Nat} {s0 s : State} (seat hostSeq : Nat) (rs : List Ramp) (hk : Keeps msk s0 s) (hw : 96 &&& msk = 96) : Keeps msk s0 (s.superseded seat hostSeq rs) := by
  refine keeps_lift hk hw ?_
  unfold State.superseded
  exact keeps_foldl _ _ (keeps_refl _ _) (fun t y => by (try dsimp only); (repeat' split) <;> simp (maxDischargeDepth := 99))

theorem runChunk_keeps {msk : Nat} {s0 s : State} (x : Hdr) (seat code : Nat) (t : LoadTarget) (p : List Byte) (own : List Nat)
    (run : State → State × List Byte) (hk : Keeps msk s0 s) (hw : 96 &&& msk = 96) (hr : Keeps msk s (run s).1) :
    Keeps msk s0 (s.runChunk x seat code t p own run) := by
  unfold State.runChunk
  split
  · exact refuse_keeps _ _ _ _ _ hk hw
  · exact runNow_keeps _ _ _ _ _ _ _ _ hk hw hr

@[simp ↓] theorem storeChunk_keeps {msk : Nat} {s0 s : State} (t : LoadTarget) (seat : Nat) (p : List Byte) (hk : Keeps msk s0 s) (hw : 32 &&& msk = 32) : Keeps msk s0 (s.storeChunk t seat p).1 := by
  refine keeps_lift hk hw ?_
  unfold State.storeChunk
  simp (maxDischargeDepth := 99)

@[simp ↓] theorem dropLoad_keeps {msk : Nat} {s0 s : State} (t : LoadTarget) (hk : Keeps msk s0 s) (hw : 32 &&& msk = 32) : Keeps msk s0 (s.dropLoad t) := by
  refine keeps_lift hk hw ?_
  unfold State.dropLoad
  simp (maxDischargeDepth := 99)

@[simp ↓] theorem emptyStandby_keeps {msk : Nat} {s0 s : State} (hk : Keeps msk s0 s) (hw : 8224 &&& msk = 8224) : Keeps msk s0 s.emptyStandby := by
  refine keeps_lift hk hw ?_
  unfold State.emptyStandby
  simp (maxDischargeDepth := 99)

@[simp ↓] theorem tackDone_keeps {msk : Nat} {s0 s : State} (p : TackPlan) (kind : Nat) (hk : Keeps msk s0 s) (hw : 96 &&& msk = 96) : Keeps msk s0 (s.tackDone p kind) := by
  refine keeps_lift hk hw ?_
  unfold State.tackDone
  simp (maxDischargeDepth := 99)

@[simp ↓] theorem emptySlots_keeps {msk : Nat} {s0 s : State} (hk : Keeps msk s0 s) (hw : 24672 &&& msk = 24672) : Keeps msk s0 s.emptySlots := by
  refine keeps_lift hk hw ?_
  unfold State.emptySlots
  (repeat' split) <;> simp (maxDischargeDepth := 99)

@[simp ↓] theorem rigVerified_keeps {msk : Nat} {s0 s : State} (v : Verdict) (hk : Keeps msk s0 s) (hw : 96 &&& msk = 96) : Keeps msk s0 (s.rigVerified v) := by
  refine keeps_lift hk hw ?_
  unfold State.rigVerified
  simp (maxDischargeDepth := 99)

@[simp ↓] theorem untack_keeps {msk : Nat} {s0 s : State} (hk : Keeps msk s0 s) (hw : 8192 &&& msk = 8192) : Keeps msk s0 s.untack := by
  refine keeps_lift hk hw ?_
  unfold State.untack
  simp (maxDischargeDepth := 99)

@[simp ↓] theorem setAud_keeps {msk : Nat} {s0 s : State} (m : Mast) (a : AudioMast) (hk : Keeps msk s0 s) (hw : 32768 &&& msk = 32768) : Keeps msk s0 (s.setAud m a) := by
  refine keeps_lift hk hw ?_
  unfold State.setAud
  simp (maxDischargeDepth := 99)

@[simp ↓] theorem changeAud_keeps {msk : Nat} {s0 s : State} (ms : List Mast) (f : AudioMast → AudioMast) (hk : Keeps msk s0 s) (hw : 32768 &&& msk = 32768) : Keeps msk s0 (s.changeAud ms f) := by
  refine keeps_lift hk hw ?_
  unfold State.changeAud
  exact keeps_foldl _ _ (keeps_refl _ _) (fun t y => by (try dsimp only); (repeat' split) <;> simp (maxDischargeDepth := 99))

@[simp ↓] theorem raisePort_keeps {msk : Nat} {s0 s : State} (m : Mast) (cls idx : Nat) (hk : Keeps msk s0 s) (hw : 32864 &&& msk = 32864) : Keeps msk s0 (s.raisePort m cls idx) := by
  refine keeps_lift hk hw ?_
  unfold State.raisePort
  simp (maxDischargeDepth := 99)

@[simp ↓] theorem portState_keeps {msk : Nat} {s0 s : State} (m : Mast) (cls idx st : Nat) (hk : Keeps msk s0 s) (hw : 32864 &&& msk = 32864) : Keeps msk s0 (s.portState m cls idx st) := by
  refine keeps_lift hk hw ?_
  unfold State.portState
  dsimp only
  (repeat' split) <;> simp (maxDischargeDepth := 99)

@[simp ↓] theorem portStates_keeps {msk : Nat} {s0 s : State} (ms : List Mast) (cls idx st : Nat) (hk : Keeps msk s0 s) (hw : 32864 &&& msk = 32864) : Keeps msk s0 (s.portStates ms cls idx st) := by
  refine keeps_lift hk hw ?_
  unfold State.portStates
  exact keeps_foldl _ _ (keeps_refl _ _) (fun t y => by (try dsimp only); (repeat' split) <;> simp (maxDischargeDepth := 99))

@[simp ↓] theorem noteLock_keeps {msk : Nat} {s0 s : State} (m : Mast) (cls idx : Nat) (before : Bool) (hk : Keeps msk s0 s) (hw : 32768 &&& msk = 32768) : Keeps msk s0 (s.noteLock m cls idx before) := by
  refine keeps_lift hk hw ?_
  unfold State.noteLock
  simp (maxDischargeDepth := 99)

@[simp ↓] theorem applyAesConfig_keeps {msk : Nat} {s0 s : State} (c : SchedCmd) (ms : List Mast) (hk : Keeps msk s0 s) (hw : 32864 &&& msk = 32864) : Keeps msk s0 (s.applyAesConfig c ms).1 := by
  refine keeps_lift hk hw ?_
  unfold State.applyAesConfig
  dsimp only
  (repeat' split) <;> simp (maxDischargeDepth := 99)

@[simp ↓] theorem applyCommonStart_keeps {msk : Nat} {s0 s : State} (c : SchedCmd) (ms : List Mast) (hk : Keeps msk s0 s) (hw : 33792 &&& msk = 33792) : Keeps msk s0 (s.applyCommonStart c ms).1 := by
  refine keeps_lift hk hw ?_
  unfold State.applyCommonStart
  exact keeps_foldl _ _ (keeps_refl _ _) (fun t y => changeAud_keeps _ _ (keeps_foldl _ _ (keeps_refl _ _) (fun u z => by simp (maxDischargeDepth := 99))) rfl)

@[simp ↓] theorem bindRx_keeps {msk : Nat} {s0 s : State} (ms : List Mast) (p : List Byte) (profile : Bool) (hk : Keeps msk s0 s) (hw : 98400 &&& msk = 98400) : Keeps msk s0 (s.bindRx ms p profile) := by
  refine keeps_lift hk hw ?_
  unfold State.bindRx
  refine portStates_keeps _ _ _ _ (changeAud_keeps _ _ (keeps_foldl _ _ (keeps_refl _ _) (fun u z => ?_)) rfl) rfl
  simp (maxDischargeDepth := 99)

@[simp ↓] theorem applyStreamRx_keeps {msk : Nat} {s0 s : State} (c : SchedCmd) (ms : List Mast) (hk : Keeps msk s0 s) (hw : 98400 &&& msk = 98400) : Keeps msk s0 (s.applyStreamRx c ms).1 := by
  refine keeps_lift hk hw ?_
  unfold State.applyStreamRx
  simp (maxDischargeDepth := 99)

@[simp ↓] theorem bindTx_keeps {msk : Nat} {s0 s : State} (ms : List Mast) (p : List Byte) (profile : Bool) (hk : Keeps msk s0 s) (hw : 32864 &&& msk = 32864) : Keeps msk s0 (s.bindTx ms p profile) := by
  refine keeps_lift hk hw ?_
  unfold State.bindTx
  simp (maxDischargeDepth := 99)

@[simp ↓] theorem applyStreamTx_keeps {msk : Nat} {s0 s : State} (c : SchedCmd) (ms : List Mast) (hk : Keeps msk s0 s) (hw : 32864 &&& msk = 32864) : Keeps msk s0 (s.applyStreamTx c ms).1 := by
  refine keeps_lift hk hw ?_
  unfold State.applyStreamTx
  simp (maxDischargeDepth := 99)

@[simp ↓] theorem applyPatch_keeps {msk : Nat} {s0 s : State} (c : SchedCmd) (ms : List Mast) (hk : Keeps msk s0 s) (hw : 17408 &&& msk = 17408) : Keeps msk s0 (s.applyPatch c ms).1 := by
  refine keeps_lift hk hw ?_
  unfold State.applyPatch
  dsimp only
  split
  · simp (maxDischargeDepth := 99)
  · refine keeps_foldl _ _ (keeps_refl _ _) (fun t y => keeps_foldl _ _ (keeps_refl _ _) (fun u z => ?_))
    split <;> simp (maxDischargeDepth := 99)

@[simp ↓] theorem applyHostAudio_keeps {msk : Nat} {s0 s : State} (c : SchedCmd) (ms : List Mast) (hk : Keeps msk s0 s) (hw : 32864 &&& msk = 32864) : Keeps msk s0 (s.applyHostAudio c ms).1 := by
  refine keeps_lift hk hw ?_
  unfold State.applyHostAudio
  simp (maxDischargeDepth := 99)

@[simp ↓] theorem applySdiAudio_keeps {msk : Nat} {s0 s : State} (c : SchedCmd) (ms : List Mast) (hk : Keeps msk s0 s) (hw : 32864 &&& msk = 32864) : Keeps msk s0 (s.applySdiAudio c ms).1 := by
  refine keeps_lift hk hw ?_
  unfold State.applySdiAudio
  simp (maxDischargeDepth := 99)

@[simp ↓] theorem applySidetone_keeps {msk : Nat} {s0 s : State} (c : SchedCmd) (ms : List Mast) (hk : Keeps msk s0 s) (hw : 16384 &&& msk = 16384) : Keeps msk s0 (s.applySidetone c ms).1 := by
  refine keeps_lift hk hw ?_
  unfold State.applySidetone
  simp (maxDischargeDepth := 99)

@[simp ↓] theorem stepPlayback_keeps {msk : Nat} {s0 s : State} (n : Nat) (data : List Byte) (hk : Keeps msk s0 s) (hw : 33888 &&& msk = 33888) : Keeps msk s0 (s.stepPlayback n data) := by
  refine keeps_lift hk hw ?_
  unfold State.stepPlayback
  (repeat' split) <;> simp (maxDischargeDepth := 99)

@[simp ↓] theorem stepRecording_keeps {msk : Nat} {s0 s : State} (n : Nat) (word : Nat → Int) (hk : Keeps msk s0 s) (hw : 33888 &&& msk = 33888) : Keeps msk s0 (s.stepRecording n word) := by
  refine keeps_lift hk hw ?_
  unfold State.stepRecording
  dsimp only
  (repeat' split) <;> simp (maxDischargeDepth := 99)

@[simp ↓] theorem stopRings_keeps {msk : Nat} {s0 s : State} (hk : Keeps msk s0 s) (hw : 32864 &&& msk = 32864) : Keeps msk s0 s.stopRings := by
  refine keeps_lift hk hw ?_
  unfold State.stopRings
  simp (maxDischargeDepth := 99)

@[simp ↓] theorem loadRig_keeps {msk : Nat} {s0 s : State} (seat : Nat) (p : List Byte) (hk : Keeps msk s0 s) (hw : 8224 &&& msk = 8224) : Keeps msk s0 (s.loadRig seat p).1 := by
  refine keeps_lift hk hw ?_
  unfold State.loadRig
  simp (maxDischargeDepth := 99)

@[simp ↓] theorem tackAccepted_keeps {msk : Nat} {s0 s : State} (t : TackPlan) (hk : Keeps msk s0 s) (hw : 8192 &&& msk = 8192) : Keeps msk s0 (s.tackAccepted t) := by
  refine keeps_lift hk hw ?_
  unfold State.tackAccepted
  simp (maxDischargeDepth := 99)

@[simp ↓] theorem applyTack_keeps {msk : Nat} {s0 s : State} (c : SchedCmd) (ms : List Mast) (hk : Keeps msk s0 s) (hw : 24576 &&& msk = 24576) : Keeps msk s0 (s.applyTack c ms).1 := by
  refine keeps_lift hk hw ?_
  unfold State.applyTack
  (repeat' split) <;> simp (maxDischargeDepth := 99)

@[simp ↓] theorem singleHomedRigs_keeps {msk : Nat} {s0 s : State} (hk : Keeps msk s0 s) (hw : 8288 &&& msk = 8288) : Keeps msk s0 s.singleHomedRigs := by
  refine keeps_lift hk hw ?_
  unfold State.singleHomedRigs
  dsimp only
  split
  · split
    · have h : Keeps 8288 s (if s.rigs.state = .tackPending then
          (s.hal.sched.filter (fun c => c.code == 0x0403)).foldl (fun acc c => acc.dropSched c stSingleHomed)
            { s with hal := { s.hal with sched := s.hal.sched.filter (fun c => c.code != 0x0403) } } else s) := by
        split
        · exact keeps_foldl _ _ (by simp (maxDischargeDepth := 99) [List.length_filter_le]) (fun t y => by simp (maxDischargeDepth := 99))
        · simp (maxDischargeDepth := 99)
      simp (maxDischargeDepth := 99) [h]
    · simp (maxDischargeDepth := 99)
  · simp (maxDischargeDepth := 99)

@[simp ↓] theorem finishTack_keeps {msk : Nat} {s0 s : State} (p : TackPlan) (hk : Keeps msk s0 s) (hw : 24672 &&& msk = 24672) : Keeps msk s0 (s.finishTack p) := by
  refine keeps_lift hk hw ?_
  unfold State.finishTack
  simp (maxDischargeDepth := 99)

@[simp ↓] theorem setLane_keeps {msk : Nat} {s0 s : State} (m : Mast) (l : Nat) (x : Lane) (hk : Keeps msk s0 s) (hw : 132096 &&& msk = 132096) : Keeps msk s0 (s.setLane m l x) := by
  refine keeps_lift hk hw ?_
  unfold State.setLane
  simp (maxDischargeDepth := 99)

@[simp ↓] theorem countFrame_keeps {msk : Nat} {s0 s : State} (m : Mast) (f : FrameFacts) (hk : Keeps msk s0 s) (hw : 1024 &&& msk = 1024) : Keeps msk s0 (s.countFrame m f) := by
  refine keeps_lift hk hw ?_
  unfold State.countFrame
  simp (maxDischargeDepth := 99)

@[simp ↓] theorem offer_keeps {msk : Nat} {s0 s : State} (m : Mast) (port : Option Nat) (k bytes : Nat) (hk : Keeps msk s0 s) (hw : 131072 &&& msk = 131072) : Keeps msk s0 (s.offer m port k bytes) := by
  refine keeps_lift hk hw ?_
  unfold State.offer
  (repeat' split) <;> simp (maxDischargeDepth := 99)

@[simp ↓] theorem stepEgress_keeps {msk : Nat} {s0 s : State} (m : Mast) (hk : Keeps msk s0 s) (hw : 251652064 &&& msk = 251652064) : Keeps msk s0 (s.stepEgress m) := by
  refine keeps_lift hk hw ?_
  unfold State.stepEgress
  exact keeps_foldl _ _ (keeps_refl _ _) (fun t y => by (try dsimp only); (repeat' split) <;> simp (maxDischargeDepth := 99))

@[simp ↓] theorem sendReports_keeps {msk : Nat} {s0 s : State} (m : Mast) (l : List (Membership × Bool)) (hk : Keeps msk s0 s) (hw : 196608 &&& msk = 196608) : Keeps msk s0 (s.sendReports m l) := by
  refine keeps_lift hk hw ?_
  unfold State.sendReports
  exact keeps_foldl _ _ (by simp (maxDischargeDepth := 99)) (fun t y => by (try dsimp only); (repeat' split) <;> simp (maxDischargeDepth := 99))

@[simp ↓] theorem followGroups_keeps {msk : Nat} {s0 s : State} (m : Mast) (hk : Keeps msk s0 s) (hw : 196608 &&& msk = 196608) : Keeps msk s0 (s.followGroups m) := by
  refine keeps_lift hk hw ?_
  unfold State.followGroups
  simp (maxDischargeDepth := 99)

@[simp ↓] theorem flowMiss_keeps {msk : Nat} {s0 s : State} (m : Mast) (r : RtpFacts) (hk : Keeps msk s0 s) (hw : 66560 &&& msk = 66560) : Keeps msk s0 (s.flowMiss m r) := by
  refine keeps_lift hk hw ?_
  unfold State.flowMiss
  simp (maxDischargeDepth := 99)

@[simp ↓] theorem setRx_keeps {msk : Nat} {s0 s : State} (m : Mast) (st : Nat) (x : RxStream) (hk : Keeps msk s0 s) (hw : 32768 &&& msk = 32768) : Keeps msk s0 (s.setRx m st x) := by
  refine keeps_lift hk hw ?_
  unfold State.setRx
  simp (maxDischargeDepth := 99)

@[simp ↓] theorem audioPacket_keeps {msk : Nat} {s0 s : State} (m : Mast) (entry st : Nat) (r : RtpFacts) (samples : List (List Int)) (estimate : Nat) (hk : Keeps msk s0 s) (hw : 33888 &&& msk = 33888) : Keeps msk s0 (s.audioPacket m entry st r samples estimate) := by
  refine keeps_lift hk hw ?_
  unfold State.audioPacket
  (repeat' split) <;> simp (maxDischargeDepth := 99)

@[simp ↓] theorem videoNotice_keeps {msk : Nat} {s0 s : State} (m : Mast) (port seq : Nat) (hk : Keeps msk s0 s) (hw : 131072 &&& msk = 131072) : Keeps msk s0 (s.videoNotice m port seq) := by
  refine keeps_lift hk hw ?_
  unfold State.videoNotice
  (repeat' split) <;> simp (maxDischargeDepth := 99)

@[simp ↓] theorem enterForwarded_keeps {msk : Nat} {s0 s : State} (m : Mast) (st : Nat) (p : HeldPacket) (hk : Keeps msk s0 s) (hw : 33888 &&& msk = 33888) : Keeps msk s0 (s.enterForwarded m st p) := by
  refine keeps_lift hk hw ?_
  unfold State.enterForwarded
  (repeat' split) <;> simp (maxDischargeDepth := 99)

@[simp ↓] theorem sendCapture_keeps {msk : Nat} {s0 s : State} (m : Mast) (cls port : Nat) (c : Captured) (hk : Keeps msk s0 s) (hw : 32768 &&& msk = 32768) : Keeps msk s0 (s.sendCapture m cls port c) := by
  refine keeps_lift hk hw ?_
  unfold State.sendCapture
  (repeat' split) <;> simp (maxDischargeDepth := 99)

@[simp ↓] theorem captureError_keeps {msk : Nat} {s0 s : State} (m : Mast) (cls port bad step : Nat) (hk : Keeps msk s0 s) (hw : 1280 &&& msk = 1280) : Keeps msk s0 (s.captureError m cls port bad step) := by
  refine keeps_lift hk hw ?_
  unfold State.captureError
  simp (maxDischargeDepth := 99)

@[simp ↓] theorem captureFilled_keeps {msk : Nat} {s0 s : State} (m : Mast) (cls port : Nat) (caps : List Captured) (c : Captured) (hk : Keeps msk s0 s) (hw : 1280 &&& msk = 1280) : Keeps msk s0 (s.captureFilled m cls port caps c) := by
  refine keeps_lift hk hw ?_
  unfold State.captureFilled
  (repeat' split) <;> simp (maxDischargeDepth := 99)

@[simp ↓] theorem takeCapture_keeps {msk : Nat} {s0 s : State} (m : Mast) (x : CaptureNote) (hk : Keeps msk s0 s) (hw : 34048 &&& msk = 34048) : Keeps msk s0 (s.takeCapture m x) := by
  refine keeps_lift hk hw ?_
  unfold State.takeCapture
  dsimp only
  (repeat' split) <;> simp (maxDischargeDepth := 99)

@[simp ↓] theorem slackLost_keeps {msk : Nat} {s0 s : State} (m : Mast) (memory bank row : Nat) (hk : Keeps msk s0 s) (hw : 1024 &&& msk = 1024) : Keeps msk s0 (s.slackLost m memory bank row) := by
  refine keeps_lift hk hw ?_
  unfold State.slackLost
  exact keeps_foldl _ _ (keeps_refl _ _) (fun t y => by (try dsimp only); (repeat' split) <;> simp (maxDischargeDepth := 99))

@[simp ↓] theorem countRead_keeps {msk : Nat} {s0 s : State} (m : Mast) (src site : Nat) (hk : Keeps msk s0 s) (hw : 4195328 &&& msk = 4195328) : Keeps msk s0 (s.countRead m src site) := by
  refine keeps_lift hk hw ?_
  unfold State.countRead
  simp (maxDischargeDepth := 99)

@[simp ↓] theorem ackFaults_keeps {msk : Nat} {s0 s : State} (p : List Byte) (hk : Keeps msk s0 s) (hw : 512 &&& msk = 512) : Keeps msk s0 (s.ackFaults p).1 := by
  refine keeps_lift hk hw ?_
  unfold State.ackFaults
  exact keeps_foldl_fst _ _ _ (keeps_refl _ _) (fun q y => by simp (maxDischargeDepth := 99))

@[simp ↓] theorem snapAccepted_keeps {msk : Nat} {s0 s : State} (eff : Nat) (hk : Keeps msk s0 s) (hw : 2048 &&& msk = 2048) : Keeps msk s0 (s.snapAccepted eff) := by
  refine keeps_lift hk hw ?_
  unfold State.snapAccepted
  simp (maxDischargeDepth := 99)

@[simp ↓] theorem applySnapshot_keeps {msk : Nat} {s0 s : State} (c : SchedCmd) (hk : Keeps msk s0 s) (hw : 3072 &&& msk = 3072) : Keeps msk s0 (s.applySnapshot c).1 := by
  refine keeps_lift hk hw ?_
  unfold State.applySnapshot
  simp (maxDischargeDepth := 99)

@[simp ↓] theorem testResult_keeps {msk : Nat} {s0 s : State} (m : Mast) (t : PendingTest) (passed : Bool) (hk : Keeps msk s0 s) (hw : 251652064 &&& msk = 251652064) : Keeps msk s0 (s.testResult m t passed) := by
  refine keeps_lift hk hw ?_
  unfold State.testResult
  simp (maxDischargeDepth := 99)

@[simp ↓] theorem readWord_keeps {msk : Nat} {s0 s : State} (m : Mast) (memory bank row word : Nat) (hk : Keeps msk s0 s) (hw : 251652064 &&& msk = 251652064) : Keeps msk s0 (s.readWord m memory bank row word) := by
  refine keeps_lift hk hw ?_
  unfold State.readWord
  (repeat' split) <;> simp (maxDischargeDepth := 99)

@[simp ↓] theorem setSup_keeps {msk : Nat} {s0 s : State} (m : Mast) (x : SupplyMast) (hk : Keeps msk s0 s) (hw : 2097152 &&& msk = 2097152) : Keeps msk s0 (s.setSup m x) := by
  refine keeps_lift hk hw ?_
  unfold State.setSup
  simp (maxDischargeDepth := 99)

@[simp ↓] theorem changeRail_keeps {msk : Nat} {s0 s : State} (m : Mast) (rail : Nat) (f : RailSt → RailSt) (hk : Keeps msk s0 s) (hw : 2097152 &&& msk = 2097152) : Keeps msk s0 (s.changeRail m rail f) := by
  refine keeps_lift hk hw ?_
  unfold State.changeRail
  dsimp only
  (repeat' split) <;> simp (maxDischargeDepth := 99)

@[simp ↓] theorem stretchAll_keeps {msk : Nat} {s0 s : State} (m : Mast) (hk : Keeps msk s0 s) (hw : 524288 &&& msk = 524288) : Keeps msk s0 (s.stretchAll m) := by
  refine keeps_lift hk hw ?_
  unfold State.stretchAll
  simp (maxDischargeDepth := 99)

@[simp ↓] theorem resumeRegion_keeps {msk : Nat} {s0 s : State} (m : Mast) (g : Nat) (hk : Keeps msk s0 s) (hw : 525312 &&& msk = 525312) : Keeps msk s0 (s.resumeRegion m g) := by
  refine keeps_lift hk hw ?_
  unfold State.resumeRegion
  dsimp only
  (repeat' split) <;> simp (maxDischargeDepth := 99)

@[simp ↓] theorem sagRate_keeps {msk : Nat} {s0 s : State} (m : Mast) (rail : Nat) (hk : Keeps msk s0 s) (hw : 251652064 &&& msk = 251652064) : Keeps msk s0 (s.sagRate m rail) := by
  refine keeps_lift hk hw ?_
  unfold State.sagRate
  simp (maxDischargeDepth := 99)

@[simp ↓] theorem holdUnpowered_keeps {msk : Nat} {s0 s : State} (m : Mast) (hk : Keeps msk s0 s) (hw : 128 &&& msk = 128) : Keeps msk s0 (s.holdUnpowered m) := by
  refine keeps_lift hk hw ?_
  unfold State.holdUnpowered
  simp (maxDischargeDepth := 99)

@[simp ↓] theorem zeroise_keeps {msk : Nat} {s0 s : State} (hk : Keeps msk s0 s) (hw : 16912512 &&& msk = 16912512) : Keeps msk s0 s.zeroise := by
  refine keeps_lift hk hw ?_
  unfold State.zeroise
  simp (maxDischargeDepth := 99)

@[simp ↓] theorem tamper_keeps {msk : Nat} {s0 s : State} (m : Mast) (src : Nat) (hk : Keeps msk s0 s) (hw : 268433376 &&& msk = 268433376) : Keeps msk s0 (s.tamper m src) := by
  refine keeps_lift hk hw ?_
  unfold State.tamper
  simp (maxDischargeDepth := 99)

@[simp ↓] theorem cooled_keeps {msk : Nat} {s0 s : State} (m : Mast) (hk : Keeps msk s0 s) (hw : 83871712 &&& msk = 83871712) : Keeps msk s0 (s.cooled m) := by
  refine keeps_lift hk hw ?_
  unfold State.cooled
  simp (maxDischargeDepth := 99)

@[simp ↓] theorem overheat_keeps {msk : Nat} {s0 s : State} (m : Mast) (src die : Nat) (hk : Keeps msk s0 s) (hw : 251652064 &&& msk = 251652064) : Keeps msk s0 (s.overheat m src die) := by
  refine keeps_lift hk hw ?_
  unfold State.overheat
  simp (maxDischargeDepth := 99)

@[simp ↓] theorem setClk_keeps {msk : Nat} {s0 s : State} (m : Mast) (c : ClockMast) (hk : Keeps msk s0 s) (hw : 524288 &&& msk = 524288) : Keeps msk s0 (s.setClk m c) := by
  refine keeps_lift hk hw ?_
  unfold State.setClk
  simp (maxDischargeDepth := 99)

@[simp ↓] theorem regionLanesDown_keeps {msk : Nat} {s0 s : State} (m : Mast) (r : Nat) (hk : Keeps msk s0 s) (hw : 131072 &&& msk = 131072) : Keeps msk s0 (s.regionLanesDown m r) := by
  refine keeps_lift hk hw ?_
  unfold State.regionLanesDown
  simp (maxDischargeDepth := 99)

@[simp ↓] theorem pllLost_keeps {msk : Nat} {s0 s : State} (m : Mast) (p : Nat) (oscStopped : Bool) (hk : Keeps msk s0 s) (hw : 251652064 &&& msk = 251652064) : Keeps msk s0 (s.pllLost m p oscStopped) := by
  refine keeps_lift hk hw ?_
  unfold State.pllLost
  (repeat' split) <;> simp (maxDischargeDepth := 99)

@[simp ↓] theorem gateTimeout_keeps {msk : Nat} {s0 s : State} (m : Mast) (block : Nat) (late : Bool) (hk : Keeps msk s0 s) (hw : 251652064 &&& msk = 251652064) : Keeps msk s0 (s.gateTimeout m block late) := by
  refine keeps_lift hk hw ?_
  unfold State.gateTimeout
  simp (maxDischargeDepth := 99)

@[simp ↓] theorem reloadPll_keeps {msk : Nat} {s0 s : State} (m : Mast) (p : Nat) (slow : Bool) (hk : Keeps msk s0 s) (hw : 524288 &&& msk = 524288) : Keeps msk s0 (s.reloadPll m p slow) := by
  refine keeps_lift hk hw ?_
  unfold State.reloadPll
  simp (maxDischargeDepth := 99)

@[simp ↓] theorem reloadLanePlls_keeps {msk : Nat} {s0 s : State} (old : State) (m : Mast) (hk : Keeps msk s0 s) (hw : 524288 &&& msk = 524288) : Keeps msk s0 (s.reloadLanePlls old m) := by
  refine keeps_lift hk hw ?_
  unfold State.reloadLanePlls
  exact keeps_foldl _ _ (keeps_refl _ _) (fun t y => by (try dsimp only); (repeat' split) <;> simp (maxDischargeDepth := 99))

@[simp ↓] theorem powerLanes_keeps {msk : Nat} {s0 s : State} (m : Mast) (hk : Keeps msk s0 s) (hw : 656384 &&& msk = 656384) : Keeps msk s0 (s.powerLanes m) := by
  refine keeps_lift hk hw ?_
  unfold State.powerLanes
  refine reloadLanePlls_keeps _ _ (keeps_foldl _ _ (keeps_refl _ _) (fun t y => ?_)) rfl
  dsimp only
  (repeat' split) <;> simp (maxDischargeDepth := 99)

@[simp ↓] theorem inputLost_keeps {msk : Nat} {s0 s : State} (m : Mast) (i : Nat) (hk : Keeps msk s0 s) (hw : 66560 &&& msk = 66560) : Keeps msk s0 (s.inputLost m i) := by
  refine keeps_lift hk hw ?_
  unfold State.inputLost
  dsimp only
  (repeat' split) <;> simp (maxDischargeDepth := 99)

@[simp ↓] theorem sdiAudioLost_keeps {msk : Nat} {s0 s : State} (m : Mast) (i : Nat) (hk : Keeps msk s0 s) (hw : 32864 &&& msk = 32864) : Keeps msk s0 (s.sdiAudioLost m i) := by
  refine keeps_lift hk hw ?_
  unfold State.sdiAudioLost
  dsimp only
  (repeat' split) <;> simp (maxDischargeDepth := 99)

@[simp ↓] theorem laneLost_keeps {msk : Nat} {s0 s : State} (m : Mast) (l : Nat) (hk : Keeps msk s0 s) (hw : 99424 &&& msk = 99424) : Keeps msk s0 (s.laneLost m l) := by
  refine keeps_lift hk hw ?_
  unfold State.laneLost
  split
  · exact noteLock_keeps _ _ _ _ (by simp (maxDischargeDepth := 99)) rfl
  · simp (maxDischargeDepth := 99)

@[simp ↓] theorem laneRegained_keeps {msk : Nat} {s0 s : State} (m : Mast) (l : Nat) (hk : Keeps msk s0 s) (hw : 98304 &&& msk = 98304) : Keeps msk s0 (s.laneRegained m l) := by
  refine keeps_lift hk hw ?_
  unfold State.laneRegained
  simp (maxDischargeDepth := 99)

@[simp ↓] theorem laneDetect_keeps {msk : Nat} {s0 s : State} (m : Mast) (l : Nat) (x : Lane) (hk : Keeps msk s0 s) (hw : 251652064 &&& msk = 251652064) : Keeps msk s0 (s.laneDetect m l x) := by
  refine keeps_lift hk hw ?_
  unfold State.laneDetect
  simp (maxDischargeDepth := 99)

@[simp ↓] theorem dropDead_keeps {msk : Nat} {s0 s : State} (m : Mast) (hk : Keeps msk s0 s) (hw : 99424 &&& msk = 99424) : Keeps msk s0 (s.dropDead m) := by
  refine keeps_lift hk hw ?_
  unfold State.dropDead
  exact keeps_foldl _ _ (keeps_refl _ _) (fun t y => by (try dsimp only); (repeat' split) <;> simp (maxDischargeDepth := 99))

@[simp ↓] theorem installAudio_keeps {msk : Nat} {s0 s : State} (m : Mast) (n : Nat) (hk : Keeps msk s0 s) (hw : 98400 &&& msk = 98400) : Keeps msk s0 (s.installAudio m n) := by
  refine keeps_lift hk hw ?_
  unfold State.installAudio
  have h1 : ∀ (x : State), Keeps 98400 x ((List.range 16).foldl (fun acc i => acc.portState m 0 i 1) x) :=
    fun x => keeps_foldl _ _ (keeps_refl _ _) (fun t y => by simp (maxDischargeDepth := 99))
  have h2 : ∀ (x : State), Keeps 98400 x ((List.range 16).foldl (fun acc i => acc.portState m 1 i (if (s.profileOut i n).enabled then 2 else 0)) x) :=
    fun x => keeps_foldl _ _ (keeps_refl _ _) (fun t y => by simp (maxDischargeDepth := 99))
  dsimp only
  split
  · refine keeps_foldl _ _ (keeps_trans (keeps_trans (setAud_keeps m _ (keeps_refl _ s) rfl) (h1 _)) (h2 _)) (fun t y => ?_)
    split <;> simp (maxDischargeDepth := 99)
  · exact keeps_trans (keeps_trans (setAud_keeps m _ (keeps_refl _ s) rfl) (h1 _)) (h2 _)

@[simp ↓] theorem changeLifecycle_keeps {msk : Nat} {s0 s : State} (target : Nat) (hk : Keeps msk s0 s) (hw : 4320 &&& msk = 4320) : Keeps msk s0 (s.changeLifecycle target) := by
  refine keeps_lift hk hw ?_
  unfold State.changeLifecycle
  simp (maxDischargeDepth := 99)

@[simp ↓] theorem writeLifecycle_keeps {msk : Nat} {s0 s : State} (w : Nat × List Byte) (hk : Keeps msk s0 s) (hw : 4320 &&& msk = 4320) : Keeps msk s0 (s.writeLifecycle w) := by
  refine keeps_lift hk hw ?_
  unfold State.writeLifecycle
  simp (maxDischargeDepth := 99)

@[simp ↓] theorem lifecycleTo_keeps {msk : Nat} {s0 s : State} (target : Nat) (key : List Byte) (hk : Keeps msk s0 s) (hw : 4320 &&& msk = 4320) : Keeps msk s0 (s.lifecycleTo target key) := by
  refine keeps_lift hk hw ?_
  unfold State.lifecycleTo
  simp (maxDischargeDepth := 99)

@[simp ↓] theorem resumeOtp_keeps {msk : Nat} {s0 s : State} (hk : Keeps msk s0 s) (hw : 4320 &&& msk = 4320) : Keeps msk s0 s.resumeOtp := by
  refine keeps_lift hk hw ?_
  unfold State.resumeOtp
  split
  · simp (maxDischargeDepth := 99)
  · exact keeps_foldl _ _ (by simp (maxDischargeDepth := 99)) (fun t y => by simp (maxDischargeDepth := 99))

@[simp ↓] theorem mapsAtWake_keeps {msk : Nat} {s0 s : State} (m : Mast) (hk : Keeps msk s0 s) (hw : 251652064 &&& msk = 251652064) : Keeps msk s0 (s.mapsAtWake m) := by
  refine keeps_lift hk hw ?_
  unfold State.mapsAtWake
  dsimp only
  split
  · exact report_keeps _ _ _ (setMem_keeps _ _ (keeps_refl _ _) rfl rfl) rfl
  · exact setMem_keeps _ _ (keeps_refl _ _) rfl rfl

@[simp ↓] theorem gateDies_keeps {msk : Nat} {s0 s : State} (m : Mast) (hk : Keeps msk s0 s) (hw : 2211968 &&& msk = 2211968) : Keeps msk s0 (s.gateDies m) := by
  refine keeps_lift hk hw ?_
  unfold State.gateDies
  simp (maxDischargeDepth := 99)

@[simp ↓] theorem startDies_keeps {msk : Nat} {s0 s : State} (m : Mast) (n : Nat) (hk : Keeps msk s0 s) (hw : 2213600 &&& msk = 2213600) : Keeps msk s0 (s.startDies m n) := by
  refine keeps_lift hk hw ?_
  unfold State.startDies
  simp (maxDischargeDepth := 99)

@[simp ↓] theorem dropXpt_keeps {msk : Nat} {s0 s : State} (order : Nat) (hk : Keeps msk s0 s) (hw : 33619968 &&& msk = 33619968) : Keeps msk s0 (s.dropXpt order) := by
  refine keeps_lift hk hw ?_
  unfold State.dropXpt
  simp (maxDischargeDepth := 99)

@[simp ↓] theorem undoAction_keeps {msk : Nat} {s0 s : State} (c : SchedCmd) (hk : Keeps msk s0 s) (hw : 33630240 &&& msk = 33630240) : Keeps msk s0 (s.undoAction c) := by
  refine keeps_lift hk hw ?_
  unfold State.undoAction
  simp (maxDischargeDepth := 99)

@[simp ↓] theorem dropUncommitted_keeps {msk : Nat} {s0 s : State} (hk : Keeps msk s0 s) (hw : 33630304 &&& msk = 33630304) : Keeps msk s0 s.dropUncommitted := by
  refine keeps_lift hk hw ?_
  unfold State.dropUncommitted
  exact keeps_foldl _ _ (by simp (maxDischargeDepth := 99) [List.length_filter_le]) (fun t y => by simp (maxDischargeDepth := 99))

@[simp ↓] theorem gateVideo_keeps {msk : Nat} {s0 s : State} (off : VideoMast → VideoMast) (hk : Keeps msk s0 s) (hw : 33620064 &&& msk = 33620064) : Keeps msk s0 (s.gateVideo off) := by
  refine keeps_lift hk hw ?_
  unfold State.gateVideo
  exact keeps_foldl _ _ (keeps_foldl _ _ (by simp (maxDischargeDepth := 99) [List.length_filter_le]) (fun t y => by simp (maxDischargeDepth := 99))) (fun t y => by simp (maxDischargeDepth := 99))

@[simp ↓] theorem resumeVideo_keeps {msk : Nat} {s0 s : State} (hk : Keeps msk s0 s) (hw : 65536 &&& msk = 65536) : Keeps msk s0 s.resumeVideo := by
  refine keeps_lift hk hw ?_
  unfold State.resumeVideo
  simp (maxDischargeDepth := 99)

@[simp ↓] theorem powerVideo_keeps {msk : Nat} {s0 s : State} (hk : Keeps msk s0 s) (hw : 4261472 &&& msk = 4261472) : Keeps msk s0 s.powerVideo := by
  refine keeps_lift hk hw ?_
  unfold State.powerVideo
  simp (maxDischargeDepth := 99)

@[simp ↓] theorem settle_keeps {msk : Nat} {s0 s : State} (hk : Keeps msk s0 s) (hw : 656384 &&& msk = 656384) : Keeps msk s0 s.settle := by
  refine keeps_lift hk hw ?_
  unfold State.settle
  simp (maxDischargeDepth := 99)

@[simp ↓] theorem zoneEvent_keeps {msk : Nat} {s0 s : State} (c : ZoneChange) (hk : Keeps msk s0 s) (hw : 96 &&& msk = 96) : Keeps msk s0 (s.zoneEvent c) := by
  refine keeps_lift hk hw ?_
  unfold State.zoneEvent
  simp (maxDischargeDepth := 99)

@[simp ↓] theorem overlayOn_keeps {msk : Nat} {s0 s : State} (alarm : Bool) (m : Mast) (changes : List ZoneChange) (hk : Keeps msk s0 s) (hw : 16384 &&& msk = 16384) : Keeps msk s0 (s.overlayOn alarm m changes).1 := by
  refine keeps_lift hk hw ?_
  unfold State.overlayOn
  (repeat' split) <;> simp (maxDischargeDepth := 99)

@[simp ↓] theorem followOverlay_keeps {msk : Nat} {s0 s : State} (hk : Keeps msk s0 s) (hw : 16480 &&& msk = 16480) : Keeps msk s0 s.followOverlay := by
  refine keeps_lift hk hw ?_
  unfold State.followOverlay
  split
  · simp (maxDischargeDepth := 99)
  · exact keeps_foldl _ _ (by simp (maxDischargeDepth := 99)) (fun t y => by simp (maxDischargeDepth := 99))

@[simp ↓] theorem planShed_keeps {msk : Nat} {s0 s : State} (hk : Keeps msk s0 s) (hw : 128 &&& msk = 128) : Keeps msk s0 s.planShed := by
  refine keeps_lift hk hw ?_
  unfold State.planShed
  simp (maxDischargeDepth := 99)

@[simp ↓] theorem freeLoops_keeps {msk : Nat} {s0 s : State} (m : Mast) (loops : List Nat) (hk : Keeps msk s0 s) (hw : 132096 &&& msk = 132096) : Keeps msk s0 (s.freeLoops m loops) := by
  refine keeps_lift hk hw ?_
  unfold State.freeLoops
  exact keeps_foldl _ _ (keeps_refl _ _) (fun t y => by (try dsimp only); (repeat' split) <;> simp (maxDischargeDepth := 99))

@[simp ↓] theorem abandonTests_keeps {msk : Nat} {s0 s : State} (m : Mast) (hk : Keeps msk s0 s) (hw : 1536 &&& msk = 1536) : Keeps msk s0 (s.abandonTests m) := by
  refine keeps_lift hk hw ?_
  unfold State.abandonTests
  simp (maxDischargeDepth := 99)

@[simp ↓] theorem abortTests_keeps {msk : Nat} {s0 s : State} (hk : Keeps msk s0 s) (hw : 155321952 &&& msk = 155321952) : Keeps msk s0 s.abortTests := by
  refine keeps_lift hk hw ?_
  unfold State.abortTests
  have h : ∀ x : State, Keeps 155321952 x { x.abortMarches with tests := [], alarm := { s.alarm with tests := [] } } := fun x => by simp (maxDischargeDepth := 99)
  refine keeps_foldl _ _ (keeps_foldl _ _ ?_ (fun t y => by simp (maxDischargeDepth := 99))) (fun t y => by simp (maxDischargeDepth := 99))
  exact freeLoops_keeps _ _ (freeLoops_keeps _ _ (keeps_trans (abandonTests_keeps _ (abandonTests_keeps _ (keeps_refl _ s) rfl) rfl) (h _)) rfl) rfl

@[simp ↓] theorem restartOverlay_keeps {msk : Nat} {s0 s : State} (m : Mast) (hk : Keeps msk s0 s) (hw : 16384 &&& msk = 16384) : Keeps msk s0 (s.restartOverlay m) := by
  refine keeps_lift hk hw ?_
  unfold State.restartOverlay
  simp (maxDischargeDepth := 99)

@[simp ↓] theorem wipeDies_keeps {msk : Nat} {s0 s : State} (m : Mast) (n : Nat) (hk : Keeps msk s0 s) (hw : 116224 &&& msk = 116224) : Keeps msk s0 (s.wipeDies m n) := by
  refine keeps_lift hk hw ?_
  unfold State.wipeDies
  simp (maxDischargeDepth := 99)

@[simp ↓] theorem startServers_keeps {msk : Nat} {s0 s : State} (hk : Keeps msk s0 s) (hw : 2213600 &&& msk = 2213600) : Keeps msk s0 s.startServers := by
  refine keeps_lift hk hw ?_
  unfold State.startServers
  exact keeps_foldl _ _ (keeps_refl _ _) (fun t y => by (try dsimp only); (repeat' split) <;> simp (maxDischargeDepth := 99))

@[simp ↓] theorem wipeServers_keeps {msk : Nat} {s0 s : State} (hk : Keeps msk s0 s) (hw : 116224 &&& msk = 116224) : Keeps msk s0 s.wipeServers := by
  refine keeps_lift hk hw ?_
  unfold State.wipeServers
  exact keeps_foldl _ _ (keeps_refl _ _) (fun t y => by (try dsimp only); (repeat' split) <;> simp (maxDischargeDepth := 99))

@[simp ↓] theorem restartOverlays_keeps {msk : Nat} {s0 s : State} (hk : Keeps msk s0 s) (hw : 16384 &&& msk = 16384) : Keeps msk s0 s.restartOverlays := by
  refine keeps_lift hk hw ?_
  unfold State.restartOverlays
  exact keeps_foldl _ _ (keeps_refl _ _) (fun t y => by (try dsimp only); (repeat' split) <;> simp (maxDischargeDepth := 99))

@[simp ↓] theorem alarmFromWatch_keeps {msk : Nat} {s0 s : State} (hk : Keeps msk s0 s) (hw : 2876640 &&& msk = 2876640) : Keeps msk s0 s.alarmFromWatch := by
  refine keeps_lift hk hw ?_
  unfold State.alarmFromWatch
  simp (maxDischargeDepth := 99)

@[simp ↓] theorem alarmFromMaintain_keeps {msk : Nat} {s0 s : State} (hk : Keeps msk s0 s) (hw : 189523680 &&& msk = 189523680) : Keeps msk s0 s.alarmFromMaintain := by
  refine keeps_lift hk hw ?_
  unfold State.alarmFromMaintain
  simp (maxDischargeDepth := 99)

@[simp ↓] theorem spoilModeSets_keeps {msk : Nat} {s0 s : State} (hk : Keeps msk s0 s) (hw : 32 &&& msk = 32) : Keeps msk s0 s.spoilModeSets := by
  refine keeps_lift hk hw ?_
  unfold State.spoilModeSets
  simp (maxDischargeDepth := 99)

@[simp ↓] theorem alarmFromRun_keeps {msk : Nat} {s0 s : State} (hk : Keeps msk s0 s) (hw : 4194528 &&& msk = 4194528) : Keeps msk s0 s.alarmFromRun := by
  refine keeps_lift hk hw ?_
  unfold State.alarmFromRun
  simp (maxDischargeDepth := 99)

@[simp ↓] theorem alarmOnset_keeps {msk : Nat} {s0 s : State} (hk : Keeps msk s0 s) (hw : 191620832 &&& msk = 191620832) : Keeps msk s0 s.alarmOnset := by
  refine keeps_lift hk hw ?_
  unfold State.alarmOnset
  dsimp only
  (repeat' split) <;> simp (maxDischargeDepth := 99)

@[simp ↓] theorem alarmChanged_keeps {msk : Nat} {s0 s : State} (hk : Keeps msk s0 s) (hw : 191620832 &&& msk = 191620832) : Keeps msk s0 s.alarmChanged := by
  refine keeps_lift hk hw ?_
  unfold State.alarmChanged
  simp (maxDischargeDepth := 99)

@[simp ↓] theorem planRestore_keeps {msk : Nat} {s0 s : State} (hk : Keeps msk s0 s) (hw : 2097280 &&& msk = 2097280) : Keeps msk s0 s.planRestore := by
  refine keeps_lift hk hw ?_
  unfold State.planRestore
  simp (maxDischargeDepth := 99)

@[simp ↓] theorem alarmEnds_keeps {msk : Nat} {s0 s : State} (hk : Keeps msk s0 s) (hw : 2770144 &&& msk = 2770144) : Keeps msk s0 s.alarmEnds := by
  refine keeps_lift hk hw ?_
  unfold State.alarmEnds
  (repeat' split) <;> simp (maxDischargeDepth := 99)

@[simp ↓] theorem setAlm_keeps {msk : Nat} {s0 s : State} (m : Mast) (a : AlarmMast) (hk : Keeps msk s0 s) (hw : 8388608 &&& msk = 8388608) : Keeps msk s0 (s.setAlm m a) := by
  refine keeps_lift hk hw ?_
  unfold State.setAlm
  simp (maxDischargeDepth := 99)

@[simp ↓] theorem setAlarmIn_keeps {msk : Nat} {s0 s : State} (m : Mast) (i : Nat) (x : AlarmInput) (hk : Keeps msk s0 s) (hw : 8388608 &&& msk = 8388608) : Keeps msk s0 (s.setAlarmIn m i x) := by
  refine keeps_lift hk hw ?_
  unfold State.setAlarmIn
  simp (maxDischargeDepth := 99)

@[simp ↓] theorem followFallback_keeps {msk : Nat} {s0 s : State} (m : Mast) (hk : Keeps msk s0 s) (hw : 8388608 &&& msk = 8388608) : Keeps msk s0 (s.followFallback m) := by
  refine keeps_lift hk hw ?_
  unfold State.followFallback
  simp (maxDischargeDepth := 99)

@[simp ↓] theorem assignAlarm_keeps {msk : Nat} {s0 s : State} (ms : List Mast) (c : Assigned) (hk : Keeps msk s0 s) (hw : 8388608 &&& msk = 8388608) : Keeps msk s0 (s.assignAlarm ms c) := by
  refine keeps_lift hk hw ?_
  unfold State.assignAlarm
  exact keeps_foldl _ _ (keeps_refl _ _) (fun t y => by (try dsimp only); (repeat' split) <;> simp (maxDischargeDepth := 99))

@[simp ↓] theorem actAlarm_keeps {msk : Nat} {s0 s : State} (m : Mast) (i st : Nat) (hk : Keeps msk s0 s) (hw : 25182208 &&& msk = 25182208) : Keeps msk s0 (s.actAlarm m i st) := by
  refine keeps_lift hk hw ?_
  unfold State.actAlarm
  dsimp only
  (repeat' split) <;> simp (maxDischargeDepth := 99)

@[simp ↓] theorem actAssigned_keeps {msk : Nat} {s0 s : State} (m : Mast) (n : Nat) (hk : Keeps msk s0 s) (hw : 25182208 &&& msk = 25182208) : Keeps msk s0 (s.actAssigned m n) := by
  refine keeps_lift hk hw ?_
  unfold State.actAssigned
  exact keeps_foldl _ _ (by simp (maxDischargeDepth := 99)) (fun t y => by simp (maxDischargeDepth := 99))

theorem atStep_keeps {msk : Nat} {s0 s : State} (n : Nat) (f : State → State) (hk : Keeps msk s0 s) (hw : 4 &&& msk = 4)
    (hf : ∀ t, Keeps msk t (f t)) : Keeps msk s0 (s.atStep n f) := by
  have hx : ∀ (x : State) (n : Nat), Keeps msk x { x with step := n } := fun x n => keeps_lift (keeps_refl _ _) hw (by simp (maxDischargeDepth := 99))
  unfold State.atStep
  exact keeps_trans hk (keeps_trans (hx _ _) (keeps_trans (hf _) (hx _ _)))

theorem triggeredBy_keeps {msk : Nat} {s0 s : State} (t : Nat) (f : State → State) (hk : Keeps msk s0 s) (hw : 128 &&& msk = 128)
    (hf : ∀ t, Keeps msk t (f t)) : Keeps msk s0 (s.triggeredBy t f) := by
  have h : ∀ (x : State) (v : ModeState), Keeps msk x { x with md := v } := fun x v => keeps_lift (keeps_refl _ _) hw (by simp (maxDischargeDepth := 99))
  unfold State.triggeredBy
  exact keeps_trans hk (keeps_trans (h _ _) (keeps_trans (hf _) (h _ _)))

@[simp ↓] theorem ownAlarms_keeps {msk : Nat} {s0 s : State} (m : Mast) (n : Nat) (hk : Keeps msk s0 s) (hw : 8388608 &&& msk = 8388608) : Keeps msk s0 (s.ownAlarms m n) := by
  refine keeps_lift hk hw ?_
  unfold State.ownAlarms
  split
  · simp (maxDischargeDepth := 99)
  · exact keeps_foldl _ _ (keeps_refl _ _) (fun t y => by split <;> simp (maxDischargeDepth := 99))

@[simp ↓] theorem alarmActions_keeps {msk : Nat} {s0 s : State} (n : Nat) (hk : Keeps msk s0 s) (hw : 200009444 &&& msk = 200009444) : Keeps msk s0 (s.alarmActions n) := by
  refine keeps_lift hk hw ?_
  unfold State.alarmActions
  dsimp only
  split
  · exact atStep_keeps _ _ (by simp (maxDischargeDepth := 99)) rfl (fun t => triggeredBy_keeps _ _ (keeps_refl _ _) rfl (fun u => by simp (maxDischargeDepth := 99)))
  · simp (maxDischargeDepth := 99)

@[simp ↓] theorem primaryAlarms_keeps {msk : Nat} {s0 s : State} (xs : List Assigned) (hk : Keeps msk s0 s) (hw : 8388608 &&& msk = 8388608) : Keeps msk s0 (s.primaryAlarms xs) := by
  refine keeps_lift hk hw ?_
  unfold State.primaryAlarms
  split
  · exact keeps_foldl _ _ (keeps_refl _ _) (fun t y => by simp (maxDischargeDepth := 99))
  · simp (maxDischargeDepth := 99)

@[simp ↓] theorem applyAlarmActivate_keeps {msk : Nat} {s0 s : State} (c : SchedCmd) (ms : List Mast) (hk : Keeps msk s0 s) (hw : 191620832 &&& msk = 191620832) : Keeps msk s0 (s.applyAlarmActivate c ms).1 := by
  refine keeps_lift hk hw ?_
  unfold State.applyAlarmActivate
  simp (maxDischargeDepth := 99)

@[simp ↓] theorem applyAlarmClear_keeps {msk : Nat} {s0 s : State} (c : SchedCmd) (ms : List Mast) (hk : Keeps msk s0 s) (hw : 191620832 &&& msk = 191620832) : Keeps msk s0 (s.applyAlarmClear c ms).1 := by
  refine keeps_lift hk hw ?_
  unfold State.applyAlarmClear
  exact alarmChanged_keeps (keeps_foldl _ _ (keeps_refl _ _) (fun t y => by simp (maxDischargeDepth := 99))) rfl

@[simp ↓] theorem setMessage_keeps {msk : Nat} {s0 s : State} (i : Nat) (x : Message) (hk : Keeps msk s0 s) (hw : 16777216 &&& msk = 16777216) : Keeps msk s0 (s.setMessage i x) := by
  refine keeps_lift hk hw ?_
  unfold State.setMessage
  simp (maxDischargeDepth := 99)

@[simp ↓] theorem loadMessage_keeps {msk : Nat} {s0 s : State} (seat : Nat) (p : List Byte) (hk : Keeps msk s0 s) (hw : 16777248 &&& msk = 16777248) : Keeps msk s0 (s.loadMessage seat p).1 := by
  refine keeps_lift hk hw ?_
  unfold State.loadMessage
  simp (maxDischargeDepth := 99)

@[simp ↓] theorem storeFailure_keeps {msk : Nat} {s0 s : State} (m : Mast) (msg chunk : Nat) (both : Bool) (hk : Keeps msk s0 s) (hw : 268429280 &&& msk = 268429280) : Keeps msk s0 (s.storeFailure m msg chunk both) := by
  refine keeps_lift hk hw ?_
  unfold State.storeFailure
  simp (maxDischargeDepth := 99)

theorem grant_banks (x : MemMast) (t : BusTarget) (ms : List BusMaster) : (x.grant t ms).banks = x.banks := by
  unfold MemMast.grant; (repeat' split) <;> rfl

@[simp ↓] theorem grantBurst_keeps {msk : Nat} {s0 s : State} (m : Mast) (x : BusMaster) (write : Bool) (b : BusBurst) (hk : Keeps msk s0 s) (hw : 4194304 &&& msk = 4194304) : Keeps msk s0 (s.grantBurst m x write b) := by
  refine keeps_lift hk hw ?_
  unfold State.grantBurst
  split
  · split
    · exact setMem_keeps _ _ (keeps_refl _ _) rfl (grant_banks _ _ _)
    · simp (maxDischargeDepth := 99)
  · simp (maxDischargeDepth := 99)

@[simp ↓] theorem wipeBank_keeps {msk : Nat} {s0 s : State} (m : Mast) (i : Nat) (hk : Keeps msk s0 s) (hw : 1536 &&& msk = 1536) : Keeps msk s0 (s.wipeBank m i) := by
  refine keeps_lift hk hw ?_
  unfold State.wipeBank
  simp (maxDischargeDepth := 99)

@[simp ↓] theorem startHandover_keeps {msk : Nat} {s0 s : State} (h : Hdr) (seat : Nat) (p : List Byte) (hk : Keeps msk s0 s) (hw : 67108864 &&& msk = 67108864) : Keeps msk s0 (s.startHandover h seat p) := by
  refine keeps_lift hk hw ?_
  unfold State.startHandover
  simp (maxDischargeDepth := 99)

@[simp ↓] theorem bankFetch_keeps {msk : Nat} {s0 s : State} (p : List Byte) (hk : Keeps msk s0 s) (hw : 4194304 &&& msk = 4194304) : Keeps msk s0 (s.bankFetch p) := by
  refine keeps_lift hk hw ?_
  unfold State.bankFetch
  exact keeps_foldl _ _ (keeps_refl _ _) (fun t y => by (try dsimp only); (repeat' split) <;> simp (maxDischargeDepth := 99))

@[simp ↓] theorem bankBeat_keeps {msk : Nat} {s0 s : State} (m : Mast) (n off : Nat) (vs : List Byte) (beat : Nat) (hk : Keeps msk s0 s) (hw : 4194304 &&& msk = 4194304) : Keeps msk s0 (s.bankBeat m n off vs beat) := by
  refine keeps_lift hk hw ?_
  unfold State.bankBeat
  dsimp only
  split
  · exact setBank_keeps _ _ _ (keeps_refl _ _) rfl (fun h => cellsWrite_wf h _ _)
  · simp (maxDischargeDepth := 99)

@[simp ↓] theorem bankBurst_keeps {msk : Nat} {s0 s : State} (m : Mast) (n off : Nat) (vs : List Byte) (b : BusBurst) (hk : Keeps msk s0 s) (hw : 4194304 &&& msk = 4194304) : Keeps msk s0 (s.bankBurst m n off vs b) := by
  refine keeps_lift hk hw ?_
  unfold State.bankBurst
  exact keeps_foldl _ _ (by simp (maxDischargeDepth := 99)) (fun t y => by (try dsimp only); (repeat' split) <;> simp (maxDischargeDepth := 99))

@[simp ↓] theorem bankStore_keeps {msk : Nat} {s0 s : State} (p : List Byte) (hk : Keeps msk s0 s) (hw : 4194304 &&& msk = 4194304) : Keeps msk s0 (s.bankStore p) := by
  refine keeps_lift hk hw ?_
  unfold State.bankStore
  exact keeps_foldl _ _ (keeps_refl _ _) (fun t y => by (try dsimp only); (repeat' split) <;> simp (maxDischargeDepth := 99))

@[simp ↓] theorem startMarch_keeps {msk : Nat} {s0 s : State} (h : Hdr) (seat : Nat) (p : List Byte) (hk : Keeps msk s0 s) (hw : 4194304 &&& msk = 4194304) : Keeps msk s0 (s.startMarch h seat p) := by
  refine keeps_lift hk hw ?_
  unfold State.startMarch
  exact keeps_foldl _ _ (keeps_refl _ _) (fun t y => by (try dsimp only); (repeat' split) <;> simp (maxDischargeDepth := 99))

@[simp ↓] theorem marchWipe_keeps {msk : Nat} {s0 s : State} (m : Mast) (target index : Nat) (hk : Keeps msk s0 s) (hw : 4277760 &&& msk = 4277760) : Keeps msk s0 (s.marchWipe m target index) := by
  refine keeps_lift hk hw ?_
  unfold State.marchWipe
  split
  · exact setBank_keeps _ _ _ (wipeBank_keeps _ _ (keeps_refl _ _) rfl) rfl (fun h => rfl)
  · split <;> simp (maxDischargeDepth := 99)

@[simp ↓] theorem marchUnrepaired_keeps {msk : Nat} {s0 s : State} (m : Mast) (sites : List Nat) (hk : Keeps msk s0 s) (hw : 251652064 &&& msk = 251652064) : Keeps msk s0 (s.marchUnrepaired m sites) := by
  refine keeps_lift hk hw ?_
  unfold State.marchUnrepaired
  exact keeps_foldl _ _ (keeps_refl _ _) (fun t y => by (try dsimp only); (repeat' split) <;> simp (maxDischargeDepth := 99))

@[simp ↓] theorem setLoopback_keeps {msk : Nat} {s0 s : State} (h : Hdr) (seat : Nat) (m : Mast) (kind l : Nat) (hk : Keeps msk s0 s) (hw : 754784 &&& msk = 754784) : Keeps msk s0 (s.setLoopback h seat m kind l) := by
  refine keeps_lift hk hw ?_
  unfold State.setLoopback
  simp (maxDischargeDepth := 99)

@[simp ↓] theorem applyTestRoute_keeps {msk : Nat} {s0 s : State} (c : SchedCmd) (_ms : List Mast) (hk : Keeps msk s0 s) (hw : 134217728 &&& msk = 134217728) : Keeps msk s0 (s.applyTestRoute c _ms).1 := by
  refine keeps_lift hk hw ?_
  unfold State.applyTestRoute
  simp (maxDischargeDepth := 99)

@[simp ↓] theorem enterWatch_keeps {msk : Nat} {s0 s : State} (hk : Keeps msk s0 s) (hw : 33644768 &&& msk = 33644768) : Keeps msk s0 s.enterWatch := by
  refine keeps_lift hk hw ?_
  unfold State.enterWatch
  dsimp only
  (repeat' split) <;> simp (maxDischargeDepth := 99)

@[simp ↓] theorem enterMaintain_keeps {msk : Nat} {s0 s : State} (hk : Keeps msk s0 s) (hw : 4916960 &&& msk = 4916960) : Keeps msk s0 s.enterMaintain := by
  refine keeps_lift hk hw ?_
  unfold State.enterMaintain
  simp (maxDischargeDepth := 99)

@[simp ↓] theorem leaveMaintain_keeps {msk : Nat} {s0 s : State} (t : Mode) (hk : Keeps msk s0 s) (hw : 139192032 &&& msk = 139192032) : Keeps msk s0 (s.leaveMaintain t) := by
  refine keeps_lift hk hw ?_
  unfold State.leaveMaintain
  simp (maxDischargeDepth := 99)

@[simp ↓] theorem leaveWatch_keeps {msk : Nat} {s0 s : State} (t : Mode) (hk : Keeps msk s0 s) (hw : 2876640 &&& msk = 2876640) : Keeps msk s0 (s.leaveWatch t) := by
  refine keeps_lift hk hw ?_
  unfold State.leaveWatch
  (repeat' split) <;> simp (maxDischargeDepth := 99)

@[simp ↓] theorem changeMode_keeps {msk : Nat} {s0 s : State} (t : Mode) (hk : Keeps msk s0 s) (hw : 174843616 &&& msk = 174843616) : Keeps msk s0 (s.changeMode t) := by
  refine keeps_lift hk hw ?_
  unfold State.changeMode
  (repeat' split) <;> simp (maxDischargeDepth := 99)

@[simp ↓] theorem modeRefused_keeps {msk : Nat} {s0 s : State} (c : SchedCmd) (hk : Keeps msk s0 s) (hw : 96 &&& msk = 96) : Keeps msk s0 (s.modeRefused c) := by
  refine keeps_lift hk hw ?_
  unfold State.modeRefused
  simp (maxDischargeDepth := 99)

@[simp ↓] theorem applyModeSet_keeps {msk : Nat} {s0 s : State} (c : SchedCmd) (_ms : List Mast) (hk : Keeps msk s0 s) (hw : 174843616 &&& msk = 174843616) : Keeps msk s0 (s.applyModeSet c _ms).1 := by
  refine keeps_lift hk hw ?_
  unfold State.applyModeSet
  (repeat' split) <;> simp (maxDischargeDepth := 99)

@[simp ↓] theorem askedReset_keeps {msk : Nat} {s0 s : State} (m : Mast) (kind : Nat) (hk : Keeps msk s0 s) (hw : 251652064 &&& msk = 251652064) : Keeps msk s0 (s.askedReset m kind) := by
  refine keeps_lift hk hw ?_
  unfold State.askedReset
  simp (maxDischargeDepth := 99)

@[simp ↓] theorem applyReset_keeps {msk : Nat} {s0 s : State} (c : SchedCmd) (_ms : List Mast) (hk : Keeps msk s0 s) (hw : 268435424 &&& msk = 268435424) : Keeps msk s0 (s.applyReset c _ms).1 := by
  refine keeps_lift hk hw ?_
  unfold State.applyReset
  dsimp only
  (repeat' split) <;> simp (maxDischargeDepth := 99)

@[simp ↓] theorem setWaits_keeps {msk : Nat} {s0 s : State} (m : Mast) (v : Bool) (hk : Keeps msk s0 s) (hw : 256 &&& msk = 256) : Keeps msk s0 (s.setWaits m v) := by
  refine keeps_lift hk hw ?_
  unfold State.setWaits
  simp (maxDischargeDepth := 99)

@[simp ↓] theorem beginJoin_keeps {msk : Nat} {s0 s : State} (m : Mast) (preload : Bool) (attempts : Nat) (hk : Keeps msk s0 s) (hw : 689504 &&& msk = 689504) : Keeps msk s0 (s.beginJoin m preload attempts) := by
  refine keeps_lift hk hw ?_
  unfold State.beginJoin
  simp (maxDischargeDepth := 99)

@[simp ↓] theorem enterJoining_keeps {msk : Nat} {s0 s : State} (m : Mast) (preload : Bool) (hk : Keeps msk s0 s) (hw : 251652064 &&& msk = 251652064) : Keeps msk s0 (s.enterJoining m preload) := by
  refine keeps_lift hk hw ?_
  unfold State.enterJoining
  simp (maxDischargeDepth := 99)

@[simp ↓] theorem joinIfAble_keeps {msk : Nat} {s0 s : State} (m : Mast) (preload : Bool) (hk : Keeps msk s0 s) (hw : 251652064 &&& msk = 251652064) : Keeps msk s0 (s.joinIfAble m preload) := by
  refine keeps_lift hk hw ?_
  unfold State.joinIfAble
  simp (maxDischargeDepth := 99)

@[simp ↓] theorem rejoinFit_keeps {msk : Nat} {s0 s : State} (m : Mast) (hk : Keeps msk s0 s) (hw : 251652064 &&& msk = 251652064) : Keeps msk s0 (s.rejoinFit m) := by
  refine keeps_lift hk hw ?_
  unfold State.rejoinFit
  simp (maxDischargeDepth := 99)

@[simp ↓] theorem installSeat_keeps {msk : Nat} {s0 s : State} (items : List SeatItem) (n : Nat) (hk : Keeps msk s0 s) (hw : 96 &&& msk = 96) : Keeps msk s0 (s.installSeat items n) := by
  refine keeps_lift hk hw ?_
  unfold State.installSeat
  dsimp only
  split
  · split
    · exact setSeat_keeps _ _ (keeps_refl _ _) rfl id
    · exact setSeat_keeps _ _ (closeWhere_keeps _ _ (keeps_refl _ _) rfl) rfl (fun w => by simp [SeatState.restart])
  · split
    · simp (maxDischargeDepth := 99)
    · exact setSeat_keeps _ _ (closeWhere_keeps _ _ (keeps_refl _ _) rfl) rfl (fun w => by simp [SeatState.none])

@[simp ↓] theorem installSeats_keeps {msk : Nat} {s0 s : State} (p : Option Profile) (hk : Keeps msk s0 s) (hw : 96 &&& msk = 96) : Keeps msk s0 (s.installSeats p) := by
  refine keeps_lift hk hw ?_
  unfold State.installSeats
  exact keeps_foldl _ _ (keeps_refl _ _) (fun t y => by (try dsimp only); (repeat' split) <;> simp (maxDischargeDepth := 99))

@[simp ↓] theorem setBoot_keeps {msk : Nat} {s0 s : State} (m : Mast) (b : BootState) (hk : Keeps msk s0 s) (hw : 128 &&& msk = 128) : Keeps msk s0 (s.setBoot m b) := by
  refine keeps_lift hk hw ?_
  unfold State.setBoot
  simp (maxDischargeDepth := 99)

@[simp ↓] theorem losePower_keeps {msk : Nat} {s0 s : State} (hk : Keeps msk s0 s) (hw : 268435424 &&& msk = 268435424) : Keeps msk s0 s.losePower := by
  refine keeps_lift hk hw ?_
  have h : ∀ (x : Halyard) (b : Bool), HalKeeps x { x with seats := x.seats.map SeatState.restart, sessions := [], sched := [], loads := [], rampDefault := 5, rampDefaults := [], lockoutReport := b } :=
    fun x b => HalKeeps_map SeatState.restart rfl (by simp) (fun st => by simp [SeatState.restart])
  unfold State.losePower
  simp (maxDischargeDepth := 99) [h]

@[simp ↓] theorem railsGood_keeps {msk : Nat} {s0 s : State} (m : Mast) (hk : Keeps msk s0 s) (hw : 2097152 &&& msk = 2097152) : Keeps msk s0 (s.railsGood m) := by
  refine keeps_lift hk hw ?_
  unfold State.railsGood
  simp (maxDischargeDepth := 99)

@[simp ↓] theorem holdReport_keeps {msk : Nat} {s0 s : State} (m : Mast) (src : Nat) (hk : Keeps msk s0 s) (hw : 512 &&& msk = 512) : Keeps msk s0 (s.holdReport m src) := by
  refine keeps_lift hk hw ?_
  unfold State.holdReport
  simp (maxDischargeDepth := 99)

@[simp ↓] theorem bootFail_keeps {msk : Nat} {s0 s : State} (m : Mast) (hk : Keeps msk s0 s) (hw : 251652064 &&& msk = 251652064) : Keeps msk s0 (s.bootFail m) := by
  refine keeps_lift hk hw ?_
  unfold State.bootFail
  simp (maxDischargeDepth := 99)

@[simp ↓] theorem phaseA_keeps {msk : Nat} {s0 s : State} (m : Mast) (f : BootFacts) (hk : Keeps msk s0 s) (hw : 4194944 &&& msk = 4194944) : Keeps msk s0 (s.phaseA m f) := by
  refine keeps_lift hk hw ?_
  have h : ∀ b : Bool, MemKeeps s.mem (s.mem.map (fun x => { x with repair := (x.repair.filter (fun r => r.inOtp)).map (fun r => { r with inNest := b }) })) :=
    fun b => MemKeeps_map _ (fun y hy => by rw [banksWf_of_banks]; exact hy; rfl)
  unfold State.phaseA
  dsimp only
  split
  · simp (maxDischargeDepth := 99)
  · split <;> simp (maxDischargeDepth := 99) [h]

@[simp ↓] theorem phaseTamper_keeps {msk : Nat} {s0 s : State} (hk : Keeps msk s0 s) (hw : 160 &&& msk = 160) : Keeps msk s0 s.phaseTamper := by
  refine keeps_lift hk hw ?_
  unfold State.phaseTamper
  simp (maxDischargeDepth := 99)

@[simp ↓] theorem phaseB_keeps {msk : Nat} {s0 s : State} (m : Mast) (hk : Keeps msk s0 s) (hw : 4194816 &&& msk = 4194816) : Keeps msk s0 (s.phaseB m) := by
  refine keeps_lift hk hw ?_
  unfold State.phaseB
  dsimp only
  split
  · exact holdReport_keeps _ _ (setMem_keeps _ _ (keeps_refl _ _) rfl rfl) rfl
  · exact setMem_keeps _ _ (keeps_refl _ _) rfl rfl

@[simp ↓] theorem bootRepair_keeps {msk : Nat} {s0 s : State} (m : Mast) (f : BootFacts) (hk : Keeps msk s0 s) (hw : 251652064 &&& msk = 251652064) : Keeps msk s0 (s.bootRepair m f).1 := by
  refine keeps_lift hk hw ?_
  unfold State.bootRepair
  dsimp only
  split
  · exact setMem_keeps _ _ (keeps_refl _ _) rfl (by simp)
  · exact keeps_foldl _ _ (setMem_keeps _ _ (keeps_refl _ _) rfl (by simp)) (fun t y => by simp (maxDischargeDepth := 99))

@[simp ↓] theorem bootUnits_keeps {msk : Nat} {s0 s : State} (m : Mast) (f : BootFacts) (hk : Keeps msk s0 s) (hw : 251652064 &&& msk = 251652064) : Keeps msk s0 (s.bootUnits m f) := by
  refine keeps_lift hk hw ?_
  unfold State.bootUnits
  exact keeps_foldl _ _ (keeps_refl _ _) (fun t y => by (try dsimp only); (repeat' split) <;> simp (maxDischargeDepth := 99))

@[simp ↓] theorem setFlash_keeps {msk : Nat} {s0 s : State} (m : Mast) (x : FlashState) (hk : Keeps msk s0 s) (hw : 4096 &&& msk = 4096) : Keeps msk s0 (s.setFlash m x) := by
  refine keeps_lift hk hw ?_
  unfold State.setFlash
  simp (maxDischargeDepth := 99)

@[simp ↓] theorem phaseD_keeps {msk : Nat} {s0 s : State} (m : Mast) (f : BootFacts) (hk : Keeps msk s0 s) (hw : 251656160 &&& msk = 251656160) : Keeps msk s0 (s.phaseD m f) := by
  refine keeps_lift hk hw ?_
  unfold State.phaseD
  dsimp only
  (repeat' split) <;> simp (maxDischargeDepth := 99)

@[simp ↓] theorem phaseE_keeps {msk : Nat} {s0 s : State} (m : Mast) (f : BootFacts) (hk : Keeps msk s0 s) (hw : 4224 &&& msk = 4224) : Keeps msk s0 (s.phaseE m f).1 := by
  refine keeps_lift hk hw ?_
  unfold State.phaseE
  (repeat' split) <;> simp (maxDischargeDepth := 99)

@[simp ↓] theorem resync_keeps {msk : Nat} {s0 s : State} (m : Mast) (hk : Keeps msk s0 s) (hw : 83875808 &&& msk = 83875808) : Keeps msk s0 (s.resync m) := by
  refine keeps_lift hk hw ?_
  unfold State.resync
  simp (maxDischargeDepth := 99)

@[simp ↓] theorem renumber_keeps {msk : Nat} {s0 s : State} (hk : Keeps msk s0 s) (hw : 8388740 &&& msk = 8388740) : Keeps msk s0 s.renumber := by
  refine keeps_lift hk hw ?_
  unfold State.renumber
  simp (maxDischargeDepth := 99)

@[simp ↓] theorem electMast_keeps {msk : Nat} {s0 s : State} (m : Mast) (hk : Keeps msk s0 s) (hw : 8392836 &&& msk = 8392836) : Keeps msk s0 (s.electMast m) := by
  refine keeps_lift hk hw ?_
  have h : ∀ (x : State) (a : ModeState) (b : Security), Keeps 8392836 x { x with md := a, sec := b } := fun x a b => by simp (maxDischargeDepth := 99)
  unfold State.electMast
  exact keeps_trans (renumber_keeps (by simp (maxDischargeDepth := 99)) rfl) (h _ _ _)

@[simp ↓] theorem phaseH_keeps {msk : Nat} {s0 s : State} (m : Mast) (hk : Keeps msk s0 s) (hw : 83875812 &&& msk = 83875812) : Keeps msk s0 (s.phaseH m) := by
  refine keeps_lift hk hw ?_
  unfold State.phaseH
  dsimp only
  split
  · split
    · exact electMast_keeps _ (by simp (maxDischargeDepth := 99)) rfl
    · simp (maxDischargeDepth := 99)
  · split
    · simp (maxDischargeDepth := 99)
    · split
      · exact electMast_keeps _ (by simp (maxDischargeDepth := 99)) rfl
      · split
        · simp (maxDischargeDepth := 99)
        · split <;> simp (maxDischargeDepth := 99)

@[simp ↓] theorem phaseHOther_keeps {msk : Nat} {s0 s : State} (m : Mast) (hk : Keeps msk s0 s) (hw : 83875808 &&& msk = 83875808) : Keeps msk s0 (s.phaseHOther m) := by
  refine keeps_lift hk hw ?_
  unfold State.phaseHOther
  simp (maxDischargeDepth := 99)

@[simp ↓] theorem powerDies_keeps {msk : Nat} {s0 s : State} (m : Mast) (hk : Keeps msk s0 s) (hw : 2097280 &&& msk = 2097280) : Keeps msk s0 (s.powerDies m) := by
  refine keeps_lift hk hw ?_
  unfold State.powerDies
  simp (maxDischargeDepth := 99)

@[simp ↓] theorem reloadVideoPll_keeps {msk : Nat} {s0 s : State} (m : Mast) (hk : Keeps msk s0 s) (hw : 524288 &&& msk = 524288) : Keeps msk s0 (s.reloadVideoPll m) := by
  refine keeps_lift hk hw ?_
  unfold State.reloadVideoPll
  simp (maxDischargeDepth := 99)

@[simp ↓] theorem startCheck_keeps {msk : Nat} {s0 s : State} (m : Mast) (hk : Keeps msk s0 s) (hw : 8388608 &&& msk = 8388608) : Keeps msk s0 (s.startCheck m) := by
  refine keeps_lift hk hw ?_
  unfold State.startCheck
  simp (maxDischargeDepth := 99)

@[simp ↓] theorem endDies_keeps {msk : Nat} {s0 s : State} (m : Mast) (hk : Keeps msk s0 s) (hw : 10600576 &&& msk = 10600576) : Keeps msk s0 (s.endDies m) := by
  refine keeps_lift hk hw ?_
  unfold State.endDies
  simp (maxDischargeDepth := 99)

@[simp ↓] theorem phaseJ_keeps {msk : Nat} {s0 s : State} (m : Mast) (hk : Keeps msk s0 s) (hw : 251652064 &&& msk = 251652064) : Keeps msk s0 (s.phaseJ m) := by
  refine keeps_lift hk hw ?_
  unfold State.phaseJ
  simp (maxDischargeDepth := 99)

@[simp ↓] theorem phaseShown_keeps {msk : Nat} {s0 s : State} (old : State) (m : Mast) (hk : Keeps msk s0 s) (hw : 64 &&& msk = 64) : Keeps msk s0 (s.phaseShown old m) := by
  refine keeps_lift hk hw ?_
  unfold State.phaseShown
  simp (maxDischargeDepth := 99)

@[simp ↓] theorem bootOver_keeps {msk : Nat} {s0 s : State} (m : Mast) (hk : Keeps msk s0 s) (hw : 128 &&& msk = 128) : Keeps msk s0 (s.bootOver m) := by
  refine keeps_lift hk hw ?_
  unfold State.bootOver
  simp (maxDischargeDepth := 99)

@[simp ↓] theorem profilePair_keeps {msk : Nat} {s0 s : State} (hk : Keeps msk s0 s) (hw : 256 &&& msk = 256) : Keeps msk s0 s.profilePair := by
  refine keeps_lift hk hw ?_
  unfold State.profilePair
  simp (maxDischargeDepth := 99)

@[simp ↓] theorem firstDies_keeps {msk : Nat} {s0 s : State} (m : Mast) (mode : Mode) (hk : Keeps msk s0 s) (hw : 2213600 &&& msk = 2213600) : Keeps msk s0 (s.firstDies m mode) := by
  refine keeps_lift hk hw ?_
  unfold State.firstDies
  simp (maxDischargeDepth := 99)

@[simp ↓] theorem runFrom_keeps {msk : Nat} {s0 s : State} (mode : Mode) (hk : Keeps msk s0 s) (hw : 9061600 &&& msk = 9061600) : Keeps msk s0 (s.runFrom mode) := by
  refine keeps_lift hk hw ?_
  unfold State.runFrom
  simp (maxDischargeDepth := 99)

@[simp ↓] theorem endBoot_keeps {msk : Nat} {s0 s : State} (m : Mast) (hk : Keeps msk s0 s) (hw : 251652064 &&& msk = 251652064) : Keeps msk s0 (s.endBoot m) := by
  refine keeps_lift hk hw ?_
  unfold State.endBoot
  simp (maxDischargeDepth := 99)

@[simp ↓] theorem resetQualifies_keeps {msk : Nat} {s0 s : State} (cycles : Nat) (hk : Keeps msk s0 s) (hw : 8 &&& msk = 8) : Keeps msk s0 (s.resetQualifies cycles).2 := by
  refine keeps_lift hk hw ?_
  unfold State.resetQualifies
  split
  · simp (maxDischargeDepth := 99)
  · split <;> simp (maxDischargeDepth := 99)

@[simp ↓] theorem sticky_keeps {msk : Nat} {s0 s : State} (t k : Nat) (hk : Keeps msk s0 s) (hw : 32 &&& msk = 32) : Keeps msk s0 (s.sticky t k) := by
  refine keeps_lift hk hw ?_
  have h : ∀ f : SeatState → SeatState, (∀ x, (f x).ledger = x.ledger ∧ (f x).cached = x.cached) →
      HalKeeps s.hal { s.hal with seats := s.hal.seats.map f } :=
    fun f hf => HalKeeps_map f rfl (Nat.le_refl _) (fun st => by simp [hf st])
  unfold State.sticky
  have := h (fun x => { x with stickyAudio := _, stickyVideo := _ }) (fun x => ⟨rfl, rfl⟩)
  simp (maxDischargeDepth := 99) [h]

@[simp ↓] theorem tbFault_keeps {msk : Nat} {s0 s : State} (m : Mast) (t ref audio video : Nat) (hk : Keeps msk s0 s) (hw : 251652064 &&& msk = 251652064) : Keeps msk s0 (s.tbFault m t ref audio video) := by
  refine keeps_lift hk hw ?_
  unfold State.tbFault
  simp (maxDischargeDepth := 99)

@[simp ↓] theorem putTb_keeps {msk : Nat} {s0 s : State} (m : Mast) (t : Nat) (x : Timebase) (hk : Keeps msk s0 s) (hw : 262144 &&& msk = 262144) : Keeps msk s0 (s.putTb m t x) := by
  refine keeps_lift hk hw ?_
  unfold State.putTb
  simp (maxDischargeDepth := 99)

@[simp ↓] theorem mirrorTb_keeps {msk : Nat} {s0 s : State} (m : Mast) (t : Nat) (hk : Keeps msk s0 s) (hw : 262144 &&& msk = 262144) : Keeps msk s0 (s.mirrorTb m t) := by
  refine keeps_lift hk hw ?_
  unfold State.mirrorTb
  simp (maxDischargeDepth := 99)

@[simp ↓] theorem changeTb_keeps {msk : Nat} {s0 s : State} (m : Mast) (t : Nat) (f : Timebase → Timebase) (hk : Keeps msk s0 s) (hw : 262144 &&& msk = 262144) : Keeps msk s0 (s.changeTb m t f) := by
  refine keeps_lift hk hw ?_
  unfold State.changeTb
  simp (maxDischargeDepth := 99)

@[simp ↓] theorem enterTb_keeps {msk : Nat} {s0 s : State} (m : Mast) (t : Nat) (st : TbSt) (hk : Keeps msk s0 s) (hw : 262240 &&& msk = 262240) : Keeps msk s0 (s.enterTb m t st) := by
  refine keeps_lift hk hw ?_
  unfold State.enterTb
  simp (maxDischargeDepth := 99)

@[simp ↓] theorem refChanged_keeps {msk : Nat} {s0 s : State} (m : Mast) (t : Nat) (from' to' : Option Nat) (cause : Nat) (hk : Keeps msk s0 s) (hw : 96 &&& msk = 96) : Keeps msk s0 (s.refChanged m t from' to' cause) := by
  refine keeps_lift hk hw ?_
  unfold State.refChanged
  simp (maxDischargeDepth := 99)

@[simp ↓] theorem acquire_keeps {msk : Nat} {s0 s : State} (m : Mast) (t i : Nat) (hk : Keeps msk s0 s) (hw : 262240 &&& msk = 262240) : Keeps msk s0 (s.acquire m t i) := by
  refine keeps_lift hk hw ?_
  unfold State.acquire
  simp (maxDischargeDepth := 99)

@[simp ↓] theorem loseRef_keeps {msk : Nat} {s0 s : State} (m : Mast) (t skip : Nat) (lost : Option Nat) (hk : Keeps msk s0 s) (hw : 251652064 &&& msk = 251652064) : Keeps msk s0 (s.loseRef m t skip lost) := by
  refine keeps_lift hk hw ?_
  unfold State.loseRef
  simp (maxDischargeDepth := 99)

@[simp ↓] theorem evaluate_keeps {msk : Nat} {s0 s : State} (m : Mast) (skip t : Nat) (hk : Keeps msk s0 s) (hw : 251652064 &&& msk = 251652064) : Keeps msk s0 (s.evaluate m skip t) := by
  refine keeps_lift hk hw ?_
  unfold State.evaluate
  dsimp only
  (repeat' split) <;> simp (maxDischargeDepth := 99)

@[simp ↓] theorem evaluateShadow_keeps {msk : Nat} {s0 s : State} (m : Mast) (t : Nat) (hk : Keeps msk s0 s) (hw : 262144 &&& msk = 262144) : Keeps msk s0 (s.evaluateShadow m t) := by
  refine keeps_lift hk hw ?_
  unfold State.evaluateShadow
  simp (maxDischargeDepth := 99)

@[simp ↓] theorem evaluateAll_keeps {msk : Nat} {s0 s : State} (m : Mast) (skip : Nat) (hk : Keeps msk s0 s) (hw : 251652064 &&& msk = 251652064) : Keeps msk s0 (s.evaluateAll m skip) := by
  refine keeps_lift hk hw ?_
  unfold State.evaluateAll
  exact keeps_foldl _ _ (keeps_refl _ _) (fun t y => by (try dsimp only); (repeat' split) <;> simp (maxDischargeDepth := 99))

@[simp ↓] theorem takeTiming_keeps {msk : Nat} {s0 s : State} (m : Mast) (hk : Keeps msk s0 s) (hw : 251652064 &&& msk = 251652064) : Keeps msk s0 (s.takeTiming m) := by
  refine keeps_lift hk hw ?_
  unfold State.takeTiming
  exact keeps_foldl _ _ (keeps_refl _ _) (fun t y => by (try dsimp only); (repeat' split) <;> simp (maxDischargeDepth := 99))

@[simp ↓] theorem setOut_keeps {msk : Nat} {s0 s : State} (m : Mast) (o : Nat) (x : XptOut) (hk : Keeps msk s0 s) (hw : 65536 &&& msk = 65536) : Keeps msk s0 (s.setOut m o x) := by
  refine keeps_lift hk hw ?_
  unfold State.setOut
  simp (maxDischargeDepth := 99)

@[simp ↓] theorem setInp_keeps {msk : Nat} {s0 s : State} (m : Mast) (i : Nat) (x : VideoIn) (hk : Keeps msk s0 s) (hw : 65536 &&& msk = 65536) : Keeps msk s0 (s.setInp m i x) := by
  refine keeps_lift hk hw ?_
  unfold State.setInp
  simp (maxDischargeDepth := 99)

@[simp ↓] theorem bumpOut_keeps {msk : Nat} {s0 s : State} (o k n : Nat) (hk : Keeps msk s0 s) (hw : 1024 &&& msk = 1024) : Keeps msk s0 (s.bumpOut o k n) := by
  refine keeps_lift hk hw ?_
  unfold State.bumpOut
  exact keeps_foldl _ _ (keeps_refl _ _) (fun t y => by (try dsimp only); (repeat' split) <;> simp (maxDischargeDepth := 99))

@[simp ↓] theorem markUnrepaired_keeps {msk : Nat} {s0 s : State} (m : Mast) (port ts : Nat) (hk : Keeps msk s0 s) (hw : 66656 &&& msk = 66656) : Keeps msk s0 (s.markUnrepaired m port ts) := by
  refine keeps_lift hk hw ?_
  unfold State.markUnrepaired
  simp (maxDischargeDepth := 99)

@[simp ↓] theorem changeJob_keeps {msk : Nat} {s0 s : State} (order : Nat) (f : XptJob → XptJob) (hk : Keeps msk s0 s) (hw : 33554432 &&& msk = 33554432) : Keeps msk s0 (s.changeJob order f) := by
  refine keeps_lift hk hw ?_
  unfold State.changeJob
  simp (maxDischargeDepth := 99)

@[simp ↓] theorem finishJobs_keeps {msk : Nat} {s0 s : State} (hk : Keeps msk s0 s) (hw : 33554528 &&& msk = 33554528) : Keeps msk s0 s.finishJobs := by
  refine keeps_lift hk hw ?_
  unfold State.finishJobs
  exact keeps_foldl _ _ (by simp (maxDischargeDepth := 99)) (fun t y => by simp (maxDischargeDepth := 99))

@[simp ↓] theorem stepSdiVideo_keeps {msk : Nat} {s0 s : State} (m : Mast) (n : Nat) (hk : Keeps msk s0 s) (hw : 65536 &&& msk = 65536) : Keeps msk s0 (s.stepSdiVideo m n) := by
  refine keeps_lift hk hw ?_
  unfold State.stepSdiVideo
  simp (maxDischargeDepth := 99)

@[simp ↓] theorem stepFlow_keeps {msk : Nat} {s0 s : State} (m : Mast) (n o : Nat) (t : FlowTx) (hk : Keeps msk s0 s) (hw : 196608 &&& msk = 196608) : Keeps msk s0 (s.stepFlow m n o t) := by
  refine keeps_lift hk hw ?_
  unfold State.stepFlow
  exact keeps_foldl _ _ (by simp (maxDischargeDepth := 99)) (fun t y => by (try dsimp only); (repeat' split) <;> simp (maxDischargeDepth := 99))

@[simp ↓] theorem stepVideo_keeps {msk : Nat} {s0 s : State} (m : Mast) (n : Nat) (hk : Keeps msk s0 s) (hw : 196608 &&& msk = 196608) : Keeps msk s0 (s.stepVideo m n) := by
  refine keeps_lift hk hw ?_
  unfold State.stepVideo
  exact keeps_foldl _ _ (keeps_refl _ _) (fun t y => by (try dsimp only); (repeat' split) <;> simp (maxDischargeDepth := 99))

@[simp ↓] theorem forwardVideo_keeps {msk : Nat} {s0 s : State} (m : Mast) (o typ : Nat) (r : RtpFacts) (row : VideoRow) (hk : Keeps msk s0 s) (hw : 196608 &&& msk = 196608) : Keeps msk s0 (s.forwardVideo m o typ r row) := by
  refine keeps_lift hk hw ?_
  unfold State.forwardVideo
  dsimp only
  (repeat' split) <;> simp (maxDischargeDepth := 99)

@[simp ↓] theorem placeEntry_keeps {msk : Nat} {s0 s : State} (o : Nat) (p : XptPending) (hk : Keeps msk s0 s) (hw : 33620064 &&& msk = 33620064) : Keeps msk s0 (s.placeEntry o p) := by
  refine keeps_lift hk hw ?_
  unfold State.placeEntry
  exact keeps_foldl _ _ (keeps_foldl _ _ (keeps_refl _ _) (fun t y => by simp (maxDischargeDepth := 99))) (fun t y => by simp (maxDischargeDepth := 99))

@[simp ↓] theorem placeSwitch_keeps {msk : Nat} {s0 s : State} (code seat hostSeq eff : Nat) (p : List Byte) (hk : Keeps msk s0 s) (hw : 33620064 &&& msk = 33620064) : Keeps msk s0 (s.placeSwitch code seat hostSeq eff p) := by
  refine keeps_lift hk hw ?_
  unfold State.placeSwitch
  exact keeps_foldl _ _ (by simp (maxDischargeDepth := 99)) (fun t y => by simp (maxDischargeDepth := 99))

@[simp ↓] theorem applyXpt_keeps {msk : Nat} {s0 s : State} (c : SchedCmd) (_ms : List Mast) (hk : Keeps msk s0 s) (hw : 0 &&& msk = 0) : Keeps msk s0 (s.applyXpt c _ms).1 := by
  refine keeps_lift hk hw ?_
  unfold State.applyXpt
  dsimp only
  (repeat' split) <;> simp (maxDischargeDepth := 99)

@[simp ↓] theorem applyFlowRx_keeps {msk : Nat} {s0 s : State} (c : SchedCmd) (ms : List Mast) (hk : Keeps msk s0 s) (hw : 66560 &&& msk = 66560) : Keeps msk s0 (s.applyFlowRx c ms).1 := by
  refine keeps_lift hk hw ?_
  unfold State.applyFlowRx
  dsimp only
  split
  · simp (maxDischargeDepth := 99)
  · exact keeps_foldl _ _ (keeps_refl _ _) (fun t y => by simp (maxDischargeDepth := 99))

@[simp ↓] theorem applyFlowTx_keeps {msk : Nat} {s0 s : State} (c : SchedCmd) (ms : List Mast) (hk : Keeps msk s0 s) (hw : 65536 &&& msk = 65536) : Keeps msk s0 (s.applyFlowTx c ms).1 := by
  refine keeps_lift hk hw ?_
  unfold State.applyFlowTx
  dsimp only
  split
  · simp (maxDischargeDepth := 99)
  · exact keeps_foldl _ _ (keeps_refl _ _) (fun t y => by simp (maxDischargeDepth := 99))

@[simp ↓] theorem videoSeq_keeps {msk : Nat} {s0 s : State} (m : Mast) (port : Nat) (r : RtpFacts) (hk : Keeps msk s0 s) (hw : 65536 &&& msk = 65536) : Keeps msk s0 (s.videoSeq m port r) := by
  refine keeps_lift hk hw ?_
  unfold State.videoSeq
  simp (maxDischargeDepth := 99)

@[simp ↓] theorem videoPacket_keeps {msk : Nat} {s0 s : State} (m : Mast) (x : FlowEntry) (r : RtpFacts) (row : VideoRow) (hk : Keeps msk s0 s) (hw : 196608 &&& msk = 196608) : Keeps msk s0 (s.videoPacket m x r row) := by
  refine keeps_lift hk hw ?_
  unfold State.videoPacket
  dsimp only
  split
  · simp (maxDischargeDepth := 99)
  · exact keeps_foldl _ _ (keeps_refl _ _) (fun t y => by simp (maxDischargeDepth := 99))

@[simp ↓] theorem setDecision_keeps {msk : Nat} {s0 s : State} (m : Mast) (o : Nat) (p : XptPending) (hk : Keeps msk s0 s) (hw : 65536 &&& msk = 65536) : Keeps msk s0 (s.setDecision m o p) := by
  refine keeps_lift hk hw ?_
  unfold State.setDecision
  simp (maxDischargeDepth := 99)

@[simp ↓] theorem realignDone_keeps {msk : Nat} {s0 s : State} (t : Nat) (offset : Int) (hk : Keeps msk s0 s) (hw : 1310816 &&& msk = 1310816) : Keeps msk s0 (s.realignDone t offset) := by
  refine keeps_lift hk hw ?_
  unfold State.realignDone
  simp (maxDischargeDepth := 99)

@[simp ↓] theorem applyRealign_keeps {msk : Nat} {s0 s : State} (c : SchedCmd) (_ms : List Mast) (hk : Keeps msk s0 s) (hw : 1310816 &&& msk = 1310816) : Keeps msk s0 (s.applyRealign c _ms).1 := by
  refine keeps_lift hk hw ?_
  unfold State.applyRealign
  dsimp only
  (repeat' split) <;> simp (maxDischargeDepth := 99)

@[simp ↓] theorem gridMoves_keeps {msk : Nat} {s0 s : State} (r : Realign) (hk : Keeps msk s0 s) (hw : 262144 &&& msk = 262144) : Keeps msk s0 (s.gridMoves r) := by
  refine keeps_lift hk hw ?_
  unfold State.gridMoves
  simp (maxDischargeDepth := 99)

@[simp ↓] theorem putCand_keeps {msk : Nat} {s0 s : State} (m : Mast) (i : Nat) (c : Cand) (hk : Keeps msk s0 s) (hw : 262144 &&& msk = 262144) : Keeps msk s0 (s.putCand m i c) := by
  refine keeps_lift hk hw ?_
  unfold State.putCand
  simp (maxDischargeDepth := 99)

@[simp ↓] theorem disqualifiedReport_keeps {msk : Nat} {s0 s : State} (m : Mast) (i : Nat) (hk : Keeps msk s0 s) (hw : 251652064 &&& msk = 251652064) : Keeps msk s0 (s.disqualifiedReport m i) := by
  refine keeps_lift hk hw ?_
  unfold State.disqualifiedReport
  split
  · exact keeps_foldl _ _ (keeps_refl _ _) (fun t y => by simp (maxDischargeDepth := 99))
  · simp (maxDischargeDepth := 99)

@[simp ↓] theorem barredStep_keeps {msk : Nat} {s0 s : State} (m : Mast) (i : Nat) (f : Cand → Cand) (hk : Keeps msk s0 s) (hw : 262144 &&& msk = 262144) : Keeps msk s0 (s.barredStep m i f) := by
  refine keeps_lift hk hw ?_
  unfold State.barredStep
  simp (maxDischargeDepth := 99)

@[simp ↓] theorem windowEnd_keeps {msk : Nat} {s0 s : State} (m : Mast) (w : WindowRow) (hk : Keeps msk s0 s) (hw : 251652064 &&& msk = 251652064) : Keeps msk s0 (s.windowEnd m w) := by
  refine keeps_lift hk hw ?_
  unfold State.windowEnd
  simp (maxDischargeDepth := 99)

@[simp ↓] theorem followFreq_keeps {msk : Nat} {s0 s : State} (m : Mast) (hk : Keeps msk s0 s) (hw : 262144 &&& msk = 262144) : Keeps msk s0 (s.followFreq m) := by
  refine keeps_lift hk hw ?_
  unfold State.followFreq
  exact keeps_foldl _ _ (keeps_refl _ _) (fun t y => by (try dsimp only); (repeat' split) <;> simp (maxDischargeDepth := 99))

@[simp ↓] theorem disagreements_keeps {msk : Nat} {s0 s : State} (m : Mast) (t : Nat) (rows : List Nat) (hk : Keeps msk s0 s) (hw : 262240 &&& msk = 262240) : Keeps msk s0 (s.disagreements m t rows) := by
  refine keeps_lift hk hw ?_
  unfold State.disagreements
  dsimp only
  split
  · simp (maxDischargeDepth := 99)
  · exact keeps_foldl _ _ (keeps_refl _ _) (fun t y => by (repeat' split) <;> simp (maxDischargeDepth := 99))

@[simp ↓] theorem absent_keeps {msk : Nat} {s0 s : State} (m : Mast) (i : Nat) (hk : Keeps msk s0 s) (hw : 251652064 &&& msk = 251652064) : Keeps msk s0 (s.absent m i) := by
  refine keeps_lift hk hw ?_
  unfold State.absent
  simp (maxDischargeDepth := 99)

@[simp ↓] theorem rtcFromTb_keeps {msk : Nat} {s0 s : State} (hk : Keeps msk s0 s) (hw : 262272 &&& msk = 262272) : Keeps msk s0 s.rtcFromTb := by
  refine keeps_lift hk hw ?_
  unfold State.rtcFromTb
  dsimp only
  (repeat' split) <;> simp (maxDischargeDepth := 99)

@[simp ↓] theorem windowWrite_keeps {msk : Nat} {s0 s : State} (m : Mast) (off v : Nat) (playHere recHere : Bool) (hk : Keeps msk s0 s) (hw : 64 &&& msk = 64) : Keeps msk s0 (s.windowWrite m off v playHere recHere) := by
  refine keeps_lift hk hw ?_
  unfold State.windowWrite
  simp (maxDischargeDepth := 99)

@[simp ↓] theorem engineReset_keeps {msk : Nat} {s0 s : State} (m : Mast) (t : Transport) (x : Transfer) (hk : Keeps msk s0 s) (hw : 1088 &&& msk = 1088) : Keeps msk s0 (s.engineReset m t x) := by
  refine keeps_lift hk hw ?_
  unfold State.engineReset
  (repeat' split) <;> simp (maxDischargeDepth := 99)

@[simp ↓] theorem returned_keeps {msk : Nat} {s0 s : State} (m : Mast) (bs : List Byte) (hk : Keeps msk s0 s) (hw : 64 &&& msk = 64) : Keeps msk s0 (s.returned m bs) := by
  refine keeps_lift hk hw ?_
  unfold State.returned
  simp (maxDischargeDepth := 99)

@[simp ↓] theorem setLink_keeps {msk : Nat} {s0 s : State} (m : Mast) (shroud : Bool) (x : LinkSeq) (hk : Keeps msk s0 s) (hw : 131072 &&& msk = 131072) : Keeps msk s0 (s.setLink m shroud x) := by
  refine keeps_lift hk hw ?_
  unfold State.setLink
  simp (maxDischargeDepth := 99)

@[simp ↓] theorem applyParams_keeps {msk : Nat} {s0 s : State} (c : SchedCmd) (ms : List Mast) (hk : Keeps msk s0 s) (hw : 16480 &&& msk = 16480) : Keeps msk s0 (s.applyParams c ms).1 := by
  refine keeps_lift hk hw ?_
  unfold State.applyParams
  (repeat' split) <;> simp (maxDischargeDepth := 99)

@[simp ↓] theorem defaultAccepted_keeps {msk : Nat} {s0 s : State} (eff ms : Nat) (hk : Keeps msk s0 s) (hw : 32 &&& msk = 32) : Keeps msk s0 (s.defaultAccepted eff ms) := by
  refine keeps_lift hk hw ?_
  unfold State.defaultAccepted
  simp (maxDischargeDepth := 99)

@[simp ↓] theorem setDom_keeps {msk : Nat} {s0 s : State} (m : Mast) (t : Nat) (d : PtpDom) (hk : Keeps msk s0 s) (hw : 1048576 &&& msk = 1048576) : Keeps msk s0 (s.setDom m t d) := by
  refine keeps_lift hk hw ?_
  unfold State.setDom
  simp (maxDischargeDepth := 99)

@[simp ↓] theorem masterChange_keeps {msk : Nat} {s0 s : State} (m : Mast) (t : Nat) (old : Int) (hk : Keeps msk s0 s) (hw : 1048576 &&& msk = 1048576) : Keeps msk s0 (s.masterChange m t old) := by
  refine keeps_lift hk hw ?_
  unfold State.masterChange
  dsimp only
  (repeat' split) <;> simp (maxDischargeDepth := 99)

@[simp ↓] theorem choosePath_keeps {msk : Nat} {s0 s : State} (m : Mast) (t : Nat) (hk : Keeps msk s0 s) (hw : 1048576 &&& msk = 1048576) : Keeps msk s0 (s.choosePath m t) := by
  refine keeps_lift hk hw ?_
  unfold State.choosePath
  simp (maxDischargeDepth := 99)

@[simp ↓] theorem paired_keeps {msk : Nat} {s0 s : State} (m : Mast) (t : Nat) (origin t2 : Int) (hk : Keeps msk s0 s) (hw : 1048576 &&& msk = 1048576) : Keeps msk s0 (s.paired m t origin t2) := by
  refine keeps_lift hk hw ?_
  unfold State.paired
  dsimp only
  (repeat' split) <;> simp (maxDischargeDepth := 99)

@[simp ↓] theorem ptpOn_keeps {msk : Nat} {s0 s : State} (m : Mast) (x : PtpMsg) (t : Nat) (hk : Keeps msk s0 s) (hw : 1049600 &&& msk = 1049600) : Keeps msk s0 (s.ptpOn m x t) := by
  refine keeps_lift hk hw ?_
  unfold State.ptpOn
  dsimp only
  (repeat' split) <;> simp (maxDischargeDepth := 99)

@[simp ↓] theorem ptpReturns_keeps {msk : Nat} {s0 s : State} (m : Mast) (t : Nat) (hk : Keeps msk s0 s) (hw : 1048576 &&& msk = 1048576) : Keeps msk s0 (s.ptpReturns m t) := by
  refine keeps_lift hk hw ?_
  unfold State.ptpReturns
  simp (maxDischargeDepth := 99)

@[simp ↓] theorem residence_keeps {msk : Nat} {s0 s : State} (hk : Keeps msk s0 s) (hw : 8 &&& msk = 8) : Keeps msk s0 s.residence.2 :=
  draw_keeps hk hw

@[simp ↓] theorem relay_keeps {msk : Nat} {s0 s : State} (m : Mast) (x : PtpMsg) (hk : Keeps msk s0 s) (hw : 1179656 &&& msk = 1179656) : Keeps msk s0 (s.relay m x) := by
  refine keeps_lift hk hw ?_
  have h : ∀ (b : Bool) (t : State), Keeps 1179656 t (if b then t.residence else (0, t)).2 := by intro b t; split <;> simp (maxDischargeDepth := 99)
  have h2 : ∀ (x : State) (v : Both PtpMast), Keeps 1179656 x { x with ptp := v } := fun x v => by simp (maxDischargeDepth := 99)
  unfold State.relay
  exact keeps_foldl _ _ (h2 _ _) (fun t y => offer_keeps _ _ _ _ (keeps_trans (h _ _) (h2 _ _)) rfl)

@[simp ↓] theorem jumpEnds_keeps {msk : Nat} {s0 s : State} (m : Mast) (t : Nat) (hk : Keeps msk s0 s) (hw : 1310720 &&& msk = 1310720) : Keeps msk s0 (s.jumpEnds m t) := by
  refine keeps_lift hk hw ?_
  unfold State.jumpEnds
  simp (maxDischargeDepth := 99)

@[simp ↓] theorem applySwap_keeps {msk : Nat} {s0 s : State} (_c : SchedCmd) (_ms : List Mast) (hk : Keeps msk s0 s) (hw : 256 &&& msk = 256) : Keeps msk s0 (s.applySwap _c _ms).1 := by
  refine keeps_lift hk hw ?_
  unfold State.applySwap
  (repeat' split) <;> simp (maxDischargeDepth := 99)

@[simp ↓] theorem take_keeps {msk : Nat} {s0 s : State} (m : Mast) (hk : Keeps msk s0 s) (hw : 251652064 &&& msk = 251652064) : Keeps msk s0 (s.take m) := by
  refine keeps_lift hk hw ?_
  unfold State.take
  simp (maxDischargeDepth := 99)

@[simp ↓] theorem settleRole_keeps {msk : Nat} {s0 s : State} (m : Mast) (hk : Keeps msk s0 s) (hw : 256 &&& msk = 256) : Keeps msk s0 (s.settleRole m) := by
  refine keeps_lift hk hw ?_
  unfold State.settleRole
  simp (maxDischargeDepth := 99)

@[simp ↓] theorem dualEnds_keeps {msk : Nat} {s0 s : State} (hk : Keeps msk s0 s) (hw : 352 &&& msk = 352) : Keeps msk s0 s.dualEnds := by
  refine keeps_lift hk hw ?_
  unfold State.dualEnds
  (repeat' split) <;> simp (maxDischargeDepth := 99)

@[simp ↓] theorem lostMast_keeps {msk : Nat} {s0 s : State} (m : Mast) (hk : Keeps msk s0 s) (hw : 83870176 &&& msk = 83870176) : Keeps msk s0 (s.lostMast m) := by
  refine keeps_lift hk hw ?_
  unfold State.lostMast
  simp (maxDischargeDepth := 99)

@[simp ↓] theorem abandonJoin_keeps {msk : Nat} {s0 s : State} (hk : Keeps msk s0 s) (hw : 352 &&& msk = 352) : Keeps msk s0 s.abandonJoin := by
  refine keeps_lift hk hw ?_
  unfold State.abandonJoin
  (repeat' split) <;> simp (maxDischargeDepth := 99)

@[simp ↓] theorem claimRole_keeps {msk : Nat} {s0 s : State} (m : Mast) (hk : Keeps msk s0 s) (hw : 256 &&& msk = 256) : Keeps msk s0 (s.claimRole m) := by
  refine keeps_lift hk hw ?_
  unfold State.claimRole
  simp (maxDischargeDepth := 99)

@[simp ↓] theorem loseStay_keeps {msk : Nat} {s0 s : State} (hk : Keeps msk s0 s) (hw : 229376 &&& msk = 229376) : Keeps msk s0 s.loseStay := by
  refine keeps_lift hk hw ?_
  unfold State.loseStay
  simp (maxDischargeDepth := 99)

@[simp ↓] theorem stayFalls_keeps {msk : Nat} {s0 s : State} (m : Mast) (hk : Keeps msk s0 s) (hw : 251652064 &&& msk = 251652064) : Keeps msk s0 (s.stayFalls m) := by
  refine keeps_lift hk hw ?_
  unfold State.stayFalls
  simp (maxDischargeDepth := 99)

@[simp ↓] theorem watchCopy_keeps {msk : Nat} {s0 s : State} (hk : Keeps msk s0 s) (hw : 256 &&& msk = 256) : Keeps msk s0 s.watchCopy := by
  refine keeps_lift hk hw ?_
  unfold State.watchCopy
  (repeat' split) <;> simp (maxDischargeDepth := 99)

@[simp ↓] theorem copyTo_keeps {msk : Nat} {s0 s : State} (m : Mast) (hk : Keeps msk s0 s) (hw : 8765568 &&& msk = 8765568) : Keeps msk s0 (s.copyTo m) := by
  refine keeps_lift hk hw ?_
  unfold State.copyTo
  simp (maxDischargeDepth := 99)

@[simp ↓] theorem joinNow_keeps {msk : Nat} {s0 s : State} (n : Nat) (hk : Keeps msk s0 s) (hw : 8765824 &&& msk = 8765824) : Keeps msk s0 (s.joinNow n) := by
  refine keeps_lift hk hw ?_
  unfold State.joinNow
  (repeat' split) <;> simp (maxDischargeDepth := 99)

@[simp ↓] theorem compareOn_keeps {msk : Nat} {s0 s : State} (m : Mast) (n : Nat) (hk : Keeps msk s0 s) (hw : 1280 &&& msk = 1280) : Keeps msk s0 (s.compareOn m n).1 := by
  refine keeps_lift hk hw ?_
  unfold State.compareOn
  exact keeps_foldl _ _ (keeps_foldl _ _ (by simp (maxDischargeDepth := 99)) (fun t y => by simp (maxDischargeDepth := 99))) (fun t y => by simp (maxDischargeDepth := 99))

@[simp ↓] theorem diverged_keeps {msk : Nat} {s0 s : State} (stoker : Mast) (n g : Nat) (hk : Keeps msk s0 s) (hw : 251652064 &&& msk = 251652064) : Keeps msk s0 (s.diverged stoker n g) := by
  refine keeps_lift hk hw ?_
  unfold State.diverged
  simp (maxDischargeDepth := 99)

@[simp ↓] theorem stepFailed_keeps {msk : Nat} {s0 s : State} (m : Mast) (g : Nat) (hk : Keeps msk s0 s) (hw : 251652064 &&& msk = 251652064) : Keeps msk s0 (s.stepFailed m g) := by
  refine keeps_lift hk hw ?_
  unfold State.stepFailed
  simp (maxDischargeDepth := 99)

@[simp ↓] theorem setPair_keeps {msk : Nat} {s0 s : State} (x : Pairing) (hk : Keeps msk s0 s) (hw : 256 &&& msk = 256) : Keeps msk s0 (s.setPair x) := by
  refine keeps_lift hk hw ?_
  unfold State.setPair
  simp (maxDischargeDepth := 99)

@[simp ↓] theorem suspend_keeps {msk : Nat} {s0 s : State} (hk : Keeps msk s0 s) (hw : 256 &&& msk = 256) : Keeps msk s0 s.suspend := by
  refine keeps_lift hk hw ?_
  unfold State.suspend
  simp (maxDischargeDepth := 99)

@[simp ↓] theorem suspendFor_keeps {msk : Nat} {s0 s : State} (reason : Nat) (hk : Keeps msk s0 s) (hw : 352 &&& msk = 352) : Keeps msk s0 (s.suspendFor reason) := by
  refine keeps_lift hk hw ?_
  unfold State.suspendFor
  simp (maxDischargeDepth := 99)

@[simp ↓] theorem resumeTracking_keeps {msk : Nat} {s0 s : State} (hk : Keeps msk s0 s) (hw : 256 &&& msk = 256) : Keeps msk s0 s.resumeTracking := by
  refine keeps_lift hk hw ?_
  unfold State.resumeTracking
  simp (maxDischargeDepth := 99)

@[simp ↓] theorem takeCopy_keeps {msk : Nat} {s0 s : State} (x : PrimaryState) (hk : Keeps msk s0 s) (hw : 8511712 &&& msk = 8511712) : Keeps msk s0 (s.takeCopy x) := by
  refine keeps_lift hk hw ?_
  have h1 : Keeps 8511712 s (s.servers.foldl (fun acc m =>
      let v := acc.vid.get m
      let a := acc.alm.get m
      { acc with
        dp := acc.dp.set m x.dp
        aud := acc.aud.set m ((acc.aud.get m).joinCopy x.aud)
        vid := acc.vid.set m { v with flows := x.vid.flows, outputs := x.vid.outputs, tx := x.vid.tx, idle := x.vid.idle }
        alm := acc.alm.set m { a with
          assigned := x.assigned
          inputs := (List.range 8).map (fun i => { acc.alarmIn m i with acted := atD x.acted i 0, solo := none }) } }) s) :=
    keeps_foldl _ _ (keeps_refl _ _) (fun t y => by simp (maxDischargeDepth := 99))
  have h2 : ∀ (y : State) (r : RigSlots) (v : ModeState), Keeps 8511712 y { y with rigs := r, md := v } := fun y r v => by simp (maxDischargeDepth := 99)
  unfold State.takeCopy
  dsimp only
  split
  · exact enterMode_keeps _ _ _ (keeps_trans h1 (h2 _ _ _)) rfl
  · exact keeps_trans h1 (h2 _ _ _)

@[simp ↓] theorem nameTakeover_keeps {msk : Nat} {s0 s : State} (cause : Nat) (hk : Keeps msk s0 s) (hw : 256 &&& msk = 256) : Keeps msk s0 (s.nameTakeover cause) := by
  refine keeps_lift hk hw ?_
  unfold State.nameTakeover
  simp (maxDischargeDepth := 99)

@[simp ↓] theorem loadImage_keeps {msk : Nat} {s0 s : State} (seat : Nat) (p : List Byte) (hk : Keeps msk s0 s) (hw : 4128 &&& msk = 4128) : Keeps msk s0 (s.loadImage seat p).1 := by
  refine keeps_lift hk hw ?_
  unfold State.loadImage
  simp (maxDischargeDepth := 99)

@[simp ↓] theorem startProfile_keeps {msk : Nat} {s0 s : State} (b : List Byte) (seat hostSeq : Nat) (hk : Keeps msk s0 s) (hw : 4096 &&& msk = 4096) : Keeps msk s0 (s.startProfile b seat hostSeq) := by
  refine keeps_lift hk hw ?_
  unfold State.startProfile
  simp (maxDischargeDepth := 99)

@[simp ↓] theorem applyStaged_keeps {msk : Nat} {s0 s : State} (seat hostSeq : Nat) (hk : Keeps msk s0 s) (hw : 4096 &&& msk = 4096) : Keeps msk s0 (s.applyStaged seat hostSeq) := by
  refine keeps_lift hk hw ?_
  unfold State.applyStaged
  (repeat' split) <;> simp (maxDischargeDepth := 99)

@[simp ↓] theorem startFirmware_keeps {msk : Nat} {s0 s : State} (seat hostSeq : Nat) (hk : Keeps msk s0 s) (hw : 4096 &&& msk = 4096) : Keeps msk s0 (s.startFirmware seat hostSeq) := by
  refine keeps_lift hk hw ?_
  unfold State.startFirmware
  (repeat' split) <;> simp (maxDischargeDepth := 99)

@[simp ↓] theorem recheckMessages_keeps {msk : Nat} {s0 s : State} (hk : Keeps msk s0 s) (hw : 16777216 &&& msk = 16777216) : Keeps msk s0 s.recheckMessages := by
  refine keeps_lift hk hw ?_
  unfold State.recheckMessages
  simp (maxDischargeDepth := 99)

@[simp ↓] theorem putKey_keeps {msk : Nat} {s0 s : State} (slot purpose key : Nat) (hk : Keeps msk s0 s) (hw : 16908416 &&& msk = 16908416) : Keeps msk s0 (s.putKey slot purpose key) := by
  refine keeps_lift hk hw ?_
  unfold State.putKey
  simp (maxDischargeDepth := 99)

@[simp ↓] theorem sendPlain_keeps {msk : Nat} {s0 s : State} (h : Hdr) (p : Packet) (hk : Keeps msk s0 s) (hw : 64 &&& msk = 64) : Keeps msk s0 (s.sendPlain h p) := by
  refine keeps_lift hk hw ?_
  unfold State.sendPlain
  simp (maxDischargeDepth := 99)

@[simp ↓] theorem openRefusal_keeps {msk : Nat} {s0 s : State} (h : Hdr) (status : Nat) (hk : Keeps msk s0 s) (hw : 64 &&& msk = 64) : Keeps msk s0 (s.openRefusal h status) := by
  refine keeps_lift hk hw ?_
  unfold State.openRefusal
  simp (maxDischargeDepth := 99)

@[simp ↓] theorem openSession_keeps {msk : Nat} {s0 s : State} (h : Hdr) (p : List Byte) (hk : Keeps msk s0 s) (hw : 104 &&& msk = 104) : Keeps msk s0 (s.openSession h p) := by
  refine keeps_lift hk hw ?_
  unfold State.openSession
  simp (maxDischargeDepth := 99)

@[simp ↓] theorem firstSession_keeps {msk : Nat} {s0 s : State} (seat : Nat) (hk : Keeps msk s0 s) (hw : 251652064 &&& msk = 251652064) : Keeps msk s0 (s.firstSession seat) := by
  refine keeps_lift hk hw ?_
  unfold State.firstSession
  dsimp only
  refine keeps_foldl _ _ (setFl_keeps _ _ (keeps_foldl _ _ (setFl_keeps _ _ ?_ rfl) (fun t y => by simp (maxDischargeDepth := 99))) rfl) (fun t y => by simp (maxDischargeDepth := 99))
  split <;> simp (maxDischargeDepth := 99)

@[simp ↓] theorem confirmRefusal_keeps {msk : Nat} {s0 s : State} (h : Hdr) (x : Session) (st : Nat) (hk : Keeps msk s0 s) (hw : 64 &&& msk = 64) : Keeps msk s0 (s.confirmRefusal h x st) := by
  refine keeps_lift hk hw ?_
  unfold State.confirmRefusal
  exact sendPlain_keeps _ _ (keeps_refl _ _) rfl

@[simp ↓] theorem ledgerRead_keeps {msk : Nat} {s0 s : State} (h : Hdr) (seat : Nat) (p : List Byte) (hk : Keeps msk s0 s) (hw : 96 &&& msk = 96) : Keeps msk s0 (s.ledgerRead h seat p) := by
  refine keeps_lift hk hw ?_
  unfold State.ledgerRead
  dsimp only
  split
  · simp (maxDischargeDepth := 99)
  · exact keeps_foldl _ _ (by simp (maxDischargeDepth := 99)) (fun t y => by simp (maxDischargeDepth := 99))

@[simp ↓] theorem serveStay_keeps {msk : Nat} {s0 s : State} (m : Mast) (hk : Keeps msk s0 s) (hw : 197728 &&& msk = 197728) : Keeps msk s0 (s.serveStay m) := by
  refine keeps_lift hk hw ?_
  unfold State.serveStay
  dsimp only
  split
  · simp (maxDischargeDepth := 99)
  · exact keeps_foldl _ _ (by simp (maxDischargeDepth := 99)) (fun t y => by simp (maxDischargeDepth := 99))

@[simp ↓] theorem stepFallback_keeps {msk : Nat} {s0 s : State} (m : Mast) (n : Nat) (hk : Keeps msk s0 s) (hw : 8388608 &&& msk = 8388608) : Keeps msk s0 (s.stepFallback m n) := by
  refine keeps_lift hk hw ?_
  unfold State.stepFallback
  simp (maxDischargeDepth := 99)

@[simp ↓] theorem stepAesOut_keeps {msk : Nat} {s0 s : State} (m : Mast) (n : Nat) (hk : Keeps msk s0 s) (hw : 32768 &&& msk = 32768) : Keeps msk s0 (s.stepAesOut m n) := by
  refine keeps_lift hk hw ?_
  unfold State.stepAesOut
  simp (maxDischargeDepth := 99)

@[simp ↓] theorem stepSdiOut_keeps {msk : Nat} {s0 s : State} (m : Mast) (n : Nat) (hk : Keeps msk s0 s) (hw : 32768 &&& msk = 32768) : Keeps msk s0 (s.stepSdiOut m n) := by
  refine keeps_lift hk hw ?_
  unfold State.stepSdiOut
  simp (maxDischargeDepth := 99)

@[simp ↓] theorem stepPins_keeps {msk : Nat} {s0 s : State} (m : Mast) (n : Nat) (hk : Keeps msk s0 s) (hw : 262144 &&& msk = 262144) : Keeps msk s0 (s.stepPins m n) := by
  refine keeps_lift hk hw ?_
  unfold State.stepPins
  simp (maxDischargeDepth := 99)

@[simp ↓] theorem applyAction_keeps {msk : Nat} {s0 s : State} (c : SchedCmd) (ms : List Mast) (hk : Keeps msk s0 s) (hw : 268435424 &&& msk = 268435424) : Keeps msk s0 (s.applyAction c ms).1 := by
  refine keeps_lift hk hw ?_
  unfold State.applyAction
  dsimp only
  (repeat' split) <;> simp (maxDischargeDepth := 99)

@[simp ↓] theorem settleDefault_keeps {msk : Nat} {s0 s : State} (c : SchedCmd) (hk : Keeps msk s0 s) (hw : 32 &&& msk = 32) : Keeps msk s0 (s.settleDefault c) := by
  refine keeps_lift hk hw ?_
  unfold State.settleDefault
  simp (maxDischargeDepth := 99)

@[simp ↓] theorem noteMissed_keeps {msk : Nat} {s0 s : State} (c : SchedCmd) (hk : Keeps msk s0 s) (hw : 256 &&& msk = 256) : Keeps msk s0 (s.noteMissed c) := by
  refine keeps_lift hk hw ?_
  unfold State.noteMissed
  simp (maxDischargeDepth := 99)

@[simp ↓] theorem takeSched_keeps {msk : Nat} {s0 s : State} (c : SchedCmd) (hk : Keeps msk s0 s) (hw : 352 &&& msk = 352) : Keeps msk s0 (s.takeSched c) := by
  refine keeps_lift hk hw ?_
  unfold State.takeSched
  simp (maxDischargeDepth := 99) [List.length_filter_le]

@[simp ↓] theorem applySched_keeps {msk : Nat} {s0 s : State} (c : SchedCmd) (hk : Keeps msk s0 s) (hw : 268435428 &&& msk = 268435428) : Keeps msk s0 (s.applySched c) := by
  refine keeps_lift hk hw ?_
  have h : ∀ t : State, Keeps 268435428 t (match t.recheck c with
      | some st => (t.undoAction c).dropSched c.answered st
      | none =>
        let r := (t.settleDefault c).applyAction c (t.appliers c.stokerHolds)
        if r.2 = stOk then r.1 else (r.1.undoAction c).dropSched c.answered r.2) := by
    intro t
    split
    · simp (maxDischargeDepth := 99)
    · dsimp only; split <;> simp (maxDischargeDepth := 99)
  unfold State.applySched
  exact atStep_keeps _ _ (by simp (maxDischargeDepth := 99)) rfl h

@[simp ↓] theorem applyDue_keeps {msk : Nat} {s0 s : State} (k : Nat) (hk : Keeps msk s0 s) (hw : 268435428 &&& msk = 268435428) :
    Keeps msk s0 (s.applyDue k) := by
  induction k generalizing s with
  | zero => exact hk
  | succ k ih =>
    unfold State.applyDue
    split
    · exact ih (applySched_keeps _ hk hw)
    · exact hk

@[simp ↓] theorem commitLate_keeps {msk : Nat} {s0 s : State} (m : Mast) (order eff : Nat) (hk : Keeps msk s0 s) (hw : 256 &&& msk = 256) : Keeps msk s0 (s.commitLate m order eff) := by
  refine keeps_lift hk hw ?_
  unfold State.commitLate
  simp (maxDischargeDepth := 99)

@[simp ↓] theorem commitTo_keeps {msk : Nat} {s0 s : State} (m : Mast) (c : SchedCmd) (hk : Keeps msk s0 s) (hw : 352 &&& msk = 352) : Keeps msk s0 (s.commitTo m c) := by
  refine keeps_lift hk hw ?_
  unfold State.commitTo
  simp (maxDischargeDepth := 99)

@[simp ↓] theorem preparePrimary_keeps {msk : Nat} {s0 s : State} (c : PrimaryCommand) (hk : Keeps msk s0 s) (hw : 33630304 &&& msk = 33630304) : Keeps msk s0 (s.preparePrimary c) := by
  refine keeps_lift hk hw ?_
  unfold State.preparePrimary
  split
  · cases c.plan <;> simp (maxDischargeDepth := 99)
  all_goals simp (maxDischargeDepth := 99)

theorem eventTo_sched (s : State) (a b c d e : Nat) (f : List Byte) : (s.eventTo a b c d e f).hal.sched = s.hal.sched := by
  have h := (eventTo_only s a b c d e f).rest
  rw [h]

theorem foldl_sched {α : Type} (f : State → α → State) (l : List α) (s : State) (hf : ∀ t a, (f t a).hal.sched = t.hal.sched) :
    (l.foldl f s).hal.sched = s.hal.sched := by
  induction l generalizing s with
  | nil => rfl
  | cons a l ih => rw [List.foldl_cons, ih, hf]

theorem placeEntry_sched (s : State) (o : Nat) (p : XptPending) : (s.placeEntry o p).hal.sched = s.hal.sched := by
  unfold State.placeEntry
  dsimp only
  rw [foldl_sched _ _ _ (fun t y => by rw [eventTo_sched]; rfl), foldl_sched _ _ _ (fun t y => by rfl)]

theorem placeSwitch_sched (s : State) (a b c d : Nat) (p : List Byte) : (s.placeSwitch a b c d p).hal.sched = s.hal.sched := by
  unfold State.placeSwitch
  dsimp only
  rw [foldl_sched _ _ _ (fun t y => placeEntry_sched _ _ _)]

theorem preparePrimary_sched (s : State) (c : PrimaryCommand) : (s.preparePrimary c).hal.sched = s.hal.sched := by
  unfold State.preparePrimary
  split
  · cases c.plan <;> rfl
  · rfl
  · exact placeSwitch_sched ..
  · exact placeSwitch_sched ..
  · rfl
  · rfl

@[simp ↓] theorem primaryCommand_keeps {msk : Nat} {s0 s : State} (c : PrimaryCommand) (hk : Keeps msk s0 s) (hw : 33630560 &&& msk = 33630560) : Keeps msk s0 (s.primaryCommand c) := by
  refine keeps_lift hk hw ?_
  unfold State.primaryCommand
  split
  · rename_i h
    simp only [Bool.and_eq_true, decide_eq_true_eq] at h
    exact waiting_keeps _ _ _ _ _ _ _ (by simp (maxDischargeDepth := 99)) rfl (by rw [preparePrimary_sched]; exact h.2)
  · exact keeps_foldl _ _ (keeps_refl _ _) (fun t y => by simp (maxDischargeDepth := 99))

@[simp ↓] theorem bumpSats_keeps {msk : Nat} {s0 s : State} (m : Mast) (k : Nat) (positions : List Nat) (hk : Keeps msk s0 s) (hw : 1024 &&& msk = 1024) : Keeps msk s0 (s.bumpSats m k positions) := by
  refine keeps_lift hk hw ?_
  unfold State.bumpSats
  exact keeps_foldl _ _ (keeps_refl _ _) (fun t y => by (try dsimp only); (repeat' split) <;> simp (maxDischargeDepth := 99))

@[simp ↓] theorem stepInputs_keeps {msk : Nat} {s0 s : State} (m : Mast) (n : Nat) (hk : Keeps msk s0 s) (hw : 50432 &&& msk = 50432) : Keeps msk s0 (s.stepInputs m n) := by
  refine keeps_lift hk hw ?_
  unfold State.stepInputs
  dsimp only
  refine setDp_keeps _ _ (keeps_foldl _ _ (setAud_keeps _ _ ?_ rfl) (fun t y => by simp (maxDischargeDepth := 99))) rfl
  split
  · simp (maxDischargeDepth := 99)
  · exact keeps_foldl _ _ (keeps_refl _ _) (fun t y => by simp (maxDischargeDepth := 99))

@[simp ↓] theorem readsUsed_keeps {msk : Nat} {s0 s : State} (m : Mast) (hk : Keeps msk s0 s) (hw : 4194304 &&& msk = 4194304) : Keeps msk s0 (s.readsUsed m) := by
  refine keeps_lift hk hw ?_
  unfold State.readsUsed
  simp (maxDischargeDepth := 99)

@[simp ↓] theorem stepRigs_keeps {msk : Nat} {s0 s : State} (m : Mast) (n : Nat) (hk : Keeps msk s0 s) (hw : 4211712 &&& msk = 4211712) : Keeps msk s0 (s.stepRigs m n).1 := by
  refine keeps_lift hk hw ?_
  unfold State.stepRigs
  dsimp only
  (repeat' split) <;> simp (maxDischargeDepth := 99)

@[simp ↓] theorem stepSide_keeps {msk : Nat} {s0 s : State} (m : Mast) (n : Nat) (hk : Keeps msk s0 s) (hw : 16384 &&& msk = 16384) : Keeps msk s0 (s.stepSide m n).1 := by
  refine keeps_lift hk hw ?_
  unfold State.stepSide
  simp (maxDischargeDepth := 99)

@[simp ↓] theorem stepOutputs_keeps {msk : Nat} {s0 s : State} (m : Mast) (n : Nat) (hk : Keeps msk s0 s) (hw : 4211712 &&& msk = 4211712) : Keeps msk s0 (s.stepOutputs m n) := by
  refine keeps_lift hk hw ?_
  unfold State.stepOutputs
  have hr : Keeps 4211712 s (s.stepRigs m n).1 := by simp (maxDischargeDepth := 99)
  have hq := keeps_trans hr (stepSide_keeps (msk := 4211712) m n (keeps_refl _ _) rfl)
  dsimp only
  exact setDp_keeps _ _ (keeps_foldl_fst _ _ _ hq (fun q y => by dsimp only; split <;> simp (maxDischargeDepth := 99))) rfl

@[simp ↓] theorem stepTests_keeps {msk : Nat} {s0 s : State} (m : Mast) (n : Nat) (hk : Keeps msk s0 s) (hw : 16384 &&& msk = 16384) : Keeps msk s0 (s.stepTests m n) := by
  refine keeps_lift hk hw ?_
  unfold State.stepTests
  simp (maxDischargeDepth := 99)

@[simp ↓] theorem offerStream_keeps {msk : Nat} {s0 s : State} (m : Mast) (x : TxStream) (hk : Keeps msk s0 s) (hw : 131072 &&& msk = 131072) : Keeps msk s0 (s.offerStream m x) := by
  refine keeps_lift hk hw ?_
  unfold State.offerStream
  simp (maxDischargeDepth := 99)

@[simp ↓] theorem stepSent_keeps {msk : Nat} {s0 s : State} (m : Mast) (n : Nat) (hk : Keeps msk s0 s) (hw : 163840 &&& msk = 163840) : Keeps msk s0 (s.stepSent m n) := by
  refine keeps_lift hk hw ?_
  unfold State.stepSent
  exact keeps_foldl _ _ (by simp (maxDischargeDepth := 99)) (fun t y => keeps_foldl _ _ (keeps_refl _ _) (fun u z => by simp (maxDischargeDepth := 99)))

@[simp ↓] theorem stepDigests_keeps {msk : Nat} {s0 s : State} (m : Mast) (n : Nat) (hk : Keeps msk s0 s) (hw : 256 &&& msk = 256) : Keeps msk s0 (s.stepDigests m n) := by
  refine keeps_lift hk hw ?_
  unfold State.stepDigests
  simp (maxDischargeDepth := 99)

@[simp ↓] theorem rebuild_keeps {msk : Nat} {s0 s : State} (m : Mast) (n : Nat) (hk : Keeps msk s0 s) (hw : 32768 &&& msk = 32768) : Keeps msk s0 (s.rebuild m n) := by
  refine keeps_lift hk hw ?_
  unfold State.rebuild
  simp (maxDischargeDepth := 99)

@[simp ↓] theorem regionLag_keeps {msk : Nat} {s0 s : State} (m : Mast) (g : Nat) (hk : Keeps msk s0 s) (hw : 251652064 &&& msk = 251652064) : Keeps msk s0 (s.regionLag m g) := by
  refine keeps_lift hk hw ?_
  unfold State.regionLag
  dsimp only
  (repeat' split) <;> simp (maxDischargeDepth := 99)

@[simp ↓] theorem routeLag_keeps {msk : Nat} {s0 s : State} (m : Mast) (n r : Nat) (hk : Keeps msk s0 s) (hw : 251652064 &&& msk = 251652064) : Keeps msk s0 (s.routeLag m n r) := by
  refine keeps_lift hk hw ?_
  unfold State.routeLag
  dsimp only
  (repeat' split) <;> simp (maxDischargeDepth := 99)

@[simp ↓] theorem stepLag_keeps {msk : Nat} {s0 s : State} (m : Mast) (n : Nat) (hk : Keeps msk s0 s) (hw : 251652064 &&& msk = 251652064) : Keeps msk s0 (s.stepLag m n) := by
  refine keeps_lift hk hw ?_
  unfold State.stepLag
  dsimp only
  split
  · exact keeps_foldl _ _ (keeps_foldl _ _ (keeps_refl _ _) (fun t y => by simp (maxDischargeDepth := 99))) (fun t y => by simp (maxDischargeDepth := 99))
  · exact keeps_foldl _ _ (keeps_refl _ _) (fun t y => by simp (maxDischargeDepth := 99))

@[simp ↓] theorem computeMast_keeps {msk : Nat} {s0 s : State} (m : Mast) (n : Nat) (hk : Keeps msk s0 s) (hw : 251652064 &&& msk = 251652064) : Keeps msk s0 (s.computeMast m n) := by
  refine keeps_lift hk hw ?_
  unfold State.computeMast
  simp (maxDischargeDepth := 99)

@[simp ↓] theorem pass_keeps {msk : Nat} {s0 s : State} (dt : Nat) (hk : Keeps msk s0 s) (hw : 130 &&& msk = 130) : Keeps msk s0 (s.pass dt) := by
  refine keeps_lift hk hw ?_
  unfold State.pass
  simp (maxDischargeDepth := 99)

@[simp ↓] theorem sendMgmt_keeps {msk : Nat} {s0 s : State} (m : Mast) (hk : Keeps msk s0 s) (hw : 64 &&& msk = 64) : Keeps msk s0 (s.sendMgmt m) := by
  refine keeps_lift hk hw ?_
  unfold State.sendMgmt
  dsimp only
  (repeat' split) <;> simp (maxDischargeDepth := 99)

@[simp ↓] theorem endFades_keeps {msk : Nat} {s0 s : State} (n : Nat) (hk : Keeps msk s0 s) (hw : 262272 &&& msk = 262272) : Keeps msk s0 (s.endFades n) := by
  refine keeps_lift hk hw ?_
  unfold State.endFades
  dsimp only
  (repeat' split) <;> simp (maxDischargeDepth := 99)

@[simp ↓] theorem restoreIfDue_keeps {msk : Nat} {s0 s : State} (hk : Keeps msk s0 s) (hw : 2097280 &&& msk = 2097280) : Keeps msk s0 s.restoreIfDue := by
  refine keeps_lift hk hw ?_
  unfold State.restoreIfDue
  simp (maxDischargeDepth := 99)

@[simp ↓] theorem sendDigests_keeps {msk : Nat} {s0 s : State} (hk : Keeps msk s0 s) (hw : 256 &&& msk = 256) : Keeps msk s0 s.sendDigests := by
  refine keeps_lift hk hw ?_
  unfold State.sendDigests
  (repeat' split) <;> simp (maxDischargeDepth := 99)

@[simp ↓] theorem beginStep_keeps {msk : Nat} {s0 s : State} (n : Nat) (frame : List Byte) (hk : Keeps msk s0 s) (hw : 268435430 &&& msk = 268435430) : Keeps msk s0 (s.beginStep n frame) := by
  refine keeps_lift hk hw ?_
  have h1 : Keeps 268435430 s ((((s.rejoinFit .a).rejoinFit .b).alarmActions n).joinNow n) := by simp (maxDischargeDepth := 99)
  have h2 : ∀ x : State, Keeps 268435430 x (if x.captain.isNone then x else x.applyDue x.hal.sched.length) := by
    intro x; split <;> simp (maxDischargeDepth := 99)
  have h3 : ∀ (x : State) (dt : Nat), Keeps 268435430 x (({ x with step := n } : State).pass dt) := fun x dt => by simp (maxDischargeDepth := 99)
  have h4 : ∀ x : State, Keeps 268435430 x ((x.watchCopy.dropDead .a).dropDead .b).alarmEnds.restoreIfDue.finishJobs.stopRings.resumeOtp := fun x => by simp (maxDischargeDepth := 99)
  have h5 : ∀ x : State, Keeps 268435430 x ((((x.followOverlay.stepPlayback n frame).computeMast .a n).computeMast .b n).stepFallback .a n) := fun x => by simp (maxDischargeDepth := 99)
  have g6 : ∀ x : State, Keeps 268435430 x (((((x.stepFallback .b n).followGroups .a).followGroups .b).stepPins .a n).stepPins .b n) := fun x => by simp (maxDischargeDepth := 99)
  have h6 : ∀ (x : State) (f : Nat → Int), Keeps 268435430 x (if x.computes x.lead then x.stepRecording n f else x) := by
    intro x f; split <;> simp (maxDischargeDepth := 99)
  have h7 : ∀ x : State, Keeps 268435430 x ((((x.stepEgress .a).stepEgress .b).serveStay .a).serveStay .b) := fun x => by simp (maxDischargeDepth := 99)
  have h8 : ∀ x : State, Keeps 268435430 x (((x.sendDigests.endFades n).sendMgmt .a).sendMgmt .b) := fun x => by simp (maxDischargeDepth := 99)
  unfold State.beginStep
  exact keeps_trans h1 (keeps_trans (h2 _) (keeps_trans (h3 _ _) (keeps_trans (h4 _) (keeps_trans (h5 _) (keeps_trans (g6 _)
    (keeps_trans (h6 _ _) (keeps_trans (h7 _) (h8 _))))))))


end Sys2Proof.Machine
end

