-- ==== Sys2Proof/Laws/Commands.lean ====
section
/-! SUPPORT. What each command keeps when `exec` gives a next state (see Sys2Proof.Laws.Keeps): one lemma per constructor of
Instr. -/
namespace Sys2Proof.Machine
open Sys2Proof Host

theorem execSessionOpen_keeps {res : State} (h : Hdr) (p : List Byte) (f : OpenFacts) (s : State) (hx : execSessionOpen h p f s = .next res) : Keeps 1128 s res := by
  unfold execSessionOpen at hx
  cases hx
  simp (maxDischargeDepth := 99)

theorem execSessionConfirm_keeps {res : State} (h : Hdr) (p : List Byte) (s : State) (hx : execSessionConfirm h p s = .next res) : Keeps 251652064 s res := by
  unfold execSessionConfirm at hx
  cases hx
  dsimp only; (repeat' split) <;> simp (maxDischargeDepth := 99)

theorem execSessionClose_keeps {res : State} (h : Hdr) (p : List Byte) (s : State) (hx : execSessionClose h p s = .next res) : Keeps 1120 s res := by
  unfold execSessionClose at hx
  cases hx
  refine receive_keeps _ _ _ (keeps_refl _ _) rfl (fun n t => ?_); (repeat' split) <;> simp (maxDischargeDepth := 99)

theorem execSessionStatus_keeps {res : State} (h : Hdr) (p : List Byte) (s : State) (hx : execSessionStatus h p s = .next res) : Keeps 1120 s res := by
  unfold execSessionStatus at hx
  cases hx
  refine receive_keeps _ _ _ (keeps_refl _ _) rfl (fun n t => ?_); exact runNow_keeps _ _ _ _ _ _ _ _ (keeps_refl _ _) rfl (by simp (maxDischargeDepth := 99))

theorem execSessionEvents_keeps {res : State} (h : Hdr) (p : List Byte) (s : State) (hx : execSessionEvents h p s = .next res) : Keeps 1120 s res := by
  unfold execSessionEvents at hx
  cases hx
  refine receive_keeps _ _ _ (keeps_refl _ _) rfl (fun n t => ?_)
  exact runNow_keeps _ _ _ _ _ _ _ _ (keeps_refl _ _) rfl (setSeat_keeps _ _ (keeps_refl _ _) rfl id)

theorem execLedgerRead_keeps {res : State} (h : Hdr) (p : List Byte) (s : State) (hx : execLedgerRead h p s = .next res) : Keeps 1120 s res := by
  unfold execLedgerRead at hx
  cases hx
  refine receive_keeps _ _ _ (keeps_refl _ _) rfl (fun n t => ?_)
  dsimp only
  split <;> simp (maxDischargeDepth := 99)

theorem execIdentGet_keeps {res : State} (h : Hdr) (p : List Byte) (s : State) (hx : execIdentGet h p s = .next res) : Keeps 1120 s res := by
  unfold execIdentGet at hx
  cases hx
  refine receive_keeps _ _ _ (keeps_refl _ _) rfl (fun n t => ?_); exact runNow_keeps _ _ _ _ _ _ _ _ (keeps_refl _ _) rfl (by simp (maxDischargeDepth := 99))

theorem execCapsGet_keeps {res : State} (h : Hdr) (p : List Byte) (s : State) (hx : execCapsGet h p s = .next res) : Keeps 1120 s res := by
  unfold execCapsGet at hx
  cases hx
  refine receive_keeps _ _ _ (keeps_refl _ _) rfl (fun n t => ?_); exact runNow_keeps _ _ _ _ _ _ _ _ (keeps_refl _ _) rfl (by simp (maxDischargeDepth := 99))

theorem execLockoutRecordGet_keeps {res : State} (h : Hdr) (p : List Byte) (s : State) (hx : execLockoutRecordGet h p s = .next res) : Keeps 1120 s res := by
  unfold execLockoutRecordGet at hx
  cases hx
  refine receive_keeps _ _ _ (keeps_refl _ _) rfl (fun n t => ?_); exact runNow_keeps _ _ _ _ _ _ _ _ (keeps_refl _ _) rfl (by simp (maxDischargeDepth := 99))

theorem execModeGet_keeps {res : State} (h : Hdr) (p : List Byte) (s : State) (hx : execModeGet h p s = .next res) : Keeps 1120 s res := by
  unfold execModeGet at hx
  cases hx
  refine receive_keeps _ _ _ (keeps_refl _ _) rfl (fun n t => ?_); exact runNow_keeps _ _ _ _ _ _ _ _ (keeps_refl _ _) rfl (by simp (maxDischargeDepth := 99))

theorem execModeSet_keeps {res : State} (h : Hdr) (p : List Byte) (s : State) (hx : execModeSet h p s = .next res) : Keeps 1120 s res := by
  unfold execModeSet at hx
  cases hx
  refine receive_keeps _ _ _ (keeps_refl _ _) rfl (fun n t => ?_); exact schedule_keeps _ _ _ _ _ _ _ _ _ (keeps_refl _ _) rfl (by simp (maxDischargeDepth := 99)) rfl (by decide)

theorem execReset_keeps {res : State} (h : Hdr) (p : List Byte) (s : State) (hx : execReset h p s = .next res) : Keeps 1120 s res := by
  unfold execReset at hx
  cases hx
  refine receive_keeps _ _ _ (keeps_refl _ _) rfl (fun n t => ?_); exact schedule_keeps _ _ _ _ _ _ _ _ _ (keeps_refl _ _) rfl (by simp (maxDischargeDepth := 99)) rfl (by decide)

theorem execRigLoad_keeps {res : State} (h : Hdr) (p : List Byte) (s : State) (hx : execRigLoad h p s = .next res) : Keeps 9312 s res := by
  unfold execRigLoad at hx
  cases hx
  refine receive_keeps _ _ _ (keeps_refl _ _) rfl (fun n t => ?_)
  exact runChunk_keeps _ _ _ _ _ _ _ (keeps_refl _ _) rfl (by simp (maxDischargeDepth := 99))

theorem execRigVerify_keeps {res : State} (h : Hdr) (p : List Byte) (s : State) (hx : execRigVerify h p s = .next res) : Keeps 9312 s res := by
  unfold execRigVerify at hx
  cases hx
  refine receive_keeps _ _ _ (keeps_refl _ _) rfl (fun n t => ?_); exact runNow_keeps _ _ _ _ _ _ _ _ (keeps_refl _ _) rfl (by simp (maxDischargeDepth := 99))

theorem execTack_keeps {res : State} (h : Hdr) (p : List Byte) (s : State) (hx : execTack h p s = .next res) : Keeps 9312 s res := by
  unfold execTack at hx
  cases hx
  refine receive_keeps _ _ _ (keeps_refl _ _) rfl (fun n t => ?_)
  exact schedule_keeps _ _ _ _ _ _ _ _ _ (keeps_refl _ _) rfl (by split <;> simp (maxDischargeDepth := 99)) (by split <;> simp [State.tackAccepted]) (by decide)

theorem execRigDiscard_keeps {res : State} (h : Hdr) (p : List Byte) (s : State) (hx : execRigDiscard h p s = .next res) : Keeps 9312 s res := by
  unfold execRigDiscard at hx
  cases hx
  refine receive_keeps _ _ _ (keeps_refl _ _) rfl (fun n t => ?_); exact runNow_keeps _ _ _ _ _ _ _ _ (keeps_refl _ _) rfl (by simp (maxDischargeDepth := 99))

theorem execRigStatus_keeps {res : State} (h : Hdr) (p : List Byte) (s : State) (hx : execRigStatus h p s = .next res) : Keeps 1120 s res := by
  unfold execRigStatus at hx
  cases hx
  refine receive_keeps _ _ _ (keeps_refl _ _) rfl (fun n t => ?_); exact runNow_keeps _ _ _ _ _ _ _ _ (keeps_refl _ _) rfl (by simp (maxDischargeDepth := 99))

theorem execRigLatency_keeps {res : State} (h : Hdr) (p : List Byte) (s : State) (hx : execRigLatency h p s = .next res) : Keeps 1120 s res := by
  unfold execRigLatency at hx
  cases hx
  refine receive_keeps _ _ _ (keeps_refl _ _) rfl (fun n t => ?_); exact runNow_keeps _ _ _ _ _ _ _ _ (keeps_refl _ _) rfl (by simp (maxDischargeDepth := 99))

theorem execParamSet_keeps {res : State} (h : Hdr) (p : List Byte) (s : State) (hx : execParamSet h p s = .next res) : Keeps 1120 s res := by
  unfold execParamSet at hx
  cases hx
  refine receive_keeps _ _ _ (keeps_refl _ _) rfl (fun n t => ?_); exact schedule_keeps _ _ _ _ _ _ _ _ _ (keeps_refl _ _) rfl (by simp (maxDischargeDepth := 99)) rfl (by decide)

theorem execParamGet_keeps {res : State} (h : Hdr) (p : List Byte) (s : State) (hx : execParamGet h p s = .next res) : Keeps 1120 s res := by
  unfold execParamGet at hx
  cases hx
  refine receive_keeps _ _ _ (keeps_refl _ _) rfl (fun n t => ?_); exact runNow_keeps _ _ _ _ _ _ _ _ (keeps_refl _ _) rfl (by simp (maxDischargeDepth := 99))

theorem execSceneRecall_keeps {res : State} (h : Hdr) (p : List Byte) (s : State) (hx : execSceneRecall h p s = .next res) : Keeps 1120 s res := by
  unfold execSceneRecall at hx
  cases hx
  refine receive_keeps _ _ _ (keeps_refl _ _) rfl (fun n t => ?_); exact schedule_keeps _ _ _ _ _ _ _ _ _ (keeps_refl _ _) rfl (by simp (maxDischargeDepth := 99)) rfl (by decide)

theorem execRampDefaultSet_keeps {res : State} (h : Hdr) (p : List Byte) (s : State) (hx : execRampDefaultSet h p s = .next res) : Keeps 1120 s res := by
  unfold execRampDefaultSet at hx
  cases hx
  refine receive_keeps _ _ _ (keeps_refl _ _) rfl (fun n t => ?_); exact schedule_keeps _ _ _ _ _ _ _ _ _ (keeps_refl _ _) rfl (by simp (maxDischargeDepth := 99)) rfl (by decide)

theorem execRampStatus_keeps {res : State} (h : Hdr) (p : List Byte) (s : State) (hx : execRampStatus h p s = .next res) : Keeps 1120 s res := by
  unfold execRampStatus at hx
  cases hx
  refine receive_keeps _ _ _ (keeps_refl _ _) rfl (fun n t => ?_); exact runNow_keeps _ _ _ _ _ _ _ _ (keeps_refl _ _) rfl (by simp (maxDischargeDepth := 99))

theorem execAesConfig_keeps {res : State} (h : Hdr) (p : List Byte) (s : State) (hx : execAesConfig h p s = .next res) : Keeps 1120 s res := by
  unfold execAesConfig at hx
  cases hx
  refine receive_keeps _ _ _ (keeps_refl _ _) rfl (fun n t => ?_); exact schedule_keeps _ _ _ _ _ _ _ _ _ (keeps_refl _ _) rfl (by simp (maxDischargeDepth := 99)) rfl (by decide)

theorem execAudioStatus_keeps {res : State} (h : Hdr) (p : List Byte) (s : State) (hx : execAudioStatus h p s = .next res) : Keeps 1120 s res := by
  unfold execAudioStatus at hx
  cases hx
  refine receive_keeps _ _ _ (keeps_refl _ _) rfl (fun n t => ?_); exact runNow_keeps _ _ _ _ _ _ _ _ (keeps_refl _ _) rfl (by simp (maxDischargeDepth := 99))

theorem execCommonStart_keeps {res : State} (h : Hdr) (p : List Byte) (s : State) (hx : execCommonStart h p s = .next res) : Keeps 1120 s res := by
  unfold execCommonStart at hx
  cases hx
  refine receive_keeps _ _ _ (keeps_refl _ _) rfl (fun n t => ?_); exact schedule_keeps _ _ _ _ _ _ _ _ _ (keeps_refl _ _) rfl (by simp (maxDischargeDepth := 99)) rfl (by decide)

theorem execStreamRxSet_keeps {res : State} (h : Hdr) (p : List Byte) (s : State) (hx : execStreamRxSet h p s = .next res) : Keeps 1120 s res := by
  unfold execStreamRxSet at hx
  cases hx
  refine receive_keeps _ _ _ (keeps_refl _ _) rfl (fun n t => ?_); exact schedule_keeps _ _ _ _ _ _ _ _ _ (keeps_refl _ _) rfl (by simp (maxDischargeDepth := 99)) rfl (by decide)

theorem execStreamTxSet_keeps {res : State} (h : Hdr) (p : List Byte) (s : State) (hx : execStreamTxSet h p s = .next res) : Keeps 1120 s res := by
  unfold execStreamTxSet at hx
  cases hx
  refine receive_keeps _ _ _ (keeps_refl _ _) rfl (fun n t => ?_); exact schedule_keeps _ _ _ _ _ _ _ _ _ (keeps_refl _ _) rfl (by simp (maxDischargeDepth := 99)) rfl (by decide)

theorem execPatchSet_keeps {res : State} (h : Hdr) (p : List Byte) (s : State) (hx : execPatchSet h p s = .next res) : Keeps 1120 s res := by
  unfold execPatchSet at hx
  cases hx
  refine receive_keeps _ _ _ (keeps_refl _ _) rfl (fun n t => ?_); exact schedule_keeps _ _ _ _ _ _ _ _ _ (keeps_refl _ _) rfl (by simp (maxDischargeDepth := 99)) rfl (by decide)

theorem execHostAudioSet_keeps {res : State} (h : Hdr) (p : List Byte) (s : State) (hx : execHostAudioSet h p s = .next res) : Keeps 1120 s res := by
  unfold execHostAudioSet at hx
  cases hx
  refine receive_keeps _ _ _ (keeps_refl _ _) rfl (fun n t => ?_); exact schedule_keeps _ _ _ _ _ _ _ _ _ (keeps_refl _ _) rfl (by simp (maxDischargeDepth := 99)) rfl (by decide)

theorem execSdiAudioSet_keeps {res : State} (h : Hdr) (p : List Byte) (s : State) (hx : execSdiAudioSet h p s = .next res) : Keeps 1120 s res := by
  unfold execSdiAudioSet at hx
  cases hx
  refine receive_keeps _ _ _ (keeps_refl _ _) rfl (fun n t => ?_); exact schedule_keeps _ _ _ _ _ _ _ _ _ (keeps_refl _ _) rfl (by simp (maxDischargeDepth := 99)) rfl (by decide)

theorem execSidetoneSet_keeps {res : State} (h : Hdr) (p : List Byte) (s : State) (hx : execSidetoneSet h p s = .next res) : Keeps 1120 s res := by
  unfold execSidetoneSet at hx
  cases hx
  refine receive_keeps _ _ _ (keeps_refl _ _) rfl (fun n t => ?_); exact schedule_keeps _ _ _ _ _ _ _ _ _ (keeps_refl _ _) rfl (by simp (maxDischargeDepth := 99)) rfl (by decide)

theorem execXptSwitch_keeps {res : State} (h : Hdr) (p : List Byte) (s : State) (hx : execXptSwitch h p s = .next res) : Keeps 33621088 s res := by
  unfold execXptSwitch at hx
  cases hx
  refine receive_keeps _ _ _ (keeps_refl _ _) rfl (fun n t => ?_)
  exact schedule_keeps _ _ _ _ _ _ _ _ _ (keeps_refl _ _) rfl (by simp (maxDischargeDepth := 99)) (placeSwitch_sched _ _ _ _ _ _) (by decide)

theorem execXptSalvo_keeps {res : State} (h : Hdr) (p : List Byte) (s : State) (hx : execXptSalvo h p s = .next res) : Keeps 33621088 s res := by
  unfold execXptSalvo at hx
  cases hx
  refine receive_keeps _ _ _ (keeps_refl _ _) rfl (fun n t => ?_)
  exact schedule_keeps _ _ _ _ _ _ _ _ _ (keeps_refl _ _) rfl (by simp (maxDischargeDepth := 99)) (placeSwitch_sched _ _ _ _ _ _) (by decide)

theorem execXptStatus_keeps {res : State} (h : Hdr) (p : List Byte) (s : State) (hx : execXptStatus h p s = .next res) : Keeps 1120 s res := by
  unfold execXptStatus at hx
  cases hx
  refine receive_keeps _ _ _ (keeps_refl _ _) rfl (fun n t => ?_); exact runNow_keeps _ _ _ _ _ _ _ _ (keeps_refl _ _) rfl (by simp (maxDischargeDepth := 99))

theorem execFlowRxSet_keeps {res : State} (h : Hdr) (p : List Byte) (s : State) (hx : execFlowRxSet h p s = .next res) : Keeps 1120 s res := by
  unfold execFlowRxSet at hx
  cases hx
  refine receive_keeps _ _ _ (keeps_refl _ _) rfl (fun n t => ?_); exact schedule_keeps _ _ _ _ _ _ _ _ _ (keeps_refl _ _) rfl (by simp (maxDischargeDepth := 99)) rfl (by decide)

theorem execFlowTxSet_keeps {res : State} (h : Hdr) (p : List Byte) (s : State) (hx : execFlowTxSet h p s = .next res) : Keeps 1120 s res := by
  unfold execFlowTxSet at hx
  cases hx
  refine receive_keeps _ _ _ (keeps_refl _ _) rfl (fun n t => ?_); exact schedule_keeps _ _ _ _ _ _ _ _ _ (keeps_refl _ _) rfl (by simp (maxDischargeDepth := 99)) rfl (by decide)

theorem execFlowRead_keeps {res : State} (h : Hdr) (p : List Byte) (s : State) (hx : execFlowRead h p s = .next res) : Keeps 1120 s res := by
  unfold execFlowRead at hx
  cases hx
  refine receive_keeps _ _ _ (keeps_refl _ _) rfl (fun n t => ?_); exact runNow_keeps _ _ _ _ _ _ _ _ (keeps_refl _ _) rfl (by simp (maxDischargeDepth := 99))

theorem execTimebaseStatus_keeps {res : State} (h : Hdr) (p : List Byte) (s : State) (hx : execTimebaseStatus h p s = .next res) : Keeps 1120 s res := by
  unfold execTimebaseStatus at hx
  cases hx
  refine receive_keeps _ _ _ (keeps_refl _ _) rfl (fun n t => ?_); exact runNow_keeps _ _ _ _ _ _ _ _ (keeps_refl _ _) rfl (by simp (maxDischargeDepth := 99))

theorem execReferenceStatus_keeps {res : State} (h : Hdr) (p : List Byte) (s : State) (hx : execReferenceStatus h p s = .next res) : Keeps 1120 s res := by
  unfold execReferenceStatus at hx
  cases hx
  refine receive_keeps _ _ _ (keeps_refl _ _) rfl (fun n t => ?_); exact runNow_keeps _ _ _ _ _ _ _ _ (keeps_refl _ _) rfl (by simp (maxDischargeDepth := 99))

theorem execTimingHistory_keeps {res : State} (h : Hdr) (p : List Byte) (s : State) (hx : execTimingHistory h p s = .next res) : Keeps 1120 s res := by
  unfold execTimingHistory at hx
  cases hx
  refine receive_keeps _ _ _ (keeps_refl _ _) rfl (fun n t => ?_)
  exact runNow_keeps _ _ _ _ _ _ _ _ (keeps_refl _ _) rfl (setSeat_keeps _ _ (keeps_refl _ _) rfl id)

theorem execPtpStatus_keeps {res : State} (h : Hdr) (p : List Byte) (s : State) (hx : execPtpStatus h p s = .next res) : Keeps 1120 s res := by
  unfold execPtpStatus at hx
  cases hx
  refine receive_keeps _ _ _ (keeps_refl _ _) rfl (fun n t => ?_); exact runNow_keeps _ _ _ _ _ _ _ _ (keeps_refl _ _) rfl (by simp (maxDischargeDepth := 99))

theorem execRealign_keeps {res : State} (h : Hdr) (p : List Byte) (s : State) (hx : execRealign h p s = .next res) : Keeps 1120 s res := by
  unfold execRealign at hx
  cases hx
  refine receive_keeps _ _ _ (keeps_refl _ _) rfl (fun n t => ?_); exact schedule_keeps _ _ _ _ _ _ _ _ _ (keeps_refl _ _) rfl (by simp (maxDischargeDepth := 99)) rfl (by decide)

theorem execTandemStatus_keeps {res : State} (h : Hdr) (p : List Byte) (s : State) (hx : execTandemStatus h p s = .next res) : Keeps 1120 s res := by
  unfold execTandemStatus at hx
  cases hx
  refine receive_keeps _ _ _ (keeps_refl _ _) rfl (fun n t => ?_); exact runNow_keeps _ _ _ _ _ _ _ _ (keeps_refl _ _) rfl (by simp (maxDischargeDepth := 99))

theorem execTandemSwap_keeps {res : State} (h : Hdr) (p : List Byte) (s : State) (hx : execTandemSwap h p s = .next res) : Keeps 1120 s res := by
  unfold execTandemSwap at hx
  cases hx
  refine receive_keeps _ _ _ (keeps_refl _ _) rfl (fun n t => ?_); exact schedule_keeps _ _ _ _ _ _ _ _ _ (keeps_refl _ _) rfl (by simp (maxDischargeDepth := 99)) rfl (by decide)

theorem execDigestStatus_keeps {res : State} (h : Hdr) (p : List Byte) (s : State) (hx : execDigestStatus h p s = .next res) : Keeps 1120 s res := by
  unfold execDigestStatus at hx
  cases hx
  refine receive_keeps _ _ _ (keeps_refl _ _) rfl (fun n t => ?_); exact runNow_keeps _ _ _ _ _ _ _ _ (keeps_refl _ _) rfl (by simp (maxDischargeDepth := 99))

theorem execShroudStatus_keeps {res : State} (h : Hdr) (p : List Byte) (s : State) (hx : execShroudStatus h p s = .next res) : Keeps 1120 s res := by
  unfold execShroudStatus at hx
  cases hx
  refine receive_keeps _ _ _ (keeps_refl _ _) rfl (fun n t => ?_); exact runNow_keeps _ _ _ _ _ _ _ _ (keeps_refl _ _) rfl (by simp (maxDischargeDepth := 99))

theorem execFaultLogRead_keeps {res : State} (h : Hdr) (p : List Byte) (s : State) (hx : execFaultLogRead h p s = .next res) : Keeps 1120 s res := by
  unfold execFaultLogRead at hx
  cases hx
  refine receive_keeps _ _ _ (keeps_refl _ _) rfl (fun n t => ?_); exact runNow_keeps _ _ _ _ _ _ _ _ (keeps_refl _ _) rfl (by simp (maxDischargeDepth := 99))

theorem execFaultAck_keeps {res : State} (h : Hdr) (p : List Byte) (s : State) (hx : execFaultAck h p s = .next res) : Keeps 1632 s res := by
  unfold execFaultAck at hx
  cases hx
  refine receive_keeps _ _ _ (keeps_refl _ _) rfl (fun n t => ?_); exact runNow_keeps _ _ _ _ _ _ _ _ (keeps_refl _ _) rfl (by simp (maxDischargeDepth := 99))

theorem execCounterRead_keeps {res : State} (h : Hdr) (p : List Byte) (s : State) (hx : execCounterRead h p s = .next res) : Keeps 1120 s res := by
  unfold execCounterRead at hx
  cases hx
  refine receive_keeps _ _ _ (keeps_refl _ _) rfl (fun n t => ?_); exact runNow_keeps _ _ _ _ _ _ _ _ (keeps_refl _ _) rfl (by simp (maxDischargeDepth := 99))

theorem execSnapshot_keeps {res : State} (h : Hdr) (p : List Byte) (s : State) (hx : execSnapshot h p s = .next res) : Keeps 3168 s res := by
  unfold execSnapshot at hx
  cases hx
  refine receive_keeps _ _ _ (keeps_refl _ _) rfl (fun n t => ?_); exact schedule_keeps _ _ _ _ _ _ _ _ _ (keeps_refl _ _) rfl (by simp (maxDischargeDepth := 99)) rfl (by decide)

theorem execSnapshotRead_keeps {res : State} (h : Hdr) (p : List Byte) (s : State) (hx : execSnapshotRead h p s = .next res) : Keeps 1120 s res := by
  unfold execSnapshotRead at hx
  cases hx
  refine receive_keeps _ _ _ (keeps_refl _ _) rfl (fun n t => ?_); (repeat' split) <;> simp (maxDischargeDepth := 99)

theorem execHealth_keeps {res : State} (h : Hdr) (p : List Byte) (s : State) (hx : execHealth h p s = .next res) : Keeps 1128 s res := by
  unfold execHealth at hx
  cases hx
  refine receive_keeps _ _ _ (keeps_refl _ _) rfl (fun n t => ?_); exact runNow_keeps _ _ _ _ _ _ _ _ (keeps_refl _ _) rfl (by simp (maxDischargeDepth := 99))

theorem execBankGive_keeps {res : State} (h : Hdr) (p : List Byte) (s : State) (hx : execBankGive h p s = .next res) : Keeps 67109984 s res := by
  unfold execBankGive at hx
  cases hx
  refine receive_keeps _ _ _ (keeps_refl _ _) rfl (fun n t => ?_)
  split
  · simp (maxDischargeDepth := 99)
  · split <;> simp (maxDischargeDepth := 99)

theorem execBankHandover_keeps {res : State} (m : Mast) (i : Nat) (idle : Bool) (s : State) (hx : execBankHandover m i idle s = .next res) : Keeps 71304800 s res := by
  unfold execBankHandover at hx
  cases hx
  split
  · simp (maxDischargeDepth := 99)
  · dsimp only
    split
    · refine done_keeps _ _ _ _ _ _ (setBank_keeps _ _ _ ?_ rfl (fun hc => ?_)) rfl
      · split <;> simp (maxDischargeDepth := 99)
      · split
        · exact (rfl : cellsWf [] = true)
        · rename_i h2
          rw [if_neg h2] at hc
          exact hc
    · split <;> simp (maxDischargeDepth := 99)

theorem execBankRead_keeps {res : State} (h : Hdr) (p : List Byte) (s : State) (hx : execBankRead h p s = .next res) : Keeps 4195424 s res := by
  unfold execBankRead at hx
  cases hx
  refine receive_keeps _ _ _ (keeps_refl _ _) rfl (fun n t => ?_); exact runNow_keeps _ _ _ _ _ _ _ _ (keeps_refl _ _) rfl (by simp (maxDischargeDepth := 99))

theorem execBankWrite_keeps {res : State} (h : Hdr) (p : List Byte) (s : State) (hx : execBankWrite h p s = .next res) : Keeps 4195424 s res := by
  unfold execBankWrite at hx
  cases hx
  refine receive_keeps _ _ _ (keeps_refl _ _) rfl (fun n t => ?_); exact runNow_keeps _ _ _ _ _ _ _ _ (keeps_refl _ _) rfl (by simp (maxDischargeDepth := 99))

theorem execMarchRun_keeps {res : State} (h : Hdr) (p : List Byte) (s : State) (hx : execMarchRun h p s = .next res) : Keeps 4195424 s res := by
  unfold execMarchRun at hx
  cases hx
  refine receive_keeps _ _ _ (keeps_refl _ _) rfl (fun n t => ?_); exact runNow_keeps _ _ _ _ _ _ _ _ (keeps_refl _ _) rfl (by simp (maxDischargeDepth := 99))

theorem execLoopbackSet_keeps {res : State} (h : Hdr) (p : List Byte) (s : State) (hx : execLoopbackSet h p s = .next res) : Keeps 754784 s res := by
  unfold execLoopbackSet at hx
  cases hx
  refine receive_keeps _ _ _ (keeps_refl _ _) rfl (fun n t => ?_); exact runNow_keeps _ _ _ _ _ _ _ _ (keeps_refl _ _) rfl (by simp (maxDischargeDepth := 99))

theorem execTestRouteSet_keeps {res : State} (h : Hdr) (p : List Byte) (s : State) (hx : execTestRouteSet h p s = .next res) : Keeps 1120 s res := by
  unfold execTestRouteSet at hx
  cases hx
  refine receive_keeps _ _ _ (keeps_refl _ _) rfl (fun n t => ?_); exact schedule_keeps _ _ _ _ _ _ _ _ _ (keeps_refl _ _) rfl (by simp (maxDischargeDepth := 99)) rfl (by decide)

theorem execRepairMapRead_keeps {res : State} (h : Hdr) (p : List Byte) (s : State) (hx : execRepairMapRead h p s = .next res) : Keeps 1120 s res := by
  unfold execRepairMapRead at hx
  cases hx
  refine receive_keeps _ _ _ (keeps_refl _ _) rfl (fun n t => ?_); exact runNow_keeps _ _ _ _ _ _ _ _ (keeps_refl _ _) rfl (by simp (maxDischargeDepth := 99))

theorem execLifecycleGet_keeps {res : State} (h : Hdr) (p : List Byte) (s : State) (hx : execLifecycleGet h p s = .next res) : Keeps 1120 s res := by
  unfold execLifecycleGet at hx
  cases hx
  refine receive_keeps _ _ _ (keeps_refl _ _) rfl (fun n t => ?_); exact runNow_keeps _ _ _ _ _ _ _ _ (keeps_refl _ _) rfl (by simp (maxDischargeDepth := 99))

theorem execCertRead_keeps {res : State} (h : Hdr) (p : List Byte) (s : State) (hx : execCertRead h p s = .next res) : Keeps 1120 s res := by
  unfold execCertRead at hx
  cases hx
  refine receive_keeps _ _ _ (keeps_refl _ _) rfl (fun n t => ?_); exact runNow_keeps _ _ _ _ _ _ _ _ (keeps_refl _ _) rfl (by simp (maxDischargeDepth := 99))

theorem execOwnerEnrol_keeps {res : State} (h : Hdr) (p : List Byte) (sigOk : Bool) (s : State) (hx : execOwnerEnrol h p sigOk s = .next res) : Keeps 5344 s res := by
  unfold execOwnerEnrol at hx
  cases hx
  refine receive_keeps _ _ _ (keeps_refl _ _) rfl (fun n t => ?_); exact runNow_keeps _ _ _ _ _ _ _ _ (keeps_refl _ _) rfl (by simp (maxDischargeDepth := 99))

theorem execImageLoad_keeps {res : State} (h : Hdr) (p : List Byte) (s : State) (hx : execImageLoad h p s = .next res) : Keeps 5216 s res := by
  unfold execImageLoad at hx
  cases hx
  refine receive_keeps _ _ _ (keeps_refl _ _) rfl (fun n t => ?_)
  exact runChunk_keeps _ _ _ _ _ _ _ (keeps_refl _ _) rfl (by simp (maxDischargeDepth := 99))

theorem execProfileApply_keeps {res : State} (h : Hdr) (p : List Byte) (sigOk : Bool) (s : State) (hx : execProfileApply h p sigOk s = .next res) : Keeps 5216 s res := by
  unfold execProfileApply at hx
  cases hx
  refine receive_keeps _ _ _ (keeps_refl _ _) rfl (fun n t => ?_)
  have h := runNow_keeps (w := 5216) h n 0x0C05 0 (p.length == 0) .package (t.profileApplyRefusals h p n sigOk)
    (fun s2 => (s2.applyStaged n h.hostSeq, [])) (keeps_refl _ t) rfl (by simp (maxDischargeDepth := 99))
  dsimp only
  split
  · exact installSeats_keeps _ h rfl
  · exact h

theorem execFirmwareApply_keeps {res : State} (h : Hdr) (p : List Byte) (sigOk : Bool) (s : State) (hx : execFirmwareApply h p sigOk s = .next res) : Keeps 5216 s res := by
  unfold execFirmwareApply at hx
  cases hx
  refine receive_keeps _ _ _ (keeps_refl _ _) rfl (fun n t => ?_); exact runNow_keeps _ _ _ _ _ _ _ _ (keeps_refl _ _) rfl (by simp (maxDischargeDepth := 99))

theorem execLifecycleSet_keeps {res : State} (h : Hdr) (p : List Byte) (sigOk : Bool) (s : State) (hx : execLifecycleSet h p sigOk s = .next res) : Keeps 5344 s res := by
  unfold execLifecycleSet at hx
  cases hx
  refine receive_keeps _ _ _ (keeps_refl _ _) rfl (fun n t => ?_); exact runNow_keeps _ _ _ _ _ _ _ _ (keeps_refl _ _) rfl (by simp (maxDischargeDepth := 99))

theorem execKeyProvision_keeps {res : State} (h : Hdr) (p : List Byte) (key : Nat) (unwrapOk : Bool) (s : State) (hx : execKeyProvision h p key unwrapOk s = .next res) : Keeps 16909536 s res := by
  unfold execKeyProvision at hx
  cases hx
  refine receive_keeps _ _ _ (keeps_refl _ _) rfl (fun n t => ?_); exact runNow_keeps _ _ _ _ _ _ _ _ (keeps_refl _ _) rfl (by simp (maxDischargeDepth := 99))

theorem execRtcSet_keeps {res : State} (h : Hdr) (p : List Byte) (s : State) (hx : execRtcSet h p s = .next res) : Keeps 1248 s res := by
  unfold execRtcSet at hx
  cases hx
  refine receive_keeps _ _ _ (keeps_refl _ _) rfl (fun n t => ?_); exact runNow_keeps _ _ _ _ _ _ _ _ (keeps_refl _ _) rfl (by simp (maxDischargeDepth := 99))

theorem execAlarmActivate_keeps {res : State} (h : Hdr) (p : List Byte) (s : State) (hx : execAlarmActivate h p s = .next res) : Keeps 1120 s res := by
  unfold execAlarmActivate at hx
  cases hx
  refine receive_keeps _ _ _ (keeps_refl _ _) rfl (fun n t => ?_); exact schedule_keeps _ _ _ _ _ _ _ _ _ (keeps_refl _ _) rfl (by simp (maxDischargeDepth := 99)) rfl (by decide)

theorem execAlarmClear_keeps {res : State} (h : Hdr) (p : List Byte) (s : State) (hx : execAlarmClear h p s = .next res) : Keeps 1120 s res := by
  unfold execAlarmClear at hx
  cases hx
  refine receive_keeps _ _ _ (keeps_refl _ _) rfl (fun n t => ?_); exact schedule_keeps _ _ _ _ _ _ _ _ _ (keeps_refl _ _) rfl (by simp (maxDischargeDepth := 99)) rfl (by decide)

theorem execAlarmStatus_keeps {res : State} (h : Hdr) (p : List Byte) (s : State) (hx : execAlarmStatus h p s = .next res) : Keeps 1120 s res := by
  unfold execAlarmStatus at hx
  cases hx
  refine receive_keeps _ _ _ (keeps_refl _ _) rfl (fun n t => ?_); exact runNow_keeps _ _ _ _ _ _ _ _ (keeps_refl _ _) rfl (by simp (maxDischargeDepth := 99))

theorem execMessageLoad_keeps {res : State} (h : Hdr) (p : List Byte) (sigOk : Bool) (s : State) (hx : execMessageLoad h p sigOk s = .next res) : Keeps 16778336 s res := by
  unfold execMessageLoad at hx
  cases hx
  refine receive_keeps _ _ _ (keeps_refl _ _) rfl (fun n t => ?_)
  exact runChunk_keeps _ _ _ _ _ _ _ (keeps_refl _ _) rfl (by simp (maxDischargeDepth := 99))

theorem execMessageList_keeps {res : State} (h : Hdr) (p : List Byte) (s : State) (hx : execMessageList h p s = .next res) : Keeps 1120 s res := by
  unfold execMessageList at hx
  cases hx
  refine receive_keeps _ _ _ (keeps_refl _ _) rfl (fun n t => ?_); exact runNow_keeps _ _ _ _ _ _ _ _ (keeps_refl _ _) rfl (by simp (maxDischargeDepth := 99))

theorem execAlarmInputStatus_keeps {res : State} (h : Hdr) (p : List Byte) (s : State) (hx : execAlarmInputStatus h p s = .next res) : Keeps 1120 s res := by
  unfold execAlarmInputStatus at hx
  cases hx
  refine receive_keeps _ _ _ (keeps_refl _ _) rfl (fun n t => ?_); exact runNow_keeps _ _ _ _ _ _ _ _ (keeps_refl _ _) rfl (by simp (maxDischargeDepth := 99))

theorem execFallbackTest_keeps {res : State} (h : Hdr) (p : List Byte) (s : State) (hx : execFallbackTest h p s = .next res) : Keeps 16778336 s res := by
  unfold execFallbackTest at hx
  cases hx
  refine receive_keeps _ _ _ (keeps_refl _ _) rfl (fun n t => ?_); exact runNow_keeps _ _ _ _ _ _ _ _ (keeps_refl _ _) rfl (by simp (maxDischargeDepth := 99))

theorem execFallbackTestDone_keeps {res : State} (s : State) (hx : execFallbackTestDone s = .next res) : Keeps 16777312 s res := by
  unfold execFallbackTestDone at hx
  cases hx
  (repeat' split) <;> simp (maxDischargeDepth := 99)

theorem execUnknownOpcode_keeps {res : State} (h : Hdr) (code : Nat) (_p : List Byte) (s : State) (hx : execUnknownOpcode h code _p s = .next res) : Keeps 1120 s res := by
  unfold execUnknownOpcode at hx
  cases hx
  split
  · simp (maxDischargeDepth := 99)
  · exact receive_keeps _ _ _ (keeps_refl _ _) rfl (fun n t => by simp (maxDischargeDepth := 99))

theorem execHalyardPacketDiscard_keeps {res : State} (h : Hdr) (s : State) (hx : execHalyardPacketDiscard h s = .next res) : Keeps 1088 s res := by
  unfold execHalyardPacketDiscard at hx
  cases hx
  (repeat' split) <;> simp (maxDischargeDepth := 99)

theorem execSessionIdleTimeout_keeps {res : State} (s : State) (hx : execSessionIdleTimeout s = .next res) : Keeps 96 s res := by
  unfold execSessionIdleTimeout at hx
  cases hx
  simp (maxDischargeDepth := 99)

theorem execLoadTimeout_keeps {res : State} (t : LoadTarget) (s : State) (hx : execLoadTimeout t s = .next res) : Keeps 8224 s res := by
  unfold execLoadTimeout at hx
  cases hx
  (repeat' split) <;> simp (maxDischargeDepth := 99)

theorem execCmdTailDoorbell_keeps {res : State} (m : Mast) (v : Nat) (s : State) (hx : execCmdTailDoorbell m v s = .next res) : Keeps 64 s res := by
  unfold execCmdTailDoorbell at hx
  cases hx
  simp (maxDischargeDepth := 99)

theorem execCommandDescriptorDone_keeps {res : State} (m : Mast) (d : Desc) (dmaError : Bool) (s : State) (hx : execCommandDescriptorDone m d dmaError s = .next res) : Keeps 1088 s res := by
  unfold execCommandDescriptorDone at hx
  cases hx
  simp (maxDischargeDepth := 99)

theorem execReplyTailDoorbell_keeps {res : State} (m : Mast) (v : Nat) (s : State) (hx : execReplyTailDoorbell m v s = .next res) : Keeps 64 s res := by
  unfold execReplyTailDoorbell at hx
  cases hx
  simp (maxDischargeDepth := 99)

theorem execReplyPacketWrite_keeps {res : State} (m : Mast) (d : Desc) (dmaError : Bool) (s : State) (hx : execReplyPacketWrite m d dmaError s = .next res) : Keeps 64 s res := by
  unfold execReplyPacketWrite at hx
  cases hx
  dsimp only; (repeat' split) <;> simp (maxDischargeDepth := 99)

theorem execRingEnableWrite_keeps {res : State} (m : Mast) (v : Nat) (s : State) (hx : execRingEnableWrite m v s = .next res) : Keeps 64 s res := by
  unfold execRingEnableWrite at hx
  cases hx
  simp (maxDischargeDepth := 99)

theorem execIntStatusClear_keeps {res : State} (m : Mast) (v : Nat) (s : State) (hx : execIntStatusClear m v s = .next res) : Keeps 64 s res := by
  unfold execIntStatusClear at hx
  cases hx
  simp (maxDischargeDepth := 99)

theorem execIntEnableWrite_keeps {res : State} (m : Mast) (v : Nat) (s : State) (hx : execIntEnableWrite m v s = .next res) : Keeps 64 s res := by
  unfold execIntEnableWrite at hx
  cases hx
  simp (maxDischargeDepth := 99)

theorem execMsixHoldoffExpiry_keeps {res : State} (m : Mast) (s : State) (hx : execMsixHoldoffExpiry m s = .next res) : Keeps 64 s res := by
  unfold execMsixHoldoffExpiry at hx
  cases hx
  simp (maxDischargeDepth := 99)

theorem execWindowHighHalfLatch_keeps {res : State} (m : Mast) (write : Bool) (off v : Nat) (s : State) (hx : execWindowHighHalfLatch m write off v s = .next res) : Keeps 64 s res := by
  unfold execWindowHighHalfLatch at hx
  cases hx
  dsimp only; (repeat' split) <;> simp (maxDischargeDepth := 99)

theorem execWindowRegisterWrite_keeps {res : State} (m : Mast) (off v : Nat) (s : State) (hx : execWindowRegisterWrite m off v s = .next res) : Keeps 64 s res := by
  unfold execWindowRegisterWrite at hx
  cases hx
  simp (maxDischargeDepth := 99)

theorem execPcieReset_keeps {res : State} (m : Mast) (x : Transfer) (s : State) (hx : execPcieReset m x s = .next res) : Keeps 1088 s res := by
  unfold execPcieReset at hx
  cases hx
  simp (maxDischargeDepth := 99)

theorem execCspWrite_keeps {res : State} (m : Mast) (wireLen payloadLen : Nat) (s : State) (hx : execCspWrite m wireLen payloadLen s = .next res) : Keeps 1088 s res := by
  unfold execCspWrite at hx
  cases hx
  simp (maxDischargeDepth := 99)

theorem execCspRead_keeps {res : State} (m : Mast) (clocked : Nat) (s : State) (hx : execCspRead m clocked s = .next res) : Keeps 64 s res := by
  unfold execCspRead at hx
  cases hx
  dsimp only; (repeat' split) <;> simp (maxDischargeDepth := 99)

theorem execCspStatus_keeps {res : State} (m : Mast) (s : State) (hx : execCspStatus m s = .next res) : Keeps 64 s res := by
  unfold execCspStatus at hx
  cases hx
  simp (maxDischargeDepth := 99)

theorem execCspFramingDiscard_keeps {res : State} (m : Mast) (first : Nat) (s : State) (hx : execCspFramingDiscard m first s = .next res) : Keeps 1088 s res := by
  unfold execCspFramingDiscard at hx
  cases hx
  simp (maxDischargeDepth := 99)

theorem execTransportEngineReset_keeps {res : State} (m : Mast) (t : Transport) (x : Transfer) (s : State) (hx : execTransportEngineReset m t x s = .next res) : Keeps 1088 s res := by
  unfold execTransportEngineReset at hx
  cases hx
  simp (maxDischargeDepth := 99)

theorem execMgmtServiceFrame_keeps {res : State} (m : Mast) (f : ServiceFrame) (s : State) (hx : execMgmtServiceFrame m f s = .next res) : Keeps 1088 s res := by
  unfold execMgmtServiceFrame at hx
  cases hx
  (repeat' split) <;> simp (maxDischargeDepth := 99)

theorem execRemapWrite_keeps {res : State} (m : Mast) (x : BusMaster) (passed : Bool) (s : State) (hx : execRemapWrite m x passed s = .next res) : Keeps 251652064 s res := by
  unfold execRemapWrite at hx
  cases hx
  simp (maxDischargeDepth := 99)

theorem execWatchdogExpiry_keeps {res : State} (m : Mast) (s : State) (hx : execWatchdogExpiry m s = .next res) : Keeps 251652064 s res := by
  unfold execWatchdogExpiry at hx
  cases hx
  simp (maxDischargeDepth := 99)

theorem execPowerGood_keeps {res : State} (m : Mast) (s : State) (hx : execPowerGood m s = .next res) : Keeps 268435424 s res := by
  unfold execPowerGood at hx
  cases hx
  simp (maxDischargeDepth := 99)

theorem execBootPhaseComplete_keeps {res : State} (m : Mast) (f : BootFacts) (s : State) (hx : execBootPhaseComplete m f s = .next res) : Keeps 251656164 s res := by
  unfold execBootPhaseComplete at hx
  cases hx
  dsimp only; (repeat' split) <;> simp (maxDischargeDepth := 99)

theorem execBootFailure_keeps {res : State} (m : Mast) (s : State) (hx : execBootFailure m s = .next res) : Keeps 251652064 s res := by
  unfold execBootFailure at hx
  cases hx
  simp (maxDischargeDepth := 99)

theorem execBootEnd_keeps {res : State} (s : State) (hx : execBootEnd s = .next res) : Keeps 251652068 s res := by
  unfold execBootEnd at hx
  cases hx
  split
  · simp (maxDischargeDepth := 99)
  · split
    · simp (maxDischargeDepth := 99)
    · exact atStep_keeps _ _ (keeps_refl _ _) rfl (fun t => by simp (maxDischargeDepth := 99))

theorem execResetNAssert_keeps {res : State} (m : Mast) (cycles : Nat) (s : State) (hx : execResetNAssert m cycles s = .next res) : Keeps 268435432 s res := by
  unfold execResetNAssert at hx
  cases hx
  simp (maxDischargeDepth := 99)

theorem execMainPowerLoss_keeps {res : State} (s : State) (hx : execMainPowerLoss s = .next res) : Keeps 268435424 s res := by
  unfold execMainPowerLoss at hx
  cases hx
  (repeat' split) <;> simp (maxDischargeDepth := 99)

theorem execTamperTrip_keeps {res : State} (m : Mast) (src : Nat) (s : State) (hx : execTamperTrip m src s = .next res) : Keeps 268433376 s res := by
  unfold execTamperTrip at hx
  cases hx
  simp (maxDischargeDepth := 99)

theorem execLifecycleReset_keeps {res : State} (s : State) (hx : execLifecycleReset s = .next res) : Keeps 268435424 s res := by
  unfold execLifecycleReset at hx
  cases hx
  have h : ∀ (x : State) (b : Staging), Keeps 268435424 x { x with sec := { x.sec with staging := b }, mem := x.mem.map (fun y => { y with alert := none }) } := by
    intro x b
    have : MemKeeps x.mem (x.mem.map (fun y => { y with alert := none })) := MemKeeps_map _ (fun y hy => by rw [banksWf_of_banks]; exact hy; rfl)
    simp (maxDischargeDepth := 99) [this]
  split
  · simp (maxDischargeDepth := 99)
  · dsimp only
    split
    · simp (maxDischargeDepth := 99)
    · refine keeps_trans ?_ (h _ _)
      split <;> simp (maxDischargeDepth := 99)

theorem execImageWriteDone_keeps {res : State} (failed : Bool) (s : State) (hx : execImageWriteDone failed s = .next res) : Keeps 4192 s res := by
  unfold execImageWriteDone at hx
  cases hx
  (repeat' split) <;> simp (maxDischargeDepth := 99)

theorem execWatchFadeEnd_keeps {res : State} (s : State) (hx : execWatchFadeEnd s = .next res) : Keeps 2876644 s res := by
  unfold execWatchFadeEnd at hx
  cases hx
  split
  · split
    · simp (maxDischargeDepth := 99)
    · exact atStep_keeps _ _ (keeps_refl _ _) rfl (fun t => by simp (maxDischargeDepth := 99))
  · simp (maxDischargeDepth := 99)

theorem execWakeStep_keeps {res : State} (s : State) (hx : execWakeStep s = .next res) : Keeps 251652068 s res := by
  unfold execWakeStep at hx
  cases hx
  split
  · split
    · simp (maxDischargeDepth := 99)
    · exact atStep_keeps _ _ (keeps_refl _ _) rfl (fun t => by simp (maxDischargeDepth := 99))
  · simp (maxDischargeDepth := 99)

theorem execLateWake_keeps {res : State} (m : Mast) (s : State) (hx : execLateWake m s = .next res) : Keeps 251652064 s res := by
  unfold execLateWake at hx
  cases hx
  (repeat' split) <;> simp (maxDischargeDepth := 99)

theorem execOnBattChange_keeps {res : State} (m : Mast) (level : Bool) (s : State) (hx : execOnBattChange m level s = .next res) : Keeps 224 s res := by
  unfold execOnBattChange at hx
  cases hx
  simp (maxDischargeDepth := 99)

theorem execShedStep_keeps {res : State} (s : State) (hx : execShedStep s = .next res) : Keeps 34276836 s res := by
  unfold execShedStep at hx
  cases hx
  split
  · split
    · simp (maxDischargeDepth := 99)
    · exact atStep_keeps _ _ (by simp (maxDischargeDepth := 99)) rfl (fun t => by dsimp only; (repeat' split) <;> simp (maxDischargeDepth := 99))
  · simp (maxDischargeDepth := 99)

theorem execRestoreStep_keeps {res : State} (s : State) (hx : execRestoreStep s = .next res) : Keeps 746980 s res := by
  unfold execRestoreStep at hx
  cases hx
  split
  · split
    · simp (maxDischargeDepth := 99)
    · exact atStep_keeps _ _ (by simp (maxDischargeDepth := 99)) rfl (fun t => by dsimp only; (repeat' split) <;> simp (maxDischargeDepth := 99))
  · simp (maxDischargeDepth := 99)

theorem execAlarmInputSample_keeps {res : State} (m : Mast) (i v : Nat) (pulse : Bool) (s : State) (hx : execAlarmInputSample m i v pulse s = .next res) : Keeps 8388608 s res := by
  unfold execAlarmInputSample at hx
  cases hx
  simp (maxDischargeDepth := 99)

theorem execAlarmInputDebounced_keeps {res : State} (m : Mast) (i : Nat) (s : State) (hx : execAlarmInputDebounced m i s = .next res) : Keeps 251652064 s res := by
  unfold execAlarmInputDebounced at hx
  cases hx
  simp (maxDischargeDepth := 99)

theorem execAlarmTestPulse_keeps {res : State} (m : Mast) (i dropMv : Nat) (s : State) (hx : execAlarmTestPulse m i dropMv s = .next res) : Keeps 251652064 s res := by
  unfold execAlarmTestPulse at hx
  cases hx
  simp (maxDischargeDepth := 99)

theorem execAlarmInputAction_keeps {res : State} (primary : List Assigned) (s : State) (hx : execAlarmInputAction primary s = .next res) : Keeps 200009444 s res := by
  unfold execAlarmInputAction at hx
  cases hx
  simp (maxDischargeDepth := 99)

theorem execAlarmInputSolo_keeps {res : State} (m : Mast) (i : Nat) (s : State) (hx : execAlarmInputSolo m i s = .next res) : Keeps 200009700 s res := by
  unfold execAlarmInputSolo at hx
  cases hx
  split
  · dsimp only
    split
    · simp (maxDischargeDepth := 99)
    · exact event_keeps _ _ _ (flag_keeps _ _ _ _ (atStep_keeps _ _ (keeps_refl _ _) rfl (fun t =>
        triggeredBy_keeps _ _ (keeps_refl _ _) rfl (fun u => by simp (maxDischargeDepth := 99)))) rfl) rfl
  · simp (maxDischargeDepth := 99)

theorem execMessagePlayBoundary_keeps {res : State} (msg : Nat) (s : State) (hx : execMessagePlayBoundary msg s = .next res) : Keeps 191620836 s res := by
  unfold execMessagePlayBoundary at hx
  cases hx
  dsimp only
  split
  · simp (maxDischargeDepth := 99)
  · exact atStep_keeps _ _ (keeps_refl _ _) rfl (fun t => by simp (maxDischargeDepth := 99))

theorem execMessageChunkFailure_keeps {res : State} (m : Mast) (msg chunk : Nat) (both : Bool) (s : State) (hx : execMessageChunkFailure m msg chunk both s = .next res) : Keeps 268429280 s res := by
  unfold execMessageChunkFailure at hx
  cases hx
  simp (maxDischargeDepth := 99)

theorem execAlarmStreamMessage_keeps {res : State} (m : Mast) (n : Nat) (r : RtpFacts) (p : List Byte) (sigOk : Bool) (tai : Nat) (s : State) (hx : execAlarmStreamMessage m n r p sigOk tai s = .next res) : Keeps 25232608 s res := by
  unfold execAlarmStreamMessage at hx
  cases hx
  simp (maxDischargeDepth := 99)

theorem execAlarmStreamSilence_keeps {res : State} (n : Nat) (s : State) (hx : execAlarmStreamSilence n s = .next res) : Keeps 16777312 s res := by
  unfold execAlarmStreamSilence at hx
  cases hx
  (repeat' split) <;> simp (maxDischargeDepth := 99)

theorem execStepBoundary_keeps {res : State} (frame : List Byte) (s : State) (hx : execStepBoundary frame s = .next res) : Keeps 268435430 s res := by
  unfold execStepBoundary at hx
  cases hx
  simp (maxDischargeDepth := 99)

theorem execPreStartPulse_keeps {res : State} (s : State) (hx : execPreStartPulse s = .next res) : Keeps 524288 s res := by
  unfold execPreStartPulse at hx
  cases hx
  simp (maxDischargeDepth := 99)

theorem execRampEnd_keeps {res : State} (s : State) (hx : execRampEnd s = .next res) : Keeps 16384 s res := by
  unfold execRampEnd at hx
  cases hx
  simp (maxDischargeDepth := 99)

theorem execStepFailure_keeps {res : State} (m : Mast) (g : Nat) (s : State) (hx : execStepFailure m g s = .next res) : Keeps 251652064 s res := by
  unfold execStepFailure at hx
  cases hx
  simp (maxDischargeDepth := 99)

theorem execDigestReceived_keeps {res : State} (m : Mast) (n : Nat) (s : State) (hx : execDigestReceived m n s = .next res) : Keeps 256 s res := by
  unfold execDigestReceived at hx
  cases hx
  (repeat' split) <;> simp (maxDischargeDepth := 99)

theorem execDigestCompare_keeps {res : State} (n : Nat) (s : State) (hx : execDigestCompare n s = .next res) : Keeps 251652064 s res := by
  unfold execDigestCompare at hx
  cases hx
  dsimp only; (repeat' split) <;> simp (maxDischargeDepth := 99)

theorem execEffectiveStepApply_keeps {res : State} (s : State) (hx : execEffectiveStepApply s = .next res) : Keeps 268435428 s res := by
  unfold execEffectiveStepApply at hx
  cases hx
  (repeat' split) <;> simp (maxDischargeDepth := 99)

theorem execCommitReceived_keeps {res : State} (order : Nat) (primary : Option PrimaryCommand) (s : State) (hx : execCommitReceived order primary s = .next res) : Keeps 33630560 s res := by
  unfold execCommitReceived at hx
  cases hx
  dsimp only
  (repeat' split) <;> simp (maxDischargeDepth := 99)

theorem execTackEnd_keeps {res : State} (s : State) (hx : execTackEnd s = .next res) : Keeps 24672 s res := by
  unfold execTackEnd at hx
  cases hx
  (repeat' split) <;> simp (maxDischargeDepth := 99)

theorem execRigVerifyDone_keeps {res : State} (hashOk : Bool) (s : State) (hx : execRigVerifyDone hashOk s = .next res) : Keeps 8288 s res := by
  unfold execRigVerifyDone at hx
  cases hx
  simp (maxDischargeDepth := 99)

theorem execSnapshotEvent_keeps {res : State} (s : State) (hx : execSnapshotEvent s = .next res) : Keeps 2144 s res := by
  unfold execSnapshotEvent at hx
  cases hx
  (repeat' split) <;> simp (maxDischargeDepth := 99)

theorem execHealthEvent_keeps {res : State} (s : State) (hx : execHealthEvent s = .next res) : Keeps 104 s res := by
  unfold execHealthEvent at hx
  cases hx
  simp (maxDischargeDepth := 99)

theorem execAudioPacketRx_keeps {res : State} (m : Mast) (r : RtpFacts) (samples : List (List Int)) (estimate : Nat) (s : State) (hx : execAudioPacketRx m r samples estimate s = .next res) : Keeps 99424 s res := by
  unfold execAudioPacketRx at hx
  cases hx
  (repeat' split) <;> simp (maxDischargeDepth := 99)

theorem execPacketExpectedTimeout_keeps {res : State} (m : Mast) (st seq : Nat) (s : State) (hx : execPacketExpectedTimeout m st seq s = .next res) : Keeps 32768 s res := by
  unfold execPacketExpectedTimeout at hx
  cases hx
  (repeat' split) <;> simp (maxDischargeDepth := 99)

theorem execGapNoticeRx_keeps {res : State} (m : Mast) (video : Bool) (st seq : Nat) (s : State) (hx : execGapNoticeRx m video st seq s = .next res) : Keeps 229376 s res := by
  unfold execGapNoticeRx at hx
  cases hx
  dsimp only
  (repeat' split) <;> simp (maxDischargeDepth := 99)

theorem execForwardedPacketRx_keeps {res : State} (m : Mast) (st seq : Nat) (primary : Option HeldPacket) (s : State) (hx : execForwardedPacketRx m st seq primary s = .next res) : Keeps 33888 s res := by
  unfold execForwardedPacketRx at hx
  cases hx
  dsimp only; (repeat' split) <;> simp (maxDischargeDepth := 99)

theorem execPacketDeadline_keeps {res : State} (m : Mast) (st seq : Nat) (s : State) (hx : execPacketDeadline m st seq s = .next res) : Keeps 34144 s res := by
  unfold execPacketDeadline at hx
  cases hx
  (repeat' split) <;> simp (maxDischargeDepth := 99)

theorem execAudioPortEventDeferred_keeps {res : State} (m : Mast) (cls idx : Nat) (s : State) (hx : execAudioPortEventDeferred m cls idx s = .next res) : Keeps 32864 s res := by
  unfold execAudioPortEventDeferred at hx
  cases hx
  dsimp only; (repeat' split) <;> simp (maxDischargeDepth := 99)

theorem execAes3FrameRx_keeps {res : State} (m : Mast) (f : AesFrame) (s : State) (hx : execAes3FrameRx m f s = .next res) : Keeps 34048 s res := by
  unfold execAes3FrameRx at hx
  cases hx
  dsimp only; (repeat' split) <;> simp (maxDischargeDepth := 99)

theorem execCaptureAssignmentRx_keeps {res : State} (m : Mast) (x : CaptureNote) (s : State) (hx : execCaptureAssignmentRx m x s = .next res) : Keeps 34048 s res := by
  unfold execCaptureAssignmentRx at hx
  cases hx
  dsimp only; (repeat' split) <;> simp (maxDischargeDepth := 99)

theorem execAsrcEstimateRx_keeps {res : State} (m : Mast) (cls idx step ratio : Nat) (s : State) (hx : execAsrcEstimateRx m cls idx step ratio s = .next res) : Keeps 33024 s res := by
  unfold execAsrcEstimateRx at hx
  cases hx
  simp (maxDischargeDepth := 99)

theorem execAsrcLock_keeps {res : State} (m : Mast) (cls idx ratio : Nat) (s : State) (hx : execAsrcLock m cls idx ratio s = .next res) : Keeps 32864 s res := by
  unfold execAsrcLock at hx
  cases hx
  simp (maxDischargeDepth := 99)

theorem execAes3InputLock_keeps {res : State} (m : Mast) (port rate : Nat) (s : State) (hx : execAes3InputLock m port rate s = .next res) : Keeps 32768 s res := by
  unfold execAes3InputLock at hx
  cases hx
  dsimp only; (repeat' split) <;> simp (maxDischargeDepth := 99)

theorem execAes3InputUnlock_keeps {res : State} (m : Mast) (port : Nat) (s : State) (hx : execAes3InputUnlock m port s = .next res) : Keeps 32864 s res := by
  unfold execAes3InputUnlock at hx
  cases hx
  dsimp only; (repeat' split) <;> simp (maxDischargeDepth := 99)

theorem execSingleHomedChange_keeps {res : State} (cls idx : Nat) (s : State) (hx : execSingleHomedChange cls idx s = .next res) : Keeps 251652064 s res := by
  unfold execSingleHomedChange at hx
  cases hx
  simp (maxDischargeDepth := 99)

theorem execSdiAudioPacket_keeps {res : State} (m : Mast) (p : SdiPacket) (s : State) (hx : execSdiAudioPacket m p s = .next res) : Keeps 34144 s res := by
  unfold execSdiAudioPacket at hx
  cases hx
  dsimp only; (repeat' split) <;> simp (maxDischargeDepth := 99)

theorem execVideoPacketRx_keeps {res : State} (m : Mast) (r : RtpFacts) (row : VideoRow) (s : State) (hx : execVideoPacketRx m r row s = .next res) : Keeps 197632 s res := by
  unfold execVideoPacketRx at hx
  cases hx
  (repeat' split) <;> simp (maxDischargeDepth := 99)

theorem execFlowMissEvent_keeps {res : State} (m : Mast) (s : State) (hx : execFlowMissEvent m s = .next res) : Keeps 65632 s res := by
  unfold execFlowMissEvent at hx
  cases hx
  simp (maxDischargeDepth := 99)

theorem execFlowUnrepaired_keeps {res : State} (m : Mast) (port ts black : Nat) (s : State) (hx : execFlowUnrepaired m port ts black s = .next res) : Keeps 66656 s res := by
  unfold execFlowUnrepaired at hx
  cases hx
  dsimp only
  split
  · simp (maxDischargeDepth := 99)
  · exact markUnrepaired_keeps _ _ _ (keeps_foldl _ _ (keeps_refl _ _) (fun t y => by simp (maxDischargeDepth := 99))) rfl

theorem execMembershipQuery_keeps {res : State} (m : Mast) (s : State) (hx : execMembershipQuery m s = .next res) : Keeps 196608 s res := by
  unfold execMembershipQuery at hx
  cases hx
  simp (maxDischargeDepth := 99)

theorem execFormatRecognised_keeps {res : State} (m : Mast) (i fmt : Nat) (s : State) (hx : execFormatRecognised m i fmt s = .next res) : Keeps 66560 s res := by
  unfold execFormatRecognised at hx
  cases hx
  dsimp only
  (repeat' split) <;> first | exact keeps_refl _ _ | exact keeps_foldl _ _ (keeps_refl _ _) (fun t y => by simp (maxDischargeDepth := 99))

theorem execArrivalMeasurement_keeps {res : State} (m : Mast) (i : Nat) (arrival : Int) (rate slips : Nat) (s : State) (hx : execArrivalMeasurement m i arrival rate slips s = .next res) : Keeps 66560 s res := by
  unfold execArrivalMeasurement at hx
  cases hx
  dsimp only
  split
  · simp (maxDischargeDepth := 99)
  · exact keeps_foldl _ _ (by simp (maxDischargeDepth := 99)) (fun t y => by (repeat' split) <;> simp (maxDischargeDepth := 99))

theorem execSwitchFinalDecision_keeps {res : State} (o : Nat) (reached : Bool) (s : State) (hx : execSwitchFinalDecision o reached s = .next res) : Keeps 33619968 s res := by
  unfold execSwitchFinalDecision at hx
  cases hx
  (repeat' split) <;> simp (maxDischargeDepth := 99)

theorem execStokerOwnSwitchDecision_keeps {res : State} (o : Nat) (s : State) (hx : execStokerOwnSwitchDecision o s = .next res) : Keeps 65792 s res := by
  unfold execStokerOwnSwitchDecision at hx
  cases hx
  (repeat' split) <;> simp (maxDischargeDepth := 99)

theorem execSwitchPoint_keeps {res : State} (o : Nat) (s : State) (hx : execSwitchPoint o s = .next res) : Keeps 33620992 s res := by
  unfold execSwitchPoint at hx
  cases hx
  dsimp only
  split
  · simp (maxDischargeDepth := 99)
  · split
    · simp (maxDischargeDepth := 99)
    · split
      · exact changeJob_keeps _ _ (keeps_foldl _ _ (keeps_refl _ _) (fun t y => by split <;> simp (maxDischargeDepth := 99))) rfl
      · exact changeJob_keeps _ _ (keeps_foldl _ _ (keeps_refl _ _) (fun t y => by split <;> simp (maxDischargeDepth := 99))) rfl
      · exact keeps_foldl _ _ (keeps_refl _ _) (fun t y => by split <;> simp (maxDischargeDepth := 99))

theorem execSourceChange_keeps {res : State} (o : Nat) (delivers : Bool) (black : Nat) (s : State) (hx : execSourceChange o delivers black s = .next res) : Keeps 66560 s res := by
  unfold execSourceChange at hx
  cases hx
  split
  · simp (maxDischargeDepth := 99)
  · dsimp only
    split
    · simp (maxDischargeDepth := 99)
    · split
      · simp (maxDischargeDepth := 99)
      · exact bumpOut_keeps _ _ _ (keeps_foldl _ _ (keeps_refl _ _) (fun t y => by simp (maxDischargeDepth := 99))) rfl
      · exact keeps_foldl _ _ (keeps_refl _ _) (fun t y => by simp (maxDischargeDepth := 99))
      · exact bumpOut_keeps _ _ _ (keeps_foldl _ _ (keeps_refl _ _) (fun t y => by simp (maxDischargeDepth := 99))) rfl

theorem execFabricOverload_keeps {res : State} (s : State) (hx : execFabricOverload s = .next res) : Keeps 251652064 s res := by
  unfold execFabricOverload at hx
  cases hx
  split
  · simp (maxDischargeDepth := 99)
  · dsimp only
    split
    · simp (maxDischargeDepth := 99)
    · exact report_keeps _ _ _ (keeps_foldl _ _ (keeps_refl _ _) (fun t y => bumpOut_keeps _ _ _ (keeps_foldl _ _ (keeps_refl _ _) (fun u z => by simp (maxDischargeDepth := 99))) rfl)) rfl

theorem execCellCrcMismatch_keeps {res : State} (m : Mast) (region cell : Nat) (s : State) (hx : execCellCrcMismatch m region cell s = .next res) : Keeps 251652064 s res := by
  unfold execCellCrcMismatch at hx
  cases hx
  simp (maxDischargeDepth := 99)

theorem execLaneLos_keeps {res : State} (m : Mast) (l : Nat) (on : Bool) (s : State) (hx : execLaneLos m l on s = .next res) : Keeps 251652064 s res := by
  unfold execLaneLos at hx
  cases hx
  simp (maxDischargeDepth := 99)

theorem execLaneLol_keeps {res : State} (m : Mast) (l : Nat) (on : Bool) (s : State) (hx : execLaneLol m l on s = .next res) : Keeps 251652064 s res := by
  unfold execLaneLol at hx
  cases hx
  simp (maxDischargeDepth := 99)

theorem execLaneErrorBurst_keeps {res : State} (m : Mast) (l : Nat) (second : Bool) (s : State) (hx : execLaneErrorBurst m l second s = .next res) : Keeps 251652064 s res := by
  unfold execLaneErrorBurst at hx
  cases hx
  simp (maxDischargeDepth := 99)

theorem execLaneSelfTestResult_keeps {res : State} (m : Mast) (l bitErrors : Nat) (s : State) (hx : execLaneSelfTestResult m l bitErrors s = .next res) : Keeps 251652064 s res := by
  unfold execLaneSelfTestResult at hx
  cases hx
  (repeat' split) <;> simp (maxDischargeDepth := 99)

theorem execLaneBringupTimeout_keeps {res : State} (m : Mast) (l : Nat) (s : State) (hx : execLaneBringupTimeout m l s = .next res) : Keeps 251652064 s res := by
  unfold execLaneBringupTimeout at hx
  cases hx
  simp (maxDischargeDepth := 99)

theorem execLaneAligned_keeps {res : State} (m : Mast) (l : Nat) (a : AlignSt) (seed frame : Nat) (s : State) (hx : execLaneAligned m l a seed frame s = .next res) : Keeps 251652064 s res := by
  unfold execLaneAligned at hx
  cases hx
  simp (maxDischargeDepth := 99)

theorem execMarkerSend_keeps {res : State} (m : Mast) (l : Nat) (s : State) (hx : execMarkerSend m l s = .next res) : Keeps 132104 s res := by
  unfold execMarkerSend at hx
  cases hx
  simp (maxDischargeDepth := 99)

theorem execContainerRx_keeps {res : State} (m : Mast) (l cls seq : Nat) (blocks : List Nat) (tag : TagKey) (beat : Option Nat) (s : State) (hx : execContainerRx m l cls seq blocks tag beat s = .next res) : Keeps 132096 s res := by
  unfold execContainerRx at hx
  cases hx
  (repeat' split) <;> simp (maxDischargeDepth := 99)

theorem execContainerSeqSkip_keeps {res : State} (m : Mast) (shroud : Bool) (cls : Nat) (s : State) (hx : execContainerSeqSkip m shroud cls s = .next res) : Keeps 131072 s res := by
  unfold execContainerSeqSkip at hx
  cases hx
  dsimp only; (repeat' split) <;> simp (maxDischargeDepth := 99)

theorem execTandemBlockSend_keeps {res : State} (m : Mast) (s : State) (hx : execTandemBlockSend m s = .next res) : Keeps 131072 s res := by
  unfold execTandemBlockSend at hx
  cases hx
  dsimp only; (repeat' split) <;> simp (maxDischargeDepth := 99)

theorem execTandemBlockRx_keeps {res : State} (m : Mast) (l payload : Nat) (s : State) (hx : execTandemBlockRx m l payload s = .next res) : Keeps 132096 s res := by
  unfold execTandemBlockRx at hx
  cases hx
  simp (maxDischargeDepth := 99)

theorem execStayLinkUp_keeps {res : State} (s : State) (hx : execStayLinkUp s = .next res) : Keeps 256 s res := by
  unfold execStayLinkUp at hx
  cases hx
  simp (maxDischargeDepth := 99)

theorem execStayLinkDown_keeps {res : State} (m : Mast) (s : State) (hx : execStayLinkDown m s = .next res) : Keeps 251652064 s res := by
  unfold execStayLinkDown at hx
  cases hx
  simp (maxDischargeDepth := 99)

theorem execStayArbitration_keeps {res : State} (s : State) (hx : execStayArbitration s = .next res) : Keeps 251654112 s res := by
  unfold execStayArbitration at hx
  cases hx
  (repeat' split) <;> simp (maxDischargeDepth := 99)

theorem execStayRejoinTimer_keeps {res : State} (s : State) (hx : execStayRejoinTimer s = .next res) : Keeps 251652064 s res := by
  unfold execStayRejoinTimer at hx
  cases hx
  simp (maxDischargeDepth := 99)

theorem execFaultReport_keeps {res : State} (m : Mast) (src site step : Nat) (late : Bool) (s : State) (hx : execFaultReport m src site step late s = .next res) : Keeps 251652064 s res := by
  unfold execFaultReport at hx
  cases hx
  simp (maxDischargeDepth := 99)

theorem execTakeCaptain_keeps {res : State} (m : Mast) (s : State) (hx : execTakeCaptain m s = .next res) : Keeps 251652064 s res := by
  unfold execTakeCaptain at hx
  cases hx
  simp (maxDischargeDepth := 99)

theorem execReleaseDrivers_keeps {res : State} (m : Mast) (s : State) (hx : execReleaseDrivers m s = .next res) : Keeps 117436384 s res := by
  unfold execReleaseDrivers at hx
  cases hx
  simp (maxDischargeDepth := 99)

theorem execAbruptTakeover_keeps {res : State} (m : Mast) (dead steerLow : Bool) (s : State) (hx : execAbruptTakeover m dead steerLow s = .next res) : Keeps 251654112 s res := by
  unfold execAbruptTakeover at hx
  cases hx
  simp (maxDischargeDepth := 99)

theorem execSteerReadbackFault_keeps {res : State} (m ball : Mast) (s : State) (hx : execSteerReadbackFault m ball s = .next res) : Keeps 251652064 s res := by
  unfold execSteerReadbackFault at hx
  cases hx
  simp (maxDischargeDepth := 99)

theorem execSlotPreloadEnd_keeps {res : State} (s : State) (hx : execSlotPreloadEnd s = .next res) : Keeps 256 s res := by
  unfold execSlotPreloadEnd at hx
  cases hx
  (repeat' split) <;> simp (maxDischargeDepth := 99)

theorem execCopyPassEnd_keeps {res : State} (fits : Bool) (s : State) (hx : execCopyPassEnd fits s = .next res) : Keeps 8765856 s res := by
  unfold execCopyPassEnd at hx
  cases hx
  dsimp only
  (repeat' split) <;> simp (maxDischargeDepth := 99)

theorem execJoinStep_keeps {res : State} (s : State) (hx : execJoinStep s = .next res) : Keeps 8765824 s res := by
  unfold execJoinStep at hx
  cases hx
  simp (maxDischargeDepth := 99)

theorem execStokerRejoin_keeps {res : State} (s : State) (hx : execStokerRejoin s = .next res) : Keeps 83871712 s res := by
  unfold execStokerRejoin at hx
  cases hx
  (repeat' split) <;> simp (maxDischargeDepth := 99)

theorem execJoinHoldExpiry_keeps {res : State} (m : Mast) (s : State) (hx : execJoinHoldExpiry m s = .next res) : Keeps 251652064 s res := by
  unfold execJoinHoldExpiry at hx
  cases hx
  (repeat' split) <;> simp (maxDischargeDepth := 99)

theorem execLogWrite_keeps {res : State} (m : Mast) (s : State) (hx : execLogWrite m s = .next res) : Keeps 1632 s res := by
  unfold execLogWrite at hx
  cases hx
  simp (maxDischargeDepth := 99)

theorem execBurstClose_keeps {res : State} (m : Mast) (src : Nat) (s : State) (hx : execBurstClose m src s = .next res) : Keeps 1536 s res := by
  unfold execBurstClose at hx
  cases hx
  (repeat' split) <;> simp (maxDischargeDepth := 99)

theorem execTargetedTestResult_keeps {res : State} (m : Mast) (site : Nat) (passed : Bool) (s : State) (hx : execTargetedTestResult m site passed s = .next res) : Keeps 251652064 s res := by
  unfold execTargetedTestResult at hx
  cases hx
  (repeat' split) <;> simp (maxDischargeDepth := 99)

theorem execRowCopyEnd_keeps {res : State} (m : Mast) (site : Nat) (s : State) (hx : execRowCopyEnd m site s = .next res) : Keeps 512 s res := by
  unfold execRowCopyEnd at hx
  cases hx
  simp (maxDischargeDepth := 99)

theorem execScrubRead_keeps {res : State} (m : Mast) (memory bank row word : Nat) (s : State) (hx : execScrubRead m memory bank row word s = .next res) : Keeps 251652064 s res := by
  unfold execScrubRead at hx
  cases hx
  simp (maxDischargeDepth := 99)

theorem execFallbackMemoryCheck_keeps {res : State} (m : Mast) (passed reloadPassed : Bool) (s : State) (hx : execFallbackMemoryCheck m passed reloadPassed s = .next res) : Keeps 251652064 s res := by
  unfold execFallbackMemoryCheck at hx
  cases hx
  simp (maxDischargeDepth := 99)

theorem execMessageStoreCheck_keeps {res : State} (m : Mast) (fails : List (Nat × Nat × Bool)) (s : State) (hx : execMessageStoreCheck m fails s = .next res) : Keeps 268429280 s res := by
  unfold execMessageStoreCheck at hx
  cases hx
  have h : ∀ (x : State) (v : AlarmShared), Keeps 268429280 x { x with alarm := v } := fun x v => by simp (maxDischargeDepth := 99)
  split
  · simp (maxDischargeDepth := 99)
  · exact setAlm_keeps _ _ (keeps_trans (keeps_foldl _ _ (keeps_refl _ _) (fun t y => by simp (maxDischargeDepth := 99))) (h _ _)) rfl

theorem execOtpRepairWrite_keeps {res : State} (m : Mast) (s : State) (hx : execOtpRepairWrite m s = .next res) : Keeps 251652064 s res := by
  unfold execOtpRepairWrite at hx
  cases hx
  dsimp only; (repeat' split) <;> simp (maxDischargeDepth := 99)

theorem execWriteHoldoffEnd_keeps {res : State} (m : Mast) (rewriteFailed : Bool) (s : State) (hx : execWriteHoldoffEnd m rewriteFailed s = .next res) : Keeps 251652064 s res := by
  unfold execWriteHoldoffEnd at hx
  cases hx
  simp (maxDischargeDepth := 99)

theorem execMarchDone_keeps {res : State} (m : Mast) (target index : Nat) (first again : List SymFail) (still : Bool) (s : State) (hx : execMarchDone m target index first again still s = .next res) : Keeps 251652064 s res := by
  unfold execMarchDone at hx
  cases hx
  (repeat' split) <;> simp (maxDischargeDepth := 99)

theorem execTelltaleWindowEnd_keeps {res : State} (m : Mast) (rows : List WindowRow) (s : State) (hx : execTelltaleWindowEnd m rows s = .next res) : Keeps 251652064 s res := by
  unfold execTelltaleWindowEnd at hx
  cases hx
  have h : ∀ x : State, Keeps 251652064 x ((x.evaluateAll m 3)) := fun x => by simp (maxDischargeDepth := 99)
  have h1 : Keeps 251652064 s (rows.foldl (fun acc w => acc.windowEnd m w) ({ s with tim := s.tim.set m { s.tm m with windowAt := some s.now } } : State)) :=
    keeps_foldl _ _ (by simp (maxDischargeDepth := 99)) (fun t y => by simp (maxDischargeDepth := 99))
  have h2 : ∀ x : State, Keeps 251652064 x ((List.range 4).foldl (fun acc t => acc.disagreements m t (rows.map (fun w => w.cand))) (x.followFreq m)) :=
    fun x => keeps_foldl _ _ (by simp (maxDischargeDepth := 99)) (fun t y => by simp (maxDischargeDepth := 99))
  split
  · simp (maxDischargeDepth := 99)
  · dsimp only
    split
    · exact keeps_trans h1 (keeps_trans (h2 _) (h _))
    · exact keeps_trans h1 (h _)

theorem execCandidateAbsent_keeps {res : State} (m : Mast) (i : Nat) (s : State) (hx : execCandidateAbsent m i s = .next res) : Keeps 251652064 s res := by
  unfold execCandidateAbsent at hx
  cases hx
  simp (maxDischargeDepth := 99)

theorem execTimebaseLocked_keeps {res : State} (t : Nat) (xo : Int) (s : State) (hx : execTimebaseLocked t xo s = .next res) : Keeps 263392 s res := by
  unfold execTimebaseLocked at hx
  cases hx
  (repeat' split) <;> simp (maxDischargeDepth := 99)

theorem execHoldoverLimit_keeps {res : State} (t : Nat) (s : State) (hx : execHoldoverLimit t s = .next res) : Keeps 251652064 s res := by
  unfold execHoldoverLimit at hx
  cases hx
  (repeat' split) <;> simp (maxDischargeDepth := 99)

theorem execXoCheck_keeps {res : State} (m : Mast) (count : Nat) (edges : Bool) (s : State) (hx : execXoCheck m count edges s = .next res) : Keeps 251652064 s res := by
  unfold execXoCheck at hx
  cases hx
  dsimp only
  split
  · simp (maxDischargeDepth := 99)
  · exact report_keeps _ _ _ (keeps_foldl _ _ (by simp (maxDischargeDepth := 99)) (fun t y => by simp (maxDischargeDepth := 99))) rfl

theorem execXoCalibrationUpdate_keeps {res : State} (m : Mast) (mean : Int) (s : State) (hx : execXoCalibrationUpdate m mean s = .next res) : Keeps 263168 s res := by
  unfold execXoCalibrationUpdate at hx
  cases hx
  dsimp only; (repeat' split) <;> simp (maxDischargeDepth := 99)

theorem execPhaseMarker_keeps {res : State} (t : Nat) (offset : Int) (s : State) (hx : execPhaseMarker t offset s = .next res) : Keeps 262144 s res := by
  unfold execPhaseMarker at hx
  cases hx
  dsimp only; (repeat' split) <;> simp (maxDischargeDepth := 99)

theorem execRealignEffective_keeps {res : State} (t : Nat) (s : State) (hx : execRealignEffective t s = .next res) : Keeps 268435428 s res := by
  unfold execRealignEffective at hx
  cases hx
  (repeat' split) <;> simp (maxDischargeDepth := 99)

theorem execRealignResume_keeps {res : State} (frame : List Byte) (s : State) (hx : execRealignResume frame s = .next res) : Keeps 268435430 s res := by
  unfold execRealignResume at hx
  cases hx
  (repeat' split) <;> simp (maxDischargeDepth := 99)

theorem execPtpMessageRx_keeps {res : State} (m : Mast) (x : PtpMsg) (s : State) (hx : execPtpMessageRx m x s = .next res) : Keeps 1180680 s res := by
  unfold execPtpMessageRx at hx
  cases hx
  dsimp only
  split
  · simp (maxDischargeDepth := 99)
  · split
    · simp (maxDischargeDepth := 99)
    · exact keeps_foldl _ _ (relay_keeps _ _ (keeps_refl _ _) rfl) (fun t y => by simp (maxDischargeDepth := 99))

theorem execSyncPairTimeout_keeps {res : State} (m : Mast) (t : Nat) (s : State) (hx : execSyncPairTimeout m t s = .next res) : Keeps 1049600 s res := by
  unfold execSyncPairTimeout at hx
  cases hx
  dsimp only; (repeat' split) <;> simp (maxDischargeDepth := 99)

theorem execDelayReqSend_keeps {res : State} (m : Mast) (t : Nat) (t3 : Int) (s : State) (hx : execDelayReqSend m t t3 s = .next res) : Keeps 1179648 s res := by
  unfold execDelayReqSend at hx
  cases hx
  simp (maxDischargeDepth := 99)

theorem execPtpOffsetSecond_keeps {res : State} (t : Nat) (s0 : State) (hx : execPtpOffsetSecond t s0 = .next res) : Keeps 1310720 s0 res := by
  unfold execPtpOffsetSecond at hx
  cases hx
  split
  · simp (maxDischargeDepth := 99)
  · dsimp only
    split
    · simp (maxDischargeDepth := 99)
    · split
      · simp (maxDischargeDepth := 99)
      · split
        · simp (maxDischargeDepth := 99)
        · split
          · (repeat' split) <;> simp (maxDischargeDepth := 99)
          · (repeat' split) <;> simp (maxDischargeDepth := 99)

theorem execJumpDecision_keeps {res : State} (t : Nat) (s : State) (hx : execJumpDecision t s = .next res) : Keeps 251652064 s res := by
  unfold execJumpDecision at hx
  cases hx
  dsimp only; (repeat' split) <;> simp (maxDischargeDepth := 99)

theorem execRtcUpdate_keeps {res : State} (s : State) (hx : execRtcUpdate s = .next res) : Keeps 262272 s res := by
  unfold execRtcUpdate at hx
  cases hx
  (repeat' split) <;> simp (maxDischargeDepth := 99)

theorem execPllLoss_keeps {res : State} (m : Mast) (p : Nat) (oscStopped : Bool) (s : State) (hx : execPllLoss m p oscStopped s = .next res) : Keeps 251652064 s res := by
  unfold execPllLoss at hx
  cases hx
  simp (maxDischargeDepth := 99)

theorem execPllGraceEnd_keeps {res : State} (m : Mast) (p : Nat) (s : State) (hx : execPllGraceEnd m p s = .next res) : Keeps 524288 s res := by
  unfold execPllGraceEnd at hx
  cases hx
  (repeat' split) <;> simp (maxDischargeDepth := 99)

theorem execPllRelock_keeps {res : State} (m : Mast) (p : Nat) (s : State) (hx : execPllRelock m p s = .next res) : Keeps 524288 s res := by
  unfold execPllRelock at hx
  cases hx
  (repeat' split) <;> simp (maxDischargeDepth := 99)

theorem execDerailleurHang_keeps {res : State} (m : Mast) (d : Nat) (toFallback newEdge oldEdge : Bool) (s : State) (hx : execDerailleurHang m d toFallback newEdge oldEdge s = .next res) : Keeps 251652064 s res := by
  unfold execDerailleurHang at hx
  cases hx
  simp (maxDischargeDepth := 99)

theorem execSyncDivEdge_keeps {res : State} (m : Mast) (s : State) (hx : execSyncDivEdge m s = .next res) : Keeps 525312 s res := by
  unfold execSyncDivEdge at hx
  cases hx
  simp (maxDischargeDepth := 99)

theorem execFreewheelClose_keeps {res : State} (m : Mast) (block : Nat) (s : State) (hx : execFreewheelClose m block s = .next res) : Keeps 524288 s res := by
  unfold execFreewheelClose at hx
  cases hx
  dsimp only; (repeat' split) <;> simp (maxDischargeDepth := 99)

theorem execForcedClosureTimeout_keeps {res : State} (m : Mast) (block : Nat) (s : State) (hx : execForcedClosureTimeout m block s = .next res) : Keeps 251652064 s res := by
  unfold execForcedClosureTimeout at hx
  cases hx
  dsimp only; (repeat' split) <;> simp (maxDischargeDepth := 99)

theorem execForcedClosureRetry_keeps {res : State} (m : Mast) (block : Nat) (idle : Bool) (s : State) (hx : execForcedClosureRetry m block idle s = .next res) : Keeps 251652064 s res := by
  unfold execForcedClosureRetry at hx
  cases hx
  dsimp only; (repeat' split) <;> simp (maxDischargeDepth := 99)

theorem execFrequencyMeasurement_keeps {res : State} (m : Mast) (tap against sel : Nat) (value : Int) (s : State) (hx : execFrequencyMeasurement m tap against sel value s = .next res) : Keeps 251652064 s res := by
  unfold execFrequencyMeasurement at hx
  cases hx
  dsimp only; (repeat' split) <;> simp (maxDischargeDepth := 99)

theorem execDroopTrip_keeps {res : State} (m : Mast) (g : Nat) (s : State) (hx : execDroopTrip m g s = .next res) : Keeps 251652064 s res := by
  unfold execDroopTrip at hx
  cases hx
  dsimp only; (repeat' split) <;> simp (maxDischargeDepth := 99)

theorem execDroopStretchEnd_keeps {res : State} (m : Mast) (g : Nat) (s : State) (hx : execDroopStretchEnd m g s = .next res) : Keeps 525312 s res := by
  unfold execDroopStretchEnd at hx
  cases hx
  simp (maxDischargeDepth := 99)

theorem execRailWarningDip_keeps {res : State} (m : Mast) (rail depthMv : Nat) (s : State) (hx : execRailWarningDip m rail depthMv s = .next res) : Keeps 2621440 s res := by
  unfold execRailWarningDip at hx
  cases hx
  simp (maxDischargeDepth := 99)

theorem execSagRecovery_keeps {res : State} (m : Mast) (rail : Nat) (s : State) (hx : execSagRecovery m rail s = .next res) : Keeps 251652064 s res := by
  unfold execSagRecovery at hx
  cases hx
  have h : ∀ x : State, Keeps 251652064 x ((List.range 12).foldl (fun acc g => acc.resumeRegion m g) x) := fun x => keeps_foldl _ _ (keeps_refl _ _) (fun t y => by simp (maxDischargeDepth := 99))
  dsimp only
  split
  · simp (maxDischargeDepth := 99)
  · split
    · refine keeps_trans ?_ (h _)
      simp (maxDischargeDepth := 99)
    · simp (maxDischargeDepth := 99)

theorem execRailResetLevel_keeps {res : State} (m : Mast) (rail : Nat) (s : State) (hx : execRailResetLevel m rail s = .next res) : Keeps 251652064 s res := by
  unfold execRailResetLevel at hx
  cases hx
  simp (maxDischargeDepth := 99)

theorem execPmbusAlert_keeps {res : State} (m : Mast) (words : List (Option Nat)) (s : State) (hx : execPmbusAlert m words s = .next res) : Keeps 2097152 s res := by
  unfold execPmbusAlert at hx
  cases hx
  simp (maxDischargeDepth := 99)

theorem execAvsUpdate_keeps {res : State} (m : Mast) (demands : List Nat) (s : State) (hx : execAvsUpdate m demands s = .next res) : Keeps 2097152 s res := by
  unfold execAvsUpdate at hx
  cases hx
  simp (maxDischargeDepth := 99)

theorem execPmbusFailure_keeps {res : State} (m : Mast) (rail confirmedMv : Nat) (s : State) (hx : execPmbusFailure m rail confirmedMv s = .next res) : Keeps 251652064 s res := by
  unfold execPmbusFailure at hx
  cases hx
  dsimp only; (repeat' split) <;> simp (maxDischargeDepth := 99)

theorem execTemperatureReading_keeps {res : State} (m : Mast) (die : Nat) (t : Int) (s : State) (hx : execTemperatureReading m die t s = .next res) : Keeps 268433376 s res := by
  unfold execTemperatureReading at hx
  cases hx
  dsimp only; (repeat' split) <;> simp (maxDischargeDepth := 99)

theorem execShroudLinkUp_keeps {res : State} (m : Mast) (s : State) (hx : execShroudLinkUp m s = .next res) : Keeps 131328 s res := by
  unfold execShroudLinkUp at hx
  cases hx
  simp (maxDischargeDepth := 99)

theorem execShroudLinkDown_keeps {res : State} (m : Mast) (s : State) (hx : execShroudLinkDown m s = .next res) : Keeps 251652064 s res := by
  unfold execShroudLinkDown at hx
  cases hx
  simp (maxDischargeDepth := 99)

theorem execBeatSend_keeps {res : State} (m : Mast) (s : State) (hx : execBeatSend m s = .next res) : Keeps 131072 s res := by
  unfold execBeatSend at hx
  cases hx
  dsimp only; (repeat' split) <;> simp (maxDischargeDepth := 99)

theorem execHelloRx_keeps {res : State} (m : Mast) (nonce cert : List Byte) (tagOk : Bool) (s : State) (hx : execHelloRx m nonce cert tagOk s = .next res) : Keeps 131080 s res := by
  unfold execHelloRx at hx
  cases hx
  dsimp only; (repeat' split) <;> simp (maxDischargeDepth := 99)

theorem execShroudRekey_keeps {res : State} (m : Mast) (s : State) (hx : execShroudRekey m s = .next res) : Keeps 131080 s res := by
  unfold execShroudRekey at hx
  cases hx
  simp (maxDischargeDepth := 99)

theorem execShroudPairing_keeps {res : State} (x : PeerFacts) (s : State) (hx : execShroudPairing x s = .next res) : Keeps 352 s res := by
  unfold execShroudPairing at hx
  cases hx
  simp (maxDischargeDepth := 99)

theorem execShroudMeasurement_keeps {res : State} (rtt : Nat) (phaseNs : Int) (s : State) (hx : execShroudMeasurement rtt phaseNs s = .next res) : Keeps 352 s res := by
  unfold execShroudMeasurement at hx
  cases hx
  simp (maxDischargeDepth := 99)

theorem execReserveDigestCompare_keeps {res : State} (n : Nat) (ds : List (Option Nat)) (copy : Option PrimaryState) (s : State) (hx : execReserveDigestCompare n ds copy s = .next res) : Keeps 8511968 s res := by
  unfold execReserveDigestCompare at hx
  cases hx
  dsimp only; (repeat' split) <;> simp (maxDischargeDepth := 99)

theorem execReserveTrackRetry_keeps {res : State} (s : State) (hx : execReserveTrackRetry s = .next res) : Keeps 352 s res := by
  unfold execReserveTrackRetry at hx
  cases hx
  simp (maxDischargeDepth := 99)

theorem execPresenceBeaconSend_keeps {res : State} (s : State) (hx : execPresenceBeaconSend s = .next res) : Keeps 256 s res := by
  unfold execPresenceBeaconSend at hx
  cases hx
  simp (maxDischargeDepth := 99)

theorem execPresenceBeaconRx_keeps {res : State} (m : Mast) (s : State) (hx : execPresenceBeaconRx m s = .next res) : Keeps 256 s res := by
  unfold execPresenceBeaconRx at hx
  cases hx
  simp (maxDischargeDepth := 99)

theorem execTakeoverDelayExpiry_keeps {res : State} (s : State) (hx : execTakeoverDelayExpiry s = .next res) : Keeps 256 s res := by
  unfold execTakeoverDelayExpiry at hx
  cases hx
  simp (maxDischargeDepth := 99)

theorem execBarePolesNoticeRx_keeps {res : State} (s : State) (hx : execBarePolesNoticeRx s = .next res) : Keeps 256 s res := by
  unfold execBarePolesNoticeRx at hx
  cases hx
  simp (maxDischargeDepth := 99)

theorem execReserveTakeover_keeps {res : State} (s : State) (hx : execReserveTakeover s = .next res) : Keeps 356 s res := by
  unfold execReserveTakeover at hx
  cases hx
  dsimp only
  split
  · simp (maxDischargeDepth := 99)
  · split
    · simp (maxDischargeDepth := 99)
    · exact atStep_keeps _ _ (by simp (maxDischargeDepth := 99)) rfl (fun t => event_keeps _ _ _ (keeps_foldl _ _ (by simp (maxDischargeDepth := 99)) (fun t y => by simp (maxDischargeDepth := 99))) rfl)

theorem execPllLaneRelockTimeout_keeps {res : State} (m : Mast) (r : Nat) (s : State) (hx : execPllLaneRelockTimeout m r s = .next res) : Keeps 251652064 s res := by
  unfold execPllLaneRelockTimeout at hx
  cases hx
  (repeat' split) <;> simp (maxDischargeDepth := 99)

theorem execResetNRelease_keeps {res : State} (m : Mast) (s : State) (hx : execResetNRelease m s = .next res) : Keeps 128 s res := by
  unfold execResetNRelease at hx
  cases hx
  simp (maxDischargeDepth := 99)

theorem execMessageWriteDone_keeps {res : State} (i : Nat) (s : State) (hx : execMessageWriteDone i s = .next res) : Keeps 16777216 s res := by
  unfold execMessageWriteDone at hx
  cases hx
  simp (maxDischargeDepth := 99)

theorem execTlAliveDead_keeps {res : State} (m : Mast) (s : State) (hx : execTlAliveDead m s = .next res) : Keeps 384 s res := by
  unfold execTlAliveDead at hx
  cases hx
  simp (maxDischargeDepth := 99)

theorem execEyeMeasurement_keeps {res : State} (m : Mast) (l v h : Nat) (s : State) (hx : execEyeMeasurement m l v h s = .next res) : Keeps 132096 s res := by
  unfold execEyeMeasurement at hx
  cases hx
  simp (maxDischargeDepth := 99)

/-! ### From masks to parts -/

/-- The place of a part in the masks of Keeps. -/
def Part.place : Part → Nat
  | .now => 1 | .step => 2 | .freeCount => 3 | .hal => 5 | .port => 6 | .md => 7 | .tan => 8 | .flt => 9 | .ctr => 10
  | .snap => 11 | .sec => 12 | .rigs => 13 | .dp => 14 | .aud => 15 | .vid => 16 | .lan => 17 | .tim => 18 | .clk => 19
  | .ptp => 20 | .sup => 21 | .mem => 22 | .alm => 23 | .alarm => 24 | .jobs => 25 | .handovers => 26 | .tests => 27

theorem Fixed_eq {α : Type} {w k : Nat} {a b : α} (h : Fixed w k a b) (hw : w.testBit k = false) : b = a := by
  rcases h with h | h
  · rw [hw] at h; cases h
  · exact h

theorem Keeps_same {w : Nat} {s t : State} (h : Keeps w s t) (p : Part) (hp : w.testBit p.place = false) : p.Same s t := by
  cases p
  · exact Fixed_eq h.now hp
  · exact Fixed_eq h.step hp
  · exact Fixed_eq h.freeCount hp
  · exact Fixed_eq h.hal hp
  · exact Fixed_eq h.port hp
  · exact Fixed_eq h.md hp
  · exact Fixed_eq h.tan hp
  · exact Fixed_eq h.flt hp
  · exact Fixed_eq h.ctr hp
  · exact Fixed_eq h.snap hp
  · exact Fixed_eq h.sec hp
  · exact Fixed_eq h.rigs hp
  · exact Fixed_eq h.dp hp
  · exact Fixed_eq h.aud hp
  · exact Fixed_eq h.vid hp
  · exact Fixed_eq h.lan hp
  · exact Fixed_eq h.tim hp
  · exact Fixed_eq h.clk hp
  · exact Fixed_eq h.ptp hp
  · exact Fixed_eq h.sup hp
  · exact Fixed_eq h.mem hp
  · exact Fixed_eq h.alm hp
  · exact Fixed_eq h.alarm hp
  · exact Fixed_eq h.jobs hp
  · exact Fixed_eq h.handovers hp
  · exact Fixed_eq h.tests hp

theorem parts_of_keeps {w : Nat} {l : List Part} {s t : State} (h : ∀ p, p ∉ l → w.testBit p.place = false) (k : Keeps w s t) :
    ∀ p, p ∉ l → p.Same s t := fun p hp => Keeps_same k p (h p hp)

end Sys2Proof.Machine
end

