-- ==== Sys2Proof/Laws/Ports.lean ====
section
/-! SUPPORT. The host port (R551 to R553): what an interrupt cause, a message and a delivery leave alone, and what they set. -/
namespace Sys2Proof.Machine

@[simp] theorem hp_setHp (s : State) (m : Mast) (p : HostPort) : (s.setHp m p).hp m = p := by simp [State.hp, State.setHp]

@[simp] theorem hp_setWindow (s : State) (m : Mast) (w : Window) : (s.setWindow m w).hp m = { s.hp m with window := w } := by
  simp [State.setWindow]

/-- A host port with the interrupt flags, the pending bits and the message counts of another. -/
def HostPort.sameBut (p q : HostPort) : Prop :=
  q = { p with window := { p.window with intStatus := q.window.intStatus, msixPba := q.window.msixPba },
               ring := { p.ring with msiCount := q.ring.msiCount, lastMsi0 := q.ring.lastMsi0, msi0Held := q.ring.msi0Held } }

theorem HostPort.sameBut_refl (p : HostPort) : p.sameBut p := rfl

theorem HostPort.sameBut_trans {p q r : HostPort} (h : p.sameBut q) (k : q.sameBut r) : p.sameBut r := by
  unfold HostPort.sameBut at *
  rw [k, h]

/-- A message changes only the interrupt machinery. -/
theorem HostPort.signal_sameBut (p : HostPort) (v now : Nat) : p.sameBut (p.signal v now) := by
  unfold HostPort.signal; split <;> rfl

theorem HostPort.signalHeld_sameBut (p : HostPort) (v now : Nat) : p.sameBut (p.signalHeld v now) := by
  unfold HostPort.signalHeld
  split
  · rfl
  · exact signal_sameBut p v now

theorem HostPort.cause_sameBut (p : HostPort) (v now : Nat) : p.sameBut (p.cause v now) := by
  unfold HostPort.cause
  dsimp only
  split
  · rfl
  · split
    · exact HostPort.sameBut_trans (q := { p with window := { p.window with intStatus := p.window.intStatus ||| 2 ^ v } }) rfl
        (HostPort.signalHeld_sameBut _ _ _)
    · rfl

@[simp] theorem HostPort.signal_intStatus (p : HostPort) (v now : Nat) : (p.signal v now).window.intStatus = p.window.intStatus := by
  unfold HostPort.signal; split <;> rfl

@[simp] theorem HostPort.signalHeld_intStatus (p : HostPort) (v now : Nat) :
    (p.signalHeld v now).window.intStatus = p.window.intStatus := by
  unfold HostPort.signalHeld; split <;> simp

/-- A cause sets its bit of INT_STATUS, whatever INT_ENABLE holds, and no other (R553). -/
theorem HostPort.cause_intStatus (p : HostPort) (v now : Nat) : (p.cause v now).window.intStatus = p.window.intStatus ||| 2 ^ v := by
  unfold HostPort.cause
  dsimp only
  split
  · rename_i h
    apply Nat.eq_of_testBit_eq
    intro i
    rw [Nat.testBit_or, Nat.testBit_two_pow]
    by_cases hi : v = i
    · subst hi; simp_all [bit]
    · simp [hi]
  · split <;> simp

theorem HostPort.cause_sets (p : HostPort) (v now : Nat) : bit (p.cause v now).window.intStatus v = true := by
  rw [HostPort.cause_intStatus]; simp [bit, Nat.testBit_or, Nat.testBit_two_pow_self]

theorem HostPort.cause_keeps (p : HostPort) (v now k : Nat) (h : bit p.window.intStatus k = true) :
    bit (p.cause v now).window.intStatus k = true := by
  rw [HostPort.cause_intStatus]; simp_all [bit, Nat.testBit_or]

/-- A message adds one to its vector's count, unless the vector is masked (R552). -/
theorem HostPort.signal_count (p : HostPort) (v now k : Nat) (hv : v < p.ring.msiCount.length) :
    atD (p.signal v now).ring.msiCount k 0 =
      if k = v ∧ bit (atD p.window.msixTable (4 * v + 3) 1) 0 = false then atD p.ring.msiCount k 0 + 1
      else atD p.ring.msiCount k 0 := by
  unfold HostPort.signal
  split
  · rename_i h; simp [h]
  · rename_i h
    have h : bit (atD p.window.msixTable (4 * v + 3) 1) 0 = false := by simpa using h
    by_cases hk : k = v
    · subst hk; unfold atD at h ⊢; simp [h, setAt, hv]
    · simp [hk, atD, setAt, Ne.symm hk]

end Sys2Proof.Machine
end

