-- ==== Sys2Proof/Laws/Refusals.lean ====
section
/-! SUPPORT. Every refusal carries a status of a class that is not 0 (R174), list by list, and the status that is reported
is of the lowest class of its list (R9, R180). -/
namespace Sys2Proof.Machine
open Host

/-- Every status of a list of refusals says that the command had no effect (R174). -/
def Refusing (l : List Nat) : Prop := ∀ st ∈ l, 1 ≤ statusClass st

@[simp] theorem refusing_nil : Refusing [] := by simp [Refusing]

@[simp] theorem refusing_append {l k : List Nat} : Refusing (l ++ k) ↔ Refusing l ∧ Refusing k := by
  simp only [Refusing, List.mem_append]
  exact ⟨fun h => ⟨fun x hx => h x (.inl hx), fun x hx => h x (.inr hx)⟩, fun h x hx => hx.elim (h.1 x) (h.2 x)⟩

@[simp] theorem refusing_cons {a : Nat} {l : List Nat} : Refusing (a :: l) ↔ 1 ≤ statusClass a ∧ Refusing l := by simp [Refusing]

theorem refusing_refuseIf {b : Bool} {st : Nat} (h : 1 ≤ statusClass st) : Refusing (refuseIf b st) := by
  cases b <;> simp [refuseIf, h]

theorem refusing_flatten {α : Type} {f : α → List Nat} {l : List α} (h : ∀ x, Refusing (f x)) : Refusing (l.map f).flatten := by
  intro st hs
  simp only [List.mem_flatten, List.mem_map] at hs
  obtain ⟨_, ⟨x, _, rfl⟩, hx⟩ := hs
  exact h x st hx

theorem refusing_take {l : List Nat} {n : Nat} (h : Refusing l) : Refusing (l.take n) := fun st hs => h st (List.mem_of_mem_take hs)

theorem firstRefusal_min {l : List Nat} {a : Nat} (ha : a ∈ l) : ∃ r, firstRefusal l = some r ∧ r ∈ l ∧ statusClass r ≤ statusClass a := by
  induction l with
  | nil => cases ha
  | cons x l ih =>
    unfold firstRefusal
    rcases List.mem_cons.1 ha with rfl | hl
    · split
      · exact ⟨_, rfl, List.mem_cons_self .., Nat.le_refl _⟩
      · rename_i y hy
        split
        · rename_i hlt
          refine ⟨y, rfl, ?_, Nat.le_of_lt hlt⟩
          refine List.mem_cons_of_mem _ ?_
          clear ih hlt ha
          induction l generalizing y with
          | nil => cases hy
          | cons z l ih2 =>
            unfold firstRefusal at hy
            split at hy
            · cases hy; exact List.mem_cons_self ..
            · rename_i w hw
              split at hy
              · cases hy; exact List.mem_cons_of_mem _ (ih2 _ hw)
              · cases hy; exact List.mem_cons_self ..
        · exact ⟨_, rfl, List.mem_cons_self .., Nat.le_refl _⟩
    · obtain ⟨r, hr, hm, hc⟩ := ih hl
      rw [hr]
      dsimp only
      split
      · exact ⟨r, rfl, List.mem_cons_of_mem _ hm, hc⟩
      · rename_i hn
        exact ⟨x, rfl, List.mem_cons_self .., by omega⟩

theorem presence_refusing (i here family : Nat) : Refusing (presence i here family) := by
  unfold presence
  repeat' first
    | exact refusing_nil | decide | with_reducible apply refusing_refuseIf
    | with_reducible refine refusing_append.2 ⟨?_, ?_⟩ | with_reducible refine refusing_cons.2 ⟨by decide, ?_⟩ | split

theorem runPresence_refusing (v : Variant) (first count : Nat) : Refusing (runPresence v first count) := by
  unfold runPresence
  dsimp only
  repeat' first
    | exact refusing_nil | decide | with_reducible apply refusing_refuseIf
    | with_reducible refine refusing_append.2 ⟨?_, ?_⟩ | with_reducible refine refusing_cons.2 ⟨by decide, ?_⟩ | split

theorem portPresence_refusing (s : State) (cls idx : Nat) : Refusing (s.portPresence cls idx) := by
  unfold State.portPresence
  repeat' first
    | exact refusing_nil | decide | with_reducible apply presence_refusing
    | with_reducible apply refusing_refuseIf | with_reducible refine refusing_append.2 ⟨?_, ?_⟩
    | with_reducible refine refusing_cons.2 ⟨by decide, ?_⟩ | split

theorem sourceRefusals_refusing (v : Variant) (x : PatchSrc) : Refusing (sourceRefusals v x) := by
  unfold sourceRefusals
  repeat' first
    | exact refusing_nil | decide | with_reducible apply presence_refusing
    | with_reducible apply refusing_refuseIf | with_reducible refine refusing_append.2 ⟨?_, ?_⟩
    | with_reducible refine refusing_cons.2 ⟨by decide, ?_⟩ | split

theorem pageRefusals_refusing (p : List Byte) (off : Nat) : Refusing (pageRefusals p off) := by
  unfold pageRefusals
  repeat' first
    | exact refusing_nil | decide | with_reducible apply refusing_refuseIf
    | with_reducible refine refusing_append.2 ⟨?_, ?_⟩ | with_reducible refine refusing_cons.2 ⟨by decide, ?_⟩ | split

theorem mastRefusals_refusing (s : State) (v : Nat) (both : Bool) : Refusing (s.mastRefusals v both) := by
  unfold State.mastRefusals
  repeat' first
    | exact refusing_nil | decide | with_reducible apply refusing_refuseIf
    | with_reducible refine refusing_append.2 ⟨?_, ?_⟩ | with_reducible refine refusing_cons.2 ⟨by decide, ?_⟩ | split

theorem tooLarge_refusing (s : State) (h : Hdr) (fieldsLen : Nat) : Refusing (s.tooLarge h fieldsLen) := by
  unfold State.tooLarge
  repeat' first
    | exact refusing_nil | decide | with_reducible apply refusing_refuseIf
    | with_reducible refine refusing_append.2 ⟨?_, ?_⟩ | with_reducible refine refusing_cons.2 ⟨by decide, ?_⟩ | split

theorem commonRefusals_refusing (s : State) (h : Hdr) (seat : Nat) (row : OpRow) (lengthOk : Bool) :
    Refusing (s.commonRefusals h seat row lengthOk) := by
  unfold State.commonRefusals
  repeat' first
    | exact refusing_nil | decide | with_reducible apply refusing_refuseIf
    | with_reducible refine refusing_append.2 ⟨?_, ?_⟩ | with_reducible refine refusing_cons.2 ⟨by decide, ?_⟩ | split

theorem schedRefusals_refusing (s : State) (h : Hdr) (row : OpRow) : Refusing (s.schedRefusals h row) := by
  unfold State.schedRefusals
  repeat' first
    | exact refusing_nil | decide | with_reducible apply refusing_refuseIf
    | with_reducible refine refusing_append.2 ⟨?_, ?_⟩ | with_reducible refine refusing_cons.2 ⟨by decide, ?_⟩ | split

theorem noRampSpace_refusing (s : State) (code eff dflt : Nat) (p : List Byte) : Refusing (s.noRampSpace code eff dflt p) := by
  unfold State.noRampSpace
  repeat' first
    | exact refusing_nil | decide | with_reducible apply refusing_refuseIf
    | with_reducible refine refusing_append.2 ⟨?_, ?_⟩ | with_reducible refine refusing_cons.2 ⟨by decide, ?_⟩ | split

theorem entryRefusals_refusing (s : State) (seat code eff : Nat) (p : List Byte) :
    Refusing (s.entryRefusals seat code eff p) := by
  unfold State.entryRefusals
  repeat' first
    | exact refusing_nil | decide | with_reducible apply refusing_refuseIf
    | with_reducible refine refusing_append.2 ⟨?_, ?_⟩ | with_reducible refine refusing_cons.2 ⟨by decide, ?_⟩ | split

theorem chunkRefusals_refusing (s : State) (t : LoadTarget) (seat : Nat) (p : List Byte) (maxLen : Nat) :
    Refusing (s.chunkRefusals t seat p maxLen) := by
  unfold State.chunkRefusals
  repeat' first
    | exact refusing_nil | decide | with_reducible apply refusing_refuseIf
    | with_reducible refine refusing_append.2 ⟨?_, ?_⟩ | with_reducible refine refusing_cons.2 ⟨by decide, ?_⟩ | split

theorem bankRefusals_refusing (s : State) (mast bank : Nat) : Refusing (s.bankRefusals mast bank) := by
  unfold State.bankRefusals
  repeat' first
    | exact refusing_nil | decide | with_reducible apply mastRefusals_refusing
    | with_reducible apply refusing_refuseIf | with_reducible refine refusing_append.2 ⟨?_, ?_⟩
    | with_reducible refine refusing_cons.2 ⟨by decide, ?_⟩ | split

theorem accessRefusals_refusing (s : State) (p : List Byte) : Refusing (s.accessRefusals p) := by
  unfold State.accessRefusals
  repeat' first
    | exact refusing_nil | decide | with_reducible apply refusing_refuseIf
    | with_reducible refine refusing_append.2 ⟨?_, ?_⟩ | with_reducible refine refusing_cons.2 ⟨by decide, ?_⟩ | split

theorem marchRefusals_refusing (s : State) (target index : Nat) : Refusing (s.marchRefusals target index) := by
  unfold State.marchRefusals
  repeat' first
    | exact refusing_nil | decide | with_reducible apply refusing_refuseIf
    | with_reducible refine refusing_append.2 ⟨?_, ?_⟩ | with_reducible refine refusing_cons.2 ⟨by decide, ?_⟩ | split

theorem profileRefusals_refusing (s : State) (sigOk : Bool) : Refusing (s.profileRefusals sigOk) := by
  unfold State.profileRefusals
  repeat' first
    | exact refusing_nil | decide | with_reducible apply refusing_refuseIf
    | with_reducible refine refusing_append.2 ⟨?_, ?_⟩ | with_reducible refine refusing_cons.2 ⟨by decide, ?_⟩ | split

theorem activateRefusals_refusing (s : State) (p : List Byte) (seat : Nat) : Refusing (s.activateRefusals p seat) := by
  unfold State.activateRefusals
  repeat' first
    | exact refusing_nil | decide | with_reducible apply refusing_refuseIf
    | with_reducible refine refusing_append.2 ⟨?_, ?_⟩ | with_reducible refine refusing_cons.2 ⟨by decide, ?_⟩ | split

theorem clearRefusals_refusing (s : State) (p : List Byte) : Refusing (s.clearRefusals p) := by
  unfold State.clearRefusals
  repeat' first
    | exact refusing_nil | decide | with_reducible apply refusing_refuseIf
    | with_reducible refine refusing_append.2 ⟨?_, ?_⟩ | with_reducible refine refusing_cons.2 ⟨by decide, ?_⟩ | split

theorem messageRefusals_refusing (s : State) (p : List Byte) (seat : Nat) (sigOk : Bool) :
    Refusing (s.messageRefusals p seat sigOk) := by
  unfold State.messageRefusals
  repeat' first
    | exact refusing_nil | decide | with_reducible apply chunkRefusals_refusing
    | with_reducible apply refusing_refuseIf | with_reducible refine refusing_append.2 ⟨?_, ?_⟩
    | with_reducible refine refusing_cons.2 ⟨by decide, ?_⟩ | split

theorem aesRefusals_refusing (s : State) (p : List Byte) : Refusing (s.aesRefusals p) := by
  unfold State.aesRefusals
  repeat' first
    | exact refusing_nil | decide | with_reducible apply refusing_refuseIf
    | with_reducible refine refusing_append.2 ⟨?_, ?_⟩ | with_reducible refine refusing_cons.2 ⟨by decide, ?_⟩ | split

theorem commonStartRefusals_refusing (s : State) (p : List Byte) : Refusing (s.commonStartRefusals p) := by
  unfold State.commonStartRefusals
  repeat' first
    | exact refusing_nil | decide | with_reducible apply portPresence_refusing
    | with_reducible apply refusing_refuseIf | with_reducible refine refusing_append.2 ⟨?_, ?_⟩
    | with_reducible refine refusing_flatten fun _ => ?_ | with_reducible refine refusing_cons.2 ⟨by decide, ?_⟩ | split

theorem streamRxRefusals_refusing (s : State) (p : List Byte) : Refusing (s.streamRxRefusals p) := by
  unfold State.streamRxRefusals
  repeat' first
    | exact refusing_nil | decide | with_reducible apply presence_refusing
    | with_reducible apply refusing_refuseIf | with_reducible refine refusing_append.2 ⟨?_, ?_⟩
    | with_reducible refine refusing_cons.2 ⟨by decide, ?_⟩ | split

theorem streamTxRefusals_refusing (s : State) (p : List Byte) : Refusing (s.streamTxRefusals p) := by
  unfold State.streamTxRefusals
  repeat' first
    | exact refusing_nil | decide | with_reducible apply presence_refusing
    | with_reducible apply runPresence_refusing | with_reducible apply refusing_refuseIf
    | with_reducible refine refusing_append.2 ⟨?_, ?_⟩ | with_reducible refine refusing_cons.2 ⟨by decide, ?_⟩ | split

theorem patchRefusals_refusing (s : State) (p : List Byte) (seat : Nat) : Refusing (s.patchRefusals p seat) := by
  unfold State.patchRefusals
  repeat' first
    | exact refusing_nil | decide | with_reducible apply presence_refusing
    | with_reducible apply sourceRefusals_refusing | with_reducible apply refusing_refuseIf
    | with_reducible refine refusing_append.2 ⟨?_, ?_⟩ | with_reducible refine refusing_flatten fun _ => ?_
    | with_reducible refine refusing_cons.2 ⟨by decide, ?_⟩ | split

theorem hostAudioRefusals_refusing (s : State) (h : Hdr) (p : List Byte) : Refusing (s.hostAudioRefusals h p) := by
  unfold State.hostAudioRefusals
  repeat' first
    | exact refusing_nil | decide | with_reducible apply runPresence_refusing
    | with_reducible apply refusing_refuseIf | with_reducible refine refusing_append.2 ⟨?_, ?_⟩
    | with_reducible refine refusing_cons.2 ⟨by decide, ?_⟩ | split

theorem sdiAudioRefusals_refusing (s : State) (p : List Byte) : Refusing (s.sdiAudioRefusals p) := by
  unfold State.sdiAudioRefusals
  repeat' first
    | exact refusing_nil | decide | with_reducible apply presence_refusing
    | with_reducible apply refusing_refuseIf | with_reducible refine refusing_append.2 ⟨?_, ?_⟩
    | with_reducible refine refusing_cons.2 ⟨by decide, ?_⟩ | split

theorem sidetoneRefusals_refusing (s : State) (p : List Byte) : Refusing (s.sidetoneRefusals p) := by
  unfold State.sidetoneRefusals
  repeat' first
    | exact refusing_nil | decide | with_reducible apply presence_refusing
    | with_reducible apply refusing_refuseIf | with_reducible refine refusing_append.2 ⟨?_, ?_⟩
    | with_reducible refine refusing_cons.2 ⟨by decide, ?_⟩ | split

theorem ackRefusals_refusing (s : State) (p : List Byte) : Refusing (s.ackRefusals p) := by
  unfold State.ackRefusals
  repeat' first
    | exact refusing_nil | decide | with_reducible apply mastRefusals_refusing
    | with_reducible apply refusing_refuseIf | with_reducible refine refusing_append.2 ⟨?_, ?_⟩
    | with_reducible refine refusing_cons.2 ⟨by decide, ?_⟩ | split

theorem snapReadRefusals_refusing (s : State) (p : List Byte) : Refusing (s.snapReadRefusals p) := by
  unfold State.snapReadRefusals
  repeat' first
    | exact refusing_nil | decide | with_reducible apply pageRefusals_refusing
    | with_reducible apply refusing_refuseIf | with_reducible refine refusing_append.2 ⟨?_, ?_⟩
    | with_reducible refine refusing_cons.2 ⟨by decide, ?_⟩ | split

theorem giveRefusals_refusing (s : State) (p : List Byte) : Refusing (s.giveRefusals p) := by
  unfold State.giveRefusals
  repeat' first
    | exact refusing_nil | decide | with_reducible apply bankRefusals_refusing
    | with_reducible apply refusing_refuseIf | with_reducible refine refusing_append.2 ⟨?_, ?_⟩
    | with_reducible refine refusing_cons.2 ⟨by decide, ?_⟩ | split

theorem marchRunRefusals_refusing (s : State) (p : List Byte) : Refusing (s.marchRunRefusals p) := by
  unfold State.marchRunRefusals
  repeat' first
    | exact refusing_nil | decide | with_reducible apply mastRefusals_refusing
    | with_reducible apply marchRefusals_refusing | with_reducible apply refusing_refuseIf
    | with_reducible refine refusing_append.2 ⟨?_, ?_⟩ | with_reducible refine refusing_cons.2 ⟨by decide, ?_⟩ | split

theorem loopbackRefusals_refusing (s : State) (p : List Byte) : Refusing (s.loopbackRefusals p) := by
  unfold State.loopbackRefusals
  repeat' first
    | exact refusing_nil | decide | with_reducible apply mastRefusals_refusing
    | with_reducible apply refusing_refuseIf | with_reducible refine refusing_append.2 ⟨?_, ?_⟩
    | with_reducible refine refusing_cons.2 ⟨by decide, ?_⟩ | split

theorem videoPresence_refusing (v : Variant) (i : Nat) : Refusing (videoPresence v i) := by
  unfold videoPresence
  repeat' first
    | exact refusing_nil | decide | with_reducible apply presence_refusing | with_reducible apply refusing_refuseIf
    | with_reducible refine refusing_append.2 ⟨?_, ?_⟩ | with_reducible refine refusing_cons.2 ⟨by decide, ?_⟩ | split

theorem testPresence_refusing (v : Variant) (video : Bool) (i : Nat) : Refusing (testPresence v video i) := by
  unfold testPresence
  split
  · exact videoPresence_refusing v i
  · exact presence_refusing _ _ _

theorem testRouteRefusals_refusing (s : State) (p : List Byte) : Refusing (s.testRouteRefusals p) := by
  unfold State.testRouteRefusals
  repeat' first
    | exact refusing_nil | decide | with_reducible apply testPresence_refusing | with_reducible apply refusing_refuseIf
    | with_reducible refine refusing_append.2 ⟨?_, ?_⟩ | with_reducible refine refusing_cons.2 ⟨by decide, ?_⟩ | split

theorem modeRefusals_refusing (s : State) (seat : Nat) (p : List Byte) : Refusing (s.modeRefusals seat p) := by
  unfold State.modeRefusals
  repeat' first
    | exact refusing_nil | decide | with_reducible apply refusing_refuseIf
    | with_reducible refine refusing_append.2 ⟨?_, ?_⟩ | with_reducible refine refusing_cons.2 ⟨by decide, ?_⟩ | split

theorem resetRefusals_refusing (s : State) (p : List Byte) : Refusing (s.resetRefusals p) := by
  unfold State.resetRefusals
  repeat' first
    | exact refusing_nil | decide | with_reducible apply refusing_refuseIf
    | with_reducible refine refusing_append.2 ⟨?_, ?_⟩ | with_reducible refine refusing_cons.2 ⟨by decide, ?_⟩ | split

theorem paramSetRefusals_refusing (s : State) (h : Hdr) (p : List Byte) (seat : Nat) :
    Refusing (s.paramSetRefusals h p seat) := by
  unfold State.paramSetRefusals
  repeat' first
    | exact refusing_nil | decide | with_reducible apply noRampSpace_refusing
    | with_reducible apply entryRefusals_refusing | with_reducible apply refusing_refuseIf
    | with_reducible refine refusing_append.2 ⟨?_, ?_⟩ | with_reducible refine refusing_cons.2 ⟨by decide, ?_⟩ | split

theorem sceneRefusals_refusing (s : State) (h : Hdr) (p : List Byte) (seat : Nat) : Refusing (s.sceneRefusals h p seat) := by
  unfold State.sceneRefusals
  repeat' first
    | exact refusing_nil | decide | with_reducible apply noRampSpace_refusing
    | with_reducible apply entryRefusals_refusing | with_reducible apply refusing_refuseIf
    | with_reducible refine refusing_append.2 ⟨?_, ?_⟩ | with_reducible refine refusing_cons.2 ⟨by decide, ?_⟩ | split

theorem rigLoadRefusals_refusing (s : State) (seat : Nat) (p : List Byte) : Refusing (s.rigLoadRefusals seat p) := by
  unfold State.rigLoadRefusals
  repeat' first
    | exact refusing_nil | decide | with_reducible apply chunkRefusals_refusing
    | with_reducible apply refusing_refuseIf | with_reducible refine refusing_append.2 ⟨?_, ?_⟩
    | with_reducible refine refusing_cons.2 ⟨by decide, ?_⟩ | split

theorem tackRefusals_refusing (s : State) (h : Hdr) (p : List Byte) (seat : Nat) : Refusing (s.tackRefusals h p seat) := by
  unfold State.tackRefusals
  repeat' first
    | exact refusing_nil | decide | with_reducible apply refusing_refuseIf
    | with_reducible refine refusing_append.2 ⟨?_, ?_⟩ | with_reducible refine refusing_cons.2 ⟨by decide, ?_⟩ | split

theorem latencyRefusals_refusing (s : State) (p : List Byte) : Refusing (s.latencyRefusals p) := by
  unfold State.latencyRefusals
  repeat' first
    | exact refusing_nil | decide | with_reducible apply refusing_refuseIf
    | with_reducible refine refusing_append.2 ⟨?_, ?_⟩ | with_reducible refine refusing_cons.2 ⟨by decide, ?_⟩ | split

theorem profileApplyRefusals_refusing (s : State) (h : Hdr) (p : List Byte) (seat : Nat) (sigOk : Bool) :
    Refusing (s.profileApplyRefusals h p seat sigOk) := by
  unfold State.profileApplyRefusals
  dsimp only
  repeat' first
    | exact refusing_nil | decide | with_reducible apply commonRefusals_refusing
    | with_reducible apply profileRefusals_refusing | with_reducible apply refusing_refuseIf
    | with_reducible refine refusing_append.2 ⟨?_, ?_⟩ | with_reducible refine refusing_take ?_
    | with_reducible refine refusing_cons.2 ⟨by decide, ?_⟩ | split

theorem firmwareRefusals_refusing (s : State) (sigOk : Bool) : Refusing (s.firmwareRefusals sigOk) := by
  unfold State.firmwareRefusals
  repeat' first
    | exact refusing_nil | decide | with_reducible apply refusing_refuseIf
    | with_reducible refine refusing_append.2 ⟨?_, ?_⟩ | with_reducible refine refusing_cons.2 ⟨by decide, ?_⟩ | split

theorem lifecycleRefusals_refusing (s : State) (p : List Byte) (seat : Nat) (sigOk : Bool) :
    Refusing (s.lifecycleRefusals p seat sigOk) := by
  unfold State.lifecycleRefusals
  repeat' first
    | exact refusing_nil | decide | with_reducible apply refusing_refuseIf
    | with_reducible refine refusing_append.2 ⟨?_, ?_⟩ | with_reducible refine refusing_cons.2 ⟨by decide, ?_⟩ | split

theorem keyRefusals_refusing (s : State) (p : List Byte) (unwrapOk : Bool) : Refusing (s.keyRefusals p unwrapOk) := by
  unfold State.keyRefusals
  repeat' first
    | exact refusing_nil | decide | with_reducible apply refusing_refuseIf
    | with_reducible refine refusing_append.2 ⟨?_, ?_⟩ | with_reducible refine refusing_cons.2 ⟨by decide, ?_⟩ | split

theorem realignRefusals_refusing (s : State) (h : Hdr) (p : List Byte) : Refusing (s.realignRefusals h p) := by
  unfold State.realignRefusals
  repeat' first
    | exact refusing_nil | decide | with_reducible apply refusing_refuseIf
    | with_reducible refine refusing_append.2 ⟨?_, ?_⟩ | with_reducible refine refusing_cons.2 ⟨by decide, ?_⟩ | split

theorem xptRefusals_refusing (s : State) (salvo : Bool) (p : List Byte) : Refusing (s.xptRefusals salvo p) := by
  unfold State.xptRefusals
  repeat' first
    | exact refusing_nil | decide | with_reducible apply refusing_refuseIf
    | with_reducible refine refusing_append.2 ⟨?_, ?_⟩ | with_reducible refine refusing_cons.2 ⟨by decide, ?_⟩ | split

theorem flowRxRefusals_refusing (s : State) (p : List Byte) : Refusing (s.flowRxRefusals p) := by
  unfold State.flowRxRefusals
  repeat' first
    | exact refusing_nil | decide | with_reducible apply refusing_refuseIf
    | with_reducible refine refusing_append.2 ⟨?_, ?_⟩ | with_reducible refine refusing_cons.2 ⟨by decide, ?_⟩ | split

theorem flowTxRefusals_refusing (s : State) (p : List Byte) : Refusing (s.flowTxRefusals p) := by
  unfold State.flowTxRefusals
  repeat' first
    | exact refusing_nil | decide | with_reducible apply refusing_refuseIf
    | with_reducible refine refusing_append.2 ⟨?_, ?_⟩ | with_reducible refine refusing_cons.2 ⟨by decide, ?_⟩ | split

end Sys2Proof.Machine
end

