-- ==== Sys2Proof/WellFormed.lean ====
section
/-! DEFINITION. The commands that can be put to the block: every field of a header within its width (R138), a payload of the
length stated, and every number that names a unit within the range of its kind. The meanings are total on every command;
a statement that needs these bounds names `Instr.wf`. -/
namespace Sys2Proof
open Sys2Proof.Machine

/-- Every field of a header within its width (R138). -/
def Machine.Hdr.wf (h : Hdr) : Bool :=
  decide (h.magic < 65536) && decide (h.version < 256) && decide (h.kind < 256) && decide (h.flags < 65536) &&
  decide (h.seat < 65536) && decide (h.rsv10 < 65536) && decide (h.hostSeq < 2 ^ 32) && decide (h.devSeq < 2 ^ 32) &&
  decide (h.effStep < 2 ^ 64) && decide (h.payloadLen < 2 ^ 32) && decide (h.status < 65536) && decide (h.rsv34 < 65536) &&
  decide (h.session < 2 ^ 32)

/-- The payload is what PAYLOAD_LEN says, where the packet has the length that its header states. -/
def payloadWf (h : Hdr) (p : List Byte) : Bool := h.wireLen != 56 + h.payloadLen || p.length == h.payloadLen

/-- A symbol of a memory (R486, R515). -/
def Machine.SymFail.wf (x : SymFail) : Bool := decide (x.memory < 64) && decide (x.bank < 16) && decide (x.row < 65536) && decide (x.column < 768)

/-- A load's target (R185). -/
def Machine.LoadTarget.wf : LoadTarget → Bool
  | .rig => true
  | .image k => decide (k < 3)
  | .message i => decide (i < 64)

/-- Fields of a frame within their widths: a media port, and a MAC address. -/
def Machine.FrameFacts.wf (x : FrameFacts) : Bool := decide (x.port < 128) && decide (x.dest < 2 ^ 48)

/-- Fields of a ring descriptor within their widths, the buffer on a 64-byte boundary (R146). -/
def Machine.Desc.wf (d : Desc) : Bool := d.addr % 64 == 0 && decide (d.addr < 2 ^ 64) && decide (d.len < 2 ^ 32)

/-- Fields of a UDP packet within their widths. -/
def Machine.RtpFacts.wf (r : RtpFacts) : Bool :=
  r.frame.wf && (r.ipVer == 4 || r.ipVer == 6) && decide (r.dest < 2 ^ 128) && decide (r.src < 2 ^ 128) && decide (r.port < 65536) &&
  decide (r.ssrc < 2 ^ 32) && decide (r.version < 4) && decide (r.seq < 65536) && decide (r.ts < 2 ^ 32)

/-- A command is well formed. -/
def Instr.wf : Instr → Bool
  | .sessionOpen h p _ => h.wf && payloadWf h p
  | .sessionConfirm h p => h.wf && payloadWf h p
  | .sessionClose h p => h.wf && payloadWf h p
  | .sessionStatus h p => h.wf && payloadWf h p
  | .sessionEvents h p => h.wf && payloadWf h p
  | .ledgerRead h p => h.wf && payloadWf h p
  | .identGet h p => h.wf && payloadWf h p
  | .capsGet h p => h.wf && payloadWf h p
  | .lockoutRecordGet h p => h.wf && payloadWf h p
  | .modeGet h p => h.wf && payloadWf h p
  | .modeSet h p => h.wf && payloadWf h p
  | .reset h p => h.wf && payloadWf h p
  | .rigLoad h p => h.wf && payloadWf h p
  | .rigVerify h p => h.wf && payloadWf h p
  | .tack h p => h.wf && payloadWf h p
  | .rigDiscard h p => h.wf && payloadWf h p
  | .rigStatus h p => h.wf && payloadWf h p
  | .rigLatency h p => h.wf && payloadWf h p
  | .paramSet h p => h.wf && payloadWf h p
  | .paramGet h p => h.wf && payloadWf h p
  | .sceneRecall h p => h.wf && payloadWf h p
  | .rampDefaultSet h p => h.wf && payloadWf h p
  | .rampStatus h p => h.wf && payloadWf h p
  | .aesConfig h p => h.wf && payloadWf h p
  | .audioStatus h p => h.wf && payloadWf h p
  | .commonStart h p => h.wf && payloadWf h p
  | .streamRxSet h p => h.wf && payloadWf h p
  | .streamTxSet h p => h.wf && payloadWf h p
  | .patchSet h p => h.wf && payloadWf h p
  | .hostAudioSet h p => h.wf && payloadWf h p
  | .sdiAudioSet h p => h.wf && payloadWf h p
  | .sidetoneSet h p => h.wf && payloadWf h p
  | .xptSwitch h p => h.wf && payloadWf h p
  | .xptSalvo h p => h.wf && payloadWf h p
  | .xptStatus h p => h.wf && payloadWf h p
  | .flowRxSet h p => h.wf && payloadWf h p
  | .flowTxSet h p => h.wf && payloadWf h p
  | .flowRead h p => h.wf && payloadWf h p
  | .timebaseStatus h p => h.wf && payloadWf h p
  | .referenceStatus h p => h.wf && payloadWf h p
  | .timingHistory h p => h.wf && payloadWf h p
  | .ptpStatus h p => h.wf && payloadWf h p
  | .realign h p => h.wf && payloadWf h p
  | .tandemStatus h p => h.wf && payloadWf h p
  | .tandemSwap h p => h.wf && payloadWf h p
  | .digestStatus h p => h.wf && payloadWf h p
  | .shroudStatus h p => h.wf && payloadWf h p
  | .faultLogRead h p => h.wf && payloadWf h p
  | .faultAck h p => h.wf && payloadWf h p
  | .counterRead h p => h.wf && payloadWf h p
  | .snapshot h p => h.wf && payloadWf h p
  | .snapshotRead h p => h.wf && payloadWf h p
  | .health h p => h.wf && payloadWf h p
  | .bankGive h p => h.wf && payloadWf h p
  | .bankHandover _ i _ => decide (i < 16)
  | .bankRead h p => h.wf && payloadWf h p
  | .bankWrite h p => h.wf && payloadWf h p
  | .marchRun h p => h.wf && payloadWf h p
  | .loopbackSet h p => h.wf && payloadWf h p
  | .testRouteSet h p => h.wf && payloadWf h p
  | .repairMapRead h p => h.wf && payloadWf h p
  | .lifecycleGet h p => h.wf && payloadWf h p
  | .certRead h p => h.wf && payloadWf h p
  | .ownerEnrol h p _ => h.wf && payloadWf h p
  | .imageLoad h p => h.wf && payloadWf h p
  | .profileApply h p _ => h.wf && payloadWf h p
  | .firmwareApply h p _ => h.wf && payloadWf h p
  | .lifecycleSet h p _ => h.wf && payloadWf h p
  | .keyProvision h p key _ => h.wf && payloadWf h p && decide (key < 2 ^ 256)
  | .rtcSet h p => h.wf && payloadWf h p
  | .alarmActivate h p => h.wf && payloadWf h p
  | .alarmClear h p => h.wf && payloadWf h p
  | .alarmStatus h p => h.wf && payloadWf h p
  | .messageLoad h p _ => h.wf && payloadWf h p
  | .messageList h p => h.wf && payloadWf h p
  | .alarmInputStatus h p => h.wf && payloadWf h p
  | .fallbackTest h p => h.wf && payloadWf h p
  | .fallbackTestDone => true
  | .unknownOpcode h code p => h.wf && payloadWf h p && decide (code < 65536)
  | .halyardPacketDiscard h => h.wf
  | .sessionIdleTimeout => true
  | .loadTimeout t => t.wf
  | .cmdTailDoorbell _ v => decide (v < 2 ^ 32)
  | .commandDescriptorDone _ d _ => d.wf
  | .replyTailDoorbell _ v => decide (v < 2 ^ 32)
  | .replyPacketWrite _ d _ => d.wf
  | .ringEnableWrite _ v => decide (v < 2 ^ 32)
  | .intStatusClear _ v => decide (v < 2 ^ 32)
  | .intEnableWrite _ v => decide (v < 2 ^ 32)
  | .msixHoldoffExpiry _ => true
  | .windowHighHalfLatch _ _ _ v => decide (v < 2 ^ 32)
  | .windowRegisterWrite _ _ v => decide (v < 2 ^ 32)
  | .pcieReset _ _ => true
  | .cspWrite _ _ _ => true
  | .cspRead _ _ => true
  | .cspStatus _ => true
  | .cspFramingDiscard _ first => decide (first < 256)
  | .transportEngineReset _ _ _ => true
  | .mgmtServiceFrame _ _ => true
  | .remapWrite _ _ _ => true
  | .watchdogExpiry _ => true
  | .powerGood _ => true
  | .bootPhaseComplete _ f => f.fails.all SymFail.wf
  | .bootFailure _ => true
  | .bootEnd => true
  | .resetNAssert _ _ => true
  | .mainPowerLoss => true
  | .tamperTrip _ src => decide (0xF0 ≤ src) && decide (src ≤ 0xF3)
  | .lifecycleReset => true
  | .imageWriteDone _ => true
  | .watchFadeEnd => true
  | .wakeStep => true
  | .lateWake _ => true
  | .onBattChange _ _ => true
  | .shedStep => true
  | .restoreStep => true
  | .alarmInputSample _ i _ _ => decide (i < 8)
  | .alarmInputDebounced _ i => decide (i < 8)
  | .alarmTestPulse _ i _ => decide (i < 8)
  | .alarmInputAction _ => true
  | .alarmInputSolo _ i => decide (i < 8)
  | .messagePlayBoundary msg => decide (msg < 64)
  | .messageChunkFailure _ msg chunk _ => decide (msg < 64) && decide (chunk < 65536)
  | .alarmStreamMessage _ n r _ _ _ => decide (n < 8) && r.wf
  | .alarmStreamSilence n => decide (n < 8)
  | .stepBoundary _ => true
  | .preStartPulse => true
  | .rampEnd => true
  | .stepFailure _ g => decide (g < 8)
  | .digestReceived _ _ => true
  | .digestCompare _ => true
  | .effectiveStepApply => true
  | .commitReceived _ _ => true
  | .tackEnd => true
  | .rigVerifyDone _ => true
  | .snapshotEvent => true
  | .healthEvent => true
  | .audioPacketRx _ r _ _ => r.wf
  | .packetExpectedTimeout _ st seq => decide (st < 512) && decide (seq < 65536)
  | .gapNoticeRx _ video st seq => decide (st < (if video then 1536 else 512)) && decide (seq < 65536)
  | .forwardedPacketRx _ st seq _ => decide (st < 512) && decide (seq < 65536)
  | .packetDeadline _ st seq => decide (st < 512) && decide (seq < 65536)
  | .audioPortEventDeferred _ cls idx => decide (cls < 7) && decide (idx < 512)
  | .aes3FrameRx _ f => decide (f.port < 16)
  | .captureAssignmentRx _ x => decide (x.cls < 5)
  | .asrcEstimateRx _ cls _ _ ratio => decide (cls < 5) && decide (ratio < 2 ^ 64)
  | .asrcLock _ cls _ ratio => decide (cls < 5) && decide (ratio < 2 ^ 64)
  | .aes3InputLock _ port rate => decide (port < 16) && decide (rate < 256)
  | .aes3InputUnlock _ port => decide (port < 16)
  | .singleHomedChange cls _ => decide (cls < 5)
  | .sdiAudioPacket _ p => decide (p.port < 64) && decide (p.group < 4)
  | .videoPacketRx _ r _ => r.wf
  | .flowMissEvent _ => true
  | .flowUnrepaired _ port ts _ => decide (ts < 2 ^ 32) && decide (port < 1536)
  | .membershipQuery _ => true
  | .formatRecognised _ i fmt => decide (i < 1536) && decide (fmt < 256)
  | .arrivalMeasurement _ i _ _ _ => decide (i < 1536)
  | .switchFinalDecision o _ => decide (o < 1536)
  | .stokerOwnSwitchDecision o => decide (o < 1536)
  | .switchPoint o => decide (o < 1536)
  | .sourceChange o _ _ => decide (o < 1536)
  | .fabricOverload => true
  | .cellCrcMismatch _ region cell => decide (region < 4) && decide (cell < 392)
  | .laneLos _ l _ => decide (l < 233)
  | .laneLol _ l _ => decide (l < 233)
  | .laneErrorBurst _ l _ => decide (l < 233)
  | .laneSelfTestResult _ l _ => decide (l < 233)
  | .laneBringupTimeout _ l => decide (l < 233)
  | .laneAligned _ l _ _ _ => decide (192 ≤ l) && decide (l < 232)
  | .markerSend _ l => decide (192 ≤ l) && decide (l < 232)
  | .containerRx _ l cls seq blocks _ _ =>
      decide (192 ≤ l) && decide (l < 232) && decide (cls < 16) && decide (1 ≤ blocks.length) && decide (blocks.length ≤ 256) &&
        blocks.all (fun b => decide (b < 2 ^ 64)) && decide (seq < 2 ^ 32)
  | .containerSeqSkip _ _ cls => decide (1 ≤ cls) && decide (cls ≤ 4)
  | .tandemBlockSend _ => true
  | .tandemBlockRx _ l _ => decide (192 ≤ l) && decide (l < 224)
  | .stayLinkUp => true
  | .stayLinkDown _ => true
  | .stayArbitration => true
  | .stayRejoinTimer => true
  | .faultReport _ src site _ _ => decide (src < 256) && decide (site < 2 ^ 32)
  | .takeCaptain _ => true
  | .releaseDrivers _ => true
  | .abruptTakeover _ _ _ => true
  | .steerReadbackFault _ _ => true
  | .slotPreloadEnd => true
  | .copyPassEnd _ => true
  | .joinStep => true
  | .stokerRejoin => true
  | .joinHoldExpiry _ => true
  | .logWrite _ => true
  | .burstClose _ src => decide (src < 256)
  | .targetedTestResult _ site _ => decide (site < 2 ^ 32)
  | .rowCopyEnd _ site => decide (site < 2 ^ 32)
  | .scrubRead _ memory bank row _ => decide (memory < 64) && decide (bank < 16) && decide (row < 65536)
  | .fallbackMemoryCheck _ _ _ => true
  | .messageStoreCheck _ fails => fails.all (fun x => decide (x.1 < 64))
  | .otpRepairWrite _ => true
  | .writeHoldoffEnd _ _ => true
  | .marchDone _ target index first again _ => decide (target < 4) && decide (index < 32) && first.all SymFail.wf && again.all SymFail.wf
  | .telltaleWindowEnd _ rows => rows.all (fun w => decide (w.cand < 88)) && distinct (rows.map (fun w => w.cand))
  | .candidateAbsent _ i => decide (i < 87)
  | .timebaseLocked t _ => decide (t < 4)
  | .holdoverLimit t => decide (t < 4)
  | .xoCheck _ _ _ => true
  | .xoCalibrationUpdate _ _ => true
  | .phaseMarker t _ => decide (t < 4)
  | .realignEffective t => decide (t < 4)
  | .realignResume _ => true
  | .ptpMessageRx _ x => decide (x.port < 128) && decide (x.domain < 256) && decide (x.seq < 65536)
  | .syncPairTimeout _ t => decide (t < 4)
  | .delayReqSend _ t _ => decide (t < 4)
  | .ptpOffsetSecond t => decide (t < 4)
  | .jumpDecision t => decide (t < 4)
  | .rtcUpdate => true
  | .pllLoss _ p _ => decide (p < 7)
  | .pllGraceEnd _ p => decide (p < 7)
  | .pllRelock _ p => decide (p < 7)
  | .derailleurHang _ d _ _ _ => decide (d < 8)
  | .syncDivEdge _ => true
  | .freewheelClose _ block => decide (block < 47)
  | .forcedClosureTimeout _ block => decide (block < 47)
  | .forcedClosureRetry _ block _ => decide (block < 47)
  | .frequencyMeasurement _ tap _ _ _ => decide (tap < 16)
  | .droopTrip _ g => decide (g < 13)
  | .droopStretchEnd _ g => decide (g < 12)
  | .railWarningDip _ rail _ => decide (rail < 9)
  | .sagRecovery _ rail => decide (rail < 9)
  | .railResetLevel _ rail => decide (rail < 9)
  | .pmbusAlert _ words => words.length == 3
  | .avsUpdate _ demands => demands.length == 12
  | .pmbusFailure _ rail _ => decide (rail < 3)
  | .temperatureReading _ die _ => decide (die < 3)
  | .shroudLinkUp _ => true
  | .shroudLinkDown _ => true
  | .beatSend _ => true
  | .helloRx _ nonce cert _ => nonce.length == 32 && cert.length == 48
  | .shroudRekey _ => true
  | .shroudPairing _ => true
  | .shroudMeasurement _ _ => true
  | .reserveDigestCompare _ ds _ => ds.length == 8
  | .reserveTrackRetry => true
  | .presenceBeaconSend => true
  | .presenceBeaconRx _ => true
  | .takeoverDelayExpiry => true
  | .barePolesNoticeRx => true
  | .reserveTakeover => true
  | .pllLaneRelockTimeout _ r => decide (r < 4)
  | .resetNRelease _ => true
  | .messageWriteDone i => decide (i < 64)
  | .tlAliveDead _ => true
  | .eyeMeasurement _ l _ _ => decide (l < 233)

end Sys2Proof
end

