-- ==== Sys2Proof/Tests/Slice0.lean ====
section
/-! SUPPORT. Tests: a witness for the hypotheses of every statement, with boundary values of their ranges; the worked examples
of the spec; and commands that are not well formed. -/
set_option maxRecDepth 8000
namespace Sys2Proof.Tests
open Sys2Proof Sys2Proof.Machine Host

/-! ### States that the tests start from -/

/-- A mast that runs: powered, out of BOOT. -/
def bootDone : BootState := { BootState.off with powerGood := true, fallbackReady := true, remap := true, firmwareOk := true }

/-- The lines and the drive of a mast with a role. -/
def mastAs (st : TandemSt) : MastTandem :=
  { MastTandem.reset with
    st := st, lines := { TLines.idle with alive0 := true, alive1 := true, hold0 := st == .captain, hold1 := st == .captain },
    drive := { Drive.off with single := st == .captain, live := true, packets := true }, steer := st == .captain }

/-- The package in QUIET and in Tandem, Mast A the Captain, with nothing loaded. -/
def quiet : State :=
  { State.reset with
    now := 3000000000000, step := 48000
    md := { ModeState.reset with
      mode := .quiet, boot := .same bootDone, mixOn := .same true, routeOn := .same true
      nest := { Nest.first with blank := false } }
    tan := { Tandem.reset with
      m := { a := mastAs .captain, b := mastAs .stoker }
      stay := { Tandem.reset.stay with up := true } } }

/-- The package in another mode. -/
def inMode (m : Mode) : State := { quiet with md := { quiet.md with mode := m } }

/-- The same with Mast A alone. -/
def solo : State :=
  { quiet with tan := { quiet.tan with m := { a := mastAs .captain, b := MastTandem.reset } } }

/-- A state with an open session of seat 2 in a role, over PCI Express of Mast A. -/
def withSeat (s : State) (role : Nat) : State :=
  let x : Session := { id := 7, seat := 2, mast := .a, transport := .pcie, pending := false, openedAt := 0, lastCmd := s.now,
                       source := 0, ipv6 := false, keyIn := [], keyOut := [], devUsed := 0, hostUsed := 0 }
  { s with hal := { s.hal with sessions := [x], seats := setAt s.hal.seats 2 { s.seat 2 with role := role, prioLimit := 4 } } }

/-- The session that `withSeat` opens. -/
def session7 (s : State) : Session :=
  { id := 7, seat := 2, mast := .a, transport := .pcie, pending := false, openedAt := 0, lastCmd := s.now, source := 0,
    ipv6 := false, keyIn := [], keyOut := [], devUsed := 0, hostUsed := 0 }

/-- The header of an in-order command of that session with `n` bytes of payload. -/
def hdr (n : Nat) : Hdr :=
  { mast := .a, transport := .pcie, magic := 0xE5A1, version := 1, kind := 1, flags := 0, seat := 2, rsv10 := 0, hostSeq := 1,
    devSeq := 0, effStep := 0, payloadLen := n, status := 0, rsv34 := 0, session := 7, wireLen := 56 + n, tagOk := true,
    source := 0, ipv6 := false }

/-! ### Halyard commands -/

/-- Every check of `State.Accepts`. -/
def acceptsB (s : State) (h : Hdr) (x : Session) : Bool :=
  decide (s.md.mode ≠ .vault) && decide (s.md.mode ≠ .boot) && decide ((s.md.boot.get h.mast).phase = 0) &&
  !s.transportStopped h && decide ((s.takeInbound h).discardCause h false = none) &&
  decide ((s.takeInbound h).findSession h = some x) && decide (h.seat = x.seat) && decide (x.seat < s.hal.seats.length) &&
  decide ((((s.takeInbound h).touch h).seat x.seat).classify h.hostSeq = .inOrder)

theorem accepts_of {s : State} {h : Hdr} {x : Session} (e : acceptsB s h x = true) : s.Accepts h x := by
  simp only [acceptsB, Bool.and_eq_true, decide_eq_true_eq, Bool.not_eq_true'] at e
  exact ⟨e.1.1.1.1.1.1.1.1, e.1.1.1.1.1.1.1.2, e.1.1.1.1.1.1.2, e.1.1.1.1.1.2, e.1.1.1.1.2, e.1.1.1.2, e.1.1.2, e.1.2, e.2⟩

/-- The state in which a command of seat 2 in a role is carried out. -/
def accState (s : State) (role : Nat) (p : List Byte) : State := (withSeat s role).accepted (hdr p.length) (session7 s)

/-- A command of seat 2 in a role, with a payload, meets every hypothesis of its statement: it is accepted, no check of the
opcode table, of scheduling or of the reply's length fails, and none of its own does. -/
def ready (s : State) (role code : Nat) (p : List Byte) (len : State → Nat) (own : State → List Nat) : Bool :=
  let h := hdr p.length
  let a := accState s role p
  acceptsB (withSeat s role) h (session7 s) &&
  (match opRow code with
   | some row => (a.commonRefusals h 2 row true).isEmpty && (a.schedRefusals h row).isEmpty
   | none => false) && (a.tooLarge h (len a)).isEmpty && (own a).isEmpty

theorem ready_spec {s : State} {role code : Nat} {p : List Byte} {len : State → Nat} {own : State → List Nat}
    (e : ready s role code p len own = true) :
    (withSeat s role).Accepts (hdr p.length) (session7 s) ∧ (accState s role p).Permits (hdr p.length) 2 code true ∧
      (accState s role p).Schedules (hdr p.length) code ∧ (accState s role p).Fits (hdr p.length) (len (accState s role p)) ∧
      own (accState s role p) = [] := by
  unfold ready at e
  cases hr : opRow code with
  | none => simp [hr] at e
  | some row =>
    simp only [hr, Bool.and_eq_true, List.isEmpty_iff] at e
    exact ⟨accepts_of e.1.1.1, ⟨row, hr, e.1.1.2.1⟩, ⟨row, hr, e.1.1.2.2⟩, e.1.2, e.2⟩

/-- Such a command is answered with ST_OK under its own opcode. -/
def carried (s : State) (role code : Nat) (p : List Byte) (len : State → Nat) (own : State → List Nat)
    (i : Hdr → List Byte → Instr) : Bool :=
  ready s role code p len own &&
  match exec (i (hdr p.length) p) (withSeat s role) with
  | .next t => decide ((t.lastReply 2).map (fun r => (r.opcode, r.status)) = some (code, stOk))
  | _ => false

/-- Such a command is queued, and owes its reply until the Stoker has its commit; the Captain alone answers at once. -/
def queues (s : State) (role code : Nat) (p : List Byte) (own : State → List Nat) (i : Hdr → List Byte → Instr) : Bool :=
  ready s role code p (fun _ => 0) own &&
  match exec (i (hdr p.length) p) (withSeat s role) with
  | .next t => decide (t.hal.sched.getLast?.map (fun c => (c.code, c.due.isSome)) = some (code, s.commits)) &&
      decide ((t.lastReply 2).map (fun r => (r.opcode, r.status)) = if s.commits then none else some (code, stOk))
  | _ => false

/-- A command without checks of its own. -/
def plain (s : State) (role code len : Nat) (p : List Byte) (i : Hdr → List Byte → Instr) : Bool :=
  carried s role code p (fun _ => len) (fun _ => []) i

/-- A rig of one parameter, which ramps between 0 and 1000, and its scene 0. -/
def tinyRig : List Byte :=
  zeros 18 ++ be 1 3 ++ zeros 109 ++ (be 2 6 ++ be 2 0 ++ be 4 176 ++ be 4 8 ++ be 4 1) ++
    (be 2 7 ++ be 2 0 ++ be 4 184 ++ be 4 32 ++ be 4 1) ++ (be 2 8 ++ be 2 0 ++ be 4 216 ++ be 4 16 ++ be 4 1) ++
    zeros 8 ++ (be 2 1 ++ zeros 6 ++ be 8 0 ++ be 8 1000 ++ be 8 0) ++ (zeros 8 ++ be 8 500)

/-- A profile with lane 0 of each mast for every address of IPv4 and one alarm zone. -/
def prof : Profile :=
  let port (m : Nat) : PortItem :=
    { lane := 0, mode := 1, fec := 0, laneFlags := 0, ptpPorts := 0, tcGroup := 0, mast := m, txSwing := 0, asymNs := 0,
      mac := 0, mtu := 1500, ipv4 := 0, ipv4Prefix := 0, ipv6Prefix0 := 0, ipv6Prefix1 := 0, ipv6a := 0, ipv6b := 0,
      rangeFirst := 0, rangeCount := 1 }
  { seq := 1, variant := 1, deviceCertHash := [], alertHash := [], hash := [],
    global := { internalRate := 0, endMode := 3, packageRole := 2, videoPrimary := 0, syncRaster := 0, wclkRate := 0,
                ptpTransport := 0, shroudFence := 8, holdoverLimit := 60, xoTol := 0, xoDrift := 0, takeoverMs := 100,
                alarmMinGain := 0, peerCertHash := [] },
    seats := [], timebases := [], ports := [port 0, port 1], ranges := [{ ipVer := 4, prefixLen := 0, address := 0 }],
    mgmt := [], zones := [{ zone := 5, floor := 7, outFirst := 0, outCount := 0, gain := 0 }], zoneOutputs := [],
    zoneList := [5],
    alarmInputs := [{ input := 0, flags := 0, priority := 1, sourceKind := 2, sourceIndex := 0, zoneFirst := 0,
                      zoneCount := 1, fallback := 0 }],
    alarmStreams := [], outChannels := [], sinks := [], videoOutputs := [], streams := [], patch := [] }

/-- The package in SERVICE with that profile, and `tinyRig` active and verified. -/
def service : State :=
  { inMode .service with
    rigs := { RigSlots.reset with active := some tinyRig, state := .verified, image := tinyRig }
    sec := { Security.reset with lifecycle := 3, ownerKey := zeros 97, profile := some prof } }

/-- The package in MAINTAIN with the profile. -/
def maintain : State := { service with md := { quiet.md with mode := .maintain } }

/-- A page request: FIRST, COUNT and two bytes of zero. -/
def page (first count : Nat) : List Byte := be 4 first ++ be 2 count ++ zeros 2

theorem witness_RecordsAreRead :
    ([plain quiet 1 0x0104 20 [] .sessionStatus, plain quiet 1 0x0201 144 [] .identGet, plain quiet 1 0x0202 64 [] .capsGet,
      plain quiet 1 0x0203 152 [] .lockoutRecordGet, plain quiet 1 0x0C01 8 [] .lifecycleGet,
      plain quiet 1 0x0C02 0 (zeros 8) .certRead, plain quiet 1 0x0301 12 [] .modeGet, plain quiet 1 0x0405 32 [] .rigStatus,
      carried service 1 0x0406 (zeros 8 ++ be 2 1 ++ zeros 2) (fun _ => 8)
        (fun a => a.latencyRefusals (zeros 8 ++ be 2 1 ++ zeros 2)) .rigLatency,
      plain service 1 0x0502 8 (page 0 1) .paramGet, plain quiet 1 0x0505 64 [] .rampStatus] : List Bool).all id := by
  decide

theorem witness_MediaAndTimingReads :
    ([carried quiet 1 0x0602 (zeros 8 ++ be 2 1 ++ zeros 2) (fun a => 16 * a.serving) (fun _ => []) .audioStatus,
      carried quiet 1 0x0602 (be 1 3 ++ zeros 7 ++ be 2 65535 ++ zeros 2) (fun a => 16 * a.serving) (fun _ => []) .audioStatus,
      plain quiet 1 0x0703 8 (page 1535 1) .xptStatus,
      carried quiet 1 0x0706 (page 0 1) (fun a => 16 * a.serving) (fun _ => []) .flowRead,
      carried quiet 1 0x0801 [] (fun a => 8 + 128 * a.serving) (fun _ => []) .timebaseStatus,
      carried quiet 1 0x0802 (page 87 1) (fun a => 16 * a.serving) (fun _ => []) .referenceStatus,
      carried quiet 1 0x0804 [] (fun a => 8 + 192 * a.serving) (fun _ => []) .ptpStatus,
      plain quiet 1 0x0901 16 [] .tandemStatus,
      carried quiet 1 0x0903 [] (fun a => 8 + 96 * a.serving) (fun _ => []) .digestStatus,
      plain quiet 1 0x0904 12 [] .shroudStatus] : List Bool).all id := by
  decide

/-- Bank 14 of Mast A, 4 bytes from OFFSET 65,532, the last of the bank. -/
def bankArea : List Byte := be 1 0 ++ be 1 14 ++ zeros 2 ++ be 4 (Config.bankBytes - 4) ++ be 4 4

/-- A counter set frozen under EPOCH 3. -/
def frozen : State := { quiet with ctr := .same { Counters.reset with shadowEpoch := 3, shadow := [(0x47, 5)] } }

theorem witness_RecordReadsAnswer :
    ([carried quiet 1 0x0A01 (page 1 1) (fun a => 8 + 8 * a.serving) (fun _ => []) .faultLogRead,
      carried quiet 1 0x0A03 (page 0 1) (fun a => 8 + 8 * a.serving) (fun _ => []) .counterRead,
      carried quiet 1 0x0B07 (page 0 1) (fun a => 8 + 8 * a.serving) (fun _ => []) .repairMapRead,
      carried quiet 4 0x0B02 bankArea (fun a => a.readLength bankArea) (fun a => a.accessRefusals bankArea) .bankRead,
      plain quiet 1 0x0D03 72 (page 0 1) .alarmStatus, plain quiet 1 0x0D05 1024 [] .messageList,
      carried quiet 1 0x0D06 [] (fun a => 8 + 64 * a.serving) (fun _ => []) .alarmInputStatus] : List Bool).all id ∧
    ready quiet 1 0x0A06 [] (fun a => 8 + 384 * a.serving) (fun _ => []) = true ∧
    carried frozen 1 0x0A05 (be 4 3 ++ be 4 0x47 ++ be 2 1 ++ zeros 2) (fun a => 8 + 8 * a.snapBlocks)
      (fun a => a.snapReadRefusals (be 4 3 ++ be 4 0x47 ++ be 2 1 ++ zeros 2)) .snapshotRead = true ∧
    (accState frozen 1 (zeros 12)).latestEpoch = 3 ∧ plain quiet 1 0x0803 8 [] .timingHistory = true := by
  decide

/-- Whether the reply of a command of seat 2 carries a status. -/
def repliedWith (s : State) (p : List Byte) (i : Hdr → List Byte → Instr) (st : Nat) : Bool :=
  match exec (i (hdr p.length) p) s with
  | .next t => decide ((t.lastReply 2).map (fun r => r.status) = some st)
  | _ => false

/-- A ledger of seat 2 that holds the sequences 2 and 3 and has lost sequence 1. -/
def ledger23 : State :=
  let e (n : Nat) : LedgerEntry :=
    { kind := 3, mast := 0, opcode := 0, flags := 0, status := 0, hostSeq := 0, devSeq := n, effStep := 0, payloadLen := 0,
      session := 7, head := [] }
  { quiet with hal := { quiet.hal with
      seats := setAt quiet.hal.seats 2 { quiet.seat 2 with role := 1, devSeq := 3, ledger := [e 2, e 3] } } }

/-- FROM 2 and FROM 3 are held; FROM 1 is a gap. -/
theorem witness_LedgerAndSessionCommands :
    ready ledger23 1 0x0106 (page 1 4096) (fun _ => 16) (fun _ => []) = true ∧
    repliedWith (withSeat ledger23 1) (page 1 4096) .ledgerRead stLedgerGap = true ∧
    repliedWith (withSeat ledger23 1) (page 2 1) .ledgerRead stOk = true ∧
    repliedWith (withSeat ledger23 1) (page 3 1) .ledgerRead stOk = true ∧
    plain quiet 1 0x0105 4 (be 2 0x3FFE ++ zeros 2) .sessionEvents = true ∧ plain quiet 1 0x0103 0 [] .sessionClose = true := by
  decide

/-- A SESSION_OPEN of seat 2 with a certificate of one byte, and facts under which it passes. -/
def openHdr : Hdr := { hdr 233 with hostSeq := 0, session := 0 }
def openPayload : List Byte := be 2 1 ++ zeros 231
def openFacts : OpenFacts :=
  { keyOnCurve := true, certBinds := true, notBefore := 0, notAfter := 0, signatureOk := true, tokenSigOk := true, tokenHashOk := true }

/-- A session of seat 2 that waits for its SESSION_CONFIRM. -/
def halfOpen : State :=
  let s := withSeat quiet 2
  { s with hal := { s.hal with sessions := [{ session7 quiet with pending := true }] } }

theorem witness_SessionsOpen :
    (withSeat quiet 2).openStatus openHdr openPayload openFacts = stOk ∧ (withSeat quiet 2).serves .a = true ∧
    56 + openHdr.payloadLen ≤ (withSeat quiet 2).packetLimit .a .pcie false ∧
    halfOpen.discardCause { hdr 0 with hostSeq := 0 } true = none ∧
    halfOpen.findSession { hdr 0 with hostSeq := 0 } = some { session7 quiet with pending := true } ∧
    repliedWith halfOpen [] (fun h p => .sessionConfirm { h with hostSeq := 0 } p) stOk = false ∧
    (match exec (.sessionConfirm { hdr 0 with hostSeq := 0 } []) halfOpen with
     | .next t => decide (t.hal.sessions.map (fun x => x.pending) = [false])
     | _ => false) = true := by
  decide

/-- A header that R139 discards under each of its causes. -/
theorem witness_PacketsAreGuarded :
    (withSeat quiet 2).discardCause { hdr 0 with magic := 0 } false = some 0 ∧
    (withSeat quiet 2).discardCause { hdr 0 with version := 2 } false = some 1 ∧
    (withSeat quiet 2).discardCause { hdr 0 with kind := 2 } false = some 2 ∧
    (withSeat quiet 2).discardCause { hdr 0 with payloadLen := 4041 } false = some 3 ∧
    (withSeat quiet 2).discardCause { hdr 0 with wireLen := 57 } false = some 4 ∧
    (withSeat quiet 2).discardCause { hdr 0 with session := 8 } false = some 5 ∧
    (withSeat quiet 2).discardCause { hdr 0 with tagOk := false } false = some 6 ∧
    acceptsB (withSeat quiet 2) (hdr 0) (session7 quiet) = true ∧ opRow 0x0D08 = none ∧
    repliedWith (withSeat quiet 2) [] (fun h p => .unknownOpcode h 0x0D08 p) stBadOpcode = true ∧
    halyardOf (.modeGet (hdr 0) []) = some (hdr 0, 0x0301) ∧
    ((withSeat quiet 2).seat 2).classify 2 = .outOfWindow ∧
    ({ (withSeat quiet 2).seat 2 with lastHostSeq := 1, accepted := [1] } : SeatState).classify 1 = .duplicate := by
  decide

theorem witness_TimeoutsClose :
    (match exec .sessionIdleTimeout { withSeat quiet 2 with now := quiet.now + 120 * Config.second } with
     | .next t => decide (t.hal.sessions = [])
     | _ => false) = true ∧
    (match exec .sessionIdleTimeout { withSeat quiet 2 with now := quiet.now + 120 * Config.second - 1 } with
     | .next t => decide (t.hal.sessions.length = 1)
     | _ => false) = true ∧
    ({ quiet with hal := { quiet.hal with loads := [{ target := .rig, seat := 2, total := 9, data := [], lastChunk := 0 }] } } :
      State).loadOf .rig = some { target := .rig, seat := 2, total := 9, data := [], lastChunk := 0 } ∧
    60 * Config.second ≤ quiet.now := by
  decide

/-- PARAM_SET of the one parameter of `tinyRig`, to 7. -/
def paramTo7 : List Byte := be 2 1 ++ zeros 2 ++ (be 4 0 ++ zeros 4 ++ be 8 7)

theorem witness_ControlCommands :
    ([queues quiet 2 0x0302 (be 1 4 ++ zeros 3) (fun a => a.modeRefusals 2 (be 1 4 ++ zeros 3)) .modeSet,
      queues quiet 4 0x0303 (be 1 2 ++ zeros 3) (fun a => a.resetRefusals (be 1 2 ++ zeros 3)) .reset,
      queues service 2 0x0501 paramTo7 (fun a => a.paramSetRefusals (hdr 20) paramTo7 2) .paramSet,
      queues service 2 0x0503 (zeros 4) (fun a => a.sceneRefusals (hdr 4) (zeros 4) 2) .sceneRecall,
      queues quiet 4 0x0504 (be 2 1 ++ zeros 2) (fun _ => []) .rampDefaultSet, queues solo 4 0x0504 (be 2 2000 ++ zeros 2) (fun _ => []) .rampDefaultSet,
      queues service 2 0x0403 (be 1 3 ++ zeros 7) (fun a => a.tackRefusals (hdr 8) (be 1 3 ++ zeros 7) 2) .tack,
      queues quiet 1 0x0A04 [] (fun _ => []) .snapshot] : List Bool).all id ∧
    ((accState service 2 (be 1 3 ++ zeros 7)).planFor (hdr 8) (be 1 3 ++ zeros 7) 2).isSome = true ∧
    (accState quiet 1 []).snap.pendingAt = none := by
  decide

/-- A destination of IPv4 as 16 bytes. -/
def dest4 : List Byte := be 16 0x01020304

/-- An activation of zone 5 by command, with the alert signal. -/
def act5 : Activation :=
  { trigger := 1, input := 0, priority := 7, source := { kind := 2, index := 0, from' := 0 }, repeats := 0, plays := 0, start := 0,
    zones := [5] }

/-- SERVICE with an offset pending on TB_1 and zone 5 activated. -/
def pendingTb1 : State :=
  { service with
    tim := .same { TimingMast.reset with
      tbs := setAt TimingMast.reset.tbs 1 { Timebase.reset with st := .locked, ref := some 2, pendingNs := 1000000 } } }
def zone5 : State := { service with dp := .same { service.dp.a with acts := [act5] } }

def aesP : List Byte := be 1 1 ++ be 1 15 ++ be 1 6 ++ be 1 3 ++ zeros 24
def startP : List Byte := be 2 1 ++ zeros 4 ++ be 2 15
def rxP : List Byte := zeros 4 ++ be 1 1 ++ be 1 0 ++ be 1 1 ++ be 1 2 ++ be 2 48 ++ be 2 8 ++ zeros 4 ++ be 1 4 ++ zeros 43
def txP : List Byte := zeros 2 ++ be 1 1 ++ be 1 0 ++ be 1 1 ++ be 1 96 ++ be 2 48 ++ zeros 8 ++ dest4 ++ dest4 ++ zeros 4
def patchP : List Byte := be 2 1 ++ zeros 2 ++ (be 2 2047 ++ zeros 6)
def ringP : List Byte := be 1 0 ++ be 1 1 ++ be 1 64 ++ zeros 13 ++ be 4 65536
def sidetoneP : List Byte := be 1 15 ++ be 1 1 ++ be 2 2047 ++ be 2 0 ++ zeros 2 ++ be 8 (2 ^ 36 - 1)
def flowRxP : List Byte := be 2 4095 ++ be 2 64 ++ be 1 1 ++ be 1 2 ++ zeros 2 ++ be 1 4 ++ zeros 43
def flowTxP : List Byte := be 2 1535 ++ be 1 1 ++ be 1 2 ++ zeros 4 ++ dest4 ++ dest4 ++ zeros 2 ++ be 1 127 ++ be 1 63 ++ be 2 4095 ++ zeros 2
def xptP : List Byte := be 2 1 ++ zeros 2 ++ be 2 1535 ++ be 2 0xFFFF
def activateP : List Byte := be 2 1 ++ be 1 7 ++ be 1 2 ++ zeros 4 ++ be 2 5
def clearP : List Byte := be 2 1 ++ zeros 2 ++ be 2 5
def routeP : List Byte := be 1 1 ++ be 1 1 ++ be 2 1535 ++ be 1 2 ++ zeros 1 ++ be 2 1535

theorem witness_AudioAndSystemCommands :
    ([queues service 2 0x0601 aesP (fun a => a.aesRefusals aesP) .aesConfig,
      queues service 2 0x0603 startP (fun a => a.commonStartRefusals startP) .commonStart,
      queues service 2 0x0604 rxP (fun a => a.streamRxRefusals rxP) .streamRxSet,
      queues service 2 0x0605 txP (fun a => a.streamTxRefusals txP) .streamTxSet,
      queues service 2 0x0606 patchP (fun a => a.patchRefusals patchP 2) .patchSet,
      queues service 2 0x0607 ringP (fun a => a.hostAudioRefusals (hdr 20) ringP) .hostAudioSet,
      queues service 2 0x0608 (be 1 0 ++ be 1 15 ++ be 2 63) (fun a => a.sdiAudioRefusals (be 1 0 ++ be 1 15 ++ be 2 63)) .sdiAudioSet,
      queues service 2 0x0609 sidetoneP (fun a => a.sidetoneRefusals sidetoneP) .sidetoneSet] : List Bool).all id ∧
    ([queues service 2 0x0704 flowRxP (fun a => a.flowRxRefusals flowRxP) .flowRxSet,
      queues service 2 0x0705 flowTxP (fun a => a.flowTxRefusals flowTxP) .flowTxSet,
      queues service 2 0x0701 xptP (fun a => a.xptRefusals false xptP) .xptSwitch,
      queues service 2 0x0702 xptP (fun a => a.xptRefusals true xptP) .xptSalvo,
      queues pendingTb1 3 0x0805 (be 1 1 ++ zeros 3) (fun a => a.realignRefusals (hdr 4) (be 1 1 ++ zeros 3)) .realign,
      queues quiet 3 0x0902 [] (fun a => refuseIf (!a.inTandem) stNotTandem) .tandemSwap,
      queues maintain 4 0x0B06 routeP (fun a => a.testRouteRefusals routeP) .testRouteSet,
      queues service 3 0x0D01 activateP (fun a => a.activateRefusals activateP 2) .alarmActivate,
      queues zone5 3 0x0D02 clearP (fun a => a.clearRefusals clearP) .alarmClear] : List Bool).all id := by
  decide

/-- A chunk of one byte, FIRST and LAST; a message of one sample in one chunk. -/
def chunk1 (sel : Nat) : List Byte := zeros 4 ++ be 4 1 ++ be 1 3 ++ be 1 sel ++ zeros 2 ++ be 1 9
def messageChunk : List Byte :=
  zeros 4 ++ be 4 115 ++ be 1 3 ++ be 1 63 ++ zeros 2 ++ (be 4 0x4D534731 ++ be 4 1 ++ zeros 8 ++ zeros 3 ++ zeros 96)

/-- The standby slot holds an image that is LOADED. -/
def loaded : State := { service with rigs := { service.rigs with state := .loaded } }

theorem witness_LoadsAct :
    ([carried service 2 0x0401 (chunk1 0) (fun _ => 4) (fun a => a.rigLoadRefusals 2 (chunk1 0)) .rigLoad,
      carried loaded 2 0x0402 [] (fun _ => 0) (fun a => refuseIf (a.rigs.state != .loaded) stWrongState) .rigVerify,
      carried quiet 4 0x0C04 (chunk1 2) (fun _ => 4)
        (fun a => refuseIf (decide (2 < 2)) stBadParam ++ a.chunkRefusals (.image 2) 2 (chunk1 2) (imageLimit 2)) .imageLoad,
      carried quiet 4 0x0D04 messageChunk (fun _ => 4) (fun a => a.messageRefusals messageChunk 2 true)
        (fun h p => .messageLoad h p true)] : List Bool).all id ∧
    bit (fld messageChunk 8 1) 1 = true ∧ fld messageChunk 9 1 < quiet.alarm.messages.length := by
  decide

/-- The standby slot of `loaded` in a state of its own. -/
def slotIn (x : SlotState) : State := { loaded with rigs := { loaded.rigs with state := x } }

theorem witness_RigDiscardEmpties :
    carried loaded 2 0x0404 [] (fun _ => 0) (fun a => refuseIf a.standbyBusy stBusy) .rigDiscard = true ∧
    ([.verifying, .tackPending, .tacking] : List SlotState).all (fun x =>
      ready (slotIn x) 2 0x0404 [] (fun _ => 0) (fun _ => []) && repliedWith (withSeat (slotIn x) 2) [] .rigDiscard stBusy) = true ∧
    repliedWith (withSeat loaded 2) [0] .rigDiscard stBadParam = true := by
  decide

theorem witness_ServiceCommands :
    ([carried quiet 2 0x0A02 (be 1 2 ++ zeros 3 ++ be 4 0xFFFFFFFF) (fun _ => 4)
        (fun a => a.ackRefusals (be 1 2 ++ zeros 3 ++ be 4 0xFFFFFFFF)) .faultAck,
      carried quiet 4 0x0B04 (be 1 2 ++ zeros 2 ++ be 1 15) (fun _ => 0)
        (fun a => a.marchRunRefusals (be 1 2 ++ zeros 2 ++ be 1 15)) .marchRun,
      carried maintain 4 0x0B05 (be 1 1 ++ be 1 2 ++ be 2 191) (fun _ => 0)
        (fun a => a.loopbackRefusals (be 1 1 ++ be 1 2 ++ be 2 191)) .loopbackSet,
      carried maintain 4 0x0D07 (be 1 1 ++ zeros 1 ++ be 2 19) (fun _ => 0)
        (fun a => a.mastRefusals 1 false ++ []) .fallbackTest] : List Bool).all id ∧
    Mast.b ∈ quiet.namedServing 2 := by
  decide

/-- A handover of bank 3 of Mast B to the host port that waits for its old owner. -/
def handing : State :=
  { quiet with handovers := [{ hdr := hdr 4, seat := 2, mast := .b, bank := 3, toOwner := 2, startedAt := 0 }] }

theorem witness_BanksChangeHands :
    carried quiet 4 0x0B01 (be 1 0 ++ be 1 14 ++ be 1 2 ++ zeros 1) (fun _ => 0)
      (fun a => a.giveRefusals (be 1 0 ++ be 1 14 ++ be 1 2 ++ zeros 1)) .bankGive = true ∧
    ready quiet 4 0x0B01 (be 1 0 ++ be 1 14 ++ be 1 0 ++ zeros 1) (fun _ => 0)
      (fun a => a.giveRefusals (be 1 0 ++ be 1 14 ++ be 1 0 ++ zeros 1)) = true ∧
    handing.handovers.find? (fun y => y.mast == .b && y.bank == 3) = handing.handovers.head? ∧
    (match exec (.bankHandover .b 3 true) handing with
     | .next t => decide ((t.bank .b 3).owner = 2) && decide ((t.bank .a 3).owner = 0)
     | _ => false) = true ∧
    carried quiet 4 0x0B03 (bankArea ++ be 4 0x01020304) (fun _ => 0)
      (fun a => a.mastRefusals 0 false ++ a.accessRefusals (bankArea ++ be 4 0x01020304)) .bankWrite = true ∧
    (match exec (.bankWrite (hdr 16) (bankArea ++ be 4 0x01020304)) (withSeat quiet 4) with
     | .next t => decide (cellRead (t.bank .a 14).data (Config.bankBytes - 1) = 4) &&
         decide (cellRead (t.bank .a 14).data 0 = 0)
     | _ => false) = true := by
  decide

theorem witness_SecurityCommands :
    ([carried quiet 4 0x0C03 (zeros 196) (fun _ => 0) (fun a => refuseIf (a.sec.lifecycle != 1) stBadLifecycle)
        (fun h p => .ownerEnrol h p true),
      carried service 5 0x0C07 (be 1 4 ++ zeros 99) (fun _ => 0) (fun a => a.lifecycleRefusals (be 1 4 ++ zeros 99) 2 true)
        (fun h p => .lifecycleSet h p true),
      carried quiet 4 0x0C08 (be 1 7 ++ be 1 1 ++ be 2 241 ++ zeros 241) (fun _ => 0)
        (fun a => a.keyRefusals (be 1 7 ++ be 1 1 ++ be 2 241 ++ zeros 241) true) (fun h p => .keyProvision h p 5 true),
      plain quiet 3 0x0C09 0 (be 8 1700000000) .rtcSet] : List Bool).all id ∧ 7 < quiet.md.nest.keySlots.length := by
  decide

/-! ### Commands from outside -/

/-- What holds of the next state that a command brings. -/
def after (c : Instr) (s : State) (f : State → Bool) : Bool :=
  match exec c s with
  | .next t => f t
  | _ => false

/-- The command brings exactly this state. -/
def gives (c : Instr) (s u : State) : Bool := after c s (fun t => decide (t = u))

/-- Two states agree in time, in step, in Halyard, in the modes and roles, and in the security state. -/
def sameCore (s t : State) : Bool :=
  decide (t.now = s.now) && decide (t.step = s.step) && decide (t.hal = s.hal) && decide (t.md = s.md) &&
    decide (t.tan = s.tan) && decide (t.sec = s.sec)

/-- A reply packet. -/
def packet : Packet :=
  { kind := 2, opcode := 0x0301, flags := 0, seat := 2, hostSeq := 1, devSeq := 1, effStep := 0, status := 0, session := 7,
    payload := zeros 20, key := none, dest := 0, ipv6 := false }

/-- A descriptor that the device owns. -/
def desc (n : Nat) : Desc := { addr := 0, len := n, own := true, status := 0 }

/-- A host port whose rings are enabled: one descriptor to fetch, one reply buffer posted, a packet to send. -/
def ported (p : HostPort) : State := { quiet with port := { quiet.port with a := p } }
def ringPort : HostPort :=
  { HostPort.reset with
    window := { Window.reset with ringEnable := true, cmdHead := 255, cmdTail := 0, replyHead := 255, replyTail := 0 }
    ring := { RingState.reset with fetching := true }, outPcie := [packet] }

theorem witness_RingsWork :
    quiet.windowAnswers .a = true ∧ (quiet.hp .a).window.ringEnable = false ∧
    after (.cmdTailDoorbell .a 3) quiet (fun t => decide (t = quiet)) = true ∧
    after (.ringEnableWrite .a 1) quiet (fun t => (t.hp .a).window.ringEnable) = true ∧
    (ported ringPort).windowAnswers .a = true ∧
    after (.cmdTailDoorbell .a 258) (ported ringPort) (fun t => (t.hp .a).window.cmdTail == 2 && (t.hp .a).ring.fetching) = true ∧
    after (.replyTailDoorbell .a 258) (ported ringPort) (fun t => (t.hp .a).window.replyTail == 2) = true ∧
    after (.ringEnableWrite .a 2) (ported ringPort) (fun t => !(t.hp .a).window.ringEnable && (t.hp .a).window.cmdHead == 255) = true ∧
    (ported ringPort).booting .a = false ∧
    after (.commandDescriptorDone .a (desc 56) false) (ported ringPort) (fun t =>
      (t.hp .a).inPcie == [56] && decide ((t.hp .a).ring.cmdDone.find 255 = some { desc 56 with own := false }) && (t.hp .a).window.cmdHead == 0 && !(t.hp .a).ring.fetching && bit (t.hp .a).window.intStatus 1) = true ∧
    after (.commandDescriptorDone .a (desc 4096) false) (ported ringPort) (fun t => (t.hp .a).inPcie == [4096]) = true ∧
    after (.replyPacketWrite .a (desc 76) false) (ported ringPort) (fun t =>
      decide ((t.hp .a).ring.replyDone.find 255 = some { desc 76 with own := false } ∧ (t.hp .a).outPcie = [] ∧ (t.hp .a).lastPacket = some packet ∧ (t.hp .a).window.replyHead = 0) &&
      bit (t.hp .a).window.intStatus 0) = true ∧
    packet.size = 76 ∧ after (.replyPacketWrite .a (desc 75) true) (ported ringPort) (fun t =>
      decide ((t.hp .a).outPcie = [packet]) && bit (t.hp .a).window.intStatus 3) = true := by
  decide

/-- A port with every cause pending, vector 2 not masked, and a held message of vector 0. -/
def causePort : HostPort :=
  { HostPort.reset with
    window := { Window.reset with intStatus := 15, intHoldoff := 65535,
                                  msixTable := [0, 0, 0, 0, 0, 0, 0, 1, 0, 0, 0, 0, 0, 0, 0, 1] }
    ring := { RingState.reset with msi0Held := true } }

theorem witness_InterruptFlags :
    (ported causePort).windowAnswers .a = true ∧
    after (.intStatusClear .a 5) (ported causePort) (fun t => (t.hp .a).window.intStatus == 10) = true ∧
    after (.intEnableWrite .a 0x1E) (ported causePort) (fun t =>
      decide ((t.hp .a).window.intEnable = 14 ∧ (t.hp .a).window.intStatus = 15 ∧ (t.hp .a).ring.msiCount = [0, 0, 1, 0])) = true ∧
    causePort.ring.lastMsi0 + causePort.window.intHoldoff * Config.usec ≤ quiet.now ∧
    after (.msixHoldoffExpiry .a) (ported causePort) (fun t => decide (
      (t.hp .a).ring.msi0Held = false ∧ (t.hp .a).ring.lastMsi0 = quiet.now ∧ (t.hp .a).ring.msiCount = [1, 0, 0, 0] ∧
      (t.hp .a).window = causePort.window)) = true := by
  decide

/-- A port whose ring base has its low half held. -/
def lowHeld : HostPort := { HostPort.reset with window := { Window.reset with heldLow := [(0x040, 4095)], cmdRingBase := 2 ^ 40 } }

theorem witness_WindowWritesAndResets :
    (ported lowHeld).windowAnswers .a = true ∧ lowHeld.window.ringEnable = false ∧
    after (.windowHighHalfLatch .a true 0x040 8192) (ported lowHeld) (fun t => decide ((t.hp .a).window.heldLow.find 0x040 = some 8192)) = true ∧
    after (.windowHighHalfLatch .a false 0x040 0) (ported lowHeld) (fun t => (t.hp .a).window.readLatch == 256) = true ∧
    after (.windowHighHalfLatch .a true 0x044 1) (ported lowHeld) (fun t => decide (
      (t.hp .a).window.cmdRingBase = 2 ^ 32 ∧ (t.hp .a).window.heldLow = [])) = true ∧
    after (.windowRegisterWrite .a 0x020 65537) quiet (fun t => (t.hp .a).window.intHoldoff == 1) = true ∧
    after (.windowRegisterWrite .a 0x050 4096) quiet (fun t => (t.hp .a).window.maxPacket == 4096) = true ∧
    after (.windowRegisterWrite .a 0x050 65592) quiet (fun t => (t.hp .a).window.maxPacket == 65592) = true ∧
    after (.windowRegisterWrite .a 0x050 8192) (ported ringPort) (fun t => (t.hp .a).window.maxPacket == 4096) = true ∧
    after (.pcieReset .a .nothing) (ported ringPort) (fun t => decide (
      (t.hp .a).window = Window.reset ∧ (t.hp .a).ring = RingState.reset ∧ (t.hp .a).outPcie = [packet])) = true ∧
    after (.transportEngineReset .a .csp .complete) quiet (fun t => decide (t = quiet)) = true ∧
    after (.transportEngineReset .a .mgmt .firstPublished) quiet (fun t => (t.ct .a).read 0x0164 == 1) = true := by
  decide

theorem witness_SerialAndManagement :
    quiet.md.mode ≠ .vault ∧ quiet.booting .a = false ∧ (quiet.hp .a).cspUsed + 65592 ≤ 131072 ∧
    after (.cspWrite .a 56 0) quiet (fun t => (t.hp .a).inCsp == [56]) = true ∧
    after (.cspRead .a 75) (ported { HostPort.reset with outCsp := [packet] }) (fun t => decide (
      (t.hp .a).lastRead = zeros 4 ++ be 4 76 ++ packet.wire.take 75 ∧ (t.hp .a).outCsp = [packet])) = true ∧
    after (.cspRead .a 76) (ported { HostPort.reset with outCsp := [packet] }) (fun t => decide (
      (t.hp .a).lastPacket = some packet ∧ (t.hp .a).outCsp = [])) = true ∧
    after (.cspStatus .a) (ported { HostPort.reset with cspDiscarded := true }) (fun t => !(t.hp .a).cspDiscarded) = true ∧
    after (.cspFramingDiscard .a 0) quiet (fun t => (t.ct .a).read 0x0158 == 1) = true ∧
    after (.cspFramingDiscard .a 6) quiet (fun t => (t.ct .a).read 0x0158 == 1) = true ∧
    after (.mgmtServiceFrame .a .arp) quiet (fun t => (t.hp .a).serviceAnswers == 1) = true ∧
    after (.mgmtServiceFrame .a .fragment) quiet (fun t => (t.ct .a).read 0x016A == 1) = true := by
  decide

/-! ### Power, resets and BOOT -/

/-- Mast B without power. -/
def halfPowered : State := { solo with md := { solo.md with boot := { solo.md.boot with b := BootState.off } } }
/-- VNEST of both masts is low since one second. -/
def draining (now : Nat) : State :=
  { quiet with now := now, md := { quiet.md with vnestLow := .same (some Config.second) } }
/-- A lifecycle change to RETIRED whose reset is due. -/
def retiring : State :=
  { quiet with md := { quiet.md with lifecycleReset := some 0 }, sec := { quiet.sec with lifecycle := 4, identityKey := true } }

/-- Main power has been removed. -/
def vaulted : State := { State.reset with md := { State.reset.md with mode := .vault } }

theorem witness_PowerComesAndGoes :
    (halfPowered.md.boot.get .b).powerGood = false ∧ (halfPowered.sup.get .b).hot = false ∧
    after (.powerGood .b) halfPowered (fun t => decide ((t.md.boot.get .b).phase = 1 ∧ (t.md.boot.get .b).powerGood = true ∧
      (t.mt .b).lines.alive0 = true ∧ t.md.nest = halfPowered.md.nest ∧ (t.md.boot.get .a) = bootDone)) = true ∧
    gives .mainPowerLoss (draining (Config.second + 50 * Config.msec - 1)) (draining (Config.second + 50 * Config.msec - 1)) = true ∧
    after .mainPowerLoss (draining (Config.second + 50 * Config.msec)) (fun t => decide (
      t.md.mode = .vault ∧ t.md.nest = quiet.md.nest ∧ t.tst .a = .out ∧ t.tst .b = .out ∧ t.sec.flash = quiet.sec.flash)) = true ∧
    after (.powerGood .b) vaulted (fun t => decide (t.md.mode = .boot ∧ t.md.bootCount = 2 ∧ (t.md.boot.get .b).phase = 1)) = true ∧
    vaulted.md.mode = .vault ∧ (vaulted.md.boot.get .b).powerGood = false ∧
    gives .lifecycleReset { retiring with md := { retiring.md with mode := .lockout } }
      { retiring with md := { retiring.md with mode := .lockout } } = true ∧
    after .lifecycleReset retiring (fun t => decide (
      t.md.mode = .boot ∧ t.md.bootCount = 2 ∧ t.md.lifecycleReset = none ∧ t.sec.identityKey = false ∧ t.sec.ownerKey = [])) = true := by
  decide

/-- Mast B held by its reset ball. -/
def heldB : State :=
  { solo with md := { solo.md with boot := { solo.md.boot with b := { bootDone with held := true } } } }

theorem witness_ResetBalls :
    gives (.resetNAssert .b 23) quiet quiet = true ∧
    after (.resetNAssert .b 26) (inMode .lockout) (fun t => decide (
      t.md.nest.lockout.resetTries = 1 ∧ t.md.mode = .lockout ∧ t.md.boot = quiet.md.boot)) = true ∧
    after (.resetNAssert .b 26) quiet (fun t => decide (
      t.tst .b = .out ∧ (t.md.boot.get .b).held = true ∧ (t.md.boot.get .b).phase = 0 ∧ t.md.mode = .quiet ∧
      t.md.nest.resets.head? = some { cause := 4, mast := 1, bootCount := 1, rtc := 0 })) = true ∧
    quiet.canLead .a = true ∧ quiet.isCaptain .b = false ∧
    quiet.isCaptain .a = true ∧ quiet.inTandem = true ∧ after (.resetNAssert .a 26) quiet (fun t => decide (
      (t.mt .a).lines.yield0 = true ∧ t.tan.resetCause.get .a = some 4 ∧ (t.md.boot.get .a).held = true ∧ t.md.mode = .quiet)) = true ∧
    after (.resetNAssert .b 26) { quiet with md := { quiet.md with resetFall := { a := some quiet.now, b := none } } } (fun t => decide (
      t.md.mode = .boot ∧ t.md.bootCount = 2 ∧ t.md.nest.resets.head? = some { cause := 2, mast := 2, bootCount := 2, rtc := 0 })) = true ∧
    quiet.tst .b ≠ .captain ∧ quiet.md.resetFall.get .a = none ∧ (heldB.md.boot.get .b).held = true ∧
    after (.resetNRelease .b) heldB (fun t => decide ((t.md.boot.get .b).held = false ∧ (t.md.boot.get .b).phase = 1)) = true := by
  decide

/-- The package in BOOT, with Mast A elected and ready. -/
def electing : State :=
  { State.reset with md := { ModeState.reset with
      mode := .boot, elect := some .a, nest := quiet.md.nest, boot := { BootState.off |> Both.same with a := { bootDone with phase := 10, ready := true } } } }
def phaseJ : State :=
  { electing with md := { electing.md with boot := { electing.md.boot with a := { bootDone with phase := 10 } } } }

/-- A phase that finds nothing amiss. -/
def clean : BootFacts :=
  { nestBlank := false, fails := [], still := false, units := [], badProfile0 := false, badProfile1 := false, badFw0 := false,
    badFw1 := false }
/-- One failing symbol of the ledger memory. -/
def oneFail : BootFacts := { clean with fails := [{ memory := 0x2A, bank := 0, row := 7, column := 3 }] }
/-- Mast B in a phase, after power-on or not, and after a retry or not. -/
def phased (n : Nat) (powerOn retried : Bool) (s : State) : State :=
  { s with md := { s.md with boot := { s.md.boot with b := { bootDone with
      phase := n, remap := false, firmwareOk := false, powerOn := powerOn, package := powerOn, retried := retried } } } }
/-- The flash of Mast B holds a profile of this device, and the alert signal that it names. -/
def ownProf : Profile := { prof with deviceCertHash := solo.certHash, alertHash := fit 48 (Config.sha384 [1]) }
def profiled : State :=
  { solo with sec := { solo.sec with flash := { solo.sec.flash with b := { solo.sec.flash.b with profile0 := some ownProf, alert0 := [1] } } } }
/-- The repair maps of Mast B disagree. -/
def mapped : State :=
  { phased 2 true false solo with mem := { solo.mem with b := { solo.mem.b with repair :=
      [{ typ := 1, memory := 0, bank := 0, spare := 0, index := 9, pending := false, inOtp := true, inNest := false }] } } }

/-- BOOT_PHASE_COMPLETE in phases A to D. -/
theorem witness_BootRuns_early :
    after (.bootPhaseComplete .b { clean with nestBlank := true }) (phased 1 true false solo) (fun t => decide (
      (t.md.boot.get .b).phase = 2 ∧ t.md.nest.tamper = false ∧ (0x96, 0) ∈ (t.fl .b).held)) = true ∧
    (mapped.mem.get .b).mapsDisagree = true ∧
    after (.bootPhaseComplete .b clean) mapped (fun t => decide ((t.md.boot.get .b).phase = 3 ∧ (0x95, 0) ∈ (t.fl .b).held ∧
      (t.mem.get .b).repair.all (fun e => e.inNest) = true)) = true ∧
    (assignSpares true oneFail.fails (solo.mem.get .b)).2.2 = [] ∧
    ([3, 6] : List Nat).all (fun n => after (.bootPhaseComplete .b oneFail) (phased n true false solo) (fun t =>
      (t.md.boot.get .b).phase == n + 1 && (t.mem.get .b).repair.length == 1)) = true ∧
    after (.bootPhaseComplete .b { oneFail with still := true }) (phased 3 true false solo) (fun t =>
      (t.md.boot.get .b).retried && (t.md.boot.get .b).phase == 1) = true ∧
    (solo.chooseProfile .b clean).2 = none ∧
    after (.bootPhaseComplete .b clean) (phased 4 true false solo) (fun t => (t.md.boot.get .b).fallbackReady &&
      (t.sec.flash.get .b).profileUsed == 2) = true := by
  decide

/-- Phase D with a profile: its hypotheses, and an alert signal that flash holds. -/
theorem witness_BootRuns_profile :
    ((phased 4 true false profiled).chooseProfile .b clean).2 = some ownProf ∧ profiled.sec.lifecycle ≠ 4 ∧
    (phased 4 true false profiled).alertFor .b ownProf.alertHash = some [1] ∧
    ((phased 4 false false profiled).chooseProfile .b clean).2 = some ownProf := by
  have h : ∀ x : Bool, ((phased 4 x false profiled).chooseProfile .b clean).2 = some ownProf := by
    intro x
    have e : (phased 4 x false profiled).certHash = solo.certHash := rfl
    have g : (phased 4 x false profiled).copyValid false (some ownProf) = some ownProf := by
      cases x <;> simp only [State.copyValid, e] <;> simp [ownProf, prof] <;> decide
    have n : (phased 4 x false profiled).copyValid false none = none := rfl
    have f0 : ((phased 4 x false profiled).sec.flash.get .b).profile0 = some ownProf := rfl
    have f1 : ((phased 4 x false profiled).sec.flash.get .b).profile1 = none := rfl
    have b0 : clean.badProfile0 = false := rfl
    have b1 : clean.badProfile1 = false := rfl
    simp only [State.chooseProfile, f0, f1, b0, b1, g, n]
  refine ⟨h true, by decide, ?_, h false⟩
  have a0 : ((phased 4 true false profiled).sec.flash.get .b).alert0 = [1] := rfl
  simp [State.alertFor, a0, ownProf]

/-- BOOT_PHASE_COMPLETE in phases E to J. -/
theorem witness_BootRuns_late :
    (phased 5 true false solo).chooseFirmware .b clean = some (0, { version := 0x01000000, rollback := 0, good := true }) ∧
    after (.bootPhaseComplete .b clean) (phased 5 true false solo) (fun t => (t.md.boot.get .b).phase == 6 &&
      (t.md.boot.get .b).remap && t.md.mixOn.get .b && t.md.routeOn.get .b && (t.sec.flash.get .b).fwBooted == 0) = true ∧
    (phased 5 true false solo).chooseFirmware .b { clean with badFw0 := true, badFw1 := true } = none ∧
    after (.bootPhaseComplete .b { clean with badFw0 := true, badFw1 := true }) (phased 5 true false solo) (fun t =>
      (t.md.boot.get .b).retried && (t.md.boot.get .b).phase == 1) = true ∧
    after (.bootPhaseComplete .b clean) (phased 7 true false solo) (fun t => (t.md.boot.get .b).phase == 8) = true ∧
    (electing.md.boot.get .b).phase < 9 ∧
    after (.bootPhaseComplete .a clean) { phaseJ with md := { phaseJ.md with mode := .boot, elect := none, boot :=
        { phaseJ.md.boot with a := { bootDone with phase := 8 } } } } (fun t => decide (t.md.elect = some .a ∧
      (t.md.boot.get .a).phase = 9)) = true ∧
    after (.bootPhaseComplete .b clean) (phased 9 true false solo) (fun t => (t.md.boot.get .b).phase == 10 &&
      (t.alm.get .b).checking) = true ∧
    after (.bootPhaseComplete .a clean) { phaseJ with md := { phaseJ.md with mode := .boot } } (fun t => (t.md.boot.get .a).ready) = true := by
  decide

/-- BOOT_FAILURE and BOOT_END. -/
theorem witness_BootRuns_end :
    after (.bootFailure .b) (phased 2 true false solo) (fun t => decide ((t.md.boot.get .b).retried = true ∧
      (t.md.boot.get .b).phase = 1 ∧ t.md.nest.resets.head? = some { cause := 9, mast := 1, bootCount := 1, rtc := 0 })) = true ∧
    solo.tan.barred.get .a = false ∧ after (.bootFailure .b) (phased 2 true true solo) (fun t => decide (
      (t.md.boot.get .b).failed = true ∧ (t.md.boot.get .b).phase = 0 ∧ t.md.mode = .quiet)) = true ∧
    after (.bootFailure .b) (phased 2 true true { solo with md := { solo.md with mode := .boot, boot :=
        { solo.md.boot with a := { bootDone with failed := true } } } }) (fun t => decide (
      t.md.mode = .lockout ∧ t.md.nest.lockout.source = 0xFFFF)) = true ∧
    electing.md.mode = .boot ∧ (electing.md.boot.get .a).ready = true ∧
    after .bootEnd electing (fun t => decide (t.tst .a = .captain ∧ (t.md.boot.get .a).phase = 0 ∧ t.md.mode = .quiet ∧ t.step = 0)) = true := by
  decide

/-- LOCKOUT, with Mast A driving the fallback outputs. -/
def locked : State := { inMode .lockout with md := { quiet.md with mode := .lockout, fallbackDriver := some .a } }

theorem witness_GuardsAct :
    quiet.mastOn .a = true ∧ (quiet.md.boot.get .a).phase = 0 ∧
    gives (.watchdogExpiry .b) quiet (quiet.report .b 0x94 0xC0000002) = true ∧
    ((phased 6 true false quiet).mastOn .b && !((phased 6 true false quiet).md.boot.get .b).remap) = true ∧
    after (.remapWrite .b .cpData true) (phased 6 true false quiet) (fun t => (t.md.boot.get .b).remap) = true ∧
    gives (.remapWrite .a .cpData true) quiet quiet = true ∧
    vaulted.md.mode = .vault ∧ after (.tamperTrip .a 0xF3) vaulted (fun t => decide (t.md.mode = .vault ∧ t.md.nest.tamper = true ∧
      t.md.nest.lockout.source = 0xFFFF ∧ t.md.nest.keySlots = List.replicate 8 none)) = true ∧
    after (.tamperTrip .a 0xF0) quiet (fun t => decide (t.md.mode = .lockout ∧ t.md.nest.tamper = true ∧
      t.md.nest.keySlots = List.replicate 8 none ∧ t.md.nest.lockout.source = 0xFFFF) && (t.mt .b).drive.allSafe) = true ∧
    after (.tamperTrip .b 0xF3) locked (fun t => decide (t.md.mode = .lockout ∧ t.md.nest.tamper = true)) = true ∧
    locked.mastOn .b = true ∧
    after (.tlAliveDead .a) locked (fun t => decide (t.md.fallbackDriver = some .b ∧ (t.mt .b).steer = true ∧
      (t.mt .a).steer = false ∧ (t.mt .a).lines.alive0 = false)) = true := by
  decide

/-- A firmware write under way; a message being written. -/
def writing : State :=
  { quiet with
    sec := { quiet.sec with writes := [{ image := 1, seat := 2, hostSeq := 1, profile := none,
                                         firmware := some { version := 0x01000001, rollback := 0, good := true },
                                         alert := none, startedAt := 0 }] }
    alarm := { quiet.alarm with messages := setAt quiet.alarm.messages 63 { Message.none with samples := 1, data := zeros 3, writing := true } } }

/-- The same in WATCH, where writes are held off. -/
def supplyLow : State := { writing with md := { writing.md with mode := .watch } }

theorem witness_WritesToFlashEnd :
    writing.writesHeld .a = false ∧ writing.writesHeld .b = false ∧
    after (.imageWriteDone false) writing (fun t => decide (t.sec.writes = [] ∧ (t.sec.flash.get .b).fw1 = some
      { version := 0x01000001, rollback := 0, good := true })) = true ∧
    (supplyLow.writesHeld .a || supplyLow.writesHeld .b) = true ∧ gives (.imageWriteDone false) supplyLow supplyLow = true ∧
    gives (.messageWriteDone 63) supplyLow supplyLow = true ∧
    after (.imageWriteDone true) writing (fun t => decide (t.sec = { writing.sec with writes := [] })) = true ∧
    (writing.message 63).writing = true ∧ 63 < writing.alarm.messages.length ∧
    after (.messageWriteDone 63) writing (fun t => decide ((t.message 63).writing = false ∧ (t.message 63).data = zeros 3 ∧
      (t.message 63).state = 2)) = true := by
  decide

/-! ### Modes, battery and the alarm logic -/

/-- WATCH whose entry fade ends at the coming step; SERVICE and ALARM after a wake at step 47997. -/
def fading : State := { inMode .watch with md := { quiet.md with mode := .watch, watchFadeEnd := some 48001 } }
def waking (m : Mode) : State :=
  let w : Wake := { triggerAt := quiet.now - 120 * Config.msec, triggerStep := 47997, lateA := false, lateB := false }
  { inMode m with md := { quiet.md with mode := m, mixOn := .same false, routeOn := .same false, wake := some w } }

theorem witness_WatchAndWake :
    after .watchFadeEnd fading (fun t => decide (t.rigs.state = .empty ∧ t.md.watchFadeEnd = none ∧ t.md.mixOn = .same false ∧
      t.vid.b = .reset)) = true ∧
    after .wakeStep (waking .quiet) (fun t => decide (t.md.wake = none ∧ t.md.mixOn = .same true ∧ t.md.routeOn = .same true)) = true ∧
    (waking .alarm).serves .b = true ∧
    after (.lateWake .b) (waking .alarm) (fun t => decide (t.md.wake.map (fun w => (w.lateA, w.lateB)) = some (false, true)) &&
      (t.ct .b).read 0x86 == 1) = true := by
  decide

/-- ALARM, with shedding due at the coming step; shedding in force whose end is due. -/
def shedDue : State := { inMode .alarm with md := { quiet.md with mode := .alarm, shed := { Shed.none with shedAt := some 48001 } } }
def restoreDue : State :=
  { inMode .alarm with md := { quiet.md with mode := .alarm, shed := { Shed.none with inForce := true, video := true, restoreAt := some 48001 } } }
/-- Shedding in force, with a restore that is assigned. -/
def calledOff : State := { restoreDue with md := { restoreDue.md with shed := { restoreDue.md.shed with restoreAt := some 48500 } } }
/-- ALARM over SERVICE, so that the crosspoint runs. -/
def shedVideo : State := { shedDue with md := { shedDue.md with base := .service } }

theorem witness_BatterySheds :
    quiet.mastOn .a = true ∧ quiet.md.onBatt.get .a ≠ true ∧
    after (.onBattChange .a true) (inMode .alarm) (fun t => decide (t.md.onBatt.get .a = true ∧ t.md.battAt = quiet.now ∧
      t.md.shed.shedAt = some (inMode .alarm).assignedStep)) = true ∧
    after (.onBattChange .a true) calledOff (fun t => t.md.shed.inForce && t.md.shed.restoreAt.isNone) = true ∧
    after (.onBattChange .a false) { quiet with md := { quiet.md with onBatt := { quiet.md.onBatt with a := true } } }
      (fun t => t.md.shed.lowSince == quiet.now) = true ∧
    after .shedStep shedDue (fun t => t.md.shed.inForce && t.md.shed.video && t.md.shed.mixRegions == 0) = true ∧
    shedVideo.videoRuns = true ∧ after .shedStep shedVideo (fun t => t.md.shed.inForce && (t.vid.get .a).idle) = true ∧
    after .restoreStep restoreDue (fun t => decide (t.md.shed.inForce = false ∧ t.md.shed.fadeFrom = some 48001)) = true := by
  decide

/-- Two masts in roles, with their lines. -/
def masts (a b : MastTandem) : State := { quiet with tan := { quiet.tan with m := { a := a, b := b } } }
/-- The package with the Stay link down. -/
def apart (s : State) : State := { s with tan := { s.tan with stay := { s.tan.stay with up := false } } }

/-- A Reserve that tracks its Primary. -/
def reserveTracks : State :=
  { quiet with tan := { quiet.tan with pairing := { quiet.tan.pairing with paired := true, role := 2, tracking := 1 } }
               lan := quiet.lan.map (fun x => { x with shroudUp := true }) }

/-- An alarm input of a mast in a state. -/
def input (s : State) (m : Mast) (i : Nat) (x : AlarmInput) : State := s.setAlarmIn m i x
/-- An input debounced into a class by 80 samples. -/
def agreed (c d : Nat) : AlarmInput := { AlarmInput.reset with last := c, count := 80, deb := d }

theorem witness_AlarmInputsAct :
    quiet.alarmRuns .a = true ∧ 7 < (quiet.alm.get .a).inputs.length ∧
    ([(1199, 3), (1200, 0), (1700, 0), (3900, 0), (4699, 0), (4700, 1), (7000, 1), (7001, 0), (7900, 0), (7901, 2)] : List (Nat × Nat)).all
      (fun x => after (.alarmInputSample .a 7 x.1 false) quiet (fun t => (t.alarmIn .a 7).last == x.2)) = true ∧
    gives (.alarmInputSample .a 0 5000 true) quiet quiet = true ∧
    after (.alarmInputDebounced .a 0) (input quiet .a 0 (agreed 1 0)) (fun t => decide (
      (t.alm.get .b).assigned = [{ input := 0, state := 1, step := 48004, since := 0 }] ∧ (t.alarmIn .a 0).deb = 1)) = true ∧
    after (.alarmInputDebounced .b 0) (input quiet .b 0 (agreed 1 0)) (fun t => decide (
      (t.alarmIn .b 0).solo = some (48006, 1) ∧ (t.alarmIn .b 0).deb = 1)) = true ∧
    after (.alarmInputDebounced .a 0) (input solo .a 0 (agreed 1 0)) (fun t => decide (
      (t.alm.get .a).assigned = [{ input := 0, state := 1, step := 48004, since := 0 }] ∧ (t.alm.get .b).assigned = [])) = true ∧
    after (.alarmInputDebounced .a 0) (input quiet .a 0 (agreed 2 0)) (fun t => (t.ct .a).read 0xB0 == 1) = true ∧
    after (.alarmInputDebounced .a 0) (input quiet .a 0 (agreed 3 0)) (fun t => (t.ct .a).read 0xB1 == 1) = true ∧
    ([173, 319] : List Nat).all (fun d => after (.alarmTestPulse .a 0 d) (input quiet .a 0 { AlarmInput.reset with failed := 2 })
      (fun t => (t.alarmIn .a 0).failed == 0 && (t.ct .a).read 0xB0 + (t.ct .a).read 0xB1 == 0)) = true ∧
    ([172, 320] : List Nat).all (fun d => after (.alarmTestPulse .a 0 d) (input quiet .a 0 { AlarmInput.reset with failed := 1 })
      (fun t => (t.alarmIn .a 0).failed == 2)) = true ∧
    after (.alarmTestPulse .a 0 172) (input quiet .a 0 { AlarmInput.reset with failed := 2 }) (fun t => (t.ct .a).read 0xB1 == 1) = true ∧
    after (.alarmTestPulse .a 0 320) (input quiet .a 0 { AlarmInput.reset with failed := 2 }) (fun t => (t.ct .a).read 0xB0 == 1) = true ∧
    after (.alarmInputAction []) { quiet with alm := quiet.alm.map (fun x => { x with assigned := [{ input := 3, state := 1, step := 48001, since := 0 }] }) }
      (fun t => decide ((t.alarmIn .a 3).acted = 1 ∧ (t.alarmIn .b 3).acted = 1 ∧ (t.alm.get .a).assigned = [])) = true ∧
    after (.alarmInputAction []) (input solo .a 3 { AlarmInput.reset with solo := some (48003, 1) }) (fun t => decide (
      (t.alarmIn .a 3).acted = 1 ∧ (t.alarmIn .a 3).solo = none)) = true ∧
    solo.waitsAlarm .a = false ∧ solo.waitsAlarm .b = false ∧
    (masts (mastAs .out) (mastAs .captain)).waitsAlarm .b = false ∧ quiet.waitsAlarm .a = false ∧ quiet.waitsAlarm .b = true ∧
    after (.alarmInputAction []) (input quiet .a 3 { AlarmInput.reset with solo := some (48003, 1) }) (fun t => decide (
      (t.alarmIn .a 3).acted = 1 ∧ (t.alarmIn .a 3).solo = none)) = true ∧
    after (.alarmInputDebounced .a 0) (input (apart quiet) .a 0 (agreed 1 0)) (fun t => (t.alm.get .a).assigned.length == 1) = true ∧
    reserveTracks.tracks = true ∧ after (.alarmInputDebounced .a 0) (input reserveTracks .a 0 (agreed 1 0)) (fun t =>
      (t.alarmIn .a 0).solo.isSome) = true ∧
    after (.alarmInputSolo .b 3) (input quiet .b 3 { AlarmInput.reset with solo := some (48001, 1) }) (fun t => decide (
      (t.alarmIn .b 3).acted = 1 ∧ (t.mt .b).flags = [{ kind := .soloAlarm, step := 48001 }])) = true := by
  decide

/-- Message 0 of 4 samples, stored and valid, which plays since the step of the last boundary, twice, by command. -/
def playing : State :=
  let act (plays : Nat) : Activation :=
    { trigger := 1, input := 0, priority := 7, source := { kind := 0, index := 0, from' := 0 }, repeats := 2, plays := plays,
      start := 47000, zones := [5] }
  { service with
    alarm := { quiet.alarm with messages := setAt quiet.alarm.messages 0 { Message.none with samples := 4, data := zeros 12, state := 1 } }
    dp := .same { Datapath.reset with acts := [act 0, act 1], plays := [(0, 47993)] } }
/-- The FALLBACK_TEST that plays on output 19 of Mast A; one alarm stream with an item. -/
def testing : State :=
  let on (k : Nat) : FallbackTest := { mast := .a, output := k, seat := 2, hostSeq := 1, startedAt := 0 }
  { quiet with alarm := { quiet.alarm with tests := [on 19, on 18] } }
def streaming : State :=
  let item : AlarmInputItem :=
    { input := 8, flags := 1, priority := 1, sourceKind := 2, sourceIndex := 0, zoneFirst := 0, zoneCount := 1, fallback := 0 }
  let flow : FlowMatch := { ipVer := 4, flags := 0, vlan := 0, dest := 0, src := 0, port := 0, ssrc := 0 }
  { service with sec := { service.sec with profile := some { prof with alarmStreams := [{ input := item, flow := flow, key := [] }] } } }
/-- A frame for MAC address 0 that arrives sound on lane 0. -/
def frame0 : FrameFacts := { port := 0, fcsOk := true, length := 200, tagged := false, dest := 0, pause := false }
/-- The message of COUNTER 1 with a STATE. -/
def streamMessage (st : Nat) : List Byte := be 2 0xA1A5 ++ be 1 1 ++ be 1 st ++ be 8 1 ++ zeros 108
def rtp : RtpFacts :=
  { frame := frame0, ipVer := 4, vlan := none, dest := 0, src := 0, port := 5004, version := 2, extras := false, marker := false,
    ssrc := 0, seq := 0, ts := 0, payloadLen := 0 }

theorem witness_MessagesAndStreams :
    0 < playing.alarm.messages.length ∧
    after .fallbackTestDone testing (fun t => decide (t.alarm.tests.map (fun x => x.output) = [18])) = true ∧
    (playing.dp.get .a).plays.find 0 = some 47993 ∧ 47993 + 1 * playing.playSteps 0 = playing.step + 1 ∧
    after (.messagePlayBoundary 0) playing (fun t => decide ((t.dp.get .a).acts.map (fun a => a.plays) = [1])) = true ∧
    after (.messageChunkFailure .b 0 3 false) playing (fun t => decide ((t.message 0).badB = [3] ∧ (t.message 0).badA = [])) = true ∧
    after (.messageChunkFailure .b 0 3 true) playing (fun t => decide ((t.message 0).state = 2) &&
      (t.dp.get .a).acts.all (fun a => a.source.kind != 0)) = true ∧
    after (.messageStoreCheck .a [(0, 3, true)]) playing (fun t => (t.message 0).state == 2) = true ∧
    after (.messageStoreCheck .a [(0, 3, false)]) playing (fun t => decide ((t.message 0).state = 1 ∧ 3 ∉ (t.message 0).badA)) = true ∧
    after (.messageStoreCheck .a []) playing (fun t => (t.message 0).checked == t.md.nest.rtc) = true ∧
    0 < streaming.alarm.streams.length ∧ 0 < streaming.md.nest.streamCounters.length ∧
    streaming.streamAccepts 0 (streamMessage 1) true true 0 = true ∧
    after (.alarmStreamMessage .a 0 rtp (streamMessage 1) true 0) streaming (fun t => decide (
      (t.alm.get .b).assigned = [{ input := 8, state := 1, step := 48004, since := quiet.now }] ∧ atD t.md.nest.streamCounters 0 0 = 1)) = true ∧
    streaming.streamAccepts 0 (streamMessage 2) true false 0 = false ∧
    after (.alarmStreamMessage .a 0 rtp (streamMessage 2) true 0) streaming (fun t => (t.ct .a).read 0x6000 == 1) = true ∧
    5 * Config.second ≤ ({ streaming with now := 6 * Config.second } : State).now ∧
    after (.alarmStreamSilence 0) { streaming with now := 6 * Config.second } (fun t => decide (
      (t.alarm.streams[0]?).map (fun x => x.silent) = some true)) = true := by
  decide

/-! ### The step -/

/-- A realign of TB_0 that holds the grid. -/
def realigning : State :=
  { quiet with tim := .same { TimingMast.reset with
      tbs := setAt TimingMast.reset.tbs 0 { Timebase.reset with
        st := .locked, ref := some 2, realign := some { step := 40000, offset := 1000, resume := 48100, moved := false } } } }

theorem witness_StepsBegin :
    quiet.md.mode ≠ .vault ∧ quiet.gridWaits = none ∧
    after (.stepBoundary []) quiet (fun t => t.step == 48001 && t.now == quiet.now + 31250) = true ∧
    after (.stepBoundary []) (inMode .vault) (fun t => t.now == quiet.now + 31250 && t.step == 48000) = true ∧
    (realigning.gridWaits.map (fun r => r.resume)) = some 48100 ∧ gives (.stepBoundary []) realigning realigning = true ∧
    after (.realignResume []) realigning (fun t => t.step == 48100 && decide (realigning.now < t.now)) = true := by
  decide

/-- A rig that runs: its parameter 0 has reached the target 9 of a ramp. -/
def ramped : State :=
  let r : RigRun :=
    { rig := readRig tinyRig, words := [], exch := [], lines := [],
      ramps := [{ param := 0, key := 5, fade := { u0 := 0, u1 := 9, start := 47999, len := 2 }, seat := 2, hostSeq := 1 },
                { param := 1, key := 6, fade := { u0 := 0, u1 := 9, start := 47999, len := 3 }, seat := 2, hostSeq := 1 }], from' := 0, place := [], pool := [] }
  { service with dp := .same { Datapath.reset with active := some r } }
/-- A tack whose duration ends at this step; a verification of an empty image; a frozen snapshot. -/
def tacking : State :=
  let p : TackPlan :=
    { kind := 3, fadeIn := false, step := 40000, warm := 0, fade := 1000, shared := [], affected := [], place := [], pool := [],
      seat := 2, hostSeq := 1 }
  { service with rigs := { service.rigs with state := .tacking, plan := some p } }
def verifying : State := { service with rigs := { service.rigs with state := .verifying, image := [] } }
def frozenAt (n : Nat) : State := { quiet with snap := { quiet.snap with frozenAt := some n } }

theorem witness_StepEventsAct :
    after .preStartPulse { quiet with clk := quiet.clk.map (fun c => { c with gates := c.gates.map (fun g => { g with open' := false }) }) }
      (fun t => decide ((t.clk.get .a).gates.map (fun g => g.open') = List.replicate 12 false ++ [true, true, true] ++ List.replicate 32 false)) = true ∧
    after .rampEnd ramped (fun t => decide ((t.dp.get .a).active.map (fun r => (r.ramps.map (fun p => p.key), wget r.words 5)) =
      some ([6], wordOf 9))) = true ∧
    after .tackEnd tacking (fun t => decide (t.rigs.state = .verified ∧ t.rigs.plan = none)) = true ∧
    after (.rigVerifyDone true) verifying (fun t => decide (t.rigs.state = .refused)) = true ∧
    after .snapshotEvent (frozenAt 47998) (fun t => t.snap.frozenAt.isNone) = true ∧
    ({ quiet with step := 480000 * 2 } : State).step % (10 * quiet.rate) = 0 ∧ healthMode quiet.md.mode = true ∧
    after .healthEvent { quiet with step := 480000 * 2 } (fun t => t.freeCount == quiet.freeCount + 4) = true := by
  decide

/-- A command of seat 2 that waits for the coming step. -/
def waiting (code : Nat) (p : List Byte) : SchedCmd :=
  { code := code, payload := p, seat := 2, hostSeq := 1, effStep := 48001, order := 4, stokerHolds := false, aux := 77, due := none,
    primary := false }
def due (s : State) (role code : Nat) (p : List Byte) : State :=
  let u := withSeat s role
  { u with hal := { u.hal with sched := [waiting code p] } }
/-- A command in time for the Stoker, and one that is late. -/
def committing (eff : Nat) : State := { quiet with hal := { quiet.hal with sched := [{ waiting 0x0504 [] with effStep := eff }] } }

def holdingCmd : State := { quiet with hal := { quiet.hal with sched := [{ waiting 0x0504 [] with stokerHolds := true }] } }

/-- The same with a reply that waits for the Stoker; a command that has been applied before the Stoker had its commit. -/
def owing (eff : Nat) : State :=
  let u := withSeat quiet 2
  { u with hal := { u.hal with sched := [{ waiting 0x0504 [] with effStep := eff, due := some { flags := 0, reach := .package, fields := [] } }] } }
def missing (eff : Nat) : State := { quiet with tan := { quiet.tan with m := { quiet.tan.m with b := { mastAs .stoker with missed := [(4, eff)] } } } }

theorem witness_ScheduledCommandsFallDue :
    (due quiet 4 0x0504 []).captain = some .a ∧ holdingCmd.firstDue (fun _ => true) = some { waiting 0x0504 [] with stokerHolds := true } ∧
    (due quiet 4 0x0504 []).recheck (waiting 0x0504 []) = none ∧
    after .effectiveStepApply (due quiet 4 0x0504 []) (fun t => t.hal.rampDefault == 77 && t.hal.sched.isEmpty) = true ∧
    (due quiet 1 0x0606 []).recheck (waiting 0x0606 []) = some stRoleDenied ∧
    after .effectiveStepApply (due quiet 1 0x0606 []) (fun t => t.hal.sched.isEmpty && decide (t.dp = quiet.dp)) = true ∧
    after (.commitReceived 4 none) (committing 48004) (fun t => t.hal.sched.all (fun x => x.stokerHolds)) = true ∧
    after (.commitReceived 4 none) (owing 48004) (fun t => t.hal.sched.all (fun x => x.due.isNone) &&
      decide ((t.lastReply 2).map (fun r => r.opcode) = some 0x0504)) = true ∧
    after (.commitReceived 4 none) (missing 48004) (fun t => decide ((t.mt .b).flags = [{ kind := .lateCommit, step := 48004 }])) = true ∧
    after (.commitReceived 4 none) (committing 48003) (fun t => decide ((t.mt .b).lateDiscard = [4] ∧
      (t.mt .b).flags = [{ kind := .lateCommit, step := 48003 }])) = true := by
  decide

/-- The digests that both masts have formed for the step before, and what the Captain has received. -/
def digested (own peer : Nat) : State :=
  { quiet with tan := { quiet.tan with m := { quiet.tan.m with
      a := { mastAs .captain with own := [(47998, List.replicate 8 (some own))], peer := [(47998, List.replicate 8 (some peer))] }
      b := { mastAs .stoker with own := [(47998, List.replicate 8 (some peer))], peer := [] } } } }

theorem witness_DigestsCompare :
    ((digested 1 1).mt .b).own.find 47998 = some (List.replicate 8 (some 1)) ∧ (digested 1 1).digestMode = true ∧
    after (.digestReceived .b 47998) (digested 1 2) (fun t => decide ((t.mt .b).peer.find 47998 = some (List.replicate 8 (some 1)))) = true ∧
    ((digested 1 1).mt .a).compare 47998 = ([], []) ∧
    after (.digestCompare 47998) (digested 1 1) (fun t => decide (t.tst .a = .captain ∧ t.tst .b = .stoker ∧ (t.mt .a).compared = 47998)) = true ∧
    (((digested 1 2).mt .a).compare 47998).1 = [0, 1, 2, 3, 4, 5, 6, 7] ∧
    after (.digestCompare 47998) (digested 1 2) (fun t => decide (t.tst .a = .captain ∧ (t.tst .b = .joining ∨ t.tst .b = .out))) = true ∧
    after (.stepFailure .b 7) quiet (fun t => (t.ct .b).read 0x26 == 1) = true := by
  decide

/-! ### Roles and joins -/

def yielding : MastTandem := { mastAs .captain with lines := { (mastAs .captain).lines with yield0 := true, yield1 := true } }
def taking : MastTandem := { mastAs .captain with lines := { (mastAs .captain).lines with take0 := true, take1 := true } }
theorem witness_RolesMove :
    after (.takeCaptain .b) (masts yielding (mastAs .stoker)) (fun t => decide (t.captain = some .b ∧ t.tst .a = .captain) &&
      (t.mt .b).takes) = true ∧
    after (.releaseDrivers .a) { masts yielding taking with tan := { (masts yielding taking).tan with planned := true } }
      (fun t => decide (t.tst .a = .stoker ∧ t.tst .b = .captain ∧ t.tan.lastCause = 2)) = true ∧
    after (.releaseDrivers .a) (masts yielding taking) (fun t => decide (t.tst .a = .out ∧ t.tst .b = .captain ∧ t.tan.lastCause = 0 ∧
      t.md.nest.resets.head? = some { cause := 6, mast := 0, bootCount := 1, rtc := 0 })) = true ∧
    after (.abruptTakeover .b true true) (apart quiet) (fun t => decide (t.tst .b = .captain ∧ t.tst .a = .out ∧ t.tan.lastCause = 1)) = true ∧
    after (.steerReadbackFault .a .b) quiet (fun t => (t.ct .a).read 0x010B == 1 && (t.ct .a).read 0xA4 == 1) = true := by
  decide

/-- A mast whose Stay lanes are all up and aligned, with a TANDEM block just received. -/
def aligned (m : LaneMast) : LaneMast :=
  { m with tandemAt := some 3000000000000
           lanes := (List.range 32).map (fun k => (192 + k, { Lane.none with st := .up, align := .aligned, upOnce := true })) }
def lanesUp (s : State) : State := { s with lan := s.lan.map aligned }
/-- Mast B has claimed the role 256 cycles of the XO ago. -/
def claimed (stayed : Bool) : State :=
  { quiet with tan := { quiet.tan with stay := { quiet.tan.stay with
      up := false, claim := some .b, claimAt := 3000000000000 - 256 * Config.xoCycle, holdStayed := stayed } } }
/-- Mast B is OUT, with its nest alive, and the Stay link has been up for a second. -/
def mayJoin : State := { quiet with tan := { quiet.tan with m := { a := mastAs .captain, b := { mastAs .out with drive := Drive.off } } } }

theorem witness_StayLinkMoves :
    (lanesUp (apart quiet)).stayGood .a = true ∧ (lanesUp (apart quiet)).stayGood .b = true ∧
    after .stayLinkUp (lanesUp (apart quiet)) (fun t => t.tan.stay.up && t.tan.stay.upSince == quiet.now) = true ∧
    quiet.stayBad .b = true ∧ quiet.mastOn .b = true ∧ quiet.tan.stay.claim = none ∧
    after (.stayLinkDown .b) quiet (fun t => decide (t.tan.stay.up = false ∧ t.tan.stay.claim = some .b ∧ (t.mt .b).steer = true ∧
      (t.ct .b).read 0x47 = 1)) = true ∧
    after (.stayLinkDown .b) (apart quiet) (fun t => decide (t.tan.stay.claim = some .b ∧ (t.mt .b).drive.single = true)) = true ∧
    after .stayArbitration (claimed true) (fun t => decide (t.tst .b = .out ∧ t.tst .a = .captain ∧ t.tan.stay.claim = none)) = true ∧
    after .stayArbitration (claimed false) (fun t => decide (t.tst .b = .captain ∧ t.tst .a = .out ∧ t.tan.lastSwitchStep = 48000)) = true ∧
    mayJoin.canJoin .b = true ∧ mayJoin.tan.heldUntil.get .b = none ∧
    after .stayRejoinTimer mayJoin (fun t => decide (t.tst .b = .joining ∧ t.tan.join.map (fun j => j.mast) = some .b)) = true := by
  decide

/-- Mast B joins: its preload runs; a pass runs; it has been given step J; it has joined. -/
def joining (j : Join) : State := { masts (mastAs .captain) (mastAs .joining) with tan := { (masts (mastAs .captain) (mastAs .joining)).tan with join := some j } }
def join0 : Join := { mast := .b, preload := false, decision := 47900, slowAt := none, pass := 0, attempts := 0, joinStep := none, joined := false }
/-- Mast B joined at step 47998, and the digests of that step. -/
def joined (attempts x y : Nat) : State :=
  let s := joining { join0 with joinStep := some 47998, joined := true, attempts := attempts }
  let own (t : MastTandem) (n : Nat) : MastTandem := { t with own := [(47998, List.replicate 8 (some n))] }
  { s with tan := { s.tan with m := { a := own s.tan.m.a x, b := own s.tan.m.b y } } }

theorem witness_JoinsProceed :
    after .slotPreloadEnd (joining { join0 with preload := true }) (fun t => decide (t.tan.join = some { join0 with decision := 48000, slowAt := some 48000 })) = true ∧
    after (.copyPassEnd true) (joining join0) (fun t => decide (t.tan.join = some { join0 with pass := 1, joinStep := some 48004 })) = true ∧
    after (.copyPassEnd false) (joining { join0 with decision := 48000 })
      (fun t => decide (t.tan.join = some { join0 with decision := 48000, pass := 1 })) = true ∧
    ({ join0 with decision := 47940 } : Join).limit = 48004 ∧
    after (.copyPassEnd false) (joining { join0 with decision := 47940 }) (fun t => decide ((t.tan.join.map (·.joinStep)) = some (some 48004))) = true ∧
    after (.copyPassEnd false) (joining { join0 with decision := 47941 }) (fun t => decide ((t.tan.join.map (·.joinStep)) = some none)) = true ∧
    after .joinStep (joining { join0 with joinStep := some 48001 }) (fun t => decide (
      t.tan.join = some { join0 with joinStep := some 48001, joined := true } ∧ t.dp.b = t.dp.a ∧ t.tst .b = .joining)) = true ∧
    (joined 0 1 1).digestsAgree 47998 = true ∧
    after .stokerRejoin (joined 0 1 1) (fun t => decide (t.tst .b = .stoker ∧ t.tan.join = none)) = true ∧
    (joined 0 1 2).digestsAgree 47998 = false ∧
    after .stokerRejoin (joined 0 1 2) (fun t => decide (t.tst .b = .joining ∧ t.tan.join = some { join0 with decision := 48000, attempts := 1 })) = true ∧
    after .stokerRejoin (joined 1 1 2) (fun t => decide (t.tst .b = .out ∧ t.tan.join = none)) = true ∧
    after (.joinHoldExpiry .b) { mayJoin with tan := { mayJoin.tan with heldUntil := { mayJoin.tan.heldUntil with b := some 0 } } }
      (fun t => decide (t.tst .b = .joining ∧ t.tan.heldUntil.b = none)) = true ∧
    after (.joinHoldExpiry .b) { quiet with tan := { quiet.tan with heldUntil := { quiet.tan.heldUntil with b := some 0 } } }
      (fun t => decide (t.tst .b = .stoker ∧ t.tan.heldUntil.b = none)) = true := by
  decide

/-! ### Faults and memories -/

/-- The states of the collector of Mast A: a full log of acknowledged entries, a queue, an open burst. -/
def entry (n : Nat) (acked : Bool) : LogEntry :=
  { id := n, source := 0x41, reef := 1, acked := acked, summary := false, lasting := false, escalated := false, step := 0, count := 1, site := 0 }
def queued : QueuedReport :=
  { source := 0x44, reef := 1, site := 0x50000003, step := 7, escalated := false, lasting := false, capacity := false, summary := false,
    count := 1, depthMv := 0, durationNs := 0 }
def collecting (f : FaultState) : State := { quiet with flt := { quiet.flt with a := f } }
def bursting (last : Nat) : State :=
  collecting { FaultState.reset with bursts := [(0x44, { last := last, coalesced := 3, site := 1, level := 1, step := 5 })] }

theorem witness_ReportsReachTheLog :
    knownSource 0x44 = true ∧ escalates 0x44 = false ∧ quiet.classOf .a 0x44 0x50000003 false = some 1 ∧
    after (.faultReport .a 0x44 0x50000003 7 false) quiet (fun t => decide (
      ((t.fl .a).queue.map (fun q => (q.source, q.reef, q.site, q.step, q.count))) = [(0x44, 1, 0x50000003, 7, 1)] ∧
      (t.ct .a).read 0x44 = 1)) = true ∧
    ((bursting (quiet.now - Config.msec + 1)).burstOf .a 0x44).isSome = true ∧
    after (.faultReport .a 0x44 2 8 false) (bursting (quiet.now - Config.msec + 1)) (fun t => decide (
      (t.fl .a).queue = [] ∧ (t.fl .a).bursts.find 0x44 = some { last := quiet.now, coalesced := 4, site := 2, level := 1, step := 8 })) = true ∧
    after (.burstClose .a 0x44) (collecting { FaultState.reset with bursts := [(0x44, { last := 0, coalesced := 0, site := 1, level := 1, step := 5 })] })
      (fun t => decide ((t.fl .a).bursts = [] ∧ (t.fl .a).queue = [])) = true ∧
    after (.burstClose .a 0x44) (bursting (quiet.now - Config.msec)) (fun t => decide (
      (t.fl .a).bursts = [] ∧ (t.fl .a).queue.map (fun q => (q.summary, q.count)) = [(true, 3)])) = true ∧
    after (.logWrite .a) (collecting { FaultState.reset with queue := [queued] }) (fun t => decide (
      (t.fl .a).queue = [] ∧ (t.fl .a).log.map (fun e => (e.id, e.source, e.acked)) = [(1, 0x44, false)] ∧ (t.fl .a).nextId = 2 ∧
      (t.ct .a).read 0x0100 = 1)) = true := by
  decide

/-- A full log in which one entry may be overwritten, and one in which none may. -/
theorem witness_LogRoom :
    ((logRoom ((List.range 511).map (fun n => entry n false) ++ [entry 511 true])).map List.length) = some 511 ∧
    logRoom (List.replicate 512 { entry 1 false with reef := 3 }) = none ∧
    after (.logWrite .a) (collecting { FaultState.reset with queue := [queued], log := List.replicate 512 { entry 1 false with reef := 3 } })
      (fun t => (t.fl .a).queue.isEmpty && (t.ct .a).read 0x0101 == 1) = true := by
  decide

theorem witness_ReefLevelsReact :
    knownSource 0x82 = true ∧ knownSource 0x07 = true ∧ quiet.classOf .b 0x82 0 false = some 3 ∧ quiet.tst .b = .stoker ∧
    quiet.isCaptain .a = true ∧ (quiet.mt .a).yields = false ∧ (quiet.sup.get .b).hot = false ∧
    after (.faultReport .b 0x82 0 0 false) quiet (fun t => decide (t.tst .b = .out ∧ t.tst .a = .captain ∧ t.md.mode = .quiet ∧
      t.md.nest.resets.head? = some { cause := 7, mast := 1, bootCount := 1, rtc := 0 })) = true ∧
    quiet.classOf .a 0x07 0 false = some 3 ∧
    after (.faultReport .a 0x07 0 0 false) quiet (fun t => decide (t.tst .a = .captain ∧ t.tan.resetCause.get .a = some 6 ∧
      t.tan.switchSource = 0x07) && (t.mt .a).yields && (t.mt .a).drive.liveSafe) = true ∧
    quiet.inTandem = true ∧ quiet.tst .a = .captain ∧ solo.inTandem = false ∧ solo.tst .a = .captain ∧ solo.isCaptain .b = false ∧
    after (.faultReport .a 0x07 0 0 false) solo (fun t => decide (t.md.mode = .lockout ∧ t.md.nest.lockout.source = 0xA2)) = true ∧
    quiet.classOf .a 0xA3 0 false = some 4 ∧ quiet.classOf .a 0xA2 0 false = some 4 ∧
    after (.faultReport .a 0xA3 0 0 false) quiet (fun t => decide (t.md.mode = .lockout ∧ t.md.nest.lockout.source = 0xFFFF ∧
      t.md.nest.lockout.mode = 3) && (t.mt .a).drive.allSafe && (t.mt .b).drive.allSafe) = true ∧
    after (.faultReport .a 0xA2 0 0 false) quiet (fun t => t.md.nest.lockout.source == 0xA2) = true := by
  decide

theorem witness_NoTrustedMastRemains :
    quiet.tan.stay.up = true ∧ (joining join0).stayBad .a = true ∧ (joining join0).mastOn .a = true ∧
    after (.stayLinkDown .a) (joining join0) (fun t => decide (t.tan.stay.up = false ∧ t.tan.join = none ∧ t.tst .b = .out)) = true ∧
    (joining join0).classOf .a 0x07 0 false = some 3 ∧ (joining join0).tst .b = .joining ∧
    after (.faultReport .a 0x07 0 0 false) (joining join0) (fun t => decide (t.md.mode = .lockout) && (t.mt .a).drive.allSafe &&
      (t.mt .b).drive.allSafe && !(t.mt .a).drive.packets) = true ∧
    solo.tst .b = .out ∧
    after (.faultReport .a 0x07 0 0 false) solo (fun t => decide (t.md.mode = .lockout) && (t.mt .b).drive.allSafe) = true := by
  decide

/-- A targeted test of row 9 of bank 1 of a program memory; a repair waiting for OTP; a march; a rail back in regulation. -/
def rowSite : Nat := 0x30000000 + 0x30 * 2 ^ 20 + 1 * 2 ^ 16 + 9
def testingRow : State :=
  { quiet with flt := { quiet.flt with a := { FaultState.reset with tests := [{ site := rowSite, source := 0x90, startedAt := 0 }] } } }
def repairing (full : Bool) : State :=
  let e : RepairEntry := { typ := 1, memory := 0, bank := 0, spare := 0, index := 5, pending := true, inOtp := false, inNest := true }
  { quiet with mem := { quiet.mem with a := { MemMast.reset with repair := e :: (if full then
      List.replicate 1024 { e with pending := false, inOtp := true } else []) } } }
def marching : State :=
  { quiet with mem := { quiet.mem with a := { MemMast.reset with
      march := [{ destroying := false, target := 0, index := 14, seat := 2, hostSeq := 1, startedAt := 0 }] } } }
def railBack : State :=
  { quiet with sup := { quiet.sup with a := { SupplyMast.reset with
      rails := setAt SupplyMast.reset.rails 8 { RailSt.good with recoveredAt := some (quiet.now - 100 * Config.msec) } } } }

theorem witness_MemoryFaultsAct :
    rsDecode (rsEncode 5) = .clean ∧ rsDecode (rsEncode 5 ^^^ 15) = .corrected (rsEncode 5) ∧ rsDecode (rsEncode 5 ^^^ 0x21) = .uncorrectable ∧
    gives (.scrubRead .a 0x30 15 65535 (rsEncode 5)) quiet quiet = true ∧
    after (.scrubRead .a 0 0 0 (rsEncode 5 ^^^ 15)) quiet (fun t => (t.ct .a).read 0x0200 == 1 && (t.ct .a).read 0x06 == 1) = true ∧
    after (.scrubRead .a 0x28 15 65535 (rsEncode 5 ^^^ 0x21)) quiet (fun t => (t.ct .a).read 0x0251 == 1 && (t.ct .a).read 0x24 == 1) = true ∧
    (testingRow.fl .a).tests.find? (fun t => t.site == rowSite) = some { site := rowSite, source := 0x90, startedAt := 0 } ∧ siteKind rowSite ≠ 5 ∧
    (testingRow.fl .a).history = [] ∧ (testingRow.fl .a).regs.find (retiredSource 0x30) = none ∧ (testingRow.mem.get .a).repair = [] ∧
    after (.targetedTestResult .a rowSite true) testingRow (fun t => decide ((t.fl .a).tests = [] ∧ (rowSite, quiet.now) ∈ (t.fl .a).history ∧
      (t.ct .a).read 0x0106 = 1)) = true ∧
    (testingRow.mem.get .a).freeRow 0x30 1 = some 0 ∧
    after (.targetedTestResult .a rowSite false) testingRow (fun t => decide ((t.mem.get .a).repair =
      [{ typ := 1, memory := 0x30, bank := 1, spare := 0, index := 9, pending := true, inOtp := false, inNest := true }] ∧
      (t.ct .a).read 0x0107 = 1)) = true ∧
    after (.rowCopyEnd .a 3) (collecting { FaultState.reset with copies := [(3, 0), (4, 0)] }) (fun t => (t.fl .a).copies == [(4, 0)]) = true ∧
    (repairing false).writesHeld .a = false ∧
    after (.otpRepairWrite .a) (repairing false) (fun t => (t.mem.get .a).repair.all (fun e => e.inOtp && !e.pending)) = true ∧
    after (.marchDone .a 0 14 [] [] false) marching (fun t => (t.mem.get .a).march.isEmpty) = true ∧
    after (.marchDone .a 0 14 [] [] false) { marching with mem := { marching.mem with a := { marching.mem.a with
      march := marching.mem.a.march.map (fun y => { y with destroying := true }) } } } (fun t => (t.mem.get .a).march.isEmpty) = true ∧
    service.sec.profile.isSome = true ∧ after (.fallbackMemoryCheck .a false true) service (fun _ => true) = true ∧
    railBack.railHold .a = false ∧
    after (.writeHoldoffEnd .a false) railBack (fun t => (t.sup.get .a).rails.all (fun r => r.recoveredAt.isNone)) = true ∧
    after (.writeHoldoffEnd .a true) railBack (fun t => (t.ct .a).read 0x97 == 1) = true ∧ service.mastOn .a = true := by
  decide

/-- OTP holds 1,024 repairs, and one more waits. -/
theorem witness_OtpFull :
    (((repairing true).mem.get .a).repair.filter (fun y => y.inOtp)).length = 1024 ∧
    after (.otpRepairWrite .a) (repairing true) (fun t => (t.mem.get .a).otpFull == 1 && (t.ct .a).read 0x97 == 1) = true := by
  decide

theorem witness_EventsReachTheSeats :
    ((withSeat quiet 2).seat 2).wants 0x0301 = false ∧
    ({ (withSeat quiet 2).seat 2 with eventMask := 0xFFFF } : SeatState).wants 0x0301 = true ∧ 2 < quiet.hal.seats.length := by
  decide

/-- The sessions of `withSeat` have their sequences before them; none is left once one has used nearly all. -/
theorem witness_KeysLast : (withSeat quiet 2).keysLast ∧
    ¬ ({ quiet with hal := { quiet.hal with sessions := [{ session7 quiet with devUsed := seqWrapLimit - 65 }] } } : State).keysLast := by
  unfold State.keysLast
  decide

/-! ### Audio and video from outside -/

/-- Lane 0 of both masts up: media port 0 receives. -/
def up0 : Lane := { Lane.none with st := .up, upOnce := true }
def hearing (s : State) : State := { s with lan := .same { LaneMast.reset with lanes := [(0, up0)] } }
/-- SERVICE with stream 3 received on flow entry 1 of each mast: 48 samples of one channel of 24 bits at 48 kHz. -/
def rxMatch : List Byte := be 1 4 ++ zeros 3 ++ be 16 9 ++ zeros 16 ++ be 2 5004 ++ zeros 6
def rxStream : RxStream :=
  { params := be 2 3 ++ be 2 1 ++ be 1 1 ++ be 1 0 ++ be 1 1 ++ be 1 2 ++ be 2 48 ++ be 2 100 ++ zeros 4 ++ rxMatch, start := 0,
    profile := false, seen := false, held := [], newest := none, slots := [], missing := 0, next := 0, grid := 0, running := false, seq0 := 0,
    feed := .reset 1 4294967296 }
def listening (x y : RxStream) (forwards : List (Nat × HeldPacket)) : State :=
  hearing { service with
    aud := { a := { AudioMast.reset with rx := [(3, x)] }, b := { AudioMast.reset with rx := [(3, y)], forwards := forwards } }
    vid := .same { VideoMast.reset with flows := [(1, { owner := 0x8003, typ := 3, flags := 0, match' := rxMatch })], idle := false } }
/-- The packet of sequence number 5 whose samples begin in this step. -/
def pkt (n : Nat) : RtpFacts := { rtp with dest := 9, payloadLen := n, seq := 5, ts := 24000 }
def held5 : HeldPacket := { seq := 5, ts := 24000, at' := 48000, samples := [] }
def heard : State := listening rxStream rxStream []
def holding : State := listening { rxStream with missing := 7 } { rxStream with held := [held5] } [(3, held5)]
/-- The same once packet 4 has come, as the newest, in a step: packet 5 is expected 96 steps later. -/
def expecting (n : Nat) : State :=
  { listening { rxStream with newest := some { held5 with seq := 4, ts := 23952 } } rxStream [] with step := n }
/-- The Primary's Captain supplies this mast, the Stoker of a Reserve in track. -/
def supplied : State :=
  { heard with tan := reserveTracks.tan, lan := heard.lan.map (fun x => { x with shroudUp := true }) }

theorem witness_NetworkAudioArrives :
    heard.receives .a = true ∧ heard.hears .a 0 = true ∧ heard.hears .a 1 = false ∧ heard.frameBad .a frame0 = false ∧
    (heard.vid.get .a).lookup rtp = none ∧
    ([{ frame0 with fcsOk := false }, { frame0 with length := 63 }, { frame0 with length := 1519 }, { frame0 with length := 1523, tagged := true },
      { frame0 with dest := 1 }, { frame0 with pause := true }] : List FrameFacts).all (fun f => heard.frameBad .a f &&
        after (.audioPacketRx .a { pkt 144 with frame := f } [] 0) heard (fun t => decide ((t.ct .a).read 0x0407 = 1 ∧ (t.ct .a).read 0x0404 = 1 ∧
          (t.ct .a).read 0x4002 = 0))) = true ∧
    ([{ frame0 with length := 64 }, { frame0 with length := 1518 }, { frame0 with length := 1522, tagged := true },
      { frame0 with dest := 0xFFFFFFFFFFFF }] : List FrameFacts).all (fun f => !heard.frameBad .a f) = true ∧
    after (.audioPacketRx .a rtp [] 0) heard (fun t => (t.ct .a).read 0x6000 == 1) = true ∧
    ((heard.vid.get .a).lookup (pkt 144)).map (fun e => (e.1, e.2.typ, e.2.owner)) = some (1, 3, 0x8003) ∧
    rxStream.samples * rxStream.channels * 3 = 144 ∧ rxStream.l16 = false ∧ rxStream.holds 5 24000 = false ∧
    rxStream.arrivalStep heard.rate heard.step 24000 ≤ heard.step + 2 * packetSteps heard.rate rxStream.samples rxStream.hz ∧
    heard.step ≤ rxStream.lastStep heard.rate held5 ∧
    after (.audioPacketRx .a (pkt 144) [] 0) heard (fun t => decide (((t.rxOf .a 3).map (fun y => y.held)) = some [held5] ∧
      ((t.aud.get .a).report 2 3).state = 2 ∧ (t.ct .a).read 0x4002 = 1)) = true ∧
    after (.audioPacketRx .a (pkt 143) [] 0) heard (fun t => (t.ct .a).read 0x4002 == 1 && (t.ct .a).read (sourceCounter 2 3 + 3) == 1) = true ∧
    after (.audioPacketRx .a (pkt 144) [] 0) (listening { rxStream with held := [held5] } rxStream []) (fun t => (t.ct .a).read 0x6001 == 1) = true ∧
    rxStream.expected 96000 5 = none ∧ ((expecting 48000).rxOf .a 3).map (fun x => x.expected 96000 5) = some (some 48096) ∧
    (expecting 48000).sharing = true ∧ ((expecting 48097).rxOf .a 3).map (fun x => x.overdue 96000 48097 5) = some false ∧
    ((expecting 48098).rxOf .a 3).map (fun x => x.overdue 96000 48098 5) = some true ∧
    after (.packetExpectedTimeout .a 3 5) (expecting 48097) (fun t => (t.aud.get .a).notices.isEmpty) = true ∧
    after (.packetExpectedTimeout .a 3 5) (expecting 48098) (fun t => (t.aud.get .a).notices == [(3, 5)]) = true ∧
    solo.sharing = false ∧
    gives (.packetExpectedTimeout .a 3 5) { expecting 48098 with tan := solo.tan } { expecting 48098 with tan := solo.tan } = true ∧
    holding.tan.stay.up = true ∧ holding.sharing = true ∧
    after (.gapNoticeRx .b false 3 5) holding (fun t => (t.aud.get .b).forwards.length == 2) = true ∧
    supplied.tracks = true ∧ (supplied.lan.get .b).shroudUp = true ∧
    after (.forwardedPacketRx .b 3 5 (some held5)) supplied (fun t => decide (((t.rxOf .b 3).map (fun y => y.held)) = some [held5])) = true ∧
    after (.forwardedPacketRx .a 3 5 none) holding (fun t => decide (((t.rxOf .a 3).map (fun y => y.held)) = some [held5] ∧
      (t.aud.get .b).forwards = [])) = true ∧
    after (.packetDeadline .a 3 5) holding (fun t => decide ((t.ct .a).read 0x6007 = 1 ∧ (t.mt .a).flags.map (fun f => f.kind) = [.mergeLate])) = true ∧
    after (.packetDeadline .a 3 5) { holding with tan := solo.tan } (fun t => decide (
      ((t.rxOf .a 3).map (fun y => y.missing)) = some 8 ∧ ((t.aud.get .a).report 2 3).state = 1)) = true ∧
    after (.audioPortEventDeferred .a 2 3) { heard with aud := heard.aud.map (fun a => { a with
        reports := [(portKey 2 3, { state := 2, last := some (quiet.now - Config.second), held := true })] }) } (fun t =>
      !((t.aud.get .a).report 2 3).held) = true ∧
    after (.flowMissEvent .a) { heard with vid := heard.vid.map (fun v => { v with misses := 3, missAt := some (quiet.now - Config.second) }) }
      (fun t => decide ((t.vid.get .a).misses = 0 ∧ (t.vid.get .a).missAt = some quiet.now)) = true := by
  decide

/-- AES3 input 15 of both masts in a state. -/
def aesInput (x : AesIn) : State :=
  { service with aud := .same { AudioMast.reset with aesIn := setAt AudioMast.reset.aesIn 15 x } }
def captured (n : Nat) : Captured := { index := n, first := 0, samples := [some 0, some 0], phase := 0, step := none, bad := 0 }
def note (n : Nat) : CaptureNote :=
  { cls := 0, port := 15, index := 7, first := 0, channels := 2, step := n, phase := 1, bad := false }
/-- Mast B has its copy of the frame that the Captain has assigned. -/
def assigned (x : CaptureNote) : State :=
  let s := aesInput { AesIn.reset with caps := [captured 7] }
  { s with aud := { s.aud with a := { s.aud.a with sent := [x] } } }
def frame (lineOk : Bool) : AesFrame :=
  { port := 15, left := 8388607, leftOk := true, right := -8388608, rightOk := true, lineOk := lineOk, phase := 3, block := none, estimate := 2 ^ 31 }
/-- De-embedding group 3 of SDI port 63. -/
def deembedding : State :=
  { service with aud := .same { AudioMast.reset with sdi := [(63, { SdiAudio.reset with inGroups := 8 })] } }
def sdiPacket (c : Option Bool) : SdiPacket :=
  { port := 63, group := 3, control := c, checksOk := true, samples := [1, 2, 3, 4], phase := 0, estimate := 0 }
/-- An SDI audio input of a port. -/
def sdiIn (t : State) : SdiAudio := (t.aud.get .a).sdi.getD 63 .reset
def aesAt (t : State) (m : Mast) : AesIn := atD (t.aud.get m).aesIn 15 .reset

theorem witness_CapturesArrive :
    (aesInput .reset).live .a = true ∧ AesIn.reset.enabled = true ∧
    after (.aes3FrameRx .a (frame true)) (aesInput .reset) (fun t => decide ((aesAt t .a).frames = 1 ∧
      (aesAt t .a).caps.map (fun c => (c.samples, c.step)) = [([some 8388607, some (-8388608)], some 48000)])) = true ∧
    after (.aes3FrameRx .b (frame false)) (aesInput .reset) (fun t => decide (
      (aesAt t .b).caps.map (fun c => (c.samples, c.step, c.bad)) = [([none, none], none, 2)])) = true ∧
    after (.aes3FrameRx .b (frame true)) (aesInput { AesIn.reset with caps := [{ captured 0 with step := some 47999, bad := 3 }] }) (fun t => decide (
      (aesAt t .b).caps.map (fun c => (c.index, c.step, c.bad)) = [(0, some 47999, 0)])) = true ∧
    (assigned (note 47999)).tracks = false ∧ (assigned (note 47999)).step < (note 47999).step + (assigned (note 47999)).fence ∧
    after (.captureAssignmentRx .b (note 47999)) (assigned (note 47999)) (fun t => decide (
      (aesAt t .b).caps.map (fun c => c.step) = [some 47999] ∧ (t.mt .b).flags = [] ∧ (t.aud.get .a).sent = [])) = true ∧
    after (.captureAssignmentRx .b (note 47998)) (assigned (note 47998)) (fun t => decide (
      (t.mt .b).flags.map (fun f => f.kind) = [.lateCommit])) = true ∧
    after (.captureAssignmentRx .b (note 47999)) ((assigned (note 47999)).setAud .b { AudioMast.reset with
        aesIn := setAt AudioMast.reset.aesIn 15 { AesIn.reset with caps := [{ captured 7 with bad := 2 }] } }) (fun t => decide (
      (t.mt .b).flags = [{ kind := .captureError, step := 47999 }])) = true ∧
    gives (.captureAssignmentRx .b (note 47998)) (assigned (note 47999)) (assigned (note 47999)) = true ∧
    (aesInput .reset).assigns .b = false ∧
    after (.asrcEstimateRx .b 0 15 47985 5) (aesInput .reset) (fun t => decide ((aesAt t .b).feed.ests = [(47985, 5)] ∧ (t.mt .b).flags = [])) = true ∧
    after (.asrcEstimateRx .b 0 15 47984 5) (aesInput .reset) (fun t => decide ((aesAt t .b).feed.ests = [(47985, 5)] ∧
      (t.mt .b).flags = [{ kind := .lateCommit, step := 47984 }])) = true ∧
    tracks 2149631131 (nominalRatio 96000 (rateHz 2)) = true ∧ tracks 2149631132 (nominalRatio 96000 (rateHz 2)) = false ∧
    after (.asrcLock .a 0 15 2149631131) (aesInput { AesIn.reset with enabled := true, locked := true, rate := 2 }) (fun t => decide (
      (aesAt t .a).feed.locked = true ∧ (aesAt t .a).feed.own = 2149631131 ∧ ((t.aud.get .a).report 0 15).state = 2)) = true ∧
    after (.aes3InputLock .a 15 6) (aesInput .reset) (fun t => decide ((aesAt t .a).locked = true ∧ (aesAt t .a).rate = 6)) = true ∧
    after (.aes3InputUnlock .a 15) (aesInput { AesIn.reset with locked := true, rate := 2 }) (fun t => decide (
      (aesAt t .a).locked = false ∧ (aesAt t .a).rate = 0xFF ∧ ((t.aud.get .a).report 0 15).state = 1)) = true ∧
    after (.singleHomedChange 0 15) { aesInput .reset with aud := { (aesInput .reset).aud with a := (aesInput { AesIn.reset with locked := true }).aud.a } }
      (fun t => decide ((t.aud.get .a).single = [15] ∧ (t.aud.get .b).single = [15] ∧ (t.ct .b).read 0xB4 = 1)) = true ∧
    after (.singleHomedChange 0 15) { aesInput .reset with aud := (aesInput { AesIn.reset with locked := true }).aud.map (fun a => { a with single := [15] }) }
      (fun t => (t.aud.get .a).single.isEmpty) = true ∧
    after (.sdiAudioPacket .a (sdiPacket none)) deembedding (fun t => decide ((sdiIn t).frames = 1 ∧
      (sdiIn t).caps.map (fun c => (c.first, c.samples)) = [(12, [some 1, some 2, some 3, some 4])])) = true ∧
    after (.sdiAudioPacket .a (sdiPacket (some true))) deembedding (fun t => (sdiIn t).locked && (sdiIn t).rateOk) = true ∧
    after (.sdiAudioPacket .a (sdiPacket (some false))) deembedding (fun t => decide ((sdiIn t).locked = true ∧ (sdiIn t).rateOk = false ∧
      ((t.aud.get .a).report 4 63).state = 1)) = true := by
  decide

/-- SERVICE with flow 64 of a type, which feeds outputs 70 and 71; both emit packets. -/
def flowing (typ : Nat) (v : VideoIn) : State :=
  hearing { service with vid := .same { VideoMast.reset with
      flows := [(9, { owner := 64, typ := typ, flags := 0, match' := be 1 4 ++ zeros 3 ++ be 16 0xE0000001 ++ zeros 16 ++ be 2 5004 ++ zeros 6 })]
      inputs := [(64, v)], idle := false
      outputs := [(70, { XptOut.none with input := 64 }), (71, { XptOut.none with input := 64, fmt := 65 })]
      tx := [(70, { params := be 2 70 ++ be 1 1 ++ be 1 typ ++ zeros 44, count := 65535, sent := [] })] } }
def video : RtpFacts := { rtp with dest := 0xE0000001, seq := 1 }
def vrow (ok : Bool) : VideoRow := { line := 3, first := 0, samples := [1, 1023], deep := false, headerOk := ok }

/-- An input that has a format, and with it the flow whose packets reach its outputs. -/
def known : VideoIn := { VideoIn.none with fmt := 65 }
/-- The peer asks this mast for packet 9 of input 64, whose newest packet is 9. -/
def asked (x : VideoSeq) : State :=
  let s := flowing 0 known
  { s with vid := { a := { s.vid.a with seqs := [(64, x)] }, b := { s.vid.b with notices := [(64, 9)] } } }
def seq9 : VideoSeq := { seq := 9, ts := 7, bytes := 1200, missing := [] }
/-- Input 64 with an unrepaired counter. -/
def marked (u : Unrepaired) : State :=
  { flowing 0 .none with vid := (flowing 0 .none).vid.map (fun v => { v with unrepaired := [(64, u)] }) }

theorem witness_VideoArrives :
    (flowing 0 .none).receives .a = true ∧ (flowing 0 .none).hears .a 0 = true ∧
    (flowing 0 .none).frameBad .a video.frame = false ∧ (flowing 0 .none).frameBad .a { video.frame with fcsOk := false } = true ∧
    after (.videoPacketRx .a { video with frame := { video.frame with fcsOk := false } } (vrow true)) (flowing 0 known) (fun t =>
      (t.ct .a).read 0x0407 == 1 && (t.ct .a).read 0x0404 == 1 && (t.ct .a).read 0x4012 == 0) = true ∧
    ((flowing 0 .none).vid.get .a).lookup rtp = none ∧
    after (.videoPacketRx .a rtp (vrow true)) (flowing 0 .none) (fun t => (t.ct .a).read 0x6000 == 1) = true ∧
    (((flowing 0 .none).vid.get .a).lookup video).map (fun e => (e.1, e.2.owner)) = some (9, 64) ∧
    ((flowing 0 .none).vid.get .a).fedBy 64 = [70, 71] ∧
    (vrow true).within 65 = true ∧ ({ vrow true with line := 539, first := 3838 } : VideoRow).within 65 = true ∧
    ([{ vrow true with line := 540 }, { vrow true with first := 3839 }, { vrow true with deep := true }] : List VideoRow).all
      (fun x => !x.within 65) = true ∧
    after (.videoPacketRx .a video (vrow false)) (flowing 0 known) (fun t => (t.ct .a).read 0x4012 == 1 && (t.ct .a).read 0x4013 == 1) = true ∧
    after (.videoPacketRx .a video { vrow true with line := 540 }) (flowing 0 known) (fun t => (t.ct .a).read 0x4013 == 1) = true ∧
    after (.videoPacketRx .a video (vrow true)) (flowing 0 known) (fun t => decide ((t.ct .a).read 0x4012 = 1 ∧ (t.ct .a).read 0x4013 = 0 ∧
      (t.vid.get .a).slack.find 71 = some [{ line := 3, first := 0, count := 2, words := [4 + 4092 * 2 ^ 12] }])) = true ∧
    ((flowing 1 .none).vid.get .a).idle = false ∧ ((flowing 1 .none).mt .a).drive.packets = true ∧ (flowing 1 .none).md.mode ≠ .maintain ∧
    ([1, 2] : List Nat).all (fun k => after (.videoPacketRx .a { video with ts := 8 } (vrow true)) (flowing k .none) (fun t => decide (
      ((t.vid.get .a).tx.find 70).map (fun y => (y.count, y.sent.map (fun q => (q.seq, q.ts)))) = some (0, [(65535, 8)])))) = true ∧
    (((flowing 0 .none).vid.get .a).binding 64).isSome = true ∧ (flowing 0 .none).serves .a = true ∧
    after (.flowUnrepaired .a 64 5 0) (flowing 0 .none) (fun t => decide ((t.vid.get .a).unrepaired.find 64 =
      some { count := 1, ts := some 5, eventAt := some quiet.now } ∧ (t.ct .a).read 0x6008 = 1)) = true ∧
    after (.flowUnrepaired .a 64 5 0) (marked { count := 2, ts := some 4, eventAt := some (quiet.now - Config.second + 1) }) (fun t => decide (
      (t.vid.get .a).unrepaired.find 64 = some { count := 3, ts := some 5, eventAt := some (quiet.now - Config.second + 1) })) = true ∧
    after (.flowUnrepaired .a 64 5 1) (marked { count := 2, ts := some 5, eventAt := none }) (fun t => (t.ct .a).read 0x6008 == 0 &&
      (t.ct .a).read (outCounter 70 + 1) == 1) = true ∧
    (asked seq9).sharing = true ∧ ((asked seq9).vid.get .a).seqs.find 64 = some seq9 ∧
    after (.gapNoticeRx .a true 64 9) (asked seq9) (fun t => decide (
      (t.lan.get .a).videoOut = [{ port := 64, seq := 9, ts := 7, bytes := 1200 }] ∧ (t.vid.get .b).notices = [])) = true ∧
    after (.gapNoticeRx .a true 64 9) (asked { seq9 with missing := [(9, 7)] }) (fun t => (t.lan.get .a).videoOut.isEmpty) = true ∧
    after (.gapNoticeRx .a true 64 10) (asked seq9) (fun t => (t.lan.get .a).videoOut.isEmpty) = true ∧
    ((flowing 0 .none).vid.get .a).flows.any (fun e => e.2.multicast) = true ∧
    after (.membershipQuery .a) { flowing 0 .none with vid := (flowing 0 .none).vid.map (fun v => { v with
        members := [{ port := 0, group := 0xE0000001, source := none }] }) } (fun t => decide (
      (t.vid.get .a).reported = [({ port := 0, group := 0xE0000001, source := none }, false)])) = true ∧
    fmtValid 65 = true ∧ fmtValid 0 = true ∧ (flowing 0 .none).videoRuns = true ∧ videoAbsent .v2048V 64 = false ∧
    (flowing 0 .none).isCaptain .a = true ∧ ((flowing 0 .none).vid.get .a).inType 64 = 0 ∧
    after (.formatRecognised .a 64 65) (flowing 0 .none) (fun t => ((t.vid.get .b).inp 64).fmt == 65 && ((t.vid.get .b).inp 64).present) = true ∧
    after (.formatRecognised .a 64 0) (flowing 0 { VideoIn.none with fmt := 65, present := true, arrival := some 3 }) (fun t => decide (
      (t.vid.get .b).inp 64 = VideoIn.none)) = true ∧
    after (.arrivalMeasurement .a 64 77 1000 0) (flowing 0 { VideoIn.none with fmt := 65 }) (fun t => decide (
      ((t.vid.get .a).inp 64).arrival = some 77 ∧ ((t.vid.get .a).inp 64).rate = 1000)) = true := by
  decide

/-- Output 70 of an input, with one entry that waits for its switch frame, and its command. -/
def switching (q : Nat) (d : Option Decision) (track : Option Int) : State :=
  let p : XptPending :=
    { input := 64, frame := 100, q := q, cleanOnly := false, order := 4, seat := 2, hostSeq := 1, decision := d, track := track, fmt := 65 }
  let j : XptJob :=
    { code := 0x0701, order := 4, seat := 2, hostSeq := 1, eff := 40000, left := 2, clean := 0, unclean := 0, refused := 0,
      superseded := 0, first := none }
  { service with jobs := [j], vid := .same { VideoMast.reset with
      inputs := [(64, { VideoIn.none with fmt := 65, present := true, arrival := some 0 })], idle := false
      outputs := [(70, { XptOut.none with pending := [p] })] } }
/-- Output 70 of both masts. -/
def out70 (t : State) (m : Mast) : XptOut := (t.vid.get m).out 70
/-- Output 70 takes input 64; it is black or not. -/
def connected (black : Bool) (track : Int) (rate : Nat) : State :=
  { service with vid := .same { VideoMast.reset with
      inputs := [(64, { VideoIn.none with fmt := 65, present := true, arrival := some 0, rate := rate })], idle := false
      outputs := [(70, { XptOut.none with input := 64, fmt := 65, black := black, track := some track })] } }
/-- A passthrough flow of more than the fabric carries. -/
def overloading : State := flowing 2 { VideoIn.none with fmt := 193, present := true, arrival := some 0, rate := 10 ^ 13 }

theorem witness_SwitchesHappen :
    (switching 48008 none none).captain = some .a ∧ (nextDue (out70 (switching 48008 none none) .a) 48008).isSome = true ∧
    after (.switchFinalDecision 70 true) (switching 48008 none none) (fun t => decide (
      (out70 t .a).pending.map (fun q => q.decision.isSome) = [true] ∧ (out70 t .b).pending = (out70 t .a).pending)) = true ∧
    after (.switchFinalDecision 70 false) (switching 48008 none none) (fun t => decide (
      (out70 t .b).pending.map (fun q => q.decision) = [none])) = true ∧
    after (.stokerOwnSwitchDecision 70) (switching 48002 none none) (fun t => decide (
      (out70 t .b).pending.map (fun q => q.decision.isSome) = [true] ∧ (t.mt .b).flags.map (fun f => f.kind) = [.lateCommit])) = true ∧
    after (.switchPoint 70) (switching 48000 (some .clean) none) (fun t => decide ((out70 t .a).input = 64 ∧ (out70 t .a).clean = true ∧
      (out70 t .a).pending = [] ∧ t.jobs.map (fun j => (j.clean, j.left)) = [(1, 1)])) = true ∧
    after (.switchPoint 70) (switching 48000 (some .unclean) (some 9)) (fun t => decide ((out70 t .b).input = 64 ∧ (out70 t .b).track = some 9 ∧
      (t.ct .a).read (outCounter 70) = 1 ∧ t.jobs.map (fun j => (j.unclean, j.left)) = [(1, 1)])) = true ∧
    after (.switchPoint 70) (switching 48000 (some .refused) none) (fun t => decide ((out70 t .a).input = 0xFFFF ∧ (out70 t .a).pending = [])) = true ∧
    after (.sourceChange 70 false 0) (connected false 480000000 0) (fun t => (out70 t .b).black) = true ∧
    (connected false 480000000 0).sourceAct .a 70 true = .keep ∧ (connected true 480000000 0).sourceAct .a 70 true = .resume ∧
    after (.sourceChange 70 true 0) (connected true 480000000 0) (fun t => decide ((out70 t .b).black = false ∧
      (out70 t .b).track = some 480000000)) = true ∧
    (connected false 0 0).sourceAct .a 70 true = .retrack (some 480000000) 65 ∧
    after (.sourceChange 70 true 0) (connected true 0 0) (fun t => decide ((out70 t .b).black = false ∧ (out70 t .b).clean = false ∧
      (out70 t .b).track = some 480000000)) = true ∧
    gives .fabricOverload (connected false 0 0) (connected false 0 0) = true ∧
    after .fabricOverload overloading (fun t => decide ((out70 t .b).input = 0xFFFF ∧ (out70 t .b).track = none) &&
      (t.ct .a).read 0x27 == 1) = true ∧
    after (.cellCrcMismatch .a 3 391) (connected false 0 0) (fun t => (t.ct .a).read 0x20 == 1) = true := by
  decide

/-! ### Lanes, links and the Reserve -/

/-- Lane `l` of Mast A in a state; every lane of the links aligned. -/
def laneIs (l : Nat) (x : Lane) : State := quiet.setLane .a l x
def linked (f : LaneMast → LaneMast) : State :=
  { quiet with lan := .same (f { LaneMast.reset with
      lanes := (List.range 40).map (fun k => (192 + k, { Lane.none with st := .up, align := .aligned, upOnce := true })) }) }
def upLane : Lane := { Lane.none with st := .up, upOnce := true }
def lane (t : State) (l : Nat) : Lane := t.lane .a l
/-- A test of lane 127, which is down. -/
def laneTest : State :=
  { laneIs 127 { Lane.none with st := .down } with flt := { quiet.flt with a := { FaultState.reset with
      tests := [{ site := 0x5000007F, source := 0x40, startedAt := 0 }] } } }

theorem witness_LanesMove :
    after (.laneLos .a 0 true) (laneIs 0 upLane) (fun t => decide ((lane t 0).st = .down ∧ (t.ct .a).read 0x0400 = 1 ∧ (t.ct .a).read 0x40 = 1)) = true ∧
    after (.laneLos .a 232 false) (laneIs 232 { Lane.none with los := true, st := .down }) (fun t => (lane t 232).st == .up) = true ∧
    after (.laneLol .a 191 true) (laneIs 191 upLane) (fun t => decide ((lane t 191).st = .down ∧ (t.ct .a).read 0x09F9 = 1)) = true ∧
    after (.laneLol .a 232 false) (laneIs 232 { Lane.none with lol := true, st := .bringUp }) (fun t => (lane t 232).st == .up) = true ∧
    after (.laneErrorBurst .a 127 true) (laneIs 127 upLane) (fun t => (t.ct .a).read 0x07FB == 10 && (t.ct .a).read 0x42 == 1) = true ∧
    after (.laneErrorBurst .a 128 true) (laneIs 128 upLane) (fun t => (t.ct .a).read 0x0802 == 10) = true ∧
    (laneTest.fl .a).tests.find? (fun t => t.site == 0x5000007F) = some { site := 0x5000007F, source := 0x40, startedAt := 0 } ∧
    after (.laneSelfTestResult .a 127 0) laneTest (fun t => decide ((t.fl .a).tests = [] ∧ (t.ct .a).read 0x0106 = 1 ∧ (lane t 127).st = .down)) = true ∧
    after (.laneSelfTestResult .a 127 3) laneTest (fun t => decide ((lane t 127).st = .retired ∧ (t.ct .a).read 0x0107 = 1)) = true ∧
    after (.laneBringupTimeout .a 5) (laneIs 5 { Lane.none with st := .bringUp, poweredAt := quiet.now - 10 * Config.second }) (fun t => decide (
      (lane t 5).st = .down ∧ (lane t 5).bringUpFault = true ∧ (t.ct .a).read 0x44 = 1)) = true ∧
    upLane.watched = true ∧
    after (.laneAligned .a 231 .aligned (2 ^ 31) 256) (laneIs 231 { upLane with st := .bringUp, align := .headerLock, lol := true }) (fun t => decide ((lane t 231).align = .aligned ∧
      (lane t 231).st = .up ∧ (lane t 231).rxFrame = 0 ∧ (lane t 231).seed = 0)) = true ∧
    AlignSt.moves .aligned .hunt = true ∧ AlignSt.moves .hunt .aligned = false ∧
    gives (.laneAligned .a 231 .aligned 5 6) (laneIs 231 upLane) (laneIs 231 upLane) = true ∧
    after (.laneAligned .a 231 .aligned 5 0) (laneIs 231 { upLane with align := .aligned, rxFrame := 255 }) (fun t => decide (
      (lane t 231).rxFrame = 0 ∧ (lane t 231).seed = 5 ∧ (t.ct .a).read 0x0B3D = 0)) = true ∧
    after (.laneAligned .a 231 .aligned 5 1) (laneIs 231 { upLane with align := .aligned, rxFrame := 255 }) (fun t => decide (
      (lane t 231).rxFrame = 1 ∧ (t.ct .a).read 0x0B3D = 1)) = true ∧
    after (.laneSelfTestResult .a 127 5) (laneIs 127 { Lane.none with st := .down, loop := 1, loopErrors := 2 }) (fun t => (lane t 127).loopErrors == 7) = true ∧
    (laneTest.fl .a).history = [] ∧
    gives (.eyeMeasurement .a 7 40 20) (laneIs 7 { upLane with eyes := [(quiet.now - Config.second + 1, 1, 1)] })
      (laneIs 7 { upLane with eyes := [(quiet.now - Config.second + 1, 1, 1)] }) = true ∧
    after (.eyeMeasurement .a 7 40 20) (laneIs 7 { upLane with eyes := [(quiet.now - Config.second, 1, 1), (quiet.now - 10 * Config.second - 1, 2, 2)] })
      (fun t => (lane t 7).eyes == [(quiet.now, 40, 20), (quiet.now - Config.second, 1, 1)]) = true ∧
    after (.laneAligned .a 192 .hunt 0 0) (laneIs 192 { upLane with align := .aligned }) (fun t => decide ((lane t 192).st = .down ∧
      (t.ct .a).read 0x46 = 1)) = true ∧
    after (.eyeMeasurement .a 7 40 20) (laneIs 7 upLane) (fun t => decide ((lane t 7).eyes = [(quiet.now, 40, 20)] ∧
      (t.ct .a).gauges.find 0x611C = some 40 ∧ (t.ct .a).gauges.find 0x611D = some 20)) = true := by
  decide

/-- A TANDEM block as sent, with its check. -/
def tandemBlock : Nat :=
  let p := 0x5A * 2 ^ 56 + 3 * 2 ^ 52 + 77 * 2 ^ 8
  p + crc8 p
/-- A link key slot of purpose 1; a Shroud link that is up. -/
def keyedNest (s : State) : State :=
  { s with md := { s.md with nest := { s.md.nest with keySlots := setAt s.md.nest.keySlots 7 (some { purpose := 1, key := 5 }) } } }
/-- The same links under a link key, with the one before it; and a profile, whose PEER_CERT_HASH is empty. -/
def keyed (f : LaneMast → LaneMast) : State :=
  { linked (fun y => f { y with linkKey := some [7], formerKey := some [8] }) with sec := service.sec }
/-- The block of a Stay container of one block that checks. -/
def checked (cls seq : Nat) : List Nat := [containerCrc cls seq [0]]
/-- The sequences of the Stay link of Mast A. -/
def staySeq (t : State) : LinkSeq := (t.lan.get .a).stay

/-- A run of 24 gets its opposite bit, which counts as the first of the next run; a run of 23 that ends gets none (R404). -/
theorem witness_LineRunsStayShort :
    (23 ≤ 23 ∧ stuff [true, true] true 23 = [true, false, true]) ∧ stuff [false] true 23 = [false] ∧
    stuff (List.replicate 24 true ++ List.replicate 23 false) false 0 =
      List.replicate 24 true ++ List.replicate 24 false ++ [true] := by
  decide

theorem witness_LinksCarry :
    after (.containerRx .a 192 5 0 [0] .none none) (linked id) (fun t => (t.ct .a).read 0x0A03 == 1) = true ∧
    after (.containerRx .a 192 1 0 [0] .none none) (linked id) (fun t => (t.ct .a).read 0x0A02 == 1) = true ∧
    after (.containerRx .a 224 1 0 [0] .linkKey none) (linked id) (fun t => (t.ct .a).read 0x0B02 == 1) = true ∧
    containerOk 4 0 (checked 4 0) = true ∧ containerOk 4 1 (checked 4 0) = false ∧
    (linked id).lane .a 223 = { Lane.none with st := .up, align := .aligned, upOnce := true } ∧
    startOk 1 31 = true ∧ startOk 4 255 = true ∧ startOk 1 32 = false ∧
    after (.containerRx .a 223 4 0 (checked 4 0) .none none) (linked id) (fun t => decide ((staySeq t).expected = [0, 0, 0, 1] ∧ (t.ct .a).read 0x0AFF = 1)) = true ∧
    after (.containerRx .a 192 1 (2 ^ 31) (checked 1 (2 ^ 31)) .none none) (linked id) (fun t => decide (staySeq t = LinkSeq.reset)) = true ∧
    after (.containerRx .a 192 1 (2 ^ 31 - 1) (checked 1 (2 ^ 31 - 1)) .none none) (linked id) (fun t => decide (
      staySeq t = { LinkSeq.reset with beyond := [(1, 2 ^ 31 - 1, quiet.now)] })) = true ∧
    after (.containerRx .a 224 1 0 [0] .former (some 99)) (keyed id) (fun t => decide ((t.lan.get .a).beatAt = some quiet.now ∧
      (t.lan.get .a).beatStep = 99 ∧ (t.lan.get .a).formerKey = some [8])) = true ∧
    after (.containerRx .a 224 1 0 [0] .linkKey (some 99)) (keyed id) (fun t => decide ((t.lan.get .a).containers = 1 ∧ (t.lan.get .a).formerKey = none)) = true ∧
    after (.containerSeqSkip .a false 2) (linked (fun y => { y with stay := { LinkSeq.reset with beyond := [(2, 5, 0)] } })) (fun t => decide (
      (staySeq t).beyond = [] ∧ (staySeq t).expected = [0, 6, 0, 0] ∧ (staySeq t).lost = 5)) = true ∧
    (linked id).nextAligned .a 192 32 223 = some 223 ∧
    after (.tandemBlockSend .a) (linked (fun y => { y with tandemNext := 223 })) (fun t => decide ((t.lan.get .a).tandemNext = 192 ∧
      (t.lan.get .a).tandemTx = some { mast := 0, state := 0, mode := 3, step := 48000 })) = true ∧
    tandemValid tandemBlock = true ∧ tandemValid (tandemBlock + 1) = false ∧
    after (.tandemBlockRx .a 192 tandemBlock) (linked id) (fun t => decide (((t.lan.get .a).tandemRx).map (fun b => b.step) = some 77 ∧
      (t.lan.get .a).tandemAt = some quiet.now)) = true ∧
    after (.tandemBlockRx .a 192 (tandemBlock + 1)) (linked id) (fun t => (t.ct .a).read 0x0A03 == 1) = true ∧
    after (.beatSend .a) (keyed (fun y => { y with beatNext := 231 })) (fun t => decide ((t.lan.get .a).beatNext = 224 ∧
      (t.lan.get .a).beatTx = 48000 ∧ (t.lan.get .a).containers = 1)) = true ∧
    4 ≤ (linked id).shroudAligned .a ∧
    (linked (fun y => { y with beatAt := some quiet.now })).shroudBad .a = false ∧
    after (.shroudLinkUp .a) (linked (fun y => { y with beatAt := some quiet.now })) (fun t => (t.lan.get .a).shroudUp) = true ∧
    (keyed (fun y => { y with shroudUp := true })).shroudBad .a = true ∧
    after (.shroudLinkDown .a) (keyed (fun y => { y with shroudUp := true })) (fun t => decide ((t.lan.get .a).shroudUp = false ∧
      (t.lan.get .a).linkKey = none ∧ t.tan.pairing.lastBeacon = quiet.now ∧ (t.ct .a).read 0x49 = 1)) = true ∧
    (keyedNest (keyed id)).shroudSecret = some 5 ∧ (keyedNest (keyed id)).shroudAligned .a = 8 ∧
    (keyedNest (keyed id)).helloOk [] true = true ∧ (keyedNest (keyed id)).helloOk [] false = false ∧ (keyedNest (keyed id)).helloOk [1] true = false ∧
    gives (.helloRx .a [2] [] false) (keyedNest (keyed id)) (keyedNest (keyed id)) = true ∧
    after (.helloRx .a [2] [] true) (keyedNest (keyed (fun y => { y with containers := 9, nonce := some [3] }))) (fun t => (t.lan.get .a).linkKey.isSome &&
      decide ((t.lan.get .a).formerKey = some [7] ∧ (t.lan.get .a).nonce = none ∧ (t.lan.get .a).peerNonce = [2] ∧
        (t.lan.get .a).containers = 0 ∧ t.freeCount = 0)) = true ∧
    after (.helloRx .a [2] [] true) (keyedNest (keyed id)) (fun t => t.freeCount == 32) = true ∧
    gives (.shroudRekey .a) (keyed (fun y => { y with containers := 2 ^ 40 - 1 })) (keyed (fun y => { y with containers := 2 ^ 40 - 1 })) = true ∧
    after (.shroudRekey .a) (keyed (fun y => { y with containers := 2 ^ 40 })) (fun t => (t.lan.get .a).nonce.isSome && t.freeCount == 32) = true := by
  decide

/-- The seed of a marker is a free value; whatever it is, it is never zero. -/
theorem witness_LinksCarry_marker : ((linked id).lane .a 231).watched = true ∧ (linked id).freeCount = 0 := by decide

/-- The Reserve, in a state of its pairing, with Shroud links up on both masts or on none. -/
def reserve (x : Pairing) (link : Bool) : State :=
  { quiet with tan := { quiet.tan with pairing := x }, lan := quiet.lan.map (fun y => { y with shroudUp := link }) }
def unpaired : Pairing := { Pairing.reset with role := 2 }
def inTrack : Pairing := { unpaired with paired := true, tracking := 1 }
/-- The Reserve in track, with the digests of step 47999. -/
def reserveDigested : State :=
  let s := reserve inTrack true
  { s with tan := { s.tan with m := (digested 1 1).tan.m } }
/-- The same with a divergence being repaired since a step. -/
def diverging (n : Nat) : State :=
  let s := reserveDigested
  { s with tan := { s.tan with pairing := { s.tan.pairing with divergedAt := some n } } }
def pairing (t : State) : Pairing := t.tan.pairing

/-- Two packages whose sealed profiles name each other; the Primary's facts. -/
def naming (h : List Byte) : Profile := { prof with global := { prof.global with peerCertHash := h } }
def peered (x : Pairing) : State := { reserve x true with sec := { service.sec with profile := some (naming [7]) } }
def peer (x : Pairing) : PeerFacts :=
  let s := peered x
  { caps := s.caps, internalRate := 96000, fence := s.fence, fwVersion := s.sec.fwVersion, rollback := s.sec.rollback,
    profile := some (naming s.certHash), certHash := [7], role := 1 }

/-- The peer is not yet paired, and each check fails alone. -/
theorem witness_ReserveFollows_pairing : (peered unpaired).pairable (peer unpaired) = true := by
  have h : ∀ x : List Byte, (x == x) = true := fun x => beq_self_eq_true x
  show ((_ == _) && ((peered unpaired).certHash == (peered unpaired).certHash) && _ && _ && _ && _ && _) = true
  rw [h]
  decide

/-- The pairing checks of a peer in a state of the pairing. -/
def checksOf (x : Pairing) (f : PeerFacts → PeerFacts) : List Bool := (peered x).pairChecks (f (peer x))

theorem witness_ReserveFollows_checks :
    checksOf unpaired id = List.replicate 6 true ∧ checksOf { unpaired with rtt := 8, phaseNs := -2000 } id = List.replicate 6 true ∧
    checksOf unpaired (fun p => { p with caps := setAt p.caps 8 255 }) = [false, true, true, true, true, true] ∧
    checksOf unpaired (fun p => { p with internalRate := 48000 }) = [true, false, true, true, true, true] ∧
    checksOf unpaired (fun p => { p with rollback := p.rollback + 1 }) = [true, true, false, true, true, true] ∧
    checksOf unpaired (fun p => { p with profile := p.profile.map (fun q => { q with zoneList := [] }) }) = [true, true, true, false, true, true] ∧
    checksOf { unpaired with phaseNs := 2001 } id = [true, true, true, true, false, true] ∧
    checksOf { unpaired with rtt := 9 } id = [true, true, true, true, true, false] := by
  decide

/-- The Primary's state that a copy carries, with a rig of its own in QUIET. -/
def copied : PrimaryState :=
  { joinStep := 48001, dp := .reset, aud := .reset, vid := .reset, rigs := service.rigs, assigned := [], acted := List.replicate 8 0,
    mode := .quiet, base := .quiet }
/-- A command of the Primary: PARAM_SET of the step after this. -/
def primaryCommand (eff : Nat) : PrimaryCommand :=
  { code := 0x0501, payload := [], seat := 1, hostSeq := 1, effStep := eff, aux := 0, plan := none }
/-- The measurement that came 10 ms ago, with the phase on one side of 2 µs since a time. -/
def measured (x : Pairing) (phase : Int) (since : Nat) : Pairing :=
  { x with measuredAt := some (quiet.now - 10 * Config.msec), phaseNs := phase, phaseAt := since }
def suspended (why : Nat) : Pairing := { inTrack with tracking := 2, reason := why, suspendedAt := quiet.now - 60 * Config.second }

theorem witness_ReserveFollows :
    (reserve unpaired true).running = true ∧ (reserve unpaired true).shroudAny = true ∧
    after (.shroudMeasurement 6 5) (reserve inTrack true) (fun t => (pairing t).rtt == 6 && (pairing t).tracking == 1) = true ∧
    after (.shroudMeasurement 7 5) (reserve inTrack true) (fun t => (pairing t).tracking == 2 && (pairing t).reason == 6) = true ∧
    after (.shroudMeasurement 7 5) (reserve unpaired true) (fun t => (pairing t).tracking == 0 && (pairing t).rtt == 7) = true ∧
    gives (.shroudMeasurement 7 5) (reserve { inTrack with measuredAt := some (quiet.now - 10 * Config.msec + 1) } true)
      (reserve { inTrack with measuredAt := some (quiet.now - 10 * Config.msec + 1) } true) = true ∧
    (measured inTrack 2001 0).inPhase = false ∧ (measured inTrack (-2000) 0).inPhase = true ∧
    after (.shroudMeasurement 6 (-2001)) (reserve (measured inTrack 2001 (quiet.now - Config.second)) true) (fun t => decide (
      (pairing t).tracking = 2 ∧ (pairing t).reason = 5)) = true ∧
    after (.shroudMeasurement 6 (-2001)) (reserve (measured inTrack 2001 (quiet.now - Config.second + 1)) true) (fun t => (pairing t).tracking == 1) = true ∧
    after (.shroudMeasurement 6 2000) (reserve (measured (suspended 5) 0 (quiet.now - 60 * Config.second)) true) (fun t => (pairing t).tracking == 1) = true ∧
    after (.shroudMeasurement 6 2000) (reserve (measured (suspended 5) 0 (quiet.now - 60 * Config.second + 1)) true) (fun t => (pairing t).tracking == 2) = true ∧
    reserveDigested.tracks = true ∧ reserveDigested.digestMode = true ∧ ((reserveDigested.mt reserveDigested.lead).own.find 47998).isSome = true ∧
    after (.reserveDigestCompare 47998 (List.replicate 8 (some 1)) none) reserveDigested (fun t => (pairing t).divergedAt.isNone) = true ∧
    after (.reserveDigestCompare 47998 (List.replicate 7 (some 1) ++ [some 2]) none) reserveDigested (fun t => decide (
      (pairing t).divergedAt = some 47998)) = true ∧
    after (.reserveDigestCompare 47998 [] none) (diverging 47485) (fun t => (pairing t).tracking == 2) = true ∧
    after (.reserveDigestCompare 47998 [] none) (diverging 47486) (fun t => (pairing t).tracking == 1) = true ∧
    after (.reserveDigestCompare 47998 [] (some copied)) (diverging 47998) (fun t => decide (t.rigs = service.rigs)) = true ∧
    after (.reserveDigestCompare 47998 [] (some { copied with joinStep := 48002 })) (diverging 47998) (fun t => decide (t.rigs = quiet.rigs)) = true ∧
    after (.commitReceived 0 (some (primaryCommand 48001))) (reserve inTrack true) (fun t =>
      t.hal.sched.map (fun d => (d.code, d.effStep, d.primary)) == [(0x0501, 48001, true)]) = true ∧
    after (.commitReceived 0 (some (primaryCommand 48000))) (reserve inTrack true) (fun t => t.hal.sched.isEmpty) = true ∧
    after .reserveTrackRetry (reserve { suspended 6 with rtt := 6 } true)
      (fun t => decide ((pairing t).tracking = 1 ∧ (pairing t).divergedAt = some 48000)) = true ∧
    after .reserveTrackRetry (reserve { suspended 0 with rtt := 7 } true)
      (fun t => (pairing t).tracking == 2 && (pairing t).suspendedAt == quiet.now && (pairing t).reason == 6) = true ∧
    after .presenceBeaconSend (reserve { Pairing.reset with role := 1 } false) (fun t => decide ((pairing t).lastBeacon = quiet.now ∧
      (pairing t).beaconsSent = .same 1)) = true ∧
    after .presenceBeaconSend (reserve { Pairing.reset with role := 3, lastBeacon := quiet.now - 10 * Config.msec } false) (fun t =>
      (pairing t).lastBeacon == quiet.now) = true ∧
    gives .presenceBeaconSend (reserve { Pairing.reset with role := 3, lastBeacon := quiet.now - 10 * Config.msec + 1 } false)
      (reserve { Pairing.reset with role := 3, lastBeacon := quiet.now - 10 * Config.msec + 1 } false) = true ∧
    after (.presenceBeaconRx .b) (reserve unpaired false) (fun t => (pairing t).beacons == 1) = true ∧
    after .barePolesNoticeRx (reserve inTrack true) (fun t => decide ((pairing t).takeoverStep = some 48003 ∧ (pairing t).takeoverCause = 0)) = true ∧
    after .takeoverDelayExpiry (reserve { inTrack with lastBeacon := quiet.now - 500 * Config.msec } false) (fun t => decide (
      (pairing t).takeoverStep = some 48003 ∧ (pairing t).takeoverCause = 1)) = true ∧
    after .reserveTakeover (reserve { inTrack with takeoverStep := some 48001 } false) (fun t => decide ((pairing t).role = 3 ∧
      (pairing t).paired = false ∧ (pairing t).swapped = some 2 ∧ (t.mt .b).drive = driveOf .stoker)) = true := by
  decide

/-! ### Timing and network time -/

/-- A profile whose TB_0 lists candidates 0 to 4, with domain 127 on lane 0. -/
def tbItem : TimebaseItem :=
  { candidates := 31, frameFamily := 1, realignTol := 1000, ptpDomain := 127, ptpProfile := 0, delayMode := 0, maxClockClass := 248,
    jumpThreshold := 1000, gmAllow := [] }
def timed : State :=
  let p : Profile := { prof with timebases := [tbItem], ports := prof.ports.map (fun x => { x with ptpPorts := 1 }) }
  { quiet with sec := { service.sec with profile := some p } }
/-- The same with the candidates, TB_0 and the XO of every mast in a state. -/
def timedAt (cands : Assoc Cand) (tb : Timebase) (xoCal : Option Int) : State :=
  { timed with tim := .same { TimingMast.reset with cands := cands, tbs := setAt TimingMast.reset.tbs 0 tb, xoCal := xoCal } }
def candAt (t : State) (i : Nat) : Cand := (t.tm .a).cand i
/-- The same with the latest window ended at a time. -/
def windowed (n : Nat) : State := { timed with tim := .same { TimingMast.reset with windowAt := some n } }
def tb0 (t : State) : Timebase := t.tb .a 0
def window (i : Nat) (y : Int) : WindowRow := { cand := i, offset := y, good := true }
/-- A state without a profile. -/
def calibrated : State := { quiet with tim := .same { TimingMast.reset with
    xoCal := some 10, tbs := setAt TimingMast.reset.tbs 0 { Timebase.reset with st := .locked, ref := some 0 } } }

theorem witness_TimebasesFollow :
    timed.telltalesRun .a = true ∧ timed.candHere 5 = true ∧
    after (.telltaleWindowEnd .a [window 5 7]) timed (fun t => decide ((candAt t 5).st = .requalifying ∧ (candAt t 5).windows = [7])) = true ∧
    gives (.telltaleWindowEnd .a [window 5 7]) (windowed (quiet.now - 10 * Config.second + 1)) (windowed (quiet.now - 10 * Config.second + 1)) = true ∧
    after (.telltaleWindowEnd .a [window 5 7]) (windowed (quiet.now - 10 * Config.second)) (fun t => decide ((candAt t 5).windows = [7])) = true ∧
    (timedAt [] .reset (some 0)).inTolerance .a 5 50000 = true ∧ (timedAt [] .reset (some 0)).inTolerance .a 5 50001 = false ∧
    after (.telltaleWindowEnd .a [window 5 50000]) (timedAt [(5, { Cand.none with st := .requalifying })] .reset (some 0)) (fun t => decide (
      (candAt t 5).st = .qualified ∧ (candAt t 5).since = some quiet.now)) = true ∧
    after (.telltaleWindowEnd .a [window 5 50001]) (timedAt [(5, { Cand.none with st := .qualified, bad := 2 })] .reset (some 0)) (fun t => decide (
      (candAt t 5).st = .disqualified)) = true ∧
    (timedAt [(1, { Cand.none with st := .qualified, good := 3 })] .reset none).maybeAbsent .a 1 = true ∧ timed.ptpAbsent .a 0 = true ∧
    after (.candidateAbsent .a 1) (timedAt [(1, { Cand.none with st := .qualified, good := 3 })] .reset none) (fun t => decide (
      (candAt t 1).st = .absent ∧ (candAt t 1).good = 0)) = true ∧
    (timedAt [(0, { Cand.none with st := .qualified })] .reset none).mayAcquire .a = true ∧
    (timedAt [(0, { Cand.none with st := .qualified })] .reset none).bestRank .a 0 = [0] ∧
    (timedAt [(0, { Cand.none with st := .qualified })] .reset none).chooseRef .a 0 [0] = some 0 ∧
    decide ((tb0 ((timedAt [(0, { Cand.none with st := .qualified })] .reset none).evaluate .a 0 0)).ref = some 0) = true ∧
    after (.timebaseLocked 0 7) (timedAt [(0, { Cand.none with windows := [12] })] { Timebase.reset with st := .acquiring, ref := some 0 } none)
      (fun t => decide ((tb0 t).st = .locked ∧ (t.tm .a).xoCal = some (-12))) = true ∧
    after (.holdoverLimit 0) (timedAt [] { Timebase.reset with st := .holdover, holdoverAt := some (quiet.now - 60 * Config.second) } none) (fun t => decide (
      (tb0 t).st = .lost ∧ (tb0 t).holdoverAt = some (quiet.now - 60 * Config.second))) = true ∧
    after (.holdoverLimit 0) (timedAt [] { Timebase.reset with st := .holdover, holdoverAt := some (quiet.now - 60 * Config.second + 1) } none) (fun t => decide (
      (tb0 t).st = .holdover)) = true ∧
    ([24987500, 25012500] : List Nat).all (fun n => gives (.xoCheck .a n true) timed timed) = true ∧
    ([24987499, 25012501] : List Nat).all (fun n => after (.xoCheck .a n true) timed (fun t => (t.tm .a).xoFailed && (t.ct .a).read 0x66 == 1)) = true ∧
    after (.xoCheck .a 25000000 false) timed (fun t => decide ((tb0 t).st = .lost)) = true ∧
    after (.xoCalibrationUpdate .a 1000) { calibrated with now := 3600 * Config.second } (fun t => decide ((t.tm .a).xoCal = some 60)) = true := by
  decide

/-- TB_1 locked to candidate 2, TB_0 to candidate 1, with offsets measured, and a REALIGN of one due. -/
def phasing (k : Nat) : State :=
  let x (i : Nat) : Timebase := { Timebase.reset with st := .locked, ref := some i, pendingNs := 5000 }
  let s := withSeat timed 3
  { s with hal := { s.hal with sched := [waiting 0x0805 (be 1 k ++ zeros 3)] }
           tim := .same { TimingMast.reset with tbs := [x 1, x 2, .reset, .reset] }
           ptp := .same { PtpMast.reset with doms := setAt PtpMast.reset.doms 0 { PtpDom.reset with
             parent := some { source := 1, port := 0, gmId := 1, priority1 := 0, clockClass := 6, accuracy := 0, variance := 0, priority2 := 0,
                              steps := 0, logInterval := 0, at' := 0, utc := some 37 } } } }

/-- TB_0 locked to a candidate. -/
def candidate0 (i : Nat) : State :=
  { timed with tim := .same { TimingMast.reset with tbs := setAt TimingMast.reset.tbs 0 { Timebase.reset with st := .locked, ref := some i } } }

theorem witness_PhasesAndRtc :
    (phasing 1).captain = some .a ∧ (phasing 1).pendingSet .a 1 = true ∧ (phasing 1).pendingSet .a 0 = true ∧
    after (.phaseMarker 1 (2 ^ 70)) (phasing 1) (fun t => decide ((t.tb .a 1).pendingNs = 2 ^ 63 - 1)) = true ∧
    after (.phaseMarker 0 500000000) (phasing 1) (fun t => decide ((t.tb .a 0).pendingNs = 500000000)) = true ∧
    ((phasing 1).firstDue (fun c => c.code == 0x0805 && fld c.payload 0 1 == 1)).isSome = true ∧
    after (.phaseMarker 0 500000001) (candidate0 0) (fun t => (tb0 t).pendingNs == 0) = true ∧
    after (.phaseMarker 0 500000000) (candidate0 0) (fun t => (tb0 t).pendingNs == 500000000) = true ∧
    familyPeriod ((candidate0 5).tbFamily 0) / 6 = 20000000 ∧
    after (.phaseMarker 0 20000000) (candidate0 69) (fun t => (tb0 t).pendingNs == 20000000) = true ∧
    after (.phaseMarker 0 20000000) (candidate0 70) (fun t => (tb0 t).pendingNs == 0) = true ∧
    (phasing 1).recheck (waiting 0x0805 (be 1 1 ++ zeros 3)) = none ∧
    after (.realignEffective 1) (phasing 1) (fun t => decide ((t.tb .a 1).shift = 15000 ∧ (t.tb .a 1).pendingNs = 0)) = true ∧
    after (.realignEffective 0) (phasing 0) (fun t => decide ((t.tb .a 0).shift = 15000 ∧ (tb0 t).realign.map (fun r => (r.step, r.offset, r.moved)) =
      some (48001, 5000, false))) = true ∧
    after .rtcUpdate { phasing 1 with step := 96000 * 1000 } (fun t => decide (t.md.nest.rtc = 963 ∧ t.md.nest.rtcValid = true ∧
      (t.tm .a).rtcAt = some quiet.now)) = true := by
  decide

/-- PTP messages of domain 127 at lane 0 of Mast A, which is up. -/
def heardPtp (d : PtpDom) : State :=
  { (timed.setLane .a 0 upLane) with ptp := .same { PtpMast.reset with doms := setAt PtpMast.reset.doms 0 d } }
def message (body : PtpBody) : PtpMsg :=
  { port := 0, version := 2, minor := 1, domain := 127, transport := 0, dest := 0xE0000181, source := 77, seq := 3, logInterval := 0,
    correction := 2, stamps := [100, 100, 100, 100], body := body }
def announced : AnnounceBody :=
  { gmId := 9, priority1 := 128, clockClass := 6, accuracy := 0x21, variance := 0, priority2 := 128, steps := 254, utc := none }
def dom0 (t : State) : PtpDom := t.dom .a 0

/-- A port of Mast A. -/
def portItem0 : PortItem :=
  { lane := 0, mode := 1, fec := 0, laneFlags := 0, ptpPorts := 0, tcGroup := 0, mast := 0, txSwing := 0, asymNs := 0, mac := 0, mtu := 1500,
    ipv4 := 0, ipv4Prefix := 0, ipv6Prefix0 := 0, ipv6Prefix1 := 0, ipv6a := 0, ipv6b := 0, rangeFirst := 0, rangeCount := 1 }
/-- Two ports of Mast A in one transparent-clock group, both up. -/
def relaying : State :=
  let port (l : Nat) : PortItem := { portItem0 with lane := l, ptpPorts := 1, tcGroup := 1 }
  let p : Profile := { prof with timebases := [tbItem], ports := [port 0, port 1] }
  ({ quiet with sec := { service.sec with profile := some p } }.setLane .a 0 upLane).setLane .a 1 upLane
/-- TB_0 follows PTP with a mean of 0, and then a second with one offset; or a jump stands refused since an old mean of 0. -/
def leaving (y : Int) : State :=
  { heardPtp { PtpDom.reset with mean := some 0, sum := y, count := 1 } with
    tim := .same { TimingMast.reset with tbs := setAt TimingMast.reset.tbs 0 { Timebase.reset with st := .locked, ref := some 1 } } }
def refusing (jump mean : Int) (upset : Bool) (y : Int) : State :=
  { heardPtp { PtpDom.reset with mean := some mean, refusedJump := jump, oldMean := 0, observed := 4, upset := upset, sum := y, count := 1 } with
    tim := .same { TimingMast.reset with tbs := setAt TimingMast.reset.tbs 0 { Timebase.reset with st := .locked, ref := some 1, jumpRefused := true } } }

theorem witness_NetworkTimeServes :
    (heardPtp .reset).listed .a 0 127 = [0] ∧ (heardPtp .reset).listed .a 0 126 = [] ∧ (heardPtp .reset).telltalesRun .a = true ∧
    after (.ptpMessageRx .a { message .delayReq with version := 1 }) (heardPtp .reset) (fun t => (t.ct .a).read 0x0405 == 1) = true ∧
    (heardPtp .reset).intervalOk 0 false 0 = true ∧ (heardPtp .reset).announceExcluded 0 announced = false ∧
    after (.ptpMessageRx .a (message (.announce announced))) (heardPtp .reset) (fun t => decide (
      (dom0 t).announces.map (fun e => (e.source, e.gmId, e.steps)) = [(77, 9, 254)])) = true ∧
    after (.ptpMessageRx .a (message (.followUp 1000))) (heardPtp { PtpDom.reset with held := some { seq := 3, source := 77, t2 := 50, c1 := 1, at' := 0 } })
      (fun t => decide ((dom0 t).sync = some (1003, 50) ∧ (dom0 t).held = none)) = true ∧
    after (.ptpMessageRx .a (message (.delayResp 300 (ownPortId .a 0)))) (heardPtp { PtpDom.reset with
        sync := some (10, 50), reqs := [{ dest := none, seq := 3, t3 := 200, at' := quiet.now - Config.second }] }) (fun t => decide (
      (dom0 t).path = some 69)) = true ∧
    after (.syncPairTimeout .a 0) (heardPtp { PtpDom.reset with held := some { seq := 3, source := 77, t2 := 50, c1 := 1, at' := quiet.now - Config.second } })
      (fun t => decide ((dom0 t).held = none ∧ (t.ct .a).read 0x6003 = 1)) = true ∧
    after (.delayReqSend .a 0 44) (heardPtp (dom0 (phasing 1))) (fun t => decide (
      (dom0 t).reqs.map (fun r => (r.seq, r.t3)) = [(0, 44)] ∧ (dom0 t).unanswered = 1)) = true ∧
    after (.ptpOffsetSecond 0) (heardPtp { PtpDom.reset with sum := 7, count := 2 }) (fun t => decide ((dom0 t).mean = some 3 ∧ (dom0 t).count = 0)) = true ∧
    (heardPtp .reset).jumpThreshold 0 = 65536000 ∧
    after (.jumpDecision 0) (heardPtp { PtpDom.reset with sum := 65536000, count := 1, change := some { at' := 0, oldMean := 0 } }) (fun t => decide (
      (dom0 t).mean = some 65536000 ∧ (dom0 t).change = none)) = true ∧
    after (.jumpDecision 0) (heardPtp { PtpDom.reset with sum := 65536001, count := 1, change := some { at' := 0, oldMean := 0 } }) (fun t => decide (
      (dom0 t).refusedJump = 65536001 ∧ (tb0 t).jumpRefused = true ∧ (t.candOf .a 0 1).st = .disqualified)) = true ∧
    (heardPtp .reset).ptpReaches .a (message .delayReq) = true ∧
    ([{ message .delayReq with minor := 2 }, { message .delayReq with transport := 1 }, { message .delayReq with dest := 1 },
      { message .delayReq with domain := 126 }, message .pdelay] : List PtpMsg).all (fun x => after (.ptpMessageRx .a x) (heardPtp .reset)
        (fun t => (t.ct .a).read 0x0405 == 1)) = true ∧
    relaying.tcMembers .a 0 = [1] ∧
    after (.ptpMessageRx .a (message (.announce announced))) relaying (fun t => decide (
      (t.ptp.get .a).relayed = [{ port := 1, source := 77, seq := 3, correction := 2 }])) = true ∧
    after (.ptpMessageRx .a (message (.sync true 9))) relaying (fun t => decide (
      (t.ptp.get .a).relayed.map (fun r => (r.port, r.source, r.seq)) = [(1, 77, 3)])) = true ∧
    logTime 0 = Config.second ∧ gives (.delayReqSend .a 0 44) (heardPtp { dom0 (phasing 1) with reqAt := some (quiet.now - Config.second + 1) })
      (heardPtp { dom0 (phasing 1) with reqAt := some (quiet.now - Config.second + 1) }) = true ∧
    after (.delayReqSend .a 0 44) (heardPtp { dom0 (phasing 1) with reqAt := some (quiet.now - Config.second), reqSeq := 65535 }) (fun t => decide (
      (dom0 t).reqSeq = 0 ∧ (dom0 t).reqAt = some quiet.now)) = true ∧
    gives (.ptpOffsetSecond 0) (heardPtp { PtpDom.reset with secondAt := some (quiet.now - Config.second + 1) })
      (heardPtp { PtpDom.reset with secondAt := some (quiet.now - Config.second + 1) }) = true ∧
    after (.ptpOffsetSecond 0) (leaving 65536001) (fun t => decide (((dom0 t).change.map (fun c => c.oldMean)) = some 0)) = true ∧
    after (.ptpOffsetSecond 0) (leaving 65536000) (fun t => decide ((dom0 t).change = none ∧ (dom0 t).mean = some 65536000)) = true ∧
    after (.ptpOffsetSecond 0) (refusing 100000000 0 false 65536000) (fun t => decide ((tb0 t).jumpRefused = false ∧ (dom0 t).refusedJump = 0)) = true ∧
    after (.ptpOffsetSecond 0) (refusing 100000000 100000000 false 100000001) (fun t => decide ((tb0 t).jumpRefused = true ∧ (dom0 t).observed = 5)) = true ∧
    after (.ptpOffsetSecond 0) (refusing 100000000 100000000 true 100000001) (fun t => decide ((dom0 t).observed = 0 ∧
      (dom0 t).refusedJump = 100000001)) = true ∧
    after (.ptpOffsetSecond 0) (refusing 100000000 300000000 false 100000001) (fun t => (dom0 t).observed == 0) = true := by
  decide

/-! ### Clocks and supplies -/

/-- A PLL of Mast A in a state; a gate with a forced closure. -/
def pllIs (p : Nat) (x : Pll) : State := { quiet with clk := .same { ClockMast.reset with plls := setAt ClockMast.reset.plls p x } }
def lostPll (ago : Nat) : Pll := { Pll.reset 0 with locked := false, lostAt := quiet.now - ago, grace := true, gated := false, failed := false }
def gateIs (b : Nat) (g : Gate) : State := { quiet with clk := .same { ClockMast.reset with gates := setAt ClockMast.reset.gates b g } }
def src (t : State) (d : Nat) : ClockSrc := atD (t.clk.get .a).domains d .primary

theorem witness_ClocksAct :
    (quiet.clk.get .a).domains.length = 8 ∧
    after (.pllLoss .a 1 false) quiet (fun t => decide ((t.pll .a 1).map (fun x => (x.locked, x.grace)) = some (false, true) ∧ src t 5 = .fallback ∧
      (t.ct .a).read 0x0389 = 1 ∧ (t.ct .a).read 0x61 = 1)) = true ∧
    after (.pllLoss .a 6 false) quiet (fun t => (t.ct .a).read 0x038E == 1 && (t.ct .a).read 0x63 == 1) = true ∧
    after (.pllGraceEnd .a 0) (pllIs 0 (lostPll (25 * Config.xoCycle))) (fun t => decide ((t.pll .a 0).map (fun x => (x.grace, x.gated)) = some (false, true) ∧
      src t 3 = .stopped ∧ src t 4 = .stopped)) = true ∧
    after (.pllRelock .a 3) (pllIs 3 { lostPll 0 with gated := true }) (fun t => decide ((t.pll .a 3).map (fun x => (x.locked, x.gated)) = some (true, false))) = true ∧
    after (.pllLaneRelockTimeout .a 3) (pllIs 6 (lostPll (10 * Config.msec))) (fun t => decide ((t.pll .a 6).map (fun x => x.failed) = some true)) = true ∧
    ([2, 3, 4, 5, 6] : List Nat).all (fun d => service.domainRuns .a d && after (.derailleurHang .a d true true false) service (fun t => decide (src t d = .fallback ∧
      (t.ct .a).read (0x0380 + d) = 1))) = true ∧
    after (.derailleurHang .a 6 true false true) service (fun t => src t 6 == .primary) = true ∧
    after (.derailleurHang .a 2 false false false) quiet (fun t => src t 2 == .stopped) = true ∧
    after (.syncDivEdge .b) { phased 7 false false quiet with md := { (phased 7 false false quiet).md with mixOn := .same false } } (fun t => (t.clk.get .b).dividerResets == 1) = true ∧
    after (.syncDivEdge .a) quiet (fun t => (t.ct .a).read 0x038F == 1) = true ∧
    after (.freewheelClose .a 46) quiet (fun t => decide (((t.clk.get .a).gates[46]?).map (fun g => g.open') = some false)) = true ∧
    after (.forcedClosureTimeout .a 46) quiet (fun t => decide ((((t.clk.get .a).gates[46]?).bind (fun g => g.forced)).map (fun f => f.tries) = some 1)) = true ∧
    gives (.freewheelClose .a 3) quiet quiet = true ∧ after (.freewheelClose .a 4) quiet (fun t => decide (
      ((t.clk.get .a).gates[4]?).map (fun g => g.open') = some false)) = true ∧
    quiet.blockWanted .a 46 = true ∧ quiet.blockWanted .a 14 = false ∧
    after (.forcedClosureRetry .a 46 true) (gateIs 46 { open' := true, forced := some { tries := 7, retryAt := quiet.now } }) (fun t => decide (
      (t.clk.get .a).gates[46]? = some { open' := true, forced := none })) = true ∧
    after (.forcedClosureRetry .a 14 true) (gateIs 14 { open' := true, forced := some { tries := 7, retryAt := quiet.now } }) (fun t => decide (
      (t.clk.get .a).gates[14]? = some { open' := false, forced := none })) = true ∧
    after (.forcedClosureRetry .a 14 false) (gateIs 14 { open' := true, forced := some { tries := 7, retryAt := quiet.now } }) (fun t => decide (
      (((t.clk.get .a).gates[14]?).bind (fun g => g.forced)).map (fun f => f.tries) = some 8)) = true ∧
    after (.frequencyMeasurement .a 9 0 0 5) quiet (fun t => decide ((t.ct .a).gauges.find 0x7409 = some 5)) = true ∧
    after (.frequencyMeasurement .a 2 7 0 101) quiet (fun t => decide ((t.ct .a).read 0x0390 = 1 ∧ (t.pll .a 0).map (fun x => x.locked) = some false)) = true ∧
    after (.frequencyMeasurement .a 7 0 0 (-2001)) quiet (fun t => (t.ct .a).read 0x64 == 1) = true := by
  decide

/-- Region 11 stretched since a cycle; the supplies of Mast A. -/
def stretched : State :=
  { quiet with clk := .same { ClockMast.reset with regions := setAt ClockMast.reset.regions 11 { since := some (quiet.now - 250 * Config.xoCycle), lag := 0 } } }
def supply (x : SupplyMast) : State := { quiet with sup := { quiet.sup with a := x } }
def railIs (n : Nat) (r : RailSt) : State := supply { SupplyMast.reset with rails := setAt SupplyMast.reset.rails n r }
def railAt (t : State) (n : Nat) : Option RailSt := (t.sup.get .a).rails[n]?
def dieIs (d : DieTemp) : State := supply { SupplyMast.reset with temps := setAt SupplyMast.reset.temps 2 d }
def dieAt (t : State) : Option DieTemp := (t.sup.get .a).temps[2]?

/-- Mast A is OUT, with its rails good, beside a Captain; a regulator of Mast A, with its latest demand. -/
def idleOut : State := masts (mastAs .out) (mastAs .captain)
def regIs (r : Regulator) (demand : Nat) : State :=
  supply { SupplyMast.reset with regs := setAt SupplyMast.reset.regs 0 r, demand := setAt (List.replicate 12 0) 0 demand }

theorem witness_SuppliesAct :
    after (.droopTrip .a 12) quiet (fun t => (t.ct .a).read 0x68 == 1) = true ∧
    quiet.regionOn .a 7 = true ∧
    after (.droopTrip .a 7) quiet (fun t => decide ((t.clk.get .a).regions[7]? = some { since := some quiet.now, lag := 0 } ∧ (t.ct .a).read 0x0339 = 1)) = true ∧
    gives (.droopStretchEnd .a 11) { stretched with now := stretched.now - 1 } { stretched with now := stretched.now - 1 } = true ∧
    gives (.droopStretchEnd .a 11) { stretched with sup := (railIs 2 { RailSt.good with low := true }).sup }
      { stretched with sup := (railIs 2 { RailSt.good with low := true }).sup } = true ∧
    stretched.railStretches .a = false ∧
    after (.droopStretchEnd .a 11) stretched (fun t => decide ((t.clk.get .a).regions[11]? = some { since := none, lag := 0 } ∧ (t.ct .a).read 0x035A = 250)) = true ∧
    quiet.railMasked .a 8 = false ∧ quiet.railMasked .a 0 = false ∧
    after (.railWarningDip .a 2 33) quiet (fun t => decide ((railAt t 2).map (fun r => (r.low, r.depthMv)) = some (true, 33)) &&
      (t.clk.get .a).regions.all (fun g => g.since.isSome)) = true ∧
    after (.sagRecovery .a 8) (railIs 8 { RailSt.good with low := true, sags := [0, quiet.now] }) (fun t => decide (
      (railAt t 8).map (fun r => (r.low, r.sags)) = some (false, [quiet.now, quiet.now]) ∧ (t.ct .a).read 0x0118 = 1)) = true ∧
    after (.railResetLevel .a 6) quiet (fun t => decide ((railAt t 6).map (fun r => r.inReset) = some true ∧ (t.md.boot.get .a).powerGood = false ∧
      t.md.vnestLow.get .a = some quiet.now ∧ (t.ct .a).read 0x82 = 1)) = true ∧
    after (.pmbusAlert .a [none, none, some 65537]) quiet (fun t => decide (((t.sup.get .a).regs[2]?).map (fun r => r.status) = some 1 ∧
      (t.sup.get .a).alerts = 1)) = true ∧
    after (.avsUpdate .a ([801] ++ List.replicate 11 0)) quiet (fun t => decide (((t.sup.get .a).regs[0]?).map (fun r => r.setMv) = some 805)) = true ∧
    after (.avsUpdate .a ([801] ++ List.replicate 11 0)) (railIs 5 { RailSt.good with low := true }) (fun t => decide (
      ((t.sup.get .a).regs[0]?).map (fun r => r.setMv) = some 800)) = true ∧
    after (.pmbusFailure .a 2 777) quiet (fun t => decide (((t.sup.get .a).regs[2]?).map (fun r => (r.failed, r.setMv)) = some (true, 777) ∧
      (t.ct .a).read 0x83 = 1)) = true ∧
    ([-550, 999] : List Int).all (fun v => after (.temperatureReading .a 2 v) quiet (fun t => decide ((dieAt t).bind (fun d => d.value) = some v))) = true ∧
    after (.temperatureReading .a 2 1000) quiet (fun t => decide ((dieAt t).map (fun d => d.warned) = some true ∧ (t.ct .a).read 0x84 = 1)) = true ∧
    clampDemand 0 = 0 ∧ clampDemand 600 = 650 ∧ clampDemand 651 = 655 ∧ clampDemand 900 = 850 ∧
    after (.avsUpdate .a ([700] ++ List.replicate 11 0)) (regIs { setMv := 800, on := true, failed := false, raisedAt := none, loweredAt := none, status := 0 } 700)
      (fun t => decide (((t.sup.get .a).regs[0]?).map (fun r => r.setMv) = some 795)) = true ∧
    after (.avsUpdate .a ([700] ++ List.replicate 11 0)) (regIs { setMv := 800, on := true, failed := false, raisedAt := some (quiet.now - Config.second + 1), loweredAt := none, status := 0 } 700)
      (fun t => decide (((t.sup.get .a).regs[0]?).map (fun r => r.setMv) = some 800)) = true ∧
    after (.avsUpdate .a (List.replicate 11 0 ++ [800])) quiet (fun t => decide ((t.sup.get .a).demand = List.replicate 12 0)) = true ∧
    (idleOut.tst .a = .out ∧ idleOut.bootRuns .a = false ∧ (idleOut.md.boot.get .a).powerGood = true ∧ idleOut.md.mode ≠ .lockout) ∧
    after (.railResetLevel .a 6) idleOut (fun t => decide ((t.md.boot.get .a).powerGood = false ∧
      (t.md.nest.resets.head?.map (fun r => (r.cause, r.mast))) = some (7, 0))) = true ∧
    after (.temperatureReading .a 2 1150) (dieIs { value := none, warned := true, hot := 1 }) (fun t => decide ((t.ct .a).read 0x85 = 1)) = true ∧
    ([-551, 1251] : List Int).all (fun v => after (.temperatureReading .a 2 v) (dieIs { value := none, warned := true, hot := 0 }) (fun t =>
      decide (t.md.mode = .vault) || decide (t.md.mode = .lockout) || (t.ct .a).read 0xF2 == 1)) = true ∧
    ([-550, 1250] : List Int).all (fun v => after (.temperatureReading .a 2 v) (dieIs { value := none, warned := true, hot := 0 }) (fun t =>
      decide (t.md.mode = .quiet) && (t.ct .a).read 0xF2 == 0)) = true := by
  decide

/-! ### Images that carry a hash -/

/-- A hash as 48 bytes, byte by byte: what `fit 48` makes of it. -/
def hashBytes (x : List Byte) : List Byte := (List.range 48).map (fun i => x.getD i 0)

theorem fit_hash (x : List Byte) : fit 48 x = hashBytes x := by
  apply List.ext_getElem?
  intro i
  simp only [fit, hashBytes, zeros, List.getElem?_take, List.getElem?_map, List.getElem?_append, List.getElem?_replicate, List.getD_eq_getElem?_getD]
  by_cases h : i < 48
  · by_cases g : i < x.length
    · simp [h, g]
    · have : i - x.length < 48 - x.length := by omega
      simp [h, g, this]
  · simp [h]

/-- A firmware image of one code byte, with its CODE_HASH; it is staged. -/
def firmware : List Byte :=
  be 4 0x46574131 ++ be 2 1 ++ zeros 2 ++ be 4 0x01000001 ++ be 4 1024 ++ be 4 1 ++ zeros 12 ++ hashBytes (Config.sha384 [7]) ++ zeros 176 ++ [7]
def fwStaged : State := { service with sec := { service.sec with staging := { service.sec.staging with firmware := some firmware } } }

theorem firmware_ok : firmwareFormOk firmware = true := by
  have h : fldBytes firmware 32 48 = fit 48 (Config.sha384 (firmware.drop 256)) := by rw [fit_hash]; rfl
  simp only [firmwareFormOk, h, decide_true, Bool.and_true]
  decide

theorem witness_FirmwareApply :
    ready fwStaged 4 0x0C06 [] (fun _ => 0) (fun _ => []) = true ∧ (accState fwStaged 4 []).firmwareRefusals true = [] ∧
    (accState fwStaged 4 []).sec.staging.firmware = some firmware := by
  have h : (accState fwStaged 4 []).sec.staging.firmware = some firmware := rfl
  refine ⟨by decide, ?_, h⟩
  simp only [State.firmwareRefusals, h, firmware_ok]
  decide

/-- A profile of a GLOBAL section and one installer's seat, and the alert signal it names; both are staged. -/
def alertImage : List Byte := [1]
def sealed : List Byte :=
  be 4 0x50524631 ++ be 2 1 ++ be 2 128 ++ be 4 440 ++ be 4 1 ++ be 1 1 ++ be 1 2 ++ zeros 14 ++ hashBytes (Config.sha384 []) ++
    hashBytes (Config.sha384 alertImage) ++ (be 2 1 ++ zeros 2 ++ be 4 160 ++ be 4 128 ++ be 4 1) ++
    (be 2 2 ++ zeros 2 ++ be 4 288 ++ be 4 56 ++ be 4 1) ++
    (be 1 0 ++ be 1 1 ++ be 1 0 ++ be 1 0 ++ be 1 1 ++ be 1 0 ++ be 1 0 ++ be 1 8 ++ be 4 600 ++ be 4 10 ++ be 4 1 ++ be 2 100 ++ zeros 106) ++
    (be 1 0 ++ be 1 4 ++ zeros 54) ++ zeros 96
def sealStaged : State :=
  { quiet with sec := { quiet.sec with lifecycle := 2, ownerKey := zeros 97, staging := { profile := some sealed, firmware := none, alert := some alertImage } } }

theorem witness_ProfileApplyStarts :
    ready sealStaged 4 0x0C05 [] (fun _ => 0) (fun _ => []) = true ∧
    (accState sealStaged 4 []).profileApplyRefusals (hdr 0) [] 2 true = [] ∧
    (accState sealStaged 4 []).sec.staging.profile = some sealed ∧
    ((accState sealStaged 4 []).seatItems (some (readProfile sealed))).map (fun y => (y.seat, y.role)) = [(0, 4)] := by
  have h : (accState sealStaged 4 []).sec.staging.profile = some sealed := rfl
  have hc : (readProfile sealed).deviceCertHash = (accState sealStaged 4 []).certHash := by
    simp only [State.certHash, fit_hash]; rfl
  have ha : (accState sealStaged 4 []).sec.staging.alertIs (readProfile sealed).alertHash = true := by
    have g : (readProfile sealed).alertHash = hashBytes (Config.sha384 alertImage) := rfl
    have e : (accState sealStaged 4 []).sec.staging.alert = some alertImage := rfl
    simp [Staging.alertIs, fit_hash, g, e]
  have f : (decide ((readProfile sealed).seq ≤ (accState sealStaged 4 []).sec.floor) ||
      decide (1024 ≤ (accState sealStaged 4 []).sec.profileSeqs.length)) = false := by decide
  have n : (readProfile sealed).absent (accState sealStaged 4 []).variant = false := by decide
  have k : (accState sealStaged 4 []).profileOk sealed (readProfile sealed) = true := by decide
  have hp : (accState sealStaged 4 []).profileRefusals true = [] := by
    simp only [State.profileRefusals, h, hc, ha, f, n, k]
    simp [refuseIf]
  refine ⟨by decide, ?_, h, by decide⟩
  simp only [State.profileApplyRefusals]
  rw [if_pos (by decide), hp]
  rfl

/-! ### The queue, the invariant and the effects at a step -/

theorem witness_StepRunsTheFront :
    ({ quiet with pending := [.preStartPulse, .rampEnd] } : State).pending = .preStartPulse :: [.rampEnd] ∧ quiet.pending = [] := by
  decide

theorem witness_StepKeepsInv : State.reset.Inv ∧ quiet.Inv ∧ (withSeat service 2).Inv := by unfold State.Inv; decide

theorem witness_CommandsLeaveTheRest :
    after .rampEnd { quiet with pending := [.tackEnd] } (fun t => decide (t.pending = [.tackEnd]) && decide (t.variant = quiet.variant)) = true ∧
    Part.sec ∉ mayChange .rampEnd ∧ Part.dp ∈ mayChange .rampEnd ∧ after .rampEnd ramped (fun t => decide (t.sec = ramped.sec)) = true := by
  decide

/-- An auditor's MODE_SET is refused for its role, and an operator's TACK in MAINTAIN for its mode. -/
theorem witness_PrivilegeIsEnforced :
    halyardOf (.modeSet (hdr 4) (be 1 4 ++ zeros 3)) = some (hdr 4, 0x0302) ∧ acceptsB (withSeat quiet 1) (hdr 4) (session7 quiet) = true ∧
    ((opRow 0x0302).map (fun r => (r.roles.contains 1, r.modes.contains .quiet))) = some (false, true) ∧
    repliedWith (withSeat quiet 1) (be 1 4 ++ zeros 3) .modeSet stRoleDenied = true ∧
    ((opRow 0x0403).map (fun r => (r.roles.contains 2, r.modes.contains .maintain))) = some (true, false) ∧
    repliedWith (withSeat (inMode .maintain) 2) (zeros 8) .tack stBadMode = true := by
  decide

/-- SERVICE with a tack planned for the coming step; MAINTAIN. -/
def tackDue : State :=
  let p : TackPlan :=
    { kind := 3, fadeIn := false, step := 48001, warm := 0, fade := 96, shared := [], affected := [], place := [], pool := [], seat := 2, hostSeq := 1 }
  due { service with rigs := { service.rigs with state := .tackPending, plan := some p } } 2 0x0403 (be 1 3 ++ zeros 7)
def activation : List Byte := be 2 1 ++ be 1 3 ++ be 1 2 ++ zeros 4 ++ be 2 5
/-- The command that waits is the first due, and its seat and the mode still permit it. -/
def isDue (s : State) (code : Nat) (p : List Byte) : Bool :=
  decide (s.captain = some .a) && decide (s.firstDue (fun _ => true) = some (waiting code p)) && decide (s.recheck (waiting code p) = none)

theorem witness_CommandsTakeEffect :
    (isDue (due quiet 2 0x0A04 []) 0x0A04 [] = true ∧
      after .effectiveStepApply (due quiet 2 0x0A04 []) (fun t => t.ctr.a.shadowEpoch == 77 && decide (t.snap.frozenAt = some 48001)) = true) ∧
    (isDue (due quiet 3 0x0902 []) 0x0902 [] = true ∧
      after .effectiveStepApply (due quiet 3 0x0902 []) (fun t => (t.mt .a).yields && t.tan.planned) = true) ∧
    (isDue tackDue 0x0403 (be 1 3 ++ zeros 7) = true ∧ (tackDue.rigs.plan.bind (fun p =>
        ({ tackDue with hal := { tackDue.hal with sched := [] }, step := 48001 } : State).tackPlan p.kind 48001 p.fade 2 1)).isSome = true ∧
      after .effectiveStepApply tackDue (fun t => decide (t.rigs.state = .tacking ∧ t.rigs.plan.map (fun p => p.step) = some 48001)) = true) ∧
    (isDue (due quiet 2 0x0302 (be 1 4 ++ zeros 3)) 0x0302 (be 1 4 ++ zeros 3) = true ∧
      after .effectiveStepApply (due quiet 2 0x0302 (be 1 4 ++ zeros 3)) (fun t => decide (t.md.mode = .service ∧ t.md.base = .service ∧
        t.md.modeStep = 48001)) = true) ∧
    (isDue (due maintain 4 0x0B06 routeP) 0x0B06 routeP = true ∧
      after .effectiveStepApply (due maintain 4 0x0B06 routeP) (fun t => decide (
        t.tests = [{ cls := 1, output := 1535, signal := 2, src := 1535 }])) = true) ∧
    (isDue (due service 3 0x0D01 activation) 0x0D01 activation = true ∧
      after .effectiveStepApply (due service 3 0x0D01 activation) (fun t => decide (t.md.mode = .alarm ∧ t.md.base = service.md.base ∧
        (t.dp.get .a).acts.map (fun a => (a.trigger, a.priority, a.zones)) = [(1, 3, [5])])) = true) := by
  decide

theorem witness_SameModeIsKept :
    ready service 2 0x0302 (be 1 4 ++ zeros 3) (fun _ => 0) (fun a => a.modeRefusals 2 (be 1 4 ++ zeros 3)) = true ∧
    queues service 2 0x0302 (be 1 4 ++ zeros 3) (fun a => a.modeRefusals 2 (be 1 4 ++ zeros 3)) .modeSet = true ∧
    repliedWith (withSeat { service with tan := solo.tan } 2) (be 1 4 ++ zeros 3) .modeSet stOk = true ∧
    isDue (due service 2 0x0302 (be 1 4 ++ zeros 3)) 0x0302 (be 1 4 ++ zeros 3) = true ∧
    after .effectiveStepApply (due service 2 0x0302 (be 1 4 ++ zeros 3)) (fun t => decide (t.md = service.md ∧ t.hal.sched = [])) = true := by
  decide

/-! ### Worked examples of the spec -/

/-- Encoding full scale and correcting one symbol ("The symbol code"). -/
theorem test_symbol_code :
    rsEncode 0x010000000 = 0x010000000111 ∧ rsDecode 0x010000050111 = .corrected 0x010000000111 := by decide

/-- Three stores: two ties and a saturation. -/
theorem test_stores :
    storeRound (2 ^ 59 + 2 ^ 31) = 0x008000001 ∧ storeRound (-2 ^ 59 - 2 ^ 31) = -2 ^ 27 ∧ storeRound (200 * 2 ^ 60) = 0x7FFFFFFFF ∧
    storeSaturates (200 * 2 ^ 60) = true ∧ storeSaturates (-2 ^ 59 - 2 ^ 31) = false := by decide

/-- The Concourse C zone 14 ramp: from 1.0 to 0.5 in 50 ms at 96 kHz. -/
theorem test_ramp :
    let f : Fade := { u0 := 0x100000000, u1 := 0x80000000, start := 1000, len := fadeSteps false 50 }
    f.at' 999 = 0x100000000 ∧ f.at' 1000 = 0x0FFF92C60 ∧ f.at' 1001 = 0x0FFF258C0 ∧ f.at' 5798 = 0x08006DBA0 ∧ f.at' 5799 = 0x080000000 ∧
    f.running 5799 = true ∧ f.running 5800 = false := by decide

/-- A single word of 2.0 at output 700: it leaves 25 steps after the rig stored it, brought to the ceiling exactly. -/
theorem test_limiter :
    let c : Int := 0x00FFFFFEF
    let l := (List.range 24).foldl (fun (l : Limiter) _ => (l.push c 447392 0).1) (Limiter.reset.push c 447392 0x020000000).1
    (l.push c 447392 0).2.1 = c := by decide

/-- The first block of a frame with seed 1: its scrambled payload, and its 68 line bits with two stuffed ones. -/
theorem test_first_block :
    scrambleFirst 1 0 = 0x0000000200000024 ∧
    stuff (blockBits 1 (scrambleFirst 1 0)) true 1 =
      [false, true] ++ List.replicate 24 false ++ [true] ++ List.replicate 6 false ++ [true] ++ List.replicate 24 false ++ [true] ++
        List.replicate 3 false ++ [true, false, false, true, false, false] := by decide

/-- A column fault in Tunnel East: cluster store 7 of Mast B, bank 3, column 209 in four rows and one symbol of row 30. -/
theorem test_column_fault :
    let f (row column : Nat) : SymFail := { memory := 7, bank := 3, row := row, column := column }
    (assignSpares true [f 2 209, f 9 209, f 40 209, f 61 209, f 30 48] MemMast.reset).1.repair.map
      (fun e => (e.typ, e.memory, e.bank, e.spare, e.index)) = [(2, 7, 3, 0, 209), (1, 7, 3, 0, 30)] := by decide

/-- A wiring fault on Tunnel East input 5: 0.498 of VIO reads active, and the drop of 0.468 V passes. -/
theorem test_wiring_fault :
    after (.alarmInputSample .a 5 4980 false) quiet (fun t => (t.alarmIn .a 5).last == 1) = true ∧
    after (.alarmTestPulse .a 5 468) (input quiet .a 5 { AlarmInput.reset with last := 1, deb := 1, failed := 2 })
      (fun t => (t.alarmIn .a 5).failed == 0) = true := by decide

/-! ### Commands that are not well formed -/

/-- A header whose fields are too wide, one at a time, and a payload of another length than the header states. -/
theorem test_wf_header :
    Instr.wf (.modeGet (hdr 0) []) = true ∧
    ([{ hdr 0 with magic := 65536 }, { hdr 0 with version := 256 }, { hdr 0 with kind := 256 }, { hdr 0 with flags := 65536 },
      { hdr 0 with seat := 65536 }, { hdr 0 with rsv10 := 65536 }, { hdr 0 with hostSeq := 2 ^ 32 }, { hdr 0 with devSeq := 2 ^ 32 },
      { hdr 0 with effStep := 2 ^ 64 }, { hdr 0 with payloadLen := 2 ^ 32 }, { hdr 0 with status := 65536 },
      { hdr 0 with rsv34 := 65536 }, { hdr 0 with session := 2 ^ 32 }] : List Hdr).all (fun h => !Instr.wf (.halyardPacketDiscard h)) = true ∧
    Instr.wf (.modeGet (hdr 1) []) = false := by decide

/-- A command for each other check, which it fails. -/
theorem test_wf_numbers :
    ([.bankHandover .a 16 true, .keyProvision (hdr 0) [] (2 ^ 256) true, .unknownOpcode (hdr 0) 65536 [], .loadTimeout (.image 3),
      .loadTimeout (.message 64), .cmdTailDoorbell .a (2 ^ 32), .cspFramingDiscard .a 256, .tamperTrip .a 0xEF, .tamperTrip .a 0xF4,
      .bootPhaseComplete .a { BootFacts.clean with fails := [{ memory := 64, bank := 0, row := 0, column := 0 }] },
      .alarmInputSample .a 8 0 false, .messagePlayBoundary 64, .messageChunkFailure .a 0 65536 false,
      .alarmStreamMessage .a 8 rtp [] true 0, .alarmStreamSilence 8, .stepFailure .a 8, .audioPacketRx .a { rtp with ipVer := 5 } [] 0,
      .packetDeadline .a 512 0, .packetDeadline .a 0 65536, .audioPortEventDeferred .a 7 0,
      .captureAssignmentRx .a { note 0 with cls := 5 }, .asrcLock .a 0 0 (2 ^ 64), .aes3InputLock .a 16 0, .aes3InputUnlock .a 16,
      .singleHomedChange 5 0] : List Instr).all (fun i => !i.wf) = true := by decide

theorem test_wf_units :
    ([.flowUnrepaired .a 1536 0 0, .flowUnrepaired .a 64 (2 ^ 32) 0, .formatRecognised .a 0 256, .arrivalMeasurement .a 1536 0 0 0, .switchPoint 1536,
      .cellCrcMismatch .a 4 0, .cellCrcMismatch .a 0 392, .laneLos .a 233 true, .laneAligned .a 191 .hunt 0 0, .markerSend .a 232,
      .containerRx .a 192 16 0 [0] .none none, .containerRx .a 192 1 0 [] .none none, .gapNoticeRx .a false 512 0, .containerSeqSkip .a false 5, .tandemBlockRx .a 224 0, .faultReport .a 256 0 0 false,
      .burstClose .a 256, .targetedTestResult .a (2 ^ 32) true, .scrubRead .a 64 0 0 0, .messageStoreCheck .a [(64, 0, true)],
      .marchDone .a 4 0 [] [] false, .telltaleWindowEnd .a [window 88 0], .telltaleWindowEnd .a [window 1 0, window 1 0],
      .candidateAbsent .a 87, .holdoverLimit 4, .ptpMessageRx .a { message .delayReq with port := 128 }, .pllLoss .a 7 false,
      .derailleurHang .a 8 true true true, .freewheelClose .a 47, .frequencyMeasurement .a 16 0 0 0, .droopTrip .a 13,
      .railWarningDip .a 9 0, .pmbusAlert .a [], .avsUpdate .a [], .pmbusFailure .a 3 0, .temperatureReading .a 3 0,
      .helloRx .a [] [] true, .reserveDigestCompare 0 [] none, .pllLaneRelockTimeout .a 4, .messageWriteDone 64,
      .eyeMeasurement .a 233 0 0] : List Instr).all (fun i => !i.wf) = true := by decide

end Sys2Proof.Tests
end

/-! # O23: no trusted mast remains (R74)

The two events that leave a copy, or a Captain, without a partner. Both commands report a fault whose class no escalation
moves, so the layer is: what a report of such a class leaves but for the reaction of its level, what a change of a mast's
role leaves, and what bare poles leave of the drives. -/
namespace Sys2Proof.Machine
open Host Sys2Proof

variable (s : State)

/-! ### Operations that leave the tandem state alone -/

@[simp] theorem bump_tan (m : Mast) (i n : Nat) : (s.bump m i n).tan = s.tan :=
  Keeps_same (bump_keeps m i n (keeps_refl 1024 s) rfl) .tan rfl

@[simp] theorem bump_md (m : Mast) (i n : Nat) : (s.bump m i n).md = s.md :=
  Keeps_same (bump_keeps m i n (keeps_refl 1024 s) rfl) .md rfl

@[simp] theorem logOnly_tan (m : Mast) (src level site : Nat) : (s.logOnly m src level site).tan = s.tan :=
  Keeps_same (logOnly_keeps m src level site (keeps_refl 1536 s) rfl) .tan rfl

@[simp] theorem logOnly_md (m : Mast) (src level site : Nat) : (s.logOnly m src level site).md = s.md :=
  Keeps_same (logOnly_keeps m src level site (keeps_refl 1536 s) rfl) .md rfl

@[simp] theorem answerAll_tan : s.answerAll.tan = s.tan := Keeps_same (answerAll_keeps (keeps_refl 96 s) rfl) .tan rfl

@[simp] theorem closeMast_tan (m : Mast) : (s.closeMast m).tan = s.tan :=
  Keeps_same (closeMast_keeps m (keeps_refl 96 s) rfl) .tan rfl

@[simp] theorem stateChanged_tan : s.stateChanged.tan = s.tan :=
  Keeps_same (stateChanged_keeps (keeps_refl 64 s) rfl) .tan rfl

@[simp] theorem loseStay_tan : s.loseStay.tan = s.tan := Keeps_same (loseStay_keeps (keeps_refl 229376 s) rfl) .tan rfl

@[simp] theorem gateForLockout_tan : s.gateForLockout.tan = s.tan := rfl

@[simp] theorem enterMode_tan (mode base : Mode) (cause : Nat) : (s.enterMode mode base cause).tan = s.tan :=
  Keeps_same (enterMode_keeps mode base cause (keeps_refl 224 s) rfl) .tan rfl

/-- A package that enters a mode is in it (R97). -/
@[simp] theorem enterMode_mode (mode base : Mode) (cause : Nat) : (s.enterMode mode base cause).md.mode = mode := by
  unfold State.enterMode
  rw [Keeps_same (stateChanged_keeps (keeps_refl 64 _) rfl) .md rfl, Keeps_same (event_keeps _ _ _ (keeps_refl 96 _) rfl) .md rfl]

/-! ### Roles -/

variable {s} {t : State}

theorem tst_of_tan (h : t.tan = s.tan) (m : Mast) : t.tst m = s.tst m := by simp only [State.tst, State.mt, h]

theorem inTandem_of_tan (h : t.tan = s.tan) : t.inTandem = s.inTandem := by simp only [State.inTandem, tst_of_tan h]

/-- A Captain whose partner is no Stoker is not in Tandem (R45). -/
theorem inTandem_of_alone {m : Mast} (hm : s.tst m = .captain) (ho : s.tst m.other ≠ .stoker) : s.inTandem = false := by
  cases m <;> simp_all [State.inTandem, Mast.other]

variable (s)

/-- A mast given a tandem state holds it, and the Stay link stays as it was (R45). -/
theorem setTst_tst_stay (m : Mast) (st : TandemSt) : (s.setTst m st).tst m = st ∧ (s.setTst m st).tan.stay = s.tan.stay := by
  unfold State.setTst
  extract_lets t cap d lines s1 s2 s3
  have hput : s1.tst m = st ∧ s1.tan.stay = s.tan.stay := by simp [s1, State.tst, State.mt]
  have hclose : s2.tan = s1.tan := by simp only [s2]; split <;> simp
  have hshown : s3.tan = s1.tan := (stateChanged_tan s2).trans hclose
  rw [← tst_of_tan hshown, ← hshown] at hput
  split
  · rwa [tst_of_tan (answerAll_tan s3), answerAll_tan]
  · split
    · exact hput
    · exact hput

/-- A claim of the CAPTAIN role moves no mast's tandem state (R84). -/
theorem claimRole_tst (k m : Mast) : (s.claimRole k).tst m = s.tst m := by
  cases k <;> cases m <;> rfl

/-! ### A report that is not escalated -/

variable {s}

/-- The class of a report looks at roles, modes and rigs only (R484). -/
theorem classOf_congr (htan : t.tan = s.tan) (hdp : t.dp = s.dp) (hmd : t.md = s.md) (m : Mast) (src site : Nat) (late : Bool) :
    t.classOf m src site late = s.classOf m src site late := by
  have hreef : t.reefByRole m = s.reefByRole m := by simp only [State.reefByRole, tst_of_tan htan, inTandem_of_tan htan]
  have hcluster (c : Nat) : t.clusterUsed m c = s.clusterUsed m c := by simp only [State.clusterUsed, hdp]
  have hvideo : t.videoRuns = s.videoRuns := by simp only [State.videoRuns, State.runMode, hmd]
  unfold State.classOf
  rw [hreef, hcluster, hvideo, tst_of_tan htan]

/-- A report whose level no escalation can move, and that raises no attribution flag, counts and is logged, and then the
reaction of its level follows (R487, R488). -/
theorem reportCore_reacts {m : Mast} {src site cls : Nat} {i : ReportInfo} (hk : knownSource src = true)
    (hc : s.classOf m src site i.late = some cls) (he : escalates src = false ∨ 3 ≤ cls)
    (hf : datapathSource src = false ∨ s.tst m ≠ .stoker) :
    ∃ u : State, s.reportCore m src site i = u.react m src cls ∧ Keeps 1536 s u := by
  let own := if packageSource src then s.lead else m
  let u := ((s.bump own src 1).collect own src site cls false i).startTest m src site
  have hu : Keeps 1536 s u :=
    startTest_keeps _ _ _ (collect_keeps _ _ _ _ _ _ (bump_keeps _ _ _ (keeps_refl _ _) rfl) rfl) rfl
  have hesc (b : Bool) : (escalates src && b && decide (cls < 3)) = false := by
    rcases he with he | he
    · simp [he]
    · simp [Nat.not_lt.mpr he]
  have hflag : (datapathSource src && decide (u.tst m = .stoker)) = false := by
    rw [tst_of_tan (Keeps_same hu .tan rfl)]
    rcases hf with hf | hf <;> simp [hf]
  refine ⟨u, ?_, hu⟩
  simp only [State.reportCore, hk, hc, hesc, Bool.not_true, Bool.false_eq_true, if_false]
  change (if datapathSource src && decide (u.tst m = .stoker) then u.flag m .datapath i.step u.window else u).react m src cls = _
  rw [hflag]
  rfl

/-- Above Reef 1 no repair follows such a report (R488). -/
theorem reportInfo_reacts {m : Mast} {src site cls : Nat} {i : ReportInfo} (hk : knownSource src = true)
    (hc : s.classOf m src site i.late = some cls) (hcls : cls ≠ 1) (he : escalates src = false ∨ 3 ≤ cls)
    (hf : datapathSource src = false ∨ s.tst m ≠ .stoker) :
    ∃ u : State, s.reportInfo m src site i = u.react m src cls ∧ Keeps 1536 s u := by
  obtain ⟨u, hcore, hu⟩ := reportCore_reacts hk hc he hf
  refine ⟨u, ?_, hu⟩
  unfold State.reportInfo
  extract_lets own raised s1
  have hraised : raised = false := by
    simp only [raised, hc]
    split
    next h => exact absurd (Option.some.inj h) hcls
    next => rfl
  simp [hraised, s1, hcore]

/-! ### A Stay link that falls during a copy (R74, R84) -/

/-- The Stay link is down, no copy runs, and the mast that joined is OUT. -/
def State.CopyAbandoned (s : State) (j : Join) : Prop :=
  s.tan.stay.up = false ∧ s.tan.join = none ∧ s.tst j.mast = .out

/-- The report of a lost Stay link is of Reef 2 and leaves the tandem state alone (R484). -/
theorem report_stayLink_tan (m : Mast) : (s.report m 0x47 0xD0000003).tan = s.tan := by
  obtain ⟨u, hu, hkeep⟩ := reportInfo_reacts (s := s) (m := m) (src := 0x47) (site := 0xD0000003) (cls := 2)
    (i := .plain s.step) rfl rfl (by decide) (.inl rfl) (.inl rfl)
  unfold State.report
  rw [hu]
  exact Keeps_same hkeep .tan rfl

theorem abandonJoin_copyAbandoned {j : Join} (hj : s.tan.join = some j) (hup : s.tan.stay.up = false) :
    s.abandonJoin.CopyAbandoned j := by
  obtain ⟨hout, hstay⟩ := setTst_tst_stay s j.mast .out
  unfold State.abandonJoin
  rw [hj]
  exact ⟨by rw [← hup, ← hstay], rfl, hout⟩

theorem copyAbandoned_of_tan {j : Join} (h : t.tan = s.tan) (hs : s.CopyAbandoned j) : t.CopyAbandoned j := by
  unfold State.CopyAbandoned
  rw [tst_of_tan h, h]
  exact hs

theorem stayFalls_copyAbandoned {j : Join} (m : Mast) (hj : s.tan.join = some j) : (s.stayFalls m).CopyAbandoned j := by
  unfold State.stayFalls
  refine copyAbandoned_of_tan (answerAll_tan _) (abandonJoin_copyAbandoned ?_ ?_)
  · rw [loseStay_tan, report_stayLink_tan]; exact hj
  · rw [loseStay_tan, report_stayLink_tan]

theorem claimRole_copyAbandoned {j : Join} (k : Mast) (h : s.CopyAbandoned j) : (s.claimRole k).CopyAbandoned j := by
  obtain ⟨hup, hjoin, hout⟩ := h
  exact ⟨hup, hjoin, (claimRole_tst s k j.mast).trans hout⟩

theorem exec_stayLinkDown (m : Mast) (s : State) : exec (.stayLinkDown m) s = execStayLinkDown m s := rfl

/-- The first sentence of R74. -/
theorem stayLinkDown_copyAbandoned {m : Mast} {j : Join} (hup : s.tan.stay.up = true) (hbad : s.stayBad m = true)
    (hon : s.mastOn m = true) (hj : s.tan.join = some j) :
    ∃ t, exec (.stayLinkDown m) s = .next t ∧ t.CopyAbandoned j := by
  have hfall := stayFalls_copyAbandoned m hj
  rw [exec_stayLinkDown, execStayLinkDown]
  simp only [hbad, hon, hup, Bool.not_true, Bool.or_self, Bool.false_eq_true, if_false, if_true]
  refine ⟨_, rfl, ?_⟩
  split
  · exact claimRole_copyAbandoned _ hfall
  · exact hfall

/-! ### A Captain with no partner takes a Reef 3 fault (R74, R127, R128) -/

/-- The package is in LOCKOUT, every output of both masts safe and no packet sent (R128). -/
def State.AtBarePoles (s : State) : Prop :=
  s.md.mode = .lockout ∧ ∀ k, (s.mt k).drive.allSafe = true ∧ (s.mt k).drive.packets = false

theorem lockout_atBarePoles (src : Nat) (tamper : Bool) (h : s.md.mode ≠ .lockout) : (s.lockout src tamper).AtBarePoles := by
  unfold State.lockout
  rw [if_neg h]
  refine ⟨enterMode_mode _ _ _ _, fun k => ?_⟩
  simp [State.mt]

theorem noCaptain_atBarePoles (h : s.md.mode ≠ .lockout) : s.noCaptain.AtBarePoles :=
  lockout_atBarePoles _ _ (by rwa [logOnly_md])

/-- A Captain whose partner neither leads nor follows cannot hand its role over: once the decision is recorded, no mast can
be CAPTAIN (R74, R491). -/
theorem takeOut_of_alone {m : Mast} (src kind : Nat) (hl : s.md.mode ≠ .lockout) (hv : s.md.mode ≠ .vault)
    (hm : s.tst m = .captain) (ho : s.tst m.other = .joining ∨ s.tst m.other = .out) :
    ∃ u : State, s.takeOut m src kind = u.noCaptain ∧ u.md = s.md := by
  unfold State.takeOut
  rw [if_neg (by simp [hl, hv])]
  extract_lets recent tan s0 tan0 s1 s2
  have htst (k : Mast) : s2.tst k = s.tst k := by
    simp only [s2, tst_of_tan (bump_tan s1 m 0x0105 1), s1]
    split
    · rw [tst_of_tan (logOnly_tan ..)]; rfl
    · rfl
  have hmd : s2.md = s.md := by
    simp only [s2, bump_md, s1]
    split
    · rw [logOnly_md]
    · rfl
  have hother : s2.tst m.other ≠ .captain ∧ s2.tst m.other ≠ .stoker := by
    rw [htst]; rcases ho with ho | ho <;> simp [ho]
  have hcap : s2.tst m = .captain := (htst m).trans hm
  refine ⟨s2.yieldRole m false src, ?_, hmd⟩
  simp [hcap, inTandem_of_alone hcap hother.2, State.isCaptain, hother.1]

theorem takeOut_atBarePoles {m : Mast} (src kind : Nat) (hl : s.md.mode ≠ .lockout) (hv : s.md.mode ≠ .vault)
    (hm : s.tst m = .captain) (ho : s.tst m.other = .joining ∨ s.tst m.other = .out) :
    (s.takeOut m src kind).AtBarePoles := by
  obtain ⟨u, hu, hmd⟩ := takeOut_of_alone src kind hl hv hm ho
  rw [hu]
  exact noCaptain_atBarePoles (by rwa [hmd])

theorem exec_faultReport (m : Mast) (src site step : Nat) (late : Bool) (s : State) :
    exec (.faultReport m src site step late) s = execFaultReport m src site step late s := rfl

/-- The second sentence of R74. -/
theorem faultReport_atBarePoles {m : Mast} {src site step : Nat} {late : Bool} (hv : s.md.mode ≠ .vault)
    (hl : s.md.mode ≠ .lockout) (hpg : (s.md.boot.get m).powerGood = true) (hk : knownSource src = true)
    (hc : s.classOf m src site late = some 3) (hm : s.tst m = .captain)
    (ho : s.tst m.other = .joining ∨ s.tst m.other = .out) :
    ∃ t, exec (.faultReport m src site step late) s = .next t ∧ t.AtBarePoles := by
  have hread : Keeps 4195328 s (s.countRead m src site) := countRead_keeps m src site (keeps_refl _ s) rfl
  have hctan : (s.countRead m src site).tan = s.tan := Keeps_same hread .tan rfl
  have hcmd : (s.countRead m src site).md = s.md := Keeps_same hread .md rfl
  obtain ⟨u, hu, hkeep⟩ := reportInfo_reacts (s := s.countRead m src site) (m := m) (site := site)
    (i := { ReportInfo.plain step with late := late }) hk
    ((classOf_congr hctan (Keeps_same hread .dp rfl) hcmd m src site late).trans hc) (by decide) (.inr (Nat.le_refl 3))
    (.inr (by rw [tst_of_tan hctan, hm]; decide))
  have htan : u.tan = s.tan := (Keeps_same hkeep .tan rfl).trans hctan
  have hmd : u.md = s.md := (Keeps_same hkeep .md rfl).trans hcmd
  refine ⟨u.takeOut m src (resetCauseOf src), ?_, ?_⟩
  · rw [exec_faultReport, execFaultReport, if_neg (by simp [hv, hpg]), hu]
    rfl
  · exact takeOut_atBarePoles _ _ (by rwa [hmd]) (by rwa [hmd]) (by rwa [tst_of_tan htan]) (by rwa [tst_of_tan htan])

/-- Settles O23: a Stay link that falls takes the copy with it, and a Reef 3 fault leaves a Captain with no partner nobody
to yield to. -/
theorem noTrustedMastRemains : Obligations.NoTrustedMastRemains := by
  unfold Obligations.NoTrustedMastRemains
  refine ⟨fun m j s hup hbad hon hj => ?_, fun m src site step late s hv hl hpg hk hc hm ho => ?_⟩
  · exact stayLinkDown_copyAbandoned hup hbad hon hj
  · exact faultReport_atBarePoles hv hl hpg hk hc hm ho

end Sys2Proof.Machine

/-! # O22: a MODE_SET that names the current mode is accepted and changes nothing (R102)

At its acceptance none of the refusals of R193 holds, so the command is queued and answered; at its step it leaves the queue
by `takeSched`, which leaves the modes and the other commands of the queue alone, and `applyModeSet` then changes nothing. -/
namespace Sys2Proof.Machine
open Host Sys2Proof

variable {s t : State}

/-! ### The acceptance of a MODE_SET (R193) -/

theorem modeAllowed_self (m : Mode) : modeAllowed m m = true := by simp [modeAllowed]

/-- Of the refusals of a MODE_SET only the role and the reserved bytes can meet one that names the current mode (R102, R123). -/
theorem modeRefusals_sameMode {p : List Byte} {seat : Nat} (hm : Mode.ofCode (fld p 0 1) = some s.md.mode)
    (hrsv : fld p 1 3 = 0) (hrole : s.md.mode = .maintain → (s.seat seat).role ≠ 2 ∧ (s.seat seat).role ≠ 3) :
    s.modeRefusals seat p = [] := by
  have hr : (s.md.mode = .maintain && ((s.seat seat).role == 2 || (s.seat seat).role == 3)) = false := by
    by_cases h : s.md.mode = .maintain
    · simp [hrole h]
    · simp [h]
  simp only [State.modeRefusals, hm, List.append_eq_nil_iff, refuseIf_eq_nil]
  exact ⟨⟨⟨by simp [hrsv], hr⟩, by simp [modeAllowed_self]⟩, by simp⟩

/-- A MODE_SET that meets no refusal is queued for its effective step (R60, R193). -/
theorem modeSet_queuesUp (h : Hdr) (p : List Byte) :
    QueuesUp (.modeSet h p) h p 0x0302 (p.length == 4) (fun a n => a.modeRefusals n p = []) (fun a => a.effectiveStep h)
      (fun _ => 0) (fun a _ => a) (fun _ _ => []) :=
  Carries_of_schedule (fun _ => rfl) (fun _ _ h => h) (fun _ _ => rfl)

theorem OnlyHalyard_md (h : s.OnlyHalyard t) : t.md = s.md := by rw [h.rest]

theorem OnlyHalyard_sched (h : s.OnlyHalyard t) : t.hal.sched = s.hal.sched := by rw [h.rest]

/-- The answer to a command that is queued leaves the modes alone (R63). -/
theorem Answered_md {q : State} {h : Hdr} {seat code eff : Nat} {reach : Reach} {fields : List Byte}
    (ha : Answered q t h seat code eff reach fields) : t.md = q.md := by
  unfold Answered at ha
  split at ha
  · exact (OnlyHalyard_md ha.1).trans rfl
  · exact OnlyHalyard_md ha.1

/-! ### The queue at the effective step (R62, R63, R171) -/

@[simp] theorem noteMissed_hal (c : SchedCmd) : (s.noteMissed c).hal = s.hal := by
  simp only [State.noteMissed]
  split
  · rfl
  · rfl

@[simp] theorem takeSched_sched (c : SchedCmd) : (s.takeSched c).hal.sched = s.hal.sched.filter (fun x => x.order != c.order) := by
  unfold State.takeSched
  rw [OnlyHalyard_sched (answerDue_only ..), noteMissed_hal]

@[simp] theorem takeSched_md (c : SchedCmd) : (s.takeSched c).md = s.md :=
  Keeps_same (takeSched_keeps c (keeps_refl 352 s) rfl) .md rfl

@[simp] theorem takeSched_step (c : SchedCmd) : (s.takeSched c).step = s.step :=
  Keeps_same (takeSched_keeps c (keeps_refl 352 s) rfl) .step rfl

/-- EFFECTIVE_STEP_APPLY takes up the first command due (R171, R172). -/
theorem exec_effectiveStepApply_of_due {c : SchedCmd} (hcap : s.captain.isSome = true)
    (hdue : s.firstDue (fun _ => true) = some c) : exec .effectiveStepApply s = .next (s.applySched c) := by
  change execEffectiveStepApply s = _
  simp [execEffectiveStepApply, hdue, Option.isNone_eq_false_iff.mpr hcap]

/-- A command that passes the checks made again and whose action leaves the state as it is only leaves the queue (R172). -/
theorem applySched_idle {c : SchedCmd} (hc : ({ s.takeSched c with step := s.step + 1 } : State).recheck c = none)
    (hd : c.code ≠ 0x0504) (ha : ∀ ms, ({ s.takeSched c with step := s.step + 1 } : State).applyAction c ms =
      ({ s.takeSched c with step := s.step + 1 }, stOk)) :
    s.applySched c = s.takeSched c := by
  simp only [State.applySched, State.atStep, hc, State.settleDefault, hd, if_false, ha, if_true]

/-! ### A MODE_SET of the current mode takes effect (R101, R102) -/

theorem applyAction_modeSet {c : SchedCmd} (hc : c.code = 0x0302) (s : State) (ms : List Mast) :
    s.applyAction c ms = s.applyModeSet c ms := by
  unfold State.applyAction
  simp only [hc, Nat.reduceDiv, Nat.reduceMod, if_true]

theorem changeMode_sameMode (s : State) : s.changeMode s.md.mode = s := if_pos rfl

/-- Where no MODE_SET accepted later shares its step, a MODE_SET of the current mode changes nothing (R101, R102). -/
theorem applyModeSet_sameMode {c : SchedCmd} (ms : List Mast) (hm : Mode.ofCode (fld c.payload 0 1) = some s.md.mode)
    (hal : s.md.mode ≠ .alarm) (hlast : ∀ y ∈ s.hal.sched, y.code = 0x0302 → y.effStep = c.effStep → y.order ≤ c.order) :
    s.applyModeSet c ms = (s, stOk) := by
  have hsole : s.hal.sched.any (fun x => x.code == 0x0302 && x.effStep == c.effStep && decide (c.order < x.order)) = false := by
    simpa [List.any_eq_false] using hlast
  simp [State.applyModeSet, hm, hsole, hal, modeAllowed_self, changeMode_sameMode]

/-- Due at the step that begins, such a MODE_SET only leaves the queue (R102, R172). -/
theorem applySched_sameMode {c : SchedCmd} (hre : ({ s.takeSched c with step := s.step + 1 } : State).recheck c = none)
    (hcode : c.code = 0x0302) (hm : Mode.ofCode (fld c.payload 0 1) = some s.md.mode) (hal : s.md.mode ≠ .alarm)
    (hlast : ∀ y ∈ s.hal.sched, y.order ≠ c.order → y.code = 0x0302 → y.effStep = c.effStep → y.order ≤ c.order) :
    s.applySched c = s.takeSched c := by
  refine applySched_idle hre (by simp [hcode]) fun ms => ?_
  rw [applyAction_modeSet hcode]
  refine applyModeSet_sameMode ms (by rwa [takeSched_md]) (by rwa [takeSched_md]) fun y hy => ?_
  rw [takeSched_sched, List.mem_filter] at hy
  obtain ⟨hmem, hother⟩ := hy
  exact hlast y hmem (by simpa using hother)

/-- Settles O22: nothing refuses such a MODE_SET at its acceptance, and its action at its step is idle. -/
theorem sameModeIsKept : Obligations.SameModeIsKept := by
  unfold Obligations.SameModeIsKept
  refine ⟨fun h p s x hacc hperm hsched hm hrsv hrole => ?_, fun s c hcap hdue hre hcode hm hal hlast => ?_⟩
  · have hmd : (s.accepted h x).md = s.md := OnlyHalyard_md (accepted_only s h x)
    rw [← hmd] at hm hrole ⊢
    obtain ⟨t, ht, hans⟩ := modeSet_queuesUp h p s x hacc ⟨hperm, hsched, modeRefusals_sameMode hm hrsv hrole⟩
    exact ⟨t, ht, (Answered_md hans).trans rfl, hans⟩
  · rw [exec_effectiveStepApply_of_due hcap hdue, applySched_sameMode hre hcode hm hal hlast]

end Sys2Proof.Machine

/-! # O15: RIG_DISCARD empties the standby slot, and is refused while the slot is busy (R199)

A command that passes the refusals every opcode shares is refused for its length, for a reason of its own, or not at all. For
RIG_DISCARD that is ST_BAD_PARAM (class 0x05), which goes before ST_BUSY (class 0x07), or it empties the slot (R180, R181). -/
namespace Sys2Proof.Machine

variable {s t : State}

/-! ### Commands refused for their length or for a reason of their own (R176, R180, R181) -/

/-- The seat's last reply is the one to `h`, with status `st` (R158, R176). -/
def State.RepliedTo (s : State) (h : Hdr) (seat code st : Nat) : Prop :=
  ∃ r, s.lastReply seat = some r ∧ r.hostSeq = h.hostSeq ∧ r.opcode = code ∧ r.status = st

/-- The length is the last refusal that every opcode shares (R181). -/
theorem commonRefusals_length (s : State) (h : Hdr) (seat : Nat) (row : OpRow) (lengthOk : Bool) :
    s.commonRefusals h seat row lengthOk = s.commonRefusals h seat row true ++ refuseIf (!lengthOk) stBadParam := by
  simp [State.commonRefusals, refuseIf_nil]

/-- A refusal is reported before one listed after it whose class is no lower (R176, R180). -/
theorem firstRefusal_cons_refuseIf {st st' : Nat} (b : Bool) (h : statusClass st ≤ statusClass st') :
    firstRefusal (st :: refuseIf b st') = some st := by
  cases b
  · rfl
  · exact if_neg (Nat.not_lt.mpr h)

/-- A command refused for its length or for a reason of its own has no other effect than its reply (R176, R181). -/
theorem runNow_refused {h : Hdr} {seat code len st : Nat} {lengthOk : Bool} {reach : Reach} {own : List Nat}
    (run : State → State × List Byte) (hp : s.Permits h seat code true) (hf : s.Fits h len)
    (hst : firstRefusal (refuseIf (!lengthOk) stBadParam ++ own) = some st) :
    s.runNow h seat code lengthOk reach own len run = s.refuse h seat code st [] := by
  obtain ⟨row, hr, hc⟩ := hp
  unfold State.Fits at hf
  simp only [State.runNow, hr, hf, commonRefusals_length s h seat row lengthOk, hc, List.nil_append, hst]

/-- What is left of a refused command, once sessions that would wrap have closed. -/
theorem refuse_closed {h : Hdr} {seat code st : Nat} {f : List Byte} (hs : seat < s.hal.seats.length) :
    s.OnlyHalyard (s.refuse h seat code st f).closeWrapped ∧
      (s.refuse h seat code st f).closeWrapped.RepliedTo h seat code st := by
  have hlast : (s.refuse h seat code st f).closeWrapped.lastReply seat = _ :=
    (lastReply_of_same (closeWrapped_replies _) seat).trans (replyWith_lastReply s seat code _ _ _ hs)
  exact ⟨OnlyHalyard_trans (refuse_only ..) (closeWrapped_only _), _, hlast, rfl, rfl, rfl⟩

/-- A command whose meaning is to run at once, where its length or a reason of its own refuses it: the reply has the first
status, and nothing else happens (R174, R176). -/
theorem refuses_of_runNow {i : Instr} {h : Hdr} {x : Session} {code len st : Nat} {lengthOk : Bool} {reach : Reach}
    {own : State → List Nat} {run : Nat → State → State × List Byte}
    (hx : exec i s = .next (s.receive h code fun n s1 => s1.runNow h n code lengthOk reach (own s1) len (run n)))
    (hs : s.Accepts h x) (hp : (s.accepted h x).Permits h x.seat code true) (hf : (s.accepted h x).Fits h len)
    (hst : firstRefusal (refuseIf (!lengthOk) stBadParam ++ own (s.accepted h x)) = some st) :
    ∃ t, exec i s = .next t ∧ t.RepliedTo h x.seat code st ∧ s.OnlyHalyard t := by
  have hknown : x.seat < (s.accepted h x).hal.seats.length := by rw [accepted_length]; exact hs.known
  rw [receive_accepts hs, runNow_refused _ hp hf hst] at hx
  obtain ⟨honly, hreply⟩ := refuse_closed hknown
  exact ⟨_, hx, hreply, OnlyHalyard_trans (accepted_only s h x) honly⟩

/-! ### The standby slot (R195, R263) -/

theorem standbyBusy_iff :
    s.standbyBusy = true ↔ s.rigs.state = .verifying ∨ s.rigs.state = .tackPending ∨ s.rigs.state = .tacking := by
  simp [State.standbyBusy, or_assoc]

theorem OnlyHalyard_rigs (h : s.OnlyHalyard t) : t.rigs = s.rigs := by rw [h.rest]

theorem accepted_standbyBusy (h : Hdr) (x : Session) : (s.accepted h x).standbyBusy = s.standbyBusy := by
  rw [State.standbyBusy, OnlyHalyard_rigs (accepted_only s h x), State.standbyBusy]

/-- Emptying the standby slot looks at nothing that a reply may change. -/
theorem OnlyHalyard_emptyStandby (h : s.OnlyHalyard t) : s.emptyStandby.OnlyHalyard t.emptyStandby where
  rest := by rw [h.rest]; rfl
  seats := h.seats
  each := h.each

/-! ### RIG_DISCARD (R199) -/

theorem exec_rigDiscard (h : Hdr) (p : List Byte) (s : State) : exec (.rigDiscard h p) s = execRigDiscard h p s := rfl

/-- Where the slot is not busy, RIG_DISCARD empties it at once (R168, R199). -/
theorem rigDiscard_actsAtOnce (h : Hdr) (p : List Byte) :
    ActsAtOnce (.rigDiscard h p) h 0x0404 .package (p.length == 0) 0 (fun a _ => a.standbyBusy = false)
      (fun a _ => a.emptyStandby) (fun _ _ => []) :=
  Carries_of_runNow (exec_rigDiscard h p) (fun _ _ ⟨hperm, hfit, hfree⟩ => ⟨hperm, hfit, refuseIf_nil hfree⟩) fun _ _ => rfl

/-- RIG_DISCARD is refused with the first of ST_BAD_PARAM for its length and ST_BUSY for the slot (R181, R199). -/
theorem rigDiscard_refused {h : Hdr} {p : List Byte} {x : Session} {st : Nat} (hs : s.Accepts h x)
    (hp : (s.accepted h x).Permits h x.seat 0x0404 true) (hf : (s.accepted h x).Fits h 0)
    (hst : firstRefusal (refuseIf (!(p.length == 0)) stBadParam ++ refuseIf s.standbyBusy stBusy) = some st) :
    ∃ t, exec (.rigDiscard h p) s = .next t ∧ t.RepliedTo h x.seat 0x0404 st ∧ s.OnlyHalyard t :=
  refuses_of_runNow (exec_rigDiscard h p s) hs hp hf (by rwa [accepted_standbyBusy])

/-- Settles O15: the three cases are those of the length and of the slot's state. -/
theorem rigDiscardEmpties : Obligations.RigDiscardEmpties := by
  unfold Obligations.RigDiscardEmpties
  intro h p s x hs a busy answered hperm hfit
  refine ⟨fun hp hfree => ?_, fun hp hbusy => ?_, fun hp => ?_⟩
  · have hidle : a.standbyBusy = false := by
      rw [accepted_standbyBusy, ← Bool.not_eq_true]
      exact fun hb => hfree (standbyBusy_iff.mp hb)
    subst hp
    obtain ⟨t, ht, honly, hreply⟩ := rigDiscard_actsAtOnce h [] s x hs ⟨hperm, hfit, hidle⟩
    have hall : s.emptyStandby.OnlyHalyard t :=
      OnlyHalyard_trans (OnlyHalyard_emptyStandby (accepted_only s h x)) honly
    have hrigs : t.rigs = s.emptyStandby.rigs := OnlyHalyard_rigs hall
    refine ⟨t, ht, ⟨_, hreply, rfl, rfl, rfl⟩, ?_, ?_, ?_, hall⟩
    · rw [hrigs]; rfl
    · rw [hrigs]; rfl
    · rw [hrigs]; rfl
  · refine rigDiscard_refused hs hperm hfit ?_
    rw [hp, standbyBusy_iff.mpr hbusy]
    rfl
  · refine rigDiscard_refused hs hperm hfit ?_
    rw [show (p.length == 0) = false by simpa using hp]
    exact firstRefusal_cons_refuseIf _ (by decide)

end Sys2Proof.Machine

/-! # O53: no run of line bits exceeds 24, and stuffing adds nothing else (R404)

Each bit does one of three things: it goes on with a run that it does not fill, it fills the run, or it ends it. The model's
`stuff` has one equation for each, and one induction over the three carries both halves: that the opposite bit follows every
run of 24, and that `unstuff` drops just the bits that `stuff` put in. -/
namespace Sys2Proof.Machine

/-! ### One bit of the stuffed line (R404) -/

@[simp] theorem stuff_nil (last : Bool) (c : Nat) : stuff [] last c = [] := rfl

/-- A bit that goes on with a run, and does not fill it, is sent alone. -/
theorem stuff_same {c : Nat} (hc : c < 23) (rest : List Bool) (last : Bool) :
    stuff (last :: rest) last c = last :: stuff rest last (c + 1) := by
  simp [stuff, show c ≠ 23 by omega]

/-- The bit that fills the run is sent with its opposite after it, which begins a run of one. -/
theorem stuff_full (rest : List Bool) (last : Bool) :
    stuff (last :: rest) last 23 = last :: (!last) :: stuff rest (!last) 1 := by
  simp [stuff]

/-- A bit that ends a run is sent alone, and begins a run of one. -/
theorem stuff_flip (rest : List Bool) (last : Bool) (c : Nat) :
    stuff ((!last) :: rest) last c = (!last) :: stuff rest (!last) 1 := by
  simp [stuff]

/-- A received bit of a run that is not full is kept. -/
theorem unstuff_kept {c : Nat} (hc : c ≤ 23) (b : Bool) (rest : List Bool) (last : Bool) :
    unstuff (b :: rest) last c = b :: unstuff rest b (if b = last then c + 1 else 1) := by
  simp [unstuff, show c ≠ 24 by omega]

/-- The bit received after a full run is dropped. -/
theorem unstuff_dropped (b : Bool) (rest : List Bool) (last : Bool) :
    unstuff (b :: rest) last 24 = unstuff rest b 1 := by
  simp [unstuff]

/-- The induction along a stuffed line: a bit goes on with a run that it does not fill, fills it, or ends it. -/
theorem stuff_induction {motive : (_ : List Bool) → (_ : Bool) → (c : Nat) → c ≤ 23 → Prop}
    (nil : ∀ last c hc, motive [] last c hc)
    (same : ∀ rest last c (hc : c < 23), motive rest last (c + 1) hc → motive (last :: rest) last c (Nat.le_of_lt hc))
    (full : ∀ rest last, motive rest (!last) 1 (by decide) → motive (last :: rest) last 23 (Nat.le_refl 23))
    (flip : ∀ rest last c hc, motive rest (!last) 1 (by decide) → motive ((!last) :: rest) last c hc)
    (bits : List Bool) (last : Bool) (c : Nat) (hc : c ≤ 23) : motive bits last c hc := by
  induction bits generalizing last c with
  | nil => exact nil last c hc
  | cons b rest ih =>
    by_cases hb : b = last
    · subst hb
      rcases Nat.lt_or_eq_of_le hc with hlt | rfl
      · exact same rest b c hlt (ih b (c + 1) hlt)
      · exact full rest b (ih (!b) 1 (by decide))
    · rw [Bool.eq_not.mpr hb]
      exact flip rest last c hc (ih (!last) 1 (by decide))

/-! ### The runs of a line (R404) -/

/-- After every run of 24 equal bits of a line comes a bit of the opposite value. -/
def RunsEnd (line : List Bool) : Prop :=
  ∀ l r b, line = l ++ List.replicate 24 b ++ r → ∃ r', r = (!b) :: r'

theorem RunsEnd_of_length_lt {line : List Bool} (h : line.length < 24) : RunsEnd line := by
  rintro l r b rfl
  simp at h
  omega

/-- A longer line has only the runs of the shorter one, and the one it begins with. -/
theorem RunsEnd_cons {a : Bool} {line : List Bool} (h : RunsEnd line)
    (hhead : ∀ r b, a :: line = List.replicate 24 b ++ r → ∃ r', r = (!b) :: r') : RunsEnd (a :: line) := by
  intro l r b hl
  cases l with
  | nil => exact hhead r b hl
  | cons x l => exact h l r b (List.cons.inj hl).2

/-- A line that has at most `n` bits `a` before the opposite bit and yet begins with `n` of them has just these `n`. -/
theorem eq_flip_of_replicate_append_eq {a : Bool} {tl r : List Bool} {k n : Nat} (hk : k ≤ n)
    (h : List.replicate k a ++ (!a) :: tl = List.replicate n a ++ r) : r = (!a) :: tl := by
  obtain ⟨d, rfl⟩ := Nat.exists_eq_add_of_le hk
  rw [← List.replicate_append_replicate, List.append_assoc, List.append_cancel_left_eq] at h
  cases d with
  | zero => exact h.symm
  | succ d => simp [List.replicate_succ] at h

/-- At most 24 equal bits may stand before the opposite bit. -/
theorem RunsEnd_replicate_append {a : Bool} {tl : List Bool} (h : RunsEnd ((!a) :: tl)) {c : Nat} (hc : c ≤ 24) :
    RunsEnd (List.replicate c a ++ (!a) :: tl) := by
  induction c with
  | zero => exact h
  | succ c ih =>
    refine RunsEnd_cons (ih (by omega)) fun r b hr => ?_
    obtain rfl : a = b := (List.cons.inj hr).1
    exact ⟨tl, eq_flip_of_replicate_append_eq hc hr⟩

/-- No run exceeds 24 where the opposite bit follows each run of 24. -/
theorem RunsEnd_run_le {line : List Bool} (h : RunsEnd line) {n : Nat} {b : Bool}
    (hrun : List.replicate n b <:+: line) : n ≤ 24 := by
  refine Nat.le_of_not_lt fun hn => ?_
  obtain ⟨d, rfl⟩ := Nat.exists_eq_add_of_lt hn
  obtain ⟨l, r, rfl⟩ := hrun
  obtain ⟨r', hr'⟩ := h l (List.replicate (d + 1) b ++ r) b (by
    rw [Nat.add_assoc, ← List.replicate_append_replicate, List.append_assoc, List.append_assoc, List.append_assoc])
  simp [List.replicate_succ] at hr'

/-- The line after a run of `c` bits keeps R404: a bit sent alone lengthens the run, and every other begins one. -/
theorem RunsEnd_stuff (bits : List Bool) (last : Bool) (c : Nat) (hc : c ≤ 23) :
    RunsEnd (List.replicate c last ++ stuff bits last c) := by
  induction bits, last, c, hc using stuff_induction with
  | nil last c hc => exact RunsEnd_of_length_lt (by simp; omega)
  | same rest last c hc ih => rwa [stuff_same hc, List.append_cons, ← List.replicate_succ']
  | full rest last ih =>
    rw [stuff_full, List.append_cons, ← List.replicate_succ']
    exact RunsEnd_replicate_append ih (by decide)
  | flip rest last c hc ih =>
    rw [stuff_flip]
    exact RunsEnd_replicate_append ih (by omega)

/-- Dropping the bit after each run of 24 gives back the bits that were sent. -/
theorem unstuff_stuff (bits : List Bool) (last : Bool) (c : Nat) (hc : c ≤ 23) :
    unstuff (stuff bits last c) last c = bits := by
  induction bits, last, c, hc using stuff_induction with
  | nil last c hc => rfl
  | same rest last c hc ih => rw [stuff_same hc, unstuff_kept (Nat.le_of_lt hc), if_pos rfl, ih]
  | full rest last ih => rw [stuff_full, unstuff_kept (by decide), if_pos rfl, unstuff_dropped, ih]
  | flip rest last c hc ih => rw [stuff_flip, unstuff_kept hc, if_neg (by simp), ih]

/-- Settles O53, by the induction along the line: its runs end by 24, and unstuffing is the inverse. -/
theorem lineRunsStayShort : Obligations.LineRunsStayShort := by
  unfold Obligations.LineRunsStayShort
  intro bits last c hc line
  have hruns : RunsEnd line := RunsEnd_stuff bits last c hc
  exact ⟨hruns, fun _ _ => RunsEnd_run_le hruns, unstuff_stuff bits last c hc⟩

end Sys2Proof.Machine

/-! # O4, O2: every command completes, and reaches no further than it is named to

The laws of each meaning name a mask of the parts that it may change (`Keeps`). One lemma for every command of the table puts
its mask beside `mayChange`; the frame of O4 and the invariant of O2 both follow from it. -/
namespace Sys2Proof.Machine
open Host

/-- Every bit of the mask `w` is that of a part in `l`. -/
def Within (w : Nat) (l : List Part) : Bool := Part.every.all fun p => l.contains p || !w.testBit p.place

theorem Part.mem_every (p : Part) : p ∈ Part.every := by cases p <;> decide

theorem testBit_of_within {w : Nat} {l : List Part} (h : Within w l = true) {p : Part} (hp : p ∉ l) :
    w.testBit p.place = false := by
  simp only [Within, List.all_eq_true, Bool.or_eq_true, List.contains_iff_mem, Bool.not_eq_true'] at h
  exact (h p p.mem_every).resolve_left hp

/-- `c` completes on `s`, and what it may change, by the laws of its meaning, is within what `mayChange` names for it. -/
def Reaches (c : Instr) (s : State) : Prop :=
  ∃ w t, exec c s = .next t ∧ Keeps w s t ∧ Within w (mayChange c) = true

theorem reaches_of_keeps {c : Instr} {s t : State} {w : Nat} (k : Keeps w s t) (hx : exec c s = .next t)
    (hw : Within w (mayChange c) = true) : Reaches c s := ⟨w, t, hx, k, hw⟩

/-- The law of its meaning, for each command of the table. -/
theorem exec_reaches : ∀ (c : Instr) (s : State), Reaches c s
  | .sessionOpen h p f, s => reaches_of_keeps (execSessionOpen_keeps h p f s rfl) rfl rfl
  | .sessionConfirm h p, s => reaches_of_keeps (execSessionConfirm_keeps h p s rfl) rfl rfl
  | .sessionClose h p, s => reaches_of_keeps (execSessionClose_keeps h p s rfl) rfl rfl
  | .sessionStatus h p, s => reaches_of_keeps (execSessionStatus_keeps h p s rfl) rfl rfl
  | .sessionEvents h p, s => reaches_of_keeps (execSessionEvents_keeps h p s rfl) rfl rfl
  | .ledgerRead h p, s => reaches_of_keeps (execLedgerRead_keeps h p s rfl) rfl rfl
  | .identGet h p, s => reaches_of_keeps (execIdentGet_keeps h p s rfl) rfl rfl
  | .capsGet h p, s => reaches_of_keeps (execCapsGet_keeps h p s rfl) rfl rfl
  | .lockoutRecordGet h p, s => reaches_of_keeps (execLockoutRecordGet_keeps h p s rfl) rfl rfl
  | .modeGet h p, s => reaches_of_keeps (execModeGet_keeps h p s rfl) rfl rfl
  | .modeSet h p, s => reaches_of_keeps (execModeSet_keeps h p s rfl) rfl rfl
  | .reset h p, s => reaches_of_keeps (execReset_keeps h p s rfl) rfl rfl
  | .rigLoad h p, s => reaches_of_keeps (execRigLoad_keeps h p s rfl) rfl rfl
  | .rigVerify h p, s => reaches_of_keeps (execRigVerify_keeps h p s rfl) rfl rfl
  | .tack h p, s => reaches_of_keeps (execTack_keeps h p s rfl) rfl rfl
  | .rigDiscard h p, s => reaches_of_keeps (execRigDiscard_keeps h p s rfl) rfl rfl
  | .rigStatus h p, s => reaches_of_keeps (execRigStatus_keeps h p s rfl) rfl rfl
  | .rigLatency h p, s => reaches_of_keeps (execRigLatency_keeps h p s rfl) rfl rfl
  | .paramSet h p, s => reaches_of_keeps (execParamSet_keeps h p s rfl) rfl rfl
  | .paramGet h p, s => reaches_of_keeps (execParamGet_keeps h p s rfl) rfl rfl
  | .sceneRecall h p, s => reaches_of_keeps (execSceneRecall_keeps h p s rfl) rfl rfl
  | .rampDefaultSet h p, s => reaches_of_keeps (execRampDefaultSet_keeps h p s rfl) rfl rfl
  | .rampStatus h p, s => reaches_of_keeps (execRampStatus_keeps h p s rfl) rfl rfl
  | .aesConfig h p, s => reaches_of_keeps (execAesConfig_keeps h p s rfl) rfl rfl
  | .audioStatus h p, s => reaches_of_keeps (execAudioStatus_keeps h p s rfl) rfl rfl
  | .commonStart h p, s => reaches_of_keeps (execCommonStart_keeps h p s rfl) rfl rfl
  | .streamRxSet h p, s => reaches_of_keeps (execStreamRxSet_keeps h p s rfl) rfl rfl
  | .streamTxSet h p, s => reaches_of_keeps (execStreamTxSet_keeps h p s rfl) rfl rfl
  | .patchSet h p, s => reaches_of_keeps (execPatchSet_keeps h p s rfl) rfl rfl
  | .hostAudioSet h p, s => reaches_of_keeps (execHostAudioSet_keeps h p s rfl) rfl rfl
  | .sdiAudioSet h p, s => reaches_of_keeps (execSdiAudioSet_keeps h p s rfl) rfl rfl
  | .sidetoneSet h p, s => reaches_of_keeps (execSidetoneSet_keeps h p s rfl) rfl rfl
  | .xptSwitch h p, s => reaches_of_keeps (execXptSwitch_keeps h p s rfl) rfl rfl
  | .xptSalvo h p, s => reaches_of_keeps (execXptSalvo_keeps h p s rfl) rfl rfl
  | .xptStatus h p, s => reaches_of_keeps (execXptStatus_keeps h p s rfl) rfl rfl
  | .flowRxSet h p, s => reaches_of_keeps (execFlowRxSet_keeps h p s rfl) rfl rfl
  | .flowTxSet h p, s => reaches_of_keeps (execFlowTxSet_keeps h p s rfl) rfl rfl
  | .flowRead h p, s => reaches_of_keeps (execFlowRead_keeps h p s rfl) rfl rfl
  | .timebaseStatus h p, s => reaches_of_keeps (execTimebaseStatus_keeps h p s rfl) rfl rfl
  | .referenceStatus h p, s => reaches_of_keeps (execReferenceStatus_keeps h p s rfl) rfl rfl
  | .timingHistory h p, s => reaches_of_keeps (execTimingHistory_keeps h p s rfl) rfl rfl
  | .ptpStatus h p, s => reaches_of_keeps (execPtpStatus_keeps h p s rfl) rfl rfl
  | .realign h p, s => reaches_of_keeps (execRealign_keeps h p s rfl) rfl rfl
  | .tandemStatus h p, s => reaches_of_keeps (execTandemStatus_keeps h p s rfl) rfl rfl
  | .tandemSwap h p, s => reaches_of_keeps (execTandemSwap_keeps h p s rfl) rfl rfl
  | .digestStatus h p, s => reaches_of_keeps (execDigestStatus_keeps h p s rfl) rfl rfl
  | .shroudStatus h p, s => reaches_of_keeps (execShroudStatus_keeps h p s rfl) rfl rfl
  | .faultLogRead h p, s => reaches_of_keeps (execFaultLogRead_keeps h p s rfl) rfl rfl
  | .faultAck h p, s => reaches_of_keeps (execFaultAck_keeps h p s rfl) rfl rfl
  | .counterRead h p, s => reaches_of_keeps (execCounterRead_keeps h p s rfl) rfl rfl
  | .snapshot h p, s => reaches_of_keeps (execSnapshot_keeps h p s rfl) rfl rfl
  | .snapshotRead h p, s => reaches_of_keeps (execSnapshotRead_keeps h p s rfl) rfl rfl
  | .health h p, s => reaches_of_keeps (execHealth_keeps h p s rfl) rfl rfl
  | .bankGive h p, s => reaches_of_keeps (execBankGive_keeps h p s rfl) rfl rfl
  | .bankHandover m idx idle, s => reaches_of_keeps (execBankHandover_keeps m idx idle s rfl) rfl rfl
  | .bankRead h p, s => reaches_of_keeps (execBankRead_keeps h p s rfl) rfl rfl
  | .bankWrite h p, s => reaches_of_keeps (execBankWrite_keeps h p s rfl) rfl rfl
  | .marchRun h p, s => reaches_of_keeps (execMarchRun_keeps h p s rfl) rfl rfl
  | .loopbackSet h p, s => reaches_of_keeps (execLoopbackSet_keeps h p s rfl) rfl rfl
  | .testRouteSet h p, s => reaches_of_keeps (execTestRouteSet_keeps h p s rfl) rfl rfl
  | .repairMapRead h p, s => reaches_of_keeps (execRepairMapRead_keeps h p s rfl) rfl rfl
  | .lifecycleGet h p, s => reaches_of_keeps (execLifecycleGet_keeps h p s rfl) rfl rfl
  | .certRead h p, s => reaches_of_keeps (execCertRead_keeps h p s rfl) rfl rfl
  | .ownerEnrol h p sigOk, s => reaches_of_keeps (execOwnerEnrol_keeps h p sigOk s rfl) rfl rfl
  | .imageLoad h p, s => reaches_of_keeps (execImageLoad_keeps h p s rfl) rfl rfl
  | .profileApply h p sigOk, s => reaches_of_keeps (execProfileApply_keeps h p sigOk s rfl) rfl rfl
  | .firmwareApply h p sigOk, s => reaches_of_keeps (execFirmwareApply_keeps h p sigOk s rfl) rfl rfl
  | .lifecycleSet h p sigOk, s => reaches_of_keeps (execLifecycleSet_keeps h p sigOk s rfl) rfl rfl
  | .keyProvision h p key unwrapOk, s => reaches_of_keeps (execKeyProvision_keeps h p key unwrapOk s rfl) rfl rfl
  | .rtcSet h p, s => reaches_of_keeps (execRtcSet_keeps h p s rfl) rfl rfl
  | .alarmActivate h p, s => reaches_of_keeps (execAlarmActivate_keeps h p s rfl) rfl rfl
  | .alarmClear h p, s => reaches_of_keeps (execAlarmClear_keeps h p s rfl) rfl rfl
  | .alarmStatus h p, s => reaches_of_keeps (execAlarmStatus_keeps h p s rfl) rfl rfl
  | .messageLoad h p sigOk, s => reaches_of_keeps (execMessageLoad_keeps h p sigOk s rfl) rfl rfl
  | .messageList h p, s => reaches_of_keeps (execMessageList_keeps h p s rfl) rfl rfl
  | .alarmInputStatus h p, s => reaches_of_keeps (execAlarmInputStatus_keeps h p s rfl) rfl rfl
  | .fallbackTest h p, s => reaches_of_keeps (execFallbackTest_keeps h p s rfl) rfl rfl
  | .fallbackTestDone, s => reaches_of_keeps (execFallbackTestDone_keeps s rfl) rfl rfl
  | .unknownOpcode h code p, s => reaches_of_keeps (execUnknownOpcode_keeps h code p s rfl) rfl rfl
  | .halyardPacketDiscard h, s => reaches_of_keeps (execHalyardPacketDiscard_keeps h s rfl) rfl rfl
  | .sessionIdleTimeout, s => reaches_of_keeps (execSessionIdleTimeout_keeps s rfl) rfl rfl
  | .loadTimeout t, s => reaches_of_keeps (execLoadTimeout_keeps t s rfl) rfl rfl
  | .cmdTailDoorbell m v, s => reaches_of_keeps (execCmdTailDoorbell_keeps m v s rfl) rfl rfl
  | .commandDescriptorDone m d dmaError, s => reaches_of_keeps (execCommandDescriptorDone_keeps m d dmaError s rfl) rfl rfl
  | .replyTailDoorbell m v, s => reaches_of_keeps (execReplyTailDoorbell_keeps m v s rfl) rfl rfl
  | .replyPacketWrite m d dmaError, s => reaches_of_keeps (execReplyPacketWrite_keeps m d dmaError s rfl) rfl rfl
  | .ringEnableWrite m v, s => reaches_of_keeps (execRingEnableWrite_keeps m v s rfl) rfl rfl
  | .intStatusClear m v, s => reaches_of_keeps (execIntStatusClear_keeps m v s rfl) rfl rfl
  | .intEnableWrite m v, s => reaches_of_keeps (execIntEnableWrite_keeps m v s rfl) rfl rfl
  | .msixHoldoffExpiry m, s => reaches_of_keeps (execMsixHoldoffExpiry_keeps m s rfl) rfl rfl
  | .windowHighHalfLatch m write off v, s => reaches_of_keeps (execWindowHighHalfLatch_keeps m write off v s rfl) rfl rfl
  | .windowRegisterWrite m off v, s => reaches_of_keeps (execWindowRegisterWrite_keeps m off v s rfl) rfl rfl
  | .pcieReset m x, s => reaches_of_keeps (execPcieReset_keeps m x s rfl) rfl rfl
  | .cspWrite m wireLen payloadLen, s => reaches_of_keeps (execCspWrite_keeps m wireLen payloadLen s rfl) rfl rfl
  | .cspRead m clocked, s => reaches_of_keeps (execCspRead_keeps m clocked s rfl) rfl rfl
  | .cspStatus m, s => reaches_of_keeps (execCspStatus_keeps m s rfl) rfl rfl
  | .cspFramingDiscard m first, s => reaches_of_keeps (execCspFramingDiscard_keeps m first s rfl) rfl rfl
  | .transportEngineReset m t x, s => reaches_of_keeps (execTransportEngineReset_keeps m t x s rfl) rfl rfl
  | .mgmtServiceFrame m f, s => reaches_of_keeps (execMgmtServiceFrame_keeps m f s rfl) rfl rfl
  | .remapWrite m x passed, s => reaches_of_keeps (execRemapWrite_keeps m x passed s rfl) rfl rfl
  | .watchdogExpiry m, s => reaches_of_keeps (execWatchdogExpiry_keeps m s rfl) rfl rfl
  | .powerGood m, s => reaches_of_keeps (execPowerGood_keeps m s rfl) rfl rfl
  | .bootPhaseComplete m f, s => reaches_of_keeps (execBootPhaseComplete_keeps m f s rfl) rfl rfl
  | .bootFailure m, s => reaches_of_keeps (execBootFailure_keeps m s rfl) rfl rfl
  | .bootEnd, s => reaches_of_keeps (execBootEnd_keeps s rfl) rfl rfl
  | .resetNAssert m cycles, s => reaches_of_keeps (execResetNAssert_keeps m cycles s rfl) rfl rfl
  | .mainPowerLoss, s => reaches_of_keeps (execMainPowerLoss_keeps s rfl) rfl rfl
  | .tamperTrip m src, s => reaches_of_keeps (execTamperTrip_keeps m src s rfl) rfl rfl
  | .lifecycleReset, s => reaches_of_keeps (execLifecycleReset_keeps s rfl) rfl rfl
  | .imageWriteDone failed, s => reaches_of_keeps (execImageWriteDone_keeps failed s rfl) rfl rfl
  | .watchFadeEnd, s => reaches_of_keeps (execWatchFadeEnd_keeps s rfl) rfl rfl
  | .wakeStep, s => reaches_of_keeps (execWakeStep_keeps s rfl) rfl rfl
  | .lateWake m, s => reaches_of_keeps (execLateWake_keeps m s rfl) rfl rfl
  | .onBattChange m level, s => reaches_of_keeps (execOnBattChange_keeps m level s rfl) rfl rfl
  | .shedStep, s => reaches_of_keeps (execShedStep_keeps s rfl) rfl rfl
  | .restoreStep, s => reaches_of_keeps (execRestoreStep_keeps s rfl) rfl rfl
  | .alarmInputSample m idx v pulse, s => reaches_of_keeps (execAlarmInputSample_keeps m idx v pulse s rfl) rfl rfl
  | .alarmInputDebounced m idx, s => reaches_of_keeps (execAlarmInputDebounced_keeps m idx s rfl) rfl rfl
  | .alarmTestPulse m idx dropMv, s => reaches_of_keeps (execAlarmTestPulse_keeps m idx dropMv s rfl) rfl rfl
  | .alarmInputAction primary, s => reaches_of_keeps (execAlarmInputAction_keeps primary s rfl) rfl rfl
  | .alarmInputSolo m idx, s => reaches_of_keeps (execAlarmInputSolo_keeps m idx s rfl) rfl rfl
  | .messagePlayBoundary msg, s => reaches_of_keeps (execMessagePlayBoundary_keeps msg s rfl) rfl rfl
  | .messageChunkFailure m msg chunk both, s => reaches_of_keeps (execMessageChunkFailure_keeps m msg chunk both s rfl) rfl rfl
  | .alarmStreamMessage m n r p sigOk tai, s => reaches_of_keeps (execAlarmStreamMessage_keeps m n r p sigOk tai s rfl) rfl rfl
  | .alarmStreamSilence n, s => reaches_of_keeps (execAlarmStreamSilence_keeps n s rfl) rfl rfl
  | .stepBoundary frame, s => reaches_of_keeps (execStepBoundary_keeps frame s rfl) rfl rfl
  | .preStartPulse, s => reaches_of_keeps (execPreStartPulse_keeps s rfl) rfl rfl
  | .rampEnd, s => reaches_of_keeps (execRampEnd_keeps s rfl) rfl rfl
  | .stepFailure m g, s => reaches_of_keeps (execStepFailure_keeps m g s rfl) rfl rfl
  | .digestReceived m n, s => reaches_of_keeps (execDigestReceived_keeps m n s rfl) rfl rfl
  | .digestCompare n, s => reaches_of_keeps (execDigestCompare_keeps n s rfl) rfl rfl
  | .effectiveStepApply, s => reaches_of_keeps (execEffectiveStepApply_keeps s rfl) rfl rfl
  | .commitReceived order primary, s => reaches_of_keeps (execCommitReceived_keeps order primary s rfl) rfl rfl
  | .tackEnd, s => reaches_of_keeps (execTackEnd_keeps s rfl) rfl rfl
  | .rigVerifyDone hashOk, s => reaches_of_keeps (execRigVerifyDone_keeps hashOk s rfl) rfl rfl
  | .snapshotEvent, s => reaches_of_keeps (execSnapshotEvent_keeps s rfl) rfl rfl
  | .healthEvent, s => reaches_of_keeps (execHealthEvent_keeps s rfl) rfl rfl
  | .audioPacketRx m r samples estimate, s => reaches_of_keeps (execAudioPacketRx_keeps m r samples estimate s rfl) rfl rfl
  | .packetExpectedTimeout m st seq, s => reaches_of_keeps (execPacketExpectedTimeout_keeps m st seq s rfl) rfl rfl
  | .gapNoticeRx m video st seq, s => reaches_of_keeps (execGapNoticeRx_keeps m video st seq s rfl) rfl rfl
  | .forwardedPacketRx m st seq primary, s => reaches_of_keeps (execForwardedPacketRx_keeps m st seq primary s rfl) rfl rfl
  | .packetDeadline m st seq, s => reaches_of_keeps (execPacketDeadline_keeps m st seq s rfl) rfl rfl
  | .audioPortEventDeferred m cls idx, s => reaches_of_keeps (execAudioPortEventDeferred_keeps m cls idx s rfl) rfl rfl
  | .aes3FrameRx m f, s => reaches_of_keeps (execAes3FrameRx_keeps m f s rfl) rfl rfl
  | .captureAssignmentRx m x, s => reaches_of_keeps (execCaptureAssignmentRx_keeps m x s rfl) rfl rfl
  | .asrcEstimateRx m cls idx step ratio, s => reaches_of_keeps (execAsrcEstimateRx_keeps m cls idx step ratio s rfl) rfl rfl
  | .asrcLock m cls idx ratio, s => reaches_of_keeps (execAsrcLock_keeps m cls idx ratio s rfl) rfl rfl
  | .aes3InputLock m port rate, s => reaches_of_keeps (execAes3InputLock_keeps m port rate s rfl) rfl rfl
  | .aes3InputUnlock m port, s => reaches_of_keeps (execAes3InputUnlock_keeps m port s rfl) rfl rfl
  | .singleHomedChange cls idx, s => reaches_of_keeps (execSingleHomedChange_keeps cls idx s rfl) rfl rfl
  | .sdiAudioPacket m p, s => reaches_of_keeps (execSdiAudioPacket_keeps m p s rfl) rfl rfl
  | .videoPacketRx m r row, s => reaches_of_keeps (execVideoPacketRx_keeps m r row s rfl) rfl rfl
  | .flowMissEvent m, s => reaches_of_keeps (execFlowMissEvent_keeps m s rfl) rfl rfl
  | .flowUnrepaired m port ts black, s => reaches_of_keeps (execFlowUnrepaired_keeps m port ts black s rfl) rfl rfl
  | .membershipQuery m, s => reaches_of_keeps (execMembershipQuery_keeps m s rfl) rfl rfl
  | .formatRecognised m idx fmt, s => reaches_of_keeps (execFormatRecognised_keeps m idx fmt s rfl) rfl rfl
  | .arrivalMeasurement m idx arrival rate slips, s => reaches_of_keeps (execArrivalMeasurement_keeps m idx arrival rate slips s rfl) rfl rfl
  | .switchFinalDecision o reached, s => reaches_of_keeps (execSwitchFinalDecision_keeps o reached s rfl) rfl rfl
  | .stokerOwnSwitchDecision o, s => reaches_of_keeps (execStokerOwnSwitchDecision_keeps o s rfl) rfl rfl
  | .switchPoint o, s => reaches_of_keeps (execSwitchPoint_keeps o s rfl) rfl rfl
  | .sourceChange o delivers black, s => reaches_of_keeps (execSourceChange_keeps o delivers black s rfl) rfl rfl
  | .fabricOverload, s => reaches_of_keeps (execFabricOverload_keeps s rfl) rfl rfl
  | .cellCrcMismatch m region cell, s => reaches_of_keeps (execCellCrcMismatch_keeps m region cell s rfl) rfl rfl
  | .laneLos m l on, s => reaches_of_keeps (execLaneLos_keeps m l on s rfl) rfl rfl
  | .laneLol m l on, s => reaches_of_keeps (execLaneLol_keeps m l on s rfl) rfl rfl
  | .laneErrorBurst m l second, s => reaches_of_keeps (execLaneErrorBurst_keeps m l second s rfl) rfl rfl
  | .laneSelfTestResult m l bitErrors, s => reaches_of_keeps (execLaneSelfTestResult_keeps m l bitErrors s rfl) rfl rfl
  | .laneBringupTimeout m l, s => reaches_of_keeps (execLaneBringupTimeout_keeps m l s rfl) rfl rfl
  | .laneAligned m l a seed frame, s => reaches_of_keeps (execLaneAligned_keeps m l a seed frame s rfl) rfl rfl
  | .markerSend m l, s => reaches_of_keeps (execMarkerSend_keeps m l s rfl) rfl rfl
  | .containerRx m l cls seq blocks tag beat, s => reaches_of_keeps (execContainerRx_keeps m l cls seq blocks tag beat s rfl) rfl rfl
  | .containerSeqSkip m shroud cls, s => reaches_of_keeps (execContainerSeqSkip_keeps m shroud cls s rfl) rfl rfl
  | .tandemBlockSend m, s => reaches_of_keeps (execTandemBlockSend_keeps m s rfl) rfl rfl
  | .tandemBlockRx m l payload, s => reaches_of_keeps (execTandemBlockRx_keeps m l payload s rfl) rfl rfl
  | .stayLinkUp, s => reaches_of_keeps (execStayLinkUp_keeps s rfl) rfl rfl
  | .stayLinkDown m, s => reaches_of_keeps (execStayLinkDown_keeps m s rfl) rfl rfl
  | .stayArbitration, s => reaches_of_keeps (execStayArbitration_keeps s rfl) rfl rfl
  | .stayRejoinTimer, s => reaches_of_keeps (execStayRejoinTimer_keeps s rfl) rfl rfl
  | .faultReport m src site step late, s => reaches_of_keeps (execFaultReport_keeps m src site step late s rfl) rfl rfl
  | .takeCaptain m, s => reaches_of_keeps (execTakeCaptain_keeps m s rfl) rfl rfl
  | .releaseDrivers m, s => reaches_of_keeps (execReleaseDrivers_keeps m s rfl) rfl rfl
  | .abruptTakeover m dead steerLow, s => reaches_of_keeps (execAbruptTakeover_keeps m dead steerLow s rfl) rfl rfl
  | .steerReadbackFault m ball, s => reaches_of_keeps (execSteerReadbackFault_keeps m ball s rfl) rfl rfl
  | .slotPreloadEnd, s => reaches_of_keeps (execSlotPreloadEnd_keeps s rfl) rfl rfl
  | .copyPassEnd fits, s => reaches_of_keeps (execCopyPassEnd_keeps fits s rfl) rfl rfl
  | .joinStep, s => reaches_of_keeps (execJoinStep_keeps s rfl) rfl rfl
  | .stokerRejoin, s => reaches_of_keeps (execStokerRejoin_keeps s rfl) rfl rfl
  | .joinHoldExpiry m, s => reaches_of_keeps (execJoinHoldExpiry_keeps m s rfl) rfl rfl
  | .logWrite m, s => reaches_of_keeps (execLogWrite_keeps m s rfl) rfl rfl
  | .burstClose m src, s => reaches_of_keeps (execBurstClose_keeps m src s rfl) rfl rfl
  | .targetedTestResult m site passed, s => reaches_of_keeps (execTargetedTestResult_keeps m site passed s rfl) rfl rfl
  | .rowCopyEnd m site, s => reaches_of_keeps (execRowCopyEnd_keeps m site s rfl) rfl rfl
  | .scrubRead m memory bank row word, s => reaches_of_keeps (execScrubRead_keeps m memory bank row word s rfl) rfl rfl
  | .fallbackMemoryCheck m passed reloadPassed, s => reaches_of_keeps (execFallbackMemoryCheck_keeps m passed reloadPassed s rfl) rfl rfl
  | .messageStoreCheck m fails, s => reaches_of_keeps (execMessageStoreCheck_keeps m fails s rfl) rfl rfl
  | .otpRepairWrite m, s => reaches_of_keeps (execOtpRepairWrite_keeps m s rfl) rfl rfl
  | .writeHoldoffEnd m rewriteFailed, s => reaches_of_keeps (execWriteHoldoffEnd_keeps m rewriteFailed s rfl) rfl rfl
  | .marchDone m target index first again still, s => reaches_of_keeps (execMarchDone_keeps m target index first again still s rfl) rfl rfl
  | .telltaleWindowEnd m rows, s => reaches_of_keeps (execTelltaleWindowEnd_keeps m rows s rfl) rfl rfl
  | .candidateAbsent m idx, s => reaches_of_keeps (execCandidateAbsent_keeps m idx s rfl) rfl rfl
  | .timebaseLocked t xo, s => reaches_of_keeps (execTimebaseLocked_keeps t xo s rfl) rfl rfl
  | .holdoverLimit t, s => reaches_of_keeps (execHoldoverLimit_keeps t s rfl) rfl rfl
  | .xoCheck m count edges, s => reaches_of_keeps (execXoCheck_keeps m count edges s rfl) rfl rfl
  | .xoCalibrationUpdate m mean, s => reaches_of_keeps (execXoCalibrationUpdate_keeps m mean s rfl) rfl rfl
  | .phaseMarker t offset, s => reaches_of_keeps (execPhaseMarker_keeps t offset s rfl) rfl rfl
  | .realignEffective t, s => reaches_of_keeps (execRealignEffective_keeps t s rfl) rfl rfl
  | .realignResume frame, s => reaches_of_keeps (execRealignResume_keeps frame s rfl) rfl rfl
  | .ptpMessageRx m x, s => reaches_of_keeps (execPtpMessageRx_keeps m x s rfl) rfl rfl
  | .syncPairTimeout m t, s => reaches_of_keeps (execSyncPairTimeout_keeps m t s rfl) rfl rfl
  | .delayReqSend m t t3, s => reaches_of_keeps (execDelayReqSend_keeps m t t3 s rfl) rfl rfl
  | .ptpOffsetSecond t, s => reaches_of_keeps (execPtpOffsetSecond_keeps t s rfl) rfl rfl
  | .jumpDecision t, s => reaches_of_keeps (execJumpDecision_keeps t s rfl) rfl rfl
  | .rtcUpdate, s => reaches_of_keeps (execRtcUpdate_keeps s rfl) rfl rfl
  | .pllLoss m p oscStopped, s => reaches_of_keeps (execPllLoss_keeps m p oscStopped s rfl) rfl rfl
  | .pllGraceEnd m p, s => reaches_of_keeps (execPllGraceEnd_keeps m p s rfl) rfl rfl
  | .pllRelock m p, s => reaches_of_keeps (execPllRelock_keeps m p s rfl) rfl rfl
  | .derailleurHang m d toFallback newEdge oldEdge, s => reaches_of_keeps (execDerailleurHang_keeps m d toFallback newEdge oldEdge s rfl) rfl rfl
  | .syncDivEdge m, s => reaches_of_keeps (execSyncDivEdge_keeps m s rfl) rfl rfl
  | .freewheelClose m block, s => reaches_of_keeps (execFreewheelClose_keeps m block s rfl) rfl rfl
  | .forcedClosureTimeout m block, s => reaches_of_keeps (execForcedClosureTimeout_keeps m block s rfl) rfl rfl
  | .forcedClosureRetry m block idle, s => reaches_of_keeps (execForcedClosureRetry_keeps m block idle s rfl) rfl rfl
  | .frequencyMeasurement m tap against sel value, s => reaches_of_keeps (execFrequencyMeasurement_keeps m tap against sel value s rfl) rfl rfl
  | .droopTrip m g, s => reaches_of_keeps (execDroopTrip_keeps m g s rfl) rfl rfl
  | .droopStretchEnd m g, s => reaches_of_keeps (execDroopStretchEnd_keeps m g s rfl) rfl rfl
  | .railWarningDip m rail depthMv, s => reaches_of_keeps (execRailWarningDip_keeps m rail depthMv s rfl) rfl rfl
  | .sagRecovery m rail, s => reaches_of_keeps (execSagRecovery_keeps m rail s rfl) rfl rfl
  | .railResetLevel m rail, s => reaches_of_keeps (execRailResetLevel_keeps m rail s rfl) rfl rfl
  | .pmbusAlert m words, s => reaches_of_keeps (execPmbusAlert_keeps m words s rfl) rfl rfl
  | .avsUpdate m demands, s => reaches_of_keeps (execAvsUpdate_keeps m demands s rfl) rfl rfl
  | .pmbusFailure m rail confirmedMv, s => reaches_of_keeps (execPmbusFailure_keeps m rail confirmedMv s rfl) rfl rfl
  | .temperatureReading m die t, s => reaches_of_keeps (execTemperatureReading_keeps m die t s rfl) rfl rfl
  | .shroudLinkUp m, s => reaches_of_keeps (execShroudLinkUp_keeps m s rfl) rfl rfl
  | .shroudLinkDown m, s => reaches_of_keeps (execShroudLinkDown_keeps m s rfl) rfl rfl
  | .beatSend m, s => reaches_of_keeps (execBeatSend_keeps m s rfl) rfl rfl
  | .helloRx m nonce cert tagOk, s => reaches_of_keeps (execHelloRx_keeps m nonce cert tagOk s rfl) rfl rfl
  | .shroudRekey m, s => reaches_of_keeps (execShroudRekey_keeps m s rfl) rfl rfl
  | .shroudPairing x, s => reaches_of_keeps (execShroudPairing_keeps x s rfl) rfl rfl
  | .shroudMeasurement rtt phaseNs, s => reaches_of_keeps (execShroudMeasurement_keeps rtt phaseNs s rfl) rfl rfl
  | .reserveDigestCompare n ds copy, s => reaches_of_keeps (execReserveDigestCompare_keeps n ds copy s rfl) rfl rfl
  | .reserveTrackRetry, s => reaches_of_keeps (execReserveTrackRetry_keeps s rfl) rfl rfl
  | .presenceBeaconSend, s => reaches_of_keeps (execPresenceBeaconSend_keeps s rfl) rfl rfl
  | .presenceBeaconRx m, s => reaches_of_keeps (execPresenceBeaconRx_keeps m s rfl) rfl rfl
  | .takeoverDelayExpiry, s => reaches_of_keeps (execTakeoverDelayExpiry_keeps s rfl) rfl rfl
  | .barePolesNoticeRx, s => reaches_of_keeps (execBarePolesNoticeRx_keeps s rfl) rfl rfl
  | .reserveTakeover, s => reaches_of_keeps (execReserveTakeover_keeps s rfl) rfl rfl
  | .pllLaneRelockTimeout m r, s => reaches_of_keeps (execPllLaneRelockTimeout_keeps m r s rfl) rfl rfl
  | .resetNRelease m, s => reaches_of_keeps (execResetNRelease_keeps m s rfl) rfl rfl
  | .messageWriteDone idx, s => reaches_of_keeps (execMessageWriteDone_keeps idx s rfl) rfl rfl
  | .tlAliveDead m, s => reaches_of_keeps (execTlAliveDead_keeps m s rfl) rfl rfl
  | .eyeMeasurement m l v h, s => reaches_of_keeps (execEyeMeasurement_keeps m l v h s rfl) rfl rfl

/-- Settles O4: a mask within `mayChange` leaves every other part alone. -/
theorem commandsLeaveTheRest : Obligations.CommandsLeaveTheRest := by
  unfold Obligations.CommandsLeaveTheRest
  intro c s
  obtain ⟨w, t, hx, k, hw⟩ := exec_reaches c s
  exact ⟨t, hx, k.pending, k.variant, parts_of_keeps (fun _ => testBit_of_within hw) k⟩

theorem Keeps_inv {w : Nat} {s t : State} (k : Keeps w s t) (h : s.Inv) : t.Inv := by
  obtain ⟨hhal, ha, hb⟩ := h
  exact ⟨k.halKeeps.wf hhal, k.memKeeps .a ha, k.memKeeps .b hb⟩

/-- The queue is no part of the invariant. -/
theorem Inv_pending {s : State} (h : s.Inv) (q : List Instr) : ({ s with pending := q } : State).Inv := h

/-- Settles O2: a step idles, or is a command on the state with the queue's rest. -/
theorem stepKeepsInv : Obligations.StepKeepsInv := by
  unfold Obligations.StepKeepsInv
  intro s t hinv hstep
  unfold step at hstep
  split at hstep
  next =>
    cases hstep
    exact hinv
  next c rest _ =>
    obtain ⟨w, u, hx, k, _⟩ := exec_reaches c { s with pending := rest }
    rw [hx] at hstep
    cases hstep
    exact Keeps_inv k (Inv_pending hinv rest)

end Sys2Proof.Machine

/-! # O5, O6, O7: reads answer with their records

A READ runs at once, and its fields are a function of the accepted state (R168, R183). What each refuses beside the checks
that every opcode shares is named in its statement. -/
namespace Sys2Proof.Machine
open Host

variable {i : Instr} {h : Hdr} {p : List Byte} {code : Nat}

/-- A command whose meaning is to run at once and leave the state as it is answers as a READ. -/
theorem AnswersRead_of_runNow {reach : Reach} {lengthOk : Bool} {len : State → Nat} {ok : State → Prop}
    {own : State → List Nat} {fields : State → Nat → List Byte}
    (hx : ∀ s, exec i s = .next (s.receive h code fun n s1 =>
      s1.runNow h n code lengthOk reach (own s1) (len s1) fun s2 => (s2, fields s2 n)))
    (hown : ∀ a, ok a → own a = []) : AnswersRead i h code reach lengthOk len ok fields :=
  Carries_of_runNow (own := fun a _ => own a) hx (fun a _ ⟨hp, hf, hok⟩ => ⟨hp, hf, hown a hok⟩) fun _ _ => rfl

/-- A READ with no refusal of its own. -/
theorem AnswersRead_of_runNow_all {reach : Reach} {lengthOk : Bool} {len : State → Nat} {fields : State → Nat → List Byte}
    (hx : ∀ s, exec i s = .next (s.receive h code fun n s1 =>
      s1.runNow h n code lengthOk reach [] (len s1) fun s2 => (s2, fields s2 n))) :
    AnswersRead i h code reach lengthOk len (fun _ => True) fields :=
  AnswersRead_of_runNow (own := fun _ => []) hx fun _ _ => rfl

/-- A paged READ is refused for a COUNT of zero or a reserved field alone (R184). -/
theorem pageRefusals_eq_nil {off : Nat} : pageRefusals p off = [] ↔ fld p (off + 4) 2 ≠ 0 ∧ fld p (off + 6) 2 = 0 := by
  simp [pageRefusals, refuseIf_eq_nil]

/-! ### Records of the package (R188 to R193, R200 to R206) -/

theorem certRead_answers : AnswersRead (.certRead h p) h 0x0C02 .package (p.length == 8) (fun _ => fld p 4 4)
    (fun a => fld p 0 4 + fld p 4 4 ≤ a.sec.certChain.length)
    (fun a _ => (a.sec.certChain.drop (fld p 0 4)).take (fld p 4 4)) :=
  AnswersRead_of_runNow (own := fun a => refuseIf (decide (a.sec.certChain.length < fld p 0 4 + fld p 4 4)) stBadParam)
    (fun _ => rfl) fun _ hlen => refuseIf_nil (by simpa using hlen)

theorem rigLatency_answers : AnswersRead (.rigLatency h p) h 0x0406 .package (p.length == 12) (fun _ => 8)
    (fun a => a.latencyRefusals p = []) (fun a _ => a.latencyPage h p) :=
  AnswersRead_of_runNow (own := fun a => a.latencyRefusals p) (fun _ => rfl) fun _ hown => hown

theorem paramGet_answers : AnswersRead (.paramGet h p) h 0x0502 .package (p.length == 8) (fun _ => 8)
    (fun _ => fld p 4 2 ≠ 0 ∧ fld p 6 2 = 0) (fun a _ => a.paramPage h p) :=
  AnswersRead_of_runNow (own := fun _ => pageRefusals p 0) (fun _ => rfl) fun _ hpage => pageRefusals_eq_nil.mpr hpage

/-- Settles O5: each of the reads runs at once and leaves the state as it is. -/
theorem recordsAreRead : Obligations.RecordsAreRead := by
  unfold Obligations.RecordsAreRead
  refine ⟨fun h p => ⟨?_, ?_, ?_, ?_, ?_, certRead_answers⟩, fun h p => ⟨?_, ?_, rigLatency_answers, paramGet_answers, ?_⟩⟩
  all_goals exact AnswersRead_of_runNow_all fun _ => rfl

/-! ### Pages and records of audio, video, timing and the tandem (R207, R214 to R218) -/

theorem audioStatus_answers : AnswersRead (.audioStatus h p) h 0x0602 .perMast (p.length == 12) (fun a => 16 * a.serving)
    (fun _ => fld p 0 1 ≤ 3 ∧ fld p 1 3 = 0 ∧ fld p 8 2 ≠ 0 ∧ fld p 10 2 = 0) (fun a _ => a.audioPage h p) := by
  refine AnswersRead_of_runNow (own := fun _ => refuseIf (decide (fld p 0 1 > 3) || fld p 1 3 != 0 || fld p 8 2 = 0 ||
    fld p 10 2 != 0) stBadParam) (fun _ => rfl) fun _ hok => refuseIf_nil ?_
  obtain ⟨hclass, hrsv, hcount, hrsv'⟩ := hok
  simp [hclass, hrsv, hcount, hrsv']

theorem xptStatus_answers : AnswersRead (.xptStatus h p) h 0x0703 .package (p.length == 8) (fun _ => 8)
    (fun a => Config.hasVideo a.variant = true ∧ fld p 4 2 ≠ 0 ∧ fld p 6 2 = 0)
    (fun a _ => pageBytes (fld p 0 4) (fld p 4 2) (a.fitting h 8 8) 1536 a.xptItem) := by
  refine AnswersRead_of_runNow (own := fun a => refuseIf (!Config.hasVideo a.variant) stNotPresent ++ pageRefusals p 0)
    (fun _ => rfl) fun _ hok => ?_
  obtain ⟨hvideo, hpage⟩ := hok
  rw [pageRefusals_eq_nil.mpr hpage, refuseIf_nil (by simp [hvideo])]
  rfl

theorem flowRead_answers : AnswersRead (.flowRead h p) h 0x0706 .perMast (p.length == 8) (fun a => 16 * a.serving)
    (fun _ => fld p 4 2 ≠ 0 ∧ fld p 6 2 = 0) (fun a _ => a.flowPage h p) :=
  AnswersRead_of_runNow (own := fun _ => pageRefusals p 0) (fun _ => rfl) fun _ hpage => pageRefusals_eq_nil.mpr hpage

theorem referenceStatus_answers : AnswersRead (.referenceStatus h p) h 0x0802 .perMast (p.length == 8)
    (fun a => 16 * a.serving) (fun _ => fld p 4 2 ≠ 0 ∧ fld p 6 2 = 0) (fun a _ => a.referencePage h p) :=
  AnswersRead_of_runNow (own := fun _ => pageRefusals p 0) (fun _ => rfl) fun _ hpage => pageRefusals_eq_nil.mpr hpage

/-- Settles O6: the pages are refused for what their statement names, and the records for nothing. -/
theorem mediaAndTimingReads : Obligations.MediaAndTimingReads := by
  unfold Obligations.MediaAndTimingReads
  refine ⟨fun h p => ⟨audioStatus_answers, xptStatus_answers, flowRead_answers⟩,
    fun h p => ⟨?_, referenceStatus_answers, ?_, ?_, ?_, ?_⟩⟩
  all_goals exact AnswersRead_of_runNow_all fun _ => rfl

/-! ### The host port's access to a scratch bank (R516, R538, R541, R544) -/

variable {s : State} {m : Mast} {n off : Nat}

/-- A byte of a scratch bank lies in that bank's part of the map (R538). -/
theorem busTarget_bankAddress (remap : Bool) (hn : n ≤ 15) (hoff : off < 65536) :
    busTarget remap (bankAddress n off) = some (.scratch n) := by
  have hbank : (bankAddress n off - 0x20100000) / 0x10000 = n := by simp only [bankAddress]; omega
  have hlo : 0x20100000 ≤ bankAddress n off := by simp only [bankAddress]; omega
  have hhi : bankAddress n off < 0x20100000 + 0x100000 := by simp only [bankAddress]; omega
  simp only [busTarget, hbank]
  generalize bankAddress n off = a at hlo hhi
  simp [show ¬a < 0x80000 by omega, show ¬a < 0x10000000 + 0x80000 by omega, show ¬a < 0x1FF00000 + 0x20000 by omega,
    show ¬a < 0x20000000 + 0x8000 by omega, show ¬a < 0x20008000 + 0x8000 by omega, hlo, hhi]

/-- A bank that the host owns answers the host port (R516, R544). -/
theorem busAccepts_of_hostOwns (write : Bool) (hlen : n < (s.mem.get m).banks.length) (howns : s.hostOwns m n = true)
    (hw : (s.bank m n).withdrawn = false) (hn : n ≤ 15) (hoff : off < 65536) :
    s.busAccepts m .hostPort write (bankAddress n off) = true := by
  simp only [State.hostOwns, State.bankMarched, Bool.and_eq_true, beq_iff_eq, Bool.not_eq_true'] at howns
  obtain ⟨howner, hmarch⟩ := howns
  simp only [State.busAccepts, busTarget_bankAddress _ hn hoff, busPath, State.targetAnswers, hmarch]
  simp_all [State.bank, atD, BusMaster.ownerCode]

/-- A bank access that is not refused lies within a bank that answers the host port (R221, R518). -/
theorem busAccepts_of_access (write : Bool) {k : Nat} (hacc : s.accessRefusals p = []) (hk : k < fld p 8 4)
    (hlen : fld p 1 1 < (s.mem.get (Mast.ofCode (fld p 0 1))).banks.length) :
    s.busAccepts (Mast.ofCode (fld p 0 1)) .hostPort write (bankAddress (fld p 1 1) (fld p 4 4 + k)) = true := by
  simp only [State.accessRefusals, List.append_eq_nil_iff, refuseIf_eq_nil, Bool.or_eq_false_iff, decide_eq_false_iff_not,
    Bool.not_eq_false'] at hacc
  obtain ⟨⟨⟨⟨⟨hbank, _⟩, hend⟩, _⟩, hw⟩, howns⟩ := hacc
  simp only [Config.bankBytes] at hend
  exact busAccepts_of_hostOwns write hlen howns hw (by omega) (by omega)

/-- A bank that the state does not hold has no bytes. -/
theorem bank_data_of_missing (hlen : ¬n < (s.mem.get m).banks.length) : (s.bank m n).data = [] := by
  simp [State.bank, atD, List.getElem?_eq_none (Nat.le_of_not_lt hlen), ScratchBank.reset]

/-- The bytes of a read that is not refused are those of the bank (R221). -/
theorem bankBytes_of_access (hacc : s.accessRefusals p = []) :
    s.bankBytes p = (List.range (s.readLength p)).map (fun k =>
      cellRead (s.bank (Mast.ofCode (fld p 0 1)) (fld p 1 1)).data (fld p 4 4 + k)) := by
  unfold State.bankBytes
  refine List.map_congr_left fun k hk => ?_
  have hk : k < s.readLength p := List.mem_range.mp hk
  by_cases hlen : fld p 1 1 < (s.mem.get (Mast.ofCode (fld p 0 1))).banks.length
  · refine if_pos (busAccepts_of_access false hacc ?_ hlen)
    unfold State.readLength at hk
    split at hk <;> omega
  · rw [bank_data_of_missing hlen]
    exact ite_self _

theorem grantBurst_hal (s : State) (m : Mast) (x : BusMaster) (write : Bool) (b : BusBurst) :
    (s.grantBurst m x write b).hal = s.hal :=
  Keeps_same (grantBurst_keeps m x write b (keeps_refl 4194304 s) rfl) .hal rfl

theorem bankFetch_hal (s : State) (p : List Byte) : (s.bankFetch p).hal = s.hal :=
  Keeps_same (bankFetch_keeps p (keeps_refl 4194304 s) rfl) .hal rfl

theorem bankRead_carries : Carries (.bankRead h p) h 0x0B02 (.readOf (fld p 0 1))
    (fun a n => a.Permits h n 0x0B02 (p.length == 12) ∧ a.Fits h (a.readLength p) ∧ a.accessRefusals p = []) (fun a => a.step)
    (fun a _ => a.bankFetch p)
    (fun a _ => (List.range (a.readLength p)).map (fun k =>
      cellRead (a.bank (Mast.ofCode (fld p 0 1)) (fld p 1 1)).data (fld p 4 4 + k))) := by
  intro s x hs hok
  have hbytes := bankBytes_of_access hok.2.2
  dsimp only at hbytes ⊢
  rw [← hbytes]
  exact Carries_of_runNow (own := fun a _ => a.accessRefusals p) (effect := fun a _ => a.bankFetch p)
    (fields := fun a _ => a.bankBytes p) (fun _ => rfl) (fun _ _ hok => hok) (fun a _ => by rw [bankFetch_hal]) s x hs hok

/-! ### Logs, counters, alarms, snapshots and the timing history (R215, R218, R220, R221) -/

theorem pagedRead_answers {reach : Reach} {len : State → Nat} {fields : State → List Byte}
    (hx : ∀ s, exec i s = .next (s.receive h code fun n s1 =>
      s1.runNow h n code (p.length == 8) reach (pageRefusals p 0) (len s1) fun s2 => (s2, fields s2))) :
    AnswersRead i h code reach (p.length == 8) len (fun _ => fld p 4 2 ≠ 0 ∧ fld p 6 2 = 0) (fun a _ => fields a) :=
  AnswersRead_of_runNow (own := fun _ => pageRefusals p 0) hx fun _ hpage => pageRefusals_eq_nil.mpr hpage

theorem health_carries : Carries (.health h p) h 0x0A06 .perMast
    (fun a n => a.Permits h n 0x0A06 (p.length == 0) ∧ a.Fits h (8 + 384 * a.serving)) (fun a => a.step)
    (fun a _ => { a with freeCount := a.freeCount + 4 }) (fun a _ => a.perMast a.healthRecord) :=
  Carries_of_runNow (own := fun _ _ => []) (fun _ => rfl) (fun _ _ ⟨hp, hf⟩ => ⟨hp, hf, rfl⟩) fun _ _ => rfl

theorem timingHistory_acts : ActsAtOnce (.timingHistory h p) h 0x0803 .package (p.length == 0) 8 (fun _ _ => True)
    (fun a n => a.setSeat n { a.seat n with stickyAudio := 0, stickyVideo := 0 })
    (fun a n => be 4 (a.seat n).stickyAudio ++ be 4 (a.seat n).stickyVideo) :=
  Carries_of_runNow (own := fun _ _ => []) (fun _ => rfl) (fun _ _ ⟨hp, hf, _⟩ => ⟨hp, hf, rfl⟩) fun _ _ => setSeat_length ..

/-- A row of the opcode table is the one that its code finds. -/
theorem Permits_row {a : State} {seat : Nat} {lengthOk : Bool} {row : OpRow} (hr : opRow code = some row)
    (hp : a.Permits h seat code lengthOk) : a.commonRefusals h seat row lengthOk = [] := by
  obtain ⟨r, hr', hc⟩ := hp
  rw [hr] at hr'
  cases hr'
  exact hc

/-- The state after a command is the accepted one, and what an answer or an end of a session may change of it. -/
theorem accepted_reply_only (s : State) (h : Hdr) (x : Session) (code : Nat) (r : Reply) :
    s.OnlyHalyard ((s.accepted h x).reply h x.seat code true r).closeWrapped :=
  OnlyHalyard_trans (accepted_only s h x) (OnlyHalyard_trans (reply_only ..) (closeWrapped_only _))

/-- The reply to an accepted command is the last one that its seat keeps, whatever closes after it (R158). -/
theorem accepted_reply_last {x : Session} (hs : s.Accepts h x) (code : Nat) (r : Reply) :
    (((s.accepted h x).reply h x.seat code true r).closeWrapped).lastReply x.seat = some
      { hostSeq := h.hostSeq, opcode := code, flags := 0x8000 * b01 (bit h.flags 15), status := r.status,
        effStep := r.effStep, payload := (s.accepted h x).tandemReport r.outA r.outB ++ r.fields } := by
  rw [lastReply_of_same (closeWrapped_replies _)]
  exact replyWith_lastReply _ _ _ _ _ _ (by rw [accepted_length]; exact hs.known)

theorem OnlyHalyard_step {s t : State} (h : s.OnlyHalyard t) : t.step = s.step := by rw [h.rest]

theorem snapshotRead_answers {x : Session} (hs : s.Accepts h x)
    (hp : (s.accepted h x).Permits h x.seat 0x0A05 (p.length == 12))
    (hf : (s.accepted h x).Fits h (8 + 8 * (s.accepted h x).snapBlocks)) (hcount : fld p 8 2 ≠ 0) (hrsv : fld p 10 2 = 0)
    (hepoch : (s.accepted h x).latestEpoch ≠ 0) (hsame : fld p 0 4 = (s.accepted h x).latestEpoch) :
    exec (.snapshotRead h p) s = .next (((s.accepted h x).reply h x.seat 0x0A05 true
      { status := stOk, effStep := (s.accepted h x).step, outA := (s.accepted h x).snapOutcome .a,
        outB := (s.accepted h x).snapOutcome .b,
        fields := (s.accepted h x).snapBlock h p .a ++ (s.accepted h x).snapBlock h p .b }).closeWrapped) := by
  have hown : (s.accepted h x).snapReadRefusals p = [] := by
    unfold State.snapReadRefusals
    rw [pageRefusals_eq_nil.mpr ⟨hcount, hrsv⟩, refuseIf_nil (by simp [hepoch, hsame])]
    rfl
  have hfits : (s.accepted h x).tooLarge h (8 + 8 * (s.accepted h x).snapBlocks) = [] := hf
  change execSnapshotRead h p s = _
  unfold execSnapshotRead
  rw [receive_accepts hs]
  simp only [hfits, Permits_row (row := ⟨0x0A05, .read, rAll, mWQSAM⟩) rfl hp, hown, List.append_nil, firstRefusal]

/-- Settles O7: beside the reads that leave the state as it is, BANK_READ leaves its grants, HEALTH the free values it
draws, TIMING_HISTORY the seat's sticky bits, and SNAPSHOT_READ nothing. -/
theorem recordReadsAnswer : Obligations.RecordReadsAnswer := by
  unfold Obligations.RecordReadsAnswer
  refine ⟨fun h p => ⟨?_, ?_, ?_, bankRead_carries, ?_, ?_, ?_, health_carries⟩, ?_, fun h p => timingHistory_acts⟩
  · exact pagedRead_answers fun _ => rfl
  · exact pagedRead_answers fun _ => rfl
  · exact pagedRead_answers fun _ => rfl
  · exact pagedRead_answers fun _ => rfl
  · exact AnswersRead_of_runNow_all fun _ => rfl
  · exact AnswersRead_of_runNow_all fun _ => rfl
  · intro h p s x hs a hp hf hcount hrsv hepoch hsame
    refine ⟨_, snapshotRead_answers hs hp hf hcount hrsv hepoch hsame, accepted_reply_only .., ?_⟩
    rw [accepted_reply_last hs, OnlyHalyard_step (accepted_only s h x)]

end Sys2Proof.Machine

/-! # Packets of a seat: its ledger, its sequence and its sessions (R143, R159, R163)

What a release does beside the reply or event it sends: it changes one seat, whose ledger and sequence take the packet, and
the use count of that seat's session, which it may end. While the session has room for one more sequence it does not end. -/
namespace Sys2Proof.Machine
open Host

/-! ### Sessions that age and end (R143) -/

/-- Every session of `t` is one of `s`, but for the sequences counted under its keys. -/
def SessionsWithin (s t : State) : Prop :=
  ∀ y ∈ t.hal.sessions, ∃ z ∈ s.hal.sessions, ∃ n, y = { z with devUsed := n }

variable {s t u : State}

theorem SessionsWithin_of_eq (h : t.hal.sessions = s.hal.sessions) : SessionsWithin s t :=
  fun y hy => ⟨y, h ▸ hy, y.devUsed, rfl⟩

theorem SessionsWithin_refl (s : State) : SessionsWithin s s := SessionsWithin_of_eq rfl

theorem SessionsWithin_trans (h : SessionsWithin s t) (k : SessionsWithin t u) : SessionsWithin s u := by
  intro y hy
  obtain ⟨z, hz, n, rfl⟩ := k y hy
  obtain ⟨w, hw, _, rfl⟩ := h z hz
  exact ⟨w, hw, n, rfl⟩

theorem SessionsWithin_foldl {α : Type} (f : State → α → State) (hf : ∀ s a, SessionsWithin s (f s a)) (l : List α) (s : State) :
    SessionsWithin s (l.foldl f s) := by
  induction l generalizing s with
  | nil => exact SessionsWithin_refl s
  | cons a l ih => exact SessionsWithin_trans (hf s a) (ih _)

theorem setSessions_within {l : List Session} (h : ∀ y ∈ l, ∃ z ∈ s.hal.sessions, ∃ n, y = { z with devUsed := n }) :
    SessionsWithin s (s.setSessions l) := h

/-- A count of one more sequence, on the sessions that `q` picks. -/
def counted (q : Session → Bool) (y : Session) : Session := if q y then { y with devUsed := y.devUsed + 1 } else y

theorem counted_aged (q : Session → Bool) (y : Session) : ∃ n, counted q y = { y with devUsed := n } := by
  unfold counted
  split
  · exact ⟨_, rfl⟩
  · exact ⟨y.devUsed, rfl⟩

@[simp] theorem counted_id (q : Session → Bool) (y : Session) : (counted q y).id = y.id := by
  unfold counted; split <;> rfl

theorem counted_devUsed_le (q : Session → Bool) (y : Session) : (counted q y).devUsed ≤ y.devUsed + 1 := by
  unfold counted; split <;> simp

theorem endWrapped_sessions (s : State) (x : Session) :
    (s.endWrapped x).hal.sessions = s.hal.sessions.filter (fun y => y.id != x.id) := by
  unfold State.endWrapped
  dsimp only
  split <;> rfl

theorem endWrapped_within (s : State) (x : Session) : SessionsWithin s (s.endWrapped x) := by
  intro y hy
  rw [endWrapped_sessions] at hy
  exact ⟨y, (List.mem_filter.mp hy).1, y.devUsed, rfl⟩

/-- A packet sent on a session counts under its keys, and ends it where no sequence is left (R143, R159). -/
theorem sendOn_some (s : State) (x : Session) (p : Packet) : ∃ v : State,
    v.hal.sessions = s.hal.sessions.map (counted fun y => y.id == x.id) ∧ v.hal.seats = s.hal.seats ∧
      s.sendOn (some x) p = if seqWrapLimit ≤ x.devUsed + 1 then v.endWrapped x else v := by
  refine ⟨(s.enqueue x p).setSessions (s.hal.sessions.map fun y => if y.id == x.id then { y with devUsed := y.devUsed + 1 } else y),
    rfl, ?_, ?_⟩
  · simp [State.setSessions, enqueue_hal]
  · simp [State.sendOn]

theorem sendOn_within (s : State) (ses : Option Session) (p : Packet) : SessionsWithin s (s.sendOn ses p) := by
  cases ses with
  | none => exact SessionsWithin_refl s
  | some x =>
    obtain ⟨v, hses, _, hv⟩ := sendOn_some s x p
    have hcount : SessionsWithin s v := by
      intro y hy
      rw [hses, List.mem_map] at hy
      obtain ⟨z, hz, rfl⟩ := hy
      exact ⟨z, hz, counted_aged _ z⟩
    rw [hv]
    split
    · exact SessionsWithin_trans hcount (endWrapped_within v x)
    · exact hcount

theorem release_within {seat kind opcode flags hs eff st : Nat} {p : List Byte} :
    SessionsWithin s (s.release seat kind opcode flags hs eff st p) := by
  unfold State.release
  exact sendOn_within (s.setSeat seat _) _ _

theorem eventTo_within {seat o c hs st : Nat} {f : List Byte} : SessionsWithin s (s.eventTo seat o c hs st f) := by
  unfold State.eventTo
  split
  · exact release_within
  · exact SessionsWithin_refl s

theorem setSeat_within {n : Nat} {v : SeatState} : SessionsWithin s (s.setSeat n v) := SessionsWithin_of_eq rfl

theorem replyWith_within {seat code flags hs : Nat} {a : Bool} {r : Reply} :
    SessionsWithin s (s.replyWith seat code flags hs a r) := by
  unfold State.replyWith
  dsimp only
  split
  · exact SessionsWithin_trans release_within setSeat_within
  · exact release_within

theorem reply_within {h : Hdr} {seat code : Nat} {a : Bool} {r : Reply} : SessionsWithin s (s.reply h seat code a r) :=
  replyWith_within

/-- The sessions left by a close are among those that it does not name (R155). -/
theorem closeWhere_within (s : State) (w : Session → Bool) (c : Nat) :
    SessionsWithin (s.setSessions (s.hal.sessions.filter fun x => !w x)) (s.closeWhere w c) := by
  unfold State.closeWhere
  refine SessionsWithin_foldl _ (fun s a => ?_) _ _
  split
  · exact SessionsWithin_refl s
  · exact eventTo_within

theorem closeWhere_open {w : Session → Bool} {c : Nat} {y : Session} (hy : y ∈ (s.closeWhere w c).hal.sessions) :
    ∃ z ∈ s.hal.sessions, w z = false ∧ ∃ n, y = { z with devUsed := n } := by
  obtain ⟨z, hz, hage⟩ := closeWhere_within s w c y hy
  obtain ⟨hmem, hw⟩ := List.mem_filter.mp hz
  exact ⟨z, hmem, by simpa using hw, hage⟩

theorem closeWrapped_within (s : State) : SessionsWithin s s.closeWrapped := by
  intro y hy
  obtain ⟨z, hz, _, hage⟩ := closeWhere_open hy
  exact ⟨z, hz, hage⟩

/-! ### Sessions with room for more sequences (R143) -/

/-- Every session has room for `k` more sequences. -/
def State.Room (s : State) (k : Nat) : Prop := ∀ y ∈ s.hal.sessions, y.devUsed + k < seqWrapLimit

theorem Room_mono {k n : Nat} (h : s.Room n) (hk : k ≤ n) : s.Room k := fun y hy => by have := h y hy; omega

theorem Room_of_keysLast {k : Nat} (h : s.keysLast) (hk : k ≤ s.hal.sessions.length + 64) : s.Room k :=
  fun y hy => by have := h y hy; omega

theorem Room_counted {k : Nat} {q : Session → Bool} (h : s.Room (k + 1)) (ht : t.hal.sessions = s.hal.sessions.map (counted q)) :
    t.Room k := by
  intro y hy
  rw [ht, List.mem_map] at hy
  obtain ⟨z, hz, rfl⟩ := hy
  have hroom := h z hz
  have hcount := counted_devUsed_le q z
  omega

theorem sessionOf_mem {seat : Nat} {x : Session} (h : s.sessionOf seat = some x) : x ∈ s.hal.sessions := List.mem_of_find?_eq_some h

theorem sessionOf_seat {seat : Nat} {x : Session} (h : s.sessionOf seat = some x) : x.seat = seat := by
  have hx := List.find?_some h
  simp only [Bool.and_eq_true, beq_iff_eq] at hx
  exact hx.1

/-- A packet on a session with room ends no session. -/
theorem sendOn_room {ses : Option Session} (p : Packet) (h : ∀ x, ses = some x → x.devUsed + 1 < seqWrapLimit) :
    (s.sendOn ses p).hal.seats = s.hal.seats ∧ ∃ q, (s.sendOn ses p).hal.sessions = s.hal.sessions.map (counted q) := by
  cases ses with
  | none => exact ⟨rfl, fun _ => false, (List.map_id'' (fun _ => rfl) _).symm⟩
  | some x =>
    obtain ⟨v, hses, hseats, hv⟩ := sendOn_some s x p
    rw [hv, if_neg (Nat.not_le.mpr (h x rfl))]
    exact ⟨hseats, _, hses⟩

/-! ### The seat that a packet is released to (R159, R163) -/

variable {seat kind opcode flags hostSeq eff status : Nat} {payload : List Byte}

/-- The packet that a release sends. -/
def State.released (s : State) (seat kind opcode flags hostSeq eff status : Nat) (payload : List Byte) : Packet :=
  s.sequenced (s.sessionOf seat) seat kind opcode flags hostSeq eff status payload

/-- The seat as a release leaves it while its session has room. -/
def State.enteredSeat (s : State) (seat : Nat) (p : Packet) : SeatState :=
  (s.seat seat).enter (s.sender (s.sessionOf seat)) p

theorem release_eq (s : State) (seat kind opcode flags hostSeq eff status : Nat) (payload : List Byte) :
    s.release seat kind opcode flags hostSeq eff status payload =
      (s.setSeat seat (s.enteredSeat seat (s.released seat kind opcode flags hostSeq eff status payload))).sendOn
        (s.sessionOf seat) (s.released seat kind opcode flags hostSeq eff status payload) := rfl

/-- A release while the seat's session has room (R143): the seat takes the packet, and its session counts it. -/
theorem release_room (h : s.Room 1) :
    (s.release seat kind opcode flags hostSeq eff status payload).hal.seats =
      setAt s.hal.seats seat (s.enteredSeat seat (s.released seat kind opcode flags hostSeq eff status payload)) ∧
    ∃ q, (s.release seat kind opcode flags hostSeq eff status payload).hal.sessions = s.hal.sessions.map (counted q) := by
  rw [release_eq]
  exact sendOn_room _ fun x hx => h x (sessionOf_mem hx)

theorem endWrapped_seat_ne {x : Session} {k : Nat} (hk : k ≠ x.seat) : (s.endWrapped x).seat k = s.seat k := by
  unfold State.endWrapped
  dsimp only
  split
  · rw [setSeat_seat_ne _ _ hk]; rfl
  · rfl

theorem seat_of_seats (h : t.hal.seats = s.hal.seats) (k : Nat) : t.seat k = s.seat k := by simp only [State.seat, h]

/-- A release changes no other seat. -/
theorem release_seat_ne {k : Nat} (hk : k ≠ seat) :
    (s.release seat kind opcode flags hostSeq eff status payload).seat k = s.seat k := by
  rw [release_eq]
  generalize s.released seat kind opcode flags hostSeq eff status payload = p
  have hset := setSeat_seat_ne s (s.enteredSeat seat p) hk
  rw [← hset]
  cases hses : s.sessionOf seat with
  | none => rfl
  | some x =>
    obtain ⟨v, _, hseats, hv⟩ := sendOn_some (s.setSeat seat (s.enteredSeat seat p)) x p
    rw [hv]
    split
    · rw [endWrapped_seat_ne (by rwa [sessionOf_seat hses])]
      exact seat_of_seats hseats k
    · exact seat_of_seats hseats k

theorem mem_keepLast_snoc {α : Type} {n : Nat} (l : List α) (a : α) (hn : 0 < n) : a ∈ keepLast n (l ++ [a]) :=
  List.mem_of_getLast? (keepLast_snoc n l a hn)

/-- The entry before the last stays, in a ledger of at least two. -/
theorem mem_keepLast_of_getLast {α : Type} {n : Nat} {l : List α} {a : α} (b : α) (hn : 1 < n) (hl : l.getLast? = some a) :
    a ∈ keepLast n (l ++ [b]) := by
  obtain ⟨k, rfl⟩ := List.getLast?_eq_some_iff.mp hl
  unfold keepLast
  rw [List.append_assoc, List.drop_append]
  refine List.mem_append_right _ ?_
  have hd : (k ++ ([a] ++ [b])).length - n - k.length = 0 := by simp; omega
  rw [hd]
  simp

theorem enter_ledger (st : SeatState) (m : Mast) (p : Packet) :
    (st.enter m p).ledger = keepLast Config.ledgerEntries (st.ledger ++ [ledgerEntry m p]) := by
  simp only [SeatState.enter]

theorem one_lt_ledgerEntries : 1 < Config.ledgerEntries := by unfold Config.ledgerEntries; omega

theorem enteredSeat_getLast (s : State) (seat : Nat) (p : Packet) :
    (s.enteredSeat seat p).ledger.getLast? = some (ledgerEntry (s.sender (s.sessionOf seat)) p) := by
  rw [State.enteredSeat, enter_ledger]
  exact keepLast_snoc _ _ _ (Nat.zero_lt_of_lt one_lt_ledgerEntries)

theorem endWrapped_mem_ledger {x : Session} {k : Nat} {e : LedgerEntry} (hk : k < s.hal.seats.length)
    (he : (s.seat k).ledger.getLast? = some e) : e ∈ ((s.endWrapped x).seat k).ledger := by
  by_cases hx : k = x.seat
  · subst hx
    unfold State.endWrapped
    dsimp only
    split
    · rw [setSeat_seat _ _ _ (by exact hk), enter_ledger]
      exact mem_keepLast_of_getLast _ one_lt_ledgerEntries he
    · exact List.mem_of_getLast? he
  · rw [endWrapped_seat_ne hx]
    exact List.mem_of_getLast? he

/-- A release stands in its seat's ledger (R159, R163). -/
theorem release_mem_ledger (hs : seat < s.hal.seats.length) :
    ledgerEntry (s.sender (s.sessionOf seat)) (s.released seat kind opcode flags hostSeq eff status payload) ∈
      ((s.release seat kind opcode flags hostSeq eff status payload).seat seat).ledger := by
  rw [release_eq]
  generalize s.released seat kind opcode flags hostSeq eff status payload = p
  have hseat := setSeat_seat s seat (s.enteredSeat seat p) hs
  have hlast := enteredSeat_getLast s seat p
  rw [← hseat] at hlast
  cases hses : s.sessionOf seat with
  | none => rw [hses] at hlast; exact List.mem_of_getLast? hlast
  | some x =>
    rw [hses] at hlast
    obtain ⟨v, _, hseats, hv⟩ := sendOn_some (s.setSeat seat (s.enteredSeat seat p)) x p
    rw [← seat_of_seats hseats seat] at hlast
    rw [hv]
    split
    · refine endWrapped_mem_ledger ?_ hlast
      rw [hseats, setSeat_length]
      exact hs
    · exact List.mem_of_getLast? hlast

/-- A release while the seat's session has room stands last in its ledger, under the seat's next device sequence. -/
theorem release_seat_room (hs : seat < s.hal.seats.length) (h : s.Room 1) :
    (s.release seat kind opcode flags hostSeq eff status payload).seat seat =
      s.enteredSeat seat (s.released seat kind opcode flags hostSeq eff status payload) :=
  (seat_of_seats (release_room h).1 seat).trans (setSeat_seat s seat _ hs)

/-- What a release enters in the ledger of its seat. -/
theorem release_enters (hs : seat < s.hal.seats.length) :
    ∃ e ∈ ((s.release seat kind opcode flags hostSeq eff status payload).seat seat).ledger, e.kind = kind ∧
      e.opcode = opcode ∧ e.status = status ∧ e.effStep = eff ∧ e.devSeq = (s.seat seat).nextDev ∧
      (s.Room 1 → ((s.release seat kind opcode flags hostSeq eff status payload).seat seat).ledger.getLast? = some e ∧
        ((s.release seat kind opcode flags hostSeq eff status payload).seat seat).devSeq = (s.seat seat).nextDev) := by
  refine ⟨_, release_mem_ledger hs, rfl, rfl, rfl, rfl, rfl, fun hroom => ?_⟩
  rw [release_seat_room hs hroom]
  exact ⟨enteredSeat_getLast .., rfl⟩

end Sys2Proof.Machine

/-! # O8, O11, O47: ledgers, closes and events (R155, R159, R162 to R166, R185) -/
namespace Sys2Proof.Machine
open Host

variable {s t : State} {h : Hdr} {p : List Byte} {x : Session}

theorem foldl_enqueue_only (y : Session) (l : List Packet) (s : State) : s.OnlyHalyard (l.foldl (fun acc q => acc.enqueue y q) s) :=
  OnlyHalyard_foldl _ (fun s q => enqueue_only s y q) l s

theorem foldl_enqueue_replies (y : Session) (l : List Packet) (s : State) :
    SameReplies s (l.foldl (fun acc q => acc.enqueue y q) s) :=
  SameReplies_foldl _ (fun s q => enqueue_replies s y q) l s

/-- The reply of a LEDGER_READ, which goes before the records (R165, R166). -/
def State.ledgerReply (s : State) (st : SeatState) (p : List Byte) : Reply :=
  let span (u v : Nat) : Nat := (u + 2 ^ 32 - v) % 2 ^ 32
  let held := span (fld p 0 4) st.oldestAfter < span st.nextDev st.oldestAfter
  let first := if held then fld p 0 4 else st.oldestAfter
  { status := if held ∨ (span st.nextDev st.oldestAfter = 0 ∧ fld p 0 4 = st.oldestAfter) then stOk else stLedgerGap,
    effStep := s.step, outA := s.outcome .a .package, outB := s.outcome .b .package,
    fields := be 4 st.oldestAfter ++ be 4 first ++ be 4 (span st.nextDev 1) ++ be 4 (min (fld p 4 2) (span st.nextDev first)) }

/-- A LEDGER_READ is answered, and then its records wait on the session's queue (R165). -/
theorem ledgerRead_after_reply (s : State) (h : Hdr) (seat : Nat) (p : List Byte) :
    (s.reply h seat 0x0106 true (s.ledgerReply (s.seat seat) p)).OnlyHalyard (s.ledgerRead h seat p) ∧
      SameReplies (s.reply h seat 0x0106 true (s.ledgerReply (s.seat seat) p)) (s.ledgerRead h seat p) := by
  unfold State.ledgerRead
  extract_lets st own oldest off heldCount held first last count s1
  have hreply : s1 = s.reply h seat 0x0106 true (s.ledgerReply (s.seat seat) p) := by
    simp only [s1, State.ledgerReply, held, first, last, count, off, heldCount, own, oldest, st, SeatState.nextDev,
      Bool.or_eq_true, decide_eq_true_eq, Bool.decide_and, Bool.and_eq_true]
    rfl
  rw [← hreply]
  split
  · exact ⟨OnlyHalyard_refl _, SameReplies_refl _⟩
  · exact ⟨foldl_enqueue_only .., foldl_enqueue_replies ..⟩

theorem ledgerRead_answers (hs : s.Accepts h x) (hp : (s.accepted h x).Permits h x.seat 0x0106 (p.length == 8))
    (hf : (s.accepted h x).Fits h 16) (h0 : fld p 4 2 ≠ 0) (h1 : fld p 4 2 ≤ 4096) (h2 : fld p 6 2 = 0)
    (hahead : (fld p 0 4 + 2 ^ 32 - ((s.accepted h x).seat x.seat).devSeq) % 2 ^ 32 = 0 ∨
      2 ^ 31 ≤ (fld p 0 4 + 2 ^ 32 - ((s.accepted h x).seat x.seat).devSeq) % 2 ^ 32) :
    exec (.ledgerRead h p) s = .next ((s.accepted h x).ledgerRead h x.seat p).closeWrapped := by
  have hfits : (s.accepted h x).tooLarge h 16 = [] := hf
  have hbad : (decide (fld p 4 2 = 0) || decide (fld p 4 2 > 4096) || fld p 6 2 != 0 ||
      (decide (0 < (fld p 0 4 + 2 ^ 32 - ((s.accepted h x).seat x.seat).devSeq) % 2 ^ 32) &&
        decide ((fld p 0 4 + 2 ^ 32 - ((s.accepted h x).seat x.seat).devSeq) % 2 ^ 32 < 2 ^ 31))) = false := by
    simp only [Bool.or_eq_false_iff, decide_eq_false_iff_not, bne_eq_false_iff_eq, Bool.and_eq_false_iff]
    refine ⟨⟨⟨h0, by omega⟩, h2⟩, by omega⟩
  change execLedgerRead h p s = _
  unfold execLedgerRead
  rw [receive_accepts hs]
  simp only [hfits, Permits_row (row := ⟨0x0106, .read, rAll, mWQSAML⟩) rfl hp, List.append_nil, refuseIf_nil hbad, firstRefusal]

theorem sessionEvents_acts : ActsAtOnce (.sessionEvents h p) h 0x0105 .package (p.length == 4) 4
    (fun _ _ => bit (fld p 0 2) 15 = false ∧ bit (fld p 0 2) 14 = false ∧ bit (fld p 0 2) 0 = false ∧ fld p 2 2 = 0)
    (fun a n => a.setSeat n { a.seat n with eventMask := fld p 0 2 }) (fun a n => be 2 (a.seat n).eventMask ++ zeros 2) := by
  refine Carries_of_runNow (own := fun _ _ => refuseIf (bit (fld p 0 2) 15 || bit (fld p 0 2) 14 || bit (fld p 0 2) 0 ||
    fld p 2 2 != 0) stBadParam) (fun _ => rfl) (fun _ _ ⟨hp, hf, hmask⟩ => ⟨hp, hf, refuseIf_nil ?_⟩) fun _ _ => setSeat_length ..
  obtain ⟨h15, h14, h0, hrsv⟩ := hmask
  simp [h15, h14, h0, hrsv]

/-- A SESSION_CLOSE is answered, and then the seat's sessions close (R155, R188). -/
theorem sessionClose_answers (hs : s.Accepts h x) (hp : (s.accepted h x).Permits h x.seat 0x0103 (p.length == 0)) :
    exec (.sessionClose h p) s = .next ((((s.accepted h x).done h x.seat 0x0103 (s.accepted h x).step .package []).closeWhere
      (fun y => y.seat == x.seat) 0).closeWrapped) := by
  change execSessionClose h p s = _
  unfold execSessionClose
  rw [receive_accepts hs]
  simp only [Permits_row (row := ⟨0x0103, .immediate, rAll, mWQSAML⟩) rfl hp, firstRefusal]

/-- No session that a close names is left, whatever else is released and wraps after it. -/
theorem closeWhere_closed {w : Session → Bool} {c : Nat} (hw : ∀ (y : Session) n, w { y with devUsed := n } = w y)
    (ht : SessionsWithin (s.closeWhere w c) t) : ∀ y ∈ t.hal.sessions, w y = false := by
  intro y hy
  obtain ⟨z, hz, n, rfl⟩ := ht y hy
  obtain ⟨v, _, hv, k, rfl⟩ := closeWhere_open hz
  rw [hw, hw]
  exact hv

/-- Settles O8: the ledger's bounds, one seat's mask and the close of its sessions each have a lemma of their own. -/
theorem ledgerAndSessionCommands : Obligations.LedgerAndSessionCommands := by
  unfold Obligations.LedgerAndSessionCommands
  refine ⟨?_, fun h p => ⟨sessionEvents_acts, fun s x hs hp => ?_⟩⟩
  · intro h p s x hs a st span held first hp hf h0 h1 h2 hahead
    obtain ⟨honly, hreplies⟩ := ledgerRead_after_reply a h x.seat p
    have hstep : a.step = s.step := OnlyHalyard_step (accepted_only s h x)
    refine ⟨_, ledgerRead_answers hs hp hf h0 h1 h2 hahead, ?_, ?_⟩
    · exact OnlyHalyard_trans (accepted_only s h x)
        (OnlyHalyard_trans (reply_only ..) (OnlyHalyard_trans honly (closeWrapped_only _)))
    · rw [lastReply_of_same (closeWrapped_replies _), lastReply_of_same hreplies, ← lastReply_of_same (closeWrapped_replies _),
        accepted_reply_last hs, ← hstep]
      rfl
  · have hstep : (s.accepted h x).step = s.step := OnlyHalyard_step (accepted_only s h x)
    have hknown : x.seat < (s.accepted h x).hal.seats.length := by rw [accepted_length]; exact hs.known
    refine ⟨_, sessionClose_answers hs hp, ?_, ?_, ?_⟩
    · exact OnlyHalyard_trans (accepted_only s h x)
        (OnlyHalyard_trans (done_only ..) (OnlyHalyard_trans (closeWhere_only ..) (closeWrapped_only _)))
    · rw [lastReply_of_same (closeWrapped_replies _), lastReply_of_same (closeWhere_replies ..), done_lastReply _ _ _ _ _ _ _ hknown,
        hstep]
    · intro y hy
      simpa using closeWhere_closed (w := fun y => y.seat == x.seat) (fun _ _ => rfl) (closeWrapped_within _) y hy

/-! ### Closes that end just the sessions they name (R143, R155) -/

theorem release_room_ids {seat kind opcode flags hostSeq eff status k : Nat} {payload : List Byte} (hroom : s.Room (k + 1)) :
    (s.release seat kind opcode flags hostSeq eff status payload).Room k ∧
      (s.release seat kind opcode flags hostSeq eff status payload).hal.sessions.map (fun y => y.id) =
        s.hal.sessions.map (fun y => y.id) := by
  obtain ⟨_, q, hq⟩ := release_room (s := s) (seat := seat) (kind := kind) (opcode := opcode) (flags := flags)
    (hostSeq := hostSeq) (eff := eff) (status := status) (payload := payload) (Room_mono hroom (by omega))
  exact ⟨Room_counted hroom hq, by simp [hq]⟩

theorem eventTo_room_ids {seat o c hs st k : Nat} {f : List Byte} (hroom : s.Room (k + 1)) :
    (s.eventTo seat o c hs st f).Room k ∧
      (s.eventTo seat o c hs st f).hal.sessions.map (fun y => y.id) = s.hal.sessions.map (fun y => y.id) := by
  unfold State.eventTo
  split
  · exact release_room_ids hroom
  · exact ⟨Room_mono hroom (by omega), rfl⟩

/-- One event for each of `l`: where every session has room for so many, none ends. -/
theorem foldl_room_ids {α : Type} (f : State → α → State)
    (hf : ∀ (s : State) a k, s.Room (k + 1) → (f s a).Room k ∧
      (f s a).hal.sessions.map (fun y => y.id) = s.hal.sessions.map (fun y => y.id))
    (l : List α) (s : State) (hroom : s.Room l.length) :
    (l.foldl f s).hal.sessions.map (fun y => y.id) = s.hal.sessions.map (fun y => y.id) := by
  induction l generalizing s with
  | nil => rfl
  | cons a l ih =>
    obtain ⟨hnext, hids⟩ := hf s a l.length hroom
    exact (ih _ hnext).trans hids

/-- With room for the events that it raises, a close ends just the sessions that it names (R143, R155). -/
theorem closeWhere_ids (w : Session → Bool) (c : Nat) (hroom : s.Room s.hal.sessions.length) :
    (s.closeWhere w c).hal.sessions.map (fun y => y.id) = (s.hal.sessions.filter (fun y => !w y)).map (fun y => y.id) := by
  unfold State.closeWhere
  refine foldl_room_ids _ (fun s y k hk => ?_) _ (s.setSessions (s.hal.sessions.filter fun y => !w y)) fun y hy => ?_
  · split
    · exact ⟨Room_mono hk (by omega), rfl⟩
    · exact eventTo_room_ids hk
  · have hmem : y ∈ s.hal.sessions := (List.mem_filter.mp hy).1
    have hless : (s.hal.sessions.filter w).length ≤ s.hal.sessions.length := List.length_filter_le ..
    have := hroom y hmem
    omega

/-! ### Loads that time out (R185, R263) -/

theorem dropLoad_loadOf (s : State) (g : LoadTarget) : (s.dropLoad g).loadOf g = none := by
  simp [State.dropLoad, State.loadOf, List.find?_eq_none]

theorem emptyStandby_loadOf (s : State) : s.emptyStandby.loadOf .rig = none := dropLoad_loadOf s .rig

theorem loadTimeout_drops {g : LoadTarget} {l : Load} (hl : s.loadOf g = some l) (hdue : l.lastChunk + 60 * Config.second ≤ s.now) :
    exec (.loadTimeout g) s = .next (if g = .rig then s.emptyStandby else s.dropLoad g) := by
  change execLoadTimeout g s = _
  simp only [execLoadTimeout, hl, if_neg (Nat.not_lt.mpr hdue)]

/-- Settles O11: both timeouts filter their table by one bound. -/
theorem timeoutsClose : Obligations.TimeoutsClose := by
  unfold Obligations.TimeoutsClose
  refine ⟨fun s => ⟨_, rfl, closeWhere_only .., fun y hy => ?_, fun hkeys => ?_⟩, fun g l s hl hdue => ⟨_, loadTimeout_drops hl hdue, ?_⟩⟩
  · obtain ⟨z, hz, hidle, n, rfl⟩ := closeWhere_open hy
    exact ⟨z, hz, rfl, by simpa using hidle⟩
  · rw [closeWhere_ids _ _ (Room_of_keysLast hkeys (by omega))]
    congr 2
    funext y
    simp [← decide_not]
  · by_cases hg : g = .rig
    · subst hg
      exact ⟨emptyStandby_loadOf s, fun _ => ⟨rfl, rfl, rfl⟩, fun hne => absurd rfl hne, rfl⟩
    · rw [if_neg hg]
      exact ⟨dropLoad_loadOf s g, fun hrig => absurd hrig hg, fun _ => rfl, rfl⟩

/-! ### Events (R159, R162) -/

/-- One seat's share of an event. -/
def State.eventSeat (s : State) (origin reef count code step : Nat) (fields : List Byte) (n : Nat) : State :=
  if (s.seat n).wants code then s.release n 3 code 0 0 step 0 (eventPreamble origin reef count ++ fields) else s

theorem eventFull_eq (s : State) (origin reef count code step : Nat) (fields : List Byte) :
    s.eventFull origin reef count code step fields =
      (List.range 8).foldl (fun acc n => acc.eventSeat origin reef count code step fields n) s := rfl

variable {origin reef count code step n : Nat} {fields : List Byte}

theorem eventSeat_ne {k : Nat} (hk : k ≠ n) : (s.eventSeat origin reef count code step fields n).seat k = s.seat k := by
  unfold State.eventSeat
  split
  · exact release_seat_ne hk
  · rfl

theorem eventSeat_only : s.OnlyHalyard (s.eventSeat origin reef count code step fields n) := by
  unfold State.eventSeat
  split
  · exact release_only ..
  · exact OnlyHalyard_refl s

theorem eventSeat_room {k : Nat} (hroom : s.Room (k + 1)) : (s.eventSeat origin reef count code step fields n).Room k := by
  unfold State.eventSeat
  split
  · exact (release_room_ids hroom).1
  · exact Room_mono hroom (by omega)

theorem foldl_eventSeat_ne {k : Nat} (l : List Nat) (hk : k ∉ l) (s : State) :
    (l.foldl (fun acc n => acc.eventSeat origin reef count code step fields n) s).seat k = s.seat k := by
  induction l generalizing s with
  | nil => rfl
  | cons n l ih =>
    rw [List.mem_cons, not_or] at hk
    rw [List.foldl_cons, ih hk.2, eventSeat_ne hk.1]

theorem foldl_eventSeat_only (l : List Nat) (s : State) :
    s.OnlyHalyard (l.foldl (fun acc n => acc.eventSeat origin reef count code step fields n) s) :=
  OnlyHalyard_foldl _ (fun _ _ => eventSeat_only) l s

theorem foldl_eventSeat_room {k : Nat} (l : List Nat) (s : State) (hroom : s.Room (k + l.length)) :
    (l.foldl (fun acc n => acc.eventSeat origin reef count code step fields n) s).Room k := by
  induction l generalizing s with
  | nil => exact hroom
  | cons n l ih => exact ih _ (eventSeat_room hroom)

/-- Among the seats, `n` has its turn once: the seats before it and after it leave its state alone. -/
theorem eventFull_seat (hn : n < 8) : ∃ u : State, s.OnlyHalyard u ∧ u.seat n = s.seat n ∧ (s.Room 8 → u.Room 1) ∧
    (s.eventFull origin reef count code step fields).seat n = (u.eventSeat origin reef count code step fields n).seat n := by
  obtain ⟨before, after, hrange⟩ := List.append_of_mem (List.mem_range.mpr hn)
  have hnodup : (before ++ n :: after).Nodup := hrange ▸ List.nodup_range
  have hlen : before.length + 1 ≤ 8 := by
    have := congrArg List.length hrange
    simp at this
    omega
  have hb : n ∉ before := fun hmem => (List.nodup_append.mp hnodup).2.2 n hmem n List.mem_cons_self rfl
  have ha : n ∉ after := (List.nodup_cons.mp (List.nodup_append.mp hnodup).2.1).1
  refine ⟨before.foldl (fun acc n => acc.eventSeat origin reef count code step fields n) s, foldl_eventSeat_only .., ?_, ?_, ?_⟩
  · exact foldl_eventSeat_ne before hb s
  · exact fun hroom => foldl_eventSeat_room before s (Room_mono hroom (by omega))
  · rw [eventFull_eq, hrange, List.foldl_append, List.foldl_cons, foldl_eventSeat_ne after ha]

/-- Settles O47: the other seats' shares of an event leave a seat alone, and its own is one release. -/
theorem eventsReachTheSeats : Obligations.EventsReachTheSeats := by
  unfold Obligations.EventsReachTheSeats
  intro s origin code n fields hn hlen
  obtain ⟨u, honly, hseat, hroom, hturn⟩ := eventFull_seat (s := s) (origin := origin) (reef := 0xFF) (count := 1) (code := code)
    (step := s.step) (fields := fields) hn
  rw [State.event, hturn]
  refine ⟨fun hwants => ?_, fun hwants => ?_⟩
  · rw [State.eventSeat, if_pos (by rwa [hseat])]
    obtain ⟨e, hmem, hkind, hop, _, heff, hdev, hlast⟩ := release_enters (s := u) (seat := n) (kind := 3) (opcode := code) (flags := 0)
      (hostSeq := 0) (eff := s.step) (status := 0) (payload := eventPreamble origin 0xFF 1 ++ fields) (by rw [honly.seats]; exact hlen)
    rw [hseat] at hdev hlast
    refine ⟨e, hmem, hkind, hop, heff, hdev, fun hkeys => ?_⟩
    obtain ⟨hgl, hds⟩ := hlast (hroom (Room_of_keysLast hkeys (by omega)))
    exact ⟨hds, hgl⟩
  · rw [State.eventSeat, if_neg (by rw [hseat, hwants]; exact Bool.false_ne_true), hseat]

end Sys2Proof.Machine

/-! # O10, O20: what Halyard's gate turns away (R9, R120, R139, R153, R157, R158, R169, R178, R179)

Every command of the table arrives by `receive`, which hands it to the command's own meaning once it is accepted; and every
meaning is gated: while a refusal that all opcodes share holds, it refuses the command with a status of that class or of a
class that comes before. -/
namespace Sys2Proof.Machine
open Host

variable {s t u a : State} {h : Hdr} {p : List Byte} {x : Session} {code n : Nat}

/-! ### Packets that go no further (R139, R153, R157, R158) -/

theorem discard_hal (s : State) (m : Mast) (tr : Transport) (c : Nat) : (s.discard m tr c).hal = s.hal :=
  Keeps_same (discard_keeps m tr c (keeps_refl 1088 s) rfl) .hal rfl

theorem discard_ctr (s : State) (m : Mast) (tr : Transport) (c : Nat) :
    (s.discard m tr c).ctr = (s.bump m (0x0140 + 16 * tr.code + c) 1).ctr := by
  unfold State.discard
  cases tr
  · rfl
  · dsimp only
    split <;> rfl
  · rfl

/-- A discard counts under its cause on its mast and transport (R507). -/
theorem discard_read (s : State) (m : Mast) (tr : Transport) (c : Nat) :
    ((s.discard m tr c).ct m).read (0x0140 + 16 * tr.code + c) = satAdd64 ((s.ct m).read (0x0140 + 16 * tr.code + c)) 1 := by
  rw [State.ct, discard_ctr]
  exact (congrArg (Counters.read · _) (bump_ct s m _ 1 Nat.one_ne_zero)).trans (Counters_read_bump _ _ _ _)

theorem takeInbound_ct (s : State) (h : Hdr) (m : Mast) : (s.takeInbound h).ct m = s.ct m := by
  have hctr : (s.takeInbound h).ctr = s.ctr := Keeps_same (takeInbound_keeps h (keeps_refl 64 s) rfl) .ctr rfl
  rw [State.ct, hctr]
  rfl

theorem packetDiscard_counts {c : Nat} (hv : s.md.mode ≠ .vault) (hb : s.md.mode ≠ .boot) (hp : (s.md.boot.get h.mast).phase = 0)
    (hc : s.discardCause h false = some c) :
    exec (.halyardPacketDiscard h) s = .next ((s.takeInbound h).discard h.mast h.transport c) := by
  change execHalyardPacketDiscard h s = _
  unfold execHalyardPacketDiscard
  rw [if_neg hv, if_neg (by simp [hb, hp]), hc]

/-- A packet that belongs to a session reaches `takeUp`, in the state in which the session is touched (R155). -/
theorem receive_takeUp (k : Nat → State → State) (hv : s.md.mode ≠ .vault) (hb : s.md.mode ≠ .boot)
    (hp : (s.md.boot.get h.mast).phase = 0) (hq : s.transportStopped h = false)
    (hd : (s.takeInbound h).discardCause h false = none) (hx : (s.takeInbound h).findSession h = some x) :
    s.receive h code k = ((s.takeInbound h).touch h).takeUp h code x k := by
  unfold State.receive
  rw [if_neg hv, if_neg (by simp [hb, hp]), if_neg (by simp [hq])]
  simp only [State.process, hd, hx]

/-! ### What a packet to a seat leaves of it (R157, R159, R163) -/

/-- The seat is as it was, but for the packets that it has been sent. -/
def SeatState.SentBut (st v : SeatState) : Prop := v = { st with devSeq := v.devSeq, ledger := v.ledger }

theorem SentBut_trans {a b c : SeatState} (h : a.SentBut b) (k : b.SentBut c) : a.SentBut c := by
  unfold SeatState.SentBut at *
  rw [k, h]

theorem setSeat_enter_sent (s : State) (n k : Nat) (m : Mast) (p : Packet) :
    (s.seat k).SentBut ((s.setSeat n ((s.seat n).enter m p)).seat k) := by
  by_cases hk : k = n
  · subst hk
    by_cases hlen : k < s.hal.seats.length
    · rw [setSeat_seat _ _ _ hlen]
      simp only [SeatState.SentBut, SeatState.enter]
    · rw [setSeat_seat_out _ _ hlen]
      rfl
  · rw [setSeat_seat_ne _ _ hk]
    rfl

theorem endWrapped_sent (s : State) (x : Session) (k : Nat) : (s.seat k).SentBut ((s.endWrapped x).seat k) := by
  unfold State.endWrapped
  dsimp only
  split
  · exact setSeat_enter_sent (s.setSessions _) x.seat k _ _
  · rfl

theorem sendOn_sent (s : State) (ses : Option Session) (p : Packet) (k : Nat) : (s.seat k).SentBut ((s.sendOn ses p).seat k) := by
  cases ses with
  | none => rfl
  | some x =>
    obtain ⟨v, _, hseats, hv⟩ := sendOn_some s x p
    rw [hv, ← seat_of_seats hseats k]
    split
    · exact endWrapped_sent v x k
    · rfl

theorem release_sent (s : State) (seat kind opcode flags hs eff st : Nat) (p : List Byte) (k : Nat) :
    (s.seat k).SentBut ((s.release seat kind opcode flags hs eff st p).seat k) := by
  rw [release_eq]
  exact SentBut_trans (setSeat_enter_sent s seat k _ _) (sendOn_sent (s.setSeat seat _) _ _ k)

/-- A packet is turned away, or answered as a duplicate, by one release to its session's seat or by a discard: beside Halyard's
own tables nothing has changed, and of the seat only what it has been sent. -/
structure State.TurnsAway (u t : State) (seat : Nat) : Prop where
  only : u.OnlyHalyard t
  replies : SameReplies u t
  sent : (u.seat seat).SentBut (t.seat seat)

theorem release_turnsAway (s : State) (seat kind opcode flags hs eff st : Nat) (p : List Byte) :
    s.TurnsAway (s.release seat kind opcode flags hs eff st p) seat :=
  ⟨release_only .., release_replies .., release_sent ..⟩

theorem discard_turnsAway (s : State) (m : Mast) (tr : Transport) (c seat : Nat) : s.TurnsAway (s.discard m tr c) seat :=
  ⟨discard_only .., SameReplies_of_seats (by rw [discard_hal]), by
    rw [seat_of_seats (congrArg Halyard.seats (discard_hal s m tr c))]; rfl⟩

theorem turnAway_eq_release (s : State) (h : Hdr) (seat code st : Nat) (f : List Byte) : ∃ payload,
    s.turnAway h seat code st f = s.release seat 2 code (replyFlags h) h.hostSeq (s.refusedStep h code) st payload := ⟨_, rfl⟩

theorem takeUp_turnsAway (k : Nat → State → State)
    (hno : h.seat ≠ x.seat ∨ (u.seat x.seat).classify h.hostSeq ≠ .inOrder) : u.TurnsAway (u.takeUp h code x k) x.seat := by
  unfold State.takeUp
  split
  · obtain ⟨_, hr⟩ := turnAway_eq_release u h x.seat code stBadSession []
    exact hr ▸ release_turnsAway ..
  · split
    · obtain ⟨_, hr⟩ := turnAway_eq_release u h x.seat code stSeqOutOfWindow
        (be 4 (((u.seat x.seat).lastHostSeq + 1) % 2 ^ 32))
      exact hr ▸ release_turnsAway ..
    · unfold State.answerDuplicate
      split
      · exact release_turnsAway ..
      · exact discard_turnsAway ..
    · next hseat _ hin => exact absurd hin (hno.resolve_left hseat)

/-- A duplicate whose reply is kept is answered with it (R158). -/
theorem takeUp_duplicate {r : CachedReply} (k : Nat → State → State) (hseat : h.seat = x.seat)
    (hdup : (u.seat x.seat).classify h.hostSeq = .duplicate)
    (hr : (u.seat x.seat).cached.find? (fun c => c.hostSeq == h.hostSeq) = some r) :
    u.takeUp h code x k = u.release x.seat 2 r.opcode (r.flags + 0x2000) r.hostSeq r.effStep r.status r.payload := by
  simp only [State.takeUp, hseat, ne_eq, not_true_eq_false, if_false, hdup, State.answerDuplicate, hr]

theorem takeUp_outOfWindow (k : Nat → State → State) (hseat : h.seat = x.seat)
    (hout : (u.seat x.seat).classify h.hostSeq = .outOfWindow) : ∃ payload,
    u.takeUp h code x k = u.release x.seat 2 code (replyFlags h) h.hostSeq (u.refusedStep h code) stSeqOutOfWindow payload := by
  obtain ⟨payload, hr⟩ := turnAway_eq_release u h x.seat code stSeqOutOfWindow
    (be 4 (((u.seat x.seat).lastHostSeq + 1) % 2 ^ 32))
  exact ⟨payload, by rw [← hr]; simp only [State.takeUp, hseat, ne_eq, not_true_eq_false, if_false, hout]⟩

/-- What a release enters, where a seat of `u` is that of `s` and no session is near its last sequence. -/
theorem release_enters_reply {seat opcode flags hostSeq eff st : Nat} {payload : List Byte} (hs : seat < u.hal.seats.length)
    (hseat : u.seat seat = s.seat seat) (hroom : s.keysLast → u.Room 1) :
    ∃ e ∈ ((u.release seat 2 opcode flags hostSeq eff st payload).seat seat).ledger, e.kind = 2 ∧ e.opcode = opcode ∧
      e.status = st ∧ e.devSeq = (s.seat seat).nextDev ∧
      (s.keysLast → ((u.release seat 2 opcode flags hostSeq eff st payload).seat seat).ledger.getLast? = some e) := by
  obtain ⟨e, hmem, hkind, hop, hst, _, hdev, hlast⟩ := release_enters (s := u) (seat := seat) (kind := 2) (opcode := opcode)
    (flags := flags) (hostSeq := hostSeq) (eff := eff) (status := st) (payload := payload) hs
  exact ⟨e, hmem, hkind, hop, hst, by rw [hdev, hseat], fun hk => (hlast (hroom hk)).1⟩

/-- The state in which a packet's session is touched, before its sequence is looked at. -/
theorem touched_seats (s : State) (h : Hdr) : ((s.takeInbound h).touch h).hal.seats = s.hal.seats := by
  simp only [State.touch, State.setSessions, takeInbound_hal]

theorem touched_only (s : State) (h : Hdr) : s.OnlyHalyard ((s.takeInbound h).touch h) :=
  OnlyHalyard_trans (takeInbound_only s h) (touch_only _ h)

theorem touched_room {k : Nat} (hroom : s.Room k) : ((s.takeInbound h).touch h).Room k := by
  intro y hy
  simp only [State.touch, State.setSessions, takeInbound_hal, List.mem_map] at hy
  obtain ⟨z, hz, rfl⟩ := hy
  have := hroom z hz
  split <;> exact this

/-! ### The meanings of the commands are gated (R9, R168, R174, R180) -/

/-- While a refusal that every opcode shares holds, `k` refuses the command with a status of a class no higher. -/
def Gated (h : Hdr) (code : Nat) (k : Nat → State → State) : Prop :=
  ∀ (n : Nat) (a : State) (row : OpRow), opRow code = some row → ∀ c ∈ a.commonRefusals h n row true,
    ∃ st f, k n a = a.refuse h n code st f ∧ 1 ≤ statusClass st ∧ statusClass st ≤ statusClass c

theorem mem_commonRefusals_of_length {row : OpRow} {c : Nat} (lengthOk : Bool) (hc : c ∈ a.commonRefusals h n row true) :
    c ∈ a.commonRefusals h n row lengthOk := by
  rw [commonRefusals_length]
  exact List.mem_append_left _ hc

/-- The first refusal of a list that holds `c`. -/
theorem firstRefusal_of_mem {l : List Nat} {c : Nat} (hl : Refusing l) (hc : c ∈ l) :
    ∃ st, firstRefusal l = some st ∧ 1 ≤ statusClass st ∧ statusClass st ≤ statusClass c := by
  obtain ⟨st, hst, hmem, hle⟩ := firstRefusal_min hc
  exact ⟨st, hst, hl st hmem, hle⟩

theorem runNow_gated {lengthOk : Bool} {reach : Reach} {own : State → Nat → List Nat} {len : State → Nat}
    {run : Nat → State → State → State × List Byte} (hown : ∀ a n, Refusing (own a n)) :
    Gated h code (fun n a => a.runNow h n code lengthOk reach (own a n) (len a) (run n a)) := by
  intro n a row hrow c hc
  obtain ⟨st, hst, hpos, hle⟩ := firstRefusal_of_mem (c := c)
    (l := a.tooLarge h (len a) ++ a.commonRefusals h n row lengthOk ++ own a n)
    (by simp only [refusing_append]; exact ⟨⟨tooLarge_refusing _ _ _, commonRefusals_refusing _ _ _ _ _⟩, hown a n⟩)
    (by simp [mem_commonRefusals_of_length lengthOk hc])
  exact ⟨st, [], by simp only [State.runNow, hrow, hst], hpos, hle⟩

theorem schedule_gated {lengthOk : Bool} {own : State → Nat → List Nat} {eff aux : State → Nat → Nat}
    {prep : Nat → State → State → State × List Byte} (hown : ∀ a n, Refusing (own a n)) :
    Gated h code (fun n a => a.schedule h n code p lengthOk (own a n) (eff a n) (aux a n) (prep n a)) := by
  intro n a row hrow c hc
  obtain ⟨st, hst, hpos, hle⟩ := firstRefusal_of_mem (c := c)
    (l := a.commonRefusals h n row lengthOk ++ a.schedRefusals h row ++ own a n)
    (by simp only [refusing_append]; exact ⟨⟨commonRefusals_refusing _ _ _ _ _, schedRefusals_refusing _ _ _⟩, hown a n⟩)
    (by simp [mem_commonRefusals_of_length lengthOk hc])
  exact ⟨st, [], by simp only [State.schedule, hrow, hst], hpos, hle⟩

theorem runChunk_gated {g : LoadTarget} {own : State → Nat → List Nat} {run : Nat → State → State → State × List Byte}
    (hown : ∀ a n, Refusing (own a n)) : Gated h code (fun n a => a.runChunk h n code g p (own a n) (run n a)) := by
  intro n a row hrow c hc
  obtain ⟨st, hst, hpos, hle⟩ := firstRefusal_of_mem (c := c)
    (l := a.tooLarge h 4 ++ a.commonRefusals h n row (chunkLengthOk p) ++ own a n)
    (by simp only [refusing_append]; exact ⟨⟨tooLarge_refusing _ _ _, commonRefusals_refusing _ _ _ _ _⟩, hown a n⟩)
    (by simp [mem_commonRefusals_of_length (chunkLengthOk p) hc])
  exact ⟨st, be 4 (a.received g n), by simp only [State.runChunk, hrow, Option.bind_some, hst], hpos, hle⟩

/-- A command that looks at its own list of refusals, with those of every opcode in it. -/
theorem matched_gated {row : OpRow} {l : State → Nat → List Nat} {carryOut : Nat → State → State}
    (hrow : opRow code = some row) (hl : ∀ a n, Refusing (l a n))
    (hmem : ∀ a n, ∀ c ∈ a.commonRefusals h n row true, c ∈ l a n) :
    Gated h code (fun n a => match firstRefusal (l a n) with
      | some st => a.refuse h n code st []
      | none => carryOut n a) := by
  intro n a row' hrow' c hc
  rw [hrow] at hrow'
  cases hrow'
  obtain ⟨st, hst, hpos, hle⟩ := firstRefusal_of_mem (hl a n) (hmem a n c hc)
  exact ⟨st, [], by simp only [hst], hpos, hle⟩

theorem sessionClose_gated : Gated h 0x0103 (fun n a =>
    match firstRefusal (a.commonRefusals h n ⟨0x0103, .immediate, rAll, mWQSAML⟩ (p.length == 0)) with
    | some st => a.refuse h n 0x0103 st []
    | none => (a.done h n 0x0103 a.step .package []).closeWhere (fun y => y.seat == n) 0) :=
  matched_gated (row := ⟨0x0103, .immediate, rAll, mWQSAML⟩) rfl (fun _ _ => commonRefusals_refusing _ _ _ _ _)
    fun _ _ _ hc => mem_commonRefusals_of_length _ hc

theorem ledgerRead_gated : Gated h 0x0106 (fun n a =>
    match firstRefusal (a.tooLarge h 16 ++ a.commonRefusals h n ⟨0x0106, .read, rAll, mWQSAML⟩ (p.length == 8) ++
        refuseIf (decide (fld p 4 2 = 0) || decide (fld p 4 2 > 4096) || fld p 6 2 != 0 ||
          (decide (0 < (fld p 0 4 + 2 ^ 32 - (a.seat n).devSeq) % 2 ^ 32) &&
            decide ((fld p 0 4 + 2 ^ 32 - (a.seat n).devSeq) % 2 ^ 32 < 2 ^ 31))) stBadParam) with
    | some st => a.refuse h n 0x0106 st []
    | none => a.ledgerRead h n p) := by
  refine matched_gated (row := ⟨0x0106, .read, rAll, mWQSAML⟩) rfl (fun _ _ => ?_) fun _ _ _ hc => ?_
  · simp only [refusing_append]
    exact ⟨⟨tooLarge_refusing _ _ _, commonRefusals_refusing _ _ _ _ _⟩, refusing_refuseIf (by decide)⟩
  · simp [mem_commonRefusals_of_length _ hc]

theorem snapshotRead_gated : Gated h 0x0A05 (fun n a =>
    match firstRefusal (a.tooLarge h (8 + 8 * a.snapBlocks) ++
        a.commonRefusals h n ⟨0x0A05, .read, rAll, mWQSAM⟩ (p.length == 12) ++ a.snapReadRefusals p) with
    | some st => a.refuse h n 0x0A05 st []
    | none => a.reply h n 0x0A05 true
        { status := stOk, effStep := a.step, outA := a.snapOutcome .a, outB := a.snapOutcome .b,
          fields := a.snapBlock h p .a ++ a.snapBlock h p .b }) := by
  refine matched_gated (row := ⟨0x0A05, .read, rAll, mWQSAM⟩) rfl (fun _ _ => ?_) fun _ _ _ hc => ?_
  · simp only [refusing_append]
    exact ⟨⟨tooLarge_refusing _ _ _, commonRefusals_refusing _ _ _ _ _⟩, snapReadRefusals_refusing _ _⟩
  · simp [mem_commonRefusals_of_length _ hc]

theorem bankGive_gated : Gated h 0x0B01 (fun n a =>
    match firstRefusal (a.commonRefusals h n ⟨0x0B01, .immediate, rIV, mWQSM⟩ (p.length == 4) ++ a.giveRefusals p) with
    | some st => a.refuse h n 0x0B01 st []
    | none => if (a.bank (Mast.ofCode (fld p 0 1)) (fld p 1 1)).owner = fld p 2 1 then
        a.done h n 0x0B01 a.step (.named (fld p 0 1)) [] else a.startHandover h n p) := by
  refine matched_gated (row := ⟨0x0B01, .immediate, rIV, mWQSM⟩) rfl (fun _ _ => ?_) fun _ _ _ hc => ?_
  · exact refusing_append.2 ⟨commonRefusals_refusing _ _ _ _ _, giveRefusals_refusing _ _⟩
  · simp [mem_commonRefusals_of_length _ hc]

theorem profileApply_gated {sigOk : Bool} : Gated h 0x0C05 (fun n a =>
    let own := a.profileApplyRefusals h p n sigOk
    let done := a.runNow h n 0x0C05 (p.length == 0) .package own 0 fun s2 => (s2.applyStaged n h.hostSeq, [])
    if own.isEmpty then done.installSeats (a.sec.staging.profile.map readProfile) else done) := by
  intro n a row hrow c hc
  have hcommon := mem_commonRefusals_of_length (p.length == 0) hc
  obtain ⟨st, f, hrun, hst⟩ := runNow_gated (h := h) (code := 0x0C05) (lengthOk := p.length == 0) (reach := .package)
    (own := fun a n => a.profileApplyRefusals h p n sigOk) (len := fun _ => 0)
    (run := fun n _ s2 => (s2.applyStaged n h.hostSeq, [])) (fun _ _ => profileApplyRefusals_refusing _ _ _ _ _) n a row hrow c hc
  have hown : (a.profileApplyRefusals h p n sigOk).isEmpty = false := by
    have hearly : (refuseIf (decide (a.sec.lifecycle < 2)) stBadLifecycle ++ a.commonRefusals h n row (p.length == 0)).isEmpty = false := by
      rw [List.isEmpty_eq_false_iff_exists_mem]
      exact ⟨c, List.mem_append_right _ hcommon⟩
    simp only [State.profileApplyRefusals, hrow, hearly, Bool.false_eq_true, if_false]
  refine ⟨st, f, ?_, hst⟩
  rw [← hrun]
  simp only [hown, Bool.false_eq_true, if_false]

/-- A command that comes as a Halyard packet: it is received, and its meaning is gated. -/
def Received (i : Instr) (h : Hdr) (code : Nat) : Prop :=
  ∃ k, (∀ s, exec i s = .next (s.receive h code k)) ∧ Gated h code k

/-- The meaning of each Halyard command of the table. -/
theorem exec_received (i : Instr) : (halyardOf i).elim True (fun hc => Received i hc.1 hc.2) := by
  cases i with
  | sessionClose h p => exact ⟨_, fun _ => rfl, sessionClose_gated⟩
  | sessionStatus h p => exact ⟨_, fun _ => rfl, runNow_gated fun _ _ => refusing_nil⟩
  | sessionEvents h p => exact ⟨_, fun _ => rfl, runNow_gated fun _ _ => refusing_refuseIf (by decide)⟩
  | ledgerRead h p => exact ⟨_, fun _ => rfl, ledgerRead_gated⟩
  | identGet h p => exact ⟨_, fun _ => rfl, runNow_gated fun _ _ => refusing_nil⟩
  | capsGet h p => exact ⟨_, fun _ => rfl, runNow_gated fun _ _ => refusing_nil⟩
  | lockoutRecordGet h p => exact ⟨_, fun _ => rfl, runNow_gated fun _ _ => refusing_nil⟩
  | modeGet h p => exact ⟨_, fun _ => rfl, runNow_gated fun _ _ => refusing_nil⟩
  | modeSet h p => exact ⟨_, fun _ => rfl, schedule_gated fun _ _ => modeRefusals_refusing _ _ _⟩
  | reset h p => exact ⟨_, fun _ => rfl, schedule_gated fun _ _ => resetRefusals_refusing _ _⟩
  | rigLoad h p => exact ⟨_, fun _ => rfl, runChunk_gated fun _ _ => rigLoadRefusals_refusing _ _ _⟩
  | rigVerify h p => exact ⟨_, fun _ => rfl, runNow_gated fun _ _ => refusing_refuseIf (by decide)⟩
  | tack h p => exact ⟨_, fun _ => rfl, schedule_gated fun _ _ => tackRefusals_refusing _ _ _ _⟩
  | rigDiscard h p => exact ⟨_, fun _ => rfl, runNow_gated fun _ _ => refusing_refuseIf (by decide)⟩
  | rigStatus h p => exact ⟨_, fun _ => rfl, runNow_gated fun _ _ => refusing_nil⟩
  | rigLatency h p => exact ⟨_, fun _ => rfl, runNow_gated fun _ _ => latencyRefusals_refusing _ _⟩
  | paramSet h p => exact ⟨_, fun _ => rfl, schedule_gated fun _ _ => paramSetRefusals_refusing _ _ _ _⟩
  | paramGet h p => exact ⟨_, fun _ => rfl, runNow_gated fun _ _ => refusing_refuseIf (by decide)⟩
  | sceneRecall h p => exact ⟨_, fun _ => rfl, schedule_gated fun _ _ => sceneRefusals_refusing _ _ _ _⟩
  | rampDefaultSet h p => exact ⟨_, fun _ => rfl, schedule_gated fun _ _ => refusing_refuseIf (by decide)⟩
  | rampStatus h p => exact ⟨_, fun _ => rfl, runNow_gated fun _ _ => refusing_nil⟩
  | aesConfig h p => exact ⟨_, fun _ => rfl, schedule_gated fun _ _ => aesRefusals_refusing _ _⟩
  | audioStatus h p => exact ⟨_, fun _ => rfl, runNow_gated fun _ _ => refusing_refuseIf (by decide)⟩
  | commonStart h p => exact ⟨_, fun _ => rfl, schedule_gated fun _ _ => commonStartRefusals_refusing _ _⟩
  | streamRxSet h p => exact ⟨_, fun _ => rfl, schedule_gated fun _ _ => streamRxRefusals_refusing _ _⟩
  | streamTxSet h p => exact ⟨_, fun _ => rfl, schedule_gated fun _ _ => streamTxRefusals_refusing _ _⟩
  | patchSet h p => exact ⟨_, fun _ => rfl, schedule_gated fun _ _ => patchRefusals_refusing _ _ _⟩
  | hostAudioSet h p => exact ⟨_, fun _ => rfl, schedule_gated fun _ _ => hostAudioRefusals_refusing _ _ _⟩
  | sdiAudioSet h p => exact ⟨_, fun _ => rfl, schedule_gated fun _ _ => sdiAudioRefusals_refusing _ _⟩
  | sidetoneSet h p => exact ⟨_, fun _ => rfl, schedule_gated fun _ _ => sidetoneRefusals_refusing _ _⟩
  | xptSwitch h p => exact ⟨_, fun _ => rfl, schedule_gated fun _ _ => xptRefusals_refusing _ _ _⟩
  | xptSalvo h p => exact ⟨_, fun _ => rfl, schedule_gated fun _ _ => xptRefusals_refusing _ _ _⟩
  | xptStatus h p => exact ⟨_, fun _ => rfl, runNow_gated fun _ _ => refusing_append.2 ⟨refusing_refuseIf (by decide), refusing_refuseIf (by decide)⟩⟩
  | flowRxSet h p => exact ⟨_, fun _ => rfl, schedule_gated fun _ _ => flowRxRefusals_refusing _ _⟩
  | flowTxSet h p => exact ⟨_, fun _ => rfl, schedule_gated fun _ _ => flowTxRefusals_refusing _ _⟩
  | flowRead h p => exact ⟨_, fun _ => rfl, runNow_gated fun _ _ => refusing_refuseIf (by decide)⟩
  | timebaseStatus h p => exact ⟨_, fun _ => rfl, runNow_gated fun _ _ => refusing_nil⟩
  | referenceStatus h p => exact ⟨_, fun _ => rfl, runNow_gated fun _ _ => refusing_refuseIf (by decide)⟩
  | timingHistory h p => exact ⟨_, fun _ => rfl, runNow_gated fun _ _ => refusing_nil⟩
  | ptpStatus h p => exact ⟨_, fun _ => rfl, runNow_gated fun _ _ => refusing_nil⟩
  | realign h p => exact ⟨_, fun _ => rfl, schedule_gated fun _ _ => realignRefusals_refusing _ _ _⟩
  | tandemStatus h p => exact ⟨_, fun _ => rfl, runNow_gated fun _ _ => refusing_nil⟩
  | tandemSwap h p => exact ⟨_, fun _ => rfl, schedule_gated fun _ _ => refusing_refuseIf (by decide)⟩
  | digestStatus h p => exact ⟨_, fun _ => rfl, runNow_gated fun _ _ => refusing_nil⟩
  | shroudStatus h p => exact ⟨_, fun _ => rfl, runNow_gated fun _ _ => refusing_nil⟩
  | faultLogRead h p => exact ⟨_, fun _ => rfl, runNow_gated fun _ _ => pageRefusals_refusing _ _⟩
  | faultAck h p => exact ⟨_, fun _ => rfl, runNow_gated fun _ _ => ackRefusals_refusing _ _⟩
  | counterRead h p => exact ⟨_, fun _ => rfl, runNow_gated fun _ _ => pageRefusals_refusing _ _⟩
  | snapshot h p => exact ⟨_, fun _ => rfl, schedule_gated fun _ _ => refusing_refuseIf (by decide)⟩
  | snapshotRead h p => exact ⟨_, fun _ => rfl, snapshotRead_gated⟩
  | health h p => exact ⟨_, fun _ => rfl, runNow_gated fun _ _ => refusing_nil⟩
  | bankGive h p => exact ⟨_, fun _ => rfl, bankGive_gated⟩
  | bankRead h p => exact ⟨_, fun _ => rfl, runNow_gated fun _ _ => accessRefusals_refusing _ _⟩
  | bankWrite h p => exact ⟨_, fun _ => rfl, runNow_gated fun _ _ => refusing_append.2 ⟨mastRefusals_refusing _ _ _, accessRefusals_refusing _ _⟩⟩
  | marchRun h p => exact ⟨_, fun _ => rfl, runNow_gated fun _ _ => marchRunRefusals_refusing _ _⟩
  | loopbackSet h p => exact ⟨_, fun _ => rfl, runNow_gated fun _ _ => loopbackRefusals_refusing _ _⟩
  | testRouteSet h p => exact ⟨_, fun _ => rfl, schedule_gated fun _ _ => testRouteRefusals_refusing _ _⟩
  | repairMapRead h p => exact ⟨_, fun _ => rfl, runNow_gated fun _ _ => pageRefusals_refusing _ _⟩
  | lifecycleGet h p => exact ⟨_, fun _ => rfl, runNow_gated fun _ _ => refusing_nil⟩
  | certRead h p => exact ⟨_, fun _ => rfl, runNow_gated fun _ _ => refusing_refuseIf (by decide)⟩
  | ownerEnrol h p sigOk => exact ⟨_, fun _ => rfl, runNow_gated fun _ _ => refusing_append.2 ⟨refusing_append.2 ⟨refusing_refuseIf (by decide), refusing_refuseIf (by decide)⟩,
        refusing_refuseIf (by decide)⟩⟩
  | imageLoad h p => exact ⟨_, fun _ => rfl, runChunk_gated fun _ _ => refusing_append.2 ⟨refusing_refuseIf (by decide), chunkRefusals_refusing _ _ _ _ _⟩⟩
  | profileApply h p sigOk => exact ⟨_, fun _ => rfl, profileApply_gated⟩
  | firmwareApply h p sigOk => exact ⟨_, fun _ => rfl, runNow_gated fun _ _ => firmwareRefusals_refusing _ _⟩
  | lifecycleSet h p sigOk => exact ⟨_, fun _ => rfl, runNow_gated fun _ _ => lifecycleRefusals_refusing _ _ _ _⟩
  | keyProvision h p key unwrapOk => exact ⟨_, fun _ => rfl, runNow_gated fun _ _ => keyRefusals_refusing _ _ _⟩
  | rtcSet h p => exact ⟨_, fun _ => rfl, runNow_gated fun _ _ => refusing_nil⟩
  | alarmActivate h p => exact ⟨_, fun _ => rfl, schedule_gated fun _ _ => activateRefusals_refusing _ _ _⟩
  | alarmClear h p => exact ⟨_, fun _ => rfl, schedule_gated fun _ _ => clearRefusals_refusing _ _⟩
  | alarmStatus h p => exact ⟨_, fun _ => rfl, runNow_gated fun _ _ => pageRefusals_refusing _ _⟩
  | messageLoad h p sigOk => exact ⟨_, fun _ => rfl, runChunk_gated fun _ _ => messageRefusals_refusing _ _ _ _⟩
  | messageList h p => exact ⟨_, fun _ => rfl, runNow_gated fun _ _ => refusing_nil⟩
  | alarmInputStatus h p => exact ⟨_, fun _ => rfl, runNow_gated fun _ _ => refusing_nil⟩
  | fallbackTest h p => exact ⟨_, fun _ => rfl, runNow_gated fun _ _ => refusing_append.2 ⟨mastRefusals_refusing _ _ _, refusing_refuseIf (by decide)⟩⟩
  | _ => trivial

theorem received_of_halyardOf {i : Instr} (hi : halyardOf i = some (h, code)) : Received i h code := by
  have hr := exec_received i
  rw [hi] at hr
  exact hr

/-! ### The statements -/

/-- Settles O10: what is discarded, unknown or out of order reaches no meaning. -/
theorem packetsAreGuarded : Obligations.PacketsAreGuarded := by
  unfold Obligations.PacketsAreGuarded
  refine ⟨fun h s c hv hb hp hc => ?_, fun h code p s x hs hno => ?_, ?_⟩
  · refine ⟨_, packetDiscard_counts hv hb hp hc, OnlyHalyard_trans (takeInbound_only s h) (discard_only ..), ?_, ?_⟩
    · rw [discard_hal, takeInbound_hal]
    · rw [discard_read, takeInbound_ct]
  · have hx : exec (.unknownOpcode h code p) s = .next ((s.accepted h x).refuse h x.seat code stBadOpcode []).closeWrapped := by
      change execUnknownOpcode h code p s = _
      simp only [execUnknownOpcode, hno, receive_accepts hs]
    refine ⟨_, hx, accepted_reply_only .., ?_⟩
    rw [State.refuse, accepted_reply_last hs]
    rfl
  · intro i h code s x hi hv hb hp hq hd hx hlen st hno
    obtain ⟨k, hexec, _⟩ := received_of_halyardOf hi
    have hseats : ((s.takeInbound h).touch h).seat x.seat = s.seat x.seat := seat_of_seats (touched_seats s h) _
    have hlen' : x.seat < ((s.takeInbound h).touch h).hal.seats.length := by rw [touched_seats]; exact hlen
    have hroom (hk : s.keysLast) : ((s.takeInbound h).touch h).Room 1 := touched_room (Room_of_keysLast hk (by omega))
    have haway := takeUp_turnsAway (code := code) k (u := (s.takeInbound h).touch h) (by rwa [hseats])
    have hsent := haway.sent
    rw [hseats] at hsent
    refine ⟨_, (hexec s).trans (congrArg _ (receive_takeUp k hv hb hp hq hd hx)), OnlyHalyard_trans (touched_only s h) haway.only,
      ?_, ?_, ?_, fun r hseat hdup hr => ?_, fun hseat hout => ?_⟩
    · rw [lastReply_of_same haway.replies, State.lastReply, hseats]
      rfl
    · rw [hsent]
    · rw [hsent]
    · rw [takeUp_duplicate k hseat (by rwa [hseats]) (by rwa [hseats])]
      exact release_enters_reply hlen' hseats hroom
    · obtain ⟨payload, ht⟩ := takeUp_outOfWindow (code := code) k hseat (by rwa [hseats])
      rw [ht]
      exact release_enters_reply hlen' hseats hroom

/-- A role or mode that does not permit a command is among the refusals that every opcode shares (R120, R153, R169). -/
theorem denied_mem_commonRefusals {row : OpRow} (hno : row.roles.contains (a.seat n).role = false ∨ row.modes.contains a.md.mode = false) :
    ∃ c ∈ a.commonRefusals h n row true, statusClass c ≤ 4 ∧ (row.roles.contains (a.seat n).role = false → statusClass c ≤ 3) := by
  by_cases hrole : row.roles.contains (a.seat n).role = false
  · have hnot : (a.seat n).role ∉ row.roles := by simpa using hrole
    exact ⟨stRoleDenied, by simp [State.commonRefusals, refuseIf, hnot], by decide, fun _ => by decide⟩
  · have hnot : a.md.mode ∉ row.modes := by simpa using hno.resolve_left hrole
    refine ⟨if a.md.mode = .alarm then stAlarmActive else stBadMode, by simp [State.commonRefusals, refuseIf, hnot], ?_,
      fun hr => absurd hr hrole⟩
    split <;> decide

/-- Settles O20: every meaning is gated, and the refusals that every opcode shares hold those of roles and modes. -/
theorem privilegeIsEnforced : Obligations.PrivilegeIsEnforced := by
  unfold Obligations.PrivilegeIsEnforced
  intro i h code row s x hi hrow hs role mode hno
  obtain ⟨k, hexec, hgated⟩ := received_of_halyardOf hi
  have hmd : (s.accepted h x).md = s.md := OnlyHalyard_md (accepted_only s h x)
  obtain ⟨c, hc, hle, hrole⟩ := denied_mem_commonRefusals (a := s.accepted h x) (h := h) (n := x.seat) (row := row) (by rwa [hmd])
  obtain ⟨st, f, hk, hpos, hst⟩ := hgated x.seat (s.accepted h x) row hrow c hc
  obtain ⟨honly, r, hlast, hseq, hop, hstatus⟩ := refuse_closed (s := s.accepted h x) (h := h) (code := code) (st := st) (f := f)
    (by rw [accepted_length]; exact hs.known)
  refine ⟨_, r, (hexec s).trans (congrArg _ ((receive_accepts hs code k).trans (congrArg _ hk))),
    OnlyHalyard_trans (accepted_only s h x) honly, ?_⟩
  exact ⟨hlast, hseq, hop, hstatus ▸ hpos, hstatus ▸ Nat.le_trans hst hle, fun hr => hstatus ▸ Nat.le_trans hst (hrole hr)⟩

end Sys2Proof.Machine

/-! # O12, O13: the scheduled commands are queued for their effective step (R60, R168 to R171)

Each of them goes through `schedule`, and `Carries_of_schedule` says what that does once nothing refuses it. What differs is
what the acceptance does at once: a default ramp stands (R634), a tack plan waits (R267), an EPOCH is taken (R508), and a
crosspoint entry takes its place at its output (R369). -/
namespace Sys2Proof.Machine
open Host Sys2Proof

variable {s t : State}

theorem refuseIf_not_eq_nil {b : Bool} {st : Nat} (h : b = true) : refuseIf (!b) st = [] := by simp [refuseIf_nil, h]

theorem placeSwitch_seats (code seat hostSeq eff : Nat) (p : List Byte) :
    (s.placeSwitch code seat hostSeq eff p).hal.seats.length = s.hal.seats.length :=
  (placeSwitch_keeps code seat hostSeq eff p (keeps_refl 33620064 s) rfl).halKeeps.seats

/-- What a scheduled command does at once may look at the state it is accepted in, which is the state it acts on (R60). -/
theorem queuesUp_of_schedule {i : Instr} {h : Hdr} {code : Nat} {p : List Byte} {lengthOk : Bool} {own : State → Nat → List Nat}
    {ok : State → Nat → Prop} {eff aux : State → Nat} {prep : State → Nat → State} {fields : State → Nat → List Byte}
    {run : State → Nat → State → State × List Byte}
    (hx : ∀ s, exec i s = .next (s.receive h code fun n s1 =>
      s1.schedule h n code p lengthOk (own s1 n) (eff s1) (aux s1) (run s1 n)))
    (hok : ∀ a n, ok a n → own a n = [] ∧ run a n a = (prep a n, fields a n))
    (hlen : ∀ a n, (prep a n).hal.seats.length = a.hal.seats.length) :
    QueuesUp i h p code lengthOk ok eff aux prep fields := by
  intro s x hacc ⟨hperm, hsched, hyes⟩
  obtain ⟨hown, hrun⟩ := hok _ _ hyes
  refine ⟨_, hx s, ?_⟩
  rw [receive_accepts hacc, schedule_permitted _ hperm hsched hown, hrun]
  exact answerQueued_closed (by
    show x.seat < (prep (s.accepted h x) x.seat).hal.seats.length
    rw [hlen, accepted_length]; exact hacc.known)

/-- A RAMP_DEFAULT_SET stands from its acceptance (R634). -/
theorem rampDefaultSet_queuesUp (h : Hdr) (p : List Byte) :
    QueuesUp (.rampDefaultSet h p) h p 0x0504 (p.length == 4) (fun _ _ => 1 ≤ fld p 0 2 ∧ fld p 0 2 ≤ 2000 ∧ fld p 2 2 = 0)
      (fun a => a.effectiveStep h) (fun _ => fld p 0 2)
      (fun a _ => { a with hal := { a.hal with rampDefaults := a.hal.rampDefaults ++
        [{ effStep := a.effectiveStep h, order := a.hal.nextOrder, ms := fld p 0 2 }] } }) (fun _ _ => []) := by
  refine queuesUp_of_schedule (fun _ => rfl) (fun a n ⟨hlow, hhigh, hrsv⟩ => ⟨?_, rfl⟩) (fun _ _ => rfl)
  simp only [refuseIf_eq_nil, Bool.or_eq_false_iff, decide_eq_false_iff_not, bne_eq_false_iff_eq]
  omega

/-- A TACK carries the plan that its step allows: the standby slot waits for it, and the reply gives KIND and the duration
(R198, R267). -/
theorem tack_queuesUp (h : Hdr) (p : List Byte) (plan : State → Nat → TackPlan) :
    QueuesUp (.tack h p) h p 0x0403 (p.length == 8)
      (fun a n => a.tackRefusals h p n = [] ∧ a.planFor h p n = some (plan a n)) (fun a => a.effectiveStep h)
      (fun a => a.tackMs h p) (fun a n => { a with rigs := { a.rigs with state := .tackPending, plan := some (plan a n) } })
      (fun a n => be 1 (plan a n).kind ++ zeros 3 ++ be 4 (plan a n).duration) :=
  queuesUp_of_schedule (fun _ => rfl) (fun _ _ ⟨hown, hplan⟩ => ⟨hown, by rw [hplan]; rfl⟩) (fun _ _ => rfl)

/-- A SNAPSHOT takes the next EPOCH and waits for its step, where no other one waits (R220, R508). -/
theorem snapshot_queuesUp (h : Hdr) (p : List Byte) :
    QueuesUp (.snapshot h p) h p 0x0A04 (p.length == 0) (fun a _ => a.snap.pendingAt = none) (fun a => a.effectiveStep h)
      (fun a => a.nextEpoch)
      (fun a _ => { a with snap := { a.snap with epoch := (a.snap.epoch + 1) % 2 ^ 32, pendingAt := some (a.effectiveStep h) } })
      (fun a _ => be 4 ((a.snap.epoch + 1) % 2 ^ 32)) :=
  queuesUp_of_schedule (fun _ => rfl) (fun _ _ hnone => ⟨by simp [refuseIf_nil, hnone], rfl⟩) (fun _ _ => rfl)

/-- Settles O12: the three commands whose acceptance acts at once have their own lemmas; the others only wait. -/
theorem controlCommands : Obligations.ControlCommands := by
  unfold Obligations.ControlCommands
  refine ⟨fun h p => ⟨modeSet_queuesUp h p, ?reset, ?param, ?scene, rampDefaultSet_queuesUp h p⟩,
    fun h p => ⟨tack_queuesUp h p, snapshot_queuesUp h p⟩⟩
  case reset => exact Carries_of_schedule (fun _ => rfl) (fun _ _ h => h) (fun _ _ => rfl)
  case param => exact Carries_of_schedule (fun _ => rfl) (fun _ _ h => h) (fun _ _ => rfl)
  case scene => exact Carries_of_schedule (fun _ => rfl) (fun _ _ h => h) (fun _ _ => rfl)

/-- Settles O13: none of these does more at its acceptance than wait, but the crosspoint commands, which take their place. -/
theorem audioAndSystemCommands : Obligations.AudioAndSystemCommands := by
  unfold Obligations.AudioAndSystemCommands
  refine ⟨fun h p => ⟨?aes, ?start, ?srx, ?stx, ?patch, ?host, ?sdi, ?side⟩,
    fun h p => ⟨?frx, ?ftx, ?switch, ?salvo, ?realign, ?swap, ?route, ?act, ?clear⟩⟩
  case aes => exact Carries_of_schedule (fun _ => rfl) (fun _ _ h => h) (fun _ _ => rfl)
  case start => exact Carries_of_schedule (fun _ => rfl) (fun _ _ h => h) (fun _ _ => rfl)
  case srx => exact Carries_of_schedule (fun _ => rfl) (fun _ _ h => h) (fun _ _ => rfl)
  case stx => exact Carries_of_schedule (fun _ => rfl) (fun _ _ h => h) (fun _ _ => rfl)
  case patch => exact Carries_of_schedule (fun _ => rfl) (fun _ _ h => h) (fun _ _ => rfl)
  case host => exact Carries_of_schedule (fun _ => rfl) (fun _ _ h => h) (fun _ _ => rfl)
  case sdi => exact Carries_of_schedule (fun _ => rfl) (fun _ _ h => h) (fun _ _ => rfl)
  case side => exact Carries_of_schedule (fun _ => rfl) (fun _ _ h => h) (fun _ _ => rfl)
  case frx => exact Carries_of_schedule (fun _ => rfl) (fun _ _ h => h) (fun _ _ => rfl)
  case ftx => exact Carries_of_schedule (fun _ => rfl) (fun _ _ h => h) (fun _ _ => rfl)
  case realign => exact Carries_of_schedule (fun _ => rfl) (fun _ _ h => h) (fun _ _ => rfl)
  case route => exact Carries_of_schedule (fun _ => rfl) (fun _ _ h => h) (fun _ _ => rfl)
  case act => exact Carries_of_schedule (fun _ => rfl) (fun _ _ h => h) (fun _ _ => rfl)
  case clear => exact Carries_of_schedule (fun _ => rfl) (fun _ _ h => h) (fun _ _ => rfl)
  case swap => exact Carries_of_schedule (fun _ => rfl) (fun _ _ h => refuseIf_not_eq_nil h) (fun _ _ => rfl)
  case switch => exact queuesUp_of_schedule (fun _ => rfl) (fun _ _ h => ⟨h, rfl⟩) (fun _ _ => placeSwitch_seats ..)
  case salvo => exact queuesUp_of_schedule (fun _ => rfl) (fun _ _ h => ⟨h, rfl⟩) (fun _ _ => placeSwitch_seats ..)

end Sys2Proof.Machine

/-! # O14: chunks are staged, and RIG_VERIFY starts a verification (R185, R196, R197, R222, R225)

A chunk is refused by what refuses every command, by its own reasons, or not at all (`runChunk`); nothing else lies between
it and its staging. -/
namespace Sys2Proof.Machine
open Host Sys2Proof

variable {s t : State}

/-- A chunk that nothing refuses is staged as its command says (R185, R180). -/
theorem runChunk_permitted {h : Hdr} {seat code : Nat} {g : LoadTarget} {p : List Byte} {own : List Nat}
    (run : State → State × List Byte) (hp : s.Permits h seat code (chunkLengthOk p)) (hf : s.Fits h 4) (ho : own = []) :
    s.runChunk h seat code g p own run = (run s).1.done h seat code s.step .package (run s).2 := by
  have hnow := runNow_permitted (reach := .package) run hp hf ho
  obtain ⟨row, hrow, hcommon⟩ := hp
  unfold State.Fits at hf
  rw [← hnow]
  simp only [State.runChunk, hrow, Option.bind_some, hf, hcommon, ho, List.append_nil, firstRefusal]

/-- A command that stages a chunk acts at once. -/
theorem ActsAtOnce_of_runChunk {i : Instr} {h : Hdr} {code : Nat} {g : LoadTarget} {p : List Byte} {own : State → Nat → List Nat}
    {ok : State → Nat → Prop} {effect : State → Nat → State} {fields : State → Nat → List Byte}
    (hx : ∀ s, exec i s = .next (s.receive h code fun n s1 =>
      s1.runChunk h n code g p (own s1 n) fun s2 => (effect s2 n, fields s2 n)))
    (hok : ∀ a n, ok a n → own a n = []) (hlen : ∀ a n, (effect a n).hal.seats.length = a.hal.seats.length) :
    ActsAtOnce i h code .package (chunkLengthOk p) 4 ok effect fields := by
  intro s x hacc ⟨hperm, hfits, hown⟩
  refine ⟨_, hx s, ?_⟩
  rw [receive_accepts hacc, runChunk_permitted _ hperm hfits (hok _ _ hown)]
  exact done_closed (by rw [hlen, accepted_length]; exact hacc.known)

theorem loadMessage_seats (n : Nat) (p : List Byte) : (s.loadMessage n p).1.hal.seats = s.hal.seats := by
  simp only [State.loadMessage]
  split
  · rfl
  · rfl

theorem storeChunk_alarm (g : LoadTarget) (n : Nat) (p : List Byte) : (s.storeChunk g n p).1.alarm = s.alarm := rfl

/-- At LAST the image stands in the staging area of its kind (R222). -/
theorem loadImage_staging (n : Nat) (p : List Byte) (hlast : bit (fld p 8 1) 1 = true) :
    (s.loadImage n p).1.sec.staging =
      s.sec.staging.put (fld p 9 1) (some (s.storeChunk (.image (fld p 9 1)) n p).2) := by
  simp only [State.loadImage, hlast, if_true]
  rfl

theorem message_setMessage {i : Nat} {x : Message} (h : i < s.alarm.messages.length) : (s.setMessage i x).message i = x := by
  simp [State.message, State.setMessage, atD, setAt, h]

/-- At LAST the message takes the place of its index (R225, R577). -/
theorem loadMessage_message (n : Nat) (p : List Byte) (hlast : bit (fld p 8 1) 1 = true)
    (hi : fld p 9 1 < s.alarm.messages.length) :
    ((s.loadMessage n p).1.message (fld p 9 1)).samples = fld (s.storeChunk (.message (fld p 9 1)) n p).2 4 4 ∧
      ((s.loadMessage n p).1.message (fld p 9 1)).writing = true := by
  simp only [State.loadMessage, hlast, if_true]
  rw [message_setMessage (by rw [storeChunk_alarm]; exact hi)]
  exact ⟨rfl, rfl⟩

/-- Settles O14: chunk by chunk, and what stands at LAST. -/
theorem loadsAct : Obligations.LoadsAct := by
  unfold Obligations.LoadsAct
  refine ⟨fun h p => ⟨?rig, ?verify⟩, fun h p sigOk => ⟨?image, ?message, fun a n hlast => ⟨?fw, ?profile, ?msg⟩⟩⟩
  case rig => exact ActsAtOnce_of_runChunk (fun _ => rfl) (fun _ _ h => h) (fun _ _ => rfl)
  case verify =>
    exact Carries_of_runNow (fun _ => rfl)
      (fun a n ⟨hperm, hfits, hloaded⟩ => ⟨hperm, hfits, by simp [refuseIf_nil, hloaded]⟩) (fun _ _ => rfl)
  case image =>
    refine ActsAtOnce_of_runChunk (fun _ => rfl) (fun a n ⟨hkind, hown⟩ => ?_) (fun _ _ => rfl)
    simp [refuseIf_nil, hown, Nat.not_lt.mpr hkind]
  case message => exact ActsAtOnce_of_runChunk (fun _ => rfl) (fun _ _ h => h) (fun _ _ => by rw [loadMessage_seats])
  case fw => intro hk; rw [loadImage_staging n p hlast, hk]; rfl
  case profile => intro hk; rw [loadImage_staging n p hlast, hk]; rfl
  case msg => exact loadMessage_message n p hlast

end Sys2Proof.Machine

/-! # O16: acknowledgements, marches, loopbacks and fallback tests act at once (R219, R221, R225, R496, R526) -/
namespace Sys2Proof.Machine
open Host Sys2Proof

variable {s t : State}

/-- A fold over what is named once each acts once on the part that belongs to one of them. -/
theorem foldl_once {α β γ : Type} {f : β → α → β} {part : β → γ} {act : γ → γ} {m : α}
    (hself : ∀ b, part (f b m) = act (part b)) (hother : ∀ b k, k ≠ m → part (f b k) = part b) (l : List α)
    (hl : l.Nodup) (hm : m ∈ l) (b : β) : part (l.foldl f b) = act (part b) := by
  have skip : ∀ (l : List α) (b : β), m ∉ l → part (l.foldl f b) = part b := by
    intro l
    induction l with
    | nil => exact fun _ _ => rfl
    | cons k l ih =>
      intro b hk
      rw [List.mem_cons, not_or] at hk
      exact (ih _ hk.2).trans (hother b k (Ne.symm hk.1))
  induction l generalizing b with
  | nil => exact absurd hm List.not_mem_nil
  | cons k l ih =>
    obtain ⟨hk, hl⟩ := List.nodup_cons.mp hl
    rw [List.foldl_cons]
    by_cases hkm : k = m
    · subst hkm
      rw [skip l _ hk, hself]
    · rw [ih hl ((List.mem_cons.mp hm).resolve_left (Ne.symm hkm)), hother b k hkm]

theorem mastsNamed_nodup (v : Nat) : (mastsNamed v).Nodup := by
  unfold mastsNamed
  split
  · simp
  · split
    · simp
    · split
      · decide
      · exact List.nodup_nil

theorem namedServing_nodup (s : State) (v : Nat) : (s.namedServing v).Nodup := (mastsNamed_nodup v).filter _

/-- A march joins those of each mast named that serves (R221, R526). -/
theorem startMarch_march {m : Mast} (h : Hdr) (n : Nat) (p : List Byte) (hm : m ∈ s.namedServing (fld p 0 1)) :
    ((s.startMarch h n p).mem.get m).march = (s.mem.get m).march ++ [s.marchOf h n p] := by
  unfold State.startMarch
  refine foldl_once (part := fun u : State => (u.mem.get m).march) (act := fun l => l ++ [s.marchOf h n p])
    (fun u => ?_) (fun u k hk => ?_) _ (namedServing_nodup s _) hm s
  · simp
  · simp [Both_get_set_ne _ _ (Ne.symm hk)]

/-- Every entry that `pick` names is acknowledged (R496). -/
theorem ack_acked (f : FaultState) {pick : LogEntry → Bool} (hall : ∀ e, pick e = true) :
    ∀ e ∈ (f.ack pick).1.log, e.acked = true := by
  intro e he
  obtain ⟨_, _, rfl⟩ := List.mem_map.mp he
  simp [hall]

/-- FAULT_ACK acts on the log of each mast named that serves (R219, R496). -/
theorem ackFaults_fl {m : Mast} (p : List Byte) (hm : m ∈ s.namedServing (fld p 0 1)) :
    (s.ackFaults p).1.fl m = ((s.fl m).ack (fun e => fld p 4 4 == 0xFFFFFFFF || e.id == fld p 4 4)).1 := by
  unfold State.ackFaults
  refine foldl_once (part := fun q : State × Nat => q.1.fl m)
    (act := fun f => (f.ack (fun e => fld p 4 4 == 0xFFFFFFFF || e.id == fld p 4 4)).1)
    (fun q => ?_) (fun q k hk => ?_) _ (namedServing_nodup s _) hm (s, 0)
  · simp [State.fl]
  · simp [State.fl, Both_get_set_ne _ _ (Ne.symm hk)]

/-- Settles O16: each command's meaning is one equation, and the state it writes is read back. -/
theorem serviceCommands : Obligations.ServiceCommands := by
  unfold Obligations.ServiceCommands
  refine ⟨fun h p => ⟨?ack, ?march, ?loop, ?fallback⟩, fun h p a n m hm => ⟨startMarch_march h n p hm, fun hevery => ?_⟩⟩
  case ack =>
    exact Carries_of_runNow (fun _ => rfl) (fun _ _ h => h) fun a _ => (ackFaults_keeps p (keeps_refl 512 a) rfl).halKeeps.seats
  case march =>
    exact Carries_of_runNow (fun _ => rfl) (fun _ _ h => h) fun a n =>
      (startMarch_keeps h n p (keeps_refl 4194304 a) rfl).halKeeps.seats
  case loop =>
    exact Carries_of_runNow (fun _ => rfl) (fun _ _ h => h) fun a n =>
      (setLoopback_keeps h n _ _ _ (keeps_refl 754784 a) rfl).halKeeps.seats
  case fallback =>
    refine Carries_of_runNow (fun _ => rfl) (fun a n ⟨hperm, hfits, hmast, hrsv, hout⟩ => ⟨hperm, hfits, ?_⟩) (fun _ _ => rfl)
    simp [hmast, refuseIf_nil, hrsv, Nat.not_lt.mpr hout]
  · rw [ackFaults_fl p hm]
    exact ack_acked _ fun e => by simp [hevery]

end Sys2Proof.Machine

/-! # O18: the security commands act at once (R222, R223, R503, R533, R556, R561) -/
namespace Sys2Proof.Machine
open Host Sys2Proof

variable {s t : State}

theorem lifecycleTo_seats (target : Nat) (key : List Byte) :
    (s.lifecycleTo target key).hal.seats.length = s.hal.seats.length :=
  (lifecycleTo_keeps target key (keeps_refl 4320 s) rfl).halKeeps.seats

/-- While OTP writes are held off, a change of the lifecycle waits with them (R503). -/
theorem lifecycleTo_of_held (target : Nat) (key : List Byte)
    (hheld : s.writesHeld .a = true ∨ s.writesHeld .b = true ∨ s.sec.heldOtp ≠ []) :
    s.lifecycleTo target key = { s with sec := { s.sec with heldOtp := s.sec.heldOtp ++ [(target, key)] } } := by
  refine if_pos ?_
  simpa [or_assoc] using hheld

theorem lifecycleTo_of_free (target : Nat) (key : List Byte) (ha : s.writesHeld .a = false) (hb : s.writesHeld .b = false)
    (hnone : s.sec.heldOtp = []) : s.lifecycleTo target key = s.writeLifecycle (target, key) := by
  simp [State.lifecycleTo, ha, hb, hnone]

theorem event_sec (o c : Nat) (f : List Byte) : (s.event o c f).sec = s.sec :=
  Keeps_same (event_keeps o c f (keeps_refl 96 s) rfl) .sec rfl

theorem event_md (o c : Nat) (f : List Byte) : (s.event o c f).md = s.md :=
  Keeps_same (event_keeps o c f (keeps_refl 96 s) rfl) .md rfl

theorem writeLifecycle_sec (target : Nat) (key : List Byte) : (s.writeLifecycle (target, key)).sec =
    { s.sec with lifecycle := target, ownerKey := if target = 2 then key else s.sec.ownerKey } := by
  simp only [State.writeLifecycle, State.changeLifecycle, event_sec]

/-- The first change names the time of the reset, and a later one leaves it (R533). -/
theorem writeLifecycle_md (target : Nat) (key : List Byte) : (s.writeLifecycle (target, key)).md =
    { s.md with lifecycleReset := some (s.md.lifecycleReset.getD s.now) } := by
  simp only [State.writeLifecycle, State.changeLifecycle, event_md]

/-- A key goes into its slot, whatever its purpose asks for beside it (R561). -/
theorem putKey_keySlots (slot purpose key : Nat) : (s.putKey slot purpose key).md.nest.keySlots =
    setAt s.md.nest.keySlots slot (some { purpose := purpose, key := key }) := by
  simp only [State.putKey, State.recheckMessages]
  split
  · rfl
  · rfl

theorem startFirmware_staged {b : List Byte} (n hostSeq : Nat) (hb : s.sec.staging.firmware = some b) :
    ∃ w, (s.startFirmware n hostSeq).sec.writes = s.sec.writes ++ [w] ∧ w.seat = n ∧ w.hostSeq = hostSeq ∧ w.image = 1 ∧
      (s.startFirmware n hostSeq).sec.staging.firmware = none := by
  unfold State.startFirmware
  rw [hb]
  exact ⟨_, rfl, rfl, rfl, rfl, rfl⟩

/-- Settles O18: each command's meaning is one equation; a held-off OTP write is the second case of the lifecycle. -/
theorem securityCommands : Obligations.SecurityCommands := by
  unfold Obligations.SecurityCommands
  refine ⟨fun h p sigOk key => ⟨?enrol, ?firmware, ?lifecycle, ?key, ?rtc⟩, fun a target slot purpose key n hostSeq owner =>
    ⟨fun ha hb hnone => ?free, lifecycleTo_of_held target owner, fun hslot => ⟨?same, fun k hk => ?other⟩,
      fun b hb => startFirmware_staged n hostSeq hb⟩⟩
  case enrol =>
    exact Carries_of_runNow (fun _ => rfl)
      (fun a n ⟨hperm, hfits, hstate, hrsv, hsig⟩ => ⟨hperm, hfits, by simp [refuseIf_nil, hstate, hrsv, hsig]⟩)
      (fun _ _ => lifecycleTo_seats ..)
  case firmware =>
    exact Carries_of_runNow (fun _ => rfl) (fun _ _ h => h)
      fun a n => (startFirmware_keeps n h.hostSeq (keeps_refl 4096 a) rfl).halKeeps.seats
  case lifecycle => exact Carries_of_runNow (fun _ => rfl) (fun _ _ h => h) (fun _ _ => lifecycleTo_seats ..)
  case key =>
    exact Carries_of_runNow (fun _ => rfl) (fun _ _ h => h)
      fun a _ => (putKey_keeps _ _ _ (keeps_refl 16908416 a) rfl).halKeeps.seats
  case rtc =>
    exact Carries_of_runNow (fun _ => rfl) (own := fun _ _ => [])
      (fun _ _ ⟨hperm, hfits, _⟩ => ⟨hperm, hfits, rfl⟩) (fun _ _ => rfl)
  case free =>
    rw [lifecycleTo_of_free _ _ ha hb hnone]
    exact ⟨writeLifecycle_sec _ _, writeLifecycle_md _ _⟩
  case same =>
    rw [putKey_keySlots]
    exact List.getElem?_set_self hslot
  case other =>
    rw [putKey_keySlots]
    exact List.getElem?_set_ne (Ne.symm hk)

end Sys2Proof.Machine

/-! # O19: PROFILE_APPLY writes the staged profile, and its seats take effect (R223, R564, R571)

The command answers, and then installs the eight seats one by one. Each installation changes its own seat, and closes the
sessions of a seat whose role or certificate is another; what it leaves of a seat is read off seat by seat. -/
namespace Sys2Proof.Machine
open Host Sys2Proof

variable {s t u : State}

/-- Between `s` and `t` nothing but seats, sessions, host ports and counters differs. -/
def State.TablesOnly (s t : State) : Prop :=
  t = { s with hal := { s.hal with seats := t.hal.seats, sessions := t.hal.sessions }, port := t.port, ctr := t.ctr }

theorem TablesOnly_trans (h : s.TablesOnly t) (k : t.TablesOnly u) : s.TablesOnly u := by
  unfold State.TablesOnly at *
  rw [k, h]

theorem TablesOnly_foldl {α : Type} (f : State → α → State) (hf : ∀ (s : State) a, s.TablesOnly (f s a)) (l : List α) (s : State) :
    s.TablesOnly (l.foldl f s) := by
  induction l generalizing s with
  | nil => exact rfl
  | cons a l ih => exact TablesOnly_trans (hf s a) (ih _)

theorem installSeat_tables (items : List SeatItem) (n : Nat) : s.TablesOnly (s.installSeat items n) := by
  unfold State.installSeat
  dsimp only
  split
  · split
    · exact rfl
    · exact TablesOnly_trans (closeWhere_only s _ 5).rest rfl
  · split
    · exact rfl
    · exact TablesOnly_trans (closeWhere_only s _ 5).rest rfl

theorem installSeats_tables (p : Option Profile) : s.TablesOnly (s.installSeats p) :=
  TablesOnly_foldl _ (fun _ _ => installSeat_tables _ _) _ _

theorem installSeat_length (items : List SeatItem) (n : Nat) :
    (s.installSeat items n).hal.seats.length = s.hal.seats.length :=
  (installSeat_keeps items n (keeps_refl 96 s) rfl).halKeeps.seats

/-- The terms of a seat that a profile gives: its role, its certificate and its limit (R564). -/
def SeatState.terms (st : SeatState) : Nat × List Byte × Nat := (st.role, st.certHash, st.prioLimit)

theorem SameBut_terms {a b : SeatState} (h : a.SameBut b) : b.terms = a.terms := by rw [h]; rfl

theorem installSeat_ne {items : List SeatItem} {n k : Nat} (hk : k ≠ n) :
    ((s.installSeat items n).seat k).terms = (s.seat k).terms := by
  have hclose := SameBut_terms ((closeWhere_only s (fun y => y.seat == n) 5).each k)
  unfold State.installSeat
  dsimp only
  split
  · split
    · rw [setSeat_seat_ne _ _ hk]
    · rw [setSeat_seat_ne _ _ hk]; exact hclose
  · split
    · rfl
    · rw [setSeat_seat_ne _ _ hk]; exact hclose

theorem installSeat_self {items : List SeatItem} {n : Nat} {y : SeatItem} (hn : n < s.hal.seats.length)
    (hy : items.find? (fun z => z.seat == n) = some y) :
    ((s.installSeat items n).seat n).terms = (y.role, y.certHash, y.prioLimit) := by
  simp only [State.installSeat, hy]
  split
  · next hsame =>
    simp only [Bool.and_eq_true, decide_eq_true_eq] at hsame
    rw [setSeat_seat _ _ _ hn]
    simp only [SeatState.terms, hsame]
  · rw [setSeat_seat]
    · rfl
    · rw [(closeWhere_only s _ 5).seats]; exact hn

theorem foldl_installSeat_ne {items : List SeatItem} {n : Nat} (l : List Nat) (hl : n ∉ l) (s : State) :
    ((l.foldl (fun acc k => acc.installSeat items k) s).seat n).terms = (s.seat n).terms := by
  induction l generalizing s with
  | nil => rfl
  | cons k l ih =>
    rw [List.mem_cons, not_or] at hl
    exact (ih hl.2 _).trans (installSeat_ne hl.1)

theorem foldl_installSeat_mem {items : List SeatItem} {n : Nat} {y : SeatItem}
    (hy : items.find? (fun z => z.seat == n) = some y) (l : List Nat) (hl : n ∈ l) (s : State) (hn : n < s.hal.seats.length) :
    ((l.foldl (fun acc k => acc.installSeat items k) s).seat n).terms = (y.role, y.certHash, y.prioLimit) := by
  induction l generalizing s with
  | nil => exact absurd hl List.not_mem_nil
  | cons k l ih =>
    rw [List.foldl_cons]
    by_cases hin : n ∈ l
    · exact ih hin _ (by rwa [installSeat_length])
    · obtain rfl : n = k := (List.mem_cons.mp hl).resolve_right hin
      rw [foldl_installSeat_ne l hin]
      exact installSeat_self hn hy

/-- A seat that the profile gives has its terms (R564). -/
theorem installSeats_terms {p : Option Profile} {n : Nat} {y : SeatItem} (h8 : n < 8) (hn : n < s.hal.seats.length)
    (hy : (s.seatItems p).find? (fun z => z.seat == n) = some y) :
    ((s.installSeats p).seat n).terms = (y.role, y.certHash, y.prioLimit) :=
  foldl_installSeat_mem hy _ (List.mem_range.mpr h8) _ hn

theorem seatItems_congr (h : t.sec.lifecycle = s.sec.lifecycle) (p : Option Profile) : t.seatItems p = s.seatItems p := by
  simp only [State.seatItems, h]

theorem startProfile_writes (b : List Byte) (seat hostSeq : Nat) :
    ∃ w, (s.startProfile b seat hostSeq).sec.writes = s.sec.writes ++ [w] ∧ w.image = 0 ∧ w.profile = some (readProfile b) ∧
      w.seat = seat ∧ w.hostSeq = hostSeq := ⟨_, rfl, rfl, rfl, rfl, rfl⟩

/-- PROFILE_APPLY, carried out: the write starts, the answer goes out, and the seats take effect. -/
theorem exec_profileApply_permitted {h : Hdr} {p : List Byte} {sigOk : Bool} {x : Session} {b : List Byte} (hacc : s.Accepts h x)
    (hperm : (s.accepted h x).Permits h x.seat 0x0C05 (p.length == 0)) (hfits : (s.accepted h x).Fits h 0)
    (hown : (s.accepted h x).profileApplyRefusals h p x.seat sigOk = [])
    (hb : (s.accepted h x).sec.staging.profile = some b) :
    exec (.profileApply h p sigOk) s = .next (((((s.accepted h x).startProfile b x.seat h.hostSeq).done h x.seat 0x0C05
      (s.accepted h x).step .package []).installSeats (some (readProfile b))).closeWrapped) := by
  change execProfileApply h p sigOk s = _
  unfold execProfileApply
  rw [receive_accepts hacc]
  dsimp only
  rw [runNow_permitted _ hperm hfits hown, hown]
  simp only [hb, State.applyStaged, List.isEmpty_nil, if_true, Option.map_some]

/-- Settles O19: the checks pass, the write begins, and the seats are installed one by one. -/
theorem profileApplyStarts : Obligations.ProfileApplyStarts := by
  unfold Obligations.ProfileApplyStarts
  intro h p sigOk s x b hacc a hperm hfits hown hb
  have hx := exec_profileApply_permitted hacc hperm hfits hown hb
  generalize hv : a.startProfile b x.seat h.hostSeq = v at hx
  generalize hd : v.done h x.seat 0x0C05 a.step .package [] = d at hx
  have hvd : v.OnlyHalyard d := hd ▸ done_only ..
  have hfirst : s.TablesOnly a := (accepted_only s h x).rest
  have hlast : v.TablesOnly (d.installSeats (some (readProfile b))).closeWrapped :=
    TablesOnly_trans hvd.rest (TablesOnly_trans (installSeats_tables _) (closeWrapped_only _).rest)
  have hsec : (d.installSeats (some (readProfile b))).closeWrapped.sec = v.sec := by rw [hlast]
  have hsa : a.sec = s.sec := by rw [hfirst]
  obtain ⟨w, hw, himage, hprofile, hseat, hseq⟩ := startProfile_writes (s := a) b x.seat h.hostSeq
  refine ⟨_, w, hx, ?_, himage, hprofile, hseat, hseq, ?_, fun n h8 y hy hn => ?_, ?_⟩
  · rw [hsec, ← hv, hw, hsa]
  · rw [hsec, ← hv]; rfl
  · have hlen : n < d.hal.seats.length := by
      rw [hvd.seats, ← hv]
      show n < a.hal.seats.length
      rwa [accepted_length]
    have hitems : d.seatItems (some (readProfile b)) = a.seatItems (some (readProfile b)) :=
      seatItems_congr (by rw [hvd.rest, ← hv]; rfl) _
    have hterms := installSeats_terms h8 hlen (hitems ▸ hy)
    rw [← SameBut_terms ((closeWrapped_only (d.installSeats (some (readProfile b)))).each n)] at hterms
    simp only [SeatState.terms, Prod.mk.injEq] at hterms
    exact hterms
  · generalize (d.installSeats (some (readProfile b))).closeWrapped = w at hlast hsec
    unfold State.TablesOnly at hlast hfirst
    rw [hlast, ← hv, hfirst]
    rfl

end Sys2Proof.Machine

/-! # O9: SESSION_OPEN leaves one pending session, and SESSION_CONFIRM opens it (R144, R154, R187, R188) -/
namespace Sys2Proof.Machine
open Host Sys2Proof

variable {s t : State}

/-! ### A session that opens (R144, R154) -/

theorem freshId_ne_zero (used : List Nat) (k id : Nat) (hid : id ≠ 0) : freshId used k id ≠ 0 := by
  induction k generalizing id with
  | zero => exact hid
  | succ k ih =>
    unfold freshId
    split
    · exact ih _ (Nat.succ_ne_zero _)
    · exact hid

/-- Free values are drawn one by one, and a draw moves their count alone. -/
theorem drawBytes_state (n : Nat) (s : State) : (State.drawBytes n s).2 = { s with freeCount := s.freeCount + n } := by
  induction n generalizing s with
  | zero => rfl
  | succ n ih =>
    simp only [State.drawBytes, ih]
    congr 1
    omega

/-- The state in which a session opens, and the session and the reply it opens with: only the seat's old sessions have closed,
and free values been drawn (R154). -/
theorem openSession_eq (h : Hdr) (p : List Byte) : ∃ (x : Session) (q : Packet) (n : Nat),
    x.seat = h.seat ∧ x.pending = true ∧ x.mast = h.mast ∧ x.transport = h.transport ∧ x.id ≠ 0 ∧ x.openedAt = s.now ∧
    (q.kind, q.opcode, q.status, q.devSeq, q.session) = (2, 0x0101, stOk, 0, 0) ∧
    s.openSession h p =
      (({ s.closeWhere (fun y => y.seat == h.seat) 1 with freeCount := n } : State).setSessions
        ((s.closeWhere (fun y => y.seat == h.seat) 1).hal.sessions ++ [x])).sendPlain h q := by
  have hdraws (c : State) : (State.drawBytes 97 (State.drawBytes 32 c.draw.2).2).2 =
      { c with freeCount := c.freeCount + 1 + 32 + 97 } := by rw [drawBytes_state, drawBytes_state]; rfl
  unfold State.openSession
  dsimp only
  rw [hdraws]
  refine ⟨_, _, _, ?_, ?_, ?_, ?_, ?_, ?_, ?_, rfl⟩
  · rfl
  · rfl
  · rfl
  · rfl
  · exact freshId_ne_zero _ _ _ (Nat.succ_ne_zero _)
  · rfl
  · rfl

theorem sendPlain_getLast (h : Hdr) (q : Packet) :
    (((s.sendPlain h q).port.get h.mast).outQ h.transport).getLast? = some q := by
  simp only [State.sendPlain, Both_get_set]
  cases h.transport <;> simp [HostPort.outQ, HostPort.setOutQ]

/-- The sessions of a seat, once its old ones have closed and a new one stands last. -/
theorem closeWhere_filter_seat {n c : Nat} {x : Session} (hx : x.seat = n) :
    ((s.closeWhere (fun y => y.seat == n) c).hal.sessions ++ [x]).filter (fun y => y.seat == n) = [x] := by
  rw [List.filter_append, List.filter_eq_nil_iff.mpr, List.filter_cons_of_pos (by simp [hx])]
  · rfl
  · intro y hy
    rw [closeWhere_closed (w := fun y : Session => y.seat == n) (fun _ _ => rfl) (SessionsWithin_refl _) y hy]
    simp

theorem exec_sessionOpen_ok {h : Hdr} {p : List Byte} {f : OpenFacts} (hv : s.md.mode ≠ .vault) (hb : s.md.mode ≠ .boot)
    (hp : (s.md.boot.get h.mast).phase = 0) (hq : s.transportStopped h = false) (hmagic : h.magic = 0xE5A1) (hversion : h.version = 1)
    (hkind : h.kind = 1) (hlimit : 56 + h.payloadLen ≤ (s.takeInbound h).packetLimit h.mast h.transport h.ipv6)
    (hwire : h.wireLen = 56 + h.payloadLen) (hserves : s.serves h.mast = true) (hst : (s.takeInbound h).openStatus h p f = stOk) :
    exec (.sessionOpen h p f) s = .next ((s.takeInbound h).openSession h p) := by
  have hserve : (s.takeInbound h).serves h.mast = true := by rw [(takeInbound_only s h).rest]; exact hserves
  change execSessionOpen h p f s = _
  unfold execSessionOpen
  rw [if_neg hv, if_neg (by simp [hb, hp]), if_neg (by simp [hq])]
  simp only [hmagic, hversion, hkind, hwire, hserve, hst, Nat.not_lt.mpr hlimit, ne_eq, not_true_eq_false, if_false, if_true,
    Bool.not_true, Bool.false_eq_true]

/-! ### A session that is confirmed (R154, R188) -/

/-- The sessions with the identity of `x` are pending no more. -/
def State.opened (s : State) (x : Session) : State :=
  s.setSessions (s.hal.sessions.map (fun y => if y.id == x.id && y.seat == x.seat then { y with pending := false } else y))

theorem opened_not_pending {x y : Session} (ht : SessionsWithin (s.opened x) t) (hy : y ∈ t.hal.sessions) (hid : y.id = x.id)
    (hseat : y.seat = x.seat) : y.pending = false := by
  obtain ⟨z, hz, n, rfl⟩ := ht y hy
  obtain ⟨w, _, rfl⟩ := List.mem_map.mp hz
  split at hid
  · next hw => simp [hw]
  · next hw =>
    rw [if_neg hw] at hseat
    exact absurd (by simp [show w.id = x.id from hid, show w.seat = x.seat from hseat]) hw

theorem opened_room {k : Nat} {x : Session} (hroom : s.Room k) : (s.opened x).Room k := by
  intro y hy
  obtain ⟨z, hz, rfl⟩ := List.mem_map.mp hy
  have := hroom z hz
  split <;> exact this

/-- Where no report of a lockout is due and no fault is held, the first session has nothing to be given (R128, R494). -/
theorem firstSession_idle {seat : Nat} (hreport : s.hal.lockoutReport = false) (ha : s.flt.a.held = []) (hb : s.flt.b.held = []) :
    s.firstSession seat = s := by
  have hfa : s.setFl .a { s.fl .a with held := [] } = s := by
    show { s with flt := { s.flt with a := { s.flt.a with held := [] } } } = s
    rw [← ha]
  have hfb : s.setFl .b { s.fl .b with held := [] } = s := by
    show { s with flt := { s.flt with b := { s.flt.b with held := [] } } } = s
    rw [← hb]
  have hla : (s.fl .a).held = [] := ha
  have hlb : (s.fl .b).held = [] := hb
  simp [State.firstSession, hreport, hla, hlb, hfa, hfb]

/-- The reply to a SESSION_CONFIRM that opens its session. -/
def State.confirmed (s : State) (h : Hdr) (x : Session) : State :=
  s.reply h x.seat 0x0102 false
    { status := stOk, effStep := s.step, outA := s.outcome .a .package, outB := s.outcome .b .package,
      fields := s.confirmFields x.seat }

theorem exec_sessionConfirm_ok {h : Hdr} {p : List Byte} {x : Session} (hv : s.md.mode ≠ .vault) (hb : s.md.mode ≠ .boot)
    (hp : (s.md.boot.get h.mast).phase = 0) (hq : s.transportStopped h = false)
    (hd : (s.takeInbound h).discardCause h true = none) (hx : (s.takeInbound h).findSession h = some x) (hpend : x.pending = true)
    (hseat : h.seat = x.seat) (hnil : p = []) (hlen : h.payloadLen = 0) (hhost : h.hostSeq = 0) (hdev : h.devSeq = 0)
    (heff : h.effStep = 0) (hflags : h.flags = 0) (h10 : h.rsv10 = 0) (h34 : h.rsv34 = 0) :
    exec (.sessionConfirm h p) s =
      .next (((((s.takeInbound h).touch h).opened x).confirmed h x).firstSession x.seat) := by
  change execSessionConfirm h p s = _
  unfold execSessionConfirm
  rw [if_neg hv, if_neg (by simp [hb, hp]), if_neg (by simp [hq])]
  dsimp only
  rw [hd]
  dsimp only
  rw [hx]
  dsimp only
  rw [if_neg (by simp [hpend]), if_neg (by simp [hseat]),
    if_neg (by simp [hnil, hlen, hhost, hdev, heff, hflags, h10, h34])]
  rfl

/-- Settles O9: the closes and draws of SESSION_OPEN leave no other session of the seat, and SESSION_CONFIRM opens its session
and answers. -/
theorem sessionsOpen : Obligations.SessionsOpen := by
  unfold Obligations.SessionsOpen
  refine ⟨fun h p f s hv hb hp hq hmagic hversion hkind hlimit hwire hserves hst => ?_,
    fun h p s x hv hb hp hq hd hx hpend hseat hknown hnil hlen hhost hdev heff hflags h10 h34 hreport ha hb' => ?_⟩
  · obtain ⟨x, q, n, hxseat, hxpend, hxmast, hxtr, hxid, hxopen, hqhead, heq⟩ := openSession_eq (s := s.takeInbound h) h p
    have honly := OnlyHalyard_trans (takeInbound_only s h) (closeWhere_only (s.takeInbound h) (fun y => y.seat == h.seat) 1)
    refine ⟨_, x, exec_sessionOpen_ok hv hb hp hq hmagic hversion hkind hlimit hwire hserves hst, ?_⟩
    rw [heq]
    refine ⟨closeWhere_filter_seat hxseat, hxpend, hxmast, hxtr, hxid, ?_, ?_, fun k => honly.each k, ?_⟩
    · rw [hxopen, (takeInbound_only s h).rest]
    · rw [sendPlain_getLast, Option.map_some, hqhead]
    · generalize (s.takeInbound h).closeWhere (fun y => y.seat == h.seat) 1 = v at honly
      show ({ v with freeCount := n, hal := _, port := _ } : State) = _
      rw [honly.rest]
      rfl
  · have hx' := exec_sessionConfirm_ok hv hb hp hq hd hx hpend hseat hnil hlen hhost hdev heff hflags h10 h34
    have htouch := touched_only s h
    have hseats := touched_seats s h
    have hroom : s.keysLast → ((s.takeInbound h).touch h).Room 1 := fun hk => touched_room (Room_of_keysLast hk (by omega))
    generalize (s.takeInbound h).touch h = u at hx' htouch hseats hroom
    have honly : u.OnlyHalyard ((u.opened x).confirmed h x) :=
      OnlyHalyard_trans (setSessions_only u _) (reply_only ..)
    have hall := (OnlyHalyard_trans htouch honly).rest
    rw [firstSession_idle (by rw [hall]; exact hreport) (by rw [hall]; exact ha) (by rw [hall]; exact hb')] at hx'
    refine ⟨_, hx', fun y hy hid hys => opened_not_pending reply_within hy hid hys, ?_, ?_, ?_, ?_, ?_⟩
    · exact release_enters_reply (u := u.opened x) (by rw [show (u.opened x).hal.seats = s.hal.seats from hseats]; exact hknown)
        (seat_of_seats hseats x.seat) fun hk => opened_room (hroom hk)
    · rw [hall]
    · rw [hall]
    · rw [hall]
    · rw [hall]

end Sys2Proof.Machine

/-! # O17 fails: a bank whose bytes are not in canonical form (R221, R516)

A bank keeps its bytes as a list of addresses, rising, with no zero among the bytes (`cellsWf`), and every step keeps that
form (O2). The statement asks it of no state. Where a bank lists an address twice, the write of a zero there takes the first
of the two bytes away, and a read then finds the second. -/
namespace Sys2Proof.Machine
open Host Sys2Proof

section
set_option maxRecDepth 8000

/-- The session of an OPERATOR's seat over PCI Express of Mast A. -/
def twiceSession : Session :=
  { id := 7, seat := 2, mast := .a, transport := .pcie, pending := false, openedAt := 0, lastCmd := 0, source := 0,
    ipv6 := false, keyIn := [], keyOut := [], devUsed := 0, hostUsed := 0 }

/-- Bank 14 of Mast A, which the host owns, lists address 0 twice. -/
def twiceBank : ScratchBank := { owner := 2, data := [(0, 1), (0, 2)], withdrawn := false }

/-- Mast A is the Captain, in QUIET and alone, and holds `twiceBank`. -/
def State.listedTwice : State :=
  { State.reset with
    md := { ModeState.reset with
      mode := .quiet, mixOn := .same true, routeOn := .same true
      boot := .same { BootState.off with powerGood := true, fallbackReady := true, remap := true, firmwareOk := true } }
    tan := { Tandem.reset with m := { a := { MastTandem.reset with st := .captain }, b := MastTandem.reset } }
    hal := { State.reset.hal with
      sessions := [twiceSession], seats := setAt State.reset.hal.seats 2 { State.reset.seat 2 with role := 4, prioLimit := 4 } }
    mem := { State.reset.mem with a := { State.reset.mem.a with banks := setAt State.reset.mem.a.banks 14 twiceBank } } }

/-- A BANK_WRITE of the byte 0 at OFFSET 0 of bank 14 of Mast A. -/
def zeroWrite : List Byte := be 1 0 ++ be 1 14 ++ zeros 2 ++ be 4 0 ++ be 4 1 ++ [0]

/-- The header of that command. -/
def zeroWriteHdr : Hdr :=
  { mast := .a, transport := .pcie, magic := 0xE5A1, version := 1, kind := 1, flags := 0, seat := 2, rsv10 := 0, hostSeq := 1,
    devSeq := 0, effStep := 0, payloadLen := 13, status := 0, rsv34 := 0, session := 7, wireLen := 69, tagOk := true,
    source := 0, ipv6 := false }

theorem listedTwice_accepts : State.listedTwice.Accepts zeroWriteHdr twiceSession where
  noVault := by decide
  noBoot := by decide
  mastUp := by decide
  room := by decide
  sound := by decide
  session := by decide
  seat := by decide
  known := by decide
  inOrder := by decide

theorem zeroWrite_permitted :
    (State.listedTwice.accepted zeroWriteHdr twiceSession).Permits zeroWriteHdr 2 0x0B03 true :=
  ⟨⟨0x0B03, .immediate, rIV, mWQSM⟩, rfl, by decide⟩

/-- The byte that reads as 2 after the write of 0. -/
theorem zeroWrite_reads_two : (match exec (.bankWrite zeroWriteHdr zeroWrite) State.listedTwice with
    | .next t => decide (cellRead (t.bank .a 14).data 0 = 2)
    | _ => false) = true := by decide

/-- Refutes O17: `State.listedTwice` meets the hypotheses of the clause for BANK_WRITE, and the byte written does not read back. -/
theorem not_banksChangeHands : ¬ Obligations.BanksChangeHands := by
  unfold Obligations.BanksChangeHands
  rintro ⟨_, _, hwrite⟩
  obtain ⟨t, hexec, _, hread, _⟩ := hwrite zeroWriteHdr zeroWrite State.listedTwice twiceSession listedTwice_accepts
    zeroWrite_permitted (show State.tooLarge _ _ _ = [] by decide) (by decide) (by decide) (by decide) (by decide)
  have htwo := zeroWrite_reads_two
  rw [hexec] at htwo
  have hzero := hread 0 (by decide)
  have hbad : cellRead (t.bank .a 14).data 0 = 2 := by simpa using htwo
  exact absurd (hbad.symm.trans hzero) (by decide)

end

end Sys2Proof.Machine

/-! # O24, O25: the rings and the interrupt causes of the register window (R146 to R148, R551 to R554)

Every command here acts on one host port, and its next state is `s.setHp m q`; what it leaves is read off `q`. -/
namespace Sys2Proof.Machine
open Host Sys2Proof

variable {s : State} {m : Mast} {v : Nat}

/-! ### The host port alone -/

/-- What a state with a host port replaced is, seen from that port. -/
theorem setHp_hp (s : State) (m : Mast) (q : HostPort) : s.setHp m q = s.setHp m ((s.setHp m q).hp m) := by rw [hp_setHp]

theorem Both_set_set {α : Type} (x : Both α) (m : Mast) (v w : α) : (x.set m v).set m w = x.set m w := by
  cases m
  · rfl
  · rfl

@[simp] theorem setHp_setHp (s : State) (m : Mast) (p q : HostPort) : (s.setHp m p).setHp m q = s.setHp m q := by
  simp only [State.setHp, Both_set_set]

theorem setHp_only (s : State) (m : Mast) (p : HostPort) : s.OnlyHalyard (s.setHp m p) := OnlyHalyard_of_seats rfl rfl

/-- An interrupt cause sets its own bit, and leaves the rings and the queues alone (R553). -/
structure HostPort.Caused (p q : HostPort) (v : Nat) : Prop where
  inPcie : q.inPcie = p.inPcie
  outPcie : q.outPcie = p.outPcie
  lastPacket : q.lastPacket = p.lastPacket
  cmdHead : q.window.cmdHead = p.window.cmdHead
  replyHead : q.window.replyHead = p.window.replyHead
  cmdDone : q.ring.cmdDone = p.ring.cmdDone
  replyDone : q.ring.replyDone = p.ring.replyDone
  fetching : q.ring.fetching = p.ring.fetching
  status : bit q.window.intStatus v = true

theorem HostPort.cause_caused (p : HostPort) (v now : Nat) : p.Caused (p.cause v now) v := by
  have hset := HostPort.cause_sets p v now
  have hsame := HostPort.cause_sameBut p v now
  generalize p.cause v now = q at hset hsame
  unfold HostPort.sameBut at hsame
  exact ⟨by rw [hsame], by rw [hsame], by rw [hsame], by rw [hsame], by rw [hsame], by rw [hsame], by rw [hsame], by rw [hsame], hset⟩

/-! ### Doorbells and ENABLE (R147, R554) -/

theorem cmdTailDoorbell_enabled (hw : s.windowAnswers m = true) (hen : (s.hp m).window.ringEnable = true) :
    exec (.cmdTailDoorbell m v) s = .next (s.setHp m { s.hp m with
      window := { (s.hp m).window with cmdTail := v % 256 }
      ring := { (s.hp m).ring with fetching := (s.hp m).ring.fetching || (s.hp m).window.cmdHead != v % 256 } }) := by
  change execCmdTailDoorbell m v s = _
  simp [execCmdTailDoorbell, hw, hen]

theorem replyTailDoorbell_enabled (hw : s.windowAnswers m = true) (hen : (s.hp m).window.ringEnable = true) :
    exec (.replyTailDoorbell m v) s = .next (s.setWindow m { (s.hp m).window with replyTail := v % 256 }) := by
  change execReplyTailDoorbell m v s = _
  simp [execReplyTailDoorbell, hw, hen]

theorem cmdTailDoorbell_disabled (hen : (s.hp m).window.ringEnable = false) : exec (.cmdTailDoorbell m v) s = .next s := by
  change execCmdTailDoorbell m v s = _
  simp [execCmdTailDoorbell, hen]

theorem replyTailDoorbell_disabled (hen : (s.hp m).window.ringEnable = false) : exec (.replyTailDoorbell m v) s = .next s := by
  change execReplyTailDoorbell m v s = _
  simp [execReplyTailDoorbell, hen]

theorem ringEnableWrite_enabled (hw : s.windowAnswers m = true) (hen : (s.hp m).window.ringEnable = true) :
    exec (.ringEnableWrite m v) s = .next (s.setWindow m { (s.hp m).window with ringEnable := bit v 0 }) := by
  change execRingEnableWrite m v s = _
  simp [execRingEnableWrite, hw, hen]

/-- ENABLE going to 1 zeroes the indices (R554). -/
theorem ringEnableWrite_starts (hw : s.windowAnswers m = true) (hen : (s.hp m).window.ringEnable = false) (hv : bit v 0 = true) :
    exec (.ringEnableWrite m v) s = .next (s.setHp m { s.hp m with
      window := { (s.hp m).window with ringEnable := true, cmdHead := 0, cmdTail := 0, replyHead := 0, replyTail := 0 }
      ring := { (s.hp m).ring with fetching := false } }) := by
  change execRingEnableWrite m v s = _
  simp [execRingEnableWrite, hw, hen, hv]

/-! ### Packets through the rings (R146, R148) -/

/-- A command packet arrives: its descriptor goes back with DESC_STATUS 0, and CMD_HEAD moves on. -/
def HostPort.fetched (p : HostPort) (d : Desc) : HostPort :=
  { p with
    window := { p.window with cmdHead := (p.window.cmdHead + 1) % 256 }
    ring := { p.ring with
      fetching := p.window.ringEnable && (p.window.cmdHead + 1) % 256 != p.window.cmdTail
      cmdDone := p.ring.cmdDone.put p.window.cmdHead { d with own := false, status := 0 } } }

theorem commandDescriptorDone_good {d : Desc} (hown : d.own = true) (hfetch : (s.hp m).ring.fetching = true)
    (hboot : s.booting m = false) (hmin : 56 ≤ d.len) (hmax : d.len ≤ (s.hp m).window.maxPacket) :
    exec (.commandDescriptorDone m d false) s =
      .next (s.setHp m ((((s.hp m).fetched d).cause 1 s.now).deliver .pcie d.len)) := by
  change execCommandDescriptorDone m d false s = _
  simp [execCommandDescriptorDone, HostPort.fetched, hown, hfetch, hboot, Nat.not_lt.mpr hmin, Nat.not_lt.mpr hmax]

/-- A reply descriptor goes back with `d` in it, and REPLY_HEAD moves on. -/
def HostPort.replied (p : HostPort) (d : Desc) : HostPort :=
  { p with
    window := { p.window with replyHead := (p.window.replyHead + 1) % 256 }
    ring := { p.ring with replyDone := p.ring.replyDone.put p.window.replyHead d } }

theorem replyPacketWrite_fits {d : Desc} {q : Packet} {rest : List Packet} (hown : d.own = true)
    (hen : (s.hp m).window.ringEnable = true) (hposted : (s.hp m).window.replyHead ≠ (s.hp m).window.replyTail)
    (hout : (s.hp m).outPcie = q :: rest) (hsize : q.size ≤ d.len) :
    exec (.replyPacketWrite m d false) s = .next (s.setHp m
      ((({ (s.hp m).replied { d with len := q.size, own := false, status := 0 } with outPcie := rest } : HostPort).sent q).cause 0
        s.now)) := by
  change execReplyPacketWrite m d false s = _
  simp [execReplyPacketWrite, HostPort.replied, hown, hen, hposted, hout, Nat.not_lt.mpr hsize]

theorem replyPacketWrite_dmaError {d : Desc} {q : Packet} {rest : List Packet} (hown : d.own = true)
    (hen : (s.hp m).window.ringEnable = true) (hposted : (s.hp m).window.replyHead ≠ (s.hp m).window.replyTail)
    (hout : (s.hp m).outPcie = q :: rest) :
    exec (.replyPacketWrite m d true) s =
      .next (s.setHp m (((s.hp m).replied { d with own := false, status := 2 }).cause 3 s.now)) := by
  change execReplyPacketWrite m d true s = _
  simp [execReplyPacketWrite, HostPort.replied, hown, hen, hposted, hout]

/-- Settles O24: doorbells and enables by their register, packets by the descriptor that the device owns. -/
theorem ringsWork : Obligations.RingsWork := by
  unfold Obligations.RingsWork
  refine ⟨?bells, ?rings⟩
  case bells =>
    intro m v s hw p w fetching
    refine ⟨fun hen => ⟨cmdTailDoorbell_enabled hw hen, replyTailDoorbell_enabled hw hen, ringEnableWrite_enabled hw hen⟩,
      fun hen => ⟨cmdTailDoorbell_disabled hen, replyTailDoorbell_disabled hen, fun hv => ?_⟩⟩
    exact ⟨_, ringEnableWrite_starts hw hen hv, setHp_hp .., by rw [hp_setHp]⟩
  case rings =>
    intro m s p
    refine ⟨fun d hown hfetch hboot hmin hmax => ?_, fun d q rest hown hen hposted hout => ⟨fun hsize => ?_, ?_⟩⟩
    · have hcause := HostPort.cause_caused ((s.hp m).fetched d) 1 s.now
      refine ⟨_, commandDescriptorDone_good hown hfetch hboot hmin hmax, setHp_hp .., ?_⟩
      rw [hp_setHp]
      refine ⟨?_, hcause.cmdHead, ?_, hcause.fetching, hcause.status⟩
      · exact congrArg (· ++ [d.len]) hcause.inPcie
      · exact (congrArg (Assoc.find · _) hcause.cmdDone).trans (Assoc_find_put _ _ _)
    · have hcause := HostPort.cause_caused (({ (s.hp m).replied { d with len := q.size, own := false, status := 0 } with
        outPcie := rest } : HostPort).sent q) 0 s.now
      refine ⟨_, replyPacketWrite_fits hown hen hposted hout hsize, setHp_hp .., ?_⟩
      rw [hp_setHp]
      refine ⟨hcause.outPcie, hcause.lastPacket, hcause.replyHead, ?_, hcause.status⟩
      exact (congrArg (Assoc.find · _) hcause.replyDone).trans (Assoc_find_put _ _ _)
    · have hcause := HostPort.cause_caused ((s.hp m).replied { d with own := false, status := 2 }) 3 s.now
      refine ⟨_, replyPacketWrite_dmaError hown hen hposted hout, setHp_hp .., ?_⟩
      rw [hp_setHp]
      exact ⟨hcause.outPcie.trans hout, (congrArg (Assoc.find · _) hcause.replyDone).trans (Assoc_find_put _ _ _), hcause.status⟩

/-! ### Interrupt causes and messages (R148, R551, R553) -/

theorem clearOnes_testBit (status v k : Nat) : (clearOnes status v).testBit k = (status.testBit k && !v.testBit k) := by
  simp only [clearOnes, Nat.testBit_xor, Nat.testBit_and]
  cases status.testBit k <;> cases v.testBit k <;> rfl

/-- A message of another vector leaves a vector's count. -/
theorem signal_count_ne (p : HostPort) {v k : Nat} (now : Nat) (hk : k ≠ v) :
    atD (p.signal v now).ring.msiCount k 0 = atD p.ring.msiCount k 0 := by
  unfold HostPort.signal
  split
  · rfl
  · simp [atD, setAt, Ne.symm hk]

theorem signalHeld_count_ne (p : HostPort) {v k : Nat} (now : Nat) (hk : k ≠ v) :
    atD (p.signalHeld v now).ring.msiCount k 0 = atD p.ring.msiCount k 0 := by
  unfold HostPort.signalHeld
  split
  · rfl
  · exact signal_count_ne p now hk

/-- Only vector 0 is held off (R148). -/
theorem signalHeld_of_pos (p : HostPort) {v : Nat} (now : Nat) (hv : 1 ≤ v) : p.signalHeld v now = p.signal v now :=
  if_neg (by simp [show v ≠ 0 by omega])

theorem signal_msiCount_length (p : HostPort) (v now : Nat) : (p.signal v now).ring.msiCount.length = p.ring.msiCount.length := by
  unfold HostPort.signal
  split
  · rfl
  · simp [setAt]

theorem signalHeld_msiCount_length (p : HostPort) (v now : Nat) :
    (p.signalHeld v now).ring.msiCount.length = p.ring.msiCount.length := by
  unfold HostPort.signalHeld
  split
  · rfl
  · exact signal_msiCount_length p v now

theorem signalHeld_msixTable (p : HostPort) (v now : Nat) : (p.signalHeld v now).window.msixTable = p.window.msixTable := by
  rw [HostPort.signalHeld_sameBut p v now]

/-- The vectors that `on` picks signal, in their order. -/
def HostPort.signals (p : HostPort) (on : Nat → Bool) (now : Nat) : HostPort :=
  (List.range 4).foldl (fun acc i => if on i then acc.signalHeld i now else acc) p

theorem foldl_signals_sameBut (on : Nat → Bool) (now : Nat) (l : List Nat) (p : HostPort) :
    p.sameBut (l.foldl (fun acc i => if on i then acc.signalHeld i now else acc) p) := by
  induction l generalizing p with
  | nil => exact HostPort.sameBut_refl p
  | cons i l ih =>
    refine HostPort.sameBut_trans ?_ (ih _)
    dsimp only
    split
    · exact HostPort.signalHeld_sameBut p i now
    · exact HostPort.sameBut_refl p

theorem foldl_signals_intStatus (on : Nat → Bool) (now : Nat) (l : List Nat) (p : HostPort) :
    (l.foldl (fun acc i => if on i then acc.signalHeld i now else acc) p).window.intStatus = p.window.intStatus := by
  induction l generalizing p with
  | nil => rfl
  | cons i l ih =>
    rw [List.foldl_cons, ih]
    split
    · exact HostPort.signalHeld_intStatus p i now
    · rfl

/-- A vector that is not picked keeps its count of messages. -/
theorem signals_count_off (p : HostPort) {on : Nat → Bool} {k : Nat} (now : Nat) (hk : k < 4) (hoff : on k = false) :
    atD (p.signals on now).ring.msiCount k 0 = atD p.ring.msiCount k 0 := by
  refine foldl_once (part := fun q : HostPort => atD q.ring.msiCount k 0) (act := id) (fun q => ?_) (fun q i hi => ?_)
    _ List.nodup_range (List.mem_range.mpr hk) p
  · simp [hoff]
  · split
    · exact signalHeld_count_ne q now (Ne.symm hi)
    · rfl

/-- What the count of a vector's messages rests on: the vector's mask, and the vectors there are. -/
def HostPort.countOf (p : HostPort) (k : Nat) : List Nat × Nat × Nat :=
  (p.window.msixTable, p.ring.msiCount.length, atD p.ring.msiCount k 0)

/-- One more message of a vector that is not masked. -/
def countUp (k : Nat) (c : List Nat × Nat × Nat) : List Nat × Nat × Nat :=
  if k < c.2.1 ∧ bit (atD c.1 (4 * k + 3) 1) 0 = false then (c.1, c.2.1, c.2.2 + 1) else c

theorem atD_setAt {α : Type} {l : List α} {k : Nat} (v d : α) (hk : k < l.length) : atD (setAt l k v) k d = v := by
  simp [atD, setAt, hk]

theorem signal_countOf (p : HostPort) (k now : Nat) : (p.signal k now).countOf k = countUp k (p.countOf k) := by
  unfold HostPort.signal
  by_cases hmask : bit (atD p.window.msixTable (4 * k + 3) 1) 0 = false
  · rw [if_neg (by simp [hmask])]
    by_cases hk : k < p.ring.msiCount.length
    · have hup : countUp k (p.countOf k) = (p.window.msixTable, p.ring.msiCount.length, atD p.ring.msiCount k 0 + 1) :=
        if_pos ⟨hk, hmask⟩
      rw [hup]
      simp only [HostPort.countOf, atD_setAt _ _ hk]
      rw [setAt, List.length_set]
    · have hup : countUp k (p.countOf k) = p.countOf k := if_neg fun h => hk h.1
      rw [hup]
      simp only [HostPort.countOf, setAt, List.set_eq_of_length_le (Nat.le_of_not_lt hk)]
  · have hup : countUp k (p.countOf k) = p.countOf k := if_neg fun h => hmask h.2
    rw [if_pos (by simpa using hmask), hup]
    rfl

/-- A vector that is picked and not masked counts one message (R552). -/
theorem signals_count_on (p : HostPort) {on : Nat → Bool} {k : Nat} (now : Nat) (h1 : 1 ≤ k) (hk : k < 4)
    (hlen : k < p.ring.msiCount.length) (hon : on k = true) (hmask : bit (atD p.window.msixTable (4 * k + 3) 1) 0 = false) :
    atD (p.signals on now).ring.msiCount k 0 = atD p.ring.msiCount k 0 + 1 := by
  have hcount : (p.signals on now).countOf k = countUp k (p.countOf k) := by
    refine foldl_once (part := fun q : HostPort => q.countOf k) (act := countUp k) (fun q => ?_) (fun q i hi => ?_)
      _ List.nodup_range (List.mem_range.mpr hk) p
    · rw [if_pos hon, signalHeld_of_pos q now h1]
      exact signal_countOf q k now
    · split
      · simp only [HostPort.countOf, signalHeld_msixTable, signalHeld_msiCount_length, signalHeld_count_ne q now (Ne.symm hi)]
      · rfl
  rw [countUp, if_pos ⟨hlen, hmask⟩] at hcount
  exact congrArg (fun c => c.2.2) hcount

theorem intEnableWrite_signals (hw : s.windowAnswers m = true) :
    exec (.intEnableWrite m v) s = .next (s.setHp m
      (({ s.hp m with window := { (s.hp m).window with intEnable := v % 16 } } : HostPort).signals
        (fun i => bit v i && bit (s.hp m).window.intStatus i) s.now)) := by
  change execIntEnableWrite m v s = _
  simp [execIntEnableWrite, hw, HostPort.signals]

theorem intStatusClear_clears (hw : s.windowAnswers m = true) :
    exec (.intStatusClear m v) s =
      .next (s.setWindow m { (s.hp m).window with intStatus := clearOnes (s.hp m).window.intStatus v }) := by
  change execIntStatusClear m v s = _
  simp [execIntStatusClear, hw]

theorem msixHoldoffExpiry_sends (hheld : (s.hp m).ring.msi0Held = true)
    (hdue : (s.hp m).ring.lastMsi0 + (s.hp m).window.intHoldoff * Config.usec ≤ s.now) :
    exec (.msixHoldoffExpiry m) s = .next (s.setHp m
      (({ s.hp m with ring := { (s.hp m).ring with msi0Held := false } } : HostPort).signal 0 s.now)) := by
  change execMsixHoldoffExpiry m s = _
  simp [execMsixHoldoffExpiry, hheld, hdue]

/-- A message of vector 0 that is not masked leaves the window, is dated, and is held no longer. -/
theorem signal_zero (p : HostPort) (now : Nat) (hmask : bit (atD p.window.msixTable 3 1) 0 = false)
    (hlen : 0 < p.ring.msiCount.length) :
    (p.signal 0 now).ring.msi0Held = false ∧ (p.signal 0 now).ring.lastMsi0 = now ∧
      atD (p.signal 0 now).ring.msiCount 0 0 = atD p.ring.msiCount 0 0 + 1 ∧ (p.signal 0 now).window = p.window := by
  refine ⟨?_, ?_, (HostPort.signal_count p 0 now 0 hlen).trans (if_pos ⟨rfl, hmask⟩), ?_⟩
  all_goals simp [HostPort.signal, hmask]

/-- Settles O25: one bit set of INT_STATUS at a time. -/
theorem interruptFlags : Obligations.InterruptFlags := by
  unfold Obligations.InterruptFlags
  intro m v s hw p
  refine ⟨⟨_, intStatusClear_clears hw, clearOnes_testBit _ _⟩, ?enable, fun hheld hdue hmask hlen => ?holdoff⟩
  case enable =>
    refine ⟨_, intEnableWrite_signals hw, setHp_hp .., ?_⟩
    rw [hp_setHp]
    have hsame := foldl_signals_sameBut (fun i => bit v i && bit (s.hp m).window.intStatus i) s.now (List.range 4)
      { s.hp m with window := { (s.hp m).window with intEnable := v % 16 } }
    refine ⟨?_, foldl_signals_intStatus .., ?_, fun k hk hoff => ?_, fun k h1 hk hlen hen hcause hmask => ?_⟩
    · exact (congrArg (fun q : HostPort => q.window.intEnable) hsame).trans rfl
    · exact (congrArg (fun q : HostPort => q.ring.fetching) hsame).trans rfl
    · exact signals_count_off _ s.now hk (by rcases hoff with hoff | hoff <;> simp [hoff, p] at *)
    · exact signals_count_on _ s.now h1 hk hlen (by simp [hen]; exact hcause) hmask
  case holdoff =>
    refine ⟨_, msixHoldoffExpiry_sends hheld hdue, setHp_hp .., ?_⟩
    rw [hp_setHp]
    exact signal_zero { s.hp m with ring := { (s.hp m).ring with msi0Held := false } } s.now hmask hlen

end Sys2Proof.Machine

/-! # O26, O27: the window's registers, resets of engines, the serial port and the management lane (R145 to R152, R550 to R555) -/
namespace Sys2Proof.Machine
open Host Sys2Proof

variable {s : State} {m : Mast} {v : Nat}

/-! ### The register window (R551, R552, R554) -/

theorem windowLow_write (hw : s.windowAnswers m = true) : exec (.windowHighHalfLatch m true 0x040 v) s = .next
    (s.setWindow m { (s.hp m).window with heldLow := (s.hp m).window.heldLow.put 0x040 (v % 2 ^ 32) }) := by
  change execWindowHighHalfLatch m true 0x040 v s = _
  simp [execWindowHighHalfLatch, hw, Window.wide]

theorem windowLow_read (hw : s.windowAnswers m = true) : exec (.windowHighHalfLatch m false 0x040 v) s = .next
    (s.setWindow m { (s.hp m).window with readLatch := (s.hp m).window.cmdRingBase / 2 ^ 32 }) := by
  change execWindowHighHalfLatch m false 0x040 v s = _
  simp [execWindowHighHalfLatch, hw, Window.wide]

/-- The high half goes with the low half that is held (R551). -/
theorem windowHigh_write {lo : Nat} (hw : s.windowAnswers m = true) (hen : (s.hp m).window.ringEnable = false)
    (hlo : (s.hp m).window.heldLow.find 0x040 = some lo) : exec (.windowHighHalfLatch m true 0x044 v) s = .next
    (s.setWindow m { (s.hp m).window with
      cmdRingBase := (v % 2 ^ 32 * 2 ^ 32 + lo) / 4096 * 4096, heldLow := (s.hp m).window.heldLow.drop 0x040 }) := by
  change execWindowHighHalfLatch m true 0x044 v s = _
  simp [execWindowHighHalfLatch, hw, Window.wide, Window.putWide, hen, Assoc.getD, hlo]

theorem windowRegister_holdoff (hw : s.windowAnswers m = true) : exec (.windowRegisterWrite m 0x020 v) s =
    .next (s.setWindow m { (s.hp m).window with intHoldoff := v % 2 ^ 16 }) := by
  change execWindowRegisterWrite m 0x020 v s = _
  simp [execWindowRegisterWrite, State.windowWrite, hw]

theorem windowRegister_maxPacket (hw : s.windowAnswers m = true) (hen : (s.hp m).window.ringEnable = false) (hmin : 4096 ≤ v)
    (hmax : v ≤ 65592) :
    exec (.windowRegisterWrite m 0x050 v) s = .next (s.setWindow m { (s.hp m).window with maxPacket := v }) := by
  change execWindowRegisterWrite m 0x050 v s = _
  simp [execWindowRegisterWrite, State.windowWrite, hw, hen, Nat.not_lt.mpr hmin, Config.maxPacketBytes, Nat.not_lt.mpr hmax]

theorem windowRegister_maxPacket_enabled (hw : s.windowAnswers m = true) (hen : (s.hp m).window.ringEnable = true) :
    exec (.windowRegisterWrite m 0x050 v) s = .next s := by
  change execWindowRegisterWrite m 0x050 v s = _
  simp [execWindowRegisterWrite, State.windowWrite, hw, hen]

/-! ### Discards (R507) and resets of engines (R545, R550, R555) -/

/-- A discard leaves the queues of every transport. -/
theorem discard_queues (s : State) (m : Mast) (tr tr' : Transport) (c : Nat) :
    ((s.discard m tr c).hp m).inQ tr' = (s.hp m).inQ tr' ∧ ((s.discard m tr c).hp m).outQ tr' = (s.hp m).outQ tr' := by
  have hport : ∀ i n, (s.bump m i n).port = s.port := fun i n => Keeps_same (bump_keeps m i n (keeps_refl 1024 s) rfl) .port rfl
  unfold State.discard
  cases tr
  case pcie => simp only [State.hp, hport, and_self]
  case mgmt => simp only [State.hp, hport, and_self]
  case csp =>
    dsimp only
    split
    · simp only [State.hp, hport, and_self]
    · simp only [State.hp, hport, Both_get_set]
      cases tr'
      · exact ⟨rfl, rfl⟩
      · exact ⟨rfl, rfl⟩
      · exact ⟨rfl, rfl⟩

theorem transportEngineReset_firstPublished (tr : Transport) (hv : s.md.mode ≠ .vault) : ∃ q : HostPort,
    exec (.transportEngineReset m tr .firstPublished) s = .next ((s.setHp m q).discard m tr 4) ∧
      q.inQ tr = (s.hp m).inQ tr ∧ q.outQ tr = (s.hp m).outQ tr := by
  refine ⟨{ s.hp m with mailbox := { (s.hp m).mailbox with inWr := ringAdvance 0x40 (s.hp m).mailbox.inWr 16 } }, ?_, ?_, ?_⟩
  · change execTransportEngineReset m tr .firstPublished s = _
    simp [execTransportEngineReset, hv, State.engineReset]
  · cases tr <;> rfl
  · cases tr <;> rfl

/-- Settles O26: register by register, then the two resets of an engine. -/
theorem windowWritesAndResets : Obligations.WindowWritesAndResets := by
  unfold Obligations.WindowWritesAndResets
  refine ⟨fun m s v lo hw => ⟨windowLow_write hw, windowLow_read hw, windowHigh_write hw, windowRegister_holdoff hw,
    windowRegister_maxPacket hw, windowRegister_maxPacket_enabled hw⟩, fun m tr s hv => ⟨?pcie, ?complete, ?first⟩⟩
  case pcie => exact congrArg Outcome.next (if_neg hv)
  case complete => exact congrArg Outcome.next (if_neg hv)
  case first =>
    obtain ⟨q, hexec, hin, hout⟩ := transportEngineReset_firstPublished (m := m) tr hv
    have hqueues := discard_queues (s.setHp m q) m tr tr 4
    rw [hp_setHp, hin, hout] at hqueues
    exact ⟨_, hexec, OnlyHalyard_trans (setHp_only s m q) (discard_only ..), discard_read (s.setHp m q) m tr 4, hqueues⟩

/-! ### The serial port (R149, R150, R152) -/

theorem cspWrite_delivers {len : Nat} (hv : s.md.mode ≠ .vault) (hboot : s.booting m = false)
    (hroom : (s.hp m).cspUsed + 65592 ≤ 131072) : exec (.cspWrite m (56 + len) len) s =
    .next (s.setHp m (({ s.hp m with lastRead := zeros (56 + len) } : HostPort).deliver .csp (56 + len))) := by
  have hroom' : (s.hp m).cspRoom = true := decide_eq_true hroom
  change execCspWrite m (56 + len) len s = _
  unfold execCspWrite
  have hboot' : (s.returned m (zeros (56 + len))).booting m = false := hboot
  simp [hv, hroom', hboot, State.returned]

theorem cspRead_partly {q : Packet} {rest : List Packet} {n : Nat} (hv : s.md.mode ≠ .vault) (hout : (s.hp m).outCsp = q :: rest)
    (hn : n < q.size) : exec (.cspRead m n) s =
    .next (s.setHp m { s.hp m with lastRead := zeros 4 ++ be 4 q.size ++ q.wire.take n }) := by
  change execCspRead m n s = _
  simp [execCspRead, hv, hout, Nat.not_le.mpr hn]

/-- A packet whose bytes have all been clocked out leaves the queue (R150). -/
theorem cspRead_whole {q : Packet} {rest : List Packet} {n : Nat} (hv : s.md.mode ≠ .vault) (hout : (s.hp m).outCsp = q :: rest)
    (hn : q.size ≤ n) : exec (.cspRead m n) s =
    .next (s.setHp m (({ s.hp m with lastRead := zeros 4 ++ be 4 q.size ++ q.wire.take n, outCsp := rest } : HostPort).sent q)) := by
  change execCspRead m n s = _
  simp [execCspRead, hv, hout, hn]

theorem cspFramingDiscard_discards {b : Nat} (hv : s.md.mode ≠ .vault) (h1 : b ≠ 1) (h2 : b ≠ 2) (h5 : b ≠ 5) :
    exec (.cspFramingDiscard m b) s = .next (s.discard m .csp 8) := by
  change execCspFramingDiscard m b s = _
  simp [execCspFramingDiscard, hv, h1, h2, h5]

/-- The management lane answers a service frame that asks for an answer (R151). -/
theorem mgmtServiceFrame_answers {f : ServiceFrame} (hv : s.md.mode ≠ .vault) (hf : f ≠ .fragment) (hf' : f ≠ .other) :
    exec (.mgmtServiceFrame m f) s = .next (s.setHp m { s.hp m with serviceAnswers := (s.hp m).serviceAnswers + 1 }) := by
  change execMgmtServiceFrame m f s = _
  cases f
  case fragment => exact absurd rfl hf
  case other => exact absurd rfl hf'
  all_goals exact congrArg Outcome.next (if_neg hv)

theorem mgmtServiceFrame_fragment (hv : s.md.mode ≠ .vault) :
    exec (.mgmtServiceFrame m .fragment) s = .next (s.discard m .mgmt 10) := by
  change execMgmtServiceFrame m .fragment s = _
  exact congrArg Outcome.next (if_neg hv)

/-- Settles O27: the serial port by its transfer, the management lane by its frame. -/
theorem serialAndManagement : Obligations.SerialAndManagement := by
  unfold Obligations.SerialAndManagement
  intro m s hv p
  refine ⟨fun len hboot hroom => cspWrite_delivers hv hboot hroom, fun q rest n hout => ⟨cspRead_partly hv hout, fun hn => ?read⟩,
    ?status, fun b h1 h2 h5 => ?framing, mgmtServiceFrame_answers hv (by simp) (by simp),
    mgmtServiceFrame_answers hv (by simp) (by simp), mgmtServiceFrame_answers hv (by simp) (by simp), ?fragment⟩
  case read =>
    refine ⟨_, cspRead_whole hv hout hn, setHp_hp .., ?_⟩
    rw [hp_setHp]
    exact ⟨rfl, rfl, rfl⟩
  case status => exact congrArg Outcome.next (if_neg hv)
  case framing => exact ⟨_, cspFramingDiscard_discards hv h1 h2 h5, discard_only .., discard_read s m .csp 8⟩
  case fragment => exact ⟨_, mgmtServiceFrame_fragment hv, discard_only .., discard_read s m .mgmt 10⟩

end Sys2Proof.Machine

/-! # O21: what a scheduled command does at its step (R62, R80, R104, R119, R126, R172, R265, R267, R508, R526)

A command that is due and passes the checks made again leaves the queue by `takeSched`, which leaves all but the queue, the
seats and the record of missed steps; its own operation then acts in the step that begins. -/
namespace Sys2Proof.Machine
open Host Sys2Proof

variable {s t : State}

/-! ### Leaving the queue (R62, R63, R171) -/

/-- The state in which the action of a command happens: the queue without it, in the step that begins. -/
def State.dueState (s : State) (c : SchedCmd) : State := { s.takeSched c with step := s.step + 1 }

theorem noteMissed_mt (s : State) (c : SchedCmd) (m : Mast) : ∃ l, (s.noteMissed c).mt m = { s.mt m with missed := l } := by
  simp only [State.noteMissed]
  split
  · exact ⟨_, rfl⟩
  · by_cases hm : m = s.lead.other
    · subst hm
      exact ⟨_, by simp [State.mt]; rfl⟩
    · exact ⟨(s.mt m).missed, by simp [State.mt, Both_get_set_ne _ _ hm]⟩

theorem takeSched_mt (s : State) (c : SchedCmd) (m : Mast) : ∃ l, (s.takeSched c).mt m = { s.mt m with missed := l } := by
  obtain ⟨l, hl⟩ := noteMissed_mt
    { s with hal := { s.hal with sched := s.hal.sched.filter (fun x => x.order != c.order) } } c m
  refine ⟨l, ?_⟩
  unfold State.takeSched
  rw [State.mt, (answerDue_only ..).rest]
  exact hl

@[simp] theorem takeSched_tst (c : SchedCmd) (m : Mast) : (s.takeSched c).tst m = s.tst m := by
  obtain ⟨l, hl⟩ := takeSched_mt s c m
  simp only [State.tst, hl]

@[simp] theorem takeSched_lines (c : SchedCmd) (m : Mast) : ((s.takeSched c).mt m).lines = (s.mt m).lines := by
  obtain ⟨l, hl⟩ := takeSched_mt s c m
  rw [hl]

@[simp] theorem takeSched_captain (c : SchedCmd) : (s.takeSched c).captain = s.captain := by
  simp only [State.captain, takeSched_tst, takeSched_lines]

@[simp] theorem takeSched_inTandem (c : SchedCmd) : (s.takeSched c).inTandem = s.inTandem := by
  simp only [State.inTandem, takeSched_tst]

theorem dueState_captain (c : SchedCmd) : (s.dueState c).captain = s.captain := takeSched_captain c

/-- The parts that a command's leaving the queue does not reach. -/
theorem takeSched_keeps_self (c : SchedCmd) : Keeps 352 s (s.takeSched c) := takeSched_keeps c (keeps_refl 352 s) rfl

/-- A command that passes the checks made again and whose action succeeds has acted, in the step that begins (R172). -/
theorem applySched_acts {c : SchedCmd} {r : State} (hre : (s.dueState c).recheck c = none) (hd : c.code ≠ 0x0504)
    (ha : (s.dueState c).applyAction c ((s.dueState c).appliers c.stokerHolds) = (r, stOk)) :
    s.applySched c = { r with step := s.step } := by
  unfold State.dueState at hre ha
  simp only [State.applySched, State.atStep, hre, State.settleDefault, hd, if_false, ha, if_true, takeSched_step]

/-- EFFECTIVE_STEP_APPLY of such a command. -/
theorem exec_effectiveStepApply_acts {c : SchedCmd} {k : Mast} {r : State} (hcap : s.captain = some k)
    (hdue : s.firstDue (fun _ => true) = some c) (hre : (s.dueState c).recheck c = none) (hd : c.code ≠ 0x0504)
    (ha : (s.dueState c).applyAction c ((s.dueState c).appliers c.stokerHolds) = (r, stOk)) :
    exec .effectiveStepApply s = .next { r with step := s.step } := by
  rw [exec_effectiveStepApply_of_due (by rw [hcap]; rfl) hdue, applySched_acts hre hd ha]

/-! ### The action of each opcode -/

theorem applyAction_snapshot {c : SchedCmd} (hc : c.code = 0x0A04) (s : State) (ms : List Mast) :
    s.applyAction c ms = s.applySnapshot c := by
  unfold State.applyAction
  simp only [hc, Nat.reduceDiv, Nat.reduceMod, Nat.reduceEqDiff, if_false, if_true]

theorem applyAction_swap {c : SchedCmd} (hc : c.code = 0x0902) (s : State) (ms : List Mast) :
    s.applyAction c ms = s.applySwap c ms := by
  unfold State.applyAction
  simp only [hc, Nat.reduceDiv, Nat.reduceMod, Nat.reduceEqDiff, if_false, if_true]

theorem applyAction_tack {c : SchedCmd} (hc : c.code = 0x0403) (s : State) (ms : List Mast) :
    s.applyAction c ms = s.applyTack c ms := by
  unfold State.applyAction
  simp only [hc, Nat.reduceDiv, Nat.reduceMod, Nat.reduceEqDiff, if_false, if_true]

theorem applyAction_testRoute {c : SchedCmd} (hc : c.code = 0x0B06) (s : State) (ms : List Mast) :
    s.applyAction c ms = s.applyTestRoute c ms := by
  unfold State.applyAction
  simp only [hc, Nat.reduceDiv, Nat.reduceMod, Nat.reduceEqDiff, if_false, if_true]

theorem applyAction_alarmActivate {c : SchedCmd} (hc : c.code = 0x0D01) (s : State) (ms : List Mast) :
    s.applyAction c ms = s.applyAlarmActivate c ms := by
  unfold State.applyAction
  simp only [hc, Nat.reduceDiv, Nat.reduceMod, Nat.reduceEqDiff, if_false, if_true]

/-! ### Datapaths of several masts -/

/-- A change of the datapaths of masts named once each reaches each of them once. -/
theorem changeDp_get {ms : List Mast} {m : Mast} (f : Datapath → Datapath) (hms : ms.Nodup) (hm : m ∈ ms) :
    (s.changeDp ms f).dp.get m = f (s.dp.get m) := by
  unfold State.changeDp
  refine foldl_once (part := fun u : State => u.dp.get m) (act := f) (fun u => ?_) (fun u k hk => ?_) ms hms hm s
  · simp
  · simp [Both_get_set_ne _ _ (Ne.symm hk)]

/-- Only datapaths change. -/
theorem changeDp_eq (s : State) (ms : List Mast) (f : Datapath → Datapath) :
    s.changeDp ms f = { s with dp := (s.changeDp ms f).dp } := by
  unfold State.changeDp
  induction ms generalizing s with
  | nil => rfl
  | cons m ms ih =>
    rw [List.foldl_cons]
    rw [ih]
    rfl

theorem appliers_nodup (s : State) (b : Bool) : (s.appliers b).Nodup := List.Pairwise.filter _ (by decide)

theorem captain_tst {k : Mast} (h : s.captain = some k) : s.tst k = .captain := by
  unfold State.captain at h
  split at h
  · next ha =>
    simp only [Bool.and_eq_true, decide_eq_true_eq] at ha
    cases h
    exact ha.1
  · split at h
    · next hb => cases h; exact hb
    · cases h

theorem captain_mem_appliers {k : Mast} (b : Bool) (h : s.captain = some k) : k ∈ s.appliers b := by
  refine List.mem_filter.mpr ⟨?_, by simp [captain_tst h]⟩
  cases k
  · exact List.mem_cons_self
  · exact List.mem_cons_of_mem _ List.mem_cons_self

theorem lead_of_captain {k : Mast} (h : s.captain = some k) : s.lead = k := by simp [State.lead, h]

/-! ### The overlay leaves the activations (R294 to R298) -/

theorem setDuck_acts (d : Datapath) (ch n len : Nat) (target : Int) : (d.setDuck ch n len target).acts = d.acts := by
  unfold Datapath.setDuck
  extract_lets cur
  split
  · rfl
  · rfl

theorem foldl_acts {α : Type} (f : Datapath → α → Datapath) (hf : ∀ d a, (f d a).acts = d.acts) (l : List α) (d : Datapath) :
    (l.foldl f d).acts = d.acts := by
  induction l generalizing d with
  | nil => rfl
  | cons a l ih => exact (ih _).trans (hf d a)

theorem followZone_acts (d : Datapath) (p : Profile) (z : ZoneItem) (n len : Nat) : (d.followZone p z n len).1.acts = d.acts := by
  unfold Datapath.followZone
  dsimp only
  split
  · exact foldl_acts _ (fun d a => setDuck_acts ..) _ d
  · exact foldl_acts _ (fun d a => setDuck_acts ..) _ d

/-- The overlay follows the activations and leaves them (R296). -/
theorem follow_acts (d : Datapath) (prof : Option Profile) (alarm : Bool) (n len : Nat) :
    (d.follow prof alarm n len).1.acts = d.acts := by
  unfold Datapath.follow
  refine (foldl_acts _ (fun d a => setDuck_acts ..) _ _).trans ?_
  cases prof with
  | none => rfl
  | some p =>
    have hzones : ∀ (l : List ZoneItem) (q : Datapath × List ZoneChange), (l.foldl (fun acc z =>
        ((acc.1.followZone p z n len).1, acc.2 ++ (acc.1.followZone p z n len).2)) q).1.acts = q.1.acts := by
      intro l
      induction l with
      | nil => exact fun _ => rfl
      | cons z l ih => exact fun q => (ih _).trans (followZone_acts ..)
    exact hzones p.zones (d, [])

theorem overlayOn_acts (s : State) (alarm : Bool) (m k : Mast) (changes : List ZoneChange) :
    ((s.overlayOn alarm m changes).1.dp.get k).acts = (s.dp.get k).acts := by
  unfold State.overlayOn
  split
  · rfl
  · by_cases hk : k = m
    · subst hk
      simp only [State.setDp_dp, Both_get_set]
      exact follow_acts ..
    · simp only [State.setDp_dp, Both_get_set_ne _ _ hk]

theorem foldl_zoneEvent_keeps (l : List ZoneChange) (s : State) : Keeps 96 s (l.foldl State.zoneEvent s) :=
  keeps_foldl _ _ (keeps_refl 96 s) fun t c => zoneEvent_keeps c (keeps_refl 96 t) rfl

theorem followOverlay_acts (s : State) (k : Mast) : (s.followOverlay.dp.get k).acts = (s.dp.get k).acts := by
  unfold State.followOverlay
  split
  · rfl
  · dsimp only
    rw [Keeps_same (foldl_zoneEvent_keeps _ _) .dp rfl, overlayOn_acts, overlayOn_acts]

theorem zoneActive_congr (hd : (t.dp.get t.lead).acts = (s.dp.get s.lead).acts) : t.zoneActive = s.zoneActive := by
  simp only [State.zoneActive, State.leadDp, hd]

/-! ### The package enters ALARM (R98, R119) -/

theorem enterMode_md (mode base : Mode) (cause : Nat) :
    (s.enterMode mode base cause).md = { s.md with mode := mode, base := base, modeStep := s.step } := by
  unfold State.enterMode
  rw [Keeps_same (stateChanged_keeps (keeps_refl 64 _) rfl) .md rfl, Keeps_same (event_keeps _ _ _ (keeps_refl 96 _) rfl) .md rfl]

/-- A shedding that is planned moves no mode (R121). -/
theorem planShed_mode (s : State) :
    s.planShed.md.mode = s.md.mode ∧ s.planShed.md.base = s.md.base ∧ s.planShed.md.modeStep = s.md.modeStep := by
  unfold State.planShed
  split
  · exact ⟨rfl, rfl, rfl⟩
  · split
    · exact ⟨rfl, rfl, rfl⟩
    · split
      · exact ⟨rfl, rfl, rfl⟩
      · exact ⟨rfl, rfl, rfl⟩

/-- A zone that becomes active in QUIET or SERVICE: ALARM, in this step and above the base mode (R98, R119). -/
theorem alarmFromRun_mode (s : State) :
    s.alarmFromRun.md.mode = .alarm ∧ s.alarmFromRun.md.base = s.md.base ∧ s.alarmFromRun.md.modeStep = s.step := by
  unfold State.alarmFromRun
  extract_lets s1 at'
  have hmd : s1.md = { s.abortMarches.md with mode := .alarm, base := s.md.base, modeStep := s.abortMarches.step } :=
    enterMode_md (s := s.abortMarches) .alarm s.md.base 1
  have hsame : s.abortMarches.step = s.step := Keeps_same (abortMarches_keeps (keeps_refl 4194400 s) rfl) .step rfl
  obtain ⟨hmode, hbase, hstep⟩ := planShed_mode
    { s1 with md := { s1.md with wake := s1.md.wake.map (fun w => { w with triggerAt := at' }) } }
  clear_value at' s1
  exact ⟨hmode.trans (by rw [hmd]), hbase.trans (by rw [hmd]), hstep.trans (by rw [hmd, hsame])⟩

theorem lead_of_tan (h : t.tan = s.tan) : t.lead = s.lead := by
  unfold State.lead State.captain State.tst State.mt
  rw [h]

/-- Where a zone is active in QUIET or SERVICE, a change of the activations brings ALARM and leaves them (R119, R296). -/
theorem alarmChanged_onset (s : State) (hm : s.md.mode = .quiet ∨ s.md.mode = .service) (hz : s.zoneActive = true) :
    s.alarmChanged.md.mode = .alarm ∧ s.alarmChanged.md.base = s.md.base ∧ s.alarmChanged.md.modeStep = s.step ∧
      ∀ k, (s.alarmChanged.dp.get k).acts = (s.dp.get k).acts := by
  have hf : Keeps 16480 s s.followOverlay := followOverlay_keeps (keeps_refl 16480 s) rfl
  have hmd : s.followOverlay.md = s.md := Keeps_same hf .md rfl
  have hstep : s.followOverlay.step = s.step := Keeps_same hf .step rfl
  have hlead : s.followOverlay.lead = s.lead := lead_of_tan (Keeps_same hf .tan rfl)
  have hzone : s.followOverlay.zoneActive = true := by
    rw [← hz]; exact zoneActive_congr (by rw [hlead]; exact followOverlay_acts s s.lead)
  have hacts := followOverlay_acts s
  unfold State.alarmChanged
  generalize s.followOverlay = f at hmd hstep hzone hacts
  rw [if_pos hzone]
  have hcalm : f.md.mode ≠ .alarm := by rw [hmd]; rcases hm with hm | hm <;> simp [hm]
  dsimp only
  rw [if_neg hcalm]
  generalize hg : ({ f with md := { f.md with clearedAt := none } } : State) = g
  have hrun : g.alarmOnset = g.spoilModeSets.alarmFromRun := by
    have hgm : g.spoilModeSets.md.mode = s.md.mode := by rw [← hg, ← hmd]; rfl
    unfold State.alarmOnset
    rcases hm with hm | hm <;> simp [hgm, hm]
  have hdp : g.spoilModeSets.alarmFromRun.dp = f.dp :=
    (Keeps_same (alarmFromRun_keeps (keeps_refl 4194528 g.spoilModeSets) rfl) .dp rfl).trans (by rw [← hg]; rfl)
  obtain ⟨hmode, hbase, hat⟩ := alarmFromRun_mode g.spoilModeSets
  rw [hrun]
  refine ⟨hmode, hbase.trans ?_, hat.trans ?_, fun k => by rw [hdp, hacts]⟩
  · rw [← hg, ← hmd]; rfl
  · rw [← hg, ← hstep]; rfl

/-! ### The cases of O21 -/

theorem readied_tests (l : List TestRoute) (r y : TestRoute) (on : Bool) (hc : y.cls = r.cls) (ho : y.output = r.output) :
    (y ∈ (if on then l.filter (fun x => !(x.cls == r.cls && x.output == r.output)) ++ [r]
      else l.filter (fun x => !(x.cls == r.cls && x.output == r.output)))) ↔ on = true ∧ y = r := by
  cases on
  · simp [hc, ho]
  · simp [hc, ho]

/-- Quiet to SERVICE, in the step that begins (R104). -/
theorem changeMode_service (hm : s.md.mode = .quiet) :
    (s.changeMode .service).md = { s.md with mode := .service, base := .service, modeStep := s.step } ∧
      (s.changeMode .service).rigs = s.rigs ∧ (s.changeMode .service).tan = s.tan := by
  have hto : s.changeMode .service = (s.enterMode .service .service 0).powerVideo.settle := by
    unfold State.changeMode
    generalize s.md.mode = m at hm
    subst hm
    rw [if_neg (by decide)]
  have hvideo : Keeps 4916832 (s.enterMode .service .service 0) (s.enterMode .service .service 0).powerVideo.settle :=
    settle_keeps (powerVideo_keeps (keeps_refl 4916832 _) rfl) rfl
  have henter : Keeps 224 s (s.enterMode .service .service 0) := enterMode_keeps _ _ _ (keeps_refl 224 s) rfl
  rw [hto]
  exact ⟨(Keeps_same hvideo .md rfl).trans (enterMode_md ..), (Keeps_same hvideo .rigs rfl).trans (Keeps_same henter .rigs rfl),
    (Keeps_same hvideo .tan rfl).trans (Keeps_same henter .tan rfl)⟩

theorem snapshot_takes_effect {c : SchedCmd} {k : Mast} (hcap : s.captain = some k) (hdue : s.firstDue (fun _ => true) = some c)
    (hre : (s.dueState c).recheck c = none) (hc : c.code = 0x0A04) :
    exec .effectiveStepApply s = .next { s.takeSched c with
      ctr := { a := (s.takeSched c).ctr.a.freeze c.aux ((s.takeSched c).serves .a),
               b := (s.takeSched c).ctr.b.freeze c.aux ((s.takeSched c).serves .b) },
      snap := { s.snap with pendingAt := none, frozenAt := some (s.step + 1), seat := c.seat, hostSeq := c.hostSeq } } := by
  rw [exec_effectiveStepApply_acts hcap hdue hre (by rw [hc]; decide) (applyAction_snapshot hc _ _)]
  have hsnap : (s.takeSched c).snap = s.snap := Keeps_same (takeSched_keeps_self c) .snap rfl
  simp only [State.dueState, hsnap, takeSched_step]
  rfl

theorem swap_takes_effect {c : SchedCmd} {k : Mast} (hcap : s.captain = some k) (hdue : s.firstDue (fun _ => true) = some c)
    (hre : (s.dueState c).recheck c = none) (hc : c.code = 0x0902) (ht : s.inTandem = true) :
    exec .effectiveStepApply s = .next ((s.takeSched c).yieldRole k true 0xFFFF) := by
  have hswap : (s.dueState c).applySwap c ((s.dueState c).appliers c.stokerHolds) =
      ((s.dueState c).yieldRole k true 0xFFFF, stOk) := by
    have htandem : (s.dueState c).inTandem = true := (takeSched_inTandem c).trans ht
    simp only [State.applySwap, dueState_captain, hcap, htandem, if_true]
  rw [exec_effectiveStepApply_acts hcap hdue hre (by rw [hc]; decide) ((applyAction_swap hc _ _).trans hswap)]
  rw [← takeSched_step (s := s) c]
  rfl

/-- A Captain that yields its role still has it (R79, R80). -/
theorem yieldRole_yields (s : State) (k : Mast) :
    s.yieldRole k true 0xFFFF = { s with tan := (s.yieldRole k true 0xFFFF).tan } ∧
      ((s.yieldRole k true 0xFFFF).mt k).yields = true ∧ (s.yieldRole k true 0xFFFF).tan.planned = true ∧
      (s.yieldRole k true 0xFFFF).tst k = s.tst k ∧ (s.yieldRole k true 0xFFFF).tst k.other = s.tst k.other := by
  cases k
  · exact ⟨rfl, rfl, rfl, rfl, rfl⟩
  · exact ⟨rfl, rfl, rfl, rfl, rfl⟩

theorem tack_takes_effect {c : SchedCmd} {k : Mast} {p : TackPlan} (hcap : s.captain = some k)
    (hdue : s.firstDue (fun _ => true) = some c) (hre : (s.dueState c).recheck c = none) (hc : c.code = 0x0403)
    (hpend : s.rigs.state = .tackPending) (hplan : s.rigs.plan = some p)
    (hfit : ((s.dueState c).tackPlan p.kind (s.step + 1) p.fade c.seat c.hostSeq).isSome = true) :
    ∃ dp, exec .effectiveStepApply s = .next { s.takeSched c with
      dp := dp, rigs := { s.rigs with state := .tacking, plan := some { p with step := s.step + 1 } } } := by
  have hrigs : (s.takeSched c).rigs = s.rigs := Keeps_same (takeSched_keeps_self c) .rigs rfl
  have htack : (s.dueState c).applyTack c ((s.dueState c).appliers c.stokerHolds) =
      ({ (s.dueState c).changeDp ((s.dueState c).appliers c.stokerHolds)
           (fun d => d.startTack { p with step := s.step + 1 } (readRig (s.dueState c).rigs.image)) with
         rigs := { s.rigs with state := .tacking, plan := some { p with step := s.step + 1 } } }, stOk) := by
    have hstate : (s.dueState c).rigs.state = .tackPending := (congrArg RigSlots.state hrigs).trans hpend
    have hheld : (s.dueState c).rigs.plan = some p := (congrArg RigSlots.plan hrigs).trans hplan
    obtain ⟨q, hq⟩ := Option.isSome_iff_exists.mp hfit
    unfold State.applyTack
    rw [hstate, hheld]
    dsimp only
    rw [show (s.dueState c).step = s.step + 1 from rfl, hq]
    dsimp only
    rw [changeDp_eq]
    rw [show (s.dueState c).rigs = s.rigs from hrigs]
  rw [exec_effectiveStepApply_acts hcap hdue hre (by rw [hc]; decide) ((applyAction_tack hc _ _).trans htack)]
  refine ⟨((s.dueState c).changeDp ((s.dueState c).appliers c.stokerHolds)
    (fun d => d.startTack { p with step := s.step + 1 } (readRig (s.dueState c).rigs.image))).dp, ?_⟩
  rw [changeDp_eq]
  generalize ((s.dueState c).changeDp _ _).dp = dp
  rw [show s.dueState c = { s.takeSched c with step := s.step + 1 } from rfl]
  generalize hu : s.takeSched c = u
  rw [show s.step = u.step by rw [← hu, takeSched_step]]

theorem modeSet_takes_effect {c : SchedCmd} {k : Mast} (hcap : s.captain = some k) (hdue : s.firstDue (fun _ => true) = some c)
    (hre : (s.dueState c).recheck c = none) (hc : c.code = 0x0302) (hm : s.md.mode = .quiet)
    (hto : Mode.ofCode (fld c.payload 0 1) = some .service)
    (hlast : ∀ y ∈ s.hal.sched, y.order ≠ c.order → y.code = 0x0302 → y.effStep = c.effStep → y.order ≤ c.order) :
    exec .effectiveStepApply s = .next { (s.dueState c).changeMode .service with step := s.step } := by
  have hmode : (s.dueState c).md.mode = .quiet := (congrArg ModeState.mode (takeSched_md c)).trans hm
  have hsole : (s.dueState c).hal.sched.any
      (fun x => x.code == 0x0302 && x.effStep == c.effStep && decide (c.order < x.order)) = false := by
    rw [show (s.dueState c).hal.sched = s.hal.sched.filter (fun x => x.order != c.order) from takeSched_sched c]
    simpa [List.any_eq_false] using hlast
  have hset : (s.dueState c).applyModeSet c ((s.dueState c).appliers c.stokerHolds) =
      ((s.dueState c).changeMode .service, stOk) := by
    simp [State.applyModeSet, hto, hsole, calmOnly, hmode, modeAllowed]
  rw [exec_effectiveStepApply_acts hcap hdue hre (by rw [hc]; decide) ((applyAction_modeSet hc _ _).trans hset)]

theorem testRoute_takes_effect {c : SchedCmd} {k : Mast} (hcap : s.captain = some k) (hdue : s.firstDue (fun _ => true) = some c)
    (hre : (s.dueState c).recheck c = none) (hc : c.code = 0x0B06) :
    ∃ t, exec .effectiveStepApply s = .next t ∧ t = { s.takeSched c with tests := t.tests } ∧
      (∀ r : TestRoute, r.cls = fld c.payload 0 1 → r.output = fld c.payload 2 2 → (r ∈ t.tests ↔
        bit (fld c.payload 1 1) 0 = true ∧ r.signal = fld c.payload 4 1 ∧ r.src = fld c.payload 6 2)) := by
  refine ⟨_, exec_effectiveStepApply_acts hcap hdue hre (by rw [hc]; decide) (applyAction_testRoute hc _ _), ?_,
    fun r hcls hout => ?_⟩
  · rw [← takeSched_step (s := s) c]
    rfl
  · refine (readied_tests _ _ r _ hcls hout).trans (and_congr_right fun _ => ?_)
    constructor
    · rintro rfl
      exact ⟨rfl, rfl⟩
    · rintro ⟨hsig, hsrc⟩
      cases r
      simp_all

theorem alarmActivate_takes_effect {c : SchedCmd} {k : Mast} (hcap : s.captain = some k)
    (hdue : s.firstDue (fun _ => true) = some c) (hre : (s.dueState c).recheck c = none) (hc : c.code = 0x0D01)
    (hm : s.md.mode = .quiet ∨ s.md.mode = .service) :
    ∃ t, exec .effectiveStepApply s = .next t ∧ t.step = s.step ∧ t.md.mode = .alarm ∧ t.md.base = s.md.base ∧
      t.md.modeStep = s.step + 1 ∧
      ∃ a ∈ (t.dp.get k).acts, a.trigger = 1 ∧ a.priority = fld c.payload 2 1 ∧ a.zones = alarmZones 8 c.payload := by
  refine ⟨_, exec_effectiveStepApply_acts hcap hdue hre (by rw [hc]; decide) (applyAction_alarmActivate hc _ _), rfl, ?_⟩
  generalize hx : s.dueState c = x
  have hxmd : x.md = s.md := by rw [← hx]; exact takeSched_md c
  have hxstep : x.step = s.step + 1 := by rw [← hx]; rfl
  have hxcap : x.captain = some k := by rw [← hx]; exact (dueState_captain c).trans hcap
  dsimp only [State.applyAlarmActivate]
  generalize hact : (⟨1, 0, fld c.payload 2 1, x.startSource (fld c.payload 3 1) (fld c.payload 4 2), fld c.payload 6 2, 0, x.step,
    alarmZones 8 c.payload⟩ : Activation) = a
  have hget := changeDp_get (s := x) (fun d => d.activate a) (appliers_nodup x c.stokerHolds)
    (captain_mem_appliers c.stokerHolds hxcap)
  have heq := changeDp_eq x (x.appliers c.stokerHolds) (fun d => d.activate a)
  generalize x.changeDp (x.appliers c.stokerHolds) (fun d => d.activate a) = y at hget heq
  have hmem : a ∈ (y.dp.get k).acts := by rw [hget]; exact List.mem_append_right _ List.mem_cons_self
  have hlead : y.lead = k := by
    rw [lead_of_tan (s := x) (by rw [heq])]; exact lead_of_captain hxcap
  have hzone : y.zoneActive = true := by
    simp only [State.zoneActive, State.leadDp, hlead, Bool.not_eq_true', List.isEmpty_eq_false_iff]
    exact List.ne_nil_of_mem hmem
  obtain ⟨hmode, hbase, hat, hacts⟩ := alarmChanged_onset y (by rw [heq]; simpa only [hxmd] using hm) hzone
  refine ⟨hmode, hbase.trans ?_, hat.trans ?_, a, by rw [hacts k]; exact hmem, ?_, ?_, ?_⟩
  · rw [heq, ← hxmd]
  · rw [heq, ← hxstep]
  · rw [← hact]
  · rw [← hact]
  · rw [← hact]

/-- Settles O21, opcode by opcode. -/
theorem commandsTakeEffect : Obligations.CommandsTakeEffect := by
  unfold Obligations.CommandsTakeEffect
  intro s c k hcap hdue u x hre
  refine ⟨snapshot_takes_effect hcap hdue hre, fun hc ht => ⟨_, swap_takes_effect hcap hdue hre hc ht, ?swap⟩,
    fun p hc hpend hplan hfit => ?tack, fun hc hm hto hlast => ?mode, testRoute_takes_effect hcap hdue hre,
    alarmActivate_takes_effect hcap hdue hre⟩
  case swap =>
    obtain ⟨hrest, hyields, hplanned, hk, hother⟩ := yieldRole_yields (s.takeSched c) k
    rw [takeSched_tst] at hk hother
    exact ⟨hrest, hyields, hplanned, hk, hother⟩
  case tack =>
    obtain ⟨dp, hexec⟩ := tack_takes_effect hcap hdue hre hc hpend hplan hfit
    exact ⟨_, hexec, rfl, rfl⟩
  case mode =>
    obtain ⟨hmd, hrigs, htan⟩ := changeMode_service (s := s.dueState c)
      ((congrArg ModeState.mode (takeSched_md c)).trans hm)
    refine ⟨_, modeSet_takes_effect hcap hdue hre hc hm hto hlast, rfl, hmd.trans ?_, hrigs.trans ?_, htan⟩
    · rw [show (s.dueState c).md = s.md from takeSched_md c]
      rfl
    · exact Keeps_same (takeSched_keeps_self c) .rigs rfl

end Sys2Proof.Machine

/-! # O1, O3: a step runs the front of the queue, and the package is in order at reset -/
namespace Sys2Proof.Machine
open Host Sys2Proof

/-- Settles O1: by the definition of a step. -/
theorem stepRunsTheFront : Obligations.StepRunsTheFront := by
  unfold Obligations.StepRunsTheFront
  refine ⟨fun c rest s h => ?_, fun s h => ?_⟩
  · simp only [step, h]
  · simp only [step, h]

/-- Settles O3: eight seats without ledgers, no scheduled command, and sixteen empty banks on each mast. -/
theorem resetInv : Obligations.ResetInv := by
  unfold Obligations.ResetInv
  exact ⟨by decide, by decide, by decide⟩

end Sys2Proof.Machine

/-! # O28, O29: power, and the resets of the package and of one mast (R98, R105, R130, R131, R533, R626)

`packageReset` boots both masts and keeps the crow's nest, OTP and flash; `resetMast` boots one. The logs are flushed, the
memories wiped and the sessions closed before them, and none of that reaches the modes. -/
namespace Sys2Proof.Machine
open Host Sys2Proof

variable {s t : State} {m : Mast}

/-! ### What goes before a reset -/

theorem flushLog_wipeRows_keeps (s : State) (m : Mast) (w : Nat → Bool) : Keeps 1632 s ((s.flushLog m).wipeRows m w) :=
  wipeRows_keeps m w (flushLog_keeps m (keeps_refl 1632 s) rfl) rfl

/-- Both logs flushed and the work on all rows ended (R492, R534). -/
def State.cleared (s : State) : State :=
  (((s.flushLog .a).flushLog .b).wipeRows .a (fun _ => true)).wipeRows .b (fun _ => true)

theorem cleared_keeps (s : State) : Keeps 1632 s s.cleared :=
  wipeRows_keeps _ _ (wipeRows_keeps _ _ (flushLog_keeps _ (flushLog_keeps _ (keeps_refl 1632 s) rfl) rfl) rfl) rfl

theorem cleared_md (s : State) : s.cleared.md = s.md := Keeps_same (cleared_keeps s) .md rfl

theorem cleared_sec (s : State) : s.cleared.sec = s.sec := Keeps_same (cleared_keeps s) .sec rfl

/-! ### The package boots (R131) -/

/-- What a reset of the package leaves: BOOT of the next BOOT_COUNT, with its cause in the crow's nest and no session, and of
the security state only the writes that waited are gone. -/
structure State.Rebooted (s t : State) (cause : Nat) : Prop where
  mode : t.md.mode = .boot
  count : t.md.bootCount = s.md.bootCount + 1
  sessions : t.hal.sessions = []
  lifecycleReset : t.md.lifecycleReset = none
  sec : t.sec = { s.sec with writes := [], heldOtp := [] }
  resets : t.md.nest.resets.head? = some { cause := cause, mast := 2, bootCount := s.md.bootCount + 1, rtc := s.md.nest.rtc }
  held : ∀ k, (t.md.boot.get k).held = (s.md.boot.get k).held
  vnestLow : t.md.vnestLow = s.md.vnestLow

theorem packageReset_rebooted (s : State) (cause : Nat) (powerOn : Bool) : s.Rebooted (s.packageReset cause powerOn) cause := by
  have hmd := cleared_md s
  have hsec := cleared_sec s
  unfold State.cleared at hmd hsec
  unfold State.packageReset
  generalize (((s.flushLog .a).flushLog .b).wipeRows .a (fun _ => true)).wipeRows .b (fun _ => true) = c at hmd hsec
  refine ⟨rfl, ?_, rfl, rfl, ?_, ?_, fun k => ?_, ?_⟩
  · rw [← hmd]; rfl
  · rw [← hsec]; rfl
  · rw [← hmd]; rfl
  · rw [← hmd]; cases k <;> rfl
  · rw [← hmd]; rfl

/-! ### Power comes and goes (R105, R130, R533) -/

theorem packageReset_powerGood (s : State) (cause : Nat) (powerOn : Bool) (k : Mast) :
    ((s.packageReset cause powerOn).md.boot.get k).powerGood = (s.md.boot.get k).powerGood := by
  have hmd := cleared_md s
  unfold State.cleared at hmd
  unfold State.packageReset
  generalize (((s.flushLog .a).flushLog .b).wipeRows .a (fun _ => true)).wipeRows .b (fun _ => true) = c at hmd
  rw [← hmd]
  cases k <;> rfl

/-- The state in which a mast's rails are good and its power-good is no longer pending. -/
def State.powered (s : State) (m : Mast) : State :=
  { s.railsGood m with md := { s.md with vnestLow := s.md.vnestLow.set m none } }

/-- Power-good of a mast, in a state whose rails are good (R105). -/
theorem exec_powerGood (hp : (s.md.boot.get m).powerGood = false) :
    exec (.powerGood m) s = .next
      (let u := (if s.md.mode = .vault then s.packageReset 1 true else s).powered m
       let b := u.md.boot.get m
       (u.setAlive m true).setBoot m { b with
         powerGood := true
         phase := if !b.held && !b.failed && !(u.sup.get m).hot && u.md.mode != .lockout then 1 else 0
         startedAt := u.now, watchdogAt := u.now }) := by
  change execPowerGood m s = _
  unfold execPowerGood
  rw [if_neg (by simp [hp])]
  rfl

theorem railsGood_rails (s : State) (m : Mast) : ∀ r ∈ ((s.railsGood m).sup.get m).rails, r.inReset = false := by
  intro r hr
  simp only [State.railsGood, State.setSup_sup, Both_get_set, List.mem_map] at hr
  obtain ⟨q, _, rfl⟩ := hr
  split
  · rfl
  · next h => simpa using h

theorem railsGood_hot (s : State) (m : Mast) : ((s.railsGood m).sup.get m).hot = (s.sup.get m).hot := by
  simp [State.railsGood]

theorem setAlive_lines (s : State) (m : Mast) :
    ((s.setAlive m true).mt m).lines.alive0 = true ∧ ((s.setAlive m true).mt m).lines.alive1 = true := by
  simp [State.setAlive, State.mt]

/-- Power is lost 50 ms after the later of the two rails (R130). -/
theorem exec_mainPowerLoss {x y : Nat} (ha : s.md.vnestLow.a = some x) (hb : s.md.vnestLow.b = some y) :
    exec .mainPowerLoss s = .next (if Nat.max x y + 50 * Config.msec ≤ s.now then s.losePower else s) := by
  change execMainPowerLoss s = _
  simp only [execMainPowerLoss, ha, hb]

/-- A return to a lifecycle state that has ended wipes what is secret (R533, R556). -/
def State.secretsGone (s : State) : State :=
  { s.zeroise with
    sec := { s.sec with identityKey := false, ownerKey := [] }
    md := { s.zeroise.md with nest := { s.zeroise.md.nest with tamper := s.md.nest.tamper } } }

theorem exec_lifecycleReset {x : Nat} (hx : s.md.lifecycleReset = some x) (hdue : x + 100 * Config.msec ≤ s.now)
    (hl : s.md.mode ≠ .lockout) (hv : s.md.mode ≠ .vault) :
    exec .lifecycleReset s = .next
      (let t := (if s.sec.lifecycle = 4 then s.secretsGone else s).packageReset 3 false
       { t with sec := { t.sec with staging := { profile := none, firmware := none, alert := none } }
                mem := t.mem.map (fun x => { x with alert := none }) }) := by
  have hgo : (decide (s.now < x + 100 * Config.msec) || decide (s.md.mode = .lockout) || decide (s.md.mode = .vault)) = false := by
    simp [hl, hv, Nat.not_lt.mpr hdue]
  change execLifecycleReset s = _
  unfold execLifecycleReset
  rw [hx]
  dsimp only
  rw [hgo]
  simp only [State.secretsGone]
  rfl

theorem lifecycleReset_in_lockout {x : Nat} (hx : s.md.lifecycleReset = some x) (hl : s.md.mode = .lockout) :
    exec .lifecycleReset s = .next s := by
  change execLifecycleReset s = _
  unfold execLifecycleReset
  rw [hx]
  exact congrArg Outcome.next (if_pos (by simp [hl]))

/-- The phase in which a mast with power starts (R105, R130). -/
theorem powered_phase (s : State) (m : Mast) :
    (if !(s.md.boot.get m).held && !(s.md.boot.get m).failed && !((s.powered m).sup.get m).hot && s.md.mode != .lockout then 1
      else 0) =
    if (s.md.boot.get m).held || (s.md.boot.get m).failed || (s.sup.get m).hot || s.md.mode == .lockout then 0 else 1 := by
  have hhot : ((s.powered m).sup.get m).hot = (s.sup.get m).hot := railsGood_hot s m
  rw [hhot]
  cases (s.md.boot.get m).held
  · cases (s.md.boot.get m).failed
    · cases (s.sup.get m).hot
      · by_cases hmode : s.md.mode = .lockout <;> simp [hmode]
      · rfl
    · rfl
  · rfl

/-- Settles O28: each reset is the package's or one mast's, and both have their own rule. -/
theorem powerComesAndGoes : Obligations.PowerComesAndGoes := by
  unfold Obligations.PowerComesAndGoes
  refine fun m s => ⟨fun b hb hp hv => ?good, fun hp hv => ?fromVault, fun x y ha hb => ⟨fun hearly => ?held, fun hdue => ?lost⟩,
    fun x hx hdue => ⟨lifecycleReset_in_lockout hx, fun hl hv => ?reset⟩⟩
  case good =>
    subst hb
    intro waits
    have halive := setAlive_lines (s.powered m) m
    refine ⟨_, exec_powerGood hp, ?_⟩
    rw [if_neg hv]
    refine ⟨?_, ?_, rfl, rfl, halive.1, halive.2, railsGood_rails s m, rfl⟩
    · rw [← powered_phase]
      rfl
    · exact Both_get_set _ _ _
  case fromVault =>
    have hboot := packageReset_rebooted s 1 true
    refine ⟨_, exec_powerGood hp, ?_⟩
    rw [if_pos hv]
    generalize s.packageReset 1 true = p at hboot
    have hsec : p.sec.flash = s.sec.flash ∧ p.sec.lifecycle = s.sec.lifecycle := by rw [hboot.sec]; exact ⟨rfl, rfl⟩
    refine ⟨hboot.mode, hboot.count, ?_, hsec.1, hsec.2, hboot.resets⟩
    exact congrArg BootState.powerGood (Both_get_set p.md.boot m _)
  case held => rw [exec_mainPowerLoss ha hb, if_neg (Nat.not_le.mpr hearly)]
  case lost =>
    rw [exec_mainPowerLoss ha hb, if_pos hdue]
    exact ⟨_, rfl, rfl, rfl, rfl, rfl, rfl, fun k => by cases k <;> rfl, rfl, rfl, rfl, rfl, rfl⟩
  case reset =>
    refine ⟨_, exec_lifecycleReset hx hdue hl hv, ?_⟩
    have hstart : ∃ v : State, v = (if s.sec.lifecycle = 4 then s.secretsGone else s) ∧ v.md.bootCount = s.md.bootCount ∧
        v.sec.lifecycle = s.sec.lifecycle ∧ (s.sec.lifecycle = 4 → v.sec.identityKey = false ∧ v.sec.ownerKey = []) := by
      refine ⟨_, rfl, ?_⟩
      split
      · exact ⟨rfl, rfl, fun _ => ⟨rfl, rfl⟩⟩
      · next h => exact ⟨rfl, rfl, fun h4 => absurd h4 h⟩
    obtain ⟨v, hv', hcount, hcycle, hwiped⟩ := hstart
    rw [← hv']
    have hboot := packageReset_rebooted v 3 false
    generalize v.packageReset 3 false = p at hboot
    have hsec := hboot.sec
    refine ⟨hboot.mode, hboot.count.trans (by rw [hcount]), hboot.lifecycleReset, ?_, rfl, rfl, rfl, fun k => by cases k <;> rfl,
      hboot.sessions, fun h4 => ?_⟩
    · exact (congrArg Security.lifecycle hsec).trans hcycle
    · obtain ⟨hid, howner⟩ := hwiped h4
      exact ⟨(congrArg Security.identityKey hsec).trans hid, (congrArg Security.ownerKey hsec).trans howner⟩

/-! ### A mast is reset (R98, R130, R626) -/

/-- A mast's role moves no other mast's lines, drive or role (R45). -/
theorem setTst_mt_ne (s : State) {m k : Mast} (st : TandemSt) (hk : k ≠ m) : (s.setTst m st).mt k = s.mt k := by
  unfold State.setTst
  extract_lets t cap d lines s1 s2 s3
  have hput : s1.mt k = s.mt k := by simp [s1, State.mt, Both_get_set_ne _ _ hk]
  have hshown : s3.tan = s1.tan := by
    refine (stateChanged_tan s2).trans ?_
    simp only [s2]
    split <;> simp
  have hall : s3.mt k = s.mt k := (congrArg (fun x : Tandem => x.m.get k) hshown).trans hput
  split
  · exact (congrArg (fun x : Tandem => x.m.get k) (answerAll_tan s3)).trans hall
  · split
    · exact hall
    · exact hall

theorem foldl_answerDue_within (l : List SchedCmd) (s : State) :
    SessionsWithin s (l.foldl (fun acc c => acc.answerDue c false) s) := by
  refine SessionsWithin_foldl _ (fun s c => ?_) l s
  unfold State.answerDue
  split
  · exact SessionsWithin_refl s
  · exact replyWith_within

theorem answerAll_within (s : State) : SessionsWithin s s.answerAll := foldl_answerDue_within _ _

/-- A mast that goes OUT has no session left (R155). -/
theorem setTst_out_sessions (s : State) (m : Mast) : ∀ x ∈ (s.setTst m .out).hal.sessions, x.mast ≠ m := by
  have hclosed (u v : State) (hv : SessionsWithin (u.closeMast m) v) : ∀ x ∈ v.hal.sessions, x.mast ≠ m := by
    intro x hx
    simpa using closeWhere_closed (w := fun x : Session => x.mast == m) (fun _ _ => rfl) hv x hx
  unfold State.setTst
  extract_lets t cap d lines s1 s2 s3
  have hs3 : s3.hal = (s1.closeMast m).hal := rfl
  split
  · exact hclosed s1 _ (SessionsWithin_trans (SessionsWithin_of_eq (by rw [hs3])) (answerAll_within s3))
  · split
    · exact hclosed s1 _ (SessionsWithin_of_eq (by rw [hs3]))
    · exact hclosed s1 _ (SessionsWithin_of_eq (by rw [← hs3]))

/-- What a reset of one mast leaves (R98, R130, R626). -/
structure State.MastRebooted (s t : State) (m : Mast) (cause : Nat) : Prop where
  out : t.tst m = .out
  boot : t.md.boot = s.md.boot.set m { BootState.off with
    powerGood := (s.md.boot.get m).powerGood
    phase := if (s.md.boot.get m).powerGood && !(s.md.boot.get m).held && !(s.md.boot.get m).failed then 1 else 0
    startedAt := s.now, retried := decide (cause = 9), failed := (s.md.boot.get m).failed, held := (s.md.boot.get m).held,
    powerOn := false, package := false, watchdogAt := s.now }
  mode : t.md.mode = s.md.mode
  sessions : ∀ x ∈ t.hal.sessions, x.mast ≠ m
  sec : t.sec = s.sec
  rigs : t.rigs = s.rigs
  dp : t.dp.get m.other = s.dp.get m.other
  other : t.mt m.other = s.mt m.other
  resets : t.md.nest.resets.head? = some { cause := cause, mast := m.code, bootCount := s.md.bootCount, rtc := s.md.nest.rtc }

theorem other_ne (m : Mast) : m.other ≠ m := by cases m <;> decide

theorem resetMast_rebooted (s : State) (m : Mast) (cause : Nat) : s.MastRebooted (s.resetMast m cause) m cause := by
  have hflush := flushLog_wipeRows_keeps s m (fun _ => true)
  have hput := setTst_keeps m .out (keeps_refl 352 ((s.flushLog m).wipeRows m (fun _ => true))) rfl
  have hother := setTst_mt_ne ((s.flushLog m).wipeRows m (fun _ => true)) .out (other_ne m)
  have hclosed := setTst_out_sessions ((s.flushLog m).wipeRows m (fun _ => true)) m
  unfold State.resetMast
  generalize (s.flushLog m).wipeRows m (fun _ => true) = f at hflush hput hother hclosed
  generalize f.setTst m .out = u at hput hother hclosed
  have hmd : u.md = s.md := (Keeps_same hput .md rfl).trans (Keeps_same hflush .md rfl)
  have hsec : u.sec = s.sec := (Keeps_same hput .sec rfl).trans (Keeps_same hflush .sec rfl)
  have hrigs : u.rigs = s.rigs := (Keeps_same hput .rigs rfl).trans (Keeps_same hflush .rigs rfl)
  have hdp : u.dp = s.dp := (Keeps_same hput .dp rfl).trans (Keeps_same hflush .dp rfl)
  have hnow : u.now = s.now := (Keeps_same hput .now rfl).trans (Keeps_same hflush .now rfl)
  have htan : f.tan = s.tan := Keeps_same hflush .tan rfl
  have hmt : u.mt m.other = s.mt m.other := hother.trans (congrArg (fun x : Tandem => x.m.get m.other) htan)
  constructor
  · cases m <;> rfl
  · rw [← hmd, ← hnow]; rfl
  · rw [← hmd]; rfl
  · exact hclosed
  · exact hsec
  · exact hrigs
  · rw [← hdp]; cases m <;> rfl
  · rw [← hmt]; cases m <;> rfl
  · rw [← hmd]; rfl

/-- Where a mast still leads, or none has to, nothing follows a reset (R47, R127). -/
theorem settleLead_idle (h : s.md.mode.led = false ∨ ∃ k, s.canLead k = true) : s.settleLead = s := by
  refine if_pos ?_
  rcases h with h | ⟨k, hk⟩
  · simp [h]
  · cases k
    · simp [hk]
    · simp [hk]

/-- A reset ball that is low for 26 cycles and more holds its mast (R626). -/
def State.ballLow (s : State) (m : Mast) : State :=
  { s.setBoot m { s.md.boot.get m with held := true } with
    md := { (s.setBoot m { s.md.boot.get m with held := true }).md with resetFall := s.md.resetFall.set m (some s.now) } }

theorem resetQualifies_long {cycles : Nat} (h : 26 ≤ cycles) (s : State) : s.resetQualifies cycles = (true, s) := by
  unfold State.resetQualifies
  rw [if_neg (by omega), if_pos h]

theorem exec_resetNAssert_short {cycles : Nat} (h : cycles < 24) : exec (.resetNAssert m cycles) s = .next s := by
  change execResetNAssert m cycles s = _
  simp [execResetNAssert, State.resetQualifies, h]

theorem exec_resetNAssert_lockout {cycles : Nat} (h : 26 ≤ cycles) (hl : s.md.mode = .lockout) (hheld : (s.md.boot.get m).held = false) :
    exec (.resetNAssert m cycles) s = .next { s with md := { s.md with nest := { s.md.nest with lockout :=
      { s.md.nest.lockout with resetTries := Nat.min 65535 (s.md.nest.lockout.resetTries + 1) } } } } := by
  change execResetNAssert m cycles s = _
  unfold execResetNAssert
  rw [resetQualifies_long h s]
  dsimp only
  rw [if_neg (by simp [hl, hheld]), if_pos hl]

theorem exec_resetNAssert_alone {cycles : Nat} (h : 26 ≤ cycles) (hl : s.md.mode ≠ .lockout) (hv : s.md.mode ≠ .vault)
    (hheld : (s.md.boot.get m).held = false) (hother : s.md.resetFall.get m.other = none) :
    exec (.resetNAssert m cycles) s = .next ((s.ballLow m).askedReset m 4) := by
  have hfall : (s.md.resetFall.set m (some s.now)).get m.other = none := by rw [Both_get_set_other, hother]
  change execResetNAssert m cycles s = _
  unfold execResetNAssert
  rw [resetQualifies_long h s]
  dsimp only [State.setBoot]
  rw [if_neg (by simp [hv, hheld]), if_neg hl, hfall]
  rfl

theorem exec_resetNAssert_both {cycles x : Nat} (h : 26 ≤ cycles) (hl : s.md.mode ≠ .lockout) (hv : s.md.mode ≠ .vault)
    (hheld : (s.md.boot.get m).held = false) (hother : s.md.resetFall.get m.other = some x) (hsoon : s.now < x + Config.msec) :
    exec (.resetNAssert m cycles) s = .next ((s.ballLow m).packageReset 2 false) := by
  have hfall : (s.md.resetFall.set m (some s.now)).get m.other = some x := by rw [Both_get_set_other, hother]
  change execResetNAssert m cycles s = _
  unfold execResetNAssert
  rw [resetQualifies_long h s]
  dsimp only [State.setBoot]
  rw [if_neg (by simp [hv, hheld]), if_neg hl, hfall]
  dsimp only
  rw [if_pos (decide_eq_true hsoon)]
  rfl

/-- A Captain in Tandem yields its role before it is reset (R79, R98). -/
theorem askedReset_captain {cause : Nat} (hcap : s.isCaptain m = true) (ht : s.inTandem = true) :
    s.askedReset m cause = { s with
      tan := { (s.yieldRole m false 0xFFFF).tan with resetCause := s.tan.resetCause.set m (some cause) } } := by
  simp only [State.askedReset, hcap, ht, if_true]
  rfl

/-- A mast that is not CAPTAIN is reset, and the other one leads on (R98). -/
theorem askedReset_follower {cause : Nat} (hcap : s.isCaptain m = false) (hhot : (s.sup.get m).hot = false)
    (hlead : s.md.mode.led = false ∨ s.canLead m.other = true) : s.askedReset m cause = s.resetMast m cause := by
  have hreset := resetMast_rebooted s m cause
  have hcaptain : (s.resetMast m cause).isCaptain m.other = s.isCaptain m.other := by
    unfold State.isCaptain State.tst
    rw [hreset.other]
  have hlead' : (s.resetMast m cause).md.mode.led = false ∨ ∃ k, (s.resetMast m cause).canLead k = true := by
    rw [hreset.mode]
    refine hlead.imp_right fun hcan => ⟨m.other, ?_⟩
    have hback : m.other.other = m := by cases m <;> rfl
    simp only [State.canLead, hback, hcap, Bool.and_false, Bool.or_false] at hcan
    simp only [State.canLead, hcaptain, hreset.other, hcan, Bool.true_or]
  unfold State.askedReset State.mastReset
  rw [if_neg (by simp [hcap]), if_neg (by simp [hhot]), settleLead_idle hlead']

/-- Settles O29: by how long the ball is low, and by who leads. -/
theorem resetBalls : Obligations.ResetBalls := by
  unfold Obligations.ResetBalls
  refine fun m s cycles => ⟨exec_resetNAssert_short, fun h hl hheld => ?lockout,
    fun h hl hv hheld hother => ⟨fun hcap ht => ?captain, fun hcap hhot hlead => ?follower⟩,
    fun x h hl hv hheld hother hsoon => ?both, fun b hb hheld => ?release⟩
  case lockout => exact ⟨_, exec_resetNAssert_lockout h hl hheld, rfl, hl, rfl, rfl⟩
  case captain =>
    have hasked := askedReset_captain (s := s.ballLow m) (cause := 4) hcap ht
    rw [exec_resetNAssert_alone h hl hv hheld hother, hasked]
    refine ⟨_, rfl, ?_⟩
    cases m
    · exact ⟨rfl, rfl, rfl, rfl, rfl, rfl⟩
    · exact ⟨rfl, rfl, rfl, rfl, rfl, rfl⟩
  case follower =>
    refine ⟨_, exec_resetNAssert_alone h hl hv hheld hother, ?_⟩
    rw [askedReset_follower (s := s.ballLow m) hcap hhot hlead]
    have hreset := resetMast_rebooted (s.ballLow m) m 4
    have hheld' : ((s.ballLow m).md.boot.get m).held = true := congrArg BootState.held (Both_get_set s.md.boot m _)
    have hboot : ((s.ballLow m).md.boot.get m.other) = s.md.boot.get m.other := Both_get_set_other _ _ _
    generalize (s.ballLow m).resetMast m 4 = t at hreset
    refine ⟨hreset.out, ?_, ?_, ?_, hreset.mode, hreset.sessions, hreset.sec, hreset.rigs, hreset.dp, hreset.resets⟩
    · rw [hreset.boot, Both_get_set]
      exact hheld'
    · rw [hreset.boot, Both_get_set, hheld']
      simp
    · rw [hreset.boot, Both_get_set_other]
      exact hboot
  case both =>
    have hboot := packageReset_rebooted (s.ballLow m) 2 false
    refine ⟨_, exec_resetNAssert_both h hl hv hheld hother hsoon, hboot.mode, hboot.count, ?_, hboot.sessions, hboot.resets⟩
    rw [hboot.held]
    exact congrArg BootState.held (Both_get_set s.md.boot m _)
  case release =>
    subst hb
    change execResetNRelease m s = _
    unfold execResetNRelease
    dsimp only
    rw [if_neg (by simp [hheld])]

end Sys2Proof.Machine

/-! # O31: the watchdog, REMAP, tamper and a dead fallback driver (R128, R537, R539, R581, R582)

A tamper closes every session, and no packet sent afterwards opens one: each operation up to LOCKOUT leaves the sessions
within those there were. -/
namespace Sys2Proof.Machine
open Host Sys2Proof

variable {s t u : State} {m : Mast}

/-! ### Events and the log open no session (R143) -/

theorem SessionsWithin_of_keeps {w : Nat} (hk : Keeps w s t) (hw : w.testBit 5 = false) : SessionsWithin s t :=
  SessionsWithin_of_eq (by rw [Keeps_same hk .hal hw])

theorem no_sessions_within (h : SessionsWithin s t) (hs : s.hal.sessions = []) : t.hal.sessions = [] := by
  refine List.eq_nil_iff_forall_not_mem.mpr fun y hy => ?_
  obtain ⟨z, hz, _⟩ := h y hy
  rw [hs] at hz
  exact List.not_mem_nil hz

theorem eventFull_within {o r n c st : Nat} {f : List Byte} : SessionsWithin s (s.eventFull o r n c st f) := by
  unfold State.eventFull
  refine SessionsWithin_foldl _ (fun s k => ?_) _ s
  split
  · exact release_within
  · exact SessionsWithin_refl s

theorem event_within {o c : Nat} {f : List Byte} : SessionsWithin s (s.event o c f) := eventFull_within

theorem abortMarches_within : SessionsWithin s s.abortMarches := by
  unfold State.abortMarches State.abortMarchesOf
  exact SessionsWithin_trans (SessionsWithin_of_eq rfl) (SessionsWithin_foldl _ (fun _ _ => event_within) _ _)

theorem faultEvent_within {r : QueuedReport} {n : Nat} : SessionsWithin s (s.faultEvent m r n) := by
  unfold State.faultEvent
  split
  · exact SessionsWithin_refl s
  · dsimp only
    split
    · exact eventFull_within
    · exact eventFull_within

theorem bump_within {i n : Nat} : SessionsWithin s (s.bump m i n) :=
  SessionsWithin_of_keeps (bump_keeps m i n (keeps_refl 1024 s) rfl) rfl

theorem setFl_within {f : FaultState} : SessionsWithin s (s.setFl m f) := SessionsWithin_of_eq rfl

theorem writeEntry_within {r : QueuedReport} : SessionsWithin s (s.writeEntry m r) := by
  unfold State.writeEntry
  dsimp only
  split
  · exact SessionsWithin_trans (t := s.bump m 0x0101 1) bump_within faultEvent_within
  next log _ =>
    generalize hf : s.setFl m _ = x
    have hx : SessionsWithin s x := hf ▸ setFl_within
    have hcounted : SessionsWithin s (x.bump m 0x0100 1) := SessionsWithin_trans hx bump_within
    generalize x.bump m 0x0100 1 = z at hcounted ⊢
    split
    · exact SessionsWithin_trans (SessionsWithin_trans hcounted bump_within) (faultEvent_within (s := z.bump m 0x0103 1))
    · exact SessionsWithin_trans hcounted faultEvent_within

theorem logWrite_within : SessionsWithin s (s.logWrite m) := by
  unfold State.logWrite
  split
  · exact SessionsWithin_refl s
  · exact writeEntry_within (s := s.setFl m _)

theorem closeBurst_within {src : Nat} : SessionsWithin s (s.closeBurst m src) :=
  SessionsWithin_of_keeps (closeBurst_keeps m src (keeps_refl 1536 s) rfl) rfl

theorem flushLog_within : SessionsWithin s (s.flushLog m) := by
  unfold State.flushLog
  exact SessionsWithin_trans (SessionsWithin_foldl _ (fun _ _ => closeBurst_within) _ s)
    (SessionsWithin_foldl _ (fun _ _ => logWrite_within) _ _)

theorem wipeRows_within {w : Nat → Bool} : SessionsWithin s (s.wipeRows m w) :=
  SessionsWithin_of_keeps (wipeRows_keeps m w (keeps_refl 1536 s) rfl) rfl

theorem stateChanged_within : SessionsWithin s s.stateChanged :=
  SessionsWithin_of_keeps (stateChanged_keeps (keeps_refl 64 s) rfl) rfl

theorem enterMode_within {mode base : Mode} {cause : Nat} : SessionsWithin s (s.enterMode mode base cause) := by
  unfold State.enterMode
  dsimp only
  generalize hx : ({ s with md := _ } : State) = x
  have hs : SessionsWithin s x := hx ▸ SessionsWithin_of_eq rfl
  exact SessionsWithin_trans hs (SessionsWithin_trans event_within stateChanged_within)

theorem closeWhere_within_all {w : Session → Bool} {c : Nat} : SessionsWithin s (s.closeWhere w c) := by
  intro y hy
  obtain ⟨z, hz, _, hage⟩ := closeWhere_open hy
  exact ⟨z, hz, hage⟩

/-! ### Bare poles (R128) -/

/-- What LOCKOUT leaves of the package that enters it. -/
structure State.LockedOut (s t : State) (source : Nat) : Prop where
  mode : t.md.mode = .lockout
  record : ∃ r : LockoutRecord, t.md.nest = { s.md.nest with lockout := r } ∧ r.source = source ∧ r.valid = true ∧ r.mode = s.md.mode.code
  sched : t.hal.sched = []
  sessions : SessionsWithin s t
  sec : t.sec = s.sec
  lan : t.lan = s.lan

theorem stateChanged_hal : s.stateChanged.hal = s.hal :=
  Keeps_same (stateChanged_keeps (keeps_refl 64 s) rfl) .hal rfl

theorem enterMode_sched (mode base : Mode) (cause : Nat) : (s.enterMode mode base cause).hal.sched = s.hal.sched := by
  unfold State.enterMode
  dsimp only
  rw [stateChanged_hal, OnlyHalyard_sched (event_only _ _ _ _)]

/-- What ends before the package is gated: the marches, the logs' bursts, the suspended rows of the Crow's memory and the
sessions. -/
def State.endedForLockout (s : State) (tamper : Bool) : State :=
  let gone (x : Nat) : Bool := rowSite 0 0x29 x || rowSite 0x2B 0x2C x
  let s1 := (((s.abortMarches.flushLog .a).flushLog .b).wipeRows .a gone).wipeRows .b gone
  s1.closeWhere (fun x => tamper || (s1.seat x.seat).role != 1) 4

theorem endedForLockout_md (tamper : Bool) : (s.endedForLockout tamper).md = s.md :=
  Keeps_same (closeWhere_keeps _ _ (wipeRows_keeps _ _ (wipeRows_keeps _ _ (flushLog_keeps _ (flushLog_keeps _
    (abortMarches_keeps (keeps_refl 4195936 s) rfl) rfl) rfl) rfl) rfl) rfl) .md rfl

theorem endedForLockout_within (tamper : Bool) : SessionsWithin s (s.endedForLockout tamper) :=
  SessionsWithin_trans abortMarches_within (SessionsWithin_trans flushLog_within
    (SessionsWithin_trans flushLog_within (SessionsWithin_trans wipeRows_within
      (SessionsWithin_trans wipeRows_within closeWhere_within_all))))

/-- The package as it is gated: its schedule is empty and the lockout record is written. -/
theorem lockout_eq (source : Nat) (tamper : Bool) (h : s.md.mode ≠ .lockout) : ∃ x : State,
    s.lockout source tamper = (x.gateForLockout).enterMode .lockout x.md.base 4 ∧ x.hal.sched = [] ∧
      x.hal.sessions = (s.endedForLockout tamper).hal.sessions ∧
      ∃ r : LockoutRecord, x.md.nest = { s.md.nest with lockout := r } ∧ r.source = source ∧ r.valid = true ∧
        r.mode = s.md.mode.code := by
  have hmd := endedForLockout_md (s := s) tamper
  unfold State.lockout
  rw [if_neg h]
  unfold State.endedForLockout at hmd ⊢
  dsimp only at hmd ⊢
  generalize (State.closeWhere _ _ 4) = c at hmd ⊢
  refine ⟨_, rfl, ?_, ?_, ?written, ?_, ?_, ?_, ?_⟩
  case refine_3 =>
    dsimp only
    rw [hmd]
  all_goals rfl

theorem lockout_leaves (source : Nat) (tamper : Bool) (h : s.md.mode ≠ .lockout) :
    s.LockedOut (s.lockout source tamper) source := by
  have hkeep := lockout_keeps source tamper (keeps_refl 241297376 s) rfl
  have hsec := Keeps_same hkeep .sec rfl
  have hlan := Keeps_same hkeep .lan rfl
  have hmode := (lockout_atBarePoles source tamper h).1
  obtain ⟨x, hx, hsched, hgone, r, hnest, hrecord⟩ := lockout_eq source tamper h
  have hwithin : SessionsWithin s x := SessionsWithin_trans (endedForLockout_within tamper) (SessionsWithin_of_eq hgone)
  rw [hx] at hsec hlan hmode ⊢
  have hgate : SessionsWithin x x.gateForLockout := SessionsWithin_of_eq rfl
  have henter := enterMode_md (s := x.gateForLockout) .lockout x.md.base 4
  have hevents := enterMode_sched (s := x.gateForLockout) .lockout x.md.base 4
  refine ⟨hmode, ⟨r, ?_, hrecord⟩, hevents.trans hsched,
    SessionsWithin_trans hwithin (SessionsWithin_trans hgate enterMode_within), hsec, hlan⟩
  rw [henter]
  exact hnest

end Sys2Proof.Machine
namespace Sys2Proof.Machine
open Host Sys2Proof

variable {s t u : State} {m : Mast}

/-- What stands when the secrets are gone and every session is closed, before the report of the tamper (R581). -/
def State.zeroised (s : State) : State := ((s.zeroise).closeWhere (fun _ => true) 4).recordReset 8 2

theorem zeroised_sessions : s.zeroised.hal.sessions = [] := by
  refine List.eq_nil_iff_forall_not_mem.mpr fun y hy => ?_
  obtain ⟨_, _, h, _⟩ := closeWhere_open (w := fun _ => true) (s := s.zeroise) hy
  exact absurd h (by simp)

theorem zeroised_md : ∃ r : List ResetEntry, s.zeroised.md = { s.md with nest := { s.md.nest with
    keySlots := List.replicate 8 none, tamper := true, resets := r } } := by
  have h : (s.zeroise.closeWhere (fun _ => true) 4).md = s.zeroise.md := Keeps_same (closeWhere_keeps _ _ (keeps_refl 96 _) rfl) .md rfl
  unfold State.zeroised State.recordReset
  dsimp only
  rw [h]
  exact ⟨_, rfl⟩

theorem zeroised_sec : s.zeroised.sec = { s.sec with engineReset := true } :=
  Keeps_same (closeWhere_keeps _ _ (keeps_refl 96 s.zeroise) rfl) .sec rfl

theorem zeroised_lan : s.zeroised.lan = s.lan.map LaneMast.dropKey :=
  Keeps_same (closeWhere_keeps _ _ (keeps_refl 96 s.zeroise) rfl) .lan rfl

/-- A report of a tamper source is bare poles (R487, R581). -/
theorem report_tamper (src site : Nat) (h1 : 0xF0 ≤ src) (h2 : src ≤ 0xF3) :
    ∃ u : State, s.report m src site = u.lockout 0xFFFF true ∧ Keeps 1536 s u := by
  have hk : knownSource src = true := by simp [knownSource, h1, h2]
  have hsrc : src = 0xF0 ∨ src = 0xF1 ∨ src = 0xF2 ∨ src = 0xF3 := by omega
  have hc : s.classOf m src site false = some 4 := by
    rcases hsrc with rfl | rfl | rfl | rfl
    all_goals rfl
  have hd : datapathSource src = false := by
    rcases hsrc with rfl | rfl | rfl | rfl
    all_goals rfl
  obtain ⟨u, hu, hkeep⟩ := reportInfo_reacts (m := m) (i := .plain s.step) hk hc (by decide) (.inr (by decide)) (.inl hd)
  refine ⟨u, ?_, hkeep⟩
  unfold State.report
  rw [hu, State.react, if_pos rfl, if_pos (by simp [h1]), decide_eq_true h1]

/-- A tamper leaves no secret, no session and, where the package was not yet there, LOCKOUT with the source 0xFFFF. -/
theorem tamper_leaves (src : Nat) (h1 : 0xF0 ≤ src) (h2 : src ≤ 0xF3) :
    (s.tamper m src).md.mode = .lockout ∧ (s.tamper m src).md.nest.tamper = true ∧ (s.tamper m src).hal.sessions = [] ∧
      (s.tamper m src).md.nest.keySlots = List.replicate 8 none ∧ (s.tamper m src).sec = s.zeroised.sec ∧
      (s.tamper m src).lan = s.zeroised.lan ∧
      (s.md.mode ≠ .lockout → (s.tamper m src).hal.sched = [] ∧ (s.tamper m src).md.nest.lockout.source = 0xFFFF ∧
        ∀ k, ((s.tamper m src).mt k).drive.allSafe = true) := by
  obtain ⟨r, hmd⟩ := zeroised_md (s := s)
  obtain ⟨u, hu, hkeep⟩ := report_tamper (s := s.zeroised) (m := m) src 0 h1 h2
  have humd : u.md = s.zeroised.md := Keeps_same hkeep .md rfl
  have hhal : u.hal = s.zeroised.hal := Keeps_same hkeep .hal rfl
  have hnone : u.hal.sessions = [] := by rw [hhal, zeroised_sessions]
  have hmode : u.md.mode = s.md.mode := by rw [humd, hmd]
  have htamper : s.tamper m src = u.lockout 0xFFFF true := hu
  rw [htamper, ← Keeps_same hkeep .sec rfl, ← Keeps_same hkeep .lan rfl]
  by_cases h : s.md.mode = .lockout
  · have hstays : u.lockout 0xFFFF true = u := by rw [State.lockout, if_pos (hmode.trans h)]
    rw [hstays]
    refine ⟨hmode.trans h, ?_, hnone, ?_, rfl, rfl, absurd h⟩ <;> rw [humd, hmd]
  · have hnot : u.md.mode ≠ .lockout := hmode ▸ h
    obtain ⟨hin, ⟨rec, hnest, hsource, -⟩, hsched, hwithin, hsec, hlan⟩ := lockout_leaves 0xFFFF true hnot
    have hsafe := (lockout_atBarePoles 0xFFFF true hnot).2
    refine ⟨hin, ?_, no_sessions_within hwithin hnone, ?_, hsec, hlan, fun _ => ⟨hsched, ?_, fun k => (hsafe k).1⟩⟩
    · rw [hnest, humd, hmd]
    · rw [hnest, humd, hmd]
    · rw [hnest, hsource]

/-- Settles O31: each guard is one equation over the rules for tamper, lockout and reports. -/
theorem guardsAct : Obligations.GuardsAct := by
  unfold Obligations.GuardsAct
  intro m s
  refine ⟨fun hon hphase => ?_, fun hon hclear => ?_, fun hset x q => ?_, fun src h1 h2 hvault hpower => ?_, fun hvault => ?_,
    fun hlock hdriver hother => ?_⟩
  · change execWatchdogExpiry m s = _
    unfold execWatchdogExpiry
    dsimp only
    rw [hon, hphase]
    rfl
  · change execRemapWrite m .cpData true s = _
    unfold execRemapWrite
    dsimp only
    rw [hon, hclear]
    rfl
  · change execRemapWrite m x q s = _
    unfold execRemapWrite
    dsimp only
    rw [hset, Bool.or_true]
    rfl
  · have hexec : exec (.tamperTrip m src) s = .next (s.tamper m src) := by
      change execTamperTrip m src s = _
      unfold execTamperTrip
      rw [if_neg (by omega), if_neg hvault, hpower]
      rfl
    obtain ⟨hmode, htamper, hsessions, hkeys, hsec, hlan, hlockout⟩ := tamper_leaves (s := s) (m := m) src h1 h2
    refine ⟨_, hexec, hmode, htamper, hsessions, hkeys, ?_, ?_, fun k => ?_, hlockout⟩
    · rw [hsec, zeroised_sec]
    · rw [hsec, zeroised_sec]
    · rw [hlan, zeroised_lan, Both_get_map]
      rfl
  · change ∃ t, execTamperTrip m 0xF3 s = .next t ∧ _
    unfold execTamperTrip
    rw [if_neg (by omega), if_pos hvault]
    exact ⟨_, rfl, hvault, rfl, rfl, rfl, rfl⟩
  · change ∃ t, execTlAliveDead m s = .next t ∧ _
    unfold execTlAliveDead
    rw [hlock, hdriver, hother, if_neg (by simp)]
    refine ⟨_, rfl, rfl, ?_, ?_, ?_, rfl⟩ <;> cases m <;> rfl

end Sys2Proof.Machine

/-! # O32, O33: writes to flash, WATCH and its end (R113 to R118, R223, R503, R575, R577) -/
namespace Sys2Proof.Machine
open Host Sys2Proof

variable {s t u : State} {m : Mast}

theorem atD_setAt_ne {α : Type} {l : List α} {k i : Nat} (v d : α) (hk : k ≠ i) : atD (setAt l i v) k d = atD l k d := by
  simp [atD, setAt, List.getElem?_set_ne (Ne.symm hk)]

@[simp] theorem message_setMessage_same {i : Nat} (x : Message) (hi : i < s.alarm.messages.length) : (s.setMessage i x).message i = x :=
  atD_setAt x _ hi

@[simp] theorem message_setMessage_ne {i k : Nat} (x : Message) (hk : k ≠ i) : (s.setMessage i x).message k = s.message k :=
  atD_setAt_ne x _ hk

/-- The end of the oldest write, before its event (R223). -/
def State.writeEnds (s : State) (w : ImageWrite) (rest : List ImageWrite) (bad : Bool) : State :=
  if bad then { s with sec := { s.sec with writes := rest } }
  else
    { s with sec := { s.sec with
        writes := rest
        flash := s.sec.flash.map (fun x => x.written w)
        profileSeqs := if w.image = 0 then s.sec.profileSeqs ++ [w.version] else s.sec.profileSeqs } }

theorem exec_imageWriteDone {w : ImageWrite} {rest : List ImageWrite} (bad : Bool) (hw : s.sec.writes = w :: rest)
    (ha : s.writesHeld .a = false) (hb : s.writesHeld .b = false) :
    ∃ t, exec (.imageWriteDone bad) s = .next t ∧ (s.writeEnds w rest bad).OnlyHalyard t := by
  change ∃ t, execImageWriteDone bad s = .next t ∧ _
  unfold execImageWriteDone State.writeEnds
  rw [hw, ha, hb]
  exact ⟨_, rfl, eventTo_only ..⟩

theorem OnlyHalyard_sec (h : s.OnlyHalyard t) : t.sec = s.sec := by rw [h.rest]

/-- Settles O32: the oldest write ends, and nothing ends one that is held off. -/
theorem writesToFlashEnd : Obligations.WritesToFlashEnd := by
  unfold Obligations.WritesToFlashEnd
  intro s i
  refine ⟨fun w rest hw ha hb => ⟨?_, ?_⟩, fun hheld bad => ⟨?_, ?_⟩, fun hwriting hi ha hb => ?_⟩
  · obtain ⟨t, hexec, honly⟩ := exec_imageWriteDone false hw ha hb
    have hsec : t.sec = (s.writeEnds w rest false).sec := OnlyHalyard_sec honly
    refine ⟨t, hexec, ?_, ?_, ?_, ?_⟩ <;> rw [hsec]
    · rfl
    · rfl
    · rfl
    · exact honly
  · obtain ⟨t, hexec, honly⟩ := exec_imageWriteDone true hw ha hb
    have hsec : t.sec = (s.writeEnds w rest true).sec := OnlyHalyard_sec honly
    exact ⟨t, hexec, hsec, hsec ▸ honly⟩
  · change execImageWriteDone bad s = _
    unfold execImageWriteDone
    split
    · rfl
    · rw [if_pos hheld]
  · change execMessageWriteDone i s = _
    unfold execMessageWriteDone
    dsimp only
    rw [if_pos (by rw [Bool.or_assoc, hheld, Bool.or_true])]
  · change ∃ t, execMessageWriteDone i s = .next t ∧ _
    unfold execMessageWriteDone
    dsimp only
    rw [hwriting, ha, hb, if_neg (by simp)]
    refine ⟨_, rfl, rfl, ?_⟩
    rw [message_setMessage_same _ hi]
    exact ⟨rfl, rfl, rfl, rfl, fun k hk => message_setMessage_ne _ hk⟩

/-! ### What the overlay writes (R296) -/

/-- Only the overlay's zones, ducks and plays differ. -/
def Datapath.OnlyOverlay (d e : Datapath) : Prop := e = { d with zones := e.zones, ducks := e.ducks, plays := e.plays }

theorem OnlyOverlay_refl (d : Datapath) : d.OnlyOverlay d := rfl

theorem OnlyOverlay_trans {d e f : Datapath} (h : d.OnlyOverlay e) (k : e.OnlyOverlay f) : d.OnlyOverlay f := by
  unfold Datapath.OnlyOverlay at h k ⊢
  rw [k, h]

theorem OnlyOverlay_foldl {α : Type} (f : Datapath → α → Datapath) (hf : ∀ (d : Datapath) (a : α), d.OnlyOverlay (f d a)) (l : List α) (d : Datapath) :
    d.OnlyOverlay (l.foldl f d) := by
  induction l generalizing d with
  | nil => exact OnlyOverlay_refl d
  | cons a l ih => exact OnlyOverlay_trans (hf d a) (ih _)

theorem setDuck_onlyOverlay (d : Datapath) (ch n len : Nat) (target : Int) : d.OnlyOverlay (d.setDuck ch n len target) := by
  unfold Datapath.setDuck
  extract_lets cur
  split
  · rfl
  · rfl

theorem followZone_onlyOverlay (d : Datapath) (p : Profile) (z : ZoneItem) (n len : Nat) : d.OnlyOverlay (d.followZone p z n len).1 := by
  unfold Datapath.followZone
  dsimp only
  split
  · exact OnlyOverlay_foldl _ (fun _ _ => setDuck_onlyOverlay ..) _ d
  · exact OnlyOverlay_trans (OnlyOverlay_foldl _ (fun _ _ => setDuck_onlyOverlay ..) _ d) rfl

theorem follow_onlyOverlay (d : Datapath) (prof : Option Profile) (alarm : Bool) (n len : Nat) :
    d.OnlyOverlay (d.follow prof alarm n len).1 := by
  unfold Datapath.follow
  refine OnlyOverlay_trans (OnlyOverlay_trans ?_ (OnlyOverlay_foldl _ (fun _ _ => setDuck_onlyOverlay ..) _ _)) rfl
  cases prof with
  | none => rfl
  | some p =>
    have hzones : ∀ (l : List ZoneItem) (q : Datapath × List ZoneChange), q.1.OnlyOverlay (l.foldl (fun acc z =>
        ((acc.1.followZone p z n len).1, acc.2 ++ (acc.1.followZone p z n len).2)) q).1 := by
      intro l
      induction l with
      | nil => exact fun _ => rfl
      | cons z l ih => exact fun q => OnlyOverlay_trans (followZone_onlyOverlay ..) (ih _)
    exact hzones p.zones (d, [])

theorem OnlyOverlay_acts {d e : Datapath} (h : d.OnlyOverlay e) : e.acts = d.acts := by
  unfold Datapath.OnlyOverlay at h
  rw [h]

theorem OnlyOverlay_active {d e : Datapath} (h : d.OnlyOverlay e) : e.active = d.active := by
  unfold Datapath.OnlyOverlay at h
  rw [h]

/-! ### The dies of a mast are gated and started (R113, R115) -/

theorem emptySlots_dp : s.emptySlots.dp = s.dp.map (fun d => { d with active := none, outgoing := none }) := by
  have hdone (p : TackPlan) (kind : Nat) : (s.tackDone p kind).dp = s.dp :=
    Keeps_same (tackDone_keeps p kind (keeps_refl 96 s) rfl) .dp rfl
  unfold State.emptySlots
  split
  · exact congrArg (fun x : Both Datapath => x.map fun d => { d with active := none, outgoing := none }) (hdone _ _)
  · rfl

theorem emptySlots_rigs : s.emptySlots.rigs.state = .empty ∧ s.emptySlots.rigs.active = none := ⟨rfl, rfl⟩

theorem gateDies_dp (k : Mast) : ((s.gateDies m).dp.get k) = if k = m then (s.dp.get m).alarmLogic else s.dp.get k := by
  unfold State.gateDies
  split
  · next h => subst h; exact Both_get_set ..
  · next h => exact Both_get_set_ne _ _ h

theorem gateDies_vid (k : Mast) : ((s.gateDies m).vid.get k) = if k = m then (s.vid.get m).wiped else s.vid.get k := by
  unfold State.gateDies
  split
  · next h => subst h; exact Both_get_set ..
  · next h => exact Both_get_set_ne _ _ h

theorem startDies_dp (n : Nat) : (s.startDies m n).dp = s.dp.set m { (s.dp.get m).alarmLogic with patch := s.profilePatch } := by
  unfold State.startDies
  rw [Keeps_same (installAudio_keeps _ _ (keeps_refl 98400 _) rfl) .dp rfl,
    Keeps_same (wipeRows_keeps _ _ (keeps_refl 1536 _) rfl) .dp rfl]

theorem startDies_md (n : Nat) :
    (s.startDies m n).md = { s.md with mixOn := s.md.mixOn.set m true, routeOn := s.md.routeOn.set m true } := by
  unfold State.startDies
  rw [Keeps_same (installAudio_keeps _ _ (keeps_refl 98400 _) rfl) .md rfl,
    Keeps_same (wipeRows_keeps _ _ (keeps_refl 1536 _) rfl) .md rfl]

theorem startDies_acts (n : Nat) (k : Mast) : ((s.startDies m n).dp.get k).acts = (s.dp.get k).acts := by
  rw [startDies_dp]
  by_cases h : k = m
  · subst h
    rw [Both_get_set]
    rfl
  · rw [Both_get_set_ne _ _ h]

/-! ### A wake (R115) -/

theorem foldl_fixed {α β γ : Type} {f : β → α → β} {part : β → γ} (h : ∀ b a, part (f b a) = part b) (l : List α) (b : β) :
    part (l.foldl f b) = part b := by
  induction l generalizing b with
  | nil => rfl
  | cons a l ih => exact (ih _).trans (h b a)

theorem servers_nodup (s : State) : s.servers.Nodup := List.Pairwise.filter _ (by decide)

theorem mem_servers : m ∈ s.servers ↔ s.serves m = true := by
  refine ⟨fun h => (List.mem_filter.mp h).2, fun h => List.mem_filter.mpr ⟨?_, h⟩⟩
  cases m <;> decide

theorem startServers_mode : s.startServers.md.mode = s.md.mode :=
  foldl_fixed (part := fun s : State => s.md.mode) (fun b k => by rw [startDies_md]) _ s

theorem startServers_acts (k : Mast) : (s.startServers.dp.get k).acts = (s.dp.get k).acts :=
  foldl_fixed (part := fun s : State => (s.dp.get k).acts) (fun _ _ => startDies_acts ..) _ s

theorem startServers_on (h : s.serves m = true) : s.startServers.md.mixOn.get m = true ∧ s.startServers.md.routeOn.get m = true ∧
    (s.startServers.dp.get m).active = none := by
  have hm := mem_servers.mpr h
  refine ⟨?_, ?_, ?_⟩
  · exact foldl_once (part := fun s : State => s.md.mixOn.get m) (act := fun _ => true)
      (fun b => by rw [startDies_md, Both_get_set]) (fun b k hk => by rw [startDies_md, Both_get_set_ne _ _ (Ne.symm hk)]) _
      (servers_nodup s) hm s
  · exact foldl_once (part := fun s : State => s.md.routeOn.get m) (act := fun _ => true)
      (fun b => by rw [startDies_md, Both_get_set]) (fun b k hk => by rw [startDies_md, Both_get_set_ne _ _ (Ne.symm hk)]) _
      (servers_nodup s) hm s
  · exact foldl_once (part := fun s : State => (s.dp.get m).active) (act := fun _ => none)
      (fun b => by rw [startDies_dp, Both_get_set]; rfl)
      (fun b k hk => by rw [startDies_dp, Both_get_set_ne _ _ (Ne.symm hk)]) _ (servers_nodup s) hm s

theorem restartOverlay_onlyOverlay (k : Mast) : (s.dp.get k).OnlyOverlay ((s.restartOverlay m).dp.get k) := by
  unfold State.restartOverlay
  dsimp only
  by_cases h : k = m
  · subst h
    rw [State.setDp_dp, Both_get_set]
    exact OnlyOverlay_trans (e := { s.dp.get k with zones := [], ducks := [], plays := [] }) rfl (follow_onlyOverlay ..)
  · rw [State.setDp_dp, Both_get_set_ne _ _ h]
    exact OnlyOverlay_refl _

theorem restartOverlays_onlyOverlay (k : Mast) : (s.dp.get k).OnlyOverlay (s.restartOverlays.dp.get k) := by
  unfold State.restartOverlays
  generalize s.servers = l
  induction l generalizing s with
  | nil => exact OnlyOverlay_refl _
  | cons j l ih => exact OnlyOverlay_trans (restartOverlay_onlyOverlay k) ih

/-- A report at Reef 1 of a source that never escalates is only counted and logged (R487, R488). -/
theorem report_reef1 {src site : Nat} (hk : knownSource src = true) (hc : s.classOf m src site false = some 1)
    (he : escalates src = false) (hd : datapathSource src = false) : Keeps 1536 s (s.report m src site) := by
  obtain ⟨u, hcore, hu⟩ := reportCore_reacts (m := m) (i := .plain s.step) hk hc (.inl he) (.inl hd)
  have hcore : s.reportCore m src site (.plain s.step) = u := hcore
  have hc : s.classOf m src site (ReportInfo.plain s.step).late = some 1 := hc
  unfold State.report State.reportInfo
  rw [hc, hcore, he]
  exact hu

/-- The maps of a mast's two copies are joined, and a disagreement is only reported (R113). -/
theorem mapsAtWake_leaves (m : Mast) : ∃ u : State, u = { s with mem := u.mem } ∧ Keeps 1536 u (s.mapsAtWake m) := by
  unfold State.mapsAtWake
  refine ⟨s.setMem m (s.mem.get m).unionMaps, rfl, ?_⟩
  dsimp only
  split
  · exact report_reef1 rfl rfl rfl rfl
  · exact keeps_refl _ _

/-- The state of a wake before the fallback player is told (R115). -/
def State.woken (x : State) : State :=
  let s2 := (x.mapsAtWake .a).mapsAtWake .b |>.startServers.restartOverlays
  { s2 with md := { s2.md with wake := none } }

theorem woken_leaves (x : State) : ∃ u : State, u.md = x.md ∧ u.dp = x.dp ∧ u.rigs = x.rigs ∧ u.tan = x.tan ∧
    x.woken = ({ u.startServers.restartOverlays with md := { u.startServers.restartOverlays.md with wake := none } } : State) := by
  obtain ⟨v, hv, ha⟩ := mapsAtWake_leaves (s := x) .a
  obtain ⟨w, hw, hb⟩ := mapsAtWake_leaves (s := x.mapsAtWake .a) .b
  refine ⟨(x.mapsAtWake .a).mapsAtWake .b, ?_, ?_, ?_, ?_, rfl⟩
  · rw [Keeps_same hb .md rfl, hw, Keeps_same ha .md rfl, hv]
  · rw [Keeps_same hb .dp rfl, hw, Keeps_same ha .dp rfl, hv]
  · rw [Keeps_same hb .rigs rfl, hw, Keeps_same ha .rigs rfl, hv]
  · rw [Keeps_same hb .tan rfl, hw, Keeps_same ha .tan rfl, hv]

theorem woken_md (x : State) : x.woken.md.wake = none ∧ x.woken.md.mode = x.md.mode := by
  obtain ⟨u, hmd, -, -, -, hu⟩ := woken_leaves x
  rw [hu]
  refine ⟨rfl, ?_⟩
  dsimp only
  rw [Keeps_same (restartOverlays_keeps (keeps_refl 16384 _) rfl) .md rfl, startServers_mode, hmd]

theorem woken_rigs (x : State) : x.woken.rigs = x.rigs := by
  obtain ⟨u, -, -, hrigs, -, hu⟩ := woken_leaves x
  rw [hu]
  dsimp only
  rw [Keeps_same (restartOverlays_keeps (keeps_refl 16384 _) rfl) .rigs rfl,
    Keeps_same (startServers_keeps (keeps_refl 2213600 _) rfl) .rigs rfl, hrigs]

theorem woken_acts (x : State) (k : Mast) : (x.woken.dp.get k).acts = (x.dp.get k).acts := by
  obtain ⟨u, -, hdp, -, -, hu⟩ := woken_leaves x
  rw [hu]
  dsimp only
  rw [OnlyOverlay_acts (restartOverlays_onlyOverlay k), startServers_acts, hdp]

theorem woken_on (x : State) (h : x.serves m = true) :
    x.woken.md.mixOn.get m = true ∧ x.woken.md.routeOn.get m = true ∧ (x.woken.dp.get m).active = none := by
  obtain ⟨u, -, hdp, -, htan, hu⟩ := woken_leaves x
  have hserves : u.serves m = true := by
    have : u.tst m = x.tst m := tst_of_tan htan m
    rw [← h, State.serves, State.serves, this]
  obtain ⟨hmix, hroute, hactive⟩ := startServers_on hserves
  rw [hu]
  dsimp only
  rw [Keeps_same (restartOverlays_keeps (keeps_refl 16384 _) rfl) .md rfl,
    OnlyOverlay_active (restartOverlays_onlyOverlay m)]
  exact ⟨hmix, hroute, hactive⟩

/-- WATCH is faded out: the slots are empty and the dies of both masts are gated (R113). -/
def State.watched (x : State) : State :=
  let s1 := ((x.emptySlots).gateDies .a).gateDies .b
  ({ s1 with md := { s1.md with watchFadeEnd := none } } : State).settle

theorem watched_md (x : State) : x.watched.md = { x.md with watchFadeEnd := none, mixOn := .same false, routeOn := .same false } := by
  have h : x.emptySlots.md = x.md := Keeps_same (emptySlots_keeps (keeps_refl 24672 x) rfl) .md rfl
  unfold State.watched
  rw [Keeps_same (settle_keeps (keeps_refl 656384 _) rfl) .md rfl]
  unfold State.gateDies
  dsimp only
  rw [h]
  rfl

theorem watched_rigs (x : State) : x.watched.rigs = x.emptySlots.rigs := by
  unfold State.watched
  rw [Keeps_same (settle_keeps (keeps_refl 656384 _) rfl) .rigs rfl]
  rfl

theorem watched_dp (x : State) (k : Mast) : x.watched.dp.get k = (x.emptySlots.dp.get k).alarmLogic := by
  unfold State.watched
  rw [Keeps_same (settle_keeps (keeps_refl 656384 _) rfl) .dp rfl]
  dsimp only
  cases k <;> simp [gateDies_dp]

theorem watched_vid (x : State) (k : Mast) : x.watched.vid.get k = (x.vid.get k).wiped := by
  have h : x.emptySlots.vid = x.vid := Keeps_same (emptySlots_keeps (keeps_refl 24672 x) rfl) .vid rfl
  unfold State.watched
  rw [Keeps_same (settle_keeps (keeps_refl 656384 _) rfl) .vid rfl]
  dsimp only
  cases k <;> simp [gateDies_vid, h]

theorem followFallback_eq (m : Mast) : s.followFallback m = { s with alm := (s.followFallback m).alm } := by
  unfold State.followFallback
  dsimp only
  split
  · rfl
  · split
    · rfl
    · rfl

/-- Settles O33: the dies of both masts one after the other, and one report for each mast. -/
theorem watchAndWake : Obligations.WatchAndWake := by
  unfold Obligations.WatchAndWake
  intro s m
  refine ⟨fun e hwatch hfade hdue => ?_, fun w hwake hmode hdue => ?_, fun w hwake hmode hserves hdue hlate => ?_⟩
  · change ∃ t, execWatchFadeEnd s = .next t ∧ _
    unfold execWatchFadeEnd
    rw [hfade, hwatch]
    dsimp only
    rw [if_neg (by simpa using hdue)]
    change ∃ t, Outcome.next (s.atStep (s.step + 1) State.watched) = .next t ∧ _
    have hmd := watched_md { s with step := s.step + 1 }
    have hrigs := watched_rigs { s with step := s.step + 1 }
    have hdp := watched_dp { s with step := s.step + 1 } m
    have hvid := watched_vid { s with step := s.step + 1 } m
    have hslots := emptySlots_dp (s := { s with step := s.step + 1 })
    have hempty := emptySlots_rigs (s := { s with step := s.step + 1 })
    unfold State.atStep
    generalize ({ s with step := s.step + 1 } : State).emptySlots = x at hslots hempty hrigs hdp
    generalize State.watched _ = y at hmd hrigs hdp hvid ⊢
    refine ⟨_, rfl, ?_⟩
    dsimp only
    rw [hrigs, hmd, hdp, hvid, hslots, Both_get_map]
    exact ⟨rfl, hempty.1, hempty.2, rfl, rfl, rfl, rfl⟩
  · change ∃ t, execWakeStep s = .next t ∧ _
    unfold execWakeStep
    rw [hwake]
    dsimp only
    rw [if_neg (by simpa using ⟨hmode, Nat.le_of_succ_le_succ hdue⟩)]
    change ∃ t, Outcome.next (s.atStep (s.step + 1) fun x => (x.woken.followFallback .a).followFallback .b) = .next t ∧ _
    have hmd := woken_md { s with step := s.step + 1 }
    have hrigs := woken_rigs { s with step := s.step + 1 }
    have hacts := woken_acts { s with step := s.step + 1 } m
    have hon := woken_on (m := m) { s with step := s.step + 1 }
    unfold State.atStep
    dsimp only
    generalize State.woken _ = y at hmd hrigs hacts hon ⊢
    have hkeep : Keeps 8388608 y ((y.followFallback .a).followFallback .b) :=
      followFallback_keeps _ (followFallback_keeps _ (keeps_refl 8388608 y) rfl) rfl
    refine ⟨_, rfl, ?_⟩
    dsimp only
    rw [Keeps_same hkeep .md rfl, Keeps_same hkeep .rigs rfl, Keeps_same hkeep .dp rfl, hmd.1, hmd.2, hrigs, hacts]
    exact ⟨rfl, rfl, rfl, rfl, rfl, hon⟩
  · change ∃ u : State, execLateWake m s = .next (u.report m 0x86 0xC0000000) ∧ _
    unfold execLateWake
    rw [hwake, hserves, hmode]
    dsimp only
    rw [hlate, if_neg (by simpa using hdue)]
    have heq := followFallback_eq (s := { s with md := { s.md with
      wake := some (if m = .a then { w with lateA := true } else { w with lateB := true }) } }) m
    generalize State.followFallback _ m = u at heq ⊢
    exact ⟨u, rfl, by rw [heq], by rw [heq]⟩

end Sys2Proof.Machine

/-! # O34: load on the battery (R121, R122, R605) -/
namespace Sys2Proof.Machine
open Host Sys2Proof

variable {s t u : State} {m : Mast}

/-! ### A flag of one mast (R63) -/

theorem flag_mt (k : FlagKind) (n w : Nat) (j : Mast) :
    ∃ f o, (s.flag m k n w).mt j = { s.mt j with flags := f, overflowUntil := o } := by
  unfold State.flag
  dsimp only
  by_cases h : j = m
  · subst h
    split
    · exact ⟨_, _, Both_get_set ..⟩
    · exact ⟨_, _, Both_get_set ..⟩
  · split
    · exact ⟨_, _, Both_get_set_ne _ _ h⟩
    · exact ⟨_, _, Both_get_set_ne _ _ h⟩

theorem flag_tst (k : FlagKind) (n w : Nat) (j : Mast) : (s.flag m k n w).tst j = s.tst j := by
  obtain ⟨f, o, h⟩ := flag_mt (s := s) (m := m) k n w j
  simp only [State.tst, h]

theorem flag_lines (k : FlagKind) (n w : Nat) (j : Mast) : ((s.flag m k n w).mt j).lines = (s.mt j).lines := by
  obtain ⟨f, o, h⟩ := flag_mt (s := s) (m := m) k n w j
  rw [h]

/-- The state and the lines of a mast decide who leads. -/
theorem lead_congr (hst : ∀ k, t.tst k = s.tst k) (hlines : ∀ k, (t.mt k).lines = (s.mt k).lines) : t.lead = s.lead := by
  simp only [State.lead, State.captain, hst, hlines]

theorem flagFollower_lead (e : Nat) : (s.flagFollower e).lead = s.lead := by
  unfold State.flagFollower State.flagLate
  split
  · rfl
  · split
    · split
      · exact lead_congr (flag_tst _ _ _) (flag_lines _ _ _)
      · rfl
    · rfl

theorem flagFollower_eq (e : Nat) : s.flagFollower e = { s with tan := (s.flagFollower e).tan } := by
  unfold State.flagFollower State.flagLate State.flag
  split
  · rfl
  · split
    · split
      · dsimp only
        split <;> rfl
      · rfl
    · rfl

/-! ### Shedding and restoring (R121, R122) -/

theorem gateVideo_leaves (off : VideoMast → VideoMast) : (s.gateVideo off).vid = s.vid.map off ∧ (s.gateVideo off).jobs = [] ∧
    (s.gateVideo off).md = s.md := by
  unfold State.gateVideo
  dsimp only
  generalize hx : ({ s with vid := s.vid.map off, jobs := [], hal := _ } : State) = x
  suffices h : ∀ t, Keeps 96 x t → t.vid = s.vid.map off ∧ t.jobs = [] ∧ t.md = s.md from
    h _ (keeps_foldl _ _ (keeps_foldl _ _ (keeps_refl 96 x) fun y _ => dropSched_keeps _ _ (keeps_refl 96 y) rfl)
      fun y _ => eventTo_keeps _ _ _ _ _ _ (keeps_refl 96 y) rfl)
  intro t h
  rw [Keeps_same h .vid rfl, Keeps_same h .jobs rfl, Keeps_same h .md rfl, ← hx]
  exact ⟨rfl, rfl, rfl⟩

theorem onBattery_of_rise (m : Mast) (hset : s.md.onBatt.get m = true) (h : s.inTandem = true ∨ s.lead = m) : s.onBattery = true := by
  unfold State.onBattery
  cases m <;> rcases h with h | h <;> simp_all [Both.get]

theorem onBattery_of_clear (m : Mast) (h : s.md.onBatt.get m = false) (ho : s.md.onBatt.get m.other = false) :
    s.onBattery = false := by
  unfold State.onBattery
  cases m <;> simp_all [Both.get, Mast.other]

theorem planShed_leaves (s : State) :
    ∃ x, s.planShed = { s with md := { s.md with shed := x } } ∧ x.inForce = s.md.shed.inForce := by
  unfold State.planShed
  split
  · exact ⟨_, rfl, rfl⟩
  · split
    · exact ⟨_, rfl, rfl⟩
    · split
      · exact ⟨_, rfl, rfl⟩
      · exact ⟨_, rfl, rfl⟩

theorem planShed_plans (hb : s.onBattery = true) (ha : s.md.mode = .alarm) :
    (s.md.shed.inForce = false → s.md.shed.shedAt = none → s.planShed.md.shed.shedAt = some s.assignedStep) ∧
      (s.md.shed.inForce = true → s.planShed.md.shed.restoreAt = none) := by
  unfold State.planShed
  rw [hb, ha, if_neg (by decide)]
  refine ⟨fun hoff hnone => ?_, fun hin => ?_⟩
  · rw [if_neg (by simp [hoff]), hnone, if_pos Option.isNone_none]
    rfl
  · rw [if_pos hin]

/-- The shedding at its step (R121). -/
def State.shedNow (x : State) : State :=
  let regions := x.shedRegions
  let before := x.poweredLanes
  let video := x.videoRuns
  let s1 : State := { x with md := { x.md with shed := { x.md.shed with inForce := true, mixRegions := regions, video := true } } }
  let s2 := (if video then s1.gateVideo .shed else s1).settle
  let lanes := before - s2.poweredLanes
  let opened := (List.range 4).foldl (fun n g => if bit regions g && !s2.gateHeld s2.lead g then n + 2 ^ g else n) 0
  let s3 : State := { s2 with md := { s2.md with shed := { s2.md.shed with lanePairs := lanes } } }
  s3.event 2 evShed (be 1 opened ++ be 1 (b01 video) ++ be 2 lanes)

theorem shedNow_md (x : State) : ∃ n, x.shedNow.md = { x.md with
    shed := { x.md.shed with inForce := true, mixRegions := x.shedRegions, video := true, lanePairs := n } } := by
  unfold State.shedNow
  dsimp only
  rw [Keeps_same (event_keeps _ _ _ (keeps_refl 96 _) rfl) .md rfl]
  dsimp only
  rw [Keeps_same (settle_keeps (keeps_refl 656384 _) rfl) .md rfl]
  split
  · rw [(gateVideo_leaves _).2.2]
    exact ⟨_, rfl⟩
  · exact ⟨_, rfl⟩

theorem shedNow_video (x : State) (h : x.videoRuns = true) : x.shedNow.jobs = [] ∧ x.shedNow.vid = x.vid.map .shed := by
  unfold State.shedNow
  dsimp only
  rw [h, if_pos rfl, Keeps_same (event_keeps _ _ _ (keeps_refl 96 _) rfl) .jobs rfl,
    Keeps_same (event_keeps _ _ _ (keeps_refl 96 _) rfl) .vid rfl]
  dsimp only
  rw [Keeps_same (settle_keeps (keeps_refl 656384 _) rfl) .jobs rfl, Keeps_same (settle_keeps (keeps_refl 656384 _) rfl) .vid rfl,
    (gateVideo_leaves _).1, (gateVideo_leaves _).2.1]
  exact ⟨rfl, rfl⟩

theorem execShedStep_of_shedAt {e : Nat} (hat : s.md.shed.shedAt = some e) : execShedStep s = .next
    (if s.md.shed.inForce || s.md.mode != .alarm || decide (s.step + 1 < e) then s
      else (s.flagFollower e).atStep (s.step + 1) State.shedNow) := by
  unfold execShedStep
  rw [hat]
  rfl

/-- The shedding ends at its step (R122). -/
def State.restoreNow (x : State) : State :=
  let old := x.md.shed
  let s1 : State := { x with
    dp := x.dp.map (fun d => { d with active := d.active.map (fun r => r.finishShed old.mixRegions)
                                      outgoing := d.outgoing.map (fun r => r.finishShed old.mixRegions) })
    md := { x.md with shed := { Shed.none with mixRegions := old.mixRegions, fadeFrom := some x.step } } }
  let s2 := match s1.rigs.state, s1.rigs.plan, old.shedAt with
    | .tacking, some p, some t => if old.mixRegions != 0 && decide (p.step ≤ t) then s1.finishTack p else s1
    | _, _, _ => s1
  let s3 := if s2.videoRuns then s2.resumeVideo else s2
  (s3.settle).event 2 evShed (be 1 old.mixRegions ++ be 1 (b01 old.video + 2) ++ be 2 old.lanePairs)

theorem restoreNow_md (x : State) : x.restoreNow.md = { x.md with
    shed := { Shed.none with mixRegions := x.md.shed.mixRegions, fadeFrom := some x.step } } := by
  have hresume (y : State) : (if y.videoRuns then y.resumeVideo else y).md = y.md := by
    split <;> rfl
  unfold State.restoreNow
  dsimp only
  rw [Keeps_same (event_keeps _ _ _ (keeps_refl 96 _) rfl) .md rfl,
    Keeps_same (settle_keeps (keeps_refl 656384 _) rfl) .md rfl, hresume]
  split
  · split
    · rw [Keeps_same (finishTack_keeps _ (keeps_refl 24672 _) rfl) .md rfl]
    · rfl
  · rfl

theorem flagFollower_shedRegions (e n : Nat) : ({ s.flagFollower e with step := n } : State).shedRegions = s.shedRegions := by
  have hlead : ({ s.flagFollower e with step := n } : State).lead = s.lead := flagFollower_lead e
  unfold State.shedRegions State.leadDp
  rw [hlead, flagFollower_eq]

/-- Settles O34: the battery's level, then the plan of its shedding. -/
theorem batterySheds : Obligations.BatterySheds := by
  unfold Obligations.BatterySheds
  intro m s
  refine ⟨fun level hvault hon hlevel => ?_, fun e hat hnot halarm hdue => ?_, fun e hat hin hdue => ?_⟩
  · change ∃ t, execOnBattChange m level s = .next t ∧ _
    unfold execOnBattChange
    have hgo : (decide (s.md.mode = .vault) || !s.mastOn m || decide (s.md.onBatt.get m = level)) = false := by
      rw [hon, decide_eq_false hvault, decide_eq_false hlevel]
      rfl
    rw [if_neg (by rw [hgo]; exact Bool.false_ne_true)]
    cases level with
    | false =>
      dsimp only
      rw [if_neg Bool.false_ne_true]
      refine ⟨_, rfl, ?_⟩
      split
      next hbatt =>
        refine ⟨rfl, rfl, rfl, rfl, nofun, fun _ hother => ?_⟩
        have hnot := onBattery_of_clear (s := { s with md := { s.md with onBatt := s.md.onBatt.set m false } }) m
          (Both_get_set ..) ((Both_get_set_other ..).trans hother)
        rw [hnot] at hbatt
        exact absurd hbatt Bool.false_ne_true
      next => exact ⟨rfl, rfl, rfl, rfl, nofun, fun _ _ => rfl⟩
    | true =>
      dsimp only
      rw [if_pos rfl]
      refine ⟨_, rfl, ?_⟩
      split
      next halarm =>
        generalize hx : ({ s with md := _ } : State) = x
        have hxmd : x.md = { s.md with onBatt := s.md.onBatt.set m true, battAt := s.now } := by rw [← hx]
        have hxstep : x.step = s.step := by rw [← hx]
        have hassigned : x.assignedStep = s.assignedStep := by rw [← hx]; rfl
        have hbatt (h : s.inTandem = true ∨ s.lead = m) : x.onBattery = true :=
          onBattery_of_rise m (by rw [hxmd]; exact Both_get_set ..) (by rw [← hx]; exact h)
        obtain ⟨p, hp, hforce⟩ := planShed_leaves x
        have hplan := planShed_plans (s := x)
        rw [hp] at hplan ⊢
        dsimp only at hplan ⊢
        rw [hxmd] at hforce hplan ⊢
        refine ⟨rfl, rfl, hforce, hxstep, fun _ => ⟨rfl, fun hmode h => ?_⟩, nofun⟩
        rw [← hassigned]
        exact hplan (hbatt h) hmode
      next hmode =>
        have hkeep (x : State) (f : List Byte) : Keeps 96 x (x.event 2 evOnBattery f) := event_keeps _ _ _ (keeps_refl 96 x) rfl
        rw [Keeps_same (hkeep _ _) .md rfl, Keeps_same (hkeep _ _) .step rfl]
        exact ⟨rfl, rfl, rfl, rfl, fun _ => ⟨rfl, fun h => absurd h hmode⟩, nofun⟩
  · change ∃ t, execShedStep s = .next t ∧ _
    rw [execShedStep_of_shedAt hat, hnot, halarm, if_neg (by simpa using hdue)]
    have hkeep := flagFollower_keeps e (keeps_refl 256 s) rfl
    have hmd := Keeps_same hkeep .md rfl
    have hstep := Keeps_same hkeep .step rfl
    obtain ⟨n, hshed⟩ := shedNow_md { s.flagFollower e with step := s.step + 1 }
    have hvideo := shedNow_video { s.flagFollower e with step := s.step + 1 }
    rw [flagFollower_shedRegions] at hshed
    unfold State.atStep
    generalize State.shedNow _ = y at hshed hvideo ⊢
    refine ⟨_, rfl, ?_⟩
    dsimp only at hshed ⊢
    rw [hshed, hmd, hstep]
    refine ⟨rfl, halarm, rfl, rfl, rfl, fun hruns => ?_⟩
    have hnow : (s.flagFollower e).videoRuns = true := by
      unfold State.videoRuns State.runMode at hruns ⊢
      rw [hmd]
      exact hruns
    obtain ⟨hjobs, hvid⟩ := hvideo hnow
    rw [hjobs, hvid, Both_get_map]
    exact ⟨rfl, rfl, rfl⟩
  · change ∃ t, execRestoreStep s = .next t ∧ _
    unfold execRestoreStep
    rw [hat, hin]
    dsimp only
    rw [if_neg (by simpa using hdue)]
    change ∃ t, Outcome.next ((s.flagFollower e).atStep (s.step + 1) State.restoreNow) = .next t ∧ _
    have hkeep := flagFollower_keeps e (keeps_refl 256 s) rfl
    have hstep := Keeps_same hkeep .step rfl
    have hmd := restoreNow_md { s.flagFollower e with step := s.step + 1 }
    unfold State.atStep
    generalize State.restoreNow _ = y at hmd ⊢
    refine ⟨_, rfl, hstep, ?_⟩
    dsimp only at hmd ⊢
    rw [hmd, Keeps_same hkeep .md rfl]

end Sys2Proof.Machine

/-! # O37: steps begin, and the grid holds (R13, R14, R131, R432)

With no scheduled command and no join the step's time is known before it: nothing up to the application of what is due puts
a command into the queue. -/
namespace Sys2Proof.Machine
open Host Sys2Proof

variable {s t u : State} {m : Mast}

/-! ### What fills no queue of scheduled commands -/

/-- A queue with no scheduled command stays so. -/
def State.StaysIdle (s t : State) : Prop := s.hal.sched = [] → t.hal.sched = []

theorem StaysIdle_refl (s : State) : s.StaysIdle s := id

theorem StaysIdle_trans (h : s.StaysIdle t) (k : t.StaysIdle u) : s.StaysIdle u := k ∘ h

theorem StaysIdle_of_eq (h : t.hal.sched = s.hal.sched) : s.StaysIdle t := h.trans

theorem StaysIdle_of_only (h : s.OnlyHalyard t) : s.StaysIdle t := StaysIdle_of_eq (OnlyHalyard_sched h)

theorem StaysIdle_of_keeps {w : Nat} (h : Keeps w s t) (hw : w.testBit 5 = false) : s.StaysIdle t :=
  StaysIdle_of_eq (by rw [Keeps_same h .hal hw])

theorem StaysIdle_foldl {α : Type} (f : State → α → State) (hf : ∀ (s : State) (a : α), s.StaysIdle (f s a)) (l : List α) (s : State) :
    s.StaysIdle (l.foldl f s) := by
  induction l generalizing s with
  | nil => exact StaysIdle_refl s
  | cons a l ih => exact StaysIdle_trans (hf s a) (ih _)

theorem event_idle {o c : Nat} {f : List Byte} : s.StaysIdle (s.event o c f) := StaysIdle_of_only (event_only ..)

theorem answerAll_idle : s.StaysIdle s.answerAll := by
  intro h
  unfold State.answerAll
  rw [h]
  rfl

/-- The end of a change of a mast's tandem state: replies that no longer wait go out (R63). -/
theorem tandemChanged_idle {b : Bool} (h : s.StaysIdle t) :
    s.StaysIdle (if !t.stateChanged.inTandem then t.stateChanged.answerAll else if b then t.stateChanged
      else { t.stateChanged with tan := { t.stateChanged.tan with tandemAt := t.stateChanged.now } }) := by
  have hnow : s.StaysIdle t.stateChanged := StaysIdle_trans h (StaysIdle_of_eq (congrArg Halyard.sched stateChanged_hal))
  generalize t.stateChanged = y at hnow ⊢
  split
  · exact StaysIdle_trans hnow answerAll_idle
  · split
    · exact hnow
    · exact hnow

theorem setTst_idle {st : TandemSt} : s.StaysIdle (s.setTst m st) := by
  unfold State.setTst
  dsimp only
  generalize hx : s.setMt m _ = x
  have hput : s.StaysIdle x := hx ▸ StaysIdle_of_eq rfl
  have hclosed : s.StaysIdle (x.closeMast m) := StaysIdle_trans hput (StaysIdle_of_only (closeWhere_only ..))
  cases st with
  | captain => exact tandemChanged_idle hput
  | stoker => exact tandemChanged_idle hput
  | joining => exact tandemChanged_idle hclosed
  | out => exact tandemChanged_idle hclosed

/-- A report below Reef 3 of a source that never escalates is only counted and logged (R487, R488). -/
theorem report_below_reef3 {src site cls : Nat} (hk : knownSource src = true) (hc : s.classOf m src site false = some cls)
    (h3 : cls < 3) (he : escalates src = false) (hd : datapathSource src = false) : Keeps 1536 s (s.report m src site) := by
  obtain ⟨u, hcore, hu⟩ := reportCore_reacts (m := m) (i := .plain s.step) hk hc (.inl he) (.inl hd)
  have hcore : s.reportCore m src site (.plain s.step) = u := by
    rw [hcore, State.react, if_neg (by omega), if_neg (by omega)]
  have hc : s.classOf m src site (ReportInfo.plain s.step).late = some cls := hc
  unfold State.report State.reportInfo
  rw [hc, hcore, he]
  obtain rfl | rfl | rfl : cls = 0 ∨ cls = 1 ∨ cls = 2 := by omega
  all_goals exact hu

theorem beginJoin_idle {p : Bool} {a : Nat} : s.StaysIdle (s.beginJoin m p a) := by
  unfold State.beginJoin
  dsimp only
  refine StaysIdle_trans (fun h => ?_) (StaysIdle_of_keeps (settle_keeps (keeps_refl 656384 _) rfl) rfl)
  have h1 : (s.setTst m .joining).hal.sched = [] := setTst_idle h
  generalize s.setTst m .joining = x at h1
  dsimp only
  rw [h1]
  rfl

theorem enterJoining_idle {p : Bool} : s.StaysIdle (s.enterJoining m p) := by
  unfold State.enterJoining
  dsimp only
  split
  · refine StaysIdle_trans ?_ (StaysIdle_of_keeps (report_below_reef3 (src := 0xA1) (cls := 2) rfl rfl (by decide) rfl rfl) rfl)
    refine StaysIdle_trans (StaysIdle_of_eq ?_) setTst_idle
    rfl
  · refine StaysIdle_trans (StaysIdle_of_eq ?_) beginJoin_idle
    rfl

theorem joinIfAble_idle {p : Bool} : s.StaysIdle (s.joinIfAble m p) := by
  unfold State.joinIfAble
  extract_lets held
  clear_value held
  split
  · exact StaysIdle_refl s
  · split
    · exact StaysIdle_trans (t := s.setWaits m false) (StaysIdle_of_eq rfl) enterJoining_idle
    · exact StaysIdle_of_eq rfl

theorem rejoinFit_idle : s.StaysIdle (s.rejoinFit m) := by
  unfold State.rejoinFit
  split
  · exact joinIfAble_idle
  · exact StaysIdle_refl s

/-! ### The alarm logic (R119, R296) -/

theorem enterMode_idle {mode base : Mode} {cause : Nat} : s.StaysIdle (s.enterMode mode base cause) :=
  StaysIdle_of_eq (enterMode_sched ..)

theorem emptySlots_idle : s.StaysIdle s.emptySlots := by
  unfold State.emptySlots
  split
  next p _ _ =>
    have hdone : s.StaysIdle (s.tackDone p 0xFF) := StaysIdle_of_only (eventTo_only ..)
    exact StaysIdle_trans hdone (StaysIdle_of_eq rfl)
  next => exact StaysIdle_of_eq rfl

theorem abortMarchesOf_idle {w : March → Bool} : s.StaysIdle (s.abortMarchesOf w) := by
  unfold State.abortMarchesOf
  exact StaysIdle_trans (t := { s with mem := s.mem.map fun x => { x with march := x.march.filter fun y => !w y } })
    (StaysIdle_of_eq rfl) (StaysIdle_foldl _ (fun _ _ => event_idle) _ _)

theorem planShed_idle : s.StaysIdle s.planShed := StaysIdle_of_keeps (planShed_keeps (keeps_refl 128 s) rfl) rfl

theorem settle_idle : s.StaysIdle s.settle := StaysIdle_of_keeps (settle_keeps (keeps_refl 656384 s) rfl) rfl

theorem gateVideo_idle {off : VideoMast → VideoMast} : s.StaysIdle (s.gateVideo off) := by
  intro h
  unfold State.gateVideo
  dsimp only
  rw [h]
  exact StaysIdle_foldl _ (fun _ _ => StaysIdle_of_only (eventTo_only ..)) _ _ rfl

theorem powerVideo_idle : s.StaysIdle s.powerVideo := by
  unfold State.powerVideo
  have hrows (x : State) (w : Nat → Bool) : x.StaysIdle ((x.wipeRows .a w).wipeRows .b w) :=
    StaysIdle_of_keeps (wipeRows_keeps _ _ (wipeRows_keeps _ _ (keeps_refl 1536 x) rfl) rfl) rfl
  have hresume (x : State) : x.StaysIdle x.resumeVideo := StaysIdle_of_eq rfl
  exact StaysIdle_trans (StaysIdle_trans abortMarchesOf_idle (hrows _ _)) (hresume _)

theorem abortTests_idle : s.StaysIdle s.abortTests := by
  unfold State.abortTests
  dsimp only
  refine StaysIdle_trans ?_ (StaysIdle_foldl _ (fun _ _ => event_idle) _ _)
  refine StaysIdle_trans ?_ (StaysIdle_foldl _ (fun _ _ => event_idle) _ _)
  have hloops (x : State) (l : List Nat) : x.StaysIdle ((x.freeLoops .a l).freeLoops .b l) :=
    StaysIdle_of_keeps (freeLoops_keeps _ _ (freeLoops_keeps _ _ (keeps_refl 132096 x) rfl) rfl) rfl
  have htests (x : State) : x.StaysIdle ((x.abandonTests .a).abandonTests .b) :=
    StaysIdle_of_keeps (abandonTests_keeps _ (abandonTests_keeps _ (keeps_refl 1536 x) rfl) rfl) rfl
  refine StaysIdle_trans ?_ (hloops _ _)
  have hmarches : s.StaysIdle ((s.abandonTests .a).abandonTests .b).abortMarches := StaysIdle_trans (htests s) abortMarchesOf_idle
  generalize ((s.abandonTests .a).abandonTests .b).abortMarches = x at hmarches ⊢
  exact StaysIdle_trans hmarches (StaysIdle_of_eq rfl)

theorem alarmFromRun_idle : s.StaysIdle s.alarmFromRun := by
  unfold State.alarmFromRun
  dsimp only
  refine StaysIdle_trans ?_ planShed_idle
  have hentered : s.StaysIdle (s.abortMarches.enterMode .alarm s.md.base 1) := StaysIdle_trans abortMarchesOf_idle enterMode_idle
  generalize s.abortMarches.enterMode .alarm s.md.base 1 = x at hentered ⊢
  exact StaysIdle_trans hentered (StaysIdle_of_eq rfl)

theorem alarmFromWatch_idle : s.StaysIdle s.alarmFromWatch := by
  unfold State.alarmFromWatch
  dsimp only
  refine StaysIdle_trans ?_ (StaysIdle_trans planShed_idle settle_idle)
  have hgated (x : State) : x.StaysIdle ((x.gateDies .a).gateDies .b) :=
    StaysIdle_of_keeps (gateDies_keeps _ (gateDies_keeps _ (keeps_refl 2211968 x) rfl) rfl) rfl
  have hempty : s.StaysIdle (((s.enterMode .alarm s.md.base 1).gateDies .a).gateDies .b).emptySlots :=
    StaysIdle_trans (StaysIdle_trans enterMode_idle (hgated _)) emptySlots_idle
  generalize (((s.enterMode .alarm s.md.base 1).gateDies .a).gateDies .b).emptySlots = x at hempty ⊢
  exact StaysIdle_trans hempty (StaysIdle_of_eq rfl)

theorem alarmFromMaintain_idle : s.StaysIdle s.alarmFromMaintain := by
  have hwipe (x : State) : x.StaysIdle x.wipeServers := StaysIdle_of_keeps (wipeServers_keeps (keeps_refl 116224 x) rfl) rfl
  have hoverlays (x : State) : x.StaysIdle x.restartOverlays :=
    StaysIdle_of_keeps (restartOverlays_keeps (keeps_refl 16384 x) rfl) rfl
  unfold State.alarmFromMaintain
  dsimp only
  refine StaysIdle_trans ?_ (StaysIdle_trans (hoverlays _) (StaysIdle_trans planShed_idle settle_idle))
  have hwiped : s.StaysIdle s.abortTests.emptySlots.wipeServers :=
    StaysIdle_trans (StaysIdle_trans abortTests_idle emptySlots_idle) (hwipe _)
  generalize s.abortTests.emptySlots.wipeServers = x at hwiped ⊢
  have hentered : s.StaysIdle (x.enterMode .alarm x.md.base 5) := StaysIdle_trans hwiped enterMode_idle
  generalize x.enterMode .alarm x.md.base 5 = y at hentered ⊢
  refine StaysIdle_trans hentered ?_
  split
  · exact powerVideo_idle
  · exact gateVideo_idle

theorem alarmOnset_idle : s.StaysIdle s.alarmOnset := by
  have hspoil : s.StaysIdle s.spoilModeSets := fun h => by
    unfold State.spoilModeSets
    rw [h]
    rfl
  unfold State.alarmOnset
  extract_lets x
  refine StaysIdle_trans hspoil ?_
  split
  · exact alarmFromRun_idle
  · exact alarmFromRun_idle
  · exact alarmFromWatch_idle
  · exact alarmFromMaintain_idle
  · exact StaysIdle_refl _

theorem followOverlay_idle : s.StaysIdle s.followOverlay := by
  have hone (x : State) (alarm : Bool) (k : Mast) (l : List ZoneChange) : x.StaysIdle (x.overlayOn alarm k l).1 :=
    StaysIdle_of_keeps (overlayOn_keeps _ _ _ (keeps_refl 16384 x) rfl) rfl
  unfold State.followOverlay
  split
  · exact StaysIdle_refl s
  · exact StaysIdle_trans (StaysIdle_trans (hone _ _ _ _) (hone _ _ _ _)) (StaysIdle_foldl _ (fun _ _ => event_idle) _ _)

theorem alarmChanged_idle : s.StaysIdle s.alarmChanged := by
  unfold State.alarmChanged
  dsimp only
  refine StaysIdle_trans followOverlay_idle ?_
  generalize s.followOverlay = x
  split
  · split
    · exact StaysIdle_of_eq rfl
    · exact StaysIdle_trans (t := { x with md := { x.md with clearedAt := none } }) (StaysIdle_of_eq rfl) alarmOnset_idle
  · split
    · exact StaysIdle_of_eq rfl
    · exact StaysIdle_refl x

theorem alarmActions_idle {n : Nat} : s.StaysIdle (s.alarmActions n) := by
  have hown (x : State) (k : Mast) : x.StaysIdle (x.ownAlarms k n) :=
    StaysIdle_of_keeps (ownAlarms_keeps _ _ (keeps_refl 8388608 x) rfl) rfl
  have hact (x : State) (k : Mast) : x.StaysIdle (x.actAssigned k n) :=
    StaysIdle_of_keeps (actAssigned_keeps _ _ (keeps_refl 25182208 x) rfl) rfl
  unfold State.alarmActions State.atStep State.triggeredBy
  dsimp only
  refine StaysIdle_trans (StaysIdle_trans (hown s .a) (hown _ .b)) ?_
  generalize (s.ownAlarms .a n).ownAlarms .b n = x
  split
  · refine StaysIdle_trans (StaysIdle_of_eq ?_) (StaysIdle_trans (hact _ .a) (StaysIdle_trans (hact _ .b) alarmChanged_idle))
    rfl
  · exact StaysIdle_refl x

/-! ### A step begins (R13, R14) -/

/-- What a step does before its commands (R62, R71, R119). -/
def State.beforeDue (s : State) (n : Nat) : State := (((s.rejoinFit .a).rejoinFit .b).alarmActions n).joinNow n

/-- What falls due at a step, before its time is counted. -/
def State.dueAt (s : State) (n : Nat) : State :=
  if (s.beforeDue n).captain.isNone then s.beforeDue n else (s.beforeDue n).applyDue (s.beforeDue n).hal.sched.length

/-- What a step does once its number and its time stand. -/
def State.afterDue (s3 : State) (n : Nat) (frame : List Byte) : State :=
  let s4 := ((s3.watchCopy.dropDead .a).dropDead .b).alarmEnds.restoreIfDue.finishJobs.stopRings.resumeOtp
  let s5 := s4.followOverlay.stepPlayback n frame
  let s6 := (((s5.computeMast .a n).computeMast .b n).stepFallback .a n).stepFallback .b n
  let g6 := (((s6.followGroups .a).followGroups .b).stepPins .a n).stepPins .b n
  let s7 := if g6.computes g6.lead then g6.stepRecording n (fun ch => wordVal (wget (g6.dp.get g6.lead).out ch)) else g6
  let s8 := (((s7.stepEgress .a).stepEgress .b).serveStay .a).serveStay .b
  ((s8.sendDigests.endFades n).sendMgmt .a).sendMgmt .b

theorem beginStep_eq (n : Nat) (frame : List Byte) :
    s.beginStep n frame = (({ s.dueAt n with step := n } : State).pass (s.dueAt n).stepTime).afterDue n frame := rfl

theorem beforeDue_keeps (n : Nat) : Keeps 268429284 s (s.beforeDue n) :=
  joinNow_keeps _ (alarmActions_keeps _ (rejoinFit_keeps _ (rejoinFit_keeps _ (keeps_refl 268429284 s) rfl) rfl) rfl) rfl

theorem joinNow_same (n : Nat) (h : s.tan.join = none) : s.joinNow n = s := by
  unfold State.joinNow
  rw [h]

theorem beforeDue_idle (n : Nat) : s.StaysIdle (s.beforeDue n) :=
  StaysIdle_trans rejoinFit_idle (StaysIdle_trans rejoinFit_idle (StaysIdle_trans alarmActions_idle
    (StaysIdle_of_keeps (joinNow_keeps _ (keeps_refl 8765824 _) rfl) rfl)))

theorem dueAt_now (n : Nat) : (s.dueAt n).now = s.now := by
  have hbefore : (s.beforeDue n).now = s.now := Keeps_same (beforeDue_keeps n) .now rfl
  unfold State.dueAt
  split
  · exact hbefore
  · exact (Keeps_same (applyDue_keeps _ (keeps_refl 268435428 _) rfl) .now rfl).trans hbefore

/-- With nothing scheduled the profile, and so the length of a step, is what it was. -/
theorem dueAt_stepTime (n : Nat) (h : s.hal.sched = []) : (s.dueAt n).stepTime = s.stepTime := by
  have hsec : (s.beforeDue n).sec = s.sec := Keeps_same (beforeDue_keeps n) .sec rfl
  have hdue : s.dueAt n = s.beforeDue n := by
    unfold State.dueAt
    rw [beforeDue_idle n h]
    split <;> rfl
  rw [hdue]
  unfold State.stepTime
  rw [hsec]

theorem stepTime_pos : 0 < s.stepTime := by
  unfold State.stepTime
  split
  · split <;> decide
  · decide

theorem afterDue_keeps (n : Nat) (frame : List Byte) : Keeps 251656160 s (s.afterDue n frame) := by
  have h4 (x : State) : Keeps 251656160 x
      ((x.watchCopy.dropDead .a).dropDead .b).alarmEnds.restoreIfDue.finishJobs.stopRings.resumeOtp := by
    simp (maxDischargeDepth := 99)
  have h5 (x : State) : Keeps 251656160 x ((((x.followOverlay.stepPlayback n frame).computeMast .a n).computeMast .b n).stepFallback .a n) := by
    simp (maxDischargeDepth := 99)
  have h6 (x : State) : Keeps 251656160 x (((((x.stepFallback .b n).followGroups .a).followGroups .b).stepPins .a n).stepPins .b n) := by
    simp (maxDischargeDepth := 99)
  have h7 (x : State) (f : Nat → Int) : Keeps 251656160 x (if x.computes x.lead then x.stepRecording n f else x) := by
    split <;> simp (maxDischargeDepth := 99)
  have h8 (x : State) : Keeps 251656160 x ((((x.stepEgress .a).stepEgress .b).serveStay .a).serveStay .b) := by
    simp (maxDischargeDepth := 99)
  have h9 (x : State) : Keeps 251656160 x (((x.sendDigests.endFades n).sendMgmt .a).sendMgmt .b) := by
    simp (maxDischargeDepth := 99)
  unfold State.afterDue
  exact keeps_trans (h4 s) (keeps_trans (h5 _) (keeps_trans (h6 _) (keeps_trans (h7 _ _) (keeps_trans (h8 _) (h9 _)))))

theorem beginStep_step (n : Nat) (frame : List Byte) : (s.beginStep n frame).step = n := by
  rw [beginStep_eq, Keeps_same (afterDue_keeps n frame) .step rfl]
  rfl

theorem beginStep_now (n : Nat) (frame : List Byte) : (s.beginStep n frame).now = s.now + (s.dueAt n).stepTime := by
  rw [beginStep_eq, Keeps_same (afterDue_keeps n frame) .now rfl]
  exact congrArg (· + (s.dueAt n).stepTime) (dueAt_now n)

/-- Settles O37: a step begins through its phases, of which none moves the clock again. -/
theorem stepsBegin : Obligations.StepsBegin := by
  unfold Obligations.StepsBegin
  intro frame s
  refine ⟨fun hmode hfree => ?_, fun hvault => ?_, fun r hmode hwaits => ⟨?_, ?_⟩⟩
  · have hexec : exec (.stepBoundary frame) s = .next (s.beginStep (s.step + 1) frame) := by
      change execStepBoundary frame s = _
      unfold execStepBoundary
      rw [if_neg hmode, hfree, if_neg (by decide)]
    have hpos := stepTime_pos (s := s.dueAt (s.step + 1))
    refine ⟨_, hexec, beginStep_step .., ?_, fun hsched _ => ?_⟩
    · rw [beginStep_now]
      omega
    · rw [beginStep_now, dueAt_stepTime _ hsched]
  · change execStepBoundary frame s = _
    unfold execStepBoundary
    rw [if_pos hvault]
    rfl
  · change execStepBoundary frame s = _
    unfold execStepBoundary
    rw [if_neg hmode, hwaits]
    rfl
  · change ∃ t, execRealignResume frame s = .next t ∧ _
    unfold execRealignResume
    rw [hwaits]
    dsimp only
    generalize hx : State.pass _ _ = x
    have hnow : s.now ≤ x.now := by
      rw [← hx]
      exact Nat.le_add_right _ _
    have hpos := stepTime_pos (s := x.dueAt r.resume)
    have hdone (y : State) := realignDone_keeps 0 r.offset (keeps_refl 1310816 y) rfl
    refine ⟨_, rfl, ?_, ?_⟩
    · rw [Keeps_same (hdone _) .step rfl, beginStep_step]
    · rw [Keeps_same (hdone _) .now rfl, beginStep_now]
      omega

end Sys2Proof.Machine

/-! # O38: what falls due at a step (R240, R263, R265, R267, R283, R454, R508, R511) -/
namespace Sys2Proof.Machine
open Host Sys2Proof

variable {s t u : State} {m : Mast}

/-! ### Words (R240, R283) -/

theorem Assoc_find_drop {α : Type} (w : Assoc α) (k : Nat) : (w.drop k).find k = none := by
  induction w with
  | nil => rfl
  | cons p w ih =>
    unfold Assoc.drop at ih ⊢
    by_cases h : p.1 = k
    · rw [List.filter_cons_of_neg (by simp [h])]
      exact ih
    · rw [List.filter_cons_of_pos (by simp [h]), Assoc.find, if_neg h]
      exact ih

theorem Assoc_find_drop_ne {α : Type} (w : Assoc α) {k j : Nat} (hj : j ≠ k) : (w.drop k).find j = w.find j := by
  induction w with
  | nil => rfl
  | cons p w ih =>
    unfold Assoc.drop at ih ⊢
    by_cases h : p.1 = k
    · rw [List.filter_cons_of_neg (by simp [h]), Assoc.find, if_neg (h ▸ Ne.symm hj)]
      exact ih
    · rw [List.filter_cons_of_pos (by simp [h]), Assoc.find, Assoc.find, ih]

theorem wget_wput_same (w : Assoc (BitVec 36)) (k : Nat) (v : BitVec 36) : wget (wput w k v) k = v := by
  unfold wget wput Assoc.getD
  split
  · next h => rw [Assoc_find_drop, h]; rfl
  · rw [Assoc_find_put]; rfl

theorem wget_wput_ne (w : Assoc (BitVec 36)) {k j : Nat} (v : BitVec 36) (h : j ≠ k) : wget (wput w k v) j = wget w j := by
  unfold wget wput Assoc.getD
  split
  · rw [Assoc_find_drop_ne _ h]
  · rw [Assoc_find_put_ne _ _ h]

/-- Words written under other keys are read no differently. -/
theorem wget_foldl_wput_ne {α : Type} (key : α → Nat) (val : α → BitVec 36) (l : List α) (w : Assoc (BitVec 36)) {k : Nat}
    (h : ∀ q ∈ l, key q ≠ k) : wget (l.foldl (fun t q => wput t (key q) (val q)) w) k = wget w k := by
  induction l generalizing w with
  | nil => rfl
  | cons q l ih =>
    rw [List.foldl_cons, ih _ fun r hr => h r (List.mem_cons_of_mem q hr), wget_wput_ne _ _ (h q List.mem_cons_self).symm]

/-- Of the words that a list writes, the one that stands alone under its key is what is read there. -/
theorem wget_foldl_wput {α : Type} (key : α → Nat) (val : α → BitVec 36) (l : List α) (w : Assoc (BitVec 36)) (p : α)
    (hp : p ∈ l) (hone : ∀ q ∈ l, key q = key p → q = p) :
    wget (l.foldl (fun t q => wput t (key q) (val q)) w) (key p) = val p := by
  induction l generalizing w with
  | nil => exact absurd hp List.not_mem_nil
  | cons q l ih =>
    rw [List.foldl_cons]
    have hrest (r : α) (hr : r ∈ l) : key r = key p → r = p := hone r (List.mem_cons_of_mem q hr)
    by_cases h : ∃ r ∈ l, key r = key p
    · obtain ⟨r, hr, hk⟩ := h
      exact ih _ (hrest r hr hk ▸ hr) hrest
    · have hq : p = q := (List.mem_cons.mp hp).resolve_right fun hin => h ⟨p, hin, rfl⟩
      rw [wget_foldl_wput_ne key val l _ fun r hr hk => h ⟨r, hr, hk⟩, hq, wget_wput_same]

/-! ### The gates before a start (R454) -/

theorem getElem?_map_range {α : Type} (f : Nat → α) {i n : Nat} (h : i < n) : ((List.range n).map f)[i]? = some (f i) := by
  simp [h]

theorem atD_of_getElem? {α : Type} {l : List α} {i : Nat} {x d : α} (h : l[i]? = some x) : atD l i d = x := by
  simp [atD, h]

/-- PRE_START_PULSE on one mast (R454). -/
def State.preStart (s : State) (m : Mast) : State :=
  let c := s.clk.get m
  s.setClk m { c with gates := (List.range c.gates.length).map (fun i =>
    let g := atD c.gates i { open' := true, forced := none }
    if s.blockWork m i then { g with open' := true } else g) }

theorem exec_preStartPulse : exec .preStartPulse s = .next ((s.preStart .a).preStart .b) := rfl

theorem preStart_other {k : Mast} (h : k ≠ m) : (s.preStart m).clk.get k = s.clk.get k := Both_get_set_ne _ _ h

theorem preStart_gates {i : Nat} {x : Gate} (hx : (s.clk.get m).gates[i]? = some x) :
    ((s.preStart m).clk.get m).gates[i]? = some (if s.blockWork m i then { x with open' := true } else x) := by
  have hlt : i < (s.clk.get m).gates.length := (List.getElem?_eq_some_iff.mp hx).1
  unfold State.preStart
  dsimp only
  rw [State.setClk_clk, Both_get_set, getElem?_map_range _ hlt, atD_of_getElem? hx]

/-! ### The slots after a tack and a verification (R263, R265, R267) -/

theorem OnlyHalyard_withRigs (h : s.OnlyHalyard t) (r : RigSlots) : ({ s with rigs := r } : State).OnlyHalyard { t with rigs := r } where
  rest := by rw [h.rest]
  seats := h.seats
  each := h.each

theorem OnlyHalyard_withFreeCount (h : s.OnlyHalyard t) (n : Nat) :
    ({ s with freeCount := n } : State).OnlyHalyard { t with freeCount := n } where
  rest := by rw [h.rest]
  seats := h.seats
  each := h.each

theorem OnlyHalyard_verifyCtx (h : s.OnlyHalyard t) (ok : Bool) : t.verifyCtx ok = s.verifyCtx ok := by
  rw [h.rest]
  rfl

/-- What a tack that ends leaves of its rigs (R267). -/
def State.tacked (s : State) : State :=
  { s with
    rigs := { s.rigs with active := some s.rigs.image
                          image := s.rigs.active.getD []
                          state := if s.rigs.active.isSome then .verified else .empty
                          plan := none }
    dp := s.dp.map (fun d => { d with outgoing := none }) }

theorem tacked_verifyCtx (ok : Bool) : s.tacked.verifyCtx ok = s.verifyCtx ok := by
  have hpatch : s.tacked.leadDp.patch = s.leadDp.patch := by
    unfold State.leadDp State.tacked
    dsimp only
    rw [Both_get_map]
    rfl
  unfold State.verifyCtx
  dsimp only
  rw [hpatch]
  rfl

def State.setSlotState (s : State) (x : SlotState) : State := { s with rigs := { s.rigs with state := x } }

theorem OnlyHalyard_setSlotState (h : s.OnlyHalyard t) (x : SlotState) : (s.setSlotState x).OnlyHalyard (t.setSlotState x) := by
  have hw := OnlyHalyard_withRigs h { s.rigs with state := x }
  unfold State.setSlotState
  rw [OnlyHalyard_rigs h]
  exact hw

theorem finishTack_eq (p : TackPlan) : s.finishTack p = (s.tacked.tackDone p p.kind).singleHomedRigs := rfl

/-- A standby rig that routes a single-homed input is refused (R267). -/
theorem singleHomedRigs_verified (hv : s.rigs.state = .verified) (hp : s.rigs.plan = none) :
    (s.setSlotState (if (verifyImage s.rigs.image (s.verifyCtx true)).rule = 0x0205 then .refused else .verified)).OnlyHalyard
      s.singleHomedRigs := by
  have hsame : s.setSlotState .verified = s := by unfold State.setSlotState; rw [← hv]
  have htold (v : Verdict) : s.OnlyHalyard (s.rigVerified v) := eventTo_only ..
  have hstands : (decide (SlotState.verified = .verified) || decide (SlotState.verified = .tackPending)) = true := rfl
  unfold State.singleHomedRigs
  dsimp only
  by_cases hr : (verifyImage s.rigs.image (s.verifyCtx true)).rule = 0x0205
  · rw [hv, if_pos hstands, if_pos hr, if_pos hr, if_neg (by decide)]
    have honly := htold (verifyImage s.rigs.image (s.verifyCtx true))
    have hplan := congrArg RigSlots.plan (OnlyHalyard_rigs honly)
    generalize s.rigVerified _ = y at honly hplan ⊢
    have hset : { y with rigs := { y.rigs with state := .refused, plan := none } } = y.setSlotState .refused := by
      rw [State.setSlotState, ← hp, ← hplan]
    rw [hset]
    exact OnlyHalyard_setSlotState honly _
  · rw [hv, if_pos hstands, if_neg hr, if_neg hr, hsame]
    exact OnlyHalyard_refl s

theorem singleHomedRigs_empty (he : s.rigs.state = .empty) : s.singleHomedRigs = s := by
  unfold State.singleHomedRigs
  rw [he, if_neg (by decide)]

theorem finishTack_leaves (p : TackPlan) : ∃ x : SlotState, (s.tacked.setSlotState x).OnlyHalyard (s.finishTack p) ∧
    (s.rigs.active = none → x = .empty) ∧
    (∀ old, s.rigs.active = some old → x = if (verifyImage old (s.verifyCtx true)).rule = 0x0205 then .refused else .verified) := by
  have hdone : s.tacked.OnlyHalyard (s.tacked.tackDone p p.kind) := eventTo_only ..
  have hrigs := OnlyHalyard_rigs hdone
  have hctx := (OnlyHalyard_verifyCtx hdone true).trans (tacked_verifyCtx true)
  rw [finishTack_eq]
  generalize s.tacked.tackDone p p.kind = y at hdone hrigs hctx ⊢
  cases hold : s.rigs.active with
  | none =>
    have hempty : s.tacked.rigs.state = .empty := by simp [State.tacked, hold]
    refine ⟨.empty, ?_, fun _ => rfl, nofun⟩
    rw [singleHomedRigs_empty (by rw [hrigs, hempty])]
    have hsame : s.tacked.setSlotState .empty = s.tacked := by unfold State.setSlotState; rw [← hempty]
    rw [hsame]
    exact hdone
  | some old =>
    have hverified : s.tacked.rigs.state = .verified := by simp [State.tacked, hold]
    have himage : s.tacked.rigs.image = old := by simp [State.tacked, hold]
    have hsingle := singleHomedRigs_verified (s := y) (by rw [hrigs, hverified]) (by rw [hrigs]; rfl)
    rw [hctx, hrigs, himage] at hsingle
    refine ⟨_, OnlyHalyard_trans (OnlyHalyard_setSlotState hdone _) hsingle, nofun, fun o ho => ?_⟩
    rw [Option.some.inj ho]

/-- Settles O38: each of the events changes its own table, entry by entry. -/
theorem stepEventsAct : Obligations.StepEventsAct := by
  unfold Obligations.StepEventsAct
  intro m s
  refine ⟨?_, ?_, fun p hstate hplan hdue => ?_, fun hashOk hstate => ?_, fun e hfrozen hdue => ?_, fun hgrid hmode => ?_⟩
  · refine ⟨_, exec_preStartPulse, rfl, fun i x hx => ?_⟩
    cases m with
    | a => rw [preStart_other (by decide), preStart_gates hx]
    | b => rw [preStart_gates (by rw [preStart_other (by decide)]; exact hx)]; rfl
  · refine ⟨_, rfl, rfl, fun r hr => ?_⟩
    dsimp only
    rw [Both_get_map]
    dsimp only
    rw [hr]
    refine ⟨r.endRamps s.step, rfl, rfl, ?_, fun p hp hend hone => ?_⟩
    · unfold RigRun.endRamps
      dsimp only
      exact List.filter_congr fun p _ => decide_not.symm.trans (decide_eq_decide.mpr Nat.not_le)
    · unfold RigRun.endRamps
      refine wget_foldl_wput _ _ _ _ p (List.mem_filter.mpr ⟨hp, by simpa using hend⟩) fun q hq => ?_
      obtain ⟨hmem, hended⟩ := List.mem_filter.mp hq
      exact hone q hmem (by simpa using hended)
  · change ∃ t, execTackEnd s = .next t ∧ _
    unfold execTackEnd
    rw [hstate, hplan]
    dsimp only
    rw [if_neg (by omega)]
    obtain ⟨x, honly, hnone, hsome⟩ := finishTack_leaves (s := s) p
    have hrigs := OnlyHalyard_rigs honly
    have hdp : (s.finishTack p).dp = s.tacked.dp := by rw [honly.rest]; rfl
    generalize s.finishTack p = y at honly hrigs hdp ⊢
    refine ⟨y, rfl, ?_, hdp, ?_, fun h => ?_, fun old h => ?_⟩
    · rw [hrigs, hdp]
      exact honly
    · rw [hrigs]
      rfl
    · rw [hrigs]
      exact hnone h
    · rw [hrigs]
      exact hsome old h
  · change ∃ t, execRigVerifyDone hashOk s = .next t ∧ _
    have hdone (v : Verdict) : s.OnlyHalyard (s.rigVerified v) := eventTo_only ..
    unfold execRigVerifyDone
    rw [hstate, if_neg (by decide)]
    dsimp only
    have honly := hdone (verifyImage s.rigs.image (s.verifyCtx hashOk))
    generalize s.rigVerified _ = y at honly ⊢
    refine ⟨_, rfl, ?_, ?_⟩
    · dsimp only
      rw [OnlyHalyard_rigs honly]
    · exact OnlyHalyard_withRigs honly _
  · change ∃ t, execSnapshotEvent s = .next t ∧ _
    unfold execSnapshotEvent
    rw [hfrozen]
    dsimp only
    rw [if_neg (by omega)]
    have honly (f : List Byte) : ({ s with snap := { s.snap with frozenAt := none } } : State).OnlyHalyard
      (({ s with snap := { s.snap with frozenAt := none } } : State).eventTo s.snap.seat 2 evSnapshot s.snap.hostSeq s.step f) :=
      eventTo_only ..
    have hsnap : _ := fun f => congrArg State.snap (honly f).rest
    refine ⟨_, rfl, hsnap _, ?_⟩
    rw [hsnap]
    exact honly _
  · change ∃ t, execHealthEvent s = .next t ∧ _
    have hone (x : State) (k : Mast) : x.OnlyHalyard (if s.serves k then x.event k.code evHealth (s.healthRecord k) else x) := by
      split
      · exact event_only ..
      · exact OnlyHalyard_refl x
    unfold execHealthEvent
    rw [hgrid, hmode, if_neg (by decide)]
    exact ⟨_, rfl, OnlyHalyard_withFreeCount (OnlyHalyard_trans (hone s .a) (hone _ .b)) _⟩

end Sys2Proof.Machine

/-! # O39: scheduled commands fall due, and commits reach the Stoker (R62, R63, R67, R171, R172, R634) -/
namespace Sys2Proof.Machine
open Host Sys2Proof

variable {s t u : State} {m : Mast}

theorem OnlyHalyard_withStep (h : s.OnlyHalyard t) (n : Nat) : ({ s with step := n } : State).OnlyHalyard { t with step := n } where
  rest := by rw [h.rest]
  seats := h.seats
  each := h.each

/-- The queue without one command. -/
def State.without (s : State) (c : SchedCmd) : State :=
  { s with hal := { s.hal with sched := s.hal.sched.filter (fun x => x.order != c.order) } }

/-- A command that the Stoker holds and whose reply went out leaves the queue and nothing else. -/
theorem takeSched_held {c : SchedCmd} (hh : c.stokerHolds = true) (hd : c.due = none) : s.takeSched c = s.without c := by
  have hmiss : (s.without c).noteMissed c = s.without c := by
    unfold State.noteMissed
    dsimp only
    rw [hh, Bool.or_true, Bool.true_or, if_pos rfl]
  unfold State.takeSched
  change ((s.without c).noteMissed c).answerDue c false = _
  rw [hmiss, State.answerDue, hd]

theorem undoAction_of_group {c : SchedCmd} (hg : c.code / 256 = 5 ∨ c.code / 256 = 6) (hc : c.code ≠ 0x0504) : s.undoAction c = s := by
  have hx : isXpt c.code = false := by
    unfold isXpt
    simp
    omega
  unfold State.undoAction
  rw [if_neg (by omega), hx, if_neg Bool.false_ne_true, if_neg (by omega), if_neg hc]

theorem applyAction_rampDefault {c : SchedCmd} (hc : c.code = 0x0504) (s : State) (ms : List Mast) :
    s.applyAction c ms = ({ s with hal := { s.hal with rampDefault := c.aux } }, stOk) := by
  unfold State.applyAction
  rw [hc]
  rfl

theorem applySched_step (c : SchedCmd) : (s.applySched c).step = s.step := by
  unfold State.applySched State.atStep
  dsimp only
  exact takeSched_step ..

theorem applySched_dropped {c : SchedCmd} {st : Nat} (hh : c.stokerHolds = true) (hd : c.due = none) (hre : s.recheck c = some st)
    (hg : c.code / 256 = 5 ∨ c.code / 256 = 6) (hc : c.code ≠ 0x0504) : (s.without c).OnlyHalyard (s.applySched c) := by
  have hnow : ({ s.without c with step := s.step + 1 } : State).recheck c = some st := hre
  have hdrop (x : State) : x.OnlyHalyard (x.dropSched c.answered st) := eventTo_only ..
  unfold State.applySched State.atStep
  rw [takeSched_held hh hd]
  dsimp only
  rw [hnow]
  dsimp only
  rw [undoAction_of_group hg hc]
  exact OnlyHalyard_withStep (hdrop { s.without c with step := s.step + 1 }) s.step

theorem applySched_rampDefault {c : SchedCmd} (hh : c.stokerHolds = true) (hd : c.due = none) (hre : s.recheck c = none)
    (hc : c.code = 0x0504) : s.applySched c = { s with hal := { (s.without c).hal with
      rampDefault := c.aux, rampDefaults := s.hal.rampDefaults.filter (fun r => decide (c.order ≤ r.order)) } } := by
  have hnow : ({ s.without c with step := s.step + 1 } : State).recheck c = none := hre
  unfold State.applySched State.atStep
  rw [takeSched_held hh hd]
  dsimp only
  rw [hnow]
  dsimp only
  rw [applyAction_rampDefault hc, if_pos rfl, State.settleDefault, if_pos hc]
  rfl

/-! ### Commits that reach the Stoker (R63, R67, R633) -/

/-- The queue with a commit that the Stoker now holds, or has discarded. -/
def State.committed (s : State) (order : Nat) (hold : Bool) : State :=
  { s with hal := { s.hal with sched := s.hal.sched.map (fun x =>
    if x.order == order then { x with stokerHolds := hold, due := none } else x) } }

theorem mem_keepLast_append {α : Type} {n : Nat} (hn : 0 < n) (l : List α) (x : α) : x ∈ keepLast n (l ++ [x]) := by
  unfold keepLast
  rw [List.drop_append_of_le_length (by simp; omega)]
  exact List.mem_append_right _ (List.mem_singleton.mpr rfl)

theorem schedLimit_pos : 0 < Config.schedLimit := Nat.succ_pos 1023

theorem flag_flags {k : FlagKind} {n w : Nat} (h : (s.mt m).flags.length < 4096) :
    s.flag m k n w = s.setMt m { s.mt m with flags := (s.mt m).flags ++ [{ kind := k, step := n }] } := by
  unfold State.flag
  dsimp only
  rw [if_neg (by omega)]

theorem setMt_mt (s : State) (m : Mast) (x : MastTandem) : (s.setMt m x).mt m = x := Both_get_set ..

theorem setMt_setMt (s : State) (m : Mast) (x y : MastTandem) : (s.setMt m x).setMt m y = s.setMt m y := by
  cases m <;> rfl

/-- What a late commit leaves: it is discarded and flagged. -/
theorem commitLate_leaves (order eff : Nat) (h : (s.mt m).flags.length < 4096) : ∃ x : MastTandem,
    s.commitLate m order eff = s.setMt m x ∧ order ∈ x.lateDiscard ∧
      x.flags = (s.mt m).flags ++ [{ kind := .lateCommit, step := eff }] := by
  unfold State.commitLate
  dsimp only
  rw [flag_flags (by rw [setMt_mt]; exact h), setMt_setMt, setMt_mt]
  refine ⟨_, rfl, ?_, rfl⟩
  dsimp only
  exact mem_keepLast_append schedLimit_pos _ _

theorem exec_commitReceived {k : Mast} {order : Nat} (hcap : s.captain = some k) (hst : s.tst k.other = .stoker)
    (hup : s.tan.stay.up = true) (hlate : (s.mt k.other).lateDiscard.contains order = false) :
    exec (.commitReceived order none) s = .next (match s.hal.sched.find? (fun c => c.order == order) with
      | some c => if c.stokerHolds then s else s.commitTo k.other c
      | none => match (s.mt k.other).missed.find? (fun x => x.1 == order) with
        | some x => s.commitLate k.other order x.2
        | none => s) := by
  have hfollows : s.follows k.other = true := by
    unfold State.follows
    rw [hst]
    rfl
  change execCommitReceived order none s = _
  unfold execCommitReceived
  rw [hcap]
  dsimp only
  rw [hfollows, hup, hlate]
  rfl

/-- Settles O39: the first due command is picked, and its permission decides. -/
theorem scheduledCommandsFallDue : Obligations.ScheduledCommandsFallDue := by
  unfold Obligations.ScheduledCommandsFallDue
  intro s c
  refine ⟨fun hcap hdue => ⟨?_, fun hh hd => ⟨fun st hre hg hc => ?_, fun hre hc => ?_⟩⟩,
    fun k hcap hst hup hlate => ⟨fun hfind hnot => ⟨fun hin => ?_, fun hout hroom => ?_⟩, fun eff hgone hmiss hroom => ?_⟩⟩
  · exact ⟨_, exec_effectiveStepApply_of_due hcap hdue, applySched_step c⟩
  · exact ⟨_, exec_effectiveStepApply_of_due hcap hdue, applySched_dropped hh hd hre hg hc⟩
  · rw [exec_effectiveStepApply_of_due hcap hdue, applySched_rampDefault hh hd hre hc]
    rfl
  · rw [exec_commitReceived hcap hst hup hlate, hfind]
    dsimp only
    rw [hnot, if_neg Bool.false_ne_true]
    unfold State.commitTo
    rw [decide_eq_true hin]
    refine ⟨_, rfl, answerDue_only .., fun hd => ?_⟩
    rw [State.answerDue, hd]
    rfl
  · rw [exec_commitReceived hcap hst hup hlate, hfind]
    dsimp only
    rw [hnot, if_neg Bool.false_ne_true]
    have heq : s.commitTo k.other c = ((s.committed c.order false).commitLate k.other c.order c.effStep).answerDue c true := by
      unfold State.commitTo
      rw [decide_eq_false (by omega)]
      rfl
    obtain ⟨x, hx, hmem, hflags⟩ := commitLate_leaves (s := s.committed c.order false) (m := k.other) c.order c.effStep hroom
    have honly : ((s.committed c.order false).setMt k.other x).OnlyHalyard
        (((s.committed c.order false).setMt k.other x).answerDue c true) := answerDue_only ..
    rw [heq, hx]
    have hmt : (((s.committed c.order false).setMt k.other x).answerDue c true).mt k.other = x := by
      rw [State.mt, honly.rest]
      exact Both_get_set ..
    generalize ((s.committed c.order false).setMt k.other x).answerDue c true = y at honly hmt ⊢
    refine ⟨y, rfl, ?_, ?_, ?_⟩ <;> rw [hmt]
    · exact hmem
    · exact hflags
    · exact honly
  · rw [exec_commitReceived hcap hst hup hlate, hgone, hmiss]
    dsimp only
    obtain ⟨x, hx, -, hflags⟩ := commitLate_leaves (s := s) (m := k.other) c.order eff hroom
    rw [hx]
    refine ⟨_, rfl, ?_, ?_⟩ <;> rw [setMt_mt]
    exact hflags

end Sys2Proof.Machine

/-! # O40: the digest of step 0 is not kept (R65)

`keepSteps 16` is written to keep the newest 16 entries of a table. Its `drop` is the one of association tables, which takes
one key out, and not the one of lists: of a table of at most 16 entries it takes the key 0. What the peer formed for step 0
so arrives and is lost at once. -/
namespace Sys2Proof.Machine
open Host Sys2Proof

/-- The reset state with the Stay link up, in which MAST 1 has formed its digests of step 0. -/
def State.formedAtZero : State :=
  { State.reset with tan := { State.reset.tan with
      stay := { State.reset.tan.stay with up := true }
      m := State.reset.tan.m.set .b { State.reset.mt .b with own := [(0, [some 7])] } } }

theorem exec_digestReceived {s : State} {m : Mast} {n : Nat} {d : List (Option Nat)} (hd : (s.mt m.other).own.find n = some d)
    (hup : s.tan.stay.up = true) :
    exec (.digestReceived m n) s = .next (s.setMt m { s.mt m with peer := keepSteps 16 ((s.mt m).peer.put n d) }) := by
  change execDigestReceived m n s = _
  unfold execDigestReceived
  rw [hd]
  dsimp only
  rw [hup, if_pos rfl]

/-- A table whose only key is 0 keeps nothing. -/
theorem keepSteps_zero {α : Type} (v : α) : keepSteps 16 [(0, v)] = [] := rfl

/-- Refutes O40: MAST 0 receives the digests of step 0 and its table of them stays empty. -/
theorem not_digestsCompare : ¬ Obligations.DigestsCompare := by
  unfold Obligations.DigestsCompare
  intro h
  obtain ⟨harrives, -⟩ := h .a .a 0 0 .formedAtZero
  obtain ⟨t, hexec, -, hkept⟩ := harrives [some 7] rfl rfl (by decide)
  rw [exec_digestReceived (d := [some 7]) rfl rfl] at hexec
  injection hexec with ht
  rw [← ht] at hkept
  have hnone : (((State.formedAtZero.setMt .a { State.formedAtZero.mt .a with
      peer := keepSteps 16 ((State.formedAtZero.mt .a).peer.put 0 [some 7]) }).mt .a).peer.find 0) = none := rfl
  rw [hnone] at hkept
  cases hkept

end Sys2Proof.Machine

/-! # O41: a switch-over (R79 to R83, R627) -/
namespace Sys2Proof.Machine
open Host Sys2Proof

variable {s t u : State} {m : Mast}

/-! ### What a mast holds in a tandem state (R45) -/

/-- A mast as it enters a tandem state. -/
def State.roleOf (s : State) (m : Mast) (st : TandemSt) : MastTandem :=
  let t := s.mt m
  let cap := decide (st = .captain)
  let d := driveOf st
  { t with
    st := st
    drive := if s.tan.pairing.role = 2 then { d with packets := false, allSafe := true } else d
    steer := cap
    lines := { t.lines with hold0 := cap, hold1 := cap, yield0 := false, yield1 := false, take0 := false, take1 := false } }

theorem tandemChanged_tan (y : State) (b : Bool) : ∃ n, (if !y.stateChanged.inTandem then y.stateChanged.answerAll
      else if b then y.stateChanged
      else { y.stateChanged with tan := { y.stateChanged.tan with tandemAt := y.stateChanged.now } }).tan =
    { y.tan with tandemAt := n } := by
  have h := stateChanged_tan y
  generalize y.stateChanged = z at h
  split
  · exact ⟨y.tan.tandemAt, by rw [answerAll_tan, h]⟩
  · split
    · exact ⟨y.tan.tandemAt, h⟩
    · exact ⟨z.now, by dsimp only; rw [h]⟩

theorem setTst_tan (s : State) (m : Mast) (st : TandemSt) :
    ∃ n, (s.setTst m st).tan = { s.tan with m := s.tan.m.set m (s.roleOf m st), tandemAt := n } := by
  have hput : (s.setMt m (s.roleOf m st)).tan = { s.tan with m := s.tan.m.set m (s.roleOf m st) } := rfl
  have hopen := tandemChanged_tan (s.setMt m (s.roleOf m st)) s.inTandem
  have hclosed := tandemChanged_tan ((s.setMt m (s.roleOf m st)).closeMast m) s.inTandem
  rw [hput] at hopen
  rw [closeMast_tan, hput] at hclosed
  cases st with
  | captain => exact hopen
  | stoker => exact hopen
  | joining => exact hclosed
  | out => exact hclosed

theorem setTst_mt (s : State) (m : Mast) (st : TandemSt) : (s.setTst m st).mt m = s.roleOf m st := by
  obtain ⟨n, h⟩ := setTst_tan s m st
  rw [State.mt, h, Both_get_set]

/-! ### Timing follows the CAPTAIN role and moves no role (R79, R434) -/

theorem tbFault_keeps_self (t ref : Nat) : Keeps 1536 s (s.tbFault m t ref 0x69 0x6B) := by
  unfold State.tbFault
  have haudio (x : State) : Keeps 1536 x (x.report m 0x69 (candSite t ref)) := report_reef1 rfl rfl rfl rfl
  have hvideo (x : State) : Keeps 1536 x (x.report m 0x6B (candSite t ref)) := report_reef1 rfl rfl rfl rfl
  dsimp only
  split <;> split
  · exact keeps_trans (haudio s) (hvideo _)
  · exact hvideo s
  · exact haudio s
  · exact keeps_refl _ _

theorem loseRef_keeps_self (t skip : Nat) (lost : Option Nat) : Keeps 263776 s (s.loseRef m t skip lost) := by
  have hfault (x : State) (r : Nat) : Keeps 263776 x (x.tbFault m t r 0x69 0x6B) := keeps_mono (tbFault_keeps_self t r) rfl
  unfold State.loseRef
  dsimp only
  split
  · split
    · exact keeps_trans (sticky_keeps _ _ (enterTb_keeps _ _ _ (changeTb_keeps _ _ _ (keeps_refl 263776 s) rfl) rfl) rfl) (hfault _ _)
    · exact enterTb_keeps _ _ _ (changeTb_keeps _ _ _ (keeps_refl 263776 s) rfl) rfl
  · exact enterTb_keeps _ _ _ (changeTb_keeps _ _ _ (keeps_refl 263776 s) rfl) rfl

theorem takeTiming_keeps_self (s : State) (m : Mast) : Keeps 263776 s (s.takeTiming m) := by
  unfold State.takeTiming
  refine keeps_foldl _ _ (keeps_refl 263776 s) fun x t => ?_
  dsimp only
  split
  · exact enterTb_keeps _ _ _ (putTb_keeps _ _ _ (keeps_refl 263776 x) rfl) rfl
  · split
    · exact putTb_keeps _ _ _ (keeps_refl 263776 x) rfl
    · split
      · split
        · exact enterTb_keeps _ _ _ (putTb_keeps _ _ _ (keeps_refl 263776 x) rfl) rfl
        · exact refChanged_keeps _ _ _ _ _ (enterTb_keeps _ _ _ (putTb_keeps _ _ _ (keeps_refl 263776 x) rfl) rfl) rfl
      · split
        · exact putTb_keeps _ _ _ (keeps_refl 263776 x) rfl
        · exact keeps_trans (putTb_keeps _ _ _ (keeps_refl 263776 x) rfl) (loseRef_keeps_self _ _ _)

/-! ### TAKE_CAPTAIN (R79) -/

theorem setMt_mt_ne {k : Mast} (x : MastTandem) (h : k ≠ m) : (s.setMt m x).mt k = s.mt k := Both_get_set_ne _ _ h

theorem take_mt (s : State) (m : Mast) : (s.take m).mt m =
    { s.roleOf m .captain with steer := false, lines := { (s.roleOf m .captain).lines with take0 := true, take1 := true } } := by
  have h : ((s.setTst m .captain).takeTiming m).mt m = s.roleOf m .captain := by
    rw [State.mt, Keeps_same (takeTiming_keeps_self _ m) .tan rfl]
    exact setTst_mt s m .captain
  unfold State.take
  dsimp only
  rw [setMt_mt, h]

theorem take_mt_other (s : State) (m : Mast) : (s.take m).mt m.other = s.mt m.other := by
  unfold State.take
  dsimp only
  rw [setMt_mt_ne _ (other_ne m), State.mt, Keeps_same (takeTiming_keeps_self _ m) .tan rfl]
  exact setTst_mt_ne s .captain (other_ne m)

/-- Of two Captains the one that does not yield leads (R79). -/
theorem captain_of_yields (hm : s.tst m = .captain) (ho : s.tst m.other = .captain) (hy : (s.mt m.other).yields = true)
    (hn : (s.mt m).lines.yield0 = false) : s.captain = some m := by
  have hy0 : (s.mt m.other).lines.yield0 = true := by
    unfold MastTandem.yields at hy
    exact (Bool.and_eq_true _ _ ▸ hy).1
  unfold State.captain
  cases m with
  | a => rw [if_pos (by simp [hm, hn])]
  | b => rw [if_neg (by simp [show s.tst .b = .captain from hm, show (s.mt .a).lines.yield0 = true from hy0]), if_pos hm]

/-! ### A mast is reset after a switch-over (R79, R98) -/

/-- What a reset of a mast, or its wait for cool dies, leaves of the other mast and of the last switch-over. -/
structure State.Released (s t : State) (m : Mast) : Prop where
  out : t.tst m = .out
  other : t.mt m.other = s.mt m.other
  step : t.tan.lastSwitchStep = s.tan.lastSwitchStep
  cause : t.tan.lastCause = s.tan.lastCause
  stay : t.tan.stay = s.tan.stay

theorem wipeMast_tan (s : State) (m : Mast) : (s.wipeMast m).tan = s.tan := rfl

theorem resetMast_released (s : State) (m : Mast) (cause : Nat) : s.Released (s.resetMast m cause) m := by
  have hboot := resetMast_rebooted s m cause
  have hflush := Keeps_same (flushLog_wipeRows_keeps s m (fun _ => true)) .tan rfl
  obtain ⟨n, htan⟩ := setTst_tan ((s.flushLog m).wipeRows m (fun _ => true)) m .out
  rw [hflush] at htan
  have hstep := congrArg Tandem.lastSwitchStep htan
  have hcause := congrArg Tandem.lastCause htan
  have hstay := congrArg Tandem.stay htan
  have hout := hboot.out
  have hother := hboot.other
  unfold State.resetMast at hout hother ⊢
  generalize ((s.flushLog m).wipeRows m (fun _ => true)).setTst m .out = u at hstep hcause hstay hout hother
  exact ⟨hout, hother, hstep, hcause, hstay⟩

theorem awaitCool_released (s : State) (m : Mast) (cause : Nat) : s.Released (s.awaitCool m cause) m := by
  have hout := setTst_mt s m .out
  have hother := setTst_mt_ne s .out (other_ne m)
  obtain ⟨n, htan⟩ := setTst_tan s m .out
  have hstep := congrArg Tandem.lastSwitchStep htan
  have hcause := congrArg Tandem.lastCause htan
  have hstay := congrArg Tandem.stay htan
  have hst := congrArg MastTandem.st hout
  unfold State.awaitCool
  generalize s.setTst m .out = u at hstep hcause hstay hst hother
  exact ⟨hst, hother, hstep, hcause, hstay⟩

theorem mastReset_released (s : State) (m : Mast) (cause : Nat) : s.Released (s.mastReset m cause) m := by
  unfold State.mastReset
  split
  · exact awaitCool_released s m cause
  · exact resetMast_released s m cause

theorem dropUncommitted_tan (s : State) : s.dropUncommitted.tan = s.tan :=
  Keeps_same (dropUncommitted_keeps (keeps_refl 33630304 s) rfl) .tan rfl

theorem event_tan (s : State) (o c : Nat) (f : List Byte) : (s.event o c f).tan = s.tan :=
  Keeps_same (event_keeps _ _ _ (keeps_refl 96 s) rfl) .tan rfl

theorem dualEnds_tan (s : State) : ∃ d, s.dualEnds.tan = { s.tan with stay := { s.tan.stay with dualSince := d } } := by
  unfold State.dualEnds
  split
  · dsimp only
    split
    · rw [event_tan]
      exact ⟨_, rfl⟩
    · exact ⟨_, rfl⟩
  · exact ⟨_, rfl⟩

theorem switchedOver_tan (s : State) (m : Mast) (cause source : Nat) :
    (s.switchedOver m cause source).tan = { s.tan with lastSwitchStep := s.step, lastCause := cause } :=
  Keeps_same (event_keeps _ _ _ (keeps_refl 96 _) rfl) .tan rfl

/-! ### RELEASE_DRIVERS (R79, R80, R83) -/

/-- The old Captain `m` has left the role and the new one drives (R79). -/
def State.handedOver (s : State) (m : Mast) : State :=
  let s1 := (s.setTst m (if s.tan.planned then .stoker else .out)).settleRole m.other
  let s2 := s1.switchedOver m.other (if s.tan.planned then 2 else 0) s.tan.switchSource
  { s2 with tan := { s2.tan with planned := false, switchSource := 0xFFFF } }

theorem handedOver_tan (s : State) (m : Mast) : ∃ n, (s.handedOver m).tan = { s.tan with
    m := (s.tan.m.set m (s.roleOf m (if s.tan.planned then .stoker else .out))).set m.other
      { s.mt m.other with steer := true, lines := { (s.mt m.other).lines with take0 := false, take1 := false } }
    tandemAt := n, lastSwitchStep := s.step, lastCause := if s.tan.planned then 2 else 0, planned := false
    switchSource := 0xFFFF } := by
  have hstep := Keeps_same (setTst_keeps m (if s.tan.planned then .stoker else .out) (keeps_refl 352 s) rfl) .step rfl
  have hother := setTst_mt_ne s (if s.tan.planned then .stoker else .out) (other_ne m)
  obtain ⟨n, htan⟩ := setTst_tan s m (if s.tan.planned then .stoker else .out)
  unfold State.handedOver State.settleRole
  generalize s.setTst m (if s.tan.planned then .stoker else .out) = u at hstep hother htan
  dsimp only
  rw [switchedOver_tan, hother]
  dsimp only [State.setMt]
  rw [htan, hstep]
  exact ⟨n, rfl⟩

theorem handedOver_md (s : State) (m : Mast) : (s.handedOver m).md = s.md ∧ (s.handedOver m).sup = s.sup := by
  have hput := setTst_keeps m (if s.tan.planned then .stoker else .out) (keeps_refl 352 s) rfl
  have hover (x : State) (k : Mast) (c src : Nat) := switchedOver_keeps k c src (keeps_refl 352 x) rfl
  unfold State.handedOver
  generalize s.setTst m (if s.tan.planned then .stoker else .out) = u at hput
  dsimp only
  rw [Keeps_same (hover _ _ _ _) .md rfl, Keeps_same (hover _ _ _ _) .sup rfl]
  exact ⟨Keeps_same hput .md rfl, Keeps_same hput .sup rfl⟩

theorem exec_releaseDrivers (hcap : s.isCaptain m = true) (hy : (s.mt m).yields = true) (ho : s.isCaptain m.other = true)
    (ht : (s.mt m.other).takes = true) : exec (.releaseDrivers m) s = .next (if s.tan.planned then s.handedOver m
      else (s.handedOver m).dropUncommitted.mastReset m ((s.tan.resetCause.get m).getD 6)) := by
  change execReleaseDrivers m s = _
  unfold execReleaseDrivers
  rw [hcap, hy, ho, ht, if_neg (by decide)]
  rfl

theorem resetMast_resets (s : State) (m : Mast) (cause : Nat) (h : (s.sup.get m).hot = false) :
    (s.mastReset m cause).md.nest.resets.head? =
      some { cause := cause, mast := m.code, bootCount := s.md.bootCount, rtc := s.md.nest.rtc } := by
  unfold State.mastReset
  rw [h, if_neg Bool.false_ne_true]
  exact (resetMast_rebooted s m cause).resets

/-! ### ABRUPT_TAKEOVER (R81, R85) -/

/-- The Captain `m.other` is dead and the Stoker `m` has its role, before EV_SWITCH_OVER (R81). -/
def State.takenOver (s : State) (m : Mast) : State :=
  let s1 := (((s.dualEnds.setTst m .captain).lostMast m.other).takeTiming m).dropUncommitted
  { s1 with tan := { s1.tan with planned := false, join := none, stay := { s1.tan.stay with claim := none } } }

theorem lostMast_mt (s : State) (k : Mast) : ((s.lostMast k).mt k).st = .out := by
  have h := setTst_mt s k .out
  unfold State.lostMast State.setAlive
  generalize s.setTst k .out = u at h
  have hst := congrArg MastTandem.st h
  cases k <;> exact hst

theorem lostMast_mt_other (s : State) (k : Mast) : (s.lostMast k).mt k.other = s.mt k.other := by
  have h := setTst_mt_ne s .out (other_ne k)
  unfold State.lostMast State.setAlive
  generalize s.setTst k .out = u at h
  cases k <;> exact h

theorem lostMast_boot (s : State) (k : Mast) : ((s.lostMast k).md.boot.get k).powerGood = false := by
  unfold State.lostMast
  cases k <;> rfl

theorem other_other (m : Mast) : m.other.other = m := by cases m <;> rfl

theorem takenOver_leaves (s : State) (m : Mast) : ((s.takenOver m).mt m).st = .captain ∧ ((s.takenOver m).mt m.other).st = .out ∧
    (s.takenOver m).tan.join = none ∧ ((s.takenOver m).md.boot.get m.other).powerGood = false ∧ (s.takenOver m).step = s.step := by
  have hst := congrArg MastTandem.st (setTst_mt s.dualEnds m .captain)
  have hdead := lostMast_mt (s.dualEnds.setTst m .captain) m.other
  have hlives := lostMast_mt_other (s.dualEnds.setTst m .captain) m.other
  have hboot := lostMast_boot (s.dualEnds.setTst m .captain) m.other
  have hstep : ((s.dualEnds.setTst m .captain).lostMast m.other).step = s.step :=
    Keeps_same (lostMast_keeps _ (setTst_keeps _ _ (dualEnds_keeps (keeps_refl 83870176 s) rfl) rfl) rfl) .step rfl
  rw [other_other] at hlives
  rw [← hlives] at hst
  unfold State.takenOver
  generalize (s.dualEnds.setTst m .captain).lostMast m.other = x at hst hdead hboot hstep
  have hkeep : Keeps 33893984 x (x.takeTiming m).dropUncommitted :=
    dropUncommitted_keeps (keeps_mono (takeTiming_keeps_self x m) rfl) rfl
  generalize (x.takeTiming m).dropUncommitted = y at hkeep
  have htan : y.tan = x.tan := Keeps_same hkeep .tan rfl
  have hmt (k : Mast) : y.mt k = x.mt k := congrArg (fun x : Tandem => x.m.get k) htan
  rw [← hmt] at hst hdead
  rw [← Keeps_same hkeep .md rfl] at hboot
  exact ⟨hst, hdead, rfl, hboot, (Keeps_same hkeep .step rfl).trans hstep⟩

/-- Settles O41: the role of each mast is read back through the parts of a switch-over. -/
theorem rolesMove : Obligations.RolesMove := by
  unfold Obligations.RolesMove
  intro m ball s
  refine ⟨fun hst hcap hy => ?_, fun hcap hy ho ht => ?_, fun hst hcap hdown => ?_, fun hon => ?_⟩
  · have hexec : exec (.takeCaptain m) s = .next (s.take m) := by
      change execTakeCaptain m s = _
      unfold execTakeCaptain
      rw [hst, hcap, hy]
      rfl
    have hm := take_mt s m
    have ho := take_mt_other s m
    have hown : (s.take m).tst m = .captain := congrArg MastTandem.st hm
    have hother : (s.take m).tst m.other = .captain := (congrArg MastTandem.st ho).trans (of_decide_eq_true hcap)
    have hyields : ((s.take m).mt m.other).yields = true := by rw [ho]; exact hy
    refine ⟨_, hexec, hown, hother, captain_of_yields hown hother hyields ?_, ?_, ?_, hyields⟩ <;> rw [hm] <;> rfl
  · obtain ⟨n, htan⟩ := handedOver_tan s m
    obtain ⟨hmd, hsup⟩ := handedOver_md s m
    rw [exec_releaseDrivers hcap hy ho ht]
    generalize s.handedOver m = x at htan hmd hsup
    have hother : x.mt m.other = { s.mt m.other with
        steer := true, lines := { (s.mt m.other).lines with take0 := false, take1 := false } } := by
      rw [State.mt, htan, Both_get_set]
    have hown : (x.mt m).st = if s.tan.planned then .stoker else .out := by
      rw [State.mt, htan, Both_get_set_ne _ _ (Ne.symm (other_ne m)), Both_get_set]
      rfl
    have hst : (s.mt m.other).st = .captain := of_decide_eq_true ho
    cases hp : s.tan.planned with
    | true =>
      rw [hp] at hown htan
      refine ⟨x, rfl, ?_, ?_, ?_, ?_, fun _ => ⟨hown, ?_, ?_⟩, nofun⟩
      · rw [State.tst, hother]; exact hst
      · rw [hother]
      · rw [hother]; rfl
      · rw [htan]
      · rw [htan]; rfl
      · rw [htan]
    | false =>
      rw [hp] at hown htan
      have hrel := mastReset_released x.dropUncommitted m ((s.tan.resetCause.get m).getD 6)
      have hresets := resetMast_resets x.dropUncommitted m ((s.tan.resetCause.get m).getD 6)
      have hdmd := Keeps_same (dropUncommitted_keeps (keeps_refl 33630304 x) rfl) .md rfl
      have hdsup := Keeps_same (dropUncommitted_keeps (keeps_refl 33630304 x) rfl) .sup rfl
      have hdtan := dropUncommitted_tan x
      rw [hdmd, hdsup, hmd, hsup] at hresets
      rw [if_neg Bool.false_ne_true]
      generalize x.dropUncommitted = d at hrel hresets hdtan
      generalize d.mastReset m _ = y at hrel hresets
      have hy : y.mt m.other = x.mt m.other := hrel.other.trans (congrArg (fun x : Tandem => x.m.get m.other) hdtan)
      rw [hother] at hy
      refine ⟨y, rfl, ?_, ?_, ?_, ?_, nofun, fun _ => ⟨hrel.out, ?_, hresets⟩⟩
      · rw [State.tst, hy]; exact hst
      · rw [hy]
      · rw [hy]; rfl
      · rw [hrel.step, hdtan, htan]
      · rw [hrel.cause, hdtan, htan]; rfl
  · have hexec : exec (.abruptTakeover m true true) s = .next ((s.takenOver m).switchedOver m 1 0xFFFF) := by
      change execAbruptTakeover m true true s = _
      unfold execAbruptTakeover
      rw [hst, hcap, hdown]
      rfl
    obtain ⟨hown, hother, hjoin, hboot, hstep⟩ := takenOver_leaves s m
    have htan := switchedOver_tan (s.takenOver m) m 1 0xFFFF
    have hmd := Keeps_same (switchedOver_keeps m 1 0xFFFF (keeps_refl 352 (s.takenOver m)) rfl) .md rfl
    rw [hexec]
    generalize (s.takenOver m).switchedOver m 1 0xFFFF = y at htan hmd
    generalize s.takenOver m = x at hown hother hjoin hboot hstep htan hmd
    refine ⟨y, rfl, ?_, ?_, ?_, ?_, ?_, ?_⟩
    · rw [State.tst, State.mt, htan]; exact hown
    · rw [State.tst, State.mt, htan]; exact hother
    · rw [htan]; exact hstep
    · rw [htan]
    · rw [htan]; exact hjoin
    · rw [hmd]; exact hboot
  · change execSteerReadbackFault m ball s = _
    unfold execSteerReadbackFault
    rw [if_pos hon]

end Sys2Proof.Machine

/-! # O44: reports reach the log (R484, R488, R492 to R494) -/
namespace Sys2Proof.Machine
open Host Sys2Proof

variable {s t u : State} {m : Mast}

/-! ### What an operation leaves of the counters and the fault state -/

theorem ct_bump_same (s : State) (m : Mast) (i : Nat) : ((s.bump m i 1).ct m).read i = satAdd64 ((s.ct m).read i) 1 := by
  rw [bump_ct s m i 1 (by decide), Counters_read_bump]

theorem ct_bump_ne (s : State) (m k : Mast) (n : Nat) {i j : Nat} (h : i ≠ j) : ((s.bump m j n).ct k).read i = (s.ct k).read i := by
  unfold State.bump
  split
  · rfl
  · by_cases hk : k = m
    · subst hk
      rw [State.ct, Both_get_set, Counters_read_bump_ne _ _ _ h]
    · rw [State.ct, Both_get_set_ne _ _ hk]
      rfl

@[simp] theorem fl_bump (s : State) (m k : Mast) (i n : Nat) : (s.bump m i n).fl k = s.fl k := by
  rw [State.fl, Keeps_same (bump_keeps m i n (keeps_refl 1024 s) rfl) .flt rfl, State.fl]

@[simp] theorem fl_setFl (s : State) (m : Mast) (f : FaultState) : (s.setFl m f).fl m = f := Both_get_set ..

@[simp] theorem ct_setFl (s : State) (m k : Mast) (f : FaultState) : (s.setFl m f).ct k = s.ct k := rfl

/-- The parts of the fault state that the log writer does not look at differ only in the tests (R496). -/
theorem startTest_leaves (s : State) (m k : Mast) (src site : Nat) :
    ((s.startTest m src site).fl k).queue = (s.fl k).queue ∧ ((s.startTest m src site).fl k).bursts = (s.fl k).bursts ∧
      ∀ i, i ≠ 0x0109 → ((s.startTest m src site).ct k).read i = (s.ct k).read i := by
  unfold State.startTest
  dsimp only
  split
  · rw [fl_bump]
    refine ⟨?_, ?_, fun i hi => ct_bump_ne _ _ _ _ hi⟩
    · by_cases hk : k = m
      · subst hk; rw [fl_setFl]
      · rw [State.fl, State.setFl_flt, Both_get_set_ne _ _ hk, State.fl]
    · by_cases hk : k = m
      · subst hk; rw [fl_setFl]
      · rw [State.fl, State.setFl_flt, Both_get_set_ne _ _ hk, State.fl]
  · exact ⟨rfl, rfl, fun _ _ => rfl⟩

/-! ### A report that does not escalate (R488, R494) -/

/-- Such a report is counted, coalesced or put into the queue, and starts its row's test. -/
theorem reportInfo_plain {src site cls : Nat} {i : ReportInfo} (hk : knownSource src = true)
    (hc : s.classOf m src site i.late = some cls) (h2 : cls ≤ 2) (he : escalates src = false) :
    s.reportInfo m src site i = (((s.bump (if packageSource src then s.lead else m) src 1).collect
      (if packageSource src then s.lead else m) src site cls false i).startTest m src site) := by
  have hd : datapathSource src = false := by
    refine Bool.eq_false_iff.mpr fun h => ?_
    have hmem : src = 0x00 ∨ src = 0x02 ∨ src = 0x03 ∨ src = 0x04 ∨ src = 0x05 ∨ src = 0x23 := by
      simpa [datapathSource] using h
    rcases hmem with rfl | rfl | rfl | rfl | rfl | rfl
    all_goals exact absurd he (by decide)
  have hcore : s.reportCore m src site i = (((s.bump (if packageSource src then s.lead else m) src 1).collect
      (if packageSource src then s.lead else m) src site cls false i).startTest m src site) := by
    have hreact (x : State) : x.react m src cls = x := by
      rw [State.react, if_neg (by omega), if_neg (by omega)]
    unfold State.reportCore
    rw [hk, hc, if_neg (by decide)]
    dsimp only
    rw [he, hd]
    exact hreact _
  unfold State.reportInfo
  rw [hc, hcore, he]
  obtain rfl | rfl | rfl : cls = 0 ∨ cls = 1 ∨ cls = 2 := by omega
  all_goals rfl

theorem readSources_lasting (memory : Nat) : escalates (readSources memory).2 = true ∨ (readSources memory).2 = 0x91 := by
  unfold readSources
  repeat' split
  all_goals decide

/-- A read that the code corrects is counted under its memory; what it cannot correct escalates (R498, R505). -/
theorem countRead_plain {src site cls : Nat} {late : Bool} (hc : s.classOf m src site late = some cls) (h2 : cls ≤ 2)
    (he : escalates src = false) : s.countRead m src site = { s with ctr := (s.countRead m src site).ctr } ∧
      ∀ k i, i < 0x0200 → ((s.countRead m src site).ct k).read i = (s.ct k).read i := by
  unfold State.countRead
  dsimp only
  split
  · exact ⟨rfl, fun _ _ _ => rfl⟩
  · split
    · refine ⟨?_, fun k i hi => ct_bump_ne _ _ _ _ (by omega)⟩
      unfold State.bump
      split <;> rfl
    · split
      next hsrc =>
        rcases readSources_lasting (site / 2 ^ 20 % 256) with h | h
        · rw [← hsrc, he] at h
          exact absurd h Bool.false_ne_true
        · rw [hsrc, h] at hc
          have h3 : s.classOf m 0x91 site late = some 3 := rfl
          rw [h3] at hc
          have := Option.some.inj hc
          omega
      next => exact ⟨rfl, fun _ _ _ => rfl⟩

theorem burstOf_none {src : Nat} (h : (s.fl m).bursts.find src = none) : s.burstOf m src = none := by
  unfold State.burstOf
  rw [h]
  rfl

theorem burstOf_some {src : Nat} {b : Burst} (h : s.burstOf m src = some b) : (s.fl m).bursts.find src = some b :=
  (Option.filter_eq_some_iff.mp h).1

/-- Outside a burst a report goes to the log writer's queue (R492, R494). -/
theorem collect_fresh {src site level : Nat} {i : ReportInfo} (h : (s.fl m).bursts.find src = none)
    (hroom : (s.fl m).queue.length < 64) :
    (∀ j, j < 0x0100 → ((s.collect m src site level false i).ct m).read j = (s.ct m).read j) ∧
    ∃ q, ((s.collect m src site level false i).fl m).queue = (s.fl m).queue ++ [q] ∧ q.source = src ∧ q.reef = level ∧
      q.site = site ∧ q.step = i.step ∧ q.count = 1 ∧ q.escalated = false := by
  have hclose : s.closeBurst m src = s := by
    unfold State.closeBurst
    rw [h]
  unfold State.collect
  rw [if_neg Bool.false_ne_true, burstOf_none h]
  unfold State.openBurst State.queueReport
  rw [hclose]
  dsimp only
  rw [fl_setFl, if_neg (by dsimp only; omega), fl_setFl]
  exact ⟨fun _ _ => rfl, _, rfl, rfl, rfl, rfl, rfl, rfl, rfl⟩

/-- Within a burst a report is only counted in it (R494). -/
theorem collect_coalesced {src site level : Nat} {i : ReportInfo} {b : Burst} (h : s.burstOf m src = some b) :
    (∀ j, j < 0x0100 → ((s.collect m src site level false i).ct m).read j = (s.ct m).read j) ∧
    ((s.collect m src site level false i).fl m).queue = (s.fl m).queue ∧
    ((s.collect m src site level false i).fl m).bursts.find src =
      some { b with last := s.now, coalesced := b.coalesced + 1, site := site, level := level, step := i.step } := by
  unfold State.collect
  rw [if_neg Bool.false_ne_true, h]
  unfold State.coalesce
  dsimp only
  rw [fl_bump, fl_setFl]
  refine ⟨fun j hj => ?_, rfl, Assoc_find_put ..⟩
  rw [ct_bump_ne _ _ _ _ (by omega), ct_setFl]

theorem execFaultReport_powered {src site step : Nat} {late : Bool} (hv : s.md.mode ≠ .vault)
    (hp : (s.md.boot.get m).powerGood = true) : execFaultReport m src site step late s =
      .next ((s.countRead m src site).reportInfo m src site { ReportInfo.plain step with late := late }) := by
  unfold execFaultReport
  rw [hp, if_neg (by simp [hv])]

theorem knownSource_lt {src : Nat} (h : knownSource src = true) : src < 0x0100 := by
  simp only [knownSource, Bool.or_eq_true, Bool.and_eq_true, decide_eq_true_eq] at h
  omega

theorem collect_startTest_keeps (s : State) (own m : Mast) (src site cls : Nat) (i : ReportInfo) :
    Keeps 1536 s (((s.bump own src 1).collect own src site cls false i).startTest m src site) :=
  startTest_keeps _ _ _ (collect_keeps _ _ _ _ _ _ (bump_keeps _ _ _ (keeps_refl _ _) rfl) rfl) rfl

/-- The new value of a part whose bit the mask has, and the old one of any other. -/
def pickPart {α : Type} (w k : Nat) (old new : α) : α := if w.testBit k = true then new else old

/-- The new state with every part put back that the mask keeps. -/
def State.pick (w : Nat) (s t : State) : State :=
  { pending := s.pending, variant := s.variant,
    now := pickPart w 1 s.now t.now, step := pickPart w 2 s.step t.step,
    freeCount := pickPart w 3 s.freeCount t.freeCount, hal := pickPart w 5 s.hal t.hal,
    port := pickPart w 6 s.port t.port, md := pickPart w 7 s.md t.md,
    tan := pickPart w 8 s.tan t.tan, flt := pickPart w 9 s.flt t.flt,
    ctr := pickPart w 10 s.ctr t.ctr, snap := pickPart w 11 s.snap t.snap,
    sec := pickPart w 12 s.sec t.sec, rigs := pickPart w 13 s.rigs t.rigs,
    dp := pickPart w 14 s.dp t.dp, aud := pickPart w 15 s.aud t.aud,
    vid := pickPart w 16 s.vid t.vid, lan := pickPart w 17 s.lan t.lan,
    tim := pickPart w 18 s.tim t.tim, clk := pickPart w 19 s.clk t.clk,
    ptp := pickPart w 20 s.ptp t.ptp, sup := pickPart w 21 s.sup t.sup,
    mem := pickPart w 22 s.mem t.mem, alm := pickPart w 23 s.alm t.alm,
    alarm := pickPart w 24 s.alarm t.alarm, jobs := pickPart w 25 s.jobs t.jobs,
    handovers := pickPart w 26 s.handovers t.handovers, tests := pickPart w 27 s.tests t.tests }

theorem pickPart_of_fixed {α : Type} {w k : Nat} {old new : α} (h : Fixed w k old new) : new = pickPart w k old new := by
  unfold pickPart
  split
  · rfl
  · next hw => exact h.resolve_left hw

/-- A state that keeps all but the parts of a mask is the old one with those parts replaced. -/
theorem eq_pick_of_keeps {w : Nat} (h : Keeps w s t) : t = State.pick w s t := by
  unfold State.pick
  cases t
  cases s
  simp only [State.mk.injEq]
  exact ⟨h.pending, pickPart_of_fixed h.now, pickPart_of_fixed h.step, pickPart_of_fixed h.freeCount, h.variant,
    pickPart_of_fixed h.hal, pickPart_of_fixed h.port, pickPart_of_fixed h.md, pickPart_of_fixed h.tan,
    pickPart_of_fixed h.flt, pickPart_of_fixed h.ctr, pickPart_of_fixed h.snap, pickPart_of_fixed h.sec,
    pickPart_of_fixed h.rigs, pickPart_of_fixed h.dp, pickPart_of_fixed h.aud, pickPart_of_fixed h.vid,
    pickPart_of_fixed h.lan, pickPart_of_fixed h.tim, pickPart_of_fixed h.clk, pickPart_of_fixed h.ptp,
    pickPart_of_fixed h.sup, pickPart_of_fixed h.mem, pickPart_of_fixed h.alm, pickPart_of_fixed h.alarm,
    pickPart_of_fixed h.jobs, pickPart_of_fixed h.handovers, pickPart_of_fixed h.tests⟩

theorem eq_of_keeps_log (h : Keeps 1536 s t) : t = { s with flt := t.flt, ctr := t.ctr } := eq_pick_of_keeps h

/-! ### The log writer (R492, R493) -/

theorem exec_logWrite {q : QueuedReport} {rest : List QueuedReport} (h : (s.fl m).queue = q :: rest) :
    exec (.logWrite m) s = .next ((s.setFl m { s.fl m with queue := rest }).writeEntry m q) := by
  change execLogWrite m s = _
  unfold execLogWrite State.logWrite
  rw [h]

theorem faultEvent_keeps_self (s : State) (m : Mast) (r : QueuedReport) (n : Nat) : Keeps 96 s (s.faultEvent m r n) :=
  faultEvent_keeps m r n (keeps_refl 96 s) rfl

theorem faultEvent_log (s : State) (m : Mast) (r : QueuedReport) (n : Nat) :
    (s.faultEvent m r n).fl m = s.fl m ∧ (s.faultEvent m r n).ct m = s.ct m :=
  ⟨congrArg (Both.get · m) (Keeps_same (faultEvent_keeps_self s m r n) .flt rfl),
    congrArg (Both.get · m) (Keeps_same (faultEvent_keeps_self s m r n) .ctr rfl)⟩

/-- Where a slot qualifies, a report enters the log under the next ENTRY_ID (R492). -/
theorem writeEntry_room (q : QueuedReport) {room : List LogEntry} (h : logRoom (s.fl m).log = some room) : ∃ e : LogEntry,
    ((s.writeEntry m q).fl m).log = room ++ [e] ∧ ((s.writeEntry m q).fl m).queue = (s.fl m).queue ∧
    ((s.writeEntry m q).fl m).nextId = nextEntryId (s.fl m).nextId ∧
    ((s.writeEntry m q).ct m).read 0x0100 = satAdd64 ((s.ct m).read 0x0100) 1 ∧
    e.id = (s.fl m).nextId ∧ e.source = q.source ∧ e.reef = q.reef ∧ e.site = q.site ∧ e.step = q.step ∧ e.count = q.count ∧
    e.acked = false := by
  unfold State.writeEntry
  dsimp only
  rw [h]
  dsimp only
  rw [(faultEvent_log _ _ _ _).1, (faultEvent_log _ _ _ _).2]
  generalize hx : s.setFl m _ = x
  have hfl : x.fl m = _ := hx ▸ fl_setFl ..
  have hct : x.ct m = s.ct m := hx ▸ rfl
  have hsum : (if q.summary then (x.bump m 0x0100 1).bump m 0x0103 1 else x.bump m 0x0100 1).fl m = x.fl m := by
    split
    · rw [fl_bump, fl_bump]
    · rw [fl_bump]
  have hcount : ((if q.summary then (x.bump m 0x0100 1).bump m 0x0103 1 else x.bump m 0x0100 1).ct m).read 0x0100 =
      satAdd64 ((s.ct m).read 0x0100) 1 := by
    split
    · rw [ct_bump_ne _ _ _ _ (by decide), ct_bump_same, hct]
    · rw [ct_bump_same, hct]
  rw [hsum, hfl]
  exact ⟨_, rfl, rfl, rfl, hcount, rfl, rfl, rfl, rfl, rfl, rfl, rfl⟩

/-- Where no slot qualifies, the report is lost and counted (R493). -/
theorem writeEntry_full (q : QueuedReport) (h : logRoom (s.fl m).log = none) :
    (s.writeEntry m q).fl m = s.fl m ∧ ((s.writeEntry m q).ct m).read 0x0101 = satAdd64 ((s.ct m).read 0x0101) 1 := by
  unfold State.writeEntry
  dsimp only
  rw [h]
  dsimp only
  rw [(faultEvent_log _ _ _ _).1, (faultEvent_log _ _ _ _).2]
  exact ⟨fl_bump .., ct_bump_same ..⟩

/-- A burst that closes leaves the table, with a summary of what it coalesced (R494). -/
theorem closeBurst_leaves {src : Nat} {b : Burst} (h : (s.fl m).bursts.find src = some b) :
    ((s.closeBurst m src).fl m).bursts.find src = none ∧
    (b.coalesced = 0 → ((s.closeBurst m src).fl m).queue = (s.fl m).queue) ∧
    (b.coalesced ≠ 0 → (s.fl m).queue.length < 64 → ∃ q, ((s.closeBurst m src).fl m).queue = (s.fl m).queue ++ [q] ∧ q.source = src ∧
      q.summary = true ∧ q.count = b.coalesced ∧ q.reef = b.level) := by
  unfold State.closeBurst
  rw [h]
  dsimp only
  split
  next hzero =>
    rw [fl_setFl]
    exact ⟨Assoc_find_drop .., fun _ => rfl, fun hn => absurd hzero hn⟩
  next hmany =>
    unfold State.queueReport
    rw [fl_setFl]
    dsimp only
    split
    next hfull =>
      rw [fl_bump, fl_setFl]
      exact ⟨Assoc_find_drop .., fun hz => absurd hz hmany, fun _ hspace => absurd hfull (by omega)⟩
    next =>
      rw [fl_setFl]
      exact ⟨Assoc_find_drop .., fun hz => absurd hz hmany, fun _ _ => ⟨_, rfl, rfl, rfl, rfl, rfl⟩⟩

/-- Settles O44: by the burst of the source, then by the log writer's queue. -/
theorem reportsReachTheLog : Obligations.ReportsReachTheLog := by
  unfold Obligations.ReportsReachTheLog
  refine ⟨fun m src site step cls late s => ?_, fun m s => ⟨fun q rest hq => ⟨fun room hroom => ?_, fun hfull => ?_⟩, fun src b hb hdue => ?_⟩⟩
  · intro own hv hp hk he hc h2
    obtain ⟨hread, hct⟩ := countRead_plain (m := m) hc h2 he
    have hlt := knownSource_lt hk
    have hclass : (s.countRead m src site).classOf m src site late = some cls := by rw [hread]; exact hc
    have hlead : (if packageSource src then (s.countRead m src site).lead else m) = own := by rw [hread]; rfl
    have hfl : (s.countRead m src site).fl own = s.fl own := by rw [hread]; rfl
    have hnow : (s.countRead m src site).now = s.now := by rw [hread]
    have hkeep : ∀ t, Keeps 1536 (s.countRead m src site) t → t = { s with flt := t.flt, ctr := t.ctr } := by
      intro t ht
      have h := eq_of_keeps_log ht
      rw [hread] at h
      exact h
    have hctown := hct own src (by omega)
    have hexec := execFaultReport_powered (src := src) (site := site) (step := step) (late := late) hv hp
    have hreport := reportInfo_plain (m := m) (s := s.countRead m src site)
      (i := { ReportInfo.plain step with late := late }) hk hclass h2 he
    rw [hlead] at hreport
    have hexec : exec (.faultReport m src site step late) s = _ := hexec
    rw [hexec, hreport]
    generalize s.countRead m src site = x at hfl hnow hkeep hctown
    have hall := hkeep _ (collect_startTest_keeps x own m src site cls { ReportInfo.plain step with late := late })
    have hbumped : (x.bump own src 1).fl own = s.fl own := (fl_bump ..).trans hfl
    have hcounted : ((x.bump own src 1).ct own).read src = satAdd64 ((s.ct own).read src) 1 := by
      rw [ct_bump_same, hctown]
    have hbnow : (x.bump own src 1).now = s.now := (Keeps_same (bump_keeps own src 1 (keeps_refl 1024 x) rfl) .now rfl).trans hnow
    generalize x.bump own src 1 = y at hall hbumped hcounted hbnow ⊢
    obtain ⟨hqueue, hbursts, hreads⟩ := startTest_leaves (y.collect own src site cls false { ReportInfo.plain step with late := late })
      m own src site
    refine ⟨fun hnone hspace => ⟨_, rfl, hall, ?_⟩, fun b hb => ⟨_, rfl, hall, ?_⟩⟩
    · obtain ⟨hcount, q, hq, hrest⟩ := collect_fresh (s := y) (m := own) (src := src) (site := site) (level := cls)
        (i := { ReportInfo.plain step with late := late }) (by rw [hbumped]; exact hnone) (by rw [hbumped]; exact hspace)
      refine ⟨?_, q, ?_, hrest⟩
      · rw [hreads _ (by omega), hcount _ hlt, hcounted]
      · rw [hqueue, hq, hbumped]
    · have hby : y.burstOf own src = some b := by
        unfold State.burstOf at hb ⊢
        rw [hbumped, hbnow]
        exact hb
      obtain ⟨hcount, hq, hb'⟩ := collect_coalesced (s := y) (m := own) (src := src) (site := site) (level := cls)
        (i := { ReportInfo.plain step with late := late }) hby
      refine ⟨?_, ?_, ?_⟩
      · rw [hreads _ (by omega), hcount _ hlt, hcounted]
      · rw [hqueue, hq, hbumped]
      · rw [hbursts, hb', hbnow]
        rfl
  · obtain ⟨e, hwrite⟩ := writeEntry_room (s := s.setFl m { s.fl m with queue := rest }) (m := m) q (by rw [fl_setFl]; exact hroom)
    obtain ⟨hlog, hqueue, hnext, hcount, hentry⟩ := hwrite
    refine ⟨_, e, exec_logWrite hq, ?_, ?_, ?_⟩
    · rw [hqueue, fl_setFl]
    · exact hlog
    · rw [fl_setFl] at hnext hentry
      obtain ⟨hid, hsource, hreef, hsite, hstep, hcnt, hacked⟩ := hentry
      exact ⟨hid, hsource, hreef, hsite, hstep, hcnt, hacked, hnext, hcount⟩
  · obtain ⟨hfl, hcount⟩ := writeEntry_full (s := s.setFl m { s.fl m with queue := rest }) (m := m) q (by rw [fl_setFl]; exact hfull)
    refine ⟨_, exec_logWrite hq, ?_, ?_, hcount⟩
    · rw [hfl, fl_setFl]
    · rw [hfl, fl_setFl]
  · have hexec : exec (.burstClose m src) s = .next (s.closeBurst m src) := by
      change execBurstClose m src s = _
      unfold execBurstClose
      rw [hb]
      dsimp only
      rw [if_pos hdue]
    rw [hexec]
    exact ⟨_, rfl, closeBurst_leaves hb⟩

end Sys2Proof.Machine

/-! # O45: the reactions of the reef levels (R128, R487, R491) -/
namespace Sys2Proof.Machine
open Host Sys2Proof

variable {s t u : State} {m : Mast}

/-! ### A mast is taken out (R491) -/

/-- The decision to take a mast out is recorded (R491). -/
def State.outNoted (s : State) (m : Mast) (source : Nat) : State :=
  let recent := (s.tan.reef3.get m).filter (fun d => decide (s.now ≤ d.2 + 60 * Config.second))
  let s0 : State := { s with tan := { s.tan with reef3 := s.tan.reef3.set m (recent ++ [(source, s.now)]) } }
  let s1 : State :=
    if s0.reef3Count m source > 2 then
      ({ s0 with tan := { s0.tan with barred := s0.tan.barred.set m true } }).logOnly m.other 0xA1 2 0
    else s0
  s1.bump m 0x0105 1

theorem outNoted_tan (s : State) (m : Mast) (src : Nat) : ∃ r b, (s.outNoted m src).tan = { s.tan with reef3 := r, barred := b } := by
  unfold State.outNoted
  dsimp only
  rw [bump_tan]
  split
  · rw [logOnly_tan]
    exact ⟨_, _, rfl⟩
  · exact ⟨_, _, rfl⟩

theorem outNoted_mt (s : State) (m k : Mast) (src : Nat) : (s.outNoted m src).mt k = s.mt k := by
  obtain ⟨r, b, h⟩ := outNoted_tan s m src
  rw [State.mt, h]
  rfl

theorem outNoted_tst (s : State) (m k : Mast) (src : Nat) : (s.outNoted m src).tst k = s.tst k := by
  rw [State.tst, outNoted_mt, State.tst]

theorem outNoted_keeps (s : State) (m : Mast) (src : Nat) : Keeps 1792 s (s.outNoted m src) := by
  have hlog (x : State) : Keeps 1792 x (x.logOnly m.other 0xA1 2 0) := logOnly_keeps _ _ _ _ (keeps_refl 1792 x) rfl
  unfold State.outNoted
  refine bump_keeps _ _ _ ?_ rfl
  dsimp only
  split
  · exact keeps_trans (by simp (maxDischargeDepth := 99)) (hlog _)
  · simp (maxDischargeDepth := 99)

theorem takeOut_of_stoker {src kind : Nat} (hl : s.md.mode ≠ .lockout) (hv : s.md.mode ≠ .vault) (h : s.tst m = .stoker) :
    s.takeOut m src kind = ((s.outNoted m src).mastReset m kind).settleLead := by
  have hst := (outNoted_tst s m m src).trans h
  unfold State.takeOut
  rw [if_neg (by simp [hl, hv])]
  unfold State.outNoted at hst ⊢
  dsimp only at hst ⊢
  rw [hst]

theorem takeOut_of_captain {src kind : Nat} (hl : s.md.mode ≠ .lockout) (hv : s.md.mode ≠ .vault) (h : s.tst m = .captain)
    (ht : s.inTandem = true) : s.takeOut m src kind =
      (let s2 := (s.outNoted m src).yieldRole m false src
       let t := s2.mt m
       let s3 := s2.setMt m { t with drive := { t.drive with liveSafe := true, packets := false } }
       { s3 with tan := { s3.tan with resetCause := s3.tan.resetCause.set m (some kind) } }) := by
  have hst := (outNoted_tst s m m src).trans h
  have htan : (s.outNoted m src).inTandem = true := by
    simp only [State.inTandem, outNoted_tst]
    exact ht
  unfold State.takeOut
  rw [if_neg (by simp [hl, hv])]
  unfold State.outNoted at hst htan ⊢
  dsimp only at hst htan ⊢
  rw [hst]
  dsimp only
  rw [htan, Bool.true_or, if_pos rfl]

theorem takeOut_of_lone {src kind : Nat} (hl : s.md.mode ≠ .lockout) (hv : s.md.mode ≠ .vault) (h : s.tst m = .captain)
    (ht : s.inTandem = false) (ho : s.isCaptain m.other = false) :
    s.takeOut m src kind = ((s.outNoted m src).yieldRole m false src).noCaptain := by
  have hst := (outNoted_tst s m m src).trans h
  have htan : (s.outNoted m src).inTandem = false := by
    simp only [State.inTandem, outNoted_tst]
    exact ht
  have hother : (s.outNoted m src).isCaptain m.other = false := by
    simp only [State.isCaptain, outNoted_tst]
    exact ho
  unfold State.takeOut
  rw [if_neg (by simp [hl, hv])]
  unfold State.outNoted at hst htan hother ⊢
  dsimp only at hst htan hother ⊢
  rw [hst]
  dsimp only
  rw [htan, hother]
  rfl

/-! ### A report that reacts (R487) -/

theorem datapathSource_of_reef4 {src site : Nat} {late : Bool} (hc : s.classOf m src site late = some 4) : datapathSource src = false := by
  refine Bool.eq_false_iff.mpr fun h => ?_
  unfold State.classOf State.reefByRole at hc
  rw [if_pos h] at hc
  split at hc
  · cases hc
  · split at hc <;> cases hc

theorem datapathSource_of_reef3 {src site : Nat} {late : Bool} (hc : s.classOf m src site late = some 3) :
    datapathSource src = false ∨ s.tst m ≠ .stoker := by
  by_cases hs : s.tst m = .stoker
  · refine .inl (Bool.eq_false_iff.mpr fun h => ?_)
    unfold State.classOf State.reefByRole at hc
    rw [if_pos h, hs] at hc
    cases hc
  · exact .inr hs

/-- A report of Reef 3 or 4 counts and is logged, and the reaction of its level follows (R487, R488). -/
theorem faultReport_reacts {src site step cls : Nat} {late : Bool} (hv : s.md.mode ≠ .vault)
    (hp : (s.md.boot.get m).powerGood = true) (hk : knownSource src = true) (hc : s.classOf m src site late = some cls)
    (h3 : 3 ≤ cls) (hf : datapathSource src = false ∨ s.tst m ≠ .stoker) :
    ∃ u : State, exec (.faultReport m src site step late) s = .next (u.react m src cls) ∧ Keeps 4195840 s u := by
  have hread : Keeps 4195328 s (s.countRead m src site) := countRead_keeps m src site (keeps_refl _ s) rfl
  have htan : (s.countRead m src site).tan = s.tan := Keeps_same hread .tan rfl
  obtain ⟨u, hu, hkeep⟩ := reportInfo_reacts (s := s.countRead m src site) (m := m) (site := site)
    (i := { ReportInfo.plain step with late := late }) hk
    ((classOf_congr htan (Keeps_same hread .dp rfl) (Keeps_same hread .md rfl) m src site late).trans hc) (by omega) (.inr h3)
    (hf.imp_right fun h => by rw [tst_of_tan htan]; exact h)
  have hexec := execFaultReport_powered (src := src) (site := site) (step := step) (late := late) hv hp
  exact ⟨u, by rw [exec_faultReport, hexec, hu], keeps_trans (keeps_mono hread rfl) (keeps_mono hkeep rfl)⟩

theorem awaitCool_mode (s : State) (m : Mast) (cause : Nat) : (s.awaitCool m cause).md.mode = s.md.mode := by
  have h := congrArg ModeState.mode (Keeps_same (setTst_keeps m .out (keeps_refl 352 s) rfl) .md rfl)
  unfold State.awaitCool
  generalize s.setTst m .out = u at h
  exact h

theorem mastReset_mode (s : State) (m : Mast) (cause : Nat) : (s.mastReset m cause).md.mode = s.md.mode := by
  unfold State.mastReset
  split
  · exact awaitCool_mode s m cause
  · exact (resetMast_rebooted s m cause).mode

/-- A Stoker taken out is reset, and the Captain leads on (R491). -/
theorem takeOut_stoker_leaves {src kind : Nat} (hl : s.md.mode ≠ .lockout) (hv : s.md.mode ≠ .vault) (h : s.tst m = .stoker)
    (ho : s.isCaptain m.other = true) (hy : (s.mt m.other).yields = false) :
    s.Released (s.takeOut m src kind) m ∧ (s.takeOut m src kind).md.mode = s.md.mode ∧ ((s.sup.get m).hot = false →
      (s.takeOut m src kind).md.nest.resets.head? =
        some { cause := kind, mast := m.code, bootCount := s.md.bootCount, rtc := s.md.nest.rtc }) := by
  obtain ⟨r, b, htan⟩ := outNoted_tan s m src
  have hkeep := outNoted_keeps s m src
  have hmd := Keeps_same hkeep .md rfl
  have hsup := Keeps_same hkeep .sup rfl
  have hmt := outNoted_mt s m m.other src
  rw [takeOut_of_stoker hl hv h]
  generalize s.outNoted m src = x at htan hmd hsup hmt
  have hrel := mastReset_released x m kind
  have hmode := mastReset_mode x m kind
  have hresets := resetMast_resets x m kind
  rw [hmd, hsup] at hresets
  generalize x.mastReset m kind = y at hrel hmode hresets
  have hlead : y.canLead m.other = true := by
    have hst : y.isCaptain m.other = true := by
      rw [State.isCaptain, State.tst, hrel.other, hmt]
      exact ho
    unfold State.canLead
    rw [hst, hrel.other, hmt, hy]
    rfl
  rw [settleLead_idle (.inr ⟨m.other, hlead⟩)]
  refine ⟨⟨hrel.out, hrel.other.trans hmt, ?_, ?_, ?_⟩, by rw [hmode, hmd], hresets⟩
  · rw [hrel.step, htan]
  · rw [hrel.cause, htan]
  · rw [hrel.stay, htan]

/-- Settles O45: by the role of the mast that reports. -/
theorem reefLevelsReact : Obligations.ReefLevelsReact := by
  unfold Obligations.ReefLevelsReact
  intro m src site step late s hv hl hp hk
  refine ⟨fun hc => ?_, fun hc => ?_⟩
  · obtain ⟨u, hexec, hkeep⟩ := faultReport_reacts (step := step) hv hp hk hc (Nat.le_refl 3) (datapathSource_of_reef3 hc)
    have hmd := Keeps_same hkeep .md rfl
    have htan := Keeps_same hkeep .tan rfl
    have hsup := Keeps_same hkeep .sup rfl
    have htst := tst_of_tan htan
    have hmt (k : Mast) : u.mt k = s.mt k := congrArg (fun x : Tandem => x.m.get k) htan
    have hul : u.md.mode ≠ .lockout := hmd ▸ hl
    have huv : u.md.mode ≠ .vault := hmd ▸ hv
    have hreact : u.react m src 3 = u.takeOut m src (if src = 0x82 then 7 else 6) := rfl
    rw [hreact] at hexec
    refine ⟨fun hst ho hy => ⟨_, hexec, ?_⟩, fun hst ht => ⟨_, hexec, ?_⟩, fun hst ht ho => ⟨_, hexec, ?_⟩⟩
    · have hou : u.isCaptain m.other = true := by rw [State.isCaptain, htst]; exact ho
      obtain ⟨hrel, hmode, hresets⟩ := takeOut_stoker_leaves (src := src) (kind := if src = 0x82 then 7 else 6) hul huv
        ((htst m).trans hst) hou (by rw [hmt]; exact hy)
      rw [hmd, hsup] at hresets
      refine ⟨hrel.out, ?_, by rw [hmode, hmd], hresets⟩
      rw [State.tst, hrel.other, hmt]
      exact of_decide_eq_true ho
    · rw [takeOut_of_captain hul huv ((htst m).trans hst) ((inTandem_of_tan htan).trans ht)]
      have hcap : (u.outNoted m src).tst m = .captain := (outNoted_tst u m m src).trans ((htst m).trans hst)
      generalize u.outNoted m src = x at hcap
      cases m with
      | a => exact ⟨hcap, rfl, rfl, rfl, rfl, rfl, rfl⟩
      | b => exact ⟨hcap, rfl, rfl, rfl, rfl, rfl, rfl⟩
    · have hou : u.isCaptain m.other = false := by rw [State.isCaptain, htst]; exact ho
      rw [takeOut_of_lone hul huv ((htst m).trans hst) ((inTandem_of_tan htan).trans ht) hou]
      have hmode : ((u.outNoted m src).yieldRole m false src).md.mode ≠ .lockout := by
        have h : (u.outNoted m src).md = u.md := Keeps_same (outNoted_keeps u m src) .md rfl
        intro hx
        exact hul ((congrArg ModeState.mode h).symm.trans hx)
      generalize (u.outNoted m src).yieldRole m false src = x at hmode
      have hlock := lockout_leaves (s := x.logOnly x.lead 0xA2 4 0) 0xA2 false (by rwa [logOnly_md])
      obtain ⟨r, hnest, hsource, -⟩ := hlock.record
      refine ⟨hlock.mode, ?_⟩
      unfold State.noCaptain
      rw [hnest]
      exact hsource
  · obtain ⟨u, hexec, hkeep⟩ := faultReport_reacts (step := step) hv hp hk hc (by decide) (.inl (datapathSource_of_reef4 hc))
    have hmd := Keeps_same hkeep .md rfl
    have hreact : u.react m src 4 = u.lockout (if src ≥ 0xF0 || src = 0xA3 then 0xFFFF else src) (decide (src ≥ 0xF0)) := rfl
    rw [hreact] at hexec
    have hul : u.md.mode ≠ .lockout := hmd ▸ hl
    have hlock := lockout_leaves (if src ≥ 0xF0 || src = 0xA3 then 0xFFFF else src) (decide (src ≥ 0xF0)) hul
    have hsafe := (lockout_atBarePoles (if src ≥ 0xF0 || src = 0xA3 then 0xFFFF else src) (decide (src ≥ 0xF0)) hul).2
    obtain ⟨r, hnest, hsource, hvalid, hmode⟩ := hlock.record
    refine ⟨_, hexec, hlock.mode, ?_, ?_, ?_, hlock.sched, hsafe⟩ <;> rw [hnest]
    · exact hvalid
    · exact hmode.trans (by rw [hmd])
    · refine hsource.trans ?_
      simp only [Bool.or_eq_true, decide_eq_true_eq]

end Sys2Proof.Machine

/-! # O42: the Stay link (R74, R84, R85, R409) -/
namespace Sys2Proof.Machine
open Host Sys2Proof

variable {s t u : State} {m k : Mast}

/-! ### The link falls (R74, R84) -/

theorem queueReport_reads (s : State) (m k : Mast) (r : QueuedReport) {j : Nat} (hj : j < 0x0100) :
    ((s.queueReport m r).ct k).read j = (s.ct k).read j := by
  unfold State.queueReport
  dsimp only
  split
  · exact ct_bump_ne _ _ _ _ (by omega)
  · rfl

theorem closeBurst_reads (s : State) (m k : Mast) (src : Nat) {j : Nat} (hj : j < 0x0100) :
    ((s.closeBurst m src).ct k).read j = (s.ct k).read j := by
  unfold State.closeBurst
  split
  · rfl
  · dsimp only
    split
    · rfl
    · exact queueReport_reads _ _ _ _ hj

/-- The counters of the sources are not those of the log writer (R505). -/
theorem collect_reads (s : State) (m k : Mast) (src site level : Nat) (i : ReportInfo) {j : Nat} (hj : j < 0x0100) :
    ((s.collect m src site level false i).ct k).read j = (s.ct k).read j := by
  unfold State.collect
  rw [if_neg Bool.false_ne_true]
  split
  · unfold State.coalesce
    dsimp only
    rw [ct_bump_ne _ _ _ _ (by omega), ct_setFl]
  · unfold State.openBurst
    dsimp only
    rw [queueReport_reads _ _ _ _ hj, ct_setFl, closeBurst_reads _ _ _ _ hj]

/-- The report of a lost Stay link counts under its source and changes no role (R484). -/
theorem report_stayLink (s : State) (m : Mast) : Keeps 1536 s (s.report m 0x47 0xD0000003) ∧
    ((s.report m 0x47 0xD0000003).ct m).read 0x47 = satAdd64 ((s.ct m).read 0x47) 1 := by
  have heq : s.report m 0x47 0xD0000003 = _ :=
    reportInfo_plain (s := s) (m := m) (src := 0x47) (site := 0xD0000003) (cls := 2) (i := .plain s.step) rfl rfl (by decide) rfl
  have hown : (if packageSource 0x47 then s.lead else m) = m := rfl
  rw [heq, hown]
  refine ⟨collect_startTest_keeps .., ?_⟩
  obtain ⟨-, -, htest⟩ := startTest_leaves ((s.bump m 0x47 1).collect m 0x47 0xD0000003 2 false (.plain s.step)) m m 0x47 0xD0000003
  rw [htest _ (by decide), collect_reads _ _ _ _ _ _ _ (by decide), ct_bump_same]

theorem abandonJoin_keeps_self (s : State) : Keeps 352 s s.abandonJoin := abandonJoin_keeps (keeps_refl 352 s) rfl

theorem answerAll_keeps_self (s : State) : Keeps 96 s s.answerAll := answerAll_keeps (keeps_refl 96 s) rfl

/-- What the loss of the link leaves of the package. -/
structure State.StayFallen (s t : State) (m : Mast) : Prop where
  down : t.tan.stay.up = false
  join : t.tan.join = none
  count : (t.ct m).read 0x47 = satAdd64 ((s.ct m).read 0x47) 1
  mode : t.md = s.md
  now : t.now = s.now
  alone : s.tan.join = none → t.tan = { s.tan with stay := { s.tan.stay with up := false } }

theorem stayFalls_leaves (s : State) (m : Mast) : s.StayFallen (s.stayFalls m) m := by
  unfold State.stayFalls
  generalize hx : ({ s with tan := { s.tan with stay := { s.tan.stay with up := false } } } : State) = x
  have hxtan : x.tan = { s.tan with stay := { s.tan.stay with up := false } } := by rw [← hx]
  have hxct : x.ct m = s.ct m := by rw [← hx]; rfl
  have hxmd : x.md = s.md := by rw [← hx]
  have hxnow : x.now = s.now := by rw [← hx]
  obtain ⟨hreport, hcount⟩ := report_stayLink x m
  generalize x.report m 0x47 0xD0000003 = y at hreport hcount
  have hlost := loseStay_keeps (keeps_refl 229376 y) rfl
  generalize y.loseStay = z at hlost
  have hgone := abandonJoin_keeps_self z
  have hztan : z.tan = { s.tan with stay := { s.tan.stay with up := false } } := by
    rw [Keeps_same hlost .tan rfl, Keeps_same hreport .tan rfl, hxtan]
  have htan : z.abandonJoin.tan.stay.up = false ∧ z.abandonJoin.tan.join = none ∧
      (s.tan.join = none → z.abandonJoin.tan = { s.tan with stay := { s.tan.stay with up := false } }) := by
    unfold State.abandonJoin
    cases hj : z.tan.join with
    | none =>
      rw [hztan] at hj
      dsimp only
      rw [hztan]
      exact ⟨rfl, hj, fun _ => rfl⟩
    | some j =>
      have hstay := (setTst_tst_stay z j.mast .out).2
      have hsome : s.tan.join = some j := by rw [hztan] at hj; exact hj
      refine ⟨?_, rfl, fun hn => ?_⟩
      · dsimp only
        rw [hstay, hztan]
      · rw [hn] at hsome
        cases hsome
  have hanswer := answerAll_keeps_self z.abandonJoin
  generalize z.abandonJoin = w at hgone htan hanswer
  obtain ⟨hdown, hjoin, halone⟩ := htan
  have hwtan : w.answerAll.tan = w.tan := answerAll_tan w
  refine ⟨by rw [hwtan]; exact hdown, by rw [hwtan]; exact hjoin, ?_, ?_, ?_, fun h => by rw [hwtan]; exact halone h⟩
  · rw [State.ct, Keeps_same hanswer .ctr rfl, Keeps_same hgone .ctr rfl, Keeps_same hlost .ctr rfl, ← hxct]
    exact hcount
  · rw [Keeps_same hanswer .md rfl, Keeps_same hgone .md rfl, Keeps_same hlost .md rfl, Keeps_same hreport .md rfl, hxmd]
  · rw [Keeps_same hanswer .now rfl, Keeps_same hgone .now rfl, Keeps_same hlost .now rfl, Keeps_same hreport .now rfl, hxnow]

/-! ### The Stoker claims the role (R84) -/

theorem lead_other_of_stoker (hk : s.tst k = .stoker) (hc : s.isCaptain k.other = true) : s.lead.other = k := by
  have hcap : s.tst k.other = .captain := of_decide_eq_true hc
  unfold State.lead State.captain
  cases k with
  | a => simp [show s.tst .a = .stoker from hk, show s.tst .b = .captain from hcap]
         rfl
  | b => simp [show s.tst .b = .stoker from hk, show s.tst .a = .captain from hcap]
         rfl

theorem claimRole_leaves (s : State) (k : Mast) : (s.claimRole k).tan.stay.claim = some k ∧ (s.claimRole k).tan.stay.claimAt = s.now ∧
    ((s.claimRole k).mt k).steer = true ∧ ((s.claimRole k).mt k).drive.single = true ∧ s.claimRole k = { s with tan := (s.claimRole k).tan } ∧
    (s.claimRole k).tan.stay.up = s.tan.stay.up ∧ (s.claimRole k).tan.join = s.tan.join := by
  cases k
  · exact ⟨rfl, rfl, rfl, rfl, rfl, rfl, rfl⟩
  · exact ⟨rfl, rfl, rfl, rfl, rfl, rfl, rfl⟩

/-- STAY_LINK_DOWN of a mast that has cause (R84). -/
theorem exec_stayLinkDown_bad (hbad : s.stayBad m = true) (hon : s.mastOn m = true) : exec (.stayLinkDown m) s = .next
    (let s1 := if s.tan.stay.up then s.stayFalls m else s
     if s1.tst s1.lead.other = .stoker && s1.tan.stay.claim.isNone && s1.md.mode != .lockout then s1.claimRole s1.lead.other else s1) := by
  change execStayLinkDown m s = _
  unfold execStayLinkDown
  rw [hbad, hon, if_neg (by decide)]

theorem claims (hk : s.tst k = .stoker) (hc : s.isCaptain k.other = true) (hn : s.tan.stay.claim = none) (hl : s.md.mode ≠ .lockout) :
    (if s.tst s.lead.other = .stoker && s.tan.stay.claim.isNone && s.md.mode != .lockout then s.claimRole s.lead.other else s) =
      s.claimRole k := by
  have hl' : (s.md.mode != .lockout) = true := by simpa using hl
  rw [lead_other_of_stoker hk hc, hk, hn, hl']
  rfl

/-! ### The arbitration (R84) -/

/-- The claim is settled, one way or the other. -/
def State.unclaimed (s : State) : State := { s with tan := { s.tan with stay := { s.tan.stay with claim := none } } }

theorem dualEnds_claim (s : State) : s.dualEnds.tan.stay.claim = s.tan.stay.claim := by
  obtain ⟨d, h⟩ := dualEnds_tan s
  rw [h]

theorem dualEnds_tst (s : State) (k : Mast) : s.dualEnds.tst k = s.tst k := by
  obtain ⟨d, h⟩ := dualEnds_tan s
  rw [State.tst, State.mt, h]
  rfl

/-- The claimant goes OUT (R84). -/
theorem healthy_leaves (s : State) (m : Mast) : (((s.unclaimed.setTst m .out).dualEnds)).tst m = .out ∧
    (((s.unclaimed.setTst m .out).dualEnds)).tst m.other = s.tst m.other ∧
    (((s.unclaimed.setTst m .out).dualEnds)).tan.stay.claim = none := by
  obtain ⟨hst, hstay⟩ := setTst_tst_stay s.unclaimed m .out
  have hother := congrArg MastTandem.st (setTst_mt_ne s.unclaimed .out (other_ne m))
  rw [dualEnds_tst, dualEnds_tst, dualEnds_claim, hstay]
  exact ⟨hst, hother, rfl⟩

/-- The claimant is CAPTAIN and the other mast OUT, before the reset of that mast (R84). -/
def State.arbitrated (s : State) (m : Mast) : State :=
  let fault := (s.tan.resetCause.get m.other).isSome
  let s2 := ((((s.unclaimed.setTst m .captain).setTst m.other .out).takeTiming m).dualEnds).switchedOver m (if fault then 0 else 1)
    s.tan.switchSource
  { s2 with tan := { s2.tan with switchSource := 0xFFFF } }

theorem arbitrated_leaves (s : State) (m : Mast) : ((s.arbitrated m).mt m).st = .captain ∧ (s.arbitrated m).tan.stay.claim = none ∧
    (s.arbitrated m).tan.lastSwitchStep = s.step := by
  have hst := congrArg MastTandem.st (setTst_mt s.unclaimed m .captain)
  have hkept := setTst_mt_ne (s.unclaimed.setTst m .captain) .out (k := m) (m := m.other) (Ne.symm (other_ne m))
  have hstay1 := (setTst_tst_stay s.unclaimed m .captain).2
  have hstay2 := (setTst_tst_stay (s.unclaimed.setTst m .captain) m.other .out).2
  have hstep : ((s.unclaimed.setTst m .captain).setTst m.other .out).step = s.step :=
    Keeps_same (setTst_keeps _ _ (setTst_keeps _ _ (keeps_refl 352 s.unclaimed) rfl) rfl) .step rfl
  rw [← hkept] at hst
  rw [hstay1] at hstay2
  unfold State.arbitrated
  generalize (s.unclaimed.setTst m .captain).setTst m.other .out = x at hst hstay2 hstep
  have htime := takeTiming_keeps_self x m
  generalize x.takeTiming m = y at htime
  have hytan := Keeps_same htime .tan rfl
  obtain ⟨d, hdual⟩ := dualEnds_tan y
  have hdstep : y.dualEnds.step = y.step := Keeps_same (dualEnds_keeps (keeps_refl 352 y) rfl) .step rfl
  dsimp only
  rw [State.mt, switchedOver_tan, hdual, hdstep, Keeps_same htime .step rfl, hstep]
  dsimp only
  refine ⟨?_, ?_, rfl⟩
  · rw [hytan]; exact hst
  · rw [hytan, hstay2]; rfl

/-- Where the Captain has held on, it keeps the role (R84). -/
theorem stayArbitration_held (hclaim : s.tan.stay.claim = some m) (hdue : s.tan.stay.claimAt + 256 * Config.xoCycle ≤ s.now)
    (hst : s.tst m = .stoker) (hcap : s.isCaptain m.other = true) (hstayed : s.tan.stay.holdStayed = true)
    (hh0 : (s.mt m.other).lines.hold0 = true) (hh1 : (s.mt m.other).lines.hold1 = true) (hsteer : (s.mt m.other).steer = true) :
    ∃ f, exec .stayArbitration s = .next (((s.unclaimed.setTst m .out).dualEnds).event m.other.code evStayDown f) := by
  have hgo : ¬ s.now < s.tan.stay.claimAt + 256 * Config.xoCycle := Nat.not_lt.mpr hdue
  change ∃ f, execStayArbitration s = _
  unfold execStayArbitration
  rw [hclaim]
  dsimp only
  rw [if_neg hgo, if_neg (by rw [hst]; decide), if_pos (by rw [hstayed, hcap, hh0, hh1, hsteer]; rfl)]
  exact ⟨_, rfl⟩

/-- Where it has not, the claimant leads and the other mast is reset (R84). -/
theorem stayArbitration_lost (hclaim : s.tan.stay.claim = some m) (hdue : s.tan.stay.claimAt + 256 * Config.xoCycle ≤ s.now)
    (hst : s.tst m = .stoker) (hstayed : s.tan.stay.holdStayed = false) : exec .stayArbitration s =
      .next ((s.arbitrated m).dropUncommitted.mastReset m.other ((s.tan.resetCause.get m.other).getD 6)) := by
  have hgo : ¬ s.now < s.tan.stay.claimAt + 256 * Config.xoCycle := Nat.not_lt.mpr hdue
  change execStayArbitration s = _
  unfold execStayArbitration
  rw [hclaim]
  dsimp only
  rw [if_neg hgo, if_neg (by rw [hst]; decide), if_neg (by rw [hstayed]; exact Bool.false_ne_true)]
  unfold State.arbitrated State.unclaimed
  dsimp only

/-! ### A mast that is OUT joins (R70, R85) -/

theorem mayJoin_of_canJoin (h : s.canJoin m = true) : s.mayJoin m = true ∧ s.rigFits m = true := by
  unfold State.canJoin at h
  exact Bool.and_eq_true _ _ ▸ h

theorem mayJoin_roles (h : s.mayJoin m = true) : s.tst m = .out ∧ s.tst m.other = .captain ∧ s.tan.join = none := by
  unfold State.mayJoin at h
  simp only [Bool.and_eq_true, beq_iff_eq, Option.isNone_iff_eq_none] at h
  obtain ⟨⟨⟨⟨⟨⟨⟨⟨hout, hcap⟩, -⟩, -⟩, -⟩, -⟩, -⟩, -⟩, hjoin⟩ := h
  exact ⟨hout, hcap, hjoin⟩

theorem mayJoin_false_of_tst (h : s.tst m ≠ .out) : s.mayJoin m = false := by
  unfold State.mayJoin
  have hne : (s.tst m == TandemSt.out) = false := by simpa using h
  rw [hne]
  rfl

theorem joinIfAble_stays (p : Bool) (h : s.tst m ≠ .out) : s.joinIfAble m p = s := by
  unfold State.joinIfAble
  extract_lets held
  rw [mayJoin_false_of_tst h]
  rfl

/-- A copy that begins at a step, with no preload (R72). -/
def Join.fresh (m : Mast) (n attempts : Nat) : Join :=
  { mast := m, preload := false, decision := n, slowAt := none, pass := 0, attempts := attempts, joinStep := none, joined := false }

/-- What an attempt to join leaves. -/
structure State.BeganJoin (s t : State) (m : Mast) (attempts : Nat) : Prop where
  joining : t.tst m = .joining
  other : t.tst m.other = s.tst m.other
  join : t.tan.join = some (Join.fresh m s.step attempts)
  held : t.tan.heldUntil = s.tan.heldUntil

theorem beginJoin_began (s : State) (m : Mast) (n : Nat) : s.BeganJoin (s.beginJoin m false n) m n := by
  have hst := congrArg MastTandem.st (setTst_mt s m .joining)
  have hother := congrArg MastTandem.st (setTst_mt_ne s .joining (other_ne m))
  obtain ⟨d, htan⟩ := setTst_tan s m .joining
  have hheld := congrArg Tandem.heldUntil htan
  unfold State.beginJoin
  generalize s.setTst m .joining = u at hst hother hheld
  dsimp only
  have hkeep (x : State) : (x.settle).tan = x.tan := Keeps_same (settle_keeps (keeps_refl 656384 x) rfl) .tan rfl
  constructor
  · rw [State.tst, State.mt, hkeep]; exact hst
  · rw [State.tst, State.mt, hkeep]; exact hother
  · rw [hkeep]; rfl
  · rw [hkeep]; exact hheld

/-- Fewer than four attempts in a minute: the mast joins (R70, R75). -/
theorem enterJoining_began (h : ((s.tan.joinTimes.get m).filter (fun t => decide (s.now < t + 60 * Config.second))).length < 4) :
    (s.enterJoining m false).tst m = .joining ∧ (s.enterJoining m false).tst m.other = s.tst m.other ∧
      (s.enterJoining m false).tan.join = some (Join.fresh m s.step 0) ∧ (s.enterJoining m false).tan.heldUntil = s.tan.heldUntil.set m none := by
  unfold State.enterJoining
  dsimp only
  rw [decide_eq_false (by simp; omega), Bool.false_and, if_neg Bool.false_ne_true]
  obtain ⟨hjoining, hother, hjoin, hheld⟩ := beginJoin_began _ m 0
  exact ⟨hjoining, hother, hjoin, hheld⟩

/-- Settles O42: by what the link and the claim of each mast say. -/
theorem stayLinkMoves : Obligations.StayLinkMoves := by
  unfold Obligations.StayLinkMoves
  intro m s x
  refine ⟨fun hup ha hb => ?_, fun hbad hon => ⟨fun hup => ?_, fun k hup hk hc hn hl => ?_⟩, fun hclaim hdue hst hcap => ⟨?_, ?_⟩,
    fun hup hdue hcan hheld htimes => ?_⟩
  · change execStayLinkUp s = _
    unfold execStayLinkUp
    rw [if_neg (by simp [show s.tan.stay.up = false from hup, ha, hb])]
  · have hfall := stayFalls_leaves s m
    rw [exec_stayLinkDown_bad hbad hon, show s.tan.stay.up = true from hup]
    dsimp only
    rw [if_pos rfl]
    refine ⟨_, rfl, ?_⟩
    have hclaims (k : Mast) := claims (s := s.stayFalls m) (k := k)
    generalize s.stayFalls m = y at hfall hclaims
    obtain ⟨hdown, hjoin, hcount, hmd, hnow, halone⟩ := hfall
    have hall : ∀ z, (z = y ∨ ∃ k, z = y.claimRole k) → z.tan.stay.up = false ∧ z.tan.join = none ∧
        (z.ct m).read 0x47 = satAdd64 ((s.ct m).read 0x47) 1 := by
      rintro z (rfl | ⟨k, rfl⟩)
      · exact ⟨hdown, hjoin, hcount⟩
      · obtain ⟨-, -, -, -, heq, hup', hjoin'⟩ := claimRole_leaves y k
        refine ⟨hup'.trans hdown, hjoin'.trans hjoin, ?_⟩
        rw [heq]
        exact hcount
    obtain ⟨h1, h2, h3⟩ := hall (if y.tst y.lead.other = .stoker && y.tan.stay.claim.isNone && y.md.mode != .lockout
      then y.claimRole y.lead.other else y) (by split; exact .inr ⟨_, rfl⟩; exact .inl rfl)
    refine ⟨h1, h2, h3, fun k hnone hk hc hn hl => ?_⟩
    have htan := halone hnone
    have htst (j : Mast) : y.tst j = s.tst j := by rw [State.tst, State.mt, htan]; rfl
    rw [hclaims k ((htst k).trans hk) (by rw [State.isCaptain, htst]; exact hc) (by rw [htan]; exact hn) (by rw [hmd]; exact hl)]
    obtain ⟨hclaim, hat, hsteer, hsingle, -⟩ := claimRole_leaves y k
    exact ⟨hclaim, hat.trans hnow, hsteer, hsingle⟩
  · rw [exec_stayLinkDown_bad hbad hon, show s.tan.stay.up = false from hup]
    dsimp only
    rw [if_neg Bool.false_ne_true, claims hk hc hn hl]
    obtain ⟨hclaim, hat, hsteer, hsingle, heq, -⟩ := claimRole_leaves s k
    exact ⟨_, rfl, heq, hclaim, hsteer, hsingle⟩
  · intro hstayed hh0 hh1 hsteer
    obtain ⟨hout, hother, hnone⟩ := healthy_leaves s m
    obtain ⟨f, hexec⟩ := stayArbitration_held hclaim hdue hst hcap hstayed hh0 hh1 hsteer
    rw [hexec]
    generalize (s.unclaimed.setTst m .out).dualEnds = y at hout hother hnone
    refine ⟨_, rfl, ?_, ?_, ?_⟩
    · rw [tst_of_tan (event_tan ..)]; exact hout
    · rw [tst_of_tan (event_tan ..), hother]; exact of_decide_eq_true hcap
    · rw [event_tan]; exact hnone
  · intro hstayed
    obtain ⟨hcaptain, hnone, hstep⟩ := arbitrated_leaves s m
    rw [stayArbitration_lost hclaim hdue hst hstayed]
    generalize s.arbitrated m = y at hcaptain hnone hstep
    have htan := dropUncommitted_tan y
    have hrel := mastReset_released y.dropUncommitted m.other ((s.tan.resetCause.get m.other).getD 6)
    generalize y.dropUncommitted = z at htan hrel
    have hback := hrel.other
    rw [other_other] at hback
    refine ⟨_, rfl, ?_, hrel.out, ?_, ?_⟩
    · rw [State.tst, hback, State.mt, htan]; exact hcaptain
    · rw [hrel.stay, htan]; exact hnone
    · rw [hrel.step, htan]; exact hstep
  · obtain ⟨hmay, hfits⟩ := mayJoin_of_canJoin hcan
    obtain ⟨hout, hcaptain, -⟩ := mayJoin_roles hmay
    have henter := enterJoining_began (s := s.setWaits m false) (m := m) htimes
    have hjoins : s.joinIfAble m false = (s.setWaits m false).enterJoining m false := by
      unfold State.joinIfAble
      dsimp only
      rw [hmay, hheld, hfits]
      rfl
    rw [← hjoins] at henter
    obtain ⟨hjoining, hother, hjoin, -⟩ := henter
    have hother' : (s.joinIfAble m false).tst m.other = .captain := hother.trans hcaptain
    have hexec : exec .stayRejoinTimer s = .next (s.joinIfAble m false) := by
      change execStayRejoinTimer s = _
      unfold execStayRejoinTimer
      rw [if_neg (by simpa [show s.tan.stay.up = true from hup] using hdue)]
      cases m with
      | a => rw [joinIfAble_stays (m := .b) false (by rw [show (s.joinIfAble .a false).tst .b = .captain from hother']; decide)]
      | b => rw [joinIfAble_stays (m := .a) false (by rw [show s.tst .a = .captain from hcaptain]; decide)]
    exact ⟨_, hexec, hjoining, hother', hjoin⟩

end Sys2Proof.Machine

/-! # O43: a join goes on (R70 to R75) -/
namespace Sys2Proof.Machine
open Host Sys2Proof

variable {s t u : State} {m : Mast}

/-! ### The copy (R70 to R72) -/

theorem copyTo_dp (s : State) (m : Mast) : (s.copyTo m).dp.get m = s.dp.get m.other ∧ (s.copyTo m).dp.get m.other = s.dp.get m.other :=
  ⟨Both_get_set .., Both_get_set_ne _ _ (other_ne m)⟩

theorem copyTo_outputs (s : State) (m : Mast) : ((s.copyTo m).vid.get m).outputs = (s.vid.get m.other).outputs := by
  unfold State.copyTo
  dsimp only
  rw [Both_get_set]

theorem copyTo_tan (s : State) (m : Mast) : (s.copyTo m).tan = s.tan ∧ (s.copyTo m).step = s.step ∧ (s.copyTo m).hal = s.hal := ⟨rfl, rfl, rfl⟩

theorem flag_flags_mem {k : FlagKind} {n w : Nat} (j : Mast) {f : Flag} (h : f ∈ ((s.flag m k n w).mt j).flags) :
    f ∈ (s.mt j).flags ∨ f = { kind := k, step := n } := by
  unfold State.flag at h
  dsimp only at h
  by_cases hj : j = m
  · subst hj
    split at h
    · rw [setMt_mt] at h
      exact .inl h
    · rw [setMt_mt] at h
      simpa using h
  · split at h
    · rw [setMt_mt_ne _ hj] at h
      exact .inl h
    · rw [setMt_mt_ne _ hj] at h
      exact .inl h

theorem flagLate_eq (s : State) (m : Mast) (k : Nat) : s.flagLate m k = { s with tan := (s.flagLate m k).tan } := by
  unfold State.flagLate State.flag
  split
  · dsimp only
    split <;> rfl
  · rfl

theorem flagLate_leaves (s : State) (m j : Mast) (k : Nat) : (s.flagLate m k).tst j = s.tst j ∧
    (s.flagLate m k).tan.join = s.tan.join ∧ ∀ f ∈ ((s.flagLate m k).mt j).flags, f ∈ (s.mt j).flags ∨ f.step = k := by
  unfold State.flagLate
  split
  · refine ⟨flag_tst .., ?_, fun f hf => (flag_flags_mem j hf).imp_right fun h => by rw [h]⟩
    unfold State.flag
    dsimp only
    split <;> rfl
  · exact ⟨rfl, rfl, fun f hf => .inl hf⟩

/-- Step J as it is reached (R67, R71). -/
def State.joinedAt (s : State) (j : Join) (k : Nat) : State :=
  let s1 := s.copyTo j.mast
  { s1 with tan := { s1.tan with join := some { j with joined := true }, m := s1.tan.m.map (fun t => t.dropFlags k) } }

theorem joinedAt_leaves (s : State) (j : Join) (k : Nat) (m : Mast) : (s.joinedAt j k).tst m = s.tst m ∧
    ∀ f ∈ ((s.joinedAt j k).mt m).flags, k ≤ f.step := by
  have hmt : (s.joinedAt j k).mt m = (s.mt m).dropFlags k := Both_get_map ..
  refine ⟨by rw [State.tst, hmt]; rfl, fun f hf => ?_⟩
  rw [hmt] at hf
  simpa using (List.mem_filter.mp hf).2

theorem exec_joinStep {j : Join} {k : Nat} (hj : s.tan.join = some j) (hk : j.joinStep = some k) (hn : j.joined = false)
    (hdue : k ≤ s.step + 1) :
    exec .joinStep s = .next (if k < s.step + 1 then (s.joinedAt j k).flagLate j.mast k else s.joinedAt j k) := by
  change Outcome.next (s.joinNow (s.step + 1)) = _
  unfold State.joinNow
  rw [hj]
  dsimp only
  rw [hk]
  dsimp only
  rw [hn, if_neg (by simpa using hdue)]
  unfold State.joinedAt
  dsimp only
  rw [hk]

theorem resetMast_join (s : State) (m : Mast) (cause : Nat) (h : s.tan.join = none) : (s.mastReset m cause).tan.join = none := by
  unfold State.mastReset
  split
  · obtain ⟨n, htan⟩ := setTst_tan s m .out
    have hj : (s.setTst m .out).tan.join = none := (congrArg Tandem.join htan).trans h
    unfold State.awaitCool
    generalize s.setTst m .out = u at hj
    dsimp only
    rw [hj]
    rfl
  · have hflush := Keeps_same (flushLog_wipeRows_keeps s m (fun _ => true)) .tan rfl
    obtain ⟨n, htan⟩ := setTst_tan ((s.flushLog m).wipeRows m (fun _ => true)) m .out
    rw [hflush] at htan
    have hj : (((s.flushLog m).wipeRows m (fun _ => true)).setTst m .out).tan.join = none := (congrArg Tandem.join htan).trans h
    unfold State.resetMast
    generalize ((s.flushLog m).wipeRows m (fun _ => true)).setTst m .out = u at hj
    have hw : (u.wipeMast m).tan.join = none := hj
    dsimp only [State.recordReset]
    rw [hw]

/-- At J + 3, where the digests of J agree, and where they do not (R73). -/
theorem exec_stokerRejoin {j : Join} {k : Nat} (hj : s.tan.join = some j) (hk : j.joinStep = some k) (hjoined : j.joined = true)
    (hdue : k + 3 ≤ s.step + 1) : exec .stokerRejoin s = .next
      (let s1 : State := { s with tan := { s.tan with join := none } }
       if s.digestsAgree k then (s1.setTst j.mast .stoker).event 2 evTandemRejoin (be 1 j.mast.code ++ zeros 3 ++ be 8 k)
       else if j.attempts = 0 then s1.beginJoin j.mast false 1
       else s1.mastReset j.mast 6) := by
  change execStokerRejoin s = _
  unfold execStokerRejoin
  rw [hj]
  dsimp only
  rw [hk]
  dsimp only
  rw [hjoined, if_neg (by simp; omega)]

/-- A mast that was held makes one attempt (R75). -/
theorem enterJoining_held {x : Nat} (h : s.tan.heldUntil.get m = some x) :
    (s.enterJoining m false).tst m = .joining ∧ (s.enterJoining m false).tan.heldUntil.get m = none := by
  unfold State.enterJoining
  dsimp only
  rw [h, Option.isNone_some, Bool.and_false, if_neg Bool.false_ne_true]
  obtain ⟨hjoining, -, -, hheld⟩ := beginJoin_began _ m 0
  exact ⟨hjoining, by rw [hheld]; exact Both_get_set ..⟩

/-- Settles O43: the pass that ends decides between another pass and step J. -/
theorem joinsProceed : Obligations.JoinsProceed := by
  unfold Obligations.JoinsProceed
  intro s m
  refine ⟨fun j hj => ⟨fun hpre => ?_, fun hpre hstep fits => ?_, fun k hk => ⟨fun hn hdue => ?_, fun hjoined hdue => ?_⟩⟩,
    fun x hheld hdue => ⟨fun hcan => ?_, fun hcan => ?_⟩⟩
  · change execSlotPreloadEnd s = _
    unfold execSlotPreloadEnd
    rw [hj]
    dsimp only
    rw [hpre, if_pos rfl]
  · intro last
    change ∃ t, execCopyPassEnd fits s = .next t ∧ _
    unfold execCopyPassEnd
    rw [hj]
    dsimp only
    rw [hpre, hstep, if_neg (by decide)]
    obtain ⟨hdp, hother⟩ := copyTo_dp s j.mast
    refine ⟨_, rfl, rfl, hdp, hother, rfl, fun hlast c hc heff => ?_⟩
    have hlast : (fits || decide (j.limit ≤ s.step + 4)) = true := hlast
    rw [hlast] at hc
    dsimp only at hc
    rw [if_pos rfl] at hc
    obtain ⟨d, -, rfl⟩ := List.mem_map.mp hc
    by_cases hle : s.step + 4 ≤ d.effStep
    · rw [if_pos hle]
    · rw [if_neg hle] at heff
      exact absurd heff hle
  · obtain ⟨htst, hflags⟩ := joinedAt_leaves s j k m
    obtain ⟨hdp, hother⟩ := copyTo_dp s j.mast
    have houts := copyTo_outputs s j.mast
    rw [exec_joinStep hj hk hn hdue]
    refine ⟨_, rfl, ?_⟩
    split
    · obtain ⟨hlst, hljoin, hlflags⟩ := flagLate_leaves (s.joinedAt j k) j.mast m k
      rw [flagLate_eq] at hlst hljoin hlflags ⊢
      refine ⟨hljoin, hdp, hother, houts, hlst.trans htst, fun f hf => ?_⟩
      rcases hlflags f hf with h | h
      · exact hflags f h
      · exact Nat.le_of_eq h.symm
    · exact ⟨rfl, hdp, hother, houts, htst, hflags⟩
  · rw [exec_stokerRejoin hj hk hjoined hdue]
    dsimp only
    generalize hx : ({ s with tan := { s.tan with join := none } } : State) = x
    have hnone : x.tan.join = none := by rw [← hx]
    have hxstep : x.step = s.step := by rw [← hx]
    refine ⟨fun hagree => ?_, fun hagree hfirst => ?_, fun hagree hlater => ?_⟩
    · rw [hagree, if_pos rfl]
      obtain ⟨n, htan⟩ := setTst_tan x j.mast .stoker
      refine ⟨_, rfl, ?_, ?_⟩
      · rw [tst_of_tan (event_tan ..)]
        exact (setTst_tst_stay x j.mast .stoker).1
      · rw [event_tan, htan]
        exact hnone
    · rw [hagree, if_neg Bool.false_ne_true, if_pos hfirst]
      have hbegan := beginJoin_began x j.mast 1
      refine ⟨_, rfl, hbegan.joining, ?_⟩
      rw [hbegan.join, hxstep]
      rfl
    · rw [hagree, if_neg Bool.false_ne_true, if_neg hlater]
      exact ⟨_, rfl, (mastReset_released x j.mast 6).out, resetMast_join x j.mast 6 hnone⟩
  · change ∃ t, execJoinHoldExpiry m s = .next t ∧ _
    unfold execJoinHoldExpiry
    rw [hheld]
    dsimp only
    rw [if_neg (Nat.not_lt.mpr hdue), if_pos hcan]
    exact ⟨_, rfl, enterJoining_held hheld⟩
  · change execJoinHoldExpiry m s = _
    unfold execJoinHoldExpiry
    rw [hheld]
    dsimp only
    rw [if_neg (Nat.not_lt.mpr hdue), hcan, if_neg Bool.false_ne_true]

end Sys2Proof.Machine

/-! # O35: the alarm inputs (R59, R629, R630) -/
namespace Sys2Proof.Machine
open Host Sys2Proof

variable {s t u v : State} {m k : Mast} {i j : Nat}

/-! ### What an operation that reads no table of Halyard's does to a state that differs in them only -/

/-- An operation that neither reads nor writes Halyard's tables, the host ports and the counters. -/
def BesideHalyard (f : State → State) : Prop := ∀ (x : State) (h : Halyard) (p : Both HostPort) (c : Both Counters),
  f { x with hal := h, port := p, ctr := c } = { f x with hal := h, port := p, ctr := c }

theorem OnlyHalyard_map {f : State → State} (hf : BesideHalyard f) (h : u.OnlyHalyard v) : (f u).OnlyHalyard (f v) := by
  have hu : f u = { f u with hal := u.hal, port := u.port, ctr := u.ctr } := hf u u.hal u.port u.ctr
  have hv : f v = { f u with hal := v.hal, port := v.port, ctr := v.ctr } := by
    have hx : v = { u with hal := v.hal, port := v.port, ctr := v.ctr } := by rw [h.rest]
    exact (congrArg f hx).trans (hf u v.hal v.port v.ctr)
  have hhal : v.hal = { u.hal with seats := v.hal.seats, sessions := v.hal.sessions } := by rw [h.rest]
  rw [hu, hv]
  refine ⟨?_, h.seats, h.each⟩
  dsimp only
  rw [← hhal]

theorem setAlarmIn_beside (m : Mast) (i : Nat) (f : AlarmInput → AlarmInput) :
    BesideHalyard (fun s => s.setAlarmIn m i (f (s.alarmIn m i))) := fun _ _ _ _ => rfl

theorem beside_id : BesideHalyard (fun s => s) := fun _ _ _ _ => rfl

theorem BesideHalyard.comp {f g : State → State} (hf : BesideHalyard f) (hg : BesideHalyard g) : BesideHalyard (fun s => g (f s)) :=
  fun x h p c => by
    dsimp only
    rw [hf x h p c, hg]

theorem BesideHalyard.ite {b : State → Bool} {f g : State → State}
    (hb : ∀ (x : State) (h : Halyard) (p : Both HostPort) (c : Both Counters), b { x with hal := h, port := p, ctr := c } = b x)
    (hf : BesideHalyard f) (hg : BesideHalyard g) : BesideHalyard (fun s => if b s = true then f s else g s) := fun x h p c => by
  dsimp only
  rw [hb x h p c]
  by_cases hx : b x = true
  · rw [if_pos hx, if_pos hx]
    exact hf x h p c
  · rw [if_neg hx, if_neg hx]
    exact hg x h p c

theorem BesideHalyard.foldl {α : Type} {f : State → α → State} (hf : ∀ a, BesideHalyard (fun s => f s a)) (l : List α) :
    BesideHalyard (fun s => l.foldl f s) := fun x h p c => by
  induction l generalizing x with
  | nil => rfl
  | cons a l ih =>
    have ha : f { x with hal := h, port := p, ctr := c } a = { f x a with hal := h, port := p, ctr := c } := hf a x h p c
    dsimp only [List.foldl_cons]
    rw [ha]
    exact ih (f x a)

theorem followFallback_beside (m : Mast) : BesideHalyard (fun s => s.followFallback m) :=
  .ite (b := fun s => (List.range 8).any (fun i => s.inputActive m i && s.fallbackOf i != 0) && (s.alm.get m).playFrom.isNone)
    (fun _ _ _ _ => rfl) (fun _ _ _ _ => rfl)
    (.ite (b := fun s => !(List.range 8).any (fun i => s.inputActive m i && s.fallbackOf i != 0))
      (fun _ _ _ _ => rfl) (fun _ _ _ _ => rfl) beside_id)

theorem assignAlarm_beside (ms : List Mast) (c : Assigned) : BesideHalyard (fun s => s.assignAlarm ms c) := by
  refine .foldl (fun n x h p d => ?_) ms
  dsimp only
  split <;> rfl

/-! ### An input of a mast -/

theorem alarmIn_setAlarmIn (x : AlarmInput) (hi : i < (s.alm.get m).inputs.length) : (s.setAlarmIn m i x).alarmIn m i = x := by
  unfold State.alarmIn State.setAlarmIn State.setAlm
  dsimp only
  rw [Both_get_set]
  exact atD_setAt x .reset hi

theorem alarmIn_of_alm (h : t.alm.get m = s.alm.get m) : t.alarmIn m i = s.alarmIn m i := by
  unfold State.alarmIn
  rw [h]

theorem alarmClass_of {n last c : Nat} (h : (n < 1200 ∧ c = 3) ∨ (1700 ≤ n ∧ n ≤ 3900 ∧ c = 0) ∨ (4700 ≤ n ∧ n ≤ 7000 ∧ c = 1) ∨
    (7900 < n ∧ c = 2) ∨ (((1200 ≤ n ∧ n < 1700) ∨ (3900 < n ∧ n < 4700) ∨ (7000 < n ∧ n ≤ 7900)) ∧ c = last)) :
    alarmClass n last = c := by
  unfold alarmClass
  repeat' split
  all_goals omega

/-! ### A change that has been debounced -/

/-- The state once an input's new class stands. -/
def State.debounced (s : State) (m : Mast) (i : Nat) : State :=
  s.setAlarmIn m i { s.alarmIn m i with deb := (s.alarmIn m i).last, changes := (s.alarmIn m i).changes + 1 }

/-- What follows a class that is no line fault, and not what the input is to have. -/
def State.actsOrWaits (s : State) (m : Mast) (i st since : Nat) : State :=
  if s.waitsAlarm m then s.setAlarmIn m i { s.alarmIn m i with solo := some (s.step + s.fence + 4, st) }
  else (s.assignAlarm (s.alarmMasts m) { input := i, state := st, step := s.step + s.fence + 2, since := since }).followFallback m

theorem actsOrWaits_beside (m : Mast) (i st since : Nat) : BesideHalyard (fun s => s.actsOrWaits m i st since) := by
  refine .ite (b := fun s => s.waitsAlarm m) (fun _ _ _ _ => rfl) (fun _ _ _ _ => rfl) (fun x h p c => ?_)
  have ha := assignAlarm_beside (x.alarmMasts m) { input := i, state := st, step := x.step + x.fence + 2, since := since }
  exact ha.comp (followFallback_beside m) x h p c

theorem debounced_target (hi : i < (s.alm.get m).inputs.length) : (s.debounced m i).alarmTarget m i = s.alarmTarget m i := by
  unfold State.alarmTarget State.debounced
  rw [alarmIn_setAlarmIn _ hi]
  unfold State.setAlarmIn State.setAlm
  dsimp only
  rw [Both_get_set]

theorem OnlyHalyard_target (h : u.OnlyHalyard v) : v.alarmTarget m i = u.alarmTarget m i := by
  rw [h.rest]
  rfl

/-- 80 samples agree on another class (R629). -/
theorem exec_debounced (hi : i < 8) (hl : i < (s.alm.get m).inputs.length) (hr : s.alarmRuns m = true) (hc : 80 ≤ (s.alarmIn m i).count)
    (hne : (s.alarmIn m i).last ≠ (s.alarmIn m i).deb) : ∃ w : State, (s.debounced m i).OnlyHalyard w ∧
      ((s.alarmIn m i).last = 2 → exec (.alarmInputDebounced m i) s = .next (w.report m 0xB0 (inputSite 2 i))) ∧
      ((s.alarmIn m i).last = 3 → exec (.alarmInputDebounced m i) s = .next (w.report m 0xB1 (inputSite 2 i))) ∧
      ((s.alarmIn m i).last ≤ 1 → s.alarmTarget m i ≠ (s.alarmIn m i).last → exec (.alarmInputDebounced m i) s =
        .next (w.actsOrWaits m i (s.alarmIn m i).last (s.alarmIn m i).since)) := by
  have honly : (s.debounced m i).OnlyHalyard ((s.debounced m i).event m.code evAlarmInput
    (be 1 i ++ be 1 (s.alarmIn m i).last ++ zeros 2)) := event_only ..
  refine ⟨_, honly, fun hlast => ?_, fun hlast => ?_, fun hlast htgt => ?_⟩
  all_goals
    change execAlarmInputDebounced m i s = _
    unfold execAlarmInputDebounced
    dsimp only
    rw [if_neg (by simp [hr, hne, hc, hi])]
  · rw [if_pos (by simp [hlast]), if_neg (by simp [hlast]), if_pos hlast]
    rfl
  · rw [if_pos (by simp [hlast]), if_pos hlast]
    rfl
  · rw [← debounced_target hl, ← OnlyHalyard_target honly] at htgt
    rw [if_neg (show ¬ (s.alarmIn m i).last = 3 by omega), if_neg (show ¬ (s.alarmIn m i).last = 2 by omega)]
    have hgo : ¬ (decide ((s.alarmIn m i).last ≥ 2) || decide (((s.debounced m i).event m.code evAlarmInput
        (be 1 i ++ be 1 (s.alarmIn m i).last ++ zeros 2)).alarmTarget m i = (s.alarmIn m i).last)) = true := by
      rw [Bool.or_eq_true, decide_eq_true_eq, decide_eq_true_eq]
      exact fun hor => hor.elim (fun hge => absurd hge (by omega)) htgt
    exact congrArg Outcome.next (if_neg hgo)

/-! ### Assignments to a mast (R59) -/

/-- The alarm logic of a mast with a change assigned. -/
def AlarmMast.assign (a : AlarmMast) (c : Assigned) : AlarmMast :=
  if c.input < 8 then { a with assigned := a.assigned ++ [c], inputs := setAt a.inputs c.input { atD a.inputs c.input .reset with solo := none } }
  else { a with assigned := a.assigned ++ [c] }

theorem assignAlarm_one (c : Assigned) : s.assignAlarm [m] c = s.setAlm m ((s.alm.get m).assign c) := by
  unfold State.assignAlarm AlarmMast.assign
  dsimp only [List.foldl_cons, List.foldl_nil]
  split
  · unfold State.setAlarmIn State.setAlm State.alarmIn
    dsimp only
    rw [Both_get_set]
    cases m <;> rfl
  · rfl

theorem assignAlarm_cons (c : Assigned) (ms : List Mast) :
    s.assignAlarm (m :: ms) c = (s.setAlm m ((s.alm.get m).assign c)).assignAlarm ms c := by
  rw [← assignAlarm_one]
  rfl

theorem setAlm_alm (x : AlarmMast) : (s.setAlm m x).alm.get m = x := Both_get_set ..

theorem setAlm_alm_ne (x : AlarmMast) (h : k ≠ m) : (s.setAlm m x).alm.get k = s.alm.get k := Both_get_set_ne _ _ h

/-- A mast that decides a change is itself among those that act on it. -/
theorem assignAlarm_own (u : State) (c : Assigned) : (s.assignAlarm (u.alarmMasts m) c).alm.get m = (s.alm.get m).assign c := by
  unfold State.alarmMasts bothMasts
  split
  · rw [assignAlarm_cons, assignAlarm_one]
    cases m
    · rw [setAlm_alm_ne _ (by decide), setAlm_alm]
    · rw [setAlm_alm, setAlm_alm_ne _ (by decide)]
  · rw [assignAlarm_one, setAlm_alm]

/-- A fold whose every step leaves the start as it is ends there. -/
theorem foldl_at_rest {α β : Type} {f : β → α → β} {x : β} (h : ∀ a, f x a = x) (l : List α) : l.foldl f x = x := by
  induction l with
  | nil => rfl
  | cons a l ih => rw [List.foldl_cons, h a, ih]

theorem ownAlarms_waits {n : Nat} (h : s.waitsAlarm m = true) : s.ownAlarms m n = s := if_pos h

theorem ownAlarms_idle {n : Nat} (h : ∀ j, (s.alarmIn m j).solo = none) : s.ownAlarms m n = s := by
  unfold State.ownAlarms
  split
  · rfl
  · exact foldl_at_rest (fun j => by rw [h j]) _

/-- An input whose own change still waits, with nothing due that is assigned to it. -/
structure AlarmMast.Waits (a : AlarmMast) (i due st n : Nat) : Prop where
  solo : (atD a.inputs i .reset).solo = some (due, st)
  clear : ∀ c ∈ a.assigned, c.input ≠ i ∨ n < c.step

/-- An input to whose own state a change is assigned, and what is due to it by a step is that state. -/
structure AlarmMast.Turns (a : AlarmMast) (i st n : Nat) : Prop where
  solo : (atD a.inputs i .reset).solo = none
  due : ∃ c ∈ a.assigned, c.input = i ∧ c.step ≤ n
  only : ∀ c ∈ a.assigned, c.input = i → c.step ≤ n → c.state = st

theorem assign_waits {a : AlarmMast} {c : Assigned} {due st n : Nat} (h : a.Waits i due st n) (hc : c.input ≠ i) :
    (a.assign c).Waits i due st n := by
  unfold AlarmMast.assign
  have hclear : ∀ d ∈ a.assigned ++ [c], d.input ≠ i ∨ n < d.step := fun d hd => by
    rcases List.mem_append.mp hd with hd | hd
    · exact h.clear d hd
    · rw [List.mem_singleton.mp hd]
      exact .inl hc
  split
  · exact ⟨by rw [← h.solo]; exact congrArg AlarmInput.solo (atD_setAt_ne _ _ hc.symm), hclear⟩
  · exact ⟨h.solo, hclear⟩

theorem assign_turns_ne {a : AlarmMast} {c : Assigned} {st n : Nat} (h : a.Turns i st n) (hc : c.input ≠ i) :
    (a.assign c).Turns i st n := by
  unfold AlarmMast.assign
  obtain ⟨d, hd, hdue⟩ := h.due
  have honly : ∀ d ∈ a.assigned ++ [c], d.input = i → d.step ≤ n → d.state = st := fun d hd hdi => by
    rcases List.mem_append.mp hd with hd | hd
    · exact h.only d hd hdi
    · rw [List.mem_singleton.mp hd] at hdi
      exact absurd hdi hc
  split
  · exact ⟨by rw [← h.solo]; exact congrArg AlarmInput.solo (atD_setAt_ne _ _ hc.symm), ⟨d, List.mem_append_left _ hd, hdue⟩, honly⟩
  · exact ⟨h.solo, ⟨d, List.mem_append_left _ hd, hdue⟩, honly⟩

theorem assign_turns {a : AlarmMast} {c : Assigned} {due n : Nat} (h : a.Waits i due c.state n) (hi : i < 8) (hl : i < a.inputs.length)
    (hc : c.input = i) (hn : c.step ≤ n) : (a.assign c).Turns i c.state n := by
  unfold AlarmMast.assign
  rw [if_pos (by omega), hc]
  refine ⟨by rw [atD_setAt _ _ hl], ⟨c, by simp, hc, hn⟩, fun d hd hdi hdn => ?_⟩
  rcases List.mem_append.mp hd with hd | hd
  · rcases h.clear d hd with hne | hlt
    · exact absurd hdi hne
    · omega
  · rw [List.mem_singleton.mp hd]

theorem assign_length {a : AlarmMast} {c : Assigned} : (a.assign c).inputs.length = a.inputs.length := by
  unfold AlarmMast.assign
  split
  · simp [setAt]
  · rfl

/-- A mast that no longer waits assigns its own change of one input. -/
def State.ownAlarm (s : State) (m : Mast) (n j : Nat) : State :=
  match (s.alarmIn m j).solo with
  | some (due, st) => s.assignAlarm (s.alarmMasts m) { input := j, state := st, step := Nat.max (due - 2) n, since := (s.alarmIn m j).since }
  | none => s

theorem ownAlarms_eq (n : Nat) (h : s.waitsAlarm m = false) :
    s.ownAlarms m n = (List.range 8).foldl (fun acc j => acc.ownAlarm m n j) s :=
  if_neg (by rw [h]; exact Bool.false_ne_true)

theorem ownAlarm_some {n due st : Nat} (h : (s.alarmIn m j).solo = some (due, st)) : (s.ownAlarm m n j).alm.get m =
    (s.alm.get m).assign { input := j, state := st, step := Nat.max (due - 2) n, since := (s.alarmIn m j).since } := by
  unfold State.ownAlarm
  rw [h]
  exact assignAlarm_own s _

theorem ownAlarm_none {n : Nat} (h : (s.alarmIn m j).solo = none) : s.ownAlarm m n j = s := by
  unfold State.ownAlarm
  rw [h]

theorem ownAlarm_length (n : Nat) : ((s.ownAlarm m n j).alm.get m).inputs.length = (s.alm.get m).inputs.length := by
  cases h : (s.alarmIn m j).solo with
  | none => rw [ownAlarm_none h]
  | some x => rw [ownAlarm_some h, assign_length]

theorem ownAlarm_turns {n st : Nat} (h : (s.alm.get m).Turns i st n) : ((s.ownAlarm m n j).alm.get m).Turns i st n := by
  cases hj : (s.alarmIn m j).solo with
  | none => rwa [ownAlarm_none hj]
  | some x =>
    rw [ownAlarm_some hj]
    refine assign_turns_ne h fun (hji : j = i) => ?_
    have hi : (s.alarmIn m j).solo = none := by rw [hji]; exact h.solo
    exact absurd (hi.symm.trans hj) (by simp)

theorem foldl_ownAlarm_turns {n st : Nat} (l : List Nat) (h : (s.alm.get m).Turns i st n) :
    ((l.foldl (fun acc j => acc.ownAlarm m n j) s).alm.get m).Turns i st n := by
  induction l generalizing s with
  | nil => exact h
  | cons j l ih => exact ih (ownAlarm_turns h)

theorem foldl_ownAlarm_waits {n due st : Nat} (l : List Nat) (hi : i < 8) (hl : i < (s.alm.get m).inputs.length)
    (h : (s.alm.get m).Waits i due st n) (hdue : due ≤ n + 2) (hmem : i ∈ l) :
    ((l.foldl (fun acc j => acc.ownAlarm m n j) s).alm.get m).Turns i st n := by
  induction l generalizing s with
  | nil => cases hmem
  | cons j l ih =>
    by_cases hj : j = i
    · subst hj
      refine foldl_ownAlarm_turns l ?_
      rw [ownAlarm_some h.solo]
      exact assign_turns h hi hl rfl (Nat.max_le.mpr ⟨by omega, Nat.le_refl n⟩)
    · refine ih (by rwa [ownAlarm_length]) ?_ ((List.mem_cons.mp hmem).resolve_left (Ne.symm hj))
      change ((s.ownAlarm m n j).alm.get m).Waits i due st n
      cases hs : (s.alarmIn m j).solo with
      | none => rwa [ownAlarm_none hs]
      | some x =>
        rw [ownAlarm_some hs]
        exact assign_waits h hj

theorem waitsAlarm_of_keeps (h : Keeps 8388608 s t) : t.waitsAlarm m = s.waitsAlarm m := by
  have htan : t.tan = s.tan := Keeps_same h .tan rfl
  have hlan : t.lan = s.lan := Keeps_same h .lan rfl
  unfold State.waitsAlarm State.tracks State.inTandem State.isCaptain State.tst State.mt
  rw [htan, hlan]

/-- A mast that no longer waits acts on its own change, once the other mast's own changes are settled (R59). -/
theorem ownAlarms_turns {n due st : Nat} (hi : i < 8) (hl : i < (s.alm.get m).inputs.length) (hw : s.waitsAlarm m = false)
    (ho : s.waitsAlarm m.other = true) (h : (s.alm.get m).Waits i due st n) (hdue : due ≤ n + 2) :
    (((s.ownAlarms .a n).ownAlarms .b n).alm.get m).Turns i st n ∧
      ((s.ownAlarms .a n).ownAlarms .b n).alm.get m = (s.ownAlarms m n).alm.get m := by
  have hturn : ((s.ownAlarms m n).alm.get m).Turns i st n := by
    rw [ownAlarms_eq n hw]
    exact foldl_ownAlarm_waits _ hi hl h hdue (List.mem_range.mpr hi)
  cases m with
  | a =>
    have hwait := waitsAlarm_of_keeps (m := .b) (ownAlarms_keeps .a n (keeps_refl 8388608 s) rfl)
    rw [ownAlarms_waits (hwait.trans ho)]
    exact ⟨hturn, rfl⟩
  | b =>
    rw [ownAlarms_waits (m := .a) ho]
    exact ⟨hturn, rfl⟩

/-! ### A mast acts on a change (R295) -/

theorem followFallback_alm : ((s.followFallback m).alm.get k).inputs = (s.alm.get k).inputs ∧
    ((s.followFallback m).alm.get k).assigned = (s.alm.get k).assigned := by
  unfold State.followFallback
  dsimp only
  by_cases hk : k = m
  · subst hk
    split
    · rw [setAlm_alm]
      exact ⟨rfl, rfl⟩
    · split
      · rw [setAlm_alm]
        exact ⟨rfl, rfl⟩
      · exact ⟨rfl, rfl⟩
  · split
    · rw [setAlm_alm_ne _ hk]
      exact ⟨rfl, rfl⟩
    · split
      · rw [setAlm_alm_ne _ hk]
        exact ⟨rfl, rfl⟩
      · exact ⟨rfl, rfl⟩

theorem actAlarm_alm (st : Nat) : (s.actAlarm m j st).alm =
    if j < 8 then ((s.setAlarmIn m j { s.alarmIn m j with acted := st, solo := none }).followFallback m).alm else s.alm := by
  unfold State.actAlarm
  by_cases hj : j < 8
  · rw [if_pos hj, if_pos hj]
    generalize (s.setAlarmIn m j { s.alarmIn m j with acted := st, solo := none }).followFallback m = u
    dsimp only
    split
    · repeat' split
      all_goals rfl
    · rfl
  · rw [if_neg hj, if_neg hj]
    dsimp only
    split
    · repeat' split
      all_goals rfl
    · rfl

theorem actAlarm_leaves (st : Nat) : ((s.actAlarm m j st).alm.get k).assigned = (s.alm.get k).assigned ∧
    ((s.actAlarm m j st).alm.get k).inputs.length = (s.alm.get k).inputs.length ∧
    (k ≠ m → ((s.actAlarm m j st).alm.get k).inputs = (s.alm.get k).inputs) := by
  rw [actAlarm_alm]
  split
  · obtain ⟨hin, has⟩ := followFallback_alm (s := s.setAlarmIn m j { s.alarmIn m j with acted := st, solo := none }) (m := m) (k := k)
    rw [hin, has]
    unfold State.setAlarmIn
    by_cases hk : k = m
    · subst hk
      rw [setAlm_alm]
      exact ⟨rfl, by simp [setAt], fun h => absurd rfl h⟩
    · rw [setAlm_alm_ne _ hk]
      exact ⟨rfl, rfl, fun _ => rfl⟩
  · exact ⟨rfl, rfl, fun _ => rfl⟩

/-- The mast acts on a state of an input. -/
def State.ActsOn (s : State) (m : Mast) (i st : Nat) : Prop := (s.alarmIn m i).acted = st ∧ (s.alarmIn m i).solo = none

theorem actAlarm_actsOn (st : Nat) (hi : i < 8) (hl : i < (s.alm.get m).inputs.length) : (s.actAlarm m i st).ActsOn m i st := by
  have hin : ((s.actAlarm m i st).alm.get m).inputs =
      ((s.setAlarmIn m i { s.alarmIn m i with acted := st, solo := none }).alm.get m).inputs := by
    rw [actAlarm_alm, if_pos hi]
    exact followFallback_alm.1
  have hx : (s.actAlarm m i st).alarmIn m i = { s.alarmIn m i with acted := st, solo := none } := by
    rw [State.alarmIn, hin]
    exact alarmIn_setAlarmIn _ hl
  exact ⟨by rw [hx], by rw [hx]⟩

theorem actAlarm_other (st : Nat) (h : j ≠ i) : (s.actAlarm m j st).alarmIn m i = s.alarmIn m i := by
  have hin : atD ((s.actAlarm m j st).alm.get m).inputs i .reset = atD (s.alm.get m).inputs i .reset := by
    rw [actAlarm_alm]
    split
    · rw [followFallback_alm.1, State.setAlarmIn, setAlm_alm]
      exact atD_setAt_ne _ _ (Ne.symm h)
    · rfl
  exact hin

/-- What is due is acted on in turn, and ends with the state that every change of the input gives. -/
theorem foldl_actAlarm_leaves (l : List Assigned) :
    ((l.foldl (fun acc a => acc.actAlarm m a.input a.state) s).alm.get k).assigned = (s.alm.get k).assigned ∧
      (k ≠ m → ((l.foldl (fun acc a => acc.actAlarm m a.input a.state) s).alm.get k).inputs = (s.alm.get k).inputs) := by
  induction l generalizing s with
  | nil => exact ⟨rfl, fun _ => rfl⟩
  | cons c l ih =>
    obtain ⟨has, -, hin⟩ := actAlarm_leaves (s := s) (m := m) (j := c.input) (k := k) c.state
    obtain ⟨htas, htin⟩ := ih (s := s.actAlarm m c.input c.state)
    exact ⟨htas.trans has, fun h => (htin h).trans (hin h)⟩

theorem foldl_actAlarm_actsOn {st : Nat} (l : List Assigned) (hi : i < 8) (hl : i < (s.alm.get m).inputs.length)
    (honly : ∀ c ∈ l, c.input = i → c.state = st) (h : s.ActsOn m i st ∨ ∃ c ∈ l, c.input = i) :
    (l.foldl (fun acc a => acc.actAlarm m a.input a.state) s).ActsOn m i st := by
  induction l generalizing s with
  | nil => exact h.elim id (fun ⟨c, hc, _⟩ => absurd hc List.not_mem_nil)
  | cons c l ih =>
    refine ih (s := s.actAlarm m c.input c.state) (by rwa [(actAlarm_leaves c.state).2.1]) (fun d hd => honly d (List.mem_cons_of_mem _ hd)) ?_
    by_cases hc : c.input = i
    · rw [hc, honly c List.mem_cons_self hc]
      exact .inl (actAlarm_actsOn st hi hl)
    · refine h.imp (fun hacts => ?_) (fun ⟨d, hd, hdi⟩ => ⟨d, ?_, hdi⟩)
      · unfold State.ActsOn
        rwa [actAlarm_other _ hc]
      · rcases List.mem_cons.mp hd with rfl | hd
        · exact absurd hdi hc
        · exact hd

/-- What a mast keeps of its assignments after those due by a step. -/
def AlarmMast.later (a : AlarmMast) (n : Nat) : List Assigned := a.assigned.filter (fun c => !decide (c.step ≤ n))

/-- What a mast has assigned that is due by a step. -/
def AlarmMast.dueBy (a : AlarmMast) (n : Nat) : List Assigned := a.assigned.filter (fun c => decide (c.step ≤ n))

theorem actAssigned_eq (n : Nat) : s.actAssigned m n = ((s.alm.get m).dueBy n).foldl (fun acc a => acc.actAlarm m a.input a.state)
    (s.setAlm m { s.alm.get m with assigned := (s.alm.get m).later n }) := rfl

theorem actAssigned_assigned (n : Nat) : ((s.actAssigned m n).alm.get m).assigned = (s.alm.get m).later n := by
  rw [actAssigned_eq, (foldl_actAlarm_leaves _).1, setAlm_alm]

theorem actAssigned_ne (n : Nat) (h : k ≠ m) : ((s.actAssigned m n).alm.get k).assigned = (s.alm.get k).assigned ∧
    ((s.actAssigned m n).alm.get k).inputs = (s.alm.get k).inputs := by
  rw [actAssigned_eq]
  obtain ⟨has, hin⟩ := foldl_actAlarm_leaves (s := s.setAlm m { s.alm.get m with assigned := (s.alm.get m).later n }) (m := m) (k := k)
    ((s.alm.get m).dueBy n)
  rw [has, hin h, setAlm_alm_ne _ h]
  exact ⟨rfl, rfl⟩

theorem actAssigned_actsOn {n st : Nat} (hi : i < 8) (hl : i < (s.alm.get m).inputs.length)
    (honly : ∀ c ∈ (s.alm.get m).dueBy n, c.input = i → c.state = st) (hdue : ∃ c ∈ (s.alm.get m).dueBy n, c.input = i) :
    (s.actAssigned m n).ActsOn m i st := by
  rw [actAssigned_eq]
  exact foldl_actAlarm_actsOn _ hi (by rw [setAlm_alm]; exact hl) honly (.inr hdue)

/-- The two masts act, each on its own assignments. -/
theorem actAssigned_both (n : Nat) : (((s.actAssigned .a n).actAssigned .b n).alm.get m).assigned = (s.alm.get m).later n ∧
    ∀ i st, i < 8 → i < (s.alm.get m).inputs.length → (∀ c ∈ (s.alm.get m).dueBy n, c.input = i → c.state = st) →
      (∃ c ∈ (s.alm.get m).dueBy n, c.input = i) → ((s.actAssigned .a n).actAssigned .b n).ActsOn m i st := by
  cases m with
  | a =>
    obtain ⟨has, hin⟩ := actAssigned_ne (s := s.actAssigned .a n) (m := .b) (k := .a) n (by decide)
    refine ⟨by rw [has, actAssigned_assigned], fun i st hi hl honly hdue => ?_⟩
    unfold State.ActsOn State.alarmIn
    rw [hin]
    exact actAssigned_actsOn hi hl honly hdue
  | b =>
    obtain ⟨has, hin⟩ := actAssigned_ne (s := s) (m := .a) (k := .b) n (by decide)
    have hlater : ((s.actAssigned .a n).alm.get .b).later n = (s.alm.get .b).later n := by
      rw [AlarmMast.later, has]
      rfl
    have hdueBy : ((s.actAssigned .a n).alm.get .b).dueBy n = (s.alm.get .b).dueBy n := by
      rw [AlarmMast.dueBy, has]
      rfl
    refine ⟨by rw [actAssigned_assigned, hlater], fun i st hi hl honly hdue => ?_⟩
    exact actAssigned_actsOn hi (by rw [hin]; exact hl) (by rw [hdueBy]; exact honly) (by rw [hdueBy]; exact hdue)

theorem alarmActions_none {n : Nat} (h : ∀ m, (((s.ownAlarms .a n).ownAlarms .b n).alm.get m).dueBy n = []) :
    s.alarmActions n = (s.ownAlarms .a n).ownAlarms .b n := by
  unfold State.alarmActions
  refine if_neg fun hany => ?_
  obtain ⟨m, -, hm⟩ := List.any_eq_true.mp hany
  obtain ⟨c, hc, hn⟩ := List.any_eq_true.mp hm
  have hmem : c ∈ (((s.ownAlarms .a n).ownAlarms .b n).alm.get m).dueBy n := List.mem_filter.mpr ⟨hc, hn⟩
  rw [h m] at hmem
  cases hmem

/-- A change of an input as its own step and time have it. -/
theorem atStep_triggered (n : Nat) (time : State → Nat) (f : State → State) : ∃ w : State, w.alm = s.alm ∧ w.tan = s.tan ∧
    (s.atStep n (fun x => x.triggeredBy (time x) f)).alm = (f w).alm ∧
    (s.atStep n (fun x => x.triggeredBy (time x) f)).tan = (f w).tan :=
  ⟨{ s with step := n, md := { s.md with trigger := some (time { s with step := n }) } }, rfl, rfl, rfl, rfl⟩

theorem alarmActions_alm {n : Nat} (h : (((s.ownAlarms .a n).ownAlarms .b n).alm.get m).dueBy n ≠ []) :
    ∃ w : State, w.alm = ((s.ownAlarms .a n).ownAlarms .b n).alm ∧
      (s.alarmActions n).alm = ((w.actAssigned .a n).actAssigned .b n).alm := by
  unfold State.alarmActions
  dsimp only
  generalize (s.ownAlarms .a n).ownAlarms .b n = u at h
  rw [if_pos ?_]
  · obtain ⟨w, halm, -, hact, -⟩ := atStep_triggered (s := u) n (fun x => x.changeTime n)
      (fun y => ((y.actAssigned .a n).actAssigned .b n).alarmChanged)
    have hkeep := Keeps_same (alarmChanged_keeps (keeps_refl 191620832 ((w.actAssigned .a n).actAssigned .b n)) rfl) .alm rfl
    exact ⟨w, halm, hact.trans hkeep⟩
  · obtain ⟨c, hc⟩ := List.exists_mem_of_ne_nil _ h
    obtain ⟨hmem, hn⟩ := List.mem_filter.mp hc
    exact List.any_eq_true.mpr ⟨m, by cases m <;> decide, List.any_eq_true.mpr ⟨c, hmem, hn⟩⟩

theorem alarmActions_step (n : Nat) : (s.alarmActions n).step = s.step := by
  have hown : ((s.ownAlarms .a n).ownAlarms .b n).step = s.step :=
    Keeps_same (ownAlarms_keeps .b n (ownAlarms_keeps .a n (keeps_refl 8388608 s) rfl) rfl) .step rfl
  unfold State.alarmActions
  dsimp only
  generalize (s.ownAlarms .a n).ownAlarms .b n = u at hown
  split
  · exact hown
  · exact hown

theorem mem_later {a : AlarmMast} {c : Assigned} {n : Nat} (h : c ∈ a.later n) : n < c.step := by
  simpa using (List.mem_filter.mp h).2

/-- Nothing that is due stays assigned. -/
theorem alarmActions_assigned {n : Nat} {c : Assigned} (h : c ∈ ((s.alarmActions n).alm.get m).assigned) : n < c.step := by
  by_cases hidle : ∀ k, (((s.ownAlarms .a n).ownAlarms .b n).alm.get k).dueBy n = []
  · rw [alarmActions_none hidle] at h
    refine Nat.lt_of_not_le fun hle => ?_
    have hmem : c ∈ (((s.ownAlarms .a n).ownAlarms .b n).alm.get m).dueBy n := List.mem_filter.mpr ⟨h, decide_eq_true hle⟩
    rw [hidle m] at hmem
    cases hmem
  · obtain ⟨k, hk⟩ := Classical.not_forall.mp hidle
    obtain ⟨w, -, halm⟩ := alarmActions_alm hk
    rw [halm, (actAssigned_both n).1] at h
    exact mem_later h

/-- An input acts on what is due to it, where every change of it that is due gives one state. -/
theorem alarmActions_actsOn {n st : Nat} (hi : i < 8) (hl : i < (((s.ownAlarms .a n).ownAlarms .b n).alm.get m).inputs.length)
    (honly : ∀ c ∈ (((s.ownAlarms .a n).ownAlarms .b n).alm.get m).dueBy n, c.input = i → c.state = st)
    (hdue : ∃ c ∈ (((s.ownAlarms .a n).ownAlarms .b n).alm.get m).dueBy n, c.input = i) : (s.alarmActions n).ActsOn m i st := by
  obtain ⟨c, hc, hci⟩ := hdue
  obtain ⟨w, hw, halm⟩ := alarmActions_alm (s := s) (n := n) (m := m) (List.ne_nil_of_mem hc)
  rw [← hw] at hl honly hc
  unfold State.ActsOn State.alarmIn
  rw [halm]
  exact (actAssigned_both n).2 i st hi hl honly ⟨c, hc, hci⟩

theorem primaryAlarms_untracked (l : List Assigned) (h : s.tracks = false) : s.primaryAlarms l = s :=
  if_neg (by rw [h]; exact Bool.false_ne_true)

theorem ownAlarms_length (n : Nat) : ((s.ownAlarms m n).alm.get m).inputs.length = (s.alm.get m).inputs.length := by
  by_cases hw : s.waitsAlarm m = true
  · rw [ownAlarms_waits hw]
  · rw [ownAlarms_eq n (Bool.eq_false_iff.mpr hw)]
    exact foldl_fixed (part := fun u : State => (u.alm.get m).inputs.length) (fun u j => ownAlarm_length n) _ s

/-- The Stoker acts alone (R59). -/
theorem exec_alarmInputSolo {due st : Nat} (hi : i < 8) (hl : i < (s.alm.get m).inputs.length)
    (hsolo : (s.alarmIn m i).solo = some (due, st)) (hdue : due ≤ s.step + 1) (hst : s.tst m = .stoker) (htr : s.tracks = false) :
    ∃ u : State, u.ActsOn m i st ∧ u.tan = s.tan ∧ u.step = s.step ∧ exec (.alarmInputSolo m i) s =
      .next ((u.flag m .soloAlarm due s.window).event m.code evAlarmInputSolo (be 1 i ++ zeros 3 ++ be 8 due)) := by
  generalize hsince : (s.alarmIn m i).since = since
  obtain ⟨w, halm, htan, hact, hactTan⟩ := atStep_triggered (s := s) due (fun _ => since)
    (fun y => (y.actAlarm m i st).alarmChanged)
  have hchanged := alarmChanged_keeps (keeps_refl 191620832 (w.actAlarm m i st)) rfl
  have hactKeeps := actAlarm_keeps m i st (keeps_refl 25182208 w) rfl
  refine ⟨s.atStep due (fun x => x.triggeredBy since (fun y => (y.actAlarm m i st).alarmChanged)), ?_, ?_, rfl, ?_⟩
  · unfold State.ActsOn State.alarmIn
    rw [hact, Keeps_same hchanged .alm rfl]
    exact actAlarm_actsOn st hi (by rw [halm]; exact hl)
  · rw [hactTan, Keeps_same hchanged .tan rfl, Keeps_same hactKeeps .tan rfl, htan]
  · change execAlarmInputSolo m i s = _
    unfold execAlarmInputSolo
    rw [hsolo]
    dsimp only
    rw [if_neg (by simp [hst, htr, hi]; omega), hsince]

/-- Settles O35: sample by sample, then the assigned change at its step. -/
theorem alarmInputsAct : Obligations.AlarmInputsAct := by
  unfold Obligations.AlarmInputsAct
  intro m i s hi hl x
  refine ⟨fun hr => ⟨fun n => ?_, fun n c hc => ?_, fun hcount hne => ?_, fun drop hst hdeb hlast => ?_⟩, fun l => ?_,
    fun due st hsolo hdue hst htr => ?_⟩
  · change execAlarmInputSample m i n true s = _
    unfold execAlarmInputSample
    rw [if_pos (by simp)]
  · change execAlarmInputSample m i n false s = _
    unfold execAlarmInputSample
    dsimp only
    rw [if_neg (by simp [hr, hi]), alarmClass_of hc]
  · intro u c
    obtain ⟨w, honly, hopen, hshort, hact⟩ := exec_debounced hi hl hr hcount hne
    have hmap : (u.actsOrWaits m i x.last x.since).OnlyHalyard (w.actsOrWaits m i x.last x.since) :=
      OnlyHalyard_map (actsOrWaits_beside m i x.last x.since) honly
    have hwaits : u.waitsAlarm m = s.waitsAlarm m := rfl
    refine ⟨fun hle htgt htr htan hstay hcap => ?_, fun hle htgt hor => ?_, fun hle htgt htr hor => ?_, fun h2 => ⟨w, hopen h2, honly⟩,
      fun h3 => ⟨w, hshort h3, honly⟩⟩
    · refine ⟨_, hact hle htgt, ?_⟩
      have hno : s.waitsAlarm m = false := by simp [State.waitsAlarm, htr, hcap]
      have hms : u.alarmMasts m = bothMasts := if_pos (by
        rw [show u.isCaptain m = true from hcap, show u.tan.stay.up = true from hstay, show u.inTandem = true from htan]
        rfl)
      unfold State.actsOrWaits at hmap
      rw [hwaits, hno, if_neg Bool.false_ne_true, hms] at hmap
      exact hmap
    · refine ⟨_, hact hle htgt, ?_⟩
      have hyes : s.waitsAlarm m = true := by
        rcases hor with h | ⟨htan, hstay, hcap⟩
        · simp [State.waitsAlarm, h]
        · simp [State.waitsAlarm, htan, hstay, hcap]
      unfold State.actsOrWaits at hmap
      rw [hwaits, hyes, if_pos rfl] at hmap
      exact hmap
    · refine ⟨_, hact hle htgt, ?_⟩
      have hno : s.waitsAlarm m = false := by
        rcases hor with h | h
        · simp [State.waitsAlarm, htr, h]
        · simp [State.waitsAlarm, htr, h]
      unfold State.actsOrWaits at hmap
      rw [hwaits, hno, if_neg Bool.false_ne_true] at hmap
      exact hmap
  · intro e
    have he : expectedDrop x.deb = e := rfl
    have hgo : ¬ (decide (8 ≤ i) || !s.alarmRuns m || decide (s.tst m = .out) || decide (x.deb ≥ 2) || decide (x.last ≥ 2)) = true := by
      simp [hr, hst]
      omega
    have hpulse : exec (.alarmTestPulse m i drop) s = .next (if e * 70 ≤ drop * 100 ∧ drop * 100 ≤ e * 130 then s.setAlarmIn m i { x with failed := 0 }
        else if x.failed < 2 then s.setAlarmIn m i { x with failed := x.failed + 1 }
        else (s.setAlarmIn m i { x with failed := 0 }).report m (if drop * 100 > e * 130 then 0xB0 else 0xB1) (inputSite 2 i)) :=
      congrArg Outcome.next (if_neg hgo)
    refine ⟨fun hlo hhi => ?_, fun hout hfew => ?_, fun hlow hmany => ?_, fun hhigh hmany => ?_⟩
    · rw [hpulse, if_pos ⟨hlo, hhi⟩]
    · rw [hpulse, if_neg (by omega), if_pos hfew]
    · rw [hpulse, if_neg (by omega), if_neg (by omega), if_neg (by omega)]
    · rw [hpulse, if_neg (by omega), if_neg (by omega), if_pos hhigh]
  · refine ⟨(s.primaryAlarms l).alarmActions (s.step + 1), rfl, ?_, fun a ha => alarmActions_assigned ha, fun a htr hnone hone hai => ?_,
      fun due st hsolo hdue hno hother hclear => ?_⟩
    · rw [alarmActions_step]
      exact Keeps_same (primaryAlarms_keeps l (keeps_refl 8388608 s) rfl) .step rfl
    · rw [primaryAlarms_untracked l htr]
      have hown : (s.ownAlarms .a (s.step + 1)).ownAlarms .b (s.step + 1) = s := by
        rw [ownAlarms_idle (hnone .a), ownAlarms_idle (hnone .b)]
      have hdue : (s.alm.get m).dueBy (s.step + 1) = [a] := hone
      refine alarmActions_actsOn hi ?_ ?_ ?_
      · rw [hown]
        exact hl
      · rw [hown, hdue]
        exact fun c hc _ => by rw [List.mem_singleton.mp hc]
      · rw [hown, hdue]
        exact ⟨a, List.mem_singleton_self a, hai⟩
    · have htr : s.tracks = false := by
        unfold State.waitsAlarm at hno
        exact (Bool.or_eq_false_iff.mp hno).1
      rw [primaryAlarms_untracked l htr]
      have hwaits : (s.alm.get m).Waits i due st (s.step + 1) := ⟨hsolo, hclear⟩
      obtain ⟨hturn, heq⟩ := ownAlarms_turns hi hl hno hother hwaits (by omega)
      obtain ⟨c, hc, hci, hcn⟩ := hturn.due
      refine alarmActions_actsOn hi ?_ (fun d hd hdi => ?_) ⟨c, List.mem_filter.mpr ⟨hc, decide_eq_true hcn⟩, hci⟩
      · rw [heq, ownAlarms_length]
        exact hl
      · obtain ⟨hmem, hdn⟩ := List.mem_filter.mp hd
        exact hturn.only d hmem hdi (of_decide_eq_true hdn)
  · obtain ⟨u, hacts, htan, hstep, hexec⟩ := exec_alarmInputSolo hi hl hsolo hdue hst htr
    generalize hf : be 1 i ++ zeros 3 ++ be 8 due = f at hexec
    have hkeep : Keeps 352 u ((u.flag m .soloAlarm due s.window).event m.code evAlarmInputSolo f) :=
      event_keeps _ _ _ (flag_keeps _ _ _ _ (keeps_refl 352 u) rfl) rfl
    have hkstep := Keeps_same hkeep .step rfl
    have hkalm := Keeps_same hkeep .alm rfl
    refine ⟨_, hexec, hkstep.trans hstep, ?_, fun hflags => ?_⟩
    · rw [alarmIn_of_alm (congrArg (fun x => x.get m) hkalm)]
      exact hacts.1
    · have hmt : u.mt m = s.mt m := by rw [State.mt, htan]; rfl
      unfold State.mt
      rw [event_tan, flag_flags (by rw [hmt]; exact hflags), ← State.mt, setMt_mt, hmt]
      rfl

end Sys2Proof.Machine

/-! # O36: messages, the fallback test and alarm streams (R225, R298, R299, R579, R584) -/
namespace Sys2Proof.Machine
open Host Sys2Proof

variable {s t u : State} {m k : Mast} {i : Nat}

/-! ### A change of the activations leaves the activations themselves (R113, R119, R125, R296) -/

/-- The activations of both masts are what they were. -/
def State.ActsKept (s t : State) : Prop := ∀ k, (t.dp.get k).acts = (s.dp.get k).acts

theorem ActsKept_trans {s t u : State} (h : s.ActsKept t) (k : t.ActsKept u) : s.ActsKept u := fun m => (k m).trans (h m)

theorem ActsKept_of_dp {s t : State} (h : t.dp = s.dp) : s.ActsKept t := fun _ => by rw [h]

theorem gateDies_actsKept (m : Mast) : s.ActsKept (s.gateDies m) := fun k => by
  rw [gateDies_dp]
  split
  · next h => subst h; rfl
  · rfl

theorem emptySlots_actsKept : s.ActsKept s.emptySlots := fun k => by
  rw [emptySlots_dp, Both_get_map]

theorem wipeDies_actsKept (m : Mast) (n : Nat) : s.ActsKept (s.wipeDies m n) := fun k => by
  have hrows (u : State) (w : Nat → Bool) : (u.wipeRows m w).dp = u.dp := Keeps_same (wipeRows_keeps m w (keeps_refl 1536 u) rfl) .dp rfl
  unfold State.wipeDies
  dsimp only
  rw [hrows]
  by_cases h : k = m
  · subst h
    dsimp only
    rw [Both_get_set]
    rfl
  · dsimp only
    rw [Both_get_set_ne _ _ h]

theorem wipeServers_actsKept : s.ActsKept s.wipeServers := fun k =>
  foldl_fixed (part := fun u : State => (u.dp.get k).acts) (fun u m => wipeDies_actsKept m u.step k) _ s

theorem restartOverlays_actsKept : s.ActsKept s.restartOverlays := fun k => OnlyOverlay_acts (restartOverlays_onlyOverlay k)

theorem alarmFromWatch_actsKept : s.ActsKept s.alarmFromWatch := by
  have henter := Keeps_same (enterMode_keeps .alarm s.md.base 1 (keeps_refl 224 s) rfl) .dp rfl
  unfold State.alarmFromWatch
  dsimp only
  refine ActsKept_trans (ActsKept_of_dp henter) (ActsKept_trans (gateDies_actsKept .a) (ActsKept_trans (gateDies_actsKept .b)
    (ActsKept_trans emptySlots_actsKept ?_)))
  generalize State.emptySlots _ = u
  refine ActsKept_of_dp (Keeps_same (settle_keeps (planShed_keeps (s0 := { u with md := _ }) (keeps_refl 656512 _) rfl) rfl) .dp rfl)

theorem alarmFromMaintain_actsKept : s.ActsKept s.alarmFromMaintain := by
  have habort := Keeps_same (abortTests_keeps (keeps_refl 155321952 s) rfl) .dp rfl
  have henter (u : State) : (u.enterMode .alarm u.md.base 5).dp = u.dp :=
    Keeps_same (enterMode_keeps .alarm u.md.base 5 (keeps_refl 224 u) rfl) .dp rfl
  have hend (u : State) : u.planShed.settle.dp = u.dp :=
    Keeps_same (settle_keeps (planShed_keeps (keeps_refl 656512 u) rfl) rfl) .dp rfl
  unfold State.alarmFromMaintain
  dsimp only
  refine ActsKept_trans (ActsKept_of_dp habort) (ActsKept_trans emptySlots_actsKept (ActsKept_trans wipeServers_actsKept ?_))
  generalize State.wipeServers _ = u
  refine ActsKept_trans (ActsKept_of_dp (henter u)) ?_
  generalize State.enterMode u _ _ _ = v
  refine ActsKept_trans ?_ (ActsKept_trans restartOverlays_actsKept (ActsKept_of_dp (hend _)))
  split
  · exact ActsKept_of_dp (Keeps_same (powerVideo_keeps (keeps_refl 4261472 v) rfl) .dp rfl)
  · exact ActsKept_of_dp (Keeps_same (gateVideo_keeps _ (keeps_refl 33620064 v) rfl) .dp rfl)

theorem alarmFromRun_actsKept : s.ActsKept s.alarmFromRun :=
  ActsKept_of_dp (Keeps_same (alarmFromRun_keeps (keeps_refl 4194528 s) rfl) .dp rfl)

theorem alarmOnset_actsKept : s.ActsKept s.alarmOnset := by
  have hspoil : s.ActsKept s.spoilModeSets := ActsKept_of_dp rfl
  refine ActsKept_trans hspoil ?_
  unfold State.alarmOnset
  dsimp only
  split
  · exact alarmFromRun_actsKept
  · exact alarmFromRun_actsKept
  · exact alarmFromWatch_actsKept
  · exact alarmFromMaintain_actsKept
  · exact ActsKept_of_dp rfl

theorem alarmChanged_actsKept : s.ActsKept s.alarmChanged := by
  refine ActsKept_trans (t := s.followOverlay) (fun k => followOverlay_acts s k) ?_
  unfold State.alarmChanged
  generalize s.followOverlay = u
  have hcalm : u.ActsKept { u with md := { u.md with clearedAt := none } } := ActsKept_of_dp rfl
  dsimp only
  split
  · split
    · exact hcalm
    · exact ActsKept_trans hcalm alarmOnset_actsKept
  · split
    · exact ActsKept_of_dp rfl
    · exact ActsKept_of_dp rfl

theorem abortTests_alarm : s.abortTests.alarm = { s.alarm with tests := [] } := by
  unfold State.abortTests
  generalize (s.abandonTests .a).abandonTests .b = x
  have hkeep (y : State) (loops : List Nat) (l : List FallbackTest) : Keeps 132192 y
      (loops.foldl (fun acc l => acc.event 2 evTestAborted (be 1 2 ++ zeros 1 ++ be 2 l))
        (l.foldl (fun acc t => acc.event 2 evTestAborted (be 1 1 ++ zeros 1 ++ be 2 t.output)) ((y.freeLoops .a loops).freeLoops .b loops))) :=
    keeps_foldl _ _ (keeps_foldl _ _ (freeLoops_keeps _ _ (freeLoops_keeps _ _ (keeps_refl 132192 y) rfl) rfl)
      (fun t _ => event_keeps _ _ _ (keeps_refl 132192 t) rfl)) (fun t _ => event_keeps _ _ _ (keeps_refl 132192 t) rfl)
  exact Keeps_same (hkeep _ _ _) .alarm rfl

theorem alarmFromMaintain_messages : s.alarmFromMaintain.alarm.messages = s.alarm.messages := by
  have habort : s.abortTests.alarm.messages = s.alarm.messages := by rw [abortTests_alarm]
  have hrest (u : State) : Keeps 38487776 u (((if (u.enterMode .alarm u.md.base 5).videoRuns then (u.enterMode .alarm u.md.base 5).powerVideo
      else (u.enterMode .alarm u.md.base 5).gateVideo .gate).restartOverlays).planShed.settle) := by
    refine settle_keeps (planShed_keeps (restartOverlays_keeps ?_ rfl) rfl) rfl
    have henter := enterMode_keeps .alarm u.md.base 5 (keeps_refl 38487776 u) rfl
    split
    · exact powerVideo_keeps henter rfl
    · exact gateVideo_keeps _ henter rfl
  have hwipe : Keeps 124512 s.abortTests s.abortTests.emptySlots.wipeServers :=
    wipeServers_keeps (emptySlots_keeps (keeps_refl 124512 s.abortTests) rfl) rfl
  unfold State.alarmFromMaintain
  dsimp only
  rw [Keeps_same (hrest _) .alarm rfl, Keeps_same hwipe .alarm rfl, habort]

theorem alarmOnset_messages : s.alarmOnset.alarm.messages = s.alarm.messages := by
  have hspoil : s.spoilModeSets.alarm = s.alarm := rfl
  unfold State.alarmOnset
  dsimp only
  rw [← hspoil]
  split
  · rw [Keeps_same (alarmFromRun_keeps (keeps_refl 4194528 s.spoilModeSets) rfl) .alarm rfl]
  · rw [Keeps_same (alarmFromRun_keeps (keeps_refl 4194528 s.spoilModeSets) rfl) .alarm rfl]
  · rw [Keeps_same (alarmFromWatch_keeps (keeps_refl 2876640 s.spoilModeSets) rfl) .alarm rfl]
  · exact alarmFromMaintain_messages
  · rfl

/-- A change of the activations leaves the messages. -/
theorem alarmChanged_messages : s.alarmChanged.alarm.messages = s.alarm.messages := by
  have hf : s.followOverlay.alarm = s.alarm := Keeps_same (followOverlay_keeps (keeps_refl 16480 s) rfl) .alarm rfl
  unfold State.alarmChanged
  generalize s.followOverlay = u at hf
  rw [← hf]
  dsimp only
  split
  · split
    · rfl
    · exact alarmOnset_messages
  · split
    · rfl
    · rfl

/-! ### Messages (R225, R298, R299, R579) -/

theorem message_of_messages (h : t.alarm.messages = s.alarm.messages) : t.message i = s.message i := by
  unfold State.message
  rw [h]

/-- The report of a failed chunk is counted and logged. -/
theorem chunkReport_keeps {src site : Nat} (h : src = 0xB2 ∨ src = 0xB3) : Keeps 1536 s (s.report m src site) := by
  rcases h with rfl | rfl
  · exact report_below_reef3 (cls := 1) (by decide) rfl (by decide) (by decide) (by decide)
  · exact report_below_reef3 (cls := 2) (by decide) rfl (by decide) (by decide) (by decide)

/-- A play of message `i` is over on a mast at the step that begins. -/
def State.playEnds (s : State) (d : Datapath) (i : Nat) : Bool := match d.plays.find i with
  | some st => s.playSteps i != 0 && decide (st < s.step + 1) && (s.step + 1 - st) % s.playSteps i == 0
  | none => false

/-- The activations that count the plays of message `i`: by command, and begun before the play ended. -/
def Activation.counts (a : Activation) (i n : Nat) : Bool :=
  a.source.kind == 0 && a.source.index == i && a.trigger == 1 && decide (a.start < n)

/-- The activations of a mast once a play of message `i` is over. -/
def Datapath.played (d : Datapath) (i n : Nat) : Datapath :=
  ({ d with acts := d.acts.map (fun a => if a.counts i n then { a with plays := a.plays + 1 } else a) } : Datapath).endActs
    (fun a => a.counts i n && a.repeats != 0 && decide (a.repeats ≤ a.plays))

theorem mem_played {d : Datapath} {a : Activation} {n : Nat} (h : a ∈ d.acts) (hc : a.counts i n = true)
    (hr : a.repeats = 0 ∨ a.plays + 1 < a.repeats) : { a with plays := a.plays + 1 } ∈ (d.played i n).acts := by
  refine List.mem_filter.mpr ⟨List.mem_map.mpr ⟨a, h, if_pos hc⟩, ?_⟩
  have hplays : ¬ (a.repeats ≠ 0 ∧ a.repeats ≤ a.plays + 1) := by omega
  simp only [Bool.not_eq_true', Bool.and_eq_false_iff, bne_eq_false_iff_eq, decide_eq_false_iff_not]
  rcases hr with h0 | hlt
  · exact .inl (.inr h0)
  · exact .inr (by omega)

theorem plays_of_played {d : Datapath} {a : Activation} {n : Nat} (h : a ∈ (d.played i n).acts) (hc : a.counts i n = true)
    (hr : a.repeats ≠ 0) : a.plays < a.repeats := by
  have hkeep := (List.mem_filter.mp h).2
  simpa [hc, hr] using hkeep

theorem exec_playBoundary (h : s.playEnds (s.dp.get m) i = true) : exec (.messagePlayBoundary i) s = .next (s.atStep (s.step + 1)
    (fun x => ({ x with dp := x.dp.map (fun d => if !s.playEnds d i then d else d.played i (s.step + 1)) } : State).alarmChanged)) := by
  have hany : bothMasts.any (fun k => s.playEnds (s.dp.get k) i) = true :=
    List.any_eq_true.mpr ⟨m, by cases m <;> decide, h⟩
  refine congrArg Outcome.next (if_neg fun hno => ?_)
  have hno : (!bothMasts.any (fun k => s.playEnds (s.dp.get k) i)) = true := hno
  rw [hany] at hno
  exact absurd hno (by decide)

theorem toFallback_source {d : Datapath} {n : Nat} {a : Activation} (h : a ∈ (d.toFallback i n).acts) :
    ¬ (a.source.kind = 0 ∧ a.source.index = i) := by
  obtain ⟨b, -, rfl⟩ := List.mem_map.mp h
  split
  · simp
  · next hb => exact fun ⟨hk, hi⟩ => hb (by simp [hk, hi])

/-- A chunk that fails on both masts fails its message, and the fallback alert takes its place (R299). -/
theorem chunkFails (hst : (s.message i).state = 1) (hi : i < s.alarm.messages.length) (c : Nat) : ∃ t,
    exec (.messageChunkFailure m i c true) s = .next t ∧ (t.message i).state = 2 ∧
      ∀ n, ∀ a ∈ (t.dp.get n).acts, ¬ (a.source.kind = 0 ∧ a.source.index = i) := by
  change ∃ t, execMessageChunkFailure m i c true s = .next t ∧ _
  unfold execMessageChunkFailure
  dsimp only
  rw [if_neg (by simp [hst]), if_neg (by simp)]
  generalize hx : s.setMessage i { s.message i with state := 2 } = x
  have hmsg : (x.message i).state = 2 := by
    rw [← hx, message_setMessage_same _ hi]
  have hrep : Keeps 1536 x (x.report s.lead 0xB3 (0xB0000000 + 64 * c + i)) := chunkReport_keeps (.inr rfl)
  generalize x.report s.lead 0xB3 (0xB0000000 + 64 * c + i) = y at hrep
  have hev := eventFull_keeps 2 2 1 evMessageCheck y.step (be 1 i ++ be 1 1 ++ be 2 c) (keeps_mono (w := 1632) hrep rfl) rfl
  generalize y.eventFull 2 2 1 evMessageCheck y.step (be 1 i ++ be 1 1 ++ be 2 c) = z at hev
  have halarm : z.alarm = x.alarm := Keeps_same hev .alarm rfl
  refine ⟨_, rfl, ?_, fun n a ha => ?_⟩
  · have hmsgs : z.message i = x.message i := message_of_messages (congrArg AlarmShared.messages halarm)
    rw [message_of_messages alarmChanged_messages]
    exact (congrArg Message.state hmsgs).trans hmsg
  · rw [alarmChanged_actsKept n] at ha
    dsimp only at ha
    rw [Both_get_map] at ha
    exact toFallback_source ha

/-- The messages of the store once a check of a mast is over. -/
theorem exec_storeCheck (fails : List (Nat × Nat × Bool)) (hdue : s.checkDue m = true) :
    exec (.messageStoreCheck m fails) s = .next (
      let s1 := (fails.filter (fun f => (s.message f.1).state == 1)).foldl (fun acc f => acc.storeFailure m f.1 f.2.1 f.2.2) s
      let s2 : State := { s1 with alarm := { s1.alarm with messages := (List.range s1.alarm.messages.length).map (fun i =>
        if (s.message i).state = 1 then { s1.message i with checked := s1.md.nest.rtc } else s1.message i) } }
      s2.setAlm m { s2.alm.get m with checking := false, checkedAt := some s2.now }) :=
  congrArg Outcome.next (if_neg (by rw [hdue]; exact Bool.false_ne_true))

theorem atD_map_range {α : Type} (f : Nat → α) {n i : Nat} (d : α) (h : i < n) : atD ((List.range n).map f) i d = f i := by
  simp [atD, h]

/-- A store check that finds one chunk failed dates the message, as `storeFailure` leaves it. -/
theorem storeCheck_one {c : Nat} {both : Bool} (hdue : s.checkDue m = true) (hst : (s.message i).state = 1)
    (hi : i < (s.storeFailure m i c both).alarm.messages.length) : ∃ t, exec (.messageStoreCheck m [(i, c, both)]) s = .next t ∧
      t.message i = { (s.storeFailure m i c both).message i with checked := (s.storeFailure m i c both).md.nest.rtc } := by
  rw [exec_storeCheck _ hdue, List.filter_cons_of_pos (by simp [hst])]
  refine ⟨_, rfl, ?_⟩
  dsimp only [List.filter_nil, List.foldl_cons, List.foldl_nil]
  generalize s.storeFailure m i c both = u at hi
  exact (atD_map_range _ _ hi).trans (if_pos hst)

/-- A chunk that the store check finds failed on both masts. -/
theorem storeFailure_both (m : Mast) (c : Nat) (hi : i < s.alarm.messages.length) : (s.storeFailure m i c true).md = s.md ∧
    (s.storeFailure m i c true).alarm.messages.length = s.alarm.messages.length ∧
    (s.storeFailure m i c true).message i = { s.message i with state := 2 } := by
  have hrep : Keeps 1536 s (s.report m 0xB2 (0xB0000000 + 64 * c + i)) := chunkReport_keeps (.inl rfl)
  unfold State.storeFailure
  dsimp only
  generalize s.report m 0xB2 (0xB0000000 + 64 * c + i) = y at hrep
  have halarm : y.alarm = s.alarm := Keeps_same hrep .alarm rfl
  rw [if_pos (by rfl)]
  have hev := eventFull_keeps 2 1 1 evMessageCheck y.step (be 1 i ++ be 1 1 ++ be 2 c)
    (keeps_refl 96 (y.setMessage i { s.message i with state := 2 })) rfl
  have hmd := Keeps_same hev .md rfl
  have hal := Keeps_same hev .alarm rfl
  refine ⟨hmd.trans (Keeps_same hrep .md rfl), ?_, ?_⟩
  · rw [hal, ← halarm]
    exact List.length_set
  · rw [message_of_messages (congrArg AlarmShared.messages hal)]
    exact message_setMessage_same _ (by rw [halarm]; exact hi)

/-- A chunk that fails on one mast of two in Tandem is written again from the other (R579). -/
theorem storeFailure_rewrites (m : Mast) (c : Nat) (hi : i < s.alarm.messages.length) (htan : s.inTandem = true)
    (hheld : s.writesHeld m = false) : (s.storeFailure m i c false).alarm.messages.length = s.alarm.messages.length ∧
    (s.storeFailure m i c false).message i = { s.message i with
      badA := (s.message i).badA.filter (fun x => x != c), badB := (s.message i).badB.filter (fun x => x != c) } := by
  have hrep : Keeps 1536 s (s.report m 0xB2 (0xB0000000 + 64 * c + i)) := chunkReport_keeps (.inl rfl)
  unfold State.storeFailure
  dsimp only
  generalize s.report m 0xB2 (0xB0000000 + 64 * c + i) = y at hrep
  have halarm : y.alarm = s.alarm := Keeps_same hrep .alarm rfl
  rw [if_neg (by simp [htan]), if_neg (by rw [hheld]; exact Bool.false_ne_true)]
  have hev (x : Message) := event_keeps m.code evMessageCheck (be 1 i ++ be 1 0 ++ be 2 c) (keeps_refl 96 (y.setMessage i x)) rfl
  have hal := fun x => Keeps_same (hev x) .alarm rfl
  refine ⟨?_, ?_⟩
  · rw [hal, ← halarm]
    exact List.length_set
  · rw [message_of_messages (congrArg AlarmShared.messages (hal _))]
    exact message_setMessage_same _ (by rw [halarm]; exact hi)

theorem storeCheck_clean (hdue : s.checkDue m = true) : ∃ t, exec (.messageStoreCheck m []) s = .next t ∧
    t = { s with alarm := t.alarm, alm := t.alm } ∧
    t.alm = s.alm.set m { s.alm.get m with checking := false, checkedAt := some s.now } ∧
    t.alarm = { s.alarm with messages := s.alarm.messages.map (fun x => if x.state = 1 then { x with checked := s.md.nest.rtc } else x) } := by
  rw [exec_storeCheck _ hdue]
  refine ⟨_, rfl, rfl, rfl, ?_⟩
  have hmap : (List.range s.alarm.messages.length).map (fun i =>
      if (s.message i).state = 1 then { s.message i with checked := s.md.nest.rtc } else s.message i) =
      s.alarm.messages.map (fun x => if x.state = 1 then { x with checked := s.md.nest.rtc } else x) := by
    refine List.ext_getElem (by simp) fun j hj hk => ?_
    have hget : s.message j = s.alarm.messages[j]'(by simpa using hk) := atD_of_getElem? (List.getElem?_eq_getElem _)
    simp [hget]
  exact congrArg (fun l => { s.alarm with messages := l }) hmap

/-! ### Alarm streams (R584) -/

theorem lead_captain (h : s.inTandem = true) : s.isCaptain s.lead = true := by
  unfold State.inTandem at h
  rcases Bool.or_eq_true _ _ |>.mp h with h | h
  · obtain ⟨ha, hb⟩ : s.tst .a = .captain ∧ s.tst .b = .stoker := by simpa using h
    have hcap : s.captain = some .a := by simp [State.captain, ha, hb]
    rw [lead_of_captain hcap]
    exact decide_eq_true ha
  · obtain ⟨hb, ha⟩ : s.tst .b = .captain ∧ s.tst .a = .stoker := by simpa using h
    have hcap : s.captain = some .b := by simp [State.captain, ha, hb]
    rw [lead_of_captain hcap]
    exact decide_eq_true hb

theorem alarmMasts_lead (h : s.inTandem = true) (hup : s.tan.stay.up = true) : s.alarmMasts s.lead = bothMasts :=
  if_pos (by rw [lead_captain h, hup, h]; rfl)

theorem assign_assigned (a : AlarmMast) (c : Assigned) : (a.assign c).assigned = a.assigned ++ [c] := by
  unfold AlarmMast.assign
  split <;> rfl

theorem assignAlarm_both (c : Assigned) (k : Mast) :
    ((s.assignAlarm bothMasts c).alm.get k).assigned = (s.alm.get k).assigned ++ [c] := by
  unfold bothMasts
  rw [assignAlarm_cons, assignAlarm_one]
  cases k with
  | a => rw [setAlm_alm_ne _ (by decide), setAlm_alm, assign_assigned]
  | b => rw [setAlm_alm, assign_assigned, setAlm_alm_ne _ (by decide)]

/-- With a locked timebase an accepted message is accepted in any case, and one refused without it in any case. -/
theorem streamAccepts_any {n tai : Nat} {p : List Byte} {sig : Bool} (b : Bool) :
    (s.streamAccepts n p sig true tai = true → s.streamAccepts n p sig b tai = true) ∧
      (s.streamAccepts n p sig false tai = false → s.streamAccepts n p sig b tai = false) := by
  unfold State.streamAccepts
  cases b
  · refine ⟨fun h => ?_, id⟩
    rw [Bool.and_eq_true] at h
    rw [h.1]
    rfl
  · refine ⟨id, fun h => ?_⟩
    rw [Bool.and_eq_false_iff] at h
    rw [h.resolve_right (by simp), Bool.false_and]

/-- Stream `n` keeps the time and the counter of a message. -/
def State.heardStream (s : State) (n : Nat) (p : List Byte) : State :=
  let x : AlarmStream := { atD s.alarm.streams n { state := 0, lastAt := none, silent := false } with lastAt := some s.now, silent := false }
  { s with alarm := { s.alarm with streams := setAt s.alarm.streams n x },
           md := { s.md with nest := { s.md.nest with streamCounters := setAt s.md.nest.streamCounters n (fld p 4 8) } } }

/-- A state of stream `n` that is not what it is to have is assigned. -/
def State.streamTurns (s : State) (n own st : Nat) : State :=
  if ((s.alm.get s.lead).assigned.filter (fun a => a.input == 8 + n)).foldl (fun _ a => a.state) own = st then s
  else s.assignAlarm (s.alarmMasts s.lead) { input := 8 + n, state := st, step := s.step + s.fence + 2, since := s.now }

/-- An accepted message of a stream (R584). -/
theorem streamMessage_accepted {n tai : Nat} {r : RtpFacts} {p : List Byte} {sig : Bool} (hn : n < s.alarm.streams.length)
    (hserves : s.serves m = true) (hok : s.streamAccepts n p sig true tai = true) :
    let x := atD s.alarm.streams n { state := 0, lastAt := none, silent := false }
    ∃ t, exec (.alarmStreamMessage m n r p sig tai) s = .next t ∧
      t.alarm.streams[n]? = some { x with lastAt := some s.now, silent := false } ∧
      t.md = { s.md with nest := { s.md.nest with streamCounters := setAt s.md.nest.streamCounters n (fld p 4 8) } } ∧
      (s.inTandem = true → s.tan.stay.up = true → x.state ≠ fld p 3 1 →
        (∀ a ∈ (s.alm.get s.lead).assigned, a.input ≠ 8 + n) → ∀ k, (t.alm.get k).assigned =
          (s.alm.get k).assigned ++ [{ input := 8 + n, state := fld p 3 1, step := s.step + s.fence + 2, since := s.now }]) := by
  intro x
  change ∃ t, execAlarmStreamMessage m n r p sig tai s = .next t ∧ _
  unfold execAlarmStreamMessage
  dsimp only
  rw [if_neg (by rw [hserves]; exact Bool.false_ne_true), if_neg (by rw [(streamAccepts_any _).1 hok]; exact Bool.false_ne_true)]
  have hkeep : Keeps 96 (s.heardStream n p) (if x.silent = true then
      (s.heardStream n p).event 2 evAlarmInput (be 1 (8 + n) ++ be 1 (fld p 3 1) ++ zeros 2) else s.heardStream n p) := by
    split
    · exact event_keeps _ _ _ (keeps_refl 96 _) rfl
    · exact keeps_refl _ _
  change ∃ t, Outcome.next (State.streamTurns (if x.silent = true then
      (s.heardStream n p).event 2 evAlarmInput (be 1 (8 + n) ++ be 1 (fld p 3 1) ++ zeros 2) else s.heardStream n p) n x.state (fld p 3 1)) =
    .next t ∧ _
  generalize (if x.silent = true then (s.heardStream n p).event 2 evAlarmInput (be 1 (8 + n) ++ be 1 (fld p 3 1) ++ zeros 2)
    else s.heardStream n p) = u at hkeep
  have halarm : u.alarm = (s.heardStream n p).alarm := Keeps_same hkeep .alarm rfl
  have hmd : u.md = (s.heardStream n p).md := Keeps_same hkeep .md rfl
  have halm : u.alm = s.alm := Keeps_same hkeep .alm rfl
  have htan : u.tan = s.tan := Keeps_same hkeep .tan rfl
  have hstep : u.step = s.step := Keeps_same hkeep .step rfl
  have hnow : u.now = s.now := Keeps_same hkeep .now rfl
  have hturn : Keeps 8388608 u (u.streamTurns n x.state (fld p 3 1)) := by
    unfold State.streamTurns
    split
    · exact keeps_refl _ u
    · exact assignAlarm_keeps _ _ (keeps_refl 8388608 u) rfl
  refine ⟨_, rfl, ?_, ?_, fun htandem hup hne hno k => ?_⟩
  · rw [Keeps_same hturn .alarm rfl, halarm]
    exact List.getElem?_set_self hn
  · rw [Keeps_same hturn .md rfl, hmd]
    rfl
  · have hin : u.inTandem = true := (inTandem_of_tan htan).trans htandem
    have hnone : (s.alm.get s.lead).assigned.filter (fun a => a.input == 8 + n) = [] :=
      List.filter_eq_nil_iff.mpr fun a ha => by simpa using hno a ha
    have hfence : u.fence = s.fence := by rw [State.fence, State.pairedSystem, htan]; rfl
    unfold State.streamTurns
    rw [halm, lead_of_tan htan, hnone, List.foldl_nil, if_neg hne, ← lead_of_tan htan, alarmMasts_lead hin (by rw [htan]; exact hup),
      assignAlarm_both, hfence, hstep, hnow, halm]

/-- Settles O36: plays, chunks and checks message by message, streams activation by activation. -/
theorem messagesAndStreams : Obligations.MessagesAndStreams := by
  unfold Obligations.MessagesAndStreams
  refine ⟨fun m i s hi => ⟨fun x rest htests => ?_, fun st k hst hne hk hend => ?_, fun hst c => ⟨fun htan => ?_, chunkFails hst hi c,
    fun hdue => ?_, fun hdue htan hheld => ?_⟩, storeCheck_clean⟩, fun m n r p sig tai s hn hlen => ?_⟩
  · change ∃ t, execFallbackTestDone s = .next t ∧ _
    unfold execFallbackTestDone
    rw [htests]
    have honly := eventTo_only ({ s with alarm := { s.alarm with tests := rest } } : State) x.seat x.mast.code evTestDone x.hostSeq s.step
      (be 1 1 ++ be 1 0 ++ be 2 x.output ++ be 4 0)
    have halarm : (({ s with alarm := { s.alarm with tests := rest } } : State).eventTo x.seat x.mast.code evTestDone x.hostSeq s.step
      (be 1 1 ++ be 1 0 ++ be 2 x.output ++ be 4 0)).alarm = { s.alarm with tests := rest } := by rw [honly.rest]
    exact ⟨_, rfl, halarm, by rw [halarm]; exact honly⟩
  · have hends : s.playEnds (s.dp.get m) i = true := by
      unfold State.playEnds
      rw [hst]
      have hpos : 0 < k * s.playSteps i := Nat.mul_pos (Nat.pos_of_ne_zero hk) (Nat.pos_of_ne_zero hne)
      have hsub : s.step + 1 - st = k * s.playSteps i := by omega
      simp [hne, hsub]
      omega
    rw [exec_playBoundary hends]
    have hplayed : ((s.atStep (s.step + 1) (fun x => ({ x with dp := x.dp.map (fun d => if !s.playEnds d i then d else d.played i (s.step + 1)) } :
        State).alarmChanged)).dp.get m).acts = ((s.dp.get m).played i (s.step + 1)).acts := by
      unfold State.atStep
      refine (alarmChanged_actsKept m).trans ?_
      dsimp only
      rw [Both_get_map, if_neg (by rw [hends]; exact Bool.false_ne_true)]
    refine ⟨_, rfl, rfl, fun a ha hkind hidx htrig hstart hrep => ?_, fun a ha hkind hidx htrig hstart hrep => ?_⟩
    · rw [hplayed]
      exact mem_played ha (by simp [Activation.counts, hkind, hidx, htrig, hstart]) hrep
    · rw [hplayed] at ha
      exact plays_of_played ha (by simp [Activation.counts, hkind, hidx, htrig, hstart]) hrep
  · change execMessageChunkFailure m i c false s = _
    unfold execMessageChunkFailure
    dsimp only
    rw [if_neg (by simp [hst]), if_pos (by simp [htan])]
  · obtain ⟨hmd, hlen, hmsg⟩ := storeFailure_both m c hi
    obtain ⟨t, hexec, ht⟩ := storeCheck_one (both := true) hdue hst (by rw [hlen]; exact hi)
    exact ⟨t, hexec, by rw [ht, hmsg], by rw [ht, hmd]⟩
  · obtain ⟨hlen, hmsg⟩ := storeFailure_rewrites m c hi htan hheld
    obtain ⟨t, hexec, ht⟩ := storeCheck_one (both := false) hdue hst (by rw [hlen]; exact hi)
    refine ⟨t, hexec, by rw [ht, hmsg]; exact hst, ?_, ?_⟩
    · rw [ht, hmsg]
      simp
    · rw [ht, hmsg]
      simp
  · intro x
    refine ⟨streamMessage_accepted hn, fun hserves hno => ?_, fun hsilent hdue hitem => ?_⟩
    · change execAlarmStreamMessage m n r p sig tai s = _
      unfold execAlarmStreamMessage
      dsimp only
      rw [if_neg (by rw [hserves]; exact Bool.false_ne_true), if_pos (by rw [(streamAccepts_any _).2 hno]; rfl)]
    · have hx : s.alarm.streams[n]? = some x := by
        rw [List.getElem?_eq_getElem hn]
        exact congrArg some (atD_of_getElem? (List.getElem?_eq_getElem hn)).symm
      have honly := event_only ({ s with alarm := { s.alarm with streams := setAt s.alarm.streams n { x with silent := true } } } : State)
        2 evAlarmInput (be 1 (8 + n) ++ be 1 2 ++ zeros 2)
      have halarm : (({ s with alarm := { s.alarm with streams := setAt s.alarm.streams n { x with silent := true } } } : State).event
        2 evAlarmInput (be 1 (8 + n) ++ be 1 2 ++ zeros 2)).alarm =
          { s.alarm with streams := setAt s.alarm.streams n { x with silent := true } } := by rw [honly.rest]
      change ∃ t, execAlarmStreamSilence n s = .next t ∧ _
      unfold execAlarmStreamSilence
      rw [hx]
      dsimp only
      rw [if_neg (by simp [hsilent, hdue, Option.isSome_iff_ne_none.mp hitem])]
      exact ⟨_, rfl, halarm, by rw [halarm]; exact honly⟩

end Sys2Proof.Machine

/-! # O46: memory faults (R248 to R250, R497 to R503, R519 to R521, R529, R581) -/
namespace Sys2Proof.Machine
open Host Sys2Proof

variable {s t u : State} {m k : Mast}

/-! ### What a report leaves of the other counters -/

theorem queueReport_reads_beside (s : State) (m k : Mast) (r : QueuedReport) {j : Nat} (hj : j ≠ 0x0101) :
    ((s.queueReport m r).ct k).read j = (s.ct k).read j := by
  unfold State.queueReport
  dsimp only
  split
  · exact ct_bump_ne _ _ _ _ hj
  · rfl

theorem closeBurst_reads_beside (s : State) (m k : Mast) (src : Nat) {j : Nat} (hj : j ≠ 0x0101) :
    ((s.closeBurst m src).ct k).read j = (s.ct k).read j := by
  unfold State.closeBurst
  split
  · rfl
  · dsimp only
    split
    · rfl
    · exact queueReport_reads_beside _ _ _ _ hj

theorem collect_reads_beside (s : State) (m k : Mast) (src site level : Nat) (i : ReportInfo) {j : Nat} (hq : j ≠ 0x0101)
    (hc : j ≠ 0x0102) : ((s.collect m src site level false i).ct k).read j = (s.ct k).read j := by
  unfold State.collect
  rw [if_neg Bool.false_ne_true]
  split
  · unfold State.coalesce
    dsimp only
    rw [ct_bump_ne _ _ _ _ hc, ct_setFl]
  · unfold State.openBurst
    dsimp only
    rw [queueReport_reads_beside _ _ _ _ hq, ct_setFl, closeBurst_reads_beside _ _ _ _ hq]

/-! ### A row and its site (R485) -/

/-- The site of a row of a memory. -/
def rowSiteOf (memory bank row : Nat) : Nat := 0x30000000 + memory * 2 ^ 20 + bank * 2 ^ 16 + row

theorem rowSiteOf_parts {memory bank row : Nat} (hm : memory ≤ 0x30) (hb : bank < 16) (hr : row < 65536) :
    siteKind (rowSiteOf memory bank row) = 3 ∧ bitsOf (rowSiteOf memory bank row) 25 20 = memory ∧
      bitsOf (rowSiteOf memory bank row) 19 16 = bank ∧ rowSiteOf memory bank row % 65536 = row := by
  unfold siteKind bitsOf rowSiteOf
  omega

theorem retiredSource_plain (memory : Nat) : knownSource (retiredSource memory) = true ∧ datapathSource (retiredSource memory) = false ∧
    namesTest (retiredSource memory) = false ∧ packageSource (retiredSource memory) = false ∧ retiredSource memory < 0x0100 ∧
    ∀ s : State, ∀ m site late, s.classOf m (retiredSource memory) site late = some 2 := by
  unfold retiredSource
  repeat' split
  · exact ⟨rfl, rfl, rfl, rfl, by decide, fun _ _ _ _ => rfl⟩
  · exact ⟨rfl, rfl, rfl, rfl, by decide, fun _ _ _ _ => rfl⟩
  · exact ⟨rfl, rfl, rfl, rfl, by decide, fun _ _ _ _ => rfl⟩

/-- A repair's report of a source that has no report behind it is counted and collected (R488, R499). -/
theorem repairReport_retired {memory site : Nat} {cap : Bool} (hregs : (s.fl m).regs.find (retiredSource memory) = none) :
    s.repairReport m (retiredSource memory) site cap = (s.bump m (retiredSource memory) 1).collect m (retiredSource memory) site 2 false
      { ReportInfo.plain s.step with lasting := true, capacity := cap } := by
  obtain ⟨hknown, hdata, htest, hpack, -, hclass⟩ := retiredSource_plain memory
  have hrep : (s.bump m (retiredSource memory) 1).repeats m (retiredSource memory) site 2 = false := by
    unfold State.repeats
    rw [fl_bump, hregs]
  unfold State.repairReport State.reportCore State.startTest State.react
  rw [hknown, hclass]
  dsimp only
  rw [hpack, htest, hdata]
  simp only [Bool.not_true, Bool.false_eq_true, if_false, hrep, Bool.and_false, Bool.false_and]
  rfl

/-! ### Scrubbing (R249, R519) -/

/-- A scrub reads the word of a memory that is powered. -/
theorem exec_scrubRead {memory bank row word : Nat} (hm : memory ≤ 0x30) (hon : memory < 0x24 → s.md.mixOn.get m = true)
    (hslack : memory < 0x24 ∨ 0x28 ≤ memory) (hne : memory ≠ 0x29) (hv : s.md.mode ≠ .vault) (hb : bank < 16) (hr : row < 65536) :
    exec (.scrubRead m memory bank row word) s = .next (s.readWord m memory bank row word) := by
  change execScrubRead m memory bank row word s = _
  unfold execScrubRead
  rw [Nat.mod_eq_of_lt hb, Nat.mod_eq_of_lt hr, if_neg ?_]
  have hslack' : ¬ (0x24 ≤ memory ∧ memory < 0x28) := by omega
  simp only [Bool.or_eq_true, Bool.and_eq_true, decide_eq_true_eq, beq_iff_eq, Bool.not_eq_true']
  rintro ((((h | h) | h) | h) | ⟨hlt, hoff⟩)
  · omega
  · exact hslack' h
  · exact hne h
  · exact hv h
  · rw [hon hlt] at hoff
    cases hoff

/-! ### Targeted tests (R497 to R499) -/

/-- The tests of a mast without those of a site. -/
def FaultState.untested (f : FaultState) (site : Nat) : FaultState := { f with tests := f.tests.filter (fun y => y.site != site) }

theorem exec_testResult {t0 : PendingTest} {passed : Bool} (h : (s.fl m).tests.find? (fun t => t.site == t0.site) = some t0)
    (h5 : siteKind t0.site ≠ 5) : exec (.targetedTestResult m t0.site passed) s = .next (s.testResult m t0 passed) := by
  change execTargetedTestResult m t0.site passed s = _
  unfold execTargetedTestResult
  rw [h]
  exact congrArg Outcome.next (if_neg h5)

theorem remember_leaves (f : FaultState) (site now : Nat) : (f.remember site now).1.tests = f.tests ∧
    (site, now) ∈ (f.remember site now).1.history := by
  unfold FaultState.remember
  dsimp only
  split
  · exact ⟨rfl, List.mem_append_right _ (List.mem_singleton_self _)⟩
  · exact ⟨rfl, List.mem_append_right _ (List.mem_singleton_self _)⟩

/-- A test that passes, with no other pass at its site within 24 h, is a transient. -/
theorem testResult_transient (t0 : PendingTest)
    (h : ((s.fl m).history.any (fun h => h.1 == t0.site && decide (s.now ≤ h.2 + 86400 * Config.second))) = false) :
    Keeps 1536 s (s.testResult m t0 true) ∧
      ((s.testResult m t0 true).fl m).tests = (s.fl m).tests.filter (fun y => y.site != t0.site) ∧
      (t0.site, s.now) ∈ ((s.testResult m t0 true).fl m).history ∧
      ((s.testResult m t0 true).ct m).read 0x0106 = satAdd64 ((s.ct m).read 0x0106) 1 := by
  obtain ⟨htests, hmem⟩ := remember_leaves ((s.fl m).untested t0.site) t0.site s.now
  have heq : s.testResult m t0 true = if (((s.fl m).untested t0.site).remember t0.site s.now).2 then
      ((s.setFl m (((s.fl m).untested t0.site).remember t0.site s.now).1).bump m 0x0106 1).bump m 0x0108 1
      else (s.setFl m (((s.fl m).untested t0.site).remember t0.site s.now).1).bump m 0x0106 1 := by
    unfold State.testResult
    dsimp only
    rw [h]
    rfl
  rw [heq]
  generalize ((s.fl m).untested t0.site).remember t0.site s.now = r at htests hmem
  have hset : Keeps 1536 s ((s.setFl m r.1).bump m 0x0106 1) := bump_keeps _ _ _ (setFl_keeps _ _ (keeps_refl 1536 s) rfl) rfl
  have hcount : (((s.setFl m r.1).bump m 0x0106 1).ct m).read 0x0106 = satAdd64 ((s.ct m).read 0x0106) 1 := by
    rw [ct_bump_same, ct_setFl]
  split
  · refine ⟨bump_keeps _ _ _ hset rfl, ?_, ?_, ?_⟩
    · rw [fl_bump, fl_bump, fl_setFl]
      exact htests
    · rw [fl_bump, fl_bump, fl_setFl]
      exact hmem
    · rw [ct_bump_ne _ _ _ _ (by decide)]
      exact hcount
  · refine ⟨hset, ?_, ?_, hcount⟩
    · rw [fl_bump, fl_setFl]
      exact htests
    · rw [fl_bump, fl_setFl]
      exact hmem

/-- A new entry for a row that the map does not hold stands last. -/
theorem addRepair_fresh {x : MemMast} {memory bank sp row : Nat}
    (h : ∀ e ∈ x.repair, ¬ (e.typ = 1 ∧ e.memory = memory ∧ e.bank = bank ∧ e.index = row)) :
    (x.addRepair 1 memory bank sp row).repair = x.repair ++ [{ typ := 1, memory := memory, bank := bank, spare := sp, index := row, pending := true, inOtp := false, inNest := true }] := by
  have hold : ∀ e ∈ x.repair, (e.typ == 1 && e.memory == memory && e.bank == bank && e.index == row) = false := fun e he => by
    rw [Bool.eq_false_iff]
    intro hb
    exact h e he (by simpa [and_assoc] using hb)
  unfold MemMast.addRepair
  dsimp only
  congr 1
  rw [List.filter_eq_self.mpr (fun e he => by rw [hold e he]; rfl)]
  exact (List.map_congr_left fun e he => if_neg (by rw [hold e he]; exact Bool.false_ne_true)).trans (List.map_id _)

/-- A row whose bank has a free spare takes the lowest, and its copy begins (R499). -/
theorem retireRow_spare {memory bank row sp : Nat} (hm : memory ≤ 0x30) (hb : bank < 16) (hr : row < 65536)
    (hsp : (s.mem.get m).freeRow memory bank = some sp) (hregs : (s.fl m).regs.find (retiredSource memory) = none)
    (hnew : ∀ e ∈ (s.mem.get m).repair, ¬ (e.typ = 1 ∧ e.memory = memory ∧ e.bank = bank ∧ e.index = row)) :
    Keeps 4195840 s (s.retireRow m (rowSiteOf memory bank row)) ∧
      ((s.retireRow m (rowSiteOf memory bank row)).mem.get m).repair = (s.mem.get m).repair ++
        [{ typ := 1, memory := memory, bank := bank, spare := sp, index := row, pending := true, inOtp := false, inNest := true }] ∧
      ((s.retireRow m (rowSiteOf memory bank row)).ct m).read 0x0107 = (s.ct m).read 0x0107 := by
  obtain ⟨-, hmem, hbank, hrow⟩ := rowSiteOf_parts hm hb hr
  obtain ⟨-, -, -, -, hlt, -⟩ := retiredSource_plain memory
  unfold State.retireRow
  dsimp only
  rw [hmem, hbank, hrow, hsp]
  dsimp only
  generalize hx : ({ (s.mem.get m).addRepair 1 memory bank sp row with rowsSpared := (s.mem.get m).rowsSpared + 1 } : MemMast) = x
  have hrepair : x.repair = (s.mem.get m).repair ++
      [{ typ := 1, memory := memory, bank := bank, spare := sp, index := row, pending := true, inOtp := false, inNest := true }] := by
    rw [← hx]
    exact addRepair_fresh hnew
  have hbanks : x.banks = (s.mem.get m).banks := by
    rw [← hx]
    rfl
  generalize hy : (s.setMem m x).setFl m _ = y
  have hyfl : (y.fl m).regs = (s.fl m).regs := by
    rw [← hy, fl_setFl]
    rfl
  have hymem : y.mem.get m = x := by
    rw [← hy]
    exact Both_get_set ..
  have hyct : (y.ct m) = s.ct m := by rw [← hy]; rfl
  have hykeep : Keeps 4195840 s y := by
    rw [← hy]
    exact setFl_keeps _ _ (setMem_keeps m x (keeps_refl 4195840 s) rfl hbanks) rfl
  rw [repairReport_retired (by rw [hyfl]; exact hregs)]
  have hbump := bump_keeps m (retiredSource memory) 1 (keeps_refl 1536 y) rfl
  have hcol := collect_keeps m (retiredSource memory) (rowSiteOf memory bank row) 2 false
    { ReportInfo.plain y.step with lasting := true, capacity := false } hbump rfl
  refine ⟨keeps_trans hykeep (keeps_mono hcol rfl), ?_, ?_⟩
  · rw [Keeps_same hcol .mem rfl, hymem, hrepair]
  · rw [collect_reads_beside _ _ _ _ _ _ _ (by decide) (by decide), ct_bump_ne _ _ _ _ (by omega), hyct]

/-- A test that fails is lasting: its newest log entry says so, and the repair follows. -/
theorem testResult_lasting (t0 : PendingTest) : ∃ u : State, Keeps 1536 s u ∧ (u.fl m).regs = (s.fl m).regs ∧
    (u.ct m).read 0x0107 = satAdd64 ((s.ct m).read 0x0107) 1 ∧ s.testResult m t0 false = u.repair m t0.site := by
  refine ⟨(s.setFl m { (s.fl m).untested t0.site with log := markLasting t0.source t0.site (s.fl m).log }).bump m 0x0107 1,
    bump_keeps _ _ _ (setFl_keeps _ _ (keeps_refl 1536 s) rfl) rfl, ?_, ?_, rfl⟩
  · rw [fl_bump, fl_setFl]
    rfl
  · rw [ct_bump_same, ct_setFl]

/-! ### A march that finds nothing (R526) -/

theorem assignSpares_none (d : Bool) (x : MemMast) : assignSpares d [] x = (x, 0, []) := rfl

theorem marchWipe_leaves (target index : Nat) : ((s.marchWipe m target index).mem.get m).march = (s.mem.get m).march ∧
    ((s.marchWipe m target index).mem.get m).repair = (s.mem.get m).repair := by
  have hrows (u : State) (w : Nat → Bool) : (u.wipeRows m w).mem = u.mem := Keeps_same (wipeRows_keeps m w (keeps_refl 1536 u) rfl) .mem rfl
  unfold State.marchWipe
  split
  · unfold State.setBank State.setMem State.wipeBank
    dsimp only
    rw [Both_get_set, hrows]
    exact ⟨rfl, rfl⟩
  · split
    · dsimp only
      rw [hrows]
      exact ⟨rfl, rfl⟩
    · dsimp only [State.setDp]
      rw [hrows]
      exact ⟨rfl, rfl⟩

theorem setMem_self (s : State) (m : Mast) : s.setMem m (s.mem.get m) = s := by
  unfold State.setMem
  cases m <;> rfl

/-- Settles O46: each fault by what the test of its row finds. -/
theorem memoryFaultsAct : Obligations.MemoryFaultsAct := by
  unfold Obligations.MemoryFaultsAct
  intro m s x
  refine ⟨fun memory bank row word hm hon hslack hne hv hb hr => ?_, fun t0 hfind => ⟨fun h5 hpast => ?_, ?_⟩, fun site => rfl,
    fun i e hheld hidx he => ⟨fun hroom => ?_, fun hfull hwait => ?_⟩, fun y hfind => ?_, fun hrail hrec => ?_, fun p hon hp => ?_⟩
  · intro site
    rw [exec_scrubRead hm hon hslack hne hv hb hr]
    unfold State.readWord
    refine ⟨fun hc => by rw [hc], fun w hc => by rw [hc], fun hc => by rw [hc]⟩
  · obtain ⟨hkeep, htests, hmem, hcount⟩ := testResult_transient (m := m) t0 hpast
    exact ⟨_, exec_testResult hfind h5, eq_of_keeps_log hkeep, htests, hmem, hcount⟩
  · intro memory bank row sp hsite hm hb hr hsp hregs hnew
    have hsite : t0.site = rowSiteOf memory bank row := hsite
    obtain ⟨hkind, -, -, -⟩ := rowSiteOf_parts hm hb hr
    obtain ⟨u, hkeep, huregs, hcount, heq⟩ := testResult_lasting (s := s) (m := m) t0
    have humem : u.mem.get m = x := by rw [Keeps_same hkeep .mem rfl]
    obtain ⟨hret, hrepair, hread⟩ := retireRow_spare (s := u) (m := m) hm hb hr (by rw [humem]; exact hsp) (by rw [huregs]; exact hregs)
      (by rw [humem]; exact hnew)
    have hrep : u.repair m t0.site = u.retireRow m (rowSiteOf memory bank row) := by
      unfold State.repair
      rw [hsite, hkind]
      rfl
    refine ⟨_, exec_testResult hfind (by rw [hsite, hkind]; decide), ?_, ?_, ?_⟩
    · rw [heq, hrep]
      exact eq_pick_of_keeps (keeps_trans (keeps_mono hkeep rfl) hret)
    · rw [heq, hrep, hrepair, humem]
    · rw [heq, hrep, hread, hcount]
  · change execOtpRepairWrite m s = _
    unfold execOtpRepairWrite
    dsimp only
    rw [if_neg (by rw [hheld]; exact Bool.false_ne_true), hidx]
    dsimp only
    rw [if_neg (show ¬ _ ≥ repairLimit from Nat.not_le.mpr hroom), he]
  · change execOtpRepairWrite m s = _
    unfold execOtpRepairWrite
    dsimp only
    rw [if_neg (by rw [hheld]; exact Bool.false_ne_true), hidx]
    dsimp only
    rw [if_pos (show _ ≥ repairLimit from hfull), if_pos hwait]
  · intro rest
    generalize hz : s.setMem m { x with march := rest } = z
    have hzmem : (z.mem.get m) = { x with march := rest } := by
      rw [← hz]
      exact Both_get_set ..
    generalize hw : (if y.destroying then z.marchWipe m y.target y.index else z) = w
    have hwmem : (w.mem.get m).march = rest ∧ (w.mem.get m).repair = x.repair := by
      rw [← hw]
      split
      · obtain ⟨hmarch, hrepair⟩ := marchWipe_leaves (s := z) (m := m) y.target y.index
        rw [hmarch, hrepair, hzmem]
        exact ⟨rfl, rfl⟩
      · rw [hzmem]
        exact ⟨rfl, rfl⟩
    have hexec : exec (.marchDone m y.target y.index [] [] false) s = .next (w.eventTo y.seat m.code evTestDone y.hostSeq w.step
        (be 1 0 ++ be 1 0 ++ be 2 (y.target * 256 + y.index % 256) ++ be 4 0)) := by
      change execMarchDone m y.target y.index [] [] false s = _
      unfold execMarchDone
      rw [hfind]
      dsimp only
      rw [hz, hw]
      simp only [List.filter_nil, assignSpares_none, ite_self, setMem_self]
      rfl
    have hmem : (w.eventTo y.seat m.code evTestDone y.hostSeq w.step
        (be 1 0 ++ be 1 0 ++ be 2 (y.target * 256 + y.index % 256) ++ be 4 0)).mem = w.mem :=
      Keeps_same (eventTo_keeps _ _ _ _ _ _ (keeps_refl 96 w) rfl) .mem rfl
    refine ⟨_, hexec, by rw [hmem]; exact hwmem.1, by rw [hmem]; exact hwmem.2, fun hmild => ?_⟩
    rw [hmild, if_neg Bool.false_ne_true] at hw
    rw [← hw, ← hz]
    rfl
  · intro u
    have hdue : (!((s.sup.get m).rails.any (fun r => r.recoveredAt.isSome) && !s.railHold m)) = false := by rw [hrail, hrec]; rfl
    refine ⟨?_, ?_⟩
    · change execWriteHoldoffEnd m false s = _
      unfold execWriteHoldoffEnd
      dsimp only
      rw [if_neg (by rw [hdue]; exact Bool.false_ne_true), if_neg Bool.false_ne_true]
    · change execWriteHoldoffEnd m true s = _
      unfold execWriteHoldoffEnd
      dsimp only
      rw [if_neg (by rw [hdue]; exact Bool.false_ne_true), if_pos rfl]
  · change execFallbackMemoryCheck m false true s = _
    unfold execFallbackMemoryCheck
    rw [if_neg (by rw [hon]; decide), hp]
    rfl

end Sys2Proof.Machine

/-! # O48: network audio (R49 to R52, R91, R324 to R328, R343, R354, R355, R388) -/
namespace Sys2Proof.Machine
open Host Sys2Proof

variable {s t u : State} {m k : Mast}

/-! ### The state of a port (R343) -/

/-- The report of a port replaced. -/
def AudioMast.setReport (a : AudioMast) (cls idx : Nat) (r : PortReport) : AudioMast :=
  { a with reports := a.reports.put (portKey cls idx) r }

theorem report_setReport (a : AudioMast) (cls idx : Nat) (r : PortReport) : (a.setReport cls idx r).report cls idx = r := by
  unfold AudioMast.report AudioMast.setReport Assoc.getD
  dsimp only
  rw [Assoc_find_put]
  rfl

theorem raisePort_aud (s : State) (m : Mast) (cls idx : Nat) : (s.raisePort m cls idx).aud =
    s.aud.set m ((s.aud.get m).setReport cls idx { (s.aud.get m).report cls idx with last := some s.now, held := false }) := by
  unfold State.raisePort
  dsimp only
  rw [Keeps_same (event_keeps _ _ _ (keeps_refl 96 _) rfl) .aud rfl]
  rfl

theorem setAud_aud (s : State) (m : Mast) (a : AudioMast) : (s.setAud m a).aud.get m = a := Both_get_set ..

theorem setAud_aud_ne (s : State) (a : AudioMast) (h : k ≠ m) : (s.setAud m a).aud.get k = s.aud.get k := Both_get_set_ne _ _ h

theorem raisePort_setReport (s : State) (m : Mast) (cls idx : Nat) (r : PortReport) :
    ((s.setAud m ((s.aud.get m).setReport cls idx r)).raisePort m cls idx).aud = s.aud.set m
      (((s.aud.get m).setReport cls idx r).setReport cls idx { r with last := some s.now, held := false }) := by
  rw [raisePort_aud, setAud_aud, report_setReport]
  cases m <;> rfl

/-- The audio state of a mast beside its port reports, as far as its streams and captures go. -/
structure AudioMast.SameInputs (a b : AudioMast) : Prop where
  rx : b.rx = a.rx
  forwards : b.forwards = a.forwards
  notices : b.notices = a.notices
  aesIn : b.aesIn = a.aesIn
  sdi : b.sdi = a.sdi

/-- A change of a port's state touches the port reports of its mast only, and ends in that state. -/
theorem portState_leaves (s : State) (m : Mast) (cls idx st : Nat) : ∃ a : AudioMast,
    (s.portState m cls idx st).aud = s.aud.set m a ∧ (a.report cls idx).state = st ∧ (s.aud.get m).SameInputs a := by
  have hraise := raisePort_setReport s m cls idx { (s.aud.get m).report cls idx with state := st }
  unfold State.portState
  dsimp only
  split
  · next h => exact ⟨s.aud.get m, by cases m <;> rfl, h, rfl, rfl, rfl, rfl, rfl⟩
  · split
    · split
      · refine ⟨((s.aud.get m).setReport cls idx { (s.aud.get m).report cls idx with state := st }).setReport cls idx
          { (s.aud.get m).report cls idx with state := st, held := true }, ?_, by rw [report_setReport], rfl, rfl, rfl, rfl, rfl⟩
        cases m <;> rfl
      · exact ⟨_, hraise, by rw [report_setReport], rfl, rfl, rfl, rfl, rfl⟩
    · exact ⟨_, hraise, by rw [report_setReport], rfl, rfl, rfl, rfl, rfl⟩

/-- What the streams of a mast hold, and what it has asked for and queued, a change of a port's state leaves. -/
theorem portState_streams (s : State) (m k : Mast) (cls idx st : Nat) :
    (s.aud.get k).SameInputs ((s.portState m cls idx st).aud.get k) := by
  obtain ⟨a, haud, -, hsame⟩ := portState_leaves s m cls idx st
  rw [haud]
  by_cases hk : k = m
  · subst hk
    rw [Both_get_set]
    exact hsame
  · rw [Both_get_set_ne _ _ hk]
    exact ⟨rfl, rfl, rfl, rfl, rfl⟩

theorem portState_state (s : State) (m : Mast) (cls idx st : Nat) : (((s.portState m cls idx st).aud.get m).report cls idx).state = st := by
  obtain ⟨a, haud, hst, -⟩ := portState_leaves s m cls idx st
  rw [haud, Both_get_set]
  exact hst

theorem portState_ct (s : State) (m k : Mast) (cls idx st : Nat) : (s.portState m cls idx st).ct k = s.ct k := by
  unfold State.ct
  rw [Keeps_same (portState_keeps m cls idx st (keeps_refl 32864 s) rfl) .ctr rfl]

/-! ### Streams -/

theorem rxOf_of_aud {j : Nat} (h : (t.aud.get m).rx = (s.aud.get m).rx) : t.rxOf m j = s.rxOf m j := by
  unfold State.rxOf
  rw [h]

theorem rxOf_setRx (s : State) (m : Mast) (st : Nat) (x : RxStream) : (s.setRx m st x).rxOf m st = some x := by
  unfold State.rxOf State.setRx
  dsimp only [State.setAud]
  rw [Both_get_set]
  exact Assoc_find_put ..

theorem enter_held {x : RxStream} {internal n : Nat} {p : HeldPacket} (h : n ≤ x.lastStep internal p) :
    p ∈ (x.enter internal n p).held ∧ (x.enter internal n p).missing = 0 := by
  unfold RxStream.enter
  rw [if_neg (Nat.not_lt.mpr h)]
  dsimp only
  split
  · split
    · exact ⟨List.mem_append_right _ (List.mem_singleton_self p), rfl⟩
    · exact ⟨List.mem_append_right _ (List.mem_singleton_self p), rfl⟩
  · exact ⟨List.mem_append_right _ (List.mem_singleton_self p), rfl⟩

theorem receive_leaves (x : RxStream) (p : HeldPacket) : (x.receive p).held = x.held ∧ (x.receive p).missing = x.missing := by
  unfold RxStream.receive
  split
  · exact ⟨rfl, rfl⟩
  · exact ⟨rfl, rfl⟩

/-! ### A packet arrives (R49, R324 to R328, R354, R355, R388) -/

/-- A frame that a port hears, once counted. -/
def State.counted (s : State) (m : Mast) (port : Nat) : State := s.bump m (0x0400 + 8 * port + 7) 1

theorem exec_audioPacketRx_bad {r : RtpFacts} {samples : List (List Int)} {est : Nat} (hh : s.hears m r.frame.port = true)
    (hb : s.frameBad m r.frame = true) : exec (.audioPacketRx m r samples est) s =
      .next ((s.counted m r.frame.port).bump m (0x0400 + 8 * r.frame.port + 4) 1) := by
  change execAudioPacketRx m r samples est s = _
  unfold execAudioPacketRx
  rw [if_neg (by rw [hh]; decide), if_pos hb]
  exact congrArg Outcome.next (if_pos hb)

theorem exec_audioPacketRx_good {r : RtpFacts} {samples : List (List Int)} {est : Nat} (hh : s.hears m r.frame.port = true)
    (hb : s.frameBad m r.frame = false) : exec (.audioPacketRx m r samples est) s = .next (match (s.vid.get m).lookup r with
      | none => (s.counted m r.frame.port).flowMiss m r
      | some (i, e) => if e.typ ≠ 3 then s else (s.counted m r.frame.port).audioPacket m i (e.owner - 0x8000) r samples est) := by
  have hcount : s.countFrame m r.frame = s.counted m r.frame.port := if_neg (by rw [hb]; decide)
  change execAudioPacketRx m r samples est s = _
  unfold execAudioPacketRx
  rw [if_neg (by rw [hh]; decide), if_neg (by rw [hb]; decide), hcount] <;> rfl

/-- A packet that is malformed, or one the stream holds, is only counted. -/
theorem audioPacket_counts {i st est : Nat} {r : RtpFacts} {samples : List (List Int)} {x : RxStream} (hx : s.rxOf m st = some x) :
    ((r.version ≠ 2 ∨ r.extras = true ∨ r.payloadLen ≠ x.samples * x.channels * (if x.l16 then 2 else 3)) →
      s.audioPacket m i st r samples est = (s.bump m (0x4000 + 2 * i) 1).bump m (sourceCounter 2 st + 3) 1) ∧
    (r.version = 2 → r.extras = false → r.payloadLen = x.samples * x.channels * (if x.l16 then 2 else 3) →
      x.holds (r.seq % 65536) (r.ts % 2 ^ 32) = true →
      s.audioPacket m i st r samples est = (s.bump m (0x4000 + 2 * i) 1).bump m 0x6001 1) := by
  unfold State.audioPacket
  rw [hx]
  dsimp only
  refine ⟨fun hbad => if_pos (by simpa [or_assoc, Classical.not_and_iff_not_or_not] using hbad), fun hv hext hlen hholds => (if_neg ?_).trans (if_pos hholds)⟩
  simp [hv, hext, hlen]

/-- The stream once it has a packet, with the estimate that an asynchronous one takes. -/
def RxStream.heard (x : RxStream) (captain : Bool) (internal n est : Nat) (p : HeldPacket) : RxStream :=
  let y := (x.enter internal n p).receive p
  if y.async then { y with feed := y.feed.noteEstimate captain n est } else y

theorem heard_held {x : RxStream} {internal n est : Nat} {p : HeldPacket} (captain : Bool) (h : n ≤ x.lastStep internal p) :
    p ∈ (x.heard captain internal n est p).held ∧ (x.heard captain internal n est p).missing = 0 := by
  obtain ⟨hheld, hmissing⟩ := receive_leaves (x.enter internal n p) p
  obtain ⟨hmem, hzero⟩ := enter_held h
  rw [← hheld] at hmem
  rw [← hmissing] at hzero
  unfold RxStream.heard
  dsimp only
  split
  · exact ⟨hmem, hzero⟩
  · exact ⟨hmem, hzero⟩

/-- A stream takes a packet: the gap before it is asked of the peer, and the port is in STATE 2. -/
def State.takeIn (s : State) (m : Mast) (st : Nat) (y : RxStream) (ask : Bool) (gap : List (Nat × Nat)) : State :=
  (if ask then (s.setRx m st y).setAud m (((s.setRx m st y).aud.get m).notice gap) else s.setRx m st y).portState m 2 st 2

theorem takeIn_leaves (s : State) (m : Mast) (st : Nat) (y : RxStream) (ask : Bool) (gap : List (Nat × Nat)) :
    (s.takeIn m st y ask gap).rxOf m st = some y ∧ (s.takeIn m st y ask gap).ct m = s.ct m ∧
      (((s.takeIn m st y ask gap).aud.get m).report 2 st).state = 2 := by
  unfold State.takeIn
  refine ⟨?_, ?_, portState_state ..⟩
  · rw [rxOf_of_aud (portState_streams _ m m 2 st 2).rx]
    split
    · rw [← rxOf_setRx s m st y, State.rxOf, setAud_aud]
      rfl
    · exact rxOf_setRx ..
  · rw [portState_ct]
    split
    · rfl
    · rfl

/-- A packet of a stream that is neither malformed, nor held, nor too early. -/
theorem audioPacket_taken {i st est : Nat} {r : RtpFacts} {samples : List (List Int)} {x : RxStream} (hx : s.rxOf m st = some x)
    (hv : r.version = 2) (hext : r.extras = false) (hlen : r.payloadLen = x.samples * x.channels * (if x.l16 then 2 else 3))
    (hnew : x.holds (r.seq % 65536) (r.ts % 2 ^ 32) = false)
    (hearly : x.async = true ∨ x.arrivalStep s.rate s.step (r.ts % 2 ^ 32) ≤ s.step + 2 * packetSteps s.rate x.samples x.hz) :
    ∃ b : Bool, s.audioPacket m i st r samples est = (if b then (s.bump m (0x4000 + 2 * i) 1).bump m 0x6001 1 else s.bump m (0x4000 + 2 * i) 1).takeIn
      m st (x.heard (s.assigns m) s.rate s.step est { seq := r.seq % 65536, ts := r.ts % 2 ^ 32, at' := s.step, samples := samples })
      s.sharing ((x.gap (r.seq % 65536)).map (fun q => (st, q))) := by
  have hgo : ¬ (!x.async && decide (s.step + x.linkOffset + 2 * packetSteps s.rate x.samples x.hz
      < x.arrivalStep s.rate s.step (r.ts % 2 ^ 32) + x.linkOffset)) = true := by
    rcases hearly with h | h
    · simp [h]
    · rw [Bool.and_eq_true, decide_eq_true_eq]
      exact fun ⟨_, hlt⟩ => absurd h (by omega)
  unfold State.audioPacket
  rw [hx]
  dsimp only
  rw [if_neg (by simp [hv, hext, hlen]), if_neg (by rw [hnew]; exact Bool.false_ne_true), if_neg hgo]
  exact ⟨_, rfl⟩

/-! ### The exchange between the masts (R49 to R52, R91, R328) -/

/-- A packet from elsewhere enters a stream that lacks it, in time (R50). -/
theorem enterForwarded_held {st : Nat} {p : HeldPacket} {x : RxStream} (hx : s.rxOf m st = some x) (hnew : x.holds p.seq p.ts = false)
    (hlate : s.step ≤ x.lastStep s.rate p) : ∃ y, (s.enterForwarded m st p).rxOf m st = some y ∧ p ∈ y.held ∧
      (∀ k, ((s.enterForwarded m st p).aud.get k).forwards = (s.aud.get k).forwards) ∧
      (st, p.seq) ∉ ((s.enterForwarded m st p).aud.get m).notices := by
  unfold State.enterForwarded
  rw [hx]
  dsimp only
  rw [if_neg (by rw [hnew]; exact Bool.false_ne_true)]
  generalize hz : s.setAud m { s.aud.get m with notices := (s.aud.get m).notices.filter (fun n => n != (st, p.seq)) } = z
  refine ⟨x.enter s.rate s.step p, ?_, (enter_held hlate).1, fun k => ?_, ?_⟩
  · rw [rxOf_of_aud (portState_streams _ m m 2 st 2).rx]
    exact rxOf_setRx ..
  · rw [(portState_streams _ m k 2 st 2).forwards]
    unfold State.setRx
    by_cases hk : k = m
    · subst hk
      rw [setAud_aud, ← hz, setAud_aud]
    · rw [setAud_aud_ne _ _ hk, ← hz, setAud_aud_ne _ _ hk]
  · rw [(portState_streams _ m m 2 st 2).notices]
    unfold State.setRx
    rw [setAud_aud, ← hz, setAud_aud]
    simp

/-- A packet that the peer has queued enters (R50). -/
theorem exec_forwardedRx {st seq : Nat} {x : RxStream} {f : Nat × HeldPacket} (hx : s.rxOf m st = some x)
    (hf : (s.aud.get m.other).forwards.find? (fun f => f.1 == st && f.2.seq == seq) = some f) (hshare : s.sharing = true)
    (hnew : x.holds f.2.seq f.2.ts = false) (hlate : s.step ≤ x.lastStep s.rate f.2) :
    ∃ t y, exec (.forwardedPacketRx m st seq none) s = .next t ∧ t.rxOf m st = some y ∧ f.2 ∈ y.held ∧
      (t.aud.get m.other).forwards = (s.aud.get m.other).forwards.filter (fun g => !(g.1 == st && g.2.seq == seq)) ∧
      (st, seq) ∉ (t.aud.get m).notices := by
  have hseq : f.2.seq = seq := by
    have h := List.find?_some hf
    simp only [Bool.and_eq_true, beq_iff_eq] at h
    exact h.2
  change ∃ t y, execForwardedPacketRx m st seq none s = .next t ∧ _
  unfold execForwardedPacketRx
  dsimp only
  rw [hf]
  dsimp only
  rw [if_pos hshare]
  generalize hg : (s.aud.get m.other).forwards.filter (fun g => !(g.1 == st && g.2.seq == seq)) = left
  generalize hz : s.setAud m.other { s.aud.get m.other with forwards := left } = z
  have hzx : z.rxOf m st = some x := by
    rw [← hx, ← hz]
    unfold State.rxOf
    rw [setAud_aud_ne _ _ (other_ne m).symm]
  have hzlate : z.step ≤ x.lastStep z.rate f.2 := by
    rw [← hz]
    exact hlate
  obtain ⟨y, hy, hmem, hforwards, hnot⟩ := enterForwarded_held hzx hnew hzlate
  refine ⟨_, y, rfl, hy, hmem, ?_, by rw [← hseq]; exact hnot⟩
  rw [hforwards, ← hz, setAud_aud]

/-- A notice of a packet that this mast holds: it is queued for the peer, and the notice is gone (R49). -/
theorem exec_gapNotice {st seq : Nat} {x : RxStream} {p : HeldPacket} (hr : s.receives m = true) (hx : s.rxOf m st = some x)
    (hp : x.held.find? (fun q => q.seq == seq) = some p) (hshare : s.sharing = true) :
    ∃ t, exec (.gapNoticeRx m false st seq) s = .next t ∧ t = { s with aud := t.aud } ∧
      t.aud.get m = { s.aud.get m with forwards := (s.aud.get m).forwards ++ [(st, p)] } ∧
      (st, seq) ∉ (t.aud.get m.other).notices := by
  change ∃ t, execGapNoticeRx m false st seq s = .next t ∧ _
  unfold execGapNoticeRx
  dsimp only
  rw [if_neg (by simp [hr, hshare]), if_neg Bool.false_ne_true]
  unfold State.changeAud
  dsimp only [List.foldl_cons, List.foldl_nil]
  generalize hz : s.setAud m.other { s.aud.get m.other with notices := (s.aud.get m.other).notices.filter (fun n => n != (st, seq)) } = z
  have hzm : z.aud.get m = s.aud.get m := by
    rw [← hz]
    exact setAud_aud_ne _ _ (other_ne m).symm
  have hzx : z.rxOf m st = some x := by
    rw [← hx]
    exact rxOf_of_aud (congrArg AudioMast.rx hzm)
  rw [hzx]
  dsimp only
  rw [hp, hzm]
  refine ⟨_, rfl, ?_, setAud_aud .., ?_⟩
  · rw [← hz]
    rfl
  · rw [setAud_aud_ne _ _ (other_ne m), ← hz, setAud_aud]
    simp

/-- The other mast serves, and holds a packet. -/
def State.peerHolds (s : State) (m : Mast) (st seq : Nat) : Bool :=
  match s.rxOf m.other st with
  | some y => s.serves m.other && y.held.any (fun p => p.seq == seq)
  | none => false

/-- The deadline of a packet that this mast does not hold (R52, R328). -/
theorem exec_deadline {st seq : Nat} {x : RxStream} (hr : s.receives m = true) (hx : s.rxOf m st = some x)
    (hnot : ∀ p ∈ x.held, p.seq ≠ seq) : exec (.packetDeadline m st seq) s = .next (
      if s.peerHolds m st seq then ((s.bump m (sourceCounter 2 st + 2) 1).bump m 0x6007 1).flag m .mergeLate s.step s.window
      else
        let s1 := (s.bump m (sourceCounter 2 st) 1).setRx m st { x with missing := x.missing + 1 }
        if x.missing + 1 = 8 then s1.portState m 2 st 1 else s1) := by
  have hany : x.held.any (fun p => p.seq == seq) = false := List.any_eq_false.mpr fun p hp => by simpa using hnot p hp
  change execPacketDeadline m st seq s = _
  unfold execPacketDeadline
  rw [hx]
  dsimp only
  rw [if_neg (by simp [hr, hany])]
  rfl

/-- A packet that neither mast holds at its deadline is lost. -/
theorem exec_deadline_lost {st seq : Nat} {x : RxStream} (hr : s.receives m = true) (hx : s.rxOf m st = some x)
    (hnot : ∀ p ∈ x.held, p.seq ≠ seq) (hother : s.serves m.other = false) : ∃ t, exec (.packetDeadline m st seq) s = .next t ∧
      t.rxOf m st = some { x with missing := x.missing + 1 } ∧
      (t.ct m).read (sourceCounter 2 st) = satAdd64 ((s.ct m).read (sourceCounter 2 st)) 1 ∧
      (x.missing = 7 → ((t.aud.get m).report 2 st).state = 1) := by
  have hpeer : s.peerHolds m st seq = false := by
    unfold State.peerHolds
    rw [hother]
    split <;> rfl
  rw [exec_deadline hr hx hnot, hpeer]
  refine ⟨_, rfl, ?_⟩
  have hcount : ((s.bump m (sourceCounter 2 st) 1).ct m).read (sourceCounter 2 st) = satAdd64 ((s.ct m).read (sourceCounter 2 st)) 1 :=
    ct_bump_same ..
  rw [if_neg Bool.false_ne_true]
  generalize s.bump m (sourceCounter 2 st) 1 = z at hcount
  dsimp only
  split
  · refine ⟨?_, ?_, fun _ => portState_state ..⟩
    · rw [rxOf_of_aud (portState_streams _ m m 2 st 1).rx]
      exact rxOf_setRx ..
    · rw [portState_ct]
      exact hcount
  · next h => exact ⟨rxOf_setRx .., hcount, fun h7 => absurd (by omega) h⟩

/-- One that the other mast holds is merge-late here. -/
theorem exec_deadline_late {st seq : Nat} {x y : RxStream} (hr : s.receives m = true) (hx : s.rxOf m st = some x)
    (hnot : ∀ p ∈ x.held, p.seq ≠ seq) (hy : s.rxOf m.other st = some y) (hother : s.serves m.other = true)
    (hhas : ∃ p ∈ y.held, p.seq = seq) : exec (.packetDeadline m st seq) s =
      .next (((s.bump m (sourceCounter 2 st + 2) 1).bump m 0x6007 1).flag m .mergeLate s.step s.window) := by
  obtain ⟨p, hp, hps⟩ := hhas
  have hany : y.held.any (fun p => p.seq == seq) = true := List.any_eq_true.mpr ⟨p, hp, by simpa using hps⟩
  have hpeer : s.peerHolds m st seq = true := by
    unfold State.peerHolds
    rw [hy, hother]
    exact hany
  rw [exec_deadline hr hx hnot, hpeer, if_pos rfl]

/-- The misses of a mast are shown. -/
def State.missesShown (s : State) (m : Mast) : State :=
  { s with vid := s.vid.set m { s.vid.get m with misses := 0, missAt := some s.now } }

theorem exec_flowMissEvent (hmiss : (s.vid.get m).misses ≠ 0) (hdue : ∀ x, (s.vid.get m).missAt = some x → x + Config.second ≤ s.now) :
    exec (.flowMissEvent m) s = .next ((s.missesShown m).event m.code evFlowMiss (be 4 (s.vid.get m).misses ++
      be 16 (s.vid.get m).missAddr ++ be 2 (s.vid.get m).missPort ++ zeros 2)) := by
  change execFlowMissEvent m s = _
  unfold execFlowMissEvent
  dsimp only
  cases hat : (s.vid.get m).missAt with
  | none => exact congrArg Outcome.next (if_neg (by simp [hmiss]))
  | some x => exact congrArg Outcome.next (if_neg (by simp [hmiss, hdue x hat]))

/-- Settles O48: packet by packet through the flow table, held ones by their deadline. -/
theorem networkAudioArrives : Obligations.NetworkAudioArrives := by
  unfold Obligations.NetworkAudioArrives
  intro m r samples est s hr
  refine ⟨fun hhears => ?_, fun st seq x hx => ⟨fun hshare hover => ?_, fun hshare => ?_, fun p hp hshare => exec_gapNotice hr hx hp hshare,
      fun f hf hshare hnew hlate => exec_forwardedRx hx hf hshare hnew hlate, fun p htracks hup hnew hlate => ?_,
      fun hnot => ⟨fun y hy hother hhas => exec_deadline_late hr hx hnot hy hother hhas, fun hother => exec_deadline_lost hr hx hnot hother⟩⟩,
    fun cls idx x hlast hheld hdue => ?_, fun hmiss hdue => ?_⟩
  · intro u
    refine ⟨fun hbad => exec_audioPacketRx_bad hhears hbad, fun hgood => ⟨fun hnone => ?_, fun i e x hlook htyp hx => ?_⟩⟩
    · rw [exec_audioPacketRx_good hhears hgood, hnone]
      rfl
    · intro st p whole
      have hexec : exec (.audioPacketRx m r samples est) s = .next (u.audioPacket m i st r samples est) := by
        rw [exec_audioPacketRx_good hhears hgood, hlook]
        exact congrArg Outcome.next (if_neg (fun h => h htyp))
      have hux : u.rxOf m st = some x := hx
      obtain ⟨hmal, hdup⟩ := audioPacket_counts (i := i) (est := est) (samples := samples) (r := r) hux
      refine ⟨fun hbad => by rw [hexec, hmal hbad], fun hv hext hlen hholds => by rw [hexec, hdup hv hext hlen hholds],
        fun hv hext hlen hnew hearly hlate => ?_⟩
      obtain ⟨b, htaken⟩ := audioPacket_taken (i := i) (est := est) (samples := samples) hux hv hext hlen hnew hearly
      have hcount : ((if b then (u.bump m (0x4000 + 2 * i) 1).bump m 0x6001 1 else u.bump m (0x4000 + 2 * i) 1).ct m).read (0x4000 + 2 * i) =
          satAdd64 ((s.ct m).read (0x4000 + 2 * i)) 1 := by
        have hu : (u.ct m).read (0x4000 + 2 * i) = (s.ct m).read (0x4000 + 2 * i) := by
          have hport : r.frame.port < 128 := by
            unfold State.hears at hhears
            simp only [Bool.and_eq_true, decide_eq_true_eq] at hhears
            exact hhears.1.2
          exact ct_bump_ne _ _ _ _ (by omega)
        rw [← hu]
        split
        · rw [ct_bump_ne _ _ _ _ (by omega), ct_bump_same]
        · rw [ct_bump_same]
      obtain ⟨hheld, hmissing⟩ := heard_held (est := est) (u.assigns m) (show u.step ≤ x.lastStep u.rate p from hlate)
      rw [hexec, htaken]
      generalize (if b then (u.bump m (0x4000 + 2 * i) 1).bump m 0x6001 1 else u.bump m (0x4000 + 2 * i) 1) = z at hcount
      obtain ⟨hrx, hct, hst⟩ := takeIn_leaves z m st (x.heard (u.assigns m) u.rate u.step est p) u.sharing
        ((x.gap (r.seq % 65536)).map (fun q => (st, q)))
      exact ⟨_, _, rfl, hrx, hheld, hmissing, by rw [← hcount, ← hct]; rfl, hst⟩
  · change execPacketExpectedTimeout m st seq s = _
    unfold execPacketExpectedTimeout
    rw [hx]
    dsimp only
    rw [if_pos (by rw [hr, hshare, hover]; rfl)]
  · change execPacketExpectedTimeout m st seq s = _
    unfold execPacketExpectedTimeout
    rw [hx]
    dsimp only
    rw [if_neg (by rw [hr, hshare]; exact Bool.false_ne_true)]
  · obtain ⟨y, hy, hmem, -, -⟩ := enterForwarded_held hx hnew hlate
    change ∃ t y, execForwardedPacketRx m st seq (some p) s = .next t ∧ _
    unfold execForwardedPacketRx
    dsimp only
    rw [if_pos (by rw [htracks, hup, hr]; rfl)]
    exact ⟨_, y, rfl, hy, hmem⟩
  · change ∃ t, execAudioPortEventDeferred m cls idx s = .next t ∧ _
    unfold execAudioPortEventDeferred
    dsimp only
    rw [hlast]
    dsimp only
    rw [if_pos (by rw [hheld, decide_eq_true hdue]; rfl)]
    have haud := raisePort_aud s m cls idx
    refine ⟨_, rfl, haud, ?_⟩
    rw [haud]
    exact event_only ..
  · have honly := event_only (s.missesShown m) m.code evFlowMiss (be 4 (s.vid.get m).misses ++ be 16 (s.vid.get m).missAddr ++
      be 2 (s.vid.get m).missPort ++ zeros 2)
    have hvid : ((s.missesShown m).event m.code evFlowMiss (be 4 (s.vid.get m).misses ++ be 16 (s.vid.get m).missAddr ++
      be 2 (s.vid.get m).missPort ++ zeros 2)).vid = (s.missesShown m).vid := by rw [honly.rest]
    refine ⟨_, exec_flowMissEvent hmiss hdue, hvid, ?_⟩
    rw [hvid]
    exact honly

end Sys2Proof.Machine

/-! # O49: captures (R55 to R58, R307, R310 to R314, R321, R332, R333, R633) -/
namespace Sys2Proof.Machine
open Host Sys2Proof

variable {s t u : State} {m k : Mast} {port : Nat}

/-! ### A frame among those of its port (R55) -/

theorem storeCapture_new {caps : List Captured} {c : Captured} (h : ∀ d ∈ caps, d.index ≠ c.index) : storeCapture caps c = caps ++ [c] := by
  unfold storeCapture
  refine if_neg fun hany => ?_
  obtain ⟨d, hd, hb⟩ := List.any_eq_true.mp hany
  simp only [Bool.and_eq_true, beq_iff_eq] at hb
  exact h d hd hb.1

theorem storeCapture_waited {caps : List Captured} {c d : Captured} (hd : d ∈ caps) (hi : d.index = c.index) (hb : 3 ≤ d.bad) :
    { c with step := d.step, phase := d.phase } ∈ storeCapture caps c := by
  have hcond : (d.index == c.index && decide (3 ≤ d.bad)) = true := by simp [hi, hb]
  unfold storeCapture
  rw [if_pos (List.any_eq_true.mpr ⟨d, hd, hcond⟩)]
  exact List.mem_map.mpr ⟨d, hd, if_pos hcond⟩

theorem assignCapture_steps {caps : List Captured} {x : CaptureNote} :
    (∀ d ∈ assignCapture caps x, d.index = x.index → d.step = some x.step) ∧ ∃ d ∈ assignCapture caps x, d.index = x.index := by
  unfold assignCapture
  split
  · next h =>
    refine ⟨fun d hd hi => ?_, ?_⟩
    · obtain ⟨e, -, rfl⟩ := List.mem_map.mp hd
      by_cases he : e.index = x.index
      · rw [if_pos he]
      · rw [if_neg he] at hi
        exact absurd hi he
    · obtain ⟨e, he, hei⟩ := List.any_eq_true.mp h
      have hei : e.index = x.index := by simpa using hei
      refine ⟨_, List.mem_map.mpr ⟨e, he, rfl⟩, ?_⟩
      rw [if_pos hei]
      exact hei
  · next h =>
    refine ⟨fun d hd hi => ?_, ⟨_, List.mem_append_right _ (List.mem_singleton_self _), rfl⟩⟩
    rcases List.mem_append.mp hd with hd | hd
    · exact absurd (List.any_eq_true.mpr ⟨d, hd, by simpa using hi⟩) h
    · rw [List.mem_singleton.mp hd]

/-! ### What a mast does with a frame beside its audio state -/

theorem sendCapture_leaves (s : State) (m : Mast) (cls p : Nat) (c : Captured) :
    ((s.sendCapture m cls p c).aud.get m).aesIn = (s.aud.get m).aesIn ∧ ((s.sendCapture m cls p c).aud.get m).sdi = (s.aud.get m).sdi := by
  unfold State.sendCapture
  split
  · split
    · rw [setAud_aud]
      exact ⟨rfl, rfl⟩
    · exact ⟨rfl, rfl⟩
  · exact ⟨rfl, rfl⟩

theorem captureError_aud (s : State) (m : Mast) (cls p bad step : Nat) : (s.captureError m cls p bad step).aud = s.aud :=
  Keeps_same (flag_keeps _ _ _ _ (bump_keeps _ _ _ (keeps_refl 1280 s) rfl) rfl) .aud rfl

theorem captureFilled_aud (s : State) (m : Mast) (cls p : Nat) (caps : List Captured) (c : Captured) :
    (s.captureFilled m cls p caps c).aud = s.aud := by
  unfold State.captureFilled
  split
  · split
    · exact captureError_aud ..
    · rfl
  · rfl

/-- A frame taken in: the sources' state of its mast is what was set. -/
theorem taken_leaves (a : AudioMast) (n cls p : Nat) (c : Captured) (caps : List Captured) (i : Nat) :
    (((((s.setAud m a).bump m i n).sendCapture m cls p c).captureFilled m cls p caps c).aud.get m).aesIn = a.aesIn ∧
      (((((s.setAud m a).bump m i n).sendCapture m cls p c).captureFilled m cls p caps c).aud.get m).sdi = a.sdi := by
  obtain ⟨haes, hsdi⟩ := sendCapture_leaves ((s.setAud m a).bump m i n) m cls p c
  rw [captureFilled_aud, haes, hsdi, Keeps_same (bump_keeps m i n (keeps_refl 1024 (s.setAud m a)) rfl) .aud rfl, setAud_aud]
  exact ⟨rfl, rfl⟩

theorem taken_aesIn (l : List AesIn) (a : AudioMast) (y : AesIn) (n cls p : Nat) (c : Captured) (caps : List Captured) (i : Nat)
    (h : p < l.length) : ((((((s.setAud m { a with aesIn := setAt l p y }).bump m i n).sendCapture m cls p c).captureFilled m cls p
      caps c).aud.get m).aesIn)[p]? = some y := by
  rw [(taken_leaves _ _ _ _ _ _ _).1]
  exact List.getElem?_set_self h

theorem taken_sdi (l : Assoc SdiAudio) (a : AudioMast) (y : SdiAudio) (n cls p : Nat) (c : Captured) (caps : List Captured) (i : Nat) :
    ((((((s.setAud m { a with sdi := l.put p y }).bump m i n).sendCapture m cls p c).captureFilled m cls p
      caps c).aud.get m).sdi).find p = some y := by
  rw [(taken_leaves _ _ _ _ _ _ _).2]
  exact Assoc_find_put ..

/-- The frame that an AES3 input takes. -/
def State.aesCapture (s : State) (m : Mast) (x : AesIn) (f : AesFrame) : Captured :=
  let good (ok : Bool) (v : Int) : Option Int := if f.lineOk && ok then some (clampSigned 24 v) else none
  let blockBad := match f.block with
    | some b => bit (fld b.cs 0 1) 0 && !b.crcOk
    | none => false
  let parity := if f.lineOk then b01 (!f.leftOk) + b01 (!f.rightOk) else 0
  { index := x.frames, first := 0, samples := [good f.leftOk f.left, good f.rightOk f.right], phase := f.phase,
    step := s.captureStep m, bad := if !f.lineOk then 2 else if parity ≠ 0 || blockBad then 1 else 0 }

/-- An AES3 frame of an enabled input is numbered and joins the frames of its port (R55). -/
theorem exec_aes3Frame {x : AesIn} {f : AesFrame} (hx : (s.aud.get m).aesIn[f.port]? = some x) (hen : x.enabled = true)
    (hlive : s.live m = true) : ∃ t y, exec (.aes3FrameRx m f) s = .next t ∧ (t.aud.get m).aesIn[f.port]? = some y ∧
      y.frames = x.frames + 1 ∧ y.caps = storeCapture x.caps (s.aesCapture m x f) := by
  have hlen : f.port < (s.aud.get m).aesIn.length := List.getElem?_eq_some_iff.mp hx |>.1
  change ∃ t y, execAes3FrameRx m f s = .next t ∧ _
  unfold execAes3FrameRx
  dsimp only
  rw [hx]
  dsimp only
  rw [if_neg (by rw [hen, hlive]; decide)]
  refine ⟨_, _, rfl, taken_aesIn _ _ _ _ _ _ _ _ _ hlen, ?_, ?_⟩
  · split <;> rfl
  · unfold State.aesCapture
    cases f.block with
    | none => rfl
    | some b => rfl

/-! ### Assignments and estimates of the Captain's (R55 to R58, R309, R633) -/

theorem changeCaps_aes {a : AudioMast} {x : AesIn} (hx : a.aesIn[port]? = some x) (f : List Captured → List Captured) :
    a.changeCaps 0 port f = { a with aesIn := setAt a.aesIn port { x with caps := f x.caps } } := by
  unfold AudioMast.changeCaps
  rw [if_pos rfl, hx]

theorem changeFeed_aes {a : AudioMast} {x : AesIn} (hx : a.aesIn[port]? = some x) (f : Feed → Feed) :
    a.changeFeed 0 port f = { a with aesIn := setAt a.aesIn port { x with feed := f x.feed } } := by
  unfold AudioMast.changeFeed
  rw [if_pos rfl, hx]

/-- The Stoker takes up an assignment that comes in time (R55, R58). -/
theorem takeCapture_leaves {x : AesIn} {c : CaptureNote} (hx : (s.aud.get m).aesIn[port]? = some x) (h0 : c.cls = 0) (hp : c.port = port)
    (hintime : s.step < c.step + s.fence) :
    (s.takeCapture m c).aud = s.aud.set m { s.aud.get m with aesIn := setAt (s.aud.get m).aesIn port { x with caps := assignCapture x.caps c } } ∧
    ((∀ d ∈ x.caps, d.index = c.index → d.bad = 0) → ((s.takeCapture m c).mt m).flags = (s.mt m).flags) ∧
    (∀ d, x.caps.find? (fun d => d.index == c.index) = some d → d.bad ≠ 0 → c.bad = false → (s.mt m).flags.length < 4096 →
      ((s.takeCapture m c).mt m).flags = (s.mt m).flags ++ [{ kind := .captureError, step := c.step }]) := by
  have hcaps : (s.aud.get m).capsOf 0 port = x.caps := by
    unfold AudioMast.capsOf
    rw [if_pos rfl, hx]
    rfl
  unfold State.takeCapture
  dsimp only
  rw [h0, hp, changeCaps_aes hx, hcaps, if_neg (Nat.not_le.mpr hintime)]
  generalize hz : s.setAud m { s.aud.get m with aesIn := setAt (s.aud.get m).aesIn port { x with caps := assignCapture x.caps c } } = z
  have hzaud : z.aud = s.aud.set m { s.aud.get m with aesIn := setAt (s.aud.get m).aesIn port { x with caps := assignCapture x.caps c } } := by
    rw [← hz]
    rfl
  have hzmt : z.mt m = s.mt m := by rw [← hz]; rfl
  cases hfind : x.caps.find? (fun d => d.index == c.index) with
  | none => exact ⟨hzaud, fun _ => by rw [hzmt], fun d hd => by cases hd⟩
  | some d =>
    dsimp only
    refine ⟨?_, fun hclean => ?_, fun e he hbad hc hflags => ?_⟩
    · split
      · rw [captureError_aud, hzaud]
      · exact hzaud
    · have hd := hclean d (List.mem_of_find?_eq_some hfind) (by simpa using List.find?_some hfind)
      rw [if_neg (by simp [hd]), hzmt]
    · cases he
      rw [if_pos (by simp [hbad, hc])]
      unfold State.captureError
      have hbump : ((z.bump m (sourceCounter 0 port) (if d.bad = 1 then 0 else 1)).mt m).flags = (s.mt m).flags := by
        rw [← hzmt, State.mt, Keeps_same (bump_keeps _ _ _ (keeps_refl 1024 z) rfl) .tan rfl]
        rfl
      rw [flag_flags (by rw [hbump]; exact hflags), setMt_mt]
      exact congrArg (fun l => l ++ [{ kind := .captureError, step := c.step }]) hbump

/-- An estimate whose step has begun acts from the next boundary, and is flagged (R633). -/
theorem exec_lateEstimate {step ratio : Nat} (hno : s.assigns m = false) (hlate : step + 16 ≤ s.step) (hlive : s.live m = true) :
    exec (.asrcEstimateRx m 0 port step ratio) s = .next ((s.setAud m ((s.aud.get m).changeFeed 0 port (fun f =>
      { f with ests := f.ests.put (s.step + 1 - 16) (ratio % 2 ^ 64) }))).flagLate m step) := by
  change execAsrcEstimateRx m 0 port step ratio s = _
  unfold execAsrcEstimateRx
  rw [if_neg (by rw [hno]; decide), decide_eq_true hlate, if_pos (by rw [hlive]; rfl)]
  rfl

theorem flagLate_due {n : Nat} (h : n ≤ s.step) (hflags : (s.mt m).flags.length < 4096) : (s.flagLate m n).aud = s.aud ∧
    ((s.flagLate m n).mt m).flags = (s.mt m).flags ++ [{ kind := .lateCommit, step := n }] := by
  unfold State.flagLate
  rw [if_pos h, flag_flags hflags, setMt_mt]
  exact ⟨rfl, rfl⟩

/-! ### Lock (R307, R311, R321) -/

theorem noteLock_leaves (s : State) (m : Mast) (cls idx : Nat) (before : Bool) :
    ((s.noteLock m cls idx before).aud.get m).aesIn = (s.aud.get m).aesIn ∧ ((s.noteLock m cls idx before).aud.get m).sdi = (s.aud.get m).sdi := by
  unfold State.noteLock
  split
  · exact ⟨rfl, rfl⟩
  · dsimp only
    rw [setAud_aud]
    exact ⟨rfl, rfl⟩

theorem changeAud_both (s : State) (f : AudioMast → AudioMast) (k : Mast) : (s.changeAud [.a, .b] f).aud.get k = f (s.aud.get k) := by
  cases k <;> rfl

theorem startPort_aes {a : AudioMast} {y : AesIn} (h : a.aesIn[port]? = some y) (internal n : Nat) :
    (a.startPort internal 0 port n true).aesIn[port]? = some { y with frames := 0, caps := [] } := by
  unfold AudioMast.startPort
  dsimp only
  rw [h]
  exact List.getElem?_set_self (List.getElem?_eq_some_iff.mp h).1

theorem startPort_sdi {a : AudioMast} {y : SdiAudio} (h : a.sdi.find port = some y) (internal n : Nat) :
    (a.startPort internal 4 port n true).sdi.find port =
      some { y with frames := 0, caps := [], restart := some n, outStart := n, outMade := 0 } := by
  unfold AudioMast.startPort
  dsimp only
  rw [h]
  exact Assoc_find_put ..

/-- An AES3 input locks (R311, R321). -/
theorem exec_aesLock {x : AesIn} {rate : Nat} (hx : (s.aud.get m).aesIn[port]? = some x) (hlive : s.live m = true) (hen : x.enabled = true)
    (hno : x.locked = false) (hrate : rate ≤ 6) : ∃ t y, exec (.aes3InputLock m port rate) s = .next t ∧
      (t.aud.get m).aesIn[port]? = some y ∧ y.locked = true ∧ y.rate = rate ∧ y.feed.locked = false ∧
      (s.tst m = .captain → y.frames = 0 ∧ y.caps = []) := by
  have hlen : port < (s.aud.get m).aesIn.length := (List.getElem?_eq_some_iff.mp hx).1
  change ∃ t y, execAes3InputLock m port rate s = .next t ∧ _
  unfold execAes3InputLock
  dsimp only
  rw [hx]
  dsimp only
  rw [if_neg (by simp [hen, hno, hlive, hrate])]
  generalize hy : ({ x with locked := true, rate := rate, feed := { x.feed with ratio := nominalRatio s.rate (rateHz rate), locked := false } } :
    AesIn) = y
  have hylock : y.locked = true ∧ y.rate = rate ∧ y.feed.locked = false := by rw [← hy]; exact ⟨rfl, rfl, rfl⟩
  have hin : (((s.setAud m { s.aud.get m with aesIn := setAt (s.aud.get m).aesIn port y }).noteLock m 0 port false).aud.get m).aesIn[port]? =
      some y := by
    rw [(noteLock_leaves ..).1, setAud_aud]
    exact List.getElem?_set_self hlen
  split
  · refine ⟨_, { y with frames := 0, caps := [] }, rfl, ?_, hylock.1, hylock.2.1, hylock.2.2, fun _ => ⟨rfl, rfl⟩⟩
    rw [changeAud_both]
    exact startPort_aes hin _ _
  · next hcap => exact ⟨_, y, rfl, hin, hylock.1, hylock.2.1, hylock.2.2, fun h => absurd h hcap⟩

/-- An AES3 input loses lock (R311). -/
theorem exec_aesUnlock {x : AesIn} (hx : (s.aud.get m).aesIn[port]? = some x) (hlock : x.locked = true) :
    ∃ t, exec (.aes3InputUnlock m port) s = .next t ∧ (t.aud.get m).aesIn[port]? =
      some { x with locked := false, rate := 0xFF, feed := { x.feed with locked := false } } ∧
      ((t.aud.get m).report 0 port).state = (if x.enabled then 1 else 0) := by
  have hlen : port < (s.aud.get m).aesIn.length := (List.getElem?_eq_some_iff.mp hx).1
  change ∃ t, execAes3InputUnlock m port s = .next t ∧ _
  unfold execAes3InputUnlock
  dsimp only
  rw [hx]
  dsimp only
  rw [if_neg (by rw [hlock]; decide)]
  refine ⟨_, rfl, ?_, portState_state ..⟩
  rw [(portState_streams ..).aesIn, (noteLock_leaves ..).1, setAud_aud]
  exact List.getElem?_set_self hlen

/-- The estimate of an AES3 input settles: it converts in STATE 2 (R307, R311). -/
theorem exec_asrcLock {x : AesIn} {ratio : Nat} (hx : (s.aud.get m).aesIn[port]? = some x) (hlive : s.live m = true)
    (hen : x.enabled = true) (hlock : x.locked = true) (htrack : tracks (ratio % 2 ^ 64) (nominalRatio s.rate (rateHz x.rate)) = true) :
    ∃ t y, exec (.asrcLock m 0 port ratio) s = .next t ∧ (t.aud.get m).aesIn[port]? = some { x with feed := y } ∧
      y.locked = true ∧ y.own = ratio % 2 ^ 64 ∧ ((t.aud.get m).report 0 port).state = 2 := by
  have hlen : port < (s.aud.get m).aesIn.length := (List.getElem?_eq_some_iff.mp hx).1
  have hable : (s.aud.get m).lockable 0 port = true := by
    unfold AudioMast.lockable
    rw [if_pos rfl, hx]
    exact Bool.and_eq_true_iff.mpr ⟨hen, hlock⟩
  have hhz : (s.aud.get m).nominalHz 0 port = rateHz x.rate := by
    unfold AudioMast.nominalHz
    rw [if_pos rfl, hx]
    rfl
  change ∃ t y, execAsrcLock m 0 port ratio s = .next t ∧ _
  unfold execAsrcLock
  rw [hhz, if_neg (by rw [hlive, hable, htrack]; decide), changeFeed_aes hx]
  refine ⟨_, ({ x.feed with locked := true } : Feed).noteEstimate (s.assigns m) s.step (ratio % 2 ^ 64), rfl, ?_, rfl, rfl, portState_state ..⟩
  rw [(portState_streams ..).aesIn, setAud_aud]
  exact List.getElem?_set_self hlen

/-! ### Audio in SDI (R332, R333) -/

/-- The frame that an SDI audio group takes. -/
def State.sdiCapture (s : State) (m : Mast) (x : SdiAudio) (p : SdiPacket) : Captured :=
  { index := x.frames, first := 4 * p.group,
    samples := (List.range 4).map (fun i => if p.checksOk then some (clampSigned 24 (atD p.samples i 0)) else none),
    phase := p.phase, step := s.captureStep m, bad := if p.checksOk then 0 else 1 }

/-- The state in which a control packet has been taken. -/
def State.sdiControlled (s : State) (m : Mast) (x : SdiAudio) (p : SdiPacket) (ok : Bool) : State :=
  let y : SdiAudio := { x with rateOk := ok, locked := true, feed := { x.feed with locked := x.feed.locked && ok, ratio := nominalRatio s.rate 48000 } }
  let s1 := (s.setAud m { s.aud.get m with sdi := (s.aud.get m).sdi.put p.port y }).noteLock m 4 p.port (s.inputLocked m 4 p.port)
  if !x.locked && s.isCaptain m then s1.changeAud [.a, .b] (fun b => b.startPort s.rate 4 p.port s.step true) else s1

/-- The state in which a data packet has been taken. -/
def State.sdiTaken (s : State) (m : Mast) (x : SdiAudio) (p : SdiPacket) : State :=
  let y : SdiAudio := { x with frames := x.frames + 1, caps := storeCapture x.caps (s.sdiCapture m x p),
                               feed := x.feed.noteEstimate (s.assigns m) s.step p.estimate }
  (((s.setAud m { s.aud.get m with sdi := (s.aud.get m).sdi.put p.port y }).bump m (sourceCounter 4 p.port) (b01 (!p.checksOk))).sendCapture
    m 4 p.port (s.sdiCapture m x p)).captureFilled m 4 p.port x.caps (s.sdiCapture m x p)

theorem exec_sdiAudioPacket {p : SdiPacket} {x : SdiAudio} (hx : (s.aud.get m).sdi.find p.port = some x) (hv : s.variant = .v2048V)
    (hmode : s.md.mode = .service) (hgroup : bit x.inGroups p.group = true) (hg : p.group ≤ 3) (hshed : s.md.shed.video = false)
    (hlive : s.live m = true) :
    (∀ ok, p.control = some ok → exec (.sdiAudioPacket m p) s =
      .next (if ok then s.sdiControlled m x p ok else (s.sdiControlled m x p ok).portState m 4 p.port 1)) ∧
    (p.control = none → exec (.sdiAudioPacket m p) s = .next (s.sdiTaken m x p)) := by
  have hgo : ¬ (decide (s.variant ≠ .v2048V) || !(decide (s.md.mode = .service) || decide (s.md.mode = .alarm)) || !bit x.inGroups p.group ||
      decide (p.group > 3) || s.md.shed.video || !s.live m) = true := by
    simp [hv, hmode, hgroup, hg, hshed, hlive]
  have hexec : exec (.sdiAudioPacket m p) s = .next (match p.control with
      | some ok => if ok then s.sdiControlled m x p ok else (s.sdiControlled m x p ok).portState m 4 p.port 1
      | none => s.sdiTaken m x p) := by
    change execSdiAudioPacket m p s = _
    unfold execSdiAudioPacket
    dsimp only
    rw [hx]
    exact congrArg Outcome.next (if_neg hgo)
  exact ⟨fun ok hok => by rw [hexec, hok], fun hnone => by rw [hexec, hnone]⟩

theorem sdiControlled_leaves (x : SdiAudio) (p : SdiPacket) (ok : Bool) : ∃ y, ((s.sdiControlled m x p ok).aud.get m).sdi.find p.port = some y ∧
    y.locked = true ∧ y.rateOk = ok := by
  unfold State.sdiControlled
  dsimp only
  generalize hy : ({ x with rateOk := ok, locked := true, feed := { x.feed with locked := x.feed.locked && ok, ratio := nominalRatio s.rate 48000 } } :
    SdiAudio) = y
  have hylock : y.locked = true ∧ y.rateOk = ok := by rw [← hy]; exact ⟨rfl, rfl⟩
  have hin : (((s.setAud m { s.aud.get m with sdi := (s.aud.get m).sdi.put p.port y }).noteLock m 4 p.port
      (s.inputLocked m 4 p.port)).aud.get m).sdi.find p.port = some y := by
    rw [(noteLock_leaves ..).2, setAud_aud]
    exact Assoc_find_put ..
  split
  · refine ⟨{ y with frames := 0, caps := [], restart := some s.step, outStart := s.step, outMade := 0 }, ?_, hylock.1, hylock.2⟩
    rw [changeAud_both]
    exact startPort_sdi hin _ _
  · exact ⟨y, hin, hylock.1, hylock.2⟩

/-- Settles O49: a frame is numbered, assigned and held, on the Captain first. -/
theorem capturesArrive : Obligations.CapturesArrive := by
  unfold Obligations.CapturesArrive
  intro m port s x hx
  have hlen : port < (s.aud.get m).aesIn.length := (List.getElem?_eq_some_iff.mp hx).1
  refine ⟨fun f hf hen hlive => ?_, fun c h0 hp hst htr hsent hintime => ?_, fun step ratio hno => ⟨fun hintime => ?_, fun hlate hlive hflags => ?_⟩,
    fun ratio hlive hen hlock htrack => exec_asrcLock hx hlive hen hlock htrack,
    fun rate hlive hen hno hrate => exec_aesLock hx hlive hen hno hrate, exec_aesUnlock hx, fun htan hport hstand => ?_,
    fun p z hz hv hmode hgroup hg hshed hlive => ?_⟩
  · subst hf
    obtain ⟨t, y, hexec, hy, hframes, hcaps⟩ := exec_aes3Frame hx hen hlive
    refine ⟨t, y, hexec, hy, hframes, fun hnew => ⟨s.aesCapture m x f, by rw [hcaps, storeCapture_new hnew], rfl, rfl, rfl, fun hl hleft hright => ?_,
      fun hl => ?_⟩, fun c hc hci hcb => 
      ⟨{ s.aesCapture m x f with step := c.step, phase := c.phase }, by rw [hcaps]; exact storeCapture_waited hc hci hcb, rfl, rfl, ?_⟩⟩
    · unfold State.aesCapture
      rw [hl, hleft, hright]
      rfl
    · unfold State.aesCapture
      rw [hl]
      exact ⟨rfl, rfl⟩
    · unfold State.aesCapture
      dsimp only
      repeat' split
      all_goals decide
  · have hlive : s.live m = true := by simp [State.live, State.serves, hst]
    generalize hz : s.setAud m.other { s.aud.get m.other with sent := (s.aud.get m.other).sent.filter (fun y => y != c) } = z
    have hzm : z.aud.get m = s.aud.get m := by
      rw [← hz]
      exact setAud_aud_ne _ _ (other_ne m).symm
    have hzmt : z.mt m = s.mt m := by rw [← hz]; rfl
    have hexec : exec (.captureAssignmentRx m c) s = .next (z.takeCapture m c) := by
      rw [← hz]
      change execCaptureAssignmentRx m c s = _
      unfold execCaptureAssignmentRx
      rw [if_neg (by rw [hlive]; decide), if_neg (by rw [htr]; decide), if_neg (by rw [hst, hsent]; decide)]
    obtain ⟨haud, hclean, herr⟩ := takeCapture_leaves (s := z) (m := m) (c := c) (by rw [hzm]; exact hx) h0 hp
      (by rw [← hz]; exact hintime)
    obtain ⟨hsteps, hmem⟩ := assignCapture_steps (caps := x.caps) (x := c)
    refine ⟨_, { x with caps := assignCapture x.caps c }, hexec, ?_, hsteps, hmem, ?_, fun h => ?_, fun d hd hb hcb hflags => ?_⟩
    · rw [haud, Both_get_set, hzm]
      exact List.getElem?_set_self hlen
    · rw [haud, Both_get_set_ne _ _ (other_ne m), ← hz, setAud_aud]
      simp
    · rw [hclean h, hzmt]
    · rw [herr d hd hb hcb (by rw [hzmt]; exact hflags), hzmt]
  · change ∃ t, execAsrcEstimateRx m 0 port step ratio s = .next t ∧ _
    unfold execAsrcEstimateRx
    have hd : decide (step + 16 ≤ s.step) = false := decide_eq_false (Nat.not_le.mpr hintime)
    dsimp only
    rw [if_neg (by rw [hno]; decide), hd, changeFeed_aes hx]
    refine ⟨_, rfl, rfl, ?_⟩
    exact (congrArg (fun a : AudioMast => a.aesIn[port]?) (setAud_aud ..)).trans (List.getElem?_set_self hlen)
  · refine ⟨_, exec_lateEstimate hno hlate hlive, ?_⟩
    rw [changeFeed_aes hx]
    generalize hz : s.setAud m { s.aud.get m with aesIn := setAt (s.aud.get m).aesIn port { x with
      feed := { x.feed with ests := x.feed.ests.put (s.step + 1 - 16) (ratio % 2 ^ 64) } } } = z
    have hzm : z.mt m = s.mt m := by rw [← hz]; rfl
    have hzstep : z.step = s.step := by rw [← hz]; rfl
    obtain ⟨haud, hmt⟩ := flagLate_due (s := z) (m := m) (n := step) (by omega) (by rw [hzm]; exact hflags)
    refine ⟨?_, by rw [hmt, hzm]⟩
    rw [haud, ← hz, setAud_aud]
    exact List.getElem?_set_self hlen
  · have hkey : portKey 0 port = port := by simp [portKey]
    have hsite : inputSite 0 port = 0x90000000 + port := by simp [inputSite]
    have hgo : ¬ (!s.inTandem || !s.locksStand 0 port || (decide ((0 : Nat) ≠ 0) && decide ((0 : Nat) ≠ 4)) ||
        decide (port ≥ (if (0 : Nat) = 0 then 16 else Config.sdiPorts s.variant))) = true := by
      simp [htan, hstand, hport]
    refine ⟨fun hon hne => ?_, fun hon hla hlb => ?_⟩
    · change execSingleHomedChange 0 port s = _
      unfold execSingleHomedChange
      dsimp only
      have hfire : (!(s.aud.get s.lead).single.contains port && (s.inputLocked .a 0 port != s.inputLocked .b 0 port)) = true := by
        rw [hon]
        simpa using hne
      rw [hkey, if_neg hgo, if_pos hfire, if_pos rfl, hsite]
    · change execSingleHomedChange 0 port s = _
      unfold execSingleHomedChange
      dsimp only
      have hidle : ¬ (!(s.aud.get s.lead).single.contains port && (s.inputLocked .a 0 port != s.inputLocked .b 0 port)) = true := by
        rw [hon]
        exact Bool.false_ne_true
      rw [hkey, if_neg hgo, if_neg hidle, if_pos (by rw [hon, hla, hlb]; rfl)]
  · obtain ⟨hcontrol, hdata⟩ := exec_sdiAudioPacket hz hv hmode hgroup hg hshed hlive
    cases hctl : p.control with
    | some ok =>
      obtain ⟨y, hy, hlock, hok⟩ := sdiControlled_leaves (s := s) (m := m) z p ok
      have hport := portState_streams (s.sdiControlled m z p ok) m m 4 p.port 1
      cases ok with
      | true => exact ⟨_, y, hcontrol true hctl, hy, fun b hb => by cases hb; exact ⟨hlock, hok, fun h => by cases h⟩, fun h => by cases h⟩
      | false =>
        refine ⟨_, y, hcontrol false hctl, by rw [if_neg Bool.false_ne_true, hport.sdi]; exact hy,
          fun b hb => by cases hb; exact ⟨hlock, hok, fun _ => portState_state ..⟩, fun h => by cases h⟩
    | none =>
      refine ⟨_, _, hdata hctl, taken_sdi .., ?_, fun _ => ⟨rfl, fun hnew => ⟨s.sdiCapture m z p, ?_, rfl, rfl, rfl⟩⟩⟩
      · intro ok hok
        cases hok
      · exact storeCapture_new hnew

end Sys2Proof.Machine

/-! # O50: video inputs (R34, R54, R350, R351, R354 to R357, R359, R363, R388) -/
namespace Sys2Proof.Machine
open Host Sys2Proof

variable {s t u : State} {m k : Mast} {o : Nat}

theorem nodup_eraseDups : ∀ l : List Nat, l.eraseDups.Nodup
  | [] => by rw [List.eraseDups_nil]; exact List.nodup_nil
  | n :: l => by
    rw [List.eraseDups_cons, List.nodup_cons]
    refine ⟨fun h => ?_, nodup_eraseDups _⟩
    simpa using (List.mem_filter.mp (List.mem_eraseDups.mp h)).2
  termination_by l => l.length
  decreasing_by exact Nat.lt_succ_of_le (List.length_filter_le _ _)

/-! ### A row into slack buffers (R352, R357, R364) -/

/-- A row put into the slack buffers of outputs. -/
def putRows (slack : Assoc (List SlackRow)) (outs : List Nat) (row : VideoRow) : Assoc (List SlackRow) :=
  outs.foldl (fun t o => t.put o (putRow (t.getD o []) row)) slack

theorem putRows_beside {slack : Assoc (List SlackRow)} {outs : List Nat} {row : VideoRow} (h : o ∉ outs) :
    (putRows slack outs row).find o = slack.find o := by
  unfold putRows
  induction outs generalizing slack with
  | nil => rfl
  | cons n outs ih =>
    rw [List.mem_cons, not_or] at h
    exact (ih h.2).trans (Assoc_find_put_ne _ _ h.1)

theorem putRows_at {slack : Assoc (List SlackRow)} {outs : List Nat} {row : VideoRow} (hd : outs.Nodup) (h : o ∈ outs) :
    (putRows slack outs row).find o = some (putRow (slack.getD o []) row) := by
  induction outs generalizing slack with
  | nil => cases h
  | cons n outs ih =>
    obtain ⟨hn, hd⟩ := List.nodup_cons.mp hd
    change (putRows (slack.put n (putRow (slack.getD n []) row)) outs row).find o = _
    by_cases ho : o = n
    · subst ho
      rw [putRows_beside hn]
      exact Assoc_find_put ..
    · rw [ih hd ((List.mem_cons.mp h).resolve_left ho), Assoc_getD_put_ne _ _ _ ho]

/-! ### A packet forwarded (R359, R360, R390) -/

theorem forwardVideo_beside {j typ : Nat} {r : RtpFacts} {row : VideoRow} (h : o ≠ j) :
    ((s.forwardVideo m j typ r row).vid.get m).tx.find o = (s.vid.get m).tx.find o := by
  have hoffer (u : State) (p : Option Nat) (q n : Nat) : (u.offer m p q n).vid = u.vid :=
    Keeps_same (offer_keeps m p q n (keeps_refl 131072 u) rfl) .vid rfl
  unfold State.forwardVideo
  dsimp only
  split
  · rfl
  · split
    · rfl
    · rw [hoffer]
      dsimp only
      rw [Both_get_set]
      exact Assoc_find_put_ne _ _ h

/-- The packet outputs of an egress flow may send. -/
def State.mayForward (s : State) (m : Mast) (y : FlowTx) : Prop :=
  bit (fld y.params 2 1) 0 = true ∧ (s.mt m).drive.packets = true ∧ s.md.mode ≠ .maintain

/-- The one packet that a passthrough output has sent. -/
def FlowTx.Sent (z y : FlowTx) (r : RtpFacts) : Prop :=
  z.params = y.params ∧ z.count = (y.count + 1) % 65536 ∧
    ∃ q, z.sent = [q] ∧ q.seq = y.count % 65536 ∧ q.ts = r.ts % 2 ^ 32 ∧ q.ssrc = fld y.params 4 4

theorem forwardVideo_sends {typ : Nat} {r : RtpFacts} {row : VideoRow} {y : FlowTx} (hy : (s.vid.get m).tx.find o = some y)
    (hopen : s.mayForward m y) : ∃ z, ((s.forwardVideo m o typ r row).vid.get m).tx.find o = some z ∧ z.Sent y r := by
  obtain ⟨hbit, hpkt, hmode⟩ := hopen
  have hoffer (u : State) (p : Option Nat) (q n : Nat) : (u.offer m p q n).vid = u.vid :=
    Keeps_same (offer_keeps m p q n (keeps_refl 131072 u) rfl) .vid rfl
  unfold State.forwardVideo
  dsimp only
  rw [hy]
  dsimp only
  rw [if_neg (by simp [hbit, hpkt, hmode]), hoffer]
  dsimp only
  rw [Both_get_set]
  exact ⟨_, Assoc_find_put .., rfl, rfl, _, rfl, rfl, rfl, rfl⟩

theorem foldl_forwardVideo_beside {typ : Nat} {r : RtpFacts} {row : VideoRow} {outs : List Nat} (h : o ∉ outs) :
    ((outs.foldl (fun acc j => acc.forwardVideo m j typ r row) s).vid.get m).tx.find o = (s.vid.get m).tx.find o := by
  induction outs generalizing s with
  | nil => rfl
  | cons n outs ih =>
    rw [List.mem_cons, not_or] at h
    exact (ih h.2).trans (forwardVideo_beside h.1)

theorem foldl_forwardVideo_sends {typ : Nat} {r : RtpFacts} {row : VideoRow} {outs : List Nat} {y : FlowTx} (hd : outs.Nodup) (h : o ∈ outs)
    (hy : (s.vid.get m).tx.find o = some y) (hopen : s.mayForward m y) :
    ∃ z, ((outs.foldl (fun acc j => acc.forwardVideo m j typ r row) s).vid.get m).tx.find o = some z ∧ z.Sent y r := by
  induction outs generalizing s with
  | nil => cases h
  | cons n outs ih =>
    obtain ⟨hn, hd⟩ := List.nodup_cons.mp hd
    by_cases ho : o = n
    · subst ho
      obtain ⟨z, hz, hsent⟩ := forwardVideo_sends (typ := typ) (r := r) (row := row) hy hopen
      exact ⟨z, (foldl_forwardVideo_beside hn).trans hz, hsent⟩
    · have hkeep := forwardVideo_keeps m n typ r row (keeps_refl 196608 s) rfl
      refine ih (s := s.forwardVideo m n typ r row) hd ((List.mem_cons.mp h).resolve_left ho) ((forwardVideo_beside ho).trans hy) ?_
      have htan := Keeps_same hkeep .tan rfl
      have hmd := Keeps_same hkeep .md rfl
      unfold State.mayForward State.mt
      rw [htan, hmd]
      exact hopen

/-! ### A packet of a bound input (R354, R357, R388) -/

theorem exec_videoPacketRx {r : RtpFacts} {row : VideoRow} {e : Nat} {x : FlowEntry} (hh : s.hears m r.frame.port = true)
    (hb : s.frameBad m r.frame = false) (hl : (s.vid.get m).lookup r = some (e, x)) (h3 : x.typ ≠ 3) :
    exec (.videoPacketRx m r row) s = .next (
      if x.typ = 0 && (decide (r.version ≠ 2) || r.extras || !row.headerOk || !row.within ((s.vid.get m).inp x.owner).fmt)
      then ((s.counted m r.frame.port).bump m (0x4000 + 2 * e) 1).bump m (0x4000 + 2 * e + 1) 1
      else ((((s.counted m r.frame.port).bump m (0x4000 + 2 * e) 1).videoSeq m x.owner r).videoPacket m x r row)) := by
  have hcount : s.countFrame m r.frame = s.counted m r.frame.port := if_neg (by rw [hb]; decide)
  change execVideoPacketRx m r row s = _
  unfold execVideoPacketRx
  rw [if_neg (by rw [hh]; decide), if_neg (by rw [hb]; decide), hl, hcount]
  dsimp only
  rw [if_neg h3]

/-- What a packet's sequence number changes, the way of its row does not look at. -/
theorem videoSeq_leaves (s : State) (m : Mast) (p : Nat) (r : RtpFacts) :
    ((s.videoSeq m p r).vid.get m).slack = (s.vid.get m).slack ∧ ((s.videoSeq m p r).vid.get m).outputs = (s.vid.get m).outputs ∧
      ((s.videoSeq m p r).vid.get m).idle = (s.vid.get m).idle ∧ ((s.videoSeq m p r).vid.get m).tx = (s.vid.get m).tx := by
  unfold State.videoSeq
  dsimp only
  rw [Both_get_set]
  exact ⟨rfl, rfl, rfl, rfl⟩

/-- The outputs that take a packet of an input. -/
def State.takers (s : State) (m : Mast) (i : Nat) : List Nat :=
  if (s.vid.get m).idle then [] else ((s.vid.get m).fedBy i ++
    (s.tests.filter (fun t => t.cls == 1 && t.signal == 2 && t.src == i)).map (fun t => t.output)).eraseDups

theorem takers_nodup (s : State) (m : Mast) (i : Nat) : (s.takers m i).Nodup := by
  unfold State.takers
  split
  · exact List.nodup_nil
  · exact nodup_eraseDups _

theorem mem_takers {i : Nat} (h : o ∈ (s.vid.get m).fedBy i) (hidle : (s.vid.get m).idle = false) : o ∈ s.takers m i := by
  unfold State.takers
  rw [hidle, if_neg Bool.false_ne_true]
  exact List.mem_eraseDups.mpr (List.mem_append_left _ h)

theorem fed_of_mem_takers {i : Nat} (htests : ∀ y ∈ s.tests, y.cls ≠ 1) (h : o ∈ s.takers m i) : o ∈ (s.vid.get m).fedBy i := by
  have hnone : s.tests.filter (fun t => t.cls == 1 && t.signal == 2 && t.src == i) = [] :=
    List.filter_eq_nil_iff.mpr fun y hy => by simp [htests y hy]
  unfold State.takers at h
  split at h
  · cases h
  · rw [hnone] at h
    simpa using h

theorem videoPacket_eq (x : FlowEntry) (r : RtpFacts) (row : VideoRow) : s.videoPacket m x r row =
    if x.typ = 0 then { s with vid := s.vid.set m { s.vid.get m with slack := putRows (s.vid.get m).slack (s.takers m x.owner) row } }
    else (s.takers m x.owner).foldl (fun acc o => acc.forwardVideo m o x.typ r row) s := rfl

theorem takers_of (hv : (t.vid.get m).idle = (s.vid.get m).idle) (ho : (t.vid.get m).outputs = (s.vid.get m).outputs) (ht : t.tests = s.tests)
    (i : Nat) : t.takers m i = s.takers m i := by
  unfold State.takers VideoMast.fedBy
  rw [hv, ho, ht]

/-- A state that a packet has reached, past its checks: its entry has counted it. -/
structure State.Reached (s u : State) (m : Mast) (e i : Nat) : Prop where
  slack : (u.vid.get m).slack = (s.vid.get m).slack
  tx : (u.vid.get m).tx = (s.vid.get m).tx
  takers : u.takers m i = s.takers m i
  tan : u.tan = s.tan
  md : u.md = s.md
  count : (u.ct m).read (0x4000 + 2 * e) = satAdd64 ((s.ct m).read (0x4000 + 2 * e)) 1

theorem reached_of_hears {e i : Nat} {r : RtpFacts} (hh : s.hears m r.frame.port = true) :
    s.Reached (((s.counted m r.frame.port).bump m (0x4000 + 2 * e) 1).videoSeq m i r) m e i := by
  have hport : r.frame.port < 128 := by
    unfold State.hears at hh
    simp only [Bool.and_eq_true, decide_eq_true_eq] at hh
    exact hh.1.2
  generalize hz : (s.counted m r.frame.port).bump m (0x4000 + 2 * e) 1 = z
  have hkeep : Keeps 1024 s z := by
    rw [← hz]
    exact bump_keeps _ _ _ (bump_keeps _ _ _ (keeps_refl 1024 s) rfl) rfl
  have hcount : (z.ct m).read (0x4000 + 2 * e) = satAdd64 ((s.ct m).read (0x4000 + 2 * e)) 1 := by
    rw [← hz, ct_bump_same]
    exact congrArg (fun n => satAdd64 n 1) (ct_bump_ne _ _ _ _ (by omega))
  have hvid : z.vid = s.vid := Keeps_same hkeep .vid rfl
  have hseq := videoSeq_keeps m i r (keeps_refl 65536 z) rfl
  obtain ⟨hslack, houts, hidle, htx⟩ := videoSeq_leaves z m i r
  rw [hvid] at hslack houts hidle htx
  exact ⟨hslack, htx, takers_of hidle houts ((Keeps_same hseq .tests rfl).trans (Keeps_same hkeep .tests rfl)) i,
    (Keeps_same hseq .tan rfl).trans (Keeps_same hkeep .tan rfl), (Keeps_same hseq .md rfl).trans (Keeps_same hkeep .md rfl),
    (congrArg (fun c : Both Counters => (c.get m).read (0x4000 + 2 * e)) (Keeps_same hseq .ctr rfl)).trans hcount⟩

/-! ### A packet that did not come in time (R54, R357) -/

/-- The outputs that an input feeds have counted their black samples. -/
def State.blacked (s : State) (m : Mast) (outs : List Nat) (n : Nat) : State :=
  outs.foldl (fun acc o => acc.bump m (outCounter o + 1) n) s

theorem blacked_leaves (outs : List Nat) (n : Nat) : Keeps 1024 s (s.blacked m outs n) ∧
    ((s.blacked m outs n).ct m).read 0x6008 = (s.ct m).read 0x6008 := by
  refine ⟨keeps_foldl _ _ (keeps_refl _ s) (fun t o => bump_keeps _ _ _ (keeps_refl _ t) rfl), ?_⟩
  exact foldl_fixed (part := fun u : State => (u.ct m).read 0x6008)
    (fun u o => ct_bump_ne _ _ _ _ (by unfold outCounter; omega)) outs s

theorem exec_flowUnrepaired {port ts black : Nat} (hb : ((s.vid.get m).binding port).isSome = true) (hlo : 64 ≤ port) (hhi : port ≤ 1535)
    (hs : s.serves m = true) : exec (.flowUnrepaired m port ts black) s =
      .next ((s.blacked m ((s.vid.get m).fedBy port) black).markUnrepaired m port (ts % 2 ^ 32)) := by
  change execFlowUnrepaired m port ts black s = _
  unfold execFlowUnrepaired
  dsimp only
  rw [if_neg ?_]
  · rfl
  · rw [hs]
    simp [Option.isSome_iff_ne_none.mp hb, hlo, hhi]

/-- A frame that is counted again: its count, and when it was last shown. -/
def Unrepaired.again (u : Unrepaired) (ts now : Nat) : Unrepaired :=
  { count := u.count + 1, ts := some ts,
    eventAt := if u.eventAt.elim true (fun t => decide (t + Config.second ≤ now)) then some now else u.eventAt }

theorem markUnrepaired_same {port ts : Nat} (h : ((s.vid.get m).unrepaired.getD port Unrepaired.none).ts = some ts) :
    s.markUnrepaired m port ts = s := if_pos h

theorem markUnrepaired_other {port ts : Nat} (h : ((s.vid.get m).unrepaired.getD port Unrepaired.none).ts ≠ some ts) :
    ((s.markUnrepaired m port ts).ct m).read 0x6008 = satAdd64 ((s.ct m).read 0x6008) 1 ∧
      ((s.markUnrepaired m port ts).vid.get m).unrepaired.find port =
        some (((s.vid.get m).unrepaired.getD port Unrepaired.none).again ts s.now) := by
  unfold State.markUnrepaired
  dsimp only
  rw [if_neg h]
  generalize hz : ({ s with vid := s.vid.set m { s.vid.get m with unrepaired := (s.vid.get m).unrepaired.put port _ } } : State) = z
  have hzct : z.ct m = s.ct m := by rw [← hz]; rfl
  have hzvid : (z.vid.get m).unrepaired.find port = some (((s.vid.get m).unrepaired.getD port Unrepaired.none).again ts s.now) := by
    rw [← hz]
    dsimp only
    rw [Both_get_set]
    exact Assoc_find_put ..
  have hcount : ((z.bump m 0x6008 1).ct m).read 0x6008 = satAdd64 ((s.ct m).read 0x6008) 1 := by
    rw [ct_bump_same, hzct]
  have hvid : (z.bump m 0x6008 1).vid = z.vid := Keeps_same (bump_keeps _ _ _ (keeps_refl 1024 z) rfl) .vid rfl
  split
  · have hev := fun f => event_keeps m.code evFlowUnrepaired f (keeps_refl 96 (z.bump m 0x6008 1)) rfl
    refine ⟨?_, ?_⟩
    · rw [← hcount]
      exact congrArg (fun c : Both Counters => (c.get m).read 0x6008) (Keeps_same (hev _) .ctr rfl)
    · rw [Keeps_same (hev _) .vid rfl, hvid, hzvid]
  · exact ⟨hcount, by rw [hvid, hzvid]⟩

/-! ### Notices, queries, formats and arrivals (R34, R54, R350, R355, R356, R363) -/

theorem exec_videoNotice {port seq : Nat} {x : VideoSeq} (hshare : s.sharing = true) (hr : s.receives m = true)
    (hx : (s.vid.get m).seqs.find port = some x) (hhas : ∀ y ∈ x.missing, y.1 ≠ seq) (hold : (x.seq + 65536 - seq) % 65536 < 32768) :
    ∃ t, exec (.gapNoticeRx m true port seq) s = .next t ∧ t = { s with vid := t.vid, lan := t.lan } ∧
      t.lan = s.lan.set m { s.lan.get m with
        videoOut := (s.lan.get m).videoOut ++ [{ port := port, seq := seq, ts := x.ts, bytes := x.bytes }] } ∧
      (port, seq) ∉ (t.vid.get m.other).notices := by
  have hany : x.missing.any (fun e => e.1 == seq) = false := List.any_eq_false.mpr fun y hy => by simpa using hhas y hy
  change ∃ t, execGapNoticeRx m true port seq s = .next t ∧ _
  unfold execGapNoticeRx
  rw [if_neg (by simp [hshare, hr]), if_pos rfl]
  unfold State.videoNotice
  dsimp only
  rw [Both_get_set_ne _ _ (other_ne m).symm, hx]
  dsimp only
  rw [if_neg (by rw [hany]; simpa using hold)]
  refine ⟨_, rfl, rfl, rfl, ?_⟩
  dsimp only
  rw [Both_get_set]
  simp

theorem exec_membershipQuery (hr : s.receives m = true) : ∃ t, exec (.membershipQuery m) s = .next t ∧
    t.vid = s.vid.set m { s.vid.get m with reported := (s.vid.get m).members.map (fun x => (x, false)) } := by
  change ∃ t, execMembershipQuery m s = .next t ∧ _
  unfold execMembershipQuery
  rw [if_pos hr]
  unfold State.sendReports
  refine ⟨_, rfl, ?_⟩
  exact foldl_fixed (part := fun u : State => u.vid)
    (fun (u : State) (e : Membership × Bool) => Keeps_same (offer_keeps m (some e.1.port) 0 64 (keeps_refl 131072 u) rfl) .vid rfl) _ _

theorem inp_setInp (s : State) (m : Mast) (i : Nat) (x : VideoIn) : ((s.setInp m i x).vid.get m).inp i = x := by
  unfold State.setInp VideoMast.inp
  dsimp only
  rw [Both_get_set]
  exact Assoc_getD_put ..

theorem inp_setInp_ne (s : State) (x : VideoIn) {i : Nat} (h : k ≠ m) : ((s.setInp m i x).vid.get k).inp i = (s.vid.get k).inp i := by
  unfold State.setInp
  dsimp only
  rw [Both_get_set_ne _ _ h]

/-- A format that the Captain recognises on a flow is used on both masts (R350, R351). -/
theorem exec_formatRecognised {i fmt : Nat} (hv : s.videoRuns = true) (hvar : Config.hasVideo s.variant = true) (hi : i ≤ 1535)
    (habs : videoAbsent s.variant i = false) (hfmt : fmtValid fmt = true) (hcap : s.isCaptain m = true) (hlo : 64 ≤ i)
    (hfits : fmt = 0 ∨ (fmt < 192 ∧ (s.vid.get m).inType i = 0 ∧ ((s.vid.get m).binding i).isSome = true)) :
    ∃ t, exec (.formatRecognised m i fmt) s = .next t ∧ ∀ k, (t.vid.get k).inp i = { (s.vid.get k).inp i with
      fmt := fmt, present := decide (fmt ≠ 0), arrival := if fmt = 0 then none else ((s.vid.get k).inp i).arrival } := by
  have hlive : s.live m = true := by
    have hst : s.tst m = .captain := of_decide_eq_true hcap
    simp [State.live, State.serves, hst]
  change ∃ t, execFormatRecognised m i fmt s = .next t ∧ _
  unfold execFormatRecognised
  dsimp only
  rw [if_neg (by simp [hv, hvar, hi, habs, hfmt, hlive]), if_neg ?_, if_neg (by omega), if_pos hcap]
  · refine ⟨_, rfl, fun k => ?_⟩
    unfold bothMasts
    dsimp only [List.foldl_cons, List.foldl_nil]
    have hgauge (u : State) (j : Mast) (n : Nat) (z : Int) : (u.gauge j n z).vid = u.vid :=
      Keeps_same (gauge_keeps j n z (keeps_refl 1024 u) rfl) .vid rfl
    cases k with
    | a => rw [hgauge, inp_setInp_ne _ _ (by decide), hgauge, inp_setInp]
    | b => rw [hgauge, inp_setInp, hgauge, inp_setInp_ne _ _ (by decide)]
  · rcases hfits with h | ⟨hlt, htyp, hbound⟩
    · simp [h]
    · simp [hlt, htyp, hbound]

/-- An arrival that is measured is the input's (R363). -/
theorem exec_arrivalMeasurement {i rate slips : Nat} {arrival : Int} (hi : i ≤ 1535) (hlive : s.live m = true) (hv : s.videoRuns = true)
    (hfmt : ((s.vid.get m).inp i).fmt ≠ 0) : ∃ t, exec (.arrivalMeasurement m i arrival rate slips) s = .next t ∧ (t.vid.get m).inp i =
      { (s.vid.get m).inp i with arrival := some arrival, rate := rate, present := true } := by
  change ∃ t, execArrivalMeasurement m i arrival rate slips s = .next t ∧ _
  unfold execArrivalMeasurement
  dsimp only
  rw [if_neg (by simp [hi, hlive, hv, hfmt])]
  refine ⟨_, rfl, ?_⟩
  have hset := inp_setInp s m i { (s.vid.get m).inp i with arrival := some arrival, rate := rate, present := true }
  have hgauge (u : State) (n : Nat) (z : Int) : (u.gauge m n z).vid = u.vid :=
    Keeps_same (gauge_keeps m n z (keeps_refl 1024 u) rfl) .vid rfl
  have hbump (u : State) (n q : Nat) : (u.bump m n q).vid = u.vid := Keeps_same (bump_keeps m n q (keeps_refl 1024 u) rfl) .vid rfl
  refine (congrArg (fun v : Both VideoMast => (v.get m).inp i) ((foldl_fixed (part := State.vid) (fun u o => ?_) _ _).trans
    (hgauge (s.setInp m i { (s.vid.get m).inp i with arrival := some arrival, rate := rate, present := true }) _ _))).trans hset
  split
  · rfl
  · split
    · rfl
    · split
      · exact hbump ..
      · rfl

/-- Settles O50: by what the flow table and the groups kept say of the packet. -/
theorem videoArrives : Obligations.VideoArrives := by
  unfold Obligations.VideoArrives
  intro m r row s
  refine ⟨fun hh hb => ?_, fun hh hb => ?_, fun port ts black hbound hlo hhi hs => ?_,
    fun port seq x hshare hr hx hhas hold => exec_videoNotice hshare hr hx hhas hold, exec_membershipQuery,
    fun i fmt hv hvar hi habs hvalid hcap hlo => ⟨fun h0 => ?_, fun hne hlt htyp hbound => ?_⟩,
    fun i arrival rate slips hi hlive hv hfmt => exec_arrivalMeasurement hi hlive hv hfmt⟩
  · change execVideoPacketRx m r row s = _
    unfold execVideoPacketRx
    rw [if_neg (by rw [hh]; decide), if_pos hb]
    exact congrArg Outcome.next (if_pos hb)
  · intro u v
    refine ⟨fun hnone => ?_, fun e x hlook => ⟨fun htyp hbad => ?_, fun htyp hv hext hok hin => ?_, fun htyp => ?_⟩⟩
    · have hcount : s.countFrame m r.frame = u := if_neg (by rw [hb]; decide)
      change execVideoPacketRx m r row s = _
      unfold execVideoPacketRx
      rw [if_neg (by rw [hh]; decide), if_neg (by rw [hb]; decide), hnone, hcount]
    · rw [exec_videoPacketRx hh hb hlook (by omega), if_pos]
      · rfl
      · have hbad : r.version ≠ 2 ∨ r.extras = true ∨ row.headerOk = false ∨ row.within ((s.vid.get m).inp x.owner).fmt = false := hbad
        simpa [htyp, or_assoc] using hbad
    · obtain ⟨hslack, -, htakers, -, -, hcount⟩ := reached_of_hears (e := e) (i := x.owner) hh
      rw [exec_videoPacketRx hh hb hlook (by omega), if_neg (by simp [hv, hext, hok]; exact fun _ => hin), videoPacket_eq, if_pos htyp]
      refine ⟨_, rfl, hcount, fun o ho hidle => ?_, fun htests o ho => ?_⟩
      · dsimp only
        rw [Both_get_set]
        dsimp only
        rw [hslack, htakers]
        exact putRows_at (takers_nodup ..) (mem_takers ho hidle)
      · dsimp only
        rw [Both_get_set]
        dsimp only
        rw [hslack, htakers]
        exact putRows_beside fun h => ho (fed_of_mem_takers htests h)
    · have h0 : x.typ ≠ 0 := by omega
      obtain ⟨-, htx, htakers, htan, hmd, -⟩ := reached_of_hears (e := e) (i := x.owner) hh
      rw [exec_videoPacketRx hh hb hlook (by omega), if_neg (by simp [h0]), videoPacket_eq, if_neg h0]
      refine ⟨_, rfl, fun o ho y hidle hy hbit hpkt hmode => ?_⟩
      rw [htakers]
      refine foldl_forwardVideo_sends (takers_nodup ..) (mem_takers ho hidle) (by rw [htx]; exact hy) ⟨hbit, ?_, by rw [hmd]; exact hmode⟩
      rw [State.mt, htan]
      exact hpkt
  · intro old due
    obtain ⟨hkeep, hread⟩ := blacked_leaves (s := s) (m := m) ((s.vid.get m).fedBy port) black
    have hvid := Keeps_same hkeep .vid rfl
    have hnow := Keeps_same hkeep .now rfl
    rw [exec_flowUnrepaired hbound hlo hhi hs]
    generalize s.blacked m ((s.vid.get m).fedBy port) black = z at hkeep hread hvid hnow
    refine ⟨fun hsame => ?_, fun hother => ?_⟩
    · rw [markUnrepaired_same (by rw [hvid]; exact hsame)]
      exact ⟨z, rfl, eq_pick_of_keeps hkeep, hread⟩
    · obtain ⟨hcount, hfind⟩ := markUnrepaired_other (s := z) (m := m) (port := port) (ts := ts % 2 ^ 32) (by rw [hvid]; exact hother)
      refine ⟨_, rfl, by rw [hcount, hread], ?_⟩
      rw [hfind, hvid, hnow]
      rfl
  · subst h0
    exact exec_formatRecognised hv hvar hi habs hvalid hcap hlo (.inl rfl)
  · obtain ⟨t, hexec, hinp⟩ := exec_formatRecognised hv hvar hi habs hvalid hcap hlo (.inr ⟨hlt, htyp, hbound⟩)
    refine ⟨t, hexec, fun k => ?_⟩
    rw [hinp, if_neg hne, decide_eq_true hne]

end Sys2Proof.Machine

/-! # O51: crosspoint entries are decided, switched and counted (R368 to R375, R379, R381) -/
namespace Sys2Proof.Machine
open Host Sys2Proof

variable {s t u : State} {m k c : Mast} {o n : Nat}

/-! ### An output of a mast -/

theorem out_setOut (s : State) (m : Mast) (o : Nat) (x : XptOut) : ((s.setOut m o x).vid.get m).out o = x := by
  unfold State.setOut VideoMast.out
  dsimp only
  rw [Both_get_set]
  exact Assoc_getD_put ..

theorem out_setOut_beside (s : State) (x : XptOut) (h : n ≠ o) :
    ((s.setOut m o x).vid.get k).out n = (s.vid.get k).out n := by
  unfold State.setOut VideoMast.out
  by_cases hk : k = m
  · subst hk
    dsimp only
    rw [Both_get_set]
    exact Assoc_getD_put_ne _ _ _ h
  · dsimp only
    rw [Both_get_set_ne _ _ hk]

theorem vid_setOut_ne (s : State) (x : XptOut) (h : k ≠ m) : (s.setOut m o x).vid.get k = s.vid.get k :=
  Both_get_set_ne _ _ h

theorem bumpOut_vid (s : State) (o k n : Nat) : (s.bumpOut o k n).vid = s.vid :=
  Keeps_same (bumpOut_keeps o k n (keeps_refl 1024 s) rfl) .vid rfl

/-- The same change of an output on both masts (R374, R379). -/
def State.changeOut (s : State) (o : Nat) (f : XptOut → XptOut) : State :=
  bothMasts.foldl (fun acc m => acc.setOut m o (f ((acc.vid.get m).out o))) s

theorem changeOut_eq (s : State) (o : Nat) (f : XptOut → XptOut) : s.changeOut o f =
    (s.setOut .a o (f ((s.vid.get .a).out o))).setOut .b o (f (((s.setOut .a o (f ((s.vid.get .a).out o))).vid.get .b).out o)) := rfl

theorem changeOut_keeps (s : State) (o : Nat) (f : XptOut → XptOut) : Keeps 65536 s (s.changeOut o f) :=
  setOut_keeps _ _ _ (setOut_keeps _ _ _ (keeps_refl _ _) rfl) rfl

theorem out_changeOut (s : State) (k : Mast) (o : Nat) (f : XptOut → XptOut) :
    ((s.changeOut o f).vid.get k).out o = f ((s.vid.get k).out o) := by
  rw [changeOut_eq]
  cases k with
  | a => rw [vid_setOut_ne _ _ (by decide), out_setOut]
  | b => rw [out_setOut, vid_setOut_ne _ _ (by decide)]

theorem out_changeOut_beside (f : XptOut → XptOut) (h : n ≠ o) : ((s.changeOut o f).vid.get k).out n = (s.vid.get k).out n := by
  rw [changeOut_eq, out_setOut_beside _ _ h, out_setOut_beside _ _ h]

theorem bump_ct_ne (s : State) (i n : Nat) (h : k ≠ m) : (s.bump m i n).ct k = s.ct k := by
  unfold State.bump
  split
  · rfl
  · exact Both_get_set_ne _ _ h

theorem serves_of_captain (h : s.captain = some c) : s.serves c = true := by
  unfold State.serves
  rw [captain_tst h]
  rfl

/-! ### The decision (R369, R371) -/

theorem settleSwitch_decides (s : State) (m : Mast) (o : Nat) (p : XptPending) : (s.settleSwitch m o p).decision.isSome = true ∧
    (s.settleSwitch m o p).order = p.order ∧ (s.settleSwitch m o p).frame = p.frame := by
  unfold State.settleSwitch
  dsimp only
  split
  · exact ⟨rfl, rfl, rfl⟩
  · split
    · exact ⟨rfl, rfl, rfl⟩
    · exact ⟨rfl, rfl, rfl⟩

theorem setDecision_decides (s : State) (m : Mast) (o : Nat) (d : XptPending) :
    ∀ q ∈ (((s.setDecision m o d).vid.get m).out o).pending, q.order = d.order → q.frame = d.frame → q = d := by
  intro q hq hord hfr
  unfold State.setDecision at hq
  rw [out_setOut] at hq
  obtain ⟨q0, -, rfl⟩ := List.mem_map.mp hq
  by_cases h : q0.order = d.order ∧ q0.frame = d.frame
  · exact if_pos h
  · rw [if_neg h] at hord hfr
    exact absurd ⟨hord, hfr⟩ h

theorem setDecision_vid_ne (s : State) (d : XptPending) (h : k ≠ m) : (s.setDecision m o d).vid.get k = s.vid.get k :=
  vid_setOut_ne _ _ h

/-- A decision recorded on the Captain and, where it reaches it, on the Stoker. -/
def State.decideOn (s : State) (c : Mast) (o : Nat) (d : XptPending) (reached : Bool) : State :=
  if reached then (s.setDecision c o d).setDecision c.other o d else s.setDecision c o d

theorem decideOn_jobs (s : State) (c : Mast) (o : Nat) (d : XptPending) (reached : Bool) : (s.decideOn c o d reached).jobs = s.jobs := by
  unfold State.decideOn
  split
  · rfl
  · rfl

theorem decideOn_captain (s : State) (c : Mast) (o : Nat) (d : XptPending) (reached : Bool) :
    (s.decideOn c o d reached).vid.get c = (s.setDecision c o d).vid.get c := by
  unfold State.decideOn
  split
  · exact setDecision_vid_ne _ _ (other_ne c).symm
  · rfl

theorem mem_changeJob {order : Nat} {f : XptJob → XptJob} {j : XptJob} (hj : j ∈ s.jobs) (h : j.order = order) :
    f j ∈ (s.changeJob order f).jobs :=
  List.mem_map.mpr ⟨j, hj, if_pos h⟩

/-- What follows the decision: a refused entry counts in its command. -/
def State.decided (s : State) (order : Nat) (d : XptPending) : State :=
  if d.decision = some .refused then s.changeJob order (fun j => { j with refused := j.refused + 1, left := j.left - 1 }) else s

theorem decided_vid (s : State) (order : Nat) (d : XptPending) : (s.decided order d).vid = s.vid := by
  unfold State.decided
  split
  · rfl
  · rfl

theorem exec_switchFinalDecision {p : XptPending} {reached : Bool} (hcap : s.captain = some c)
    (hp : nextDue ((s.vid.get c).out o) (s.step + 8) = some p) (hd : p.decision = none) :
    exec (.switchFinalDecision o reached) s =
      .next ((s.decideOn c o (s.settleSwitch c o p) reached).decided p.order (s.settleSwitch c o p)) := by
  change execSwitchFinalDecision o reached s = _
  unfold execSwitchFinalDecision
  rw [hcap]
  dsimp only
  rw [hp]
  exact congrArg Outcome.next (if_neg (by simp [hd]))

theorem exec_stokerOwnSwitchDecision {p : XptPending} (hst : s.tst m = .stoker) (hot : s.tst m.other ≠ .stoker)
    (hp : nextDue ((s.vid.get m).out o) (s.step + 2) = some p) (hd : p.decision = none) :
    exec (.stokerOwnSwitchDecision o) s =
      .next ((s.setDecision m o (s.settleSwitch m o p)).flag m .lateCommit s.step s.window) := by
  have hfind : bothMasts.find? (fun k => s.tst k == .stoker) = some m := by
    cases m with
    | a => simp [bothMasts, hst]
    | b =>
      have ha : s.tst .a ≠ .stoker := hot
      simp [bothMasts, hst, ha]
  change execStokerOwnSwitchDecision o s = _
  unfold execStokerOwnSwitchDecision
  rw [hfind]
  dsimp only
  rw [hp]
  exact congrArg Outcome.next (if_neg (by simp [hd]))

/-! ### The switch point (R368, R371, R375) -/

/-- The request that a mast switches to: its own where it is decided, else the Captain's. -/
def XptPending.orOf (q p : XptPending) : XptPending := if q.decision.isSome then q else p

/-- The part of a mast in a switch point, in a state that both masts' parts may have led to from the state `s`. -/
def State.switchOn (s : State) (o : Nat) (p : XptPending) (acc : State) (m : Mast) : State :=
  match ((acc.vid.get m).out o).pending.find? (fun q => q.order == p.order && q.frame == p.frame) with
  | some q =>
    let acc1 := acc.setOut m o (((acc.vid.get m).out o).switch (acc.vid.get m) (q.orOf p) (acc.switchTime m o (q.orOf p)))
    if (q.orOf p).decision = some .unclean && s.serves m then acc1.bump m (outCounter o) 1 else acc1
  | none => acc

theorem switchOn_beside (s : State) (p : XptPending) (h : k ≠ m) :
    (s.switchOn o p t m).vid.get k = t.vid.get k ∧ (s.switchOn o p t m).ct k = t.ct k := by
  unfold State.switchOn
  split
  · dsimp only
    split
    · exact ⟨vid_setOut_ne _ _ h, bump_ct_ne _ _ _ h⟩
    · exact ⟨vid_setOut_ne _ _ h, rfl⟩
  · exact ⟨rfl, rfl⟩

theorem switchOn_jobs (s : State) (p : XptPending) (acc : State) (m : Mast) : (s.switchOn o p acc m).jobs = acc.jobs := by
  unfold State.switchOn
  split
  · dsimp only
    split
    · rfl
    · rfl
  · rfl

/-- The outcome of a switch point on a mast that holds the request decided. -/
theorem switchOn_switches {p : XptPending} (hd : p.decision.isSome = true)
    (hp : ((t.vid.get m).out o).pending.find? (fun q => q.order == p.order && q.frame == p.frame) = some p) :
    (∃ at', ((s.switchOn o p t m).vid.get m).out o = ((t.vid.get m).out o).switch (t.vid.get m) p at') ∧
    (p.decision = some .unclean → s.serves m = true →
      ((s.switchOn o p t m).ct m).read (outCounter o) = satAdd64 ((t.ct m).read (outCounter o)) 1) := by
  have hor : p.orOf p = p := if_pos hd
  unfold State.switchOn
  rw [hp]
  dsimp only
  rw [hor]
  refine ⟨⟨t.switchTime m o p, ?_⟩, fun hu hs => ?_⟩
  · split
    · exact out_setOut ..
    · exact out_setOut ..
  · rw [if_pos (by simp [hu, hs])]
    exact ct_bump_same ..

/-- Both masts at a switch point. -/
def State.switchBoth (s : State) (o : Nat) (p : XptPending) : State := bothMasts.foldl (s.switchOn o p) s

theorem switchBoth_captain {p : XptPending} (hcap : s.captain = some c) (hd : p.decision.isSome = true)
    (hp : ((s.vid.get c).out o).pending.find? (fun q => q.order == p.order && q.frame == p.frame) = some p) :
    (∃ at', ((s.switchBoth o p).vid.get c).out o = ((s.vid.get c).out o).switch (s.vid.get c) p at') ∧
    (s.switchBoth o p).jobs = s.jobs ∧
    (p.decision = some .unclean → ((s.switchBoth o p).ct c).read (outCounter o) = satAdd64 ((s.ct c).read (outCounter o)) 1) := by
  have hserves : s.serves c = true := serves_of_captain hcap
  change _ ∧ ((s.switchOn o p (s.switchOn o p s .a) .b)).jobs = s.jobs ∧ _
  refine ⟨?_, (switchOn_jobs ..).trans (switchOn_jobs ..), ?_⟩
  · change ∃ at', ((s.switchOn o p (s.switchOn o p s .a) .b).vid.get c).out o = _
    cases c with
    | a => rw [(switchOn_beside s p (by decide)).1]; exact (switchOn_switches hd hp).1
    | b =>
      have hv := (switchOn_beside (t := s) (m := .a) (k := .b) (o := o) s p (by decide)).1
      rw [← hv] at hp ⊢
      exact (switchOn_switches hd hp).1
  · intro hu
    change ((s.switchOn o p (s.switchOn o p s .a) .b).ct c).read _ = _
    cases c with
    | a => rw [(switchOn_beside s p (by decide)).2]; exact (switchOn_switches hd hp).2 hu hserves
    | b =>
      obtain ⟨hv, hc⟩ := switchOn_beside (t := s) (m := .a) (k := .b) (o := o) s p (by decide)
      rw [← hv] at hp
      rw [← hc]
      exact (switchOn_switches hd hp).2 hu hserves

/-- What a command counts of an entry switched cleanly or uncleanly (R375). -/
def State.countSwitch (s : State) (p : XptPending) : State :=
  match p.decision with
  | some .clean => s.changeJob p.order (fun j =>
      { j with clean := j.clean + 1, left := j.left - 1, first := some (j.first.elim p.q (fun f => Nat.min f p.q)) })
  | some .unclean => s.changeJob p.order (fun j =>
      { j with unclean := j.unclean + 1, left := j.left - 1, first := some (j.first.elim p.q (fun f => Nat.min f p.q)) })
  | _ => s

theorem countSwitch_keeps (s : State) (p : XptPending) : Keeps 33554432 s (s.countSwitch p) := by
  unfold State.countSwitch
  split
  · exact changeJob_keeps _ _ (keeps_refl _ _) rfl
  · exact changeJob_keeps _ _ (keeps_refl _ _) rfl
  · exact keeps_refl _ _

theorem exec_switchPoint {p : XptPending} (hcap : s.captain = some c)
    (hp : nextDue ((s.vid.get c).out o) s.step = some p) (hd : p.decision.isSome = true) :
    exec (.switchPoint o) s = .next ((s.switchBoth o p).countSwitch p) := by
  change execSwitchPoint o s = _
  unfold execSwitchPoint
  dsimp only
  rw [lead_of_captain hcap, hp]
  have hdec : p.decision.isNone = false := by rw [← Option.not_isSome, hd]; rfl
  exact congrArg Outcome.next (if_neg (by simp [hdec, hcap]))

theorem switch_pending (x : XptOut) (v : VideoMast) (p : XptPending) (at' : Int) :
    ∀ q ∈ (x.switch v p at').pending, ¬ (q.order = p.order ∧ q.frame = p.frame) := by
  have hpend : (x.switch v p at').pending = x.pending.filter (fun q => !(q.order == p.order && q.frame == p.frame)) := by
    unfold XptOut.switch
    dsimp only
    split
    · rfl
    · rfl
    · rfl
  rw [hpend]
  intro q hq h
  simpa [h] using (List.mem_filter.mp hq).2

theorem switch_clean {p : XptPending} (x : XptOut) (v : VideoMast) (at' : Int) (h : p.decision = some .clean) :
    (x.switch v p at').input = p.input ∧ (x.switch v p at').clean = true ∧ (x.switch v p at').track = none := by
  unfold XptOut.switch
  rw [h]
  exact ⟨rfl, rfl, rfl⟩

theorem switch_unclean {p : XptPending} (x : XptOut) (v : VideoMast) (at' : Int) (h : p.decision = some .unclean) :
    (x.switch v p at').input = p.input ∧ (x.switch v p at').clean = false ∧ (x.switch v p at').track = p.track := by
  unfold XptOut.switch
  rw [h]
  exact ⟨rfl, rfl, rfl⟩

theorem switch_refused {p : XptPending} (x : XptOut) (v : VideoMast) (at' : Int) (h : p.decision = some .refused) :
    (x.switch v p at').input = x.input := by
  unfold XptOut.switch
  rw [h]

/-! ### A change of a source (R374) -/

/-- What an output does where its source delivers black, resumes, or is re-tracked. -/
def State.sourceChanged (s : State) (c : Mast) (o black : Nat) : SourceAct → State
  | .keep => s
  | .black => (s.changeOut o (fun y => { y with black := true })).bumpOut o 1 (if ((s.vid.get c).out o).fmt = 0 then 0 else black)
  | .resume => s.changeOut o
      (fun y => { y with black := false, fmt := (s.vid.get c).emitFmt o ((s.vid.get c).out o).input })
  | .retrack t f => (s.changeOut o (fun y =>
      { y with black := false, clean := false, track := t, fmt := f, since := s.retrackPoint c o
               before := if y.fmt = 0 then Option.none else some (y.input, y.track) })).bumpOut o 0 1

theorem exec_sourceChange {delivers : Bool} {black : Nat} (hcap : s.captain = some c)
    (hin : ((s.vid.get c).out o).input ≠ 0xFFFF) (hidle : (s.vid.get c).idle = false) :
    exec (.sourceChange o delivers black) s = .next (s.sourceChanged c o black (s.sourceAct c o delivers)) := by
  change execSourceChange o delivers black s = _
  unfold execSourceChange
  rw [hcap]
  dsimp only
  rw [if_neg (by simp [hin, hidle])]
  cases s.sourceAct c o delivers with
  | keep => rfl
  | black => rfl
  | resume => rfl
  | retrack t f => rfl

/-! ### Overload of the fabric (R379) -/

theorem hold_hold (x : XptOut) : x.hold.hold = x.hold := rfl

/-- An output into HOLD_BLACK, with its count. -/
def State.holdOut (s : State) (o : Nat) : State := (s.changeOut o XptOut.hold).bumpOut o 3 1

theorem out_holdOut (s : State) (k : Mast) (o : Nat) : ((s.holdOut o).vid.get k).out o = ((s.vid.get k).out o).hold := by
  unfold State.holdOut
  rw [bumpOut_vid]
  exact out_changeOut ..

theorem out_holdOut_beside (h : n ≠ o) : ((s.holdOut o).vid.get k).out n = (s.vid.get k).out n := by
  unfold State.holdOut
  rw [bumpOut_vid]
  exact out_changeOut_beside _ h

/-- Outputs into HOLD_BLACK, one after another. -/
def State.holdOuts (s : State) (gone : List Nat) : State := gone.foldl State.holdOut s

theorem holdOuts_keeps (s : State) (gone : List Nat) : Keeps 66560 s (s.holdOuts gone) :=
  keeps_foldl _ _ (keeps_refl _ _) fun t n =>
    bumpOut_keeps _ _ _ (keeps_mono (changeOut_keeps t n XptOut.hold) rfl) rfl

theorem holdOuts_beside {gone : List Nat} (h : n ∉ gone) : ((s.holdOuts gone).vid.get k).out n = (s.vid.get k).out n := by
  induction gone generalizing s with
  | nil => rfl
  | cons o gone ih =>
    rw [List.mem_cons, not_or] at h
    exact (ih (s := s.holdOut o) h.2).trans (out_holdOut_beside h.1)

/-- An output may stand twice in the list: to hold it again changes nothing. -/
theorem holdOuts_held {gone : List Nat} (h : n ∈ gone) : ((s.holdOuts gone).vid.get k).out n = ((s.vid.get k).out n).hold := by
  induction gone generalizing s with
  | nil => cases h
  | cons o gone ih =>
    change (((s.holdOut o).holdOuts gone).vid.get k).out n = _
    by_cases hn : n ∈ gone
    · rw [ih hn]
      by_cases ho : n = o
      · rw [ho, out_holdOut, hold_hold]
      · rw [out_holdOut_beside ho]
    · rw [holdOuts_beside hn, (List.mem_cons.mp h).resolve_right hn, out_holdOut]

theorem exec_fabricOverload {gone : List Nat} (hcap : s.captain = some c)
    (hg : (s.vid.get c).overloaded (((s.vid.get c).outputs.filter (fun x => x.2.input != 0xFFFF)).map (fun x => x.1)).reverse
      ((s.vid.get c).outputs.map (fun x => (x.1, x.2.input, x.2.fmt))) = gone) :
    exec .fabricOverload s = .next (if gone.isEmpty then s else (s.holdOuts gone).report c 0x27 0xC0000001) := by
  change execFabricOverload s = _
  unfold execFabricOverload
  rw [hcap]
  dsimp only
  rw [hg]
  rfl

/-! ### The obligation -/

/-- Settles O51: the decision eight steps ahead, then the switch at its point. -/
theorem switchesHappen : Obligations.SwitchesHappen := by
  unfold Obligations.SwitchesHappen
  intro c o s
  refine ⟨fun p hcap hp hd => ?_, fun m p hst hot hp hd => exec_stokerOwnSwitchDecision hst hot hp hd,
    fun p hcap hp hown => ⟨fun hd => ?_, fun hd => ?_, fun hd => ?_⟩,
    fun black k hcap hin hidle => ⟨?_, fun hact => ?_, fun hact => ?_, fun tr f hact => ?_⟩, fun hcap => ?_,
    fun m region cell hr hc hv hl hvar => ?_⟩
  · intro d reached
    obtain ⟨hsome, hord, hfr⟩ := settleSwitch_decides s c o p
    refine ⟨_, exec_switchFinalDecision hcap hp hd, hsome, fun q hq ho hf => ?_, fun hreach q hq ho hf => ?_, fun hreach => ?_,
      fun hrefused j hj ho => ?_⟩
    · rw [decided_vid, decideOn_captain] at hq
      exact setDecision_decides s c o d q hq (ho.trans hord.symm) (hf.trans hfr.symm)
    · rw [decided_vid, hreach] at hq
      exact setDecision_decides (s.setDecision c o d) c.other o d q hq (ho.trans hord.symm) (hf.trans hfr.symm)
    · rw [decided_vid, hreach]
      exact setDecision_vid_ne _ _ (other_ne c)
    · unfold State.decided
      rw [if_pos hrefused]
      exact mem_changeJob (f := fun j => { j with refused := j.refused + 1, left := j.left - 1 })
        ((decideOn_jobs s c o d reached).symm ▸ hj) ho
  · have hsome : p.decision.isSome = true := by rw [hd]; rfl
    obtain ⟨⟨at', hout⟩, hjobs, -⟩ := switchBoth_captain hcap hsome hown
    obtain ⟨hinput, hclean, htrack⟩ := switch_clean ((s.vid.get c).out o) (s.vid.get c) at' hd
    refine ⟨_, exec_switchPoint hcap hp hsome, ?_⟩
    rw [Keeps_same (countSwitch_keeps (s.switchBoth o p) p) .vid rfl, hout]
    refine ⟨hinput, hclean, htrack, switch_pending _ _ _ _, fun j hj ho => ?_⟩
    unfold State.countSwitch
    rw [hd]
    exact ⟨_, mem_changeJob (hjobs.symm ▸ hj) ho, rfl, rfl, rfl⟩
  · have hsome : p.decision.isSome = true := by rw [hd]; rfl
    obtain ⟨⟨at', hout⟩, hjobs, hct⟩ := switchBoth_captain hcap hsome hown
    obtain ⟨hinput, hclean, htrack⟩ := switch_unclean ((s.vid.get c).out o) (s.vid.get c) at' hd
    refine ⟨_, exec_switchPoint hcap hp hsome, ?_⟩
    rw [Keeps_same (countSwitch_keeps (s.switchBoth o p) p) .vid rfl, hout]
    refine ⟨hinput, hclean, htrack, ?_, fun j hj ho => ?_⟩
    · have hkeep := Keeps_same (countSwitch_keeps (s.switchBoth o p) p) .ctr rfl
      refine Eq.trans ?_ (hct hd)
      exact congrArg (fun x => (Both.get x c).read (outCounter o)) hkeep
    · unfold State.countSwitch
      rw [hd]
      exact ⟨_, mem_changeJob (hjobs.symm ▸ hj) ho, rfl, rfl, rfl⟩
  · have hsome : p.decision.isSome = true := by rw [hd]; rfl
    obtain ⟨⟨at', hout⟩, -, -⟩ := switchBoth_captain hcap hsome hown
    refine ⟨_, exec_switchPoint hcap hp hsome, ?_⟩
    rw [Keeps_same (countSwitch_keeps (s.switchBoth o p) p) .vid rfl, hout]
    exact ⟨switch_refused _ _ _ hd, switch_pending _ _ _ _⟩
  · have hact : s.sourceAct c o false = .black := rfl
    refine ⟨_, exec_sourceChange hcap hin hidle, ?_⟩
    rw [hact]
    unfold State.sourceChanged
    dsimp only
    rw [bumpOut_vid]
    exact out_changeOut ..
  · rw [exec_sourceChange hcap hin hidle, hact]
    rfl
  · refine ⟨_, exec_sourceChange hcap hin hidle, ?_⟩
    rw [hact]
    unfold State.sourceChanged
    dsimp only
    rw [out_changeOut]
    exact ⟨rfl, rfl⟩
  · refine ⟨_, exec_sourceChange hcap hin hidle, ?_⟩
    rw [hact]
    unfold State.sourceChanged
    dsimp only
    rw [bumpOut_vid, out_changeOut]
    exact ⟨rfl, rfl, rfl, rfl, rfl⟩
  · intro v gone
    have hexec := exec_fabricOverload (gone := gone) hcap rfl
    refine ⟨fun hnil => ?_, fun hne => ⟨s.holdOuts gone, ?_, ?_, fun k => ⟨fun n hn => holdOuts_held hn, fun n hn => holdOuts_beside hn⟩⟩⟩
    · rw [hexec, if_pos (by rw [hnil]; rfl)]
    · rw [hexec, if_neg (by simpa using hne)]
    · exact eq_pick_of_keeps (holdOuts_keeps s gone)
  · change execCellCrcMismatch m region cell s = _
    unfold execCellCrcMismatch
    exact congrArg Outcome.next (if_neg (by simp [hv, hl, hvar]; omega))

end Sys2Proof.Machine

/-! # O52: a lane that comes up shows its state in a gauge (R394, R398)

`setLane` writes the gauge of the lane's state beside the lane. A lane that a clearing detector brings up so changes the
counters of its mast too, and not the audio, video and lane parts alone. -/
namespace Sys2Proof.Machine
open Host Sys2Proof

/-- The reset state with lane 0 of MAST 0 down under its loss-of-signal detector. -/
def State.laneZeroDown : State :=
  { State.reset with
      lan := State.reset.lan.set .a
        { State.reset.lan.get .a with lanes := [(0, { Lane.none with st := .down, los := true })] } }

/-- Lane 0 comes up where the detector clears. -/
theorem exec_laneLos_zeroDown : exec (.laneLos .a 0 false) State.laneZeroDown =
    .next (State.laneZeroDown.setLane .a 0 { Lane.none with st := .up, upOnce := true }) := rfl

/-- The gauge of the state of a lane. -/
theorem gauge_setLane (s : State) (m : Mast) (l : Nat) (x : Lane) :
    ((s.setLane m l x).ct m).gauges.find (0x6100 + 4 * l + 3) = some (x.st.code : Int) := by
  unfold State.setLane State.gauge State.ct
  dsimp only
  rw [Both_get_set]
  exact Assoc_find_put ..

/-- Refutes O52: the gauge of lane 0 of MAST 0, which shows nothing at first, shows UP once the lane is up. -/
theorem not_lanesMove : ¬ Obligations.LanesMove := by
  unfold Obligations.LanesMove
  intro h
  obtain ⟨-, hclears, -⟩ := h .a 0 .laneZeroDown
  obtain ⟨t, hexec, -, hrest⟩ := hclears rfl rfl (Or.inl rfl)
  rw [exec_laneLos_zeroDown] at hexec
  injection hexec with ht
  have hshown : (t.ct .a).gauges.find 0x6103 = some (LaneSt.up.code : Int) := ht ▸ gauge_setLane ..
  have hsame : t.ctr = State.laneZeroDown.ctr := by rw [hrest]
  have hblank : (t.ct .a).gauges.find 0x6103 = none := by
    unfold State.ct
    rw [hsame]
    rfl
  rw [hblank] at hshown
  cases hshown

end Sys2Proof.Machine

/-! # O54: the Stay and Shroud links (R84, R94, R401 to R413, R585) -/
namespace Sys2Proof.Machine
open Host Sys2Proof

variable {s t u : State} {m k : Mast} {l : Nat}

/-! ### Lanes and links of a mast -/

theorem lane_setLane (s : State) (m : Mast) (l : Nat) (x : Lane) : (s.setLane m l x).lane m l = x := by
  unfold State.setLane State.lane
  dsimp only [State.gauge_lan]
  rw [Both_get_set]
  exact Assoc_getD_put ..

theorem drawBytes_length (n : Nat) (s : State) : (State.drawBytes n s).1.length = n := by
  induction n generalizing s with
  | zero => rfl
  | succ n ih => exact congrArg (· + 1) (ih _)

/-- MARKER_SEND on a lane of the links takes a new seed of 31 bits, never zero (R402, R403). -/
theorem exec_markerSend (hlo : 192 ≤ l) (hhi : l < 232) (hw : (s.lane m l).watched = true) :
    exec (.markerSend m l) s = .next (s.draw.2.setLane m l
      { s.lane m l with txFrame := ((s.lane m l).txFrame + 1) % 256, txSeed := s.draw.1 % (2 ^ 31 - 1) + 1 }) := by
  change execMarkerSend m l s = _
  unfold execMarkerSend
  exact congrArg Outcome.next (if_neg (by simp [hlo, hhi, hw]))

/-! ### Containers (R401, R406, R411) -/

/-- The part of a good container in the sequences of its link, with its count. -/
def State.contained (s : State) (m : Mast) (l cls seq : Nat) : State :=
  let s1 := s.bump m (0x0400 + 8 * l + 7) 1
  s1.setLink m (decide (224 ≤ l)) ((s1.linkOf m (decide (224 ≤ l))).take cls seq s1.now)

/-- A lane of the links that can receive a container. -/
def State.canContain (s : State) (m : Mast) (l : Nat) (blocks : List Nat) : Prop :=
  192 ≤ l ∧ l < 232 ∧ (s.lane m l).align = .aligned ∧ (s.lane m l).st = .up ∧ blocks ≠ []

section Containers
variable {cls seq : Nat} {blocks : List Nat} {tag : TagKey} {beat : Option Nat} (hc : s.canContain m l blocks)
include hc

theorem not_containerBlocked : ¬ (!(decide (192 ≤ l) && decide (l < 232)) || (s.lane m l).align != .aligned ||
    (s.lane m l).st != .up || blocks.isEmpty) = true := by
  obtain ⟨hlo, hhi, halign, hst, hne⟩ := hc
  simp [hlo, hhi, halign, hst, hne]

theorem exec_containerRx_badStart (hstart : startOk cls (blocks.length - 1) = false) :
    exec (.containerRx m l cls seq blocks tag beat) s = .next (s.bump m (0x0400 + 8 * l + 3) 1) := by
  change execContainerRx m l cls seq blocks tag beat s = _
  unfold execContainerRx
  exact congrArg Outcome.next ((if_neg (not_containerBlocked hc)).trans (if_pos (by rw [hstart]; rfl)))

theorem exec_containerRx_badCheck (hstart : startOk cls (blocks.length - 1) = true)
    (hbad : (l < 224 ∧ containerOk cls seq blocks = false) ∨ (224 ≤ l ∧ (s.lan.get m).verifies tag = false)) :
    exec (.containerRx m l cls seq blocks tag beat) s = .next (s.bump m (0x0400 + 8 * l + 2) 1) := by
  have hcheck : (!(if decide (224 ≤ l) = true then (s.lan.get m).verifies tag else containerOk cls seq blocks)) = true := by
    rcases hbad with ⟨hl, h⟩ | ⟨hl, h⟩
    · rw [if_neg (by simpa using hl), h]; rfl
    · rw [if_pos (by simpa using hl), h]; rfl
  change execContainerRx m l cls seq blocks tag beat s = _
  unfold execContainerRx
  exact congrArg Outcome.next ((if_neg (not_containerBlocked hc)).trans
    ((if_neg (by rw [hstart]; decide)).trans (if_pos hcheck)))

/-- A good container of the Stay link. -/
theorem exec_containerRx_stay (hstart : startOk cls (blocks.length - 1) = true) (hok : containerOk cls seq blocks = true)
    (hl : l < 224) : exec (.containerRx m l cls seq blocks tag beat) s = .next (s.contained m l cls seq) := by
  have hstay : decide (224 ≤ l) = false := by simpa using hl
  unfold State.contained
  change execContainerRx m l cls seq blocks tag beat s = _
  unfold execContainerRx
  rw [hstay]
  exact congrArg Outcome.next ((if_neg (not_containerBlocked hc)).trans
    ((if_neg (by rw [hstart]; decide)).trans (if_neg (by simp [hok]))))

/-- A good BEAT of the Shroud link. -/
theorem exec_containerRx_beat {n : Nat} (hlen : blocks.length = 1) (hl : 224 ≤ l) (hv : (s.lan.get m).verifies tag = true) :
    exec (.containerRx m l 1 seq blocks tag (some n)) s = .next { s.contained m l 1 seq with
      lan := ((s.contained m l 1 seq).lan.set m (((s.contained m l 1 seq).lan.get m).received tag)).set m
        { ((s.contained m l 1 seq).lan.set m (((s.contained m l 1 seq).lan.get m).received tag)).get m with
          beatAt := some (s.contained m l 1 seq).now, beatStep := n } } := by
  have hshroud : decide (224 ≤ l) = true := by simpa using hl
  have hstart : startOk 1 (blocks.length - 1) = true := by rw [hlen]; rfl
  unfold State.contained
  change execContainerRx m l 1 seq blocks tag (some n) s = _
  unfold execContainerRx
  rw [hshroud]
  exact congrArg Outcome.next ((if_neg (not_containerBlocked hc)).trans
    ((if_neg (by rw [hstart]; decide)).trans ((if_neg (by simp [hv])).trans (if_pos (by rw [hlen]; rfl)))))

end Containers

theorem lan_setLink (s : State) (m : Mast) (shroud : Bool) (x : LinkSeq) : (s.setLink m shroud x).lan.get m =
    if shroud then { s.lan.get m with shroud := x } else { s.lan.get m with stay := x } := by
  unfold State.setLink
  dsimp only
  rw [Both_get_set]

theorem contained_lan (s : State) (m : Mast) (l cls seq : Nat) : (s.contained m l cls seq).lan.get m =
    if decide (224 ≤ l) then { s.lan.get m with shroud := (s.linkOf m (decide (224 ≤ l))).take cls seq s.now }
    else { s.lan.get m with stay := (s.linkOf m (decide (224 ≤ l))).take cls seq s.now } := by
  have hkeep := bump_keeps m (0x0400 + 8 * l + 7) 1 (keeps_refl 1024 s) rfl
  have hlan : (s.bump m (0x0400 + 8 * l + 7) 1).lan = s.lan := Keeps_same hkeep .lan rfl
  have hnow : (s.bump m (0x0400 + 8 * l + 7) 1).now = s.now := Keeps_same hkeep .now rfl
  have hlink (b : Bool) : (s.bump m (0x0400 + 8 * l + 7) 1).linkOf m b = s.linkOf m b := by
    unfold State.linkOf
    rw [hlan]
  unfold State.contained
  dsimp only
  rw [lan_setLink, hlan, hlink, hnow]

/-- What a container does to the sequences of a link that holds nothing beyond a gap: delivered in order, held beyond a gap,
dropped as a second copy. -/
theorem take_cases {x : LinkSeq} {cls seq now : Nat} (hb : x.beyond = []) :
    let ahead := (seq + 2 ^ 32 - atD x.expected (cls - 1) 0) % 2 ^ 32
    (ahead = 0 → x.take cls seq now =
      { x with expected := setAt x.expected (cls - 1) ((atD x.expected (cls - 1) 0 + 1) % 2 ^ 32) }) ∧
    (0 < ahead → ahead < 2 ^ 31 → x.take cls seq now = { x with beyond := [(cls, seq, now)] }) ∧
    (2 ^ 31 ≤ ahead → x.take cls seq now = x) := by
  intro ahead
  unfold LinkSeq.take
  refine ⟨fun h0 => ?_, fun hpos hlt => ?_, fun hge => ?_⟩
  · refine (if_pos h0).trans ?_
    unfold LinkSeq.drain
    exact if_neg (by rw [hb]; exact Bool.false_ne_true)
  · refine (if_neg (Nat.ne_of_gt hpos)).trans ((if_pos ?_).trans (by rw [hb]; rfl))
    rw [hb, Bool.and_eq_true, decide_eq_true_eq]
    exact ⟨hlt, rfl⟩
  · refine (if_neg (by omega)).trans (if_neg ?_)
    rw [Bool.and_eq_true, decide_eq_true_eq, Classical.not_and_iff_not_or_not]
    exact Or.inl (by omega)

/-! ### Missing containers (R406) -/

/-- The container a link waits for is delivered once the ones missing before it are skipped. -/
theorem drain_single {x : LinkSeq} {cls seq at' : Nat} (hb : x.beyond = [(cls, seq, at')]) (he : atD x.expected (cls - 1) 0 = seq)
    (hlen : cls - 1 < x.expected.length) : (x.drain cls 2).beyond = [] ∧ atD (x.drain cls 2).expected (cls - 1) 0 = (seq + 1) % 2 ^ 32 ∧
      (x.drain cls 2).lost = x.lost := by
  have hnone : x.beyond.filter (fun b => !(b.1 == cls && b.2.1 == atD x.expected (cls - 1) 0)) = [] := by simp [hb, he]
  have honce : x.drain cls 2 = { x with beyond := [], expected := setAt x.expected (cls - 1) ((seq + 1) % 2 ^ 32) } := by
    unfold LinkSeq.drain
    dsimp only
    rw [if_pos (by simp [hb, he]), hnone, he]
    rfl
  rw [honce]
  exact ⟨rfl, atD_setAt _ _ hlen, rfl⟩

theorem linkOf_setLink (s : State) (m : Mast) (shroud : Bool) (x : LinkSeq) : (s.setLink m shroud x).linkOf m shroud = x := by
  unfold State.setLink State.linkOf
  dsimp only
  rw [Both_get_set]
  cases shroud with
  | true => rfl
  | false => rfl

/-- The sequences of a link once the containers before the one that waits are given up. -/
def LinkSeq.skipTo (x : LinkSeq) (cls near : Nat) : LinkSeq :=
  { x with expected := setAt x.expected (cls - 1) ((atD x.expected (cls - 1) 0 + near) % 2 ^ 32), lost := x.lost + near }

theorem exec_containerSeqSkip {shroud : Bool} {cls seq x0 : Nat} (hb : (s.linkOf m shroud).beyond = [(cls, seq, x0)])
    (hlate : x0 + 4 * Config.usec ≤ s.now) : exec (.containerSeqSkip m shroud cls) s = .next (s.setLink m shroud
      (((s.linkOf m shroud).skipTo cls
        ((seq + 2 ^ 32 - atD (s.linkOf m shroud).expected (cls - 1) 0) % 2 ^ 32)).drain cls 2)) := by
  have hwaits : (s.linkOf m shroud).beyond.filter (fun b => b.1 == cls) = [(cls, seq, x0)] := by simp [hb]
  have hlate' : ¬ [(cls, seq, x0)].all (fun b => decide (s.now < b.2.2 + 4 * Config.usec)) = true := by
    rw [List.all_cons, List.all_nil, Bool.and_true, decide_eq_true_eq]
    exact Nat.not_lt.mpr hlate
  change execContainerSeqSkip m shroud cls s = _
  unfold execContainerSeqSkip LinkSeq.skipTo
  dsimp only
  rw [hwaits, hb]
  rw [List.map_cons, List.map_nil]
  dsimp only
  rw [if_neg hlate', List.foldl_nil, List.length_singleton]

/-! ### TANDEM blocks and BEATs (R402, R407, R411, R412) -/

theorem exec_tandemBlockSend (h : s.nextAligned m 192 32 (s.lan.get m).tandemNext = some l) : exec (.tandemBlockSend m) s =
    .next { s with lan := s.lan.set m { s.lan.get m with
      tandemTx := some { mast := m.code, state := (s.tst m).code, mode := s.md.mode.code, step := s.step % 2 ^ 40 },
      tandemNext := 192 + (l - 192 + 1) % 32 } } := by
  change execTandemBlockSend m s = _
  unfold execTandemBlockSend
  dsimp only
  rw [h]

theorem exec_tandemBlockRx {payload : Nat} (hlo : 192 ≤ l) (hhi : l < 224) (halign : (s.lane m l).align = .aligned)
    (hst : (s.lane m l).st = .up) : exec (.tandemBlockRx m l payload) s =
      .next (if !tandemValid payload then s.bump m (0x0400 + 8 * l + 3) 1
        else { s with lan := s.lan.set m { s.lan.get m with
          tandemAt := some s.now
          tandemRx := some { mast := bitsOf payload 55 55, state := bitsOf payload 54 52, mode := bitsOf payload 51 49,
                             step := bitsOf payload 47 8 } } }) := by
  change execTandemBlockRx m l payload s = _
  unfold execTandemBlockRx
  exact congrArg Outcome.next (if_neg (by simp [hlo, hhi, halign, hst]))

theorem exec_beatSend (h : s.nextAligned m 224 8 (s.lan.get m).beatNext = some l) (hkey : (s.lan.get m).linkKey.isSome = true) :
    exec (.beatSend m) s = .next { s with lan := s.lan.set m { s.lan.get m with
      beatTx := s.step, beatNext := 224 + (l - 224 + 1) % 8, shroud := (s.lan.get m).shroud.send 1 1,
      containers := (s.lan.get m).containers + 1 } } := by
  change execBeatSend m s = _
  unfold execBeatSend
  dsimp only
  rw [h]
  exact congrArg Outcome.next (if_neg (by rw [← Option.not_isSome, hkey]; decide))

/-! ### The Shroud link and its keys (R94, R412, R585) -/

theorem exec_shroudLinkUp (hup : (s.lan.get m).shroudUp = false) (hgood : s.shroudBad m = false) :
    exec (.shroudLinkUp m) s = .next { s with
      lan := s.lan.set m { s.lan.get m with shroudUp := true }
      tan := { s.tan with pairing := { s.tan.pairing with blocked := false } } } := by
  change execShroudLinkUp m s = _
  unfold execShroudLinkUp
  exact congrArg Outcome.next (if_neg (by rw [hup, hgood]; decide))

/-- The Shroud link of a mast is down, and the take-over delay starts (R94). -/
def State.shroudFallen (s : State) (m : Mast) : State :=
  { s with
    lan := s.lan.set m { (s.lan.get m).dropKey with shroudUp := false, beatAt := none }
    tan := { s.tan with pairing := { s.tan.pairing with lastBeacon := s.now } } }

theorem exec_shroudLinkDown (hup : (s.lan.get m).shroudUp = true) (hbad : s.shroudBad m = true) :
    exec (.shroudLinkDown m) s = .next
      (((s.shroudFallen m).event 2 evShroudDown (be 4 s.tan.pairing.beacons)).report m 0x49 0xD0000004) := by
  change execShroudLinkDown m s = _
  unfold execShroudLinkDown
  exact congrArg Outcome.next (if_neg (by rw [hup, hbad]; decide))

/-- This mast's nonce in a HELLO exchange: the one that it has sent, else a fresh one. -/
def State.ownNonce (s : State) (m : Mast) : List Byte × State :=
  match (s.lan.get m).nonce with
  | some own => (own, s)
  | none => s.drawBytes 32

theorem ownNonce_sent {own : List Byte} (h : (s.lan.get m).nonce = some own) : s.ownNonce m = (own, s) := by
  unfold State.ownNonce
  rw [h]

theorem ownNonce_fresh (h : (s.lan.get m).nonce = none) :
    (s.ownNonce m).1.length = 32 ∧ (s.ownNonce m).2 = { s with freeCount := s.freeCount + 32 } := by
  unfold State.ownNonce
  rw [h]
  exact ⟨drawBytes_length 32 s, drawBytes_state 32 s⟩

theorem ownNonce_draws (s : State) (m : Mast) : (s.ownNonce m).2 = { s with freeCount := (s.ownNonce m).2.freeCount } := by
  cases h : (s.lan.get m).nonce with
  | some own => rw [ownNonce_sent h]
  | none => rw [(ownNonce_fresh h).2]

/-- A mast's links under a new link key (R585). -/
def LaneMast.rekeyed (y : LaneMast) (key : List Byte) (nonce : List Byte) : LaneMast :=
  { y with linkKey := some key, formerKey := y.linkKey, nonce := none, peerNonce := nonce, containers := 0 }

theorem exec_helloRx_fails {key : Nat} {nonce cert : List Byte} {ok : Bool} (hkey : s.shroudSecret = some key)
    (hok : s.helloOk cert ok = false) : exec (.helloRx m nonce cert ok) s = .next s := by
  change execHelloRx m nonce cert ok s = _
  unfold execHelloRx
  rw [hkey]
  exact congrArg Outcome.next (if_pos (by rw [hok]; rfl))

theorem exec_helloRx_passes {key : Nat} {nonce cert : List Byte} {ok : Bool} (hkey : s.shroudSecret = some key)
    (halign : s.shroudAligned m ≠ 0) (hok : s.helloOk cert ok = true)
    (hnew : ((s.lan.get m).linkKey.isSome && (s.lan.get m).peerNonce == nonce) = false) :
    exec (.helloRx m nonce cert ok) s = .next { (s.ownNonce m).2 with
      lan := (s.ownNonce m).2.lan.set m ((s.lan.get m).rekeyed
        (shroudKey key m ((s.ownNonce m).2.tan.pairing.role != 2) (s.ownNonce m).1 nonce) nonce) } := by
  change execHelloRx m nonce cert ok s = _
  unfold execHelloRx
  rw [hkey]
  exact congrArg Outcome.next (if_neg (by rw [hok, hnew]; simpa using halign))

theorem exec_shroudRekey (hmany : 2 ^ 40 ≤ (s.lan.get m).containers) (hkey : (s.lan.get m).linkKey.isSome = true)
    (hnonce : (s.lan.get m).nonce = none) : exec (.shroudRekey m) s = .next { (s.drawBytes 32).2 with
      lan := (s.drawBytes 32).2.lan.set m { s.lan.get m with nonce := some (s.drawBytes 32).1 } } := by
  have hsome : (s.lan.get m).linkKey.isNone = false := by rw [← Option.not_isSome, hkey]; rfl
  change execShroudRekey m s = _
  unfold execShroudRekey
  exact congrArg Outcome.next (if_neg (by rw [hsome, hnonce]; simpa using hmany))

/-! ### The obligation -/

/-- Settles O54: link by link, with one rule for lanes and one for keys. -/
theorem linksCarry : Obligations.LinksCarry := by
  unfold Obligations.LinksCarry
  intro m l s x y
  refine ⟨fun hlo hhi hw => ?_, fun cls seq blocks tag beat hlo hhi halign hst hne => ?_,
    fun shroud cls seq x0 hc1 hc4 hseq hb hlate hlen he => ?_, exec_tandemBlockSend, fun payload hlo hhi halign hst => ?_,
    exec_beatSend, exec_shroudLinkUp, fun hup hbad => ?_, fun key nonce cert ok hkey halign => ?_, fun hmany hkey hnonce => ?_⟩
  · refine ⟨_, _, exec_markerSend hlo hhi hw, ?_, ?_, lane_setLane .., rfl⟩
    · omega
    · omega
  · have hc : s.canContain m l blocks := ⟨hlo, hhi, halign, hst, hne⟩
    refine ⟨exec_containerRx_badStart hc, exec_containerRx_badCheck hc, fun hstart hok hl hb => ?_, fun n hcls hlen hl hv hbeat => ?_⟩
    · intro e ahead
      obtain ⟨hnext, hgap, hcopy⟩ := take_cases (cls := cls) (seq := seq) (now := s.now) hb
      have hlan : ((s.contained m l cls seq).lan.get m).stay = y.stay.take cls seq s.now := by
        rw [contained_lan, decide_eq_false (Nat.not_le.mpr hl)]
        exact congrArg (fun z : LinkSeq => z.take cls seq s.now) (show s.linkOf m false = y.stay from rfl)
      refine ⟨_, exec_containerRx_stay hc hstart hok hl, ct_bump_same .., fun h => ?_, fun h h' => ?_, fun h => ?_⟩
      · exact hlan.trans (hnext h)
      · exact hlan.trans (hgap h h')
      · exact hlan.trans (hcopy h)
    · subst hcls hbeat
      refine ⟨_, exec_containerRx_beat hc hlen hl hv, ?_⟩
      dsimp only
      rw [Both_get_set, Both_get_set, contained_lan, if_pos (by simpa using hl)]
      exact ⟨rfl, rfl, rfl, rfl⟩
  · have hnear : (atD (s.linkOf m shroud).expected (cls - 1) 0 +
        (seq + 2 ^ 32 - atD (s.linkOf m shroud).expected (cls - 1) 0) % 2 ^ 32) % 2 ^ 32 = seq := by omega
    have hin : cls - 1 < (s.linkOf m shroud).expected.length := by omega
    generalize hn : (seq + 2 ^ 32 - atD (s.linkOf m shroud).expected (cls - 1) 0) % 2 ^ 32 = near at hnear ⊢
    obtain ⟨hbeyond, hexp, hlost⟩ := drain_single (x := (s.linkOf m shroud).skipTo cls near) (cls := cls) (seq := seq)
      hb (by unfold LinkSeq.skipTo; dsimp only; rw [hnear]; exact atD_setAt _ _ hin)
      (by unfold LinkSeq.skipTo; dsimp only; rw [setAt, List.length_set]; exact hin)
    refine ⟨_, exec_containerSeqSkip hb hlate, ?_⟩
    rw [linkOf_setLink, hn]
    exact ⟨hbeyond, hexp, hlost⟩
  · refine ⟨fun hv => ⟨_, _, (exec_tandemBlockRx hlo hhi halign hst).trans (congrArg Outcome.next (if_neg (by rw [hv]; decide))),
      Both_get_set .., rfl⟩, fun hv => ?_⟩
    exact (exec_tandemBlockRx hlo hhi halign hst).trans (congrArg Outcome.next (if_pos (by rw [hv]; rfl)))
  · refine ⟨_, exec_shroudLinkDown hup hbad, ?_, ?_⟩
    · rw [Keeps_same (event_keeps 2 evShroudDown (be 4 s.tan.pairing.beacons) (keeps_refl 96 (s.shroudFallen m)) rfl) .lan rfl]
      exact Both_get_set ..
    · rw [event_tan]
      rfl
  · refine ⟨exec_helloRx_fails hkey, fun hok hnew => ⟨_, (s.ownNonce m).1, exec_helloRx_passes hkey halign hok hnew, ?_, ?_,
      fun z hz => ?_, fun hz => ?_⟩⟩
    · rw [ownNonce_draws]
    · have hrole : (s.ownNonce m).2.tan = s.tan := by rw [ownNonce_draws]
      rw [hrole]
      exact Both_get_set ..
    · rw [ownNonce_sent hz]
      exact ⟨rfl, rfl⟩
    · obtain ⟨hlen, hfree⟩ := ownNonce_fresh hz
      exact ⟨hlen, by rw [hfree]⟩
  · refine ⟨_, _, exec_shroudRekey hmany hkey hnonce, drawBytes_length 32 s, ?_⟩
    rw [drawBytes_state]

end Sys2Proof.Machine

/-! # O55: pairing, tracking and take-over (R6, R89 to R96, R410, R436) -/
namespace Sys2Proof.Machine
open Host Sys2Proof

variable {s t u : State} {m k : Mast}

/-! ### The pairing of the package -/

/-- A state that differs in the tandem part and in what an event changes. -/
def State.PairsOnly (s t : State) : Prop := ({ s with tan := t.tan } : State).OnlyHalyard t

theorem setPair_pairsOnly (s : State) (x : Pairing) : s.PairsOnly (s.setPair x) := OnlyHalyard_refl _

theorem setPair_event_pairsOnly (s : State) (x : Pairing) (o c : Nat) (f : List Byte) : s.PairsOnly ((s.setPair x).event o c f) := by
  unfold State.PairsOnly
  rw [event_tan]
  exact event_only ..

theorem event_setPair_pairsOnly (s : State) (x : Pairing) (o c : Nat) (f : List Byte) : s.PairsOnly ((s.event o c f).setPair x) := by
  have hmap : BesideHalyard (fun y : State => { y with tan := { s.tan with pairing := x } }) := fun _ _ _ _ => rfl
  unfold State.PairsOnly State.setPair
  rw [event_tan]
  exact OnlyHalyard_map hmap (event_only s o c f)

/-! ### The six checks (R6, R89, R90) -/

theorem firstFailure_pass {l : List Bool} (h : ∀ i, i < l.length → atD l i false = true) : firstFailure l = 0 := by
  have hnone : l.findIdx? (fun b => !b) = none := by
    rw [List.findIdx?_eq_none_iff]
    intro b hb
    obtain ⟨i, hi, rfl⟩ := List.getElem_of_mem hb
    have := h i hi
    rw [atD_of_getElem? (List.getElem?_eq_getElem hi)] at this
    rw [this]
    rfl
  unfold firstFailure
  rw [hnone]

theorem firstFailure_at {l : List Bool} {i : Nat} (hi : i < l.length) (hf : atD l i false = false)
    (hb : ∀ k, k < i → atD l k false = true) : firstFailure l = i + 1 := by
  have hsome : l.findIdx? (fun b => !b) = some i := by
    rw [List.findIdx?_eq_some_iff_getElem]
    refine ⟨hi, ?_, fun j hj => ?_⟩
    · rw [atD_of_getElem? (List.getElem?_eq_getElem hi)] at hf
      rw [hf]
      rfl
    · have := hb j hj
      rw [atD_of_getElem? (List.getElem?_eq_getElem (Nat.lt_trans hj hi))] at this
      rw [this]
      decide
  unfold firstFailure
  rw [hsome]

/-- The pairing after its checks. -/
def Pairing.checked (y : Pairing) (role reason : Nat) : Pairing :=
  let z : Pairing := { y with role := role, reason := reason, swapped := if role = y.role then y.swapped else some y.role }
  if reason = 0 then { z with paired := true, tracking := 1, divergedAt := none }
  else { z with tracking := 0, blocked := true, refusals := if role = 2 then z.refusals else z.refusals + 1 }

theorem checked_role (y : Pairing) (role reason : Nat) :
    (y.checked role reason).role = role ∧ (y.checked role reason).reason = reason := by
  unfold Pairing.checked
  dsimp only
  split
  · exact ⟨rfl, rfl⟩
  · exact ⟨rfl, rfl⟩

theorem checked_refused (y : Pairing) (role i : Nat) : (y.checked role (i + 1)).paired = y.paired ∧
    (y.checked role (i + 1)).tracking = 0 ∧ (y.checked role (i + 1)).blocked = true ∧
    (y.checked role (i + 1)).refusals = if role = 2 then y.refusals else y.refusals + 1 := by
  unfold Pairing.checked
  dsimp only
  rw [if_neg (Nat.succ_ne_zero i)]
  exact ⟨rfl, rfl, rfl, rfl⟩

theorem exec_shroudPairing {p : PeerFacts} (hp : s.pairable p = true) : ∃ t, exec (.shroudPairing p) s = .next t ∧ s.PairsOnly t ∧
    t.tan.pairing = s.tan.pairing.checked (s.pairRole p) (firstFailure (s.pairChecks p)) := by
  change ∃ t, execShroudPairing p s = .next t ∧ _
  unfold execShroudPairing
  rw [if_neg (by rw [hp]; decide)]
  generalize hx : s.tan.pairing.checked (s.pairRole p) (firstFailure (s.pairChecks p)) = x
  by_cases hrole : s.pairRole p = 2
  · refine ⟨(s.setPair x).event 2 evShroudPair (be 1 (firstFailure (s.pairChecks p)) ++ zeros 3),
      congrArg Outcome.next (hx ▸ if_pos hrole), setPair_event_pairsOnly .., ?_⟩
    rw [event_tan]
    rfl
  · exact ⟨s.setPair x, congrArg Outcome.next (hx ▸ if_neg hrole), setPair_pairsOnly .., rfl⟩

/-! ### Measurements and suspensions (R90, R410, R436) -/

theorem suspendFor_tan (s : State) (reason : Nat) : (s.suspendFor reason).tan = { s.tan with
    pairing := { s.tan.pairing with tracking := 2, suspendedAt := s.now, reason := reason } } := by
  unfold State.suspendFor
  rw [event_tan]
  rfl

theorem suspendFor_pairsOnly (s : State) (reason : Nat) : s.PairsOnly (s.suspendFor reason) :=
  setPair_event_pairsOnly ..

/-- A pairing once measured. -/
def Pairing.measured (x : Pairing) (now rtt : Nat) (phase : Int) : Pairing :=
  let y : Pairing := { x with rtt := rtt, phaseNs := phase, measuredAt := some now }
  { y with phaseAt := if x.measuredAt.isSome && y.inPhase == x.inPhase then x.phaseAt else now }

/-- What the pairing `z` that a measurement leaves leads to: a suspension, the end of one, or neither. -/
def State.followPhase (s : State) (x z : Pairing) (rtt : Nat) : State :=
  let s1 := s.setPair z
  if !x.paired || x.role != 2 || x.tracking = 0 then s1
  else if (x.tracking == 1 || decide (x.rtt + 2 ≤ x.fence)) && decide (x.fence < rtt + 2) then s1.suspendFor 6
  else if x.tracking = 1 && !z.inPhase && decide (z.phaseAt + Config.second ≤ s.now) then s1.suspendFor 5
  else if x.tracking = 2 && x.reason = 5 && z.inPhase && decide (z.phaseAt + 60 * Config.second ≤ s.now) then s1.resumeTracking
  else s1

theorem exec_shroudMeasurement {rtt : Nat} {phase : Int} (hany : s.shroudAny = true)
    (hlast : ∀ k, s.tan.pairing.measuredAt = some k → k + 10 * Config.msec ≤ s.now) : exec (.shroudMeasurement rtt phase) s =
      .next (s.followPhase s.tan.pairing (s.tan.pairing.measured s.now rtt phase) rtt) := by
  have hdue : s.tan.pairing.measuredAt.elim false (fun t => decide (s.now < t + 10 * Config.msec)) = false := by
    cases h : s.tan.pairing.measuredAt with
    | none => rfl
    | some k =>
      rw [Option.elim_some]
      exact decide_eq_false (Nat.not_lt.mpr (hlast k h))
  change execShroudMeasurement rtt phase s = _
  unfold execShroudMeasurement State.followPhase Pairing.measured
  dsimp only
  rw [if_neg (by rw [hany, hdue]; decide)]

/-- Every outcome of a measurement has the figures measured. -/
theorem followPhase_measured (s : State) (x z : Pairing) (rtt : Nat) : s.PairsOnly (s.followPhase x z rtt) ∧
    (s.followPhase x z rtt).tan.pairing.rtt = z.rtt ∧ (s.followPhase x z rtt).tan.pairing.phaseNs = z.phaseNs ∧
    (s.followPhase x z rtt).tan.pairing.measuredAt = z.measuredAt ∧ (s.followPhase x z rtt).tan.pairing.paired = z.paired ∧
    (s.followPhase x z rtt).tan.pairing.role = z.role := by
  have hsuspend (reason : Nat) : s.PairsOnly ((s.setPair z).suspendFor reason) ∧
      ((s.setPair z).suspendFor reason).tan.pairing.rtt = z.rtt ∧
      ((s.setPair z).suspendFor reason).tan.pairing.phaseNs = z.phaseNs ∧
      ((s.setPair z).suspendFor reason).tan.pairing.measuredAt = z.measuredAt ∧
      ((s.setPair z).suspendFor reason).tan.pairing.paired = z.paired ∧
      ((s.setPair z).suspendFor reason).tan.pairing.role = z.role := by
    rw [suspendFor_tan]
    exact ⟨suspendFor_pairsOnly (s.setPair z) reason, rfl, rfl, rfl, rfl, rfl⟩
  unfold State.followPhase
  dsimp only
  split
  · exact ⟨setPair_pairsOnly .., rfl, rfl, rfl, rfl, rfl⟩
  · split
    · exact hsuspend 6
    · split
      · exact hsuspend 5
      · split
        · exact ⟨setPair_pairsOnly .., rfl, rfl, rfl, rfl, rfl⟩
        · exact ⟨setPair_pairsOnly .., rfl, rfl, rfl, rfl, rfl⟩

section FollowPhase
variable {x z : Pairing} {rtt : Nat}

theorem followPhase_untracked (h : x.paired = false ∨ x.role ≠ 2 ∨ x.tracking = 0) : s.followPhase x z rtt = s.setPair z := by
  refine if_pos ?_
  simp only [Bool.or_eq_true, Bool.not_eq_true', bne_iff_ne, decide_eq_true_eq]
  rcases h with h | h | h
  · exact .inl (.inl h)
  · exact .inl (.inr h)
  · exact .inr h

variable (hp : x.paired = true) (hr : x.role = 2)
include hp hr

theorem followPhase_grown (ht : x.tracking = 1) (hf : x.fence < rtt + 2) :
    s.followPhase x z rtt = (s.setPair z).suspendFor 6 :=
  (if_neg (by simp [hp, hr, ht])).trans (if_pos (by simp [ht, hf]))

theorem followPhase_outOfPhase (ht : x.tracking = 1) (hf : rtt + 2 ≤ x.fence) (hi : z.inPhase = false)
    (ha : z.phaseAt + Config.second ≤ s.now) : s.followPhase x z rtt = (s.setPair z).suspendFor 5 :=
  (if_neg (by simp [hp, hr, ht])).trans ((if_neg (by simp [ht, hf])).trans (if_pos (by simp [ht, hi, ha])))

theorem followPhase_good (ht : x.tracking = 1) (hf : rtt + 2 ≤ x.fence) (hi : z.inPhase = true) :
    s.followPhase x z rtt = s.setPair z :=
  (if_neg (by simp [hp, hr, ht])).trans ((if_neg (by simp [ht, hf])).trans ((if_neg (by simp [hi])).trans (if_neg (by simp [ht]))))

theorem followPhase_back (ht : x.tracking = 2) (h5 : x.reason = 5) (hf : rtt + 2 ≤ x.fence) (hi : z.inPhase = true)
    (ha : z.phaseAt + 60 * Config.second ≤ s.now) : s.followPhase x z rtt = (s.setPair z).resumeTracking :=
  (if_neg (by simp [hp, hr, ht])).trans ((if_neg (by simp [ht, hf])).trans ((if_neg (by simp [hi])).trans
    (if_pos (by simp [ht, h5, hi, ha]))))

end FollowPhase

theorem measured_phaseAt {x : Pairing} {now rtt : Nat} {phase : Int} (hm : x.measuredAt.isSome = true)
    (hi : x.inPhase = decide (phase.natAbs ≤ 2000)) : (x.measured now rtt phase).phaseAt = x.phaseAt :=
  if_pos (by rw [hm, hi, Bool.true_and]; exact beq_self_eq_true _)

/-! ### Digests of the Primary (R92) -/

/-- The comparison of a step's digests, in a state that may have taken a copy since. -/
def State.judgeDigests (s0 : State) (x : Pairing) (n : Nat) (ds : List (Option Nat)) : State :=
  match (s0.mt s0.lead).own.find n with
  | none => s0
  | some own =>
    if s0.step > n + 16 then s0
    else if (List.range 8).all (fun g => atD own g none == atD ds g none) then s0.setPair { x with divergedAt := none }
    else
      let s1 := s0.event 2 evReserveDiverge (be 8 n)
      match x.divergedAt with
      | none => s1.setPair { x with divergedAt := some n }
      | some k => if k + 512 < n then s1.suspend else s1

theorem judgeDigests_keeps (s : State) (x : Pairing) (n : Nat) (ds : List (Option Nat)) : Keeps 352 s (s.judgeDigests x n ds) := by
  have hpair (u : State) (y : Pairing) (h : Keeps 352 s u) : Keeps 352 s (u.setPair y) := setPair_keeps y h rfl
  have hevent := event_keeps 2 evReserveDiverge (be 8 n) (keeps_refl 352 s) rfl
  unfold State.judgeDigests
  split
  · exact keeps_refl _ _
  · split
    · exact keeps_refl _ _
    · split
      · exact hpair _ _ (keeps_refl _ _)
      · dsimp only
        split
        · exact hpair _ _ hevent
        · split
          · exact hpair _ _ hevent
          · exact hevent

theorem exec_reserveDigestCompare {n : Nat} {ds : List (Option Nat)} (htr : s.tracks = true) (hmode : s.digestMode = true) :
    exec (.reserveDigestCompare n ds none) s = .next (s.judgeDigests s.tan.pairing n ds) := by
  change execReserveDigestCompare n ds none s = _
  unfold execReserveDigestCompare
  exact congrArg Outcome.next (if_neg (by rw [htr, hmode]; decide))

theorem exec_reserveDigestCompare_copy {n : Nat} {ds : List (Option Nat)} {c : PrimaryState} (htr : s.tracks = true)
    (hmode : s.digestMode = true) (hdiv : s.tan.pairing.divergedAt.isSome = true) (hjoin : c.joinStep ≤ s.step + 1) :
    exec (.reserveDigestCompare n ds (some c)) s = .next ((s.takeCopy c).judgeDigests s.tan.pairing n ds) := by
  have htake : (if s.tan.pairing.divergedAt.isSome && decide (c.joinStep ≤ s.step + 1) then s.takeCopy c else s) = s.takeCopy c :=
    if_pos (by rw [hdiv]; simpa using hjoin)
  change execReserveDigestCompare n ds (some c) s = _
  unfold execReserveDigestCompare
  dsimp only
  rw [htake]
  exact congrArg Outcome.next (if_neg (by rw [htr, hmode]; decide))

section JudgeDigests
variable {n : Nat} {ds own : List (Option Nat)} {x : Pairing} (hown : (s.mt s.lead).own.find n = some own) (hn : s.step ≤ n + 16)
include hown hn

theorem judgeDigests_agree (h : ∀ g, g < 8 → atD own g none = atD ds g none) :
    s.judgeDigests x n ds = s.setPair { x with divergedAt := none } := by
  unfold State.judgeDigests
  rw [hown]
  exact (if_neg (Nat.not_lt.mpr hn)).trans (if_pos (List.all_eq_true.mpr fun g hg => by simpa using h g (List.mem_range.mp hg)))

theorem judgeDigests_differ {g : Nat} (hg : g < 8) (h : atD own g none ≠ atD ds g none) :
    (x.divergedAt = none → s.judgeDigests x n ds =
      (s.event 2 evReserveDiverge (be 8 n)).setPair { x with divergedAt := some n }) ∧
    (∀ k, x.divergedAt = some k → k + 512 < n → s.judgeDigests x n ds = (s.event 2 evReserveDiverge (be 8 n)).suspend) := by
  have hall : ¬ (List.range 8).all (fun g => atD own g none == atD ds g none) = true := fun hall =>
    h (by simpa using List.all_eq_true.mp hall g (List.mem_range.mpr hg))
  unfold State.judgeDigests
  rw [hown]
  dsimp only
  rw [if_neg (Nat.not_lt.mpr hn), if_neg hall]
  refine ⟨fun hd => ?_, fun k hd hk => ?_⟩
  · rw [hd]
  · rw [hd]
    exact if_pos hk

end JudgeDigests

/-! ### The copy of the Primary (R70, R71, R92) -/

/-- The part of a mast in the copy. -/
def State.copyOn (x : PrimaryState) (acc : State) (m : Mast) : State :=
  let v := acc.vid.get m
  let a := acc.alm.get m
  { acc with
    dp := acc.dp.set m x.dp
    aud := acc.aud.set m ((acc.aud.get m).joinCopy x.aud)
    vid := acc.vid.set m { v with flows := x.vid.flows, outputs := x.vid.outputs, tx := x.vid.tx, idle := x.vid.idle }
    alm := acc.alm.set m { a with
      assigned := x.assigned
      inputs := (List.range 8).map (fun i => { acc.alarmIn m i with acted := atD x.acted i 0, solo := none }) } }

theorem copyOn_dp (x : PrimaryState) (l : List Mast) (s : State) :
    (l.foldl (State.copyOn x) s).dp.get m = if m ∈ l then x.dp else s.dp.get m := by
  induction l generalizing s with
  | nil => exact (if_neg List.not_mem_nil).symm
  | cons k l ih =>
    refine (ih (State.copyOn x s k)).trans ?_
    by_cases hm : m ∈ l
    · rw [if_pos hm, if_pos (List.mem_cons_of_mem _ hm)]
    · rw [if_neg hm]
      by_cases hk : m = k
      · subst hk
        rw [if_pos List.mem_cons_self]
        exact Both_get_set ..
      · rw [if_neg (by simp [hm, hk])]
        exact Both_get_set_ne _ _ hk

theorem takeCopy_leaves (s : State) (x : PrimaryState) : (s.takeCopy x).rigs = x.rigs ∧ (s.takeCopy x).md.base = x.base ∧
    (s.serves m = true → (s.takeCopy x).dp.get m = x.dp) := by
  have hdp (h : s.serves m = true) : (s.servers.foldl (State.copyOn x) s).dp.get m = x.dp :=
    (copyOn_dp x s.servers s).trans (if_pos (mem_servers.mpr h))
  generalize hz : ({ s.servers.foldl (State.copyOn x) s with
    rigs := x.rigs, md := { (s.servers.foldl (State.copyOn x) s).md with base := x.base } } : State) = z
  have hzrigs : z.rigs = x.rigs := by rw [← hz]
  have hzbase : z.md.base = x.base := by rw [← hz]
  have hzdp (h : s.serves m = true) : z.dp.get m = x.dp := by rw [← hz]; exact hdp h
  have htake : s.takeCopy x = z ∨ s.takeCopy x = z.enterMode x.mode x.base 0 := by
    subst hz
    unfold State.takeCopy
    dsimp only
    split
    · exact Or.inr rfl
    · exact Or.inl rfl
  rcases htake with h | h
  · rw [h]
    exact ⟨hzrigs, hzbase, hzdp⟩
  · have hkeep := enterMode_keeps x.mode x.base 0 (keeps_refl 224 z) rfl
    rw [h, enterMode_md]
    refine ⟨(Keeps_same hkeep .rigs rfl).trans hzrigs, rfl, fun hs => ?_⟩
    have hsame : (z.enterMode x.mode x.base 0).dp = z.dp := Keeps_same hkeep .dp rfl
    rw [hsame]
    exact hzdp hs

/-! ### Commands of the Primary, retries and beacons (R91, R92, R94) -/

theorem exec_commitReceived_primary {o : Nat} {c : PrimaryCommand} (htr : s.tracks = true) (hcap : s.captain.isSome = true)
    (hstep : s.step < c.effStep) (hroom : s.hal.sched.length < 1024) : exec (.commitReceived o (some c)) s =
      .next ((s.preparePrimary c).waiting c.code c.payload c.seat c.hostSeq c.effStep c.aux true) := by
  obtain ⟨m, hm⟩ := Option.isSome_iff_exists.mp hcap
  change execCommitReceived o (some c) s = _
  unfold execCommitReceived
  rw [hm]
  dsimp only
  rw [if_pos htr]
  unfold State.primaryCommand
  exact congrArg Outcome.next (if_pos (by simpa using ⟨hstep, hroom⟩))

theorem exec_reserveTrackRetry (ht : s.tan.pairing.tracking = 2) (hlate : s.tan.pairing.suspendedAt + 60 * Config.second ≤ s.now) :
    (s.tan.pairing.fence < s.tan.pairing.rtt + 2 → exec .reserveTrackRetry s = .next (s.suspendFor 6)) ∧
    (s.tan.pairing.rtt + 2 ≤ s.tan.pairing.fence → s.tan.pairing.reason ≠ 5 →
      exec .reserveTrackRetry s = .next s.resumeTracking) := by
  have hgo : ¬ (s.tan.pairing.tracking != 2 || decide (s.now < s.tan.pairing.suspendedAt + 60 * Config.second)) = true := by
    rw [ht, decide_eq_false (Nat.not_lt.mpr hlate)]
    decide
  refine ⟨fun hf => ?_, fun hf h5 => ?_⟩
  · exact congrArg Outcome.next ((if_neg hgo).trans (if_pos hf))
  · exact congrArg Outcome.next ((if_neg hgo).trans ((if_neg (Nat.not_lt.mpr hf)).trans (if_neg (by simp [h5]))))

theorem foldl_countOn (l : List Mast) (x : Both Nat) (m : Mast) :
    (l.foldl (fun b k => b.set k (b.get k + 1)) x).get m = x.get m + l.count m := by
  induction l generalizing x with
  | nil => rfl
  | cons k l ih =>
    rw [List.foldl_cons, ih]
    by_cases hk : m = k
    · subst hk
      rw [Both_get_set, List.count_cons_self]
      omega
    · rw [Both_get_set_ne _ _ hk, List.count_cons_of_ne (Ne.symm hk)]

theorem beacons_counted (s : State) (x : Both Nat) (m : Mast) :
    (s.servers.foldl (fun b k => b.set k (b.get k + 1)) x).get m = x.get m + (if s.serves m then 1 else 0) := by
  rw [foldl_countOn, (servers_nodup s).count]
  by_cases h : s.serves m = true
  · rw [if_pos h, if_pos (mem_servers.mpr h)]
  · rw [if_neg h, if_neg (fun hm => h (mem_servers.mp hm))]

/-! ### The take-over (R94, R95) -/

/-- A mast whose outputs are released to its role. -/
def MastTandem.released (x : MastTandem) : MastTandem := { x with drive := driveOf x.st }

/-- The outputs of a mast are released (R95). -/
def State.releaseOn (acc : State) (m : Mast) : State := acc.setMt m { acc.mt m with drive := driveOf (acc.tst m) }

theorem releaseOn_mt (s : State) (m : Mast) : (s.releaseOn m).mt m = (s.mt m).released := setMt_mt ..

theorem released_released (x : MastTandem) : x.released.released = x.released := rfl

theorem drives_released (l : List Mast) (s : State) : (l.foldl State.releaseOn s).tan.pairing = s.tan.pairing ∧
    (l.foldl State.releaseOn s).mt m = if m ∈ l then (s.mt m).released else s.mt m := by
  induction l generalizing s with
  | nil => exact ⟨rfl, (if_neg List.not_mem_nil).symm⟩
  | cons k l ih =>
    obtain ⟨hp, hm⟩ := ih (s.releaseOn k)
    refine ⟨hp, hm.trans ?_⟩
    by_cases hk : m = k
    · subst hk
      rw [if_pos List.mem_cons_self, releaseOn_mt, released_released, ite_self]
    · rw [State.releaseOn, setMt_mt_ne _ hk]
      simp only [List.mem_cons, hk, false_or]

/-- The Reserve becomes the acting Primary. -/
def State.actAsPrimary (y : State) (x : Pairing) : State :=
  let inTrack := x.tracking = 1 && x.divergedAt.isNone
  let s1 := y.setPair { x with role := 3, paired := false, tracking := 0, takeoverStep := none, swapped := some 2 }
  let s2 := s1.servers.foldl State.releaseOn s1
  s2.event 2 evReserveTakeover (be 1 x.takeoverCause ++ be 1 (b01 inTrack) ++ zeros 2 ++ be 8 s2.step)

theorem actAsPrimary_leaves (y : State) (x : Pairing) (m : Mast) :
    (y.actAsPrimary x).tan.pairing = { x with role := 3, paired := false, tracking := 0, takeoverStep := none, swapped := some 2 } ∧
    (y.actAsPrimary x).tst m = y.tst m ∧ (y.serves m = true → ((y.actAsPrimary x).mt m).drive = driveOf (y.tst m)) := by
  generalize hz : y.setPair { x with role := 3, paired := false, tracking := 0, takeoverStep := none, swapped := some 2 } = z
  obtain ⟨hpair, hmt⟩ := drives_released (m := m) z.servers z
  have htan : (y.actAsPrimary x).tan = (z.servers.foldl State.releaseOn z).tan := by
    subst hz
    exact event_tan ..
  have hsame : (y.actAsPrimary x).mt m = if m ∈ z.servers then (z.mt m).released else z.mt m := by
    rw [← hmt, State.mt, htan]
    rfl
  have hzm : z.mt m = y.mt m := by rw [← hz]; rfl
  refine ⟨?_, ?_, fun h => ?_⟩
  · rw [htan, hpair, ← hz]
    rfl
  · rw [State.tst, hsame, hzm]
    split
    · rfl
    · rfl
  · have hzs : z.serves m = true := by rw [← h, ← hz]; rfl
    rw [hsame, if_pos (mem_servers.mpr hzs), hzm]
    rfl

theorem flagFollower_leaves (s : State) (k : Nat) (m : Mast) : (s.flagFollower k).tst m = s.tst m ∧
    (s.flagFollower k).tan.pairing = s.tan.pairing := by
  have hlate (j : Mast) : (s.flagLate j k).tan.pairing = s.tan.pairing := by
    unfold State.flagLate State.flag
    split
    · dsimp only
      split
      · rfl
      · rfl
    · rfl
  unfold State.flagFollower
  split
  · exact ⟨rfl, rfl⟩
  · split
    · exact ⟨(flagLate_leaves s _ m k).1, hlate _⟩
    · exact ⟨rfl, rfl⟩

theorem atStep_tan (s : State) (n : Nat) (f : State → State) : (s.atStep n f).tan = (f { s with step := n }).tan := rfl

theorem atStep_step (s : State) (n : Nat) (f : State → State) : (s.atStep n f).step = s.step := rfl

theorem exec_reserveTakeover {k : Nat} (hk : s.tan.pairing.takeoverStep = some k) (hstep : k ≤ s.step + 1)
    (hr : s.tan.pairing.role = 2) : exec .reserveTakeover s =
      .next ((s.flagFollower k).atStep (s.step + 1) (fun y => y.actAsPrimary s.tan.pairing)) := by
  change execReserveTakeover s = _
  unfold execReserveTakeover
  dsimp only
  rw [hk]
  exact congrArg Outcome.next (if_neg (by rw [not_or, Decidable.not_not]; exact ⟨Nat.not_lt.mpr hstep, hr⟩))

/-! ### The obligation -/

/-- Settles O55: the first check that fails is the reason; the other events move one part of the pairing. -/
theorem reserveFollows : Obligations.ReserveFollows := by
  unfold Obligations.ReserveFollows
  intro m s x after
  refine ⟨fun p hp => ?_, fun rtt phase hany hlast => ?_, fun n ds own htr hmode hn hown => ⟨fun h => ?_, fun g hg h => ?_⟩,
    fun n ds c htr hmode hdiv hjoin => ?_, fun o c htr hcap hstep hroom => ?_, fun ht hlate => ?_,
    fun hrole hrun hcap => ⟨fun hdue => ?_, fun hearly => ?_⟩, fun hr hserves => ?_,
    fun hr hp hnone hcap hrun => ⟨?_, fun hdown hlate => ?_⟩, fun k hk hstep hr => ?_⟩
  · intro role checks
    obtain ⟨t, hexec, honly, hpair⟩ := exec_shroudPairing hp
    obtain ⟨hrole, hreason⟩ := checked_role x role (firstFailure checks)
    refine ⟨t, hexec, honly, ?_, fun hall => ?_, fun i hi hf hb => ?_, fun hcap => ?_⟩
    · rw [hpair]
      exact hrole
    · rw [hpair, firstFailure_pass (l := s.pairChecks p) hall]
      exact ⟨rfl, rfl, rfl, rfl, rfl⟩
    · obtain ⟨hpaired, htracking, hblocked, hrefusals⟩ := checked_refused x role i
      rw [hpair, firstFailure_at (l := s.pairChecks p) hi hf hb]
      exact ⟨hpaired, (checked_role x role (i + 1)).2, htracking, hblocked, hrefusals⟩
    · have hfirst : atD (s.pairChecks p) 0 false = false := by
        change (capacityBytes s.caps == capacityBytes p.caps) = false
        simpa using hcap
      rw [hpair]
      refine hreason.trans ?_
      exact firstFailure_at (l := s.pairChecks p) (i := 0) (Nat.zero_lt_succ 5) hfirst (fun k hk => absurd hk (Nat.not_lt_zero k))
  · obtain ⟨honly, hrtt, hphase, hat, hpaired, hrole⟩ :=
      followPhase_measured s x (x.measured s.now rtt phase) rtt
    refine ⟨_, exec_shroudMeasurement hany hlast, honly, hrtt, hphase, hat, hpaired, hrole, fun h => ?_, fun hp hr =>
      ⟨fun ht hf => ?_, fun ht hf hout hm hi ha => ?_, fun ht hf hin => ?_, fun ht h5 hf hin hm hi ha => ?_⟩⟩
    · rw [followPhase_untracked h]
      exact ⟨rfl, rfl⟩
    · rw [followPhase_grown hp hr ht hf, suspendFor_tan]
      exact ⟨rfl, rfl, rfl⟩
    · have hno : decide (phase.natAbs ≤ 2000) = false := decide_eq_false (Nat.not_le.mpr hout)
      have hphaseAt : (x.measured s.now rtt phase).phaseAt = x.phaseAt := measured_phaseAt hm (hi.trans hno.symm)
      rw [followPhase_outOfPhase hp hr ht hf (z := x.measured s.now rtt phase) hno (by rw [← hphaseAt] at ha; exact ha), suspendFor_tan]
      exact ⟨rfl, rfl, rfl⟩
    · rw [followPhase_good hp hr ht hf (decide_eq_true hin)]
      exact ⟨ht, rfl⟩
    · have hyes : decide (phase.natAbs ≤ 2000) = true := decide_eq_true hin
      have hphaseAt : (x.measured s.now rtt phase).phaseAt = x.phaseAt := measured_phaseAt hm (hi.trans hyes.symm)
      rw [followPhase_back hp hr ht h5 hf (z := x.measured s.now rtt phase) hyes (by rw [← hphaseAt] at ha; exact ha)]
      rfl
  · rw [exec_reserveDigestCompare htr hmode, judgeDigests_agree hown hn h]
  · obtain ⟨hfirst, hlong⟩ := judgeDigests_differ (x := x) hown hn hg h
    refine ⟨fun hd => ⟨_, exec_reserveDigestCompare htr hmode, ?_, ?_⟩, fun k hd hk => ⟨_, exec_reserveDigestCompare htr hmode, ?_, ?_⟩⟩
    · rw [hfirst hd]
      exact event_setPair_pairsOnly ..
    · rw [hfirst hd, State.setPair, event_tan]
    · rw [hlong k hd hk]
      exact event_setPair_pairsOnly ..
    · rw [hlong k hd hk, State.suspend, State.setPair, event_tan,
        Keeps_same (event_keeps 2 evReserveDiverge (be 8 n) (keeps_refl 96 s) rfl) .now rfl]
  · obtain ⟨hrigs, hbase, hdp⟩ := takeCopy_leaves (m := m) s c
    have hkeep := judgeDigests_keeps (s.takeCopy c) x n ds
    have hsame : ((s.takeCopy c).judgeDigests x n ds).dp = (s.takeCopy c).dp := Keeps_same hkeep .dp rfl
    have hmd : ((s.takeCopy c).judgeDigests x n ds).md = (s.takeCopy c).md := Keeps_same hkeep .md rfl
    refine ⟨_, exec_reserveDigestCompare_copy htr hmode hdiv hjoin, (Keeps_same hkeep .rigs rfl).trans hrigs, ?_, fun h => ?_⟩
    · rw [hmd]
      exact hbase
    · rw [hsame]
      exact hdp h
  · exact ⟨_, exec_commitReceived_primary htr hcap hstep hroom, _, List.mem_append_right _ List.mem_cons_self, rfl, rfl, rfl, rfl,
      rfl, rfl⟩
  · obtain ⟨hgrown, hgood⟩ := exec_reserveTrackRetry ht hlate
    exact ⟨fun hf => ⟨_, hgrown hf, suspendFor_pairsOnly .., suspendFor_tan ..⟩, fun hf h5 => hgood hf h5⟩
  · refine ⟨_, congrArg Outcome.next (if_pos ?_), rfl, rfl, beacons_counted s x.beaconsSent m⟩
    rw [hrun, hcap, decide_eq_true hdue]
    simpa using hrole
  · exact congrArg Outcome.next (if_neg (by rw [decide_eq_false (Nat.not_le.mpr hearly), Bool.and_false]; exact Bool.false_ne_true))
  · exact congrArg Outcome.next (if_neg (by rw [show s.tan.pairing.role = 2 from hr, hserves]; decide))
  · refine congrArg Outcome.next (if_neg ?_)
    rw [show s.tan.pairing.role = 2 from hr, show s.tan.pairing.paired = true from hp,
      show s.tan.pairing.takeoverStep = none from hnone, hrun, ← Option.not_isSome, hcap]
    decide
  · refine congrArg Outcome.next (if_neg ?_)
    rw [show s.tan.pairing.role = 2 from hr, show s.tan.pairing.paired = true from hp,
      show s.tan.pairing.takeoverStep = none from hnone, hrun, ← Option.not_isSome, hcap, hdown, decide_eq_false (Nat.not_lt.mpr hlate)]
    decide
  · obtain ⟨htst, -⟩ := flagFollower_leaves s k m
    generalize hy : ({ s.flagFollower k with step := s.step + 1 } : State) = y
    have hyt : y.tst m = s.tst m := by rw [← hy]; exact htst
    obtain ⟨hpair, htst', hdrive⟩ := actAsPrimary_leaves y x m
    have htan : ((s.flagFollower k).atStep (s.step + 1) (fun z => z.actAsPrimary x)).tan = (y.actAsPrimary x).tan := by
      rw [atStep_tan, hy]
    refine ⟨_, exec_reserveTakeover hk hstep hr, ?_, ?_, fun hserves => ?_, ?_⟩
    · rw [atStep_step]
      exact Keeps_same (flagFollower_keeps k (keeps_refl 256 s) rfl) .step rfl
    · rw [htan]
      exact hpair
    · have hys : y.serves m = true := by rw [← hserves]; unfold State.serves; rw [hyt]
      rw [State.mt, htan]
      exact (hdrive hys).trans (congrArg driveOf hyt)
    · rw [State.tst, State.mt, htan]
      exact htst'.trans hyt

end Sys2Proof.Machine

/-! # O56: candidates and timebases (R415 to R429) -/
namespace Sys2Proof.Machine
open Host Sys2Proof

variable {s t u v : State} {m k : Mast} {i j : Nat}

/-! ### A timebase of a mast -/

/-- A state whose timing differs in its timebases alone, of which there are as many. -/
structure State.TbsOnly (s t : State) : Prop where
  each : ∀ n, t.tm n = { s.tm n with tbs := (t.tm n).tbs } ∧ (t.tm n).tbs.length = (s.tm n).tbs.length

theorem TbsOnly_of_tim (h : t.tim = s.tim) : s.TbsOnly t := ⟨fun n => by
  have hn : t.tm n = s.tm n := by rw [State.tm, h]; rfl
  rw [hn]
  exact ⟨rfl, rfl⟩⟩

theorem TbsOnly_refl (s : State) : s.TbsOnly s := TbsOnly_of_tim rfl

theorem TbsOnly_trans (h : s.TbsOnly t) (h' : t.TbsOnly u) : s.TbsOnly u := ⟨fun n => by
  obtain ⟨ht, hlt⟩ := h.each n
  obtain ⟨hu, hlu⟩ := h'.each n
  exact ⟨by rw [hu, ht], hlu.trans hlt⟩⟩

theorem TbsOnly_foldl {α : Type} {f : State → α → State} (hf : ∀ x a, State.TbsOnly x (f x a)) (l : List α) (s : State) :
    s.TbsOnly (l.foldl f s) := by
  induction l generalizing s with
  | nil => exact TbsOnly_refl s
  | cons a l ih => exact TbsOnly_trans (hf s a) (ih _)

theorem TbsOnly_cand (h : s.TbsOnly t) (n : Mast) : (t.tm n).cand i = (s.tm n).cand i := by
  rw [(h.each n).1]
  rfl

theorem tb_of_tim (h : t.tim = s.tim) : t.tb m i = s.tb m i := by
  unfold State.tb State.tm
  rw [h]

/-- What a timebase is read from. -/
theorem tm_putTb (s : State) (m : Mast) (i : Nat) (x : Timebase) :
    (s.putTb m i x).tm m = { s.tm m with tbs := setAt (s.tm m).tbs i x } := Both_get_set ..

theorem tm_putTb_ne (x : Timebase) (h : k ≠ m) : (s.putTb m i x).tm k = s.tm k := Both_get_set_ne _ _ h

theorem tb_putTb {x : Timebase} (h : i < (s.tm m).tbs.length) : (s.putTb m i x).tb m i = x := by
  rw [State.tb, tm_putTb]
  exact atD_setAt _ _ h

theorem tb_putTb_beside (x : Timebase) (h : j ≠ i) : (s.putTb m i x).tb m j = s.tb m j := by
  rw [State.tb, tm_putTb]
  exact atD_setAt_ne _ _ h

theorem putTb_tbsOnly (s : State) (m : Mast) (i : Nat) (x : Timebase) : s.TbsOnly (s.putTb m i x) := ⟨fun n => by
  by_cases h : n = m
  · subst h
    rw [tm_putTb]
    exact ⟨rfl, List.length_set⟩
  · rw [tm_putTb_ne _ h]
    exact ⟨rfl, rfl⟩⟩

theorem mirrorTb_tbsOnly (s : State) (m : Mast) (i : Nat) : s.TbsOnly (s.mirrorTb m i) := by
  unfold State.mirrorTb
  dsimp only
  split
  · exact putTb_tbsOnly ..
  · exact TbsOnly_refl s

theorem tm_mirrorTb (s : State) (m : Mast) (i : Nat) : (s.mirrorTb m i).tm m = s.tm m := by
  unfold State.mirrorTb
  dsimp only
  split
  · exact tm_putTb_ne _ (other_ne m).symm
  · rfl

theorem changeTb_tbsOnly (s : State) (m : Mast) (i : Nat) (f : Timebase → Timebase) : s.TbsOnly (s.changeTb m i f) :=
  TbsOnly_trans (putTb_tbsOnly ..) (mirrorTb_tbsOnly ..)

theorem tb_changeTb {f : Timebase → Timebase} (h : i < (s.tm m).tbs.length) : (s.changeTb m i f).tb m i = f (s.tb m i) := by
  unfold State.changeTb
  rw [State.tb, tm_mirrorTb]
  exact tb_putTb h

theorem tb_changeTb_beside (f : Timebase → Timebase) (h : j ≠ i) : (s.changeTb m i f).tb m j = s.tb m j := by
  unfold State.changeTb
  rw [State.tb, tm_mirrorTb]
  exact tb_putTb_beside _ h

/-! ### What leaves the timing as it was -/

theorem event_tim (s : State) (o c : Nat) (f : List Byte) : (s.event o c f).tim = s.tim :=
  Keeps_same (event_keeps o c f (keeps_refl 96 s) rfl) .tim rfl

theorem sticky_tim (s : State) (i j : Nat) : (s.sticky i j).tim = s.tim := rfl

theorem report_plain_tim {src site cls : Nat} (hk : knownSource src = true) (hc : s.classOf m src site false = some cls)
    (h3 : cls < 3) (he : escalates src = false) (hd : datapathSource src = false) : (s.report m src site).tim = s.tim :=
  Keeps_same (report_below_reef3 hk hc h3 he hd) .tim rfl

theorem refChanged_tim (s : State) (m : Mast) (i : Nat) (x y : Option Nat) (c : Nat) : (s.refChanged m i x y c).tim = s.tim :=
  Keeps_same (refChanged_keeps m i x y c (keeps_refl 96 s) rfl) .tim rfl

/-- The faults of a reference that is lost, and of a holdover that is over, are no more than Reef 2. -/
theorem tbFault_tim (s : State) (m : Mast) (i r : Nat) :
    (s.tbFault m i r 0x69 0x6B).tim = s.tim ∧ (s.tbFault m i r 0x6A 0x6C).tim = s.tim := by
  refine ⟨Keeps_same (tbFault_keeps_self i r) .tim rfl, ?_⟩
  have haudio (x : State) : (x.report m 0x6A (candSite i r)).tim = x.tim := report_plain_tim (cls := 2) rfl rfl (by decide) rfl rfl
  have hvideo (x : State) : (x.report m 0x6C (candSite i r)).tim = x.tim := report_plain_tim (cls := 2) rfl rfl (by decide) rfl rfl
  unfold State.tbFault
  dsimp only
  split
  · split
    · rw [hvideo, haudio]
    · exact hvideo s
  · split
    · exact haudio s
    · rfl

theorem disqualifiedReport_tim (s : State) (m : Mast) (i : Nat) : (s.disqualifiedReport m i).tim = s.tim := by
  unfold State.disqualifiedReport
  split
  · refine foldl_fixed (part := State.tim) (fun x n => ?_) _ s
    exact report_plain_tim (cls := 0) rfl rfl (by decide) rfl rfl
  · rfl

/-! ### A timebase enters a state (R428, R429) -/

theorem enterTb_tim (s : State) (m : Mast) (i : Nat) (st : TbSt) : s.enterTb m i st = s ∧ (s.tb m i).st = st ∨
    (s.tb m i).st ≠ st ∧ (s.enterTb m i st).tim = (s.changeTb m i (fun y => { y with
      st := st
      holdoverAt := match st with
        | .holdover => some s.now
        | .lost => (s.tb m i).holdoverAt
        | _ => none })).tim := by
  unfold State.enterTb
  dsimp only
  by_cases h : (s.tb m i).st = st
  · rw [if_pos h]
    exact .inl ⟨rfl, h⟩
  · rw [if_neg h]
    refine .inr ⟨h, ?_⟩
    cases st
    all_goals
      split
      · exact event_tim ..
      · rfl

theorem enterTb_tbsOnly (s : State) (m : Mast) (i : Nat) (st : TbSt) : s.TbsOnly (s.enterTb m i st) := by
  rcases enterTb_tim s m i st with ⟨h, -⟩ | ⟨-, h⟩
  · rw [h]
    exact TbsOnly_refl s
  · exact TbsOnly_trans (changeTb_tbsOnly ..) (TbsOnly_of_tim h)

/-- The timebase as it enters a state: nothing but its state and the start of its holdover changes. -/
theorem tb_enterTb {st : TbSt} (h : i < (s.tm m).tbs.length) :
    ∃ x, (s.enterTb m i st).tb m i = { s.tb m i with st := st, holdoverAt := x } ∧
      (st = .lost → x = (s.tb m i).holdoverAt) := by
  rcases enterTb_tim s m i st with ⟨hsame, hst⟩ | ⟨-, htim⟩
  · rw [hsame]
    exact ⟨(s.tb m i).holdoverAt, by rw [← hst], fun _ => rfl⟩
  · rw [tb_of_tim htim, tb_changeTb h]
    exact ⟨_, rfl, fun hl => by rw [hl]⟩

theorem tb_enterTb_beside {st : TbSt} (h : j ≠ i) : (s.enterTb m i st).tb m j = s.tb m j := by
  rcases enterTb_tim s m i st with ⟨hsame, -⟩ | ⟨-, htim⟩
  · rw [hsame]
  · rw [tb_of_tim htim, tb_changeTb_beside _ h]

/-! ### Selection changes timebases alone (R423, R434) -/

theorem acquire_tbsOnly (s : State) (m : Mast) (i j : Nat) : s.TbsOnly (s.acquire m i j) :=
  TbsOnly_trans (changeTb_tbsOnly ..) (enterTb_tbsOnly ..)

theorem refChanged_tbsOnly (h : s.TbsOnly t) (m : Mast) (i : Nat) (x y : Option Nat) (c : Nat) :
    s.TbsOnly (t.refChanged m i x y c) := TbsOnly_trans h (TbsOnly_of_tim (refChanged_tim ..))

theorem loseRef_tbsOnly (s : State) (m : Mast) (i skip : Nat) (lost : Option Nat) : s.TbsOnly (s.loseRef m i skip lost) := by
  have henter (st : TbSt) := TbsOnly_trans (changeTb_tbsOnly s m i
    (fun y => { y with ref := none, holdFreq := y.holdMean skip, freq := y.holdMean skip, hist := [] })) (enterTb_tbsOnly _ m i st)
  unfold State.loseRef
  dsimp only
  split
  · split
    · exact TbsOnly_trans (henter .holdover) (TbsOnly_of_tim ((tbFault_tim _ m i _).1.trans (sticky_tim ..)))
    · exact henter .holdover
  · exact henter .freeRun

theorem evaluate_tbsOnly (s : State) (m : Mast) (skip i : Nat) : s.TbsOnly (s.evaluate m skip i) := by
  unfold State.evaluate
  dsimp only
  split
  · exact TbsOnly_refl s
  · split
    · split
      · split
        · split
          · exact refChanged_tbsOnly (acquire_tbsOnly ..) ..
          · exact TbsOnly_refl s
        · exact TbsOnly_refl s
      · split
        · exact refChanged_tbsOnly (TbsOnly_trans (changeTb_tbsOnly ..) (acquire_tbsOnly ..)) ..
        · exact refChanged_tbsOnly (loseRef_tbsOnly ..) ..
    · split
      · exact refChanged_tbsOnly (acquire_tbsOnly ..) ..
      · exact TbsOnly_refl s

theorem evaluateAll_tbsOnly (s : State) (m : Mast) (skip : Nat) : s.TbsOnly (s.evaluateAll m skip) :=
  TbsOnly_foldl (fun x n => by
    split
    · exact evaluate_tbsOnly ..
    · exact putTb_tbsOnly ..) _ s

theorem followFreq_tbsOnly (s : State) (m : Mast) : s.TbsOnly (s.followFreq m) :=
  TbsOnly_foldl (fun x n => by
    dsimp only
    split
    · split
      · exact TbsOnly_refl x
      · exact changeTb_tbsOnly ..
    · exact TbsOnly_refl x) _ s

theorem disagreements_tbsOnly (s : State) (m : Mast) (i : Nat) (rows : List Nat) : s.TbsOnly (s.disagreements m i rows) := by
  unfold State.disagreements
  dsimp only
  split
  · exact changeTb_tbsOnly ..
  · refine TbsOnly_foldl (fun x n => ?_) _ s
    split
    · split
      · exact changeTb_tbsOnly ..
      · split
        · exact TbsOnly_trans (changeTb_tbsOnly ..) (TbsOnly_of_tim (event_tim ..))
        · exact changeTb_tbsOnly ..
    · split
      · exact changeTb_tbsOnly ..
      · exact TbsOnly_refl x

/-! ### A candidate of a mast (R418, R420) -/

theorem cand_putCand (s : State) (m : Mast) (i : Nat) (c : Cand) (f : Cand → Cand) :
    (((s.putCand m i c).barredStep m i f).tm m).cand i = c := by
  unfold State.barredStep State.putCand State.tm TimingMast.cand
  dsimp only
  rw [Both_get_set, Both_get_set]
  exact Assoc_getD_put ..

/-- The candidate after a window, on its mast. -/
theorem cand_windowEnd {w : WindowRow} (hh : s.candHere w.cand = true) (h87 : w.cand ≠ 87) :
    ((s.windowEnd m w).tm m).cand w.cand =
      (((s.tm m).cand w.cand).window w.good (s.inTolerance m w.cand w.offset) w.offset s.now).1 := by
  unfold State.windowEnd
  dsimp only
  rw [if_neg (by simp [hh, h87])]
  split
  · exact (congrArg (fun y => (Both.get y m).cand w.cand) (disqualifiedReport_tim ..)).trans (cand_putCand ..)
  · exact cand_putCand ..

theorem windows_ite {p : Prop} [Decidable p] {x y : Cand × Bool} {l : List Int} (hx : x.1.windows = l) (hy : y.1.windows = l) :
    (if p then x else y).1.windows = l := by
  split
  · exact hx
  · exact hy

section Window
variable {c : Cand} {inTol : Bool} {y : Int} {now : Nat}

theorem window_windows : (c.window true inTol y now).1.windows = (y :: c.windows).take 6 := by
  unfold Cand.window
  rw [if_neg (by decide)]
  dsimp only
  split
  · rfl
  · exact windows_ite rfl (windows_ite rfl rfl)
  · exact windows_ite rfl rfl
  · exact windows_ite rfl rfl

theorem window_absent (h : c.st = .absent) : (c.window true inTol y now).1.st = .requalifying := by
  unfold Cand.window
  rw [if_neg (by decide), h]

theorem window_first (h : c.st = .requalifying) (hever : c.ever = false) (hin : inTol = true) :
    (c.window true inTol y now).1.st = .qualified ∧ (c.window true inTol y now).1.since = some now := by
  unfold Cand.window
  rw [if_neg (by decide), h]
  dsimp only
  rw [if_neg (by rw [hin]; decide), if_pos (by rw [hever]; exact Nat.le_add_left ..)]
  exact ⟨rfl, rfl⟩

theorem window_third (h : c.st = .qualified) (hbad : c.bad = 2) (hout : inTol = false) :
    (c.window true inTol y now).1.st = .disqualified := by
  unfold Cand.window
  rw [if_neg (by decide), h]
  dsimp only
  rw [if_pos (by rw [hout, hbad]; decide)]

end Window

/-- The state in which the windows of a mast begin to end. -/
def State.windowsDue (s : State) (m : Mast) : State := { s with tim := s.tim.set m { s.tm m with windowAt := some s.now } }

theorem exec_telltaleWindowEnd {w : WindowRow} (hrun : s.telltalesRun m = true)
    (hlast : ∀ x, (s.tm m).windowAt = some x → x + 10 * Config.second ≤ s.now) :
    ∃ t, exec (.telltaleWindowEnd m [w]) s = .next t ∧ ((s.windowsDue m).windowEnd m w).TbsOnly t := by
  have hdue : (s.tm m).windowAt.elim false (fun t => decide (s.now < t + 10 * Config.second)) = false := by
    cases h : (s.tm m).windowAt with
    | none => rfl
    | some x =>
      rw [Option.elim_some]
      exact decide_eq_false (Nat.not_lt.mpr (hlast x h))
  change ∃ t, execTelltaleWindowEnd m [w] s = .next t ∧ _
  unfold execTelltaleWindowEnd
  rw [if_neg (by rw [hrun, hdue]; decide)]
  refine ⟨_, rfl, ?_⟩
  dsimp only [List.foldl_cons, List.foldl_nil, List.map_cons, List.map_nil]
  split
  · exact TbsOnly_trans (followFreq_tbsOnly ..) (TbsOnly_trans
      (TbsOnly_foldl (fun x n => disagreements_tbsOnly x m n _) _ _) (evaluateAll_tbsOnly ..))
  · exact evaluateAll_tbsOnly ..

theorem absent_cand (s : State) (m : Mast) (i : Nat) : (((s.absent m i).tm m).cand i).st = .absent ∧
    (((s.tm m).cand i).st ≠ .absent → (((s.absent m i).tm m).cand i).good = 0 ∧ (((s.absent m i).tm m).cand i).bad = 0) := by
  unfold State.absent
  dsimp only
  by_cases h : ((s.tm m).cand i).st = .absent
  · rw [if_pos h]
    exact ⟨h, fun hn => absurd h hn⟩
  · rw [if_neg h, TbsOnly_cand (evaluateAll_tbsOnly ..), cand_putCand]
    exact ⟨rfl, fun _ => ⟨rfl, rfl⟩⟩

/-- The paths of a PTP candidate's timebase chosen again, and the candidate noted absent there (R470). -/
def State.pathsChosen (s : State) (m : Mast) (i : Nat) : State := (s.choosePath m i).choosePath m.other i

theorem pathsChosen_tim (s : State) (m : Mast) (i : Nat) : (s.pathsChosen m i).tim = s.tim :=
  Keeps_same (choosePath_keeps m.other i (choosePath_keeps m i (keeps_refl 1048576 s) rfl) rfl) .tim rfl

theorem exec_candidateAbsent (hrun : s.telltalesRun m = true) (hh : s.candHere i = true) (h87 : i ≠ 87) (hm : s.maybeAbsent m i = true)
    (hptp : 1 ≤ i → i ≤ 4 → (s.pathsChosen m (i - 1)).ptpAbsent m (i - 1) = true) :
    ∃ u : State, exec (.candidateAbsent m i) s = .next (u.absent m i) ∧ u.tim = s.tim := by
  have hgo : ¬ (!s.telltalesRun m || !s.candHere i || decide (i = 87) || !s.maybeAbsent m i) = true := by simp [hrun, hh, h87, hm]
  change ∃ u : State, execCandidateAbsent m i s = _ ∧ _
  unfold execCandidateAbsent
  by_cases hi : 1 ≤ i ∧ i ≤ 4
  · exact ⟨_, congrArg Outcome.next ((if_neg hgo).trans ((if_pos hi).trans (if_pos (hptp hi.1 hi.2)))), pathsChosen_tim ..⟩
  · exact ⟨s, congrArg Outcome.next ((if_neg hgo).trans (if_neg hi)), rfl⟩

/-! ### Selection, lock, holdover and the XO (R419, R422, R423, R426, R428) -/

theorem evaluate_acquires (hk : i < (s.tm m).tbs.length) (hacq : s.mayAcquire m = true) (hnone : (s.tb m i).ref = none)
    (hpick : s.chooseRef m i (s.bestRank m i) = some j) :
    ((s.evaluate m 0 i).tb m i).ref = some j ∧ ((s.evaluate m 0 i).tb m i).st = .acquiring := by
  have heval : s.evaluate m 0 i = (s.acquire m i j).refChanged m i none (some j) 1 := by
    unfold State.evaluate
    dsimp only
    rw [if_neg (by rw [hacq]; decide), hnone]
    dsimp only
    rw [hpick]
  obtain ⟨x, hx, -⟩ := tb_enterTb (s := s.changeTb m i (fun x => { x with ref := some j })) (m := m) (i := i) (st := .acquiring)
    (by rw [((changeTb_tbsOnly s m i _).each m).2]; exact hk)
  have hacquired : (s.acquire m i j).tb m i = { s.tb m i with ref := some j, st := .acquiring, holdoverAt := x } := by
    refine hx.trans ?_
    rw [tb_changeTb hk]
  rw [heval, tb_of_tim (refChanged_tim ..), hacquired]
  exact ⟨rfl, rfl⟩

/-- A timebase locks on the frequency of its reference. -/
def State.locks (s : State) (m : Mast) (i : Nat) (f : Int) : State :=
  (s.changeTb m i (fun y => { y with everLocked := true, freq := f, hist := [] })).enterTb m i .locked

theorem locks_tb {f : Int} (hk : i < (s.tm m).tbs.length) :
    ((s.locks m i f).tb m i).st = .locked ∧ ((s.locks m i f).tb m i).everLocked = true ∧ s.TbsOnly (s.locks m i f) := by
  obtain ⟨x, hx, -⟩ := tb_enterTb (s := s.changeTb m i (fun y => { y with everLocked := true, freq := f, hist := [] }))
    (m := m) (i := i) (st := .locked) (by rw [((changeTb_tbsOnly s m i _).each m).2]; exact hk)
  unfold State.locks
  rw [hx, tb_changeTb hk]
  exact ⟨rfl, rfl, TbsOnly_trans (changeTb_tbsOnly ..) (enterTb_tbsOnly ..)⟩

/-- The first calibration of the XO of a mast (R419). -/
def State.calibrate (acc : State) (k : Mast) (v : Int) : State :=
  let y := acc.tm k
  if y.xoCal.isSome || y.xoFailed then acc
  else ({ acc with tim := acc.tim.set k { y with xoCal := some v, xoAt := acc.now } } : State).gauge k 0x741C (toPpb v)

theorem calibrate_tm (s : State) (m : Mast) (v : Int) : ∃ c a, (s.calibrate m v).tm m = { s.tm m with xoCal := c, xoAt := a } ∧
    ((s.tm m).xoCal = none → (s.tm m).xoFailed = false → c = some v) := by
  unfold State.calibrate
  dsimp only
  by_cases h : ((s.tm m).xoCal.isSome || (s.tm m).xoFailed) = true
  · rw [if_pos h]
    refine ⟨(s.tm m).xoCal, (s.tm m).xoAt, rfl, fun hc hf => ?_⟩
    rw [hc, hf] at h
    cases h
  · rw [if_neg h]
    exact ⟨some v, s.now, Both_get_set .., fun _ _ => rfl⟩

theorem calibrate_tm_ne (v : Int) (h : k ≠ m) : (s.calibrate m v).tm k = s.tm k := by
  unfold State.calibrate
  dsimp only
  split
  · rfl
  · exact Both_get_set_ne _ _ h

theorem rtcFromTb_tm (s : State) (n : Mast) : ∃ a, s.rtcFromTb.tm n = { s.tm n with rtcAt := a } := by
  have hsame : ∃ a, s.tm n = { s.tm n with rtcAt := a } := ⟨(s.tm n).rtcAt, rfl⟩
  unfold State.rtcFromTb
  split
  · exact hsame
  · next c _ =>
    dsimp only
    split
    · exact hsame
    · split
      · exact hsame
      · split
        · exact hsame
        · by_cases h : n = c
          · subst h
            exact ⟨some s.now, Both_get_set ..⟩
          · exact ⟨(s.tm n).rtcAt, Both_get_set_ne _ _ h⟩

/-- TB_0 locks: the XO of each mast takes its first calibration, and the RTC is set. -/
def State.firstLock (s : State) (m : Mast) (f xo : Int) : State :=
  let s2 := s.calibrate m (-f)
  (if s2.tst m.other = .stoker then s2.calibrate m.other xo else s2).rtcFromTb

theorem firstLock_tm (s : State) (m : Mast) (f xo : Int) : ∃ c a r, (s.firstLock m f xo).tm m =
    { s.tm m with xoCal := c, xoAt := a, rtcAt := r } ∧ ((s.tm m).xoCal = none → (s.tm m).xoFailed = false → c = some (-f)) := by
  obtain ⟨c, a, hcal, hset⟩ := calibrate_tm s m (-f)
  have hboth : (if (s.calibrate m (-f)).tst m.other = .stoker then (s.calibrate m (-f)).calibrate m.other xo
      else s.calibrate m (-f)).tm m = (s.calibrate m (-f)).tm m := by
    split
    · exact calibrate_tm_ne _ (other_ne m).symm
    · rfl
  obtain ⟨r, hr⟩ := rtcFromTb_tm (if (s.calibrate m (-f)).tst m.other = .stoker then (s.calibrate m (-f)).calibrate m.other xo
      else s.calibrate m (-f)) m
  refine ⟨c, a, r, ?_, hset⟩
  unfold State.firstLock
  dsimp only
  rw [hr, hboth, hcal]

theorem exec_timebaseLocked {xo : Int} (hcap : s.captain = some m) (hk : i < 4) (hst : (s.tb m i).st = .acquiring) :
    exec (.timebaseLocked i xo) s = .next (if i ≠ 0 then s.locks m i ((s.tm m).cand ((s.tb m i).ref.getD 87)).last
      else (s.locks m i ((s.tm m).cand ((s.tb m i).ref.getD 87)).last).firstLock m
        ((s.tm m).cand ((s.tb m i).ref.getD 87)).last xo) := by
  change execTimebaseLocked i xo s = _
  unfold execTimebaseLocked
  rw [hcap]
  exact congrArg Outcome.next (if_neg (by rw [hst, decide_eq_false (Nat.not_lt.mpr (Nat.le_of_lt_succ hk))]; decide))

theorem exec_holdoverLimit (hcap : s.captain = some m) (hk : i < 4) (hst : (s.tb m i).st = .holdover)
    (hnone : s.sec.profile = none → 86400 ≤ s.holdoverS (s.tb m i))
    (hsome : ∀ p, s.sec.profile = some p → p.global.holdoverLimit ≤ s.holdoverS (s.tb m i)) :
    exec (.holdoverLimit i) s = .next (if (s.enterTb m i .lost).primaryTb i then
      ((s.enterTb m i .lost).sticky i 1).tbFault m i 0xFF 0x6A 0x6C else s.enterTb m i .lost) := by
  change execHoldoverLimit i s = _
  unfold execHoldoverLimit
  rw [hcap]
  dsimp only
  cases hp : s.sec.profile with
  | none =>
    exact congrArg Outcome.next (if_neg (by
      rw [hst, decide_eq_false (Nat.not_lt.mpr (Nat.le_of_lt_succ hk)), decide_eq_false (Nat.not_lt.mpr (hnone hp))]; decide))
  | some p =>
    exact congrArg Outcome.next (if_neg (by
      rw [hst, decide_eq_false (Nat.not_lt.mpr (Nat.le_of_lt_succ hk)), decide_eq_false (Nat.not_lt.mpr (hsome p hp))]; decide))

/-- The timebases of a mast whose XO has failed are LOST (R422, R428). -/
def State.xoFails (s : State) (m : Mast) : State :=
  (List.range 4).foldl (fun acc t => acc.enterTb m t .lost) { s with tim := s.tim.set m { s.tm m with xoFailed := true } }

theorem foldl_lost {l : List Nat} (hl : ∀ n ∈ l, n < (s.tm m).tbs.length) (h : i ∈ l ∨ (s.tb m i).st = .lost) :
    ((l.foldl (fun acc t => acc.enterTb m t .lost) s).tb m i).st = .lost := by
  induction l generalizing s with
  | nil => exact h.resolve_left List.not_mem_nil
  | cons n l ih =>
    have hn : n < (s.tm m).tbs.length := hl n List.mem_cons_self
    have hlen : ∀ n' ∈ l, n' < ((s.enterTb m n .lost).tm m).tbs.length := fun n' hn' => by
      rw [((enterTb_tbsOnly s m n .lost).each m).2]
      exact hl n' (List.mem_cons_of_mem _ hn')
    refine ih hlen ?_
    by_cases hi : i = n
    · subst hi
      obtain ⟨x, hx, -⟩ := tb_enterTb (st := .lost) hn
      exact .inr (by rw [hx])
    · rw [tb_enterTb_beside hi]
      exact h.imp_left fun h => (List.mem_cons.mp h).resolve_left hi

theorem xoFails_leaves (hlen : (s.tm m).tbs.length = 4) (hk : i < 4) :
    ((s.xoFails m).tm m).xoFailed = true ∧ ((s.xoFails m).tb m i).st = .lost := by
  have hset : ({ s with tim := s.tim.set m { s.tm m with xoFailed := true } } : State).tm m = { s.tm m with xoFailed := true } :=
    Both_get_set ..
  refine ⟨?_, foldl_lost (fun n hn => ?_) (.inl (List.mem_range.mpr hk))⟩
  · unfold State.xoFails
    rw [((TbsOnly_foldl (fun x n => enterTb_tbsOnly x m n .lost) (List.range 4) _).each m).1, hset]
  · rw [hset]
    exact Nat.lt_of_lt_of_eq (List.mem_range.mp hn) hlen.symm

theorem exec_xoCheck {count : Nat} {edges : Bool} (hf : (s.tm m).xoFailed = false) (hrun : s.telltalesRun m = true) :
    exec (.xoCheck m count edges) s = .next (if edges && decide (24987500 ≤ count) && decide (count ≤ 25012500) then s
      else (s.xoFails m).report m 0x66 0x70000001) := by
  change execXoCheck m count edges s = _
  unfold execXoCheck
  dsimp only
  rw [hf, hrun, Bool.not_true, Bool.or_false, Bool.or_false]
  rfl

theorem exec_xoCalibrationUpdate {c mean : Int} (hcal : (s.tm m).xoCal = some c) (hserves : s.serves m = true)
    (hst : (s.tb m 0).st = .locked) (hf : (s.tm m).xoFailed = false) (hlate : (s.tm m).xoAt + 3600 * Config.second ≤ s.now)
    (hp : s.sec.profile = none) : ∃ v, exec (.xoCalibrationUpdate m mean) s = .next (({ s with tim := s.tim.set m { s.tm m with
      xoCal := some (c + max (-50) (min 50 (mean - c))), xoAt := s.now } } : State).gauge m 0x741C v) := by
  refine ⟨toPpb (c + max (-50) (min 50 (mean - c))), ?_⟩
  change execXoCalibrationUpdate m mean s = _
  unfold execXoCalibrationUpdate
  dsimp only
  rw [hcal]
  dsimp only
  rw [if_neg (by rw [hserves, hst, hf, decide_eq_false (Nat.not_lt.mpr hlate)]; decide), hp]

/-! ### The obligation -/

/-- Settles O56: an update touches one timebase or one candidate, and leaves the others as they were. -/
theorem timebasesFollow : Obligations.TimebasesFollow := by
  unfold Obligations.TimebasesFollow
  intro m k s hk hlen
  have hin : k < (s.tm m).tbs.length := by rw [hlen]; exact hk
  refine ⟨fun w hrun hlast hh h87 hgood => ?_, fun i hrun hh h87 hm hptp => ?_, fun j hacq hnone hpick => evaluate_acquires hin hacq hnone hpick,
    fun xo hcap hst => ?_, fun hcap hst hnone hsome => ?_, fun count edges hf hrun => ⟨fun he hlo hhi => ?_, fun hbad => ?_⟩,
    fun c mean hcal hserves hst hf hlate hp => ?_⟩
  · intro c
    obtain ⟨t, hexec, honly⟩ := exec_telltaleWindowEnd (w := w) hrun hlast
    have htm : (s.windowsDue m).tm m = { s.tm m with windowAt := some s.now } := Both_get_set ..
    have hcand : (t.tm m).cand w.cand = (c.window true (s.inTolerance m w.cand w.offset) w.offset s.now).1 := by
      have htol : (s.windowsDue m).inTolerance m w.cand w.offset = s.inTolerance m w.cand w.offset := by
        unfold State.inTolerance State.xoUncertainty
        rw [htm]
        rfl
      have hhere : (s.windowsDue m).candHere w.cand = true := hh
      rw [TbsOnly_cand honly, cand_windowEnd hhere h87, htol, htm, hgood]
      rfl
    refine ⟨t, hexec, ?_⟩
    rw [hcand]
    exact ⟨window_windows, window_absent, window_first, window_third⟩
  · obtain ⟨u, hexec, htim⟩ := exec_candidateAbsent hrun hh h87 hm hptp
    obtain ⟨hst, hcounts⟩ := absent_cand u m i
    have hu : u.tm m = s.tm m := by rw [State.tm, htim]; rfl
    rw [hu] at hcounts
    exact ⟨_, hexec, hst, hcounts⟩
  · obtain ⟨hlocked, hever, honly⟩ := locks_tb (f := ((s.tm m).cand ((s.tb m k).ref.getD 87)).last) hin
    refine ⟨_, exec_timebaseLocked hcap hk hst, ?_⟩
    by_cases h0 : k = 0
    · obtain ⟨c, a, r, htm, hcal⟩ := firstLock_tm (s.locks m k ((s.tm m).cand ((s.tb m k).ref.getD 87)).last) m
        ((s.tm m).cand ((s.tb m k).ref.getD 87)).last xo
      rw [(honly.each m).1] at hcal
      rw [if_neg (Decidable.not_not.mpr h0), State.tb, htm]
      exact ⟨hlocked, hever, fun _ hnone hf => hcal hnone hf⟩
    · rw [if_pos h0]
      exact ⟨hlocked, hever, fun h => absurd h h0⟩
  · obtain ⟨x, hx, hsame⟩ := tb_enterTb (st := .lost) hin
    have htb : ((if (s.enterTb m k .lost).primaryTb k then ((s.enterTb m k .lost).sticky k 1).tbFault m k 0xFF 0x6A 0x6C
        else s.enterTb m k .lost)).tb m k = (s.enterTb m k .lost).tb m k := by
      split
      · exact tb_of_tim ((tbFault_tim _ m k 0xFF).2.trans (sticky_tim ..))
      · rfl
    refine ⟨_, exec_holdoverLimit hcap hk hst hnone hsome, ?_⟩
    rw [htb, hx]
    exact ⟨rfl, hsame rfl⟩
  · rw [exec_xoCheck hf hrun, if_pos (by simp [he, hlo, hhi])]
  · obtain ⟨hfailed, hlost⟩ := xoFails_leaves (i := k) (hlen m) hk
    refine ⟨s.xoFails m, ?_, hfailed, hlost⟩
    rw [exec_xoCheck hf hrun, if_neg]
    simp only [Bool.and_eq_true, decide_eq_true_eq, not_and, Nat.not_le]
    rintro ⟨he, hlo⟩
    rcases hbad with h | h | h
    · rw [h] at he
      cases he
    · omega
    · exact h
  · obtain ⟨v, hexec⟩ := exec_xoCalibrationUpdate (mean := mean) hcal hserves hst hf hlate hp
    have htm (y : TimingMast) : (({ s with tim := s.tim.set m y } : State).gauge m 0x741C v).tm m = y := Both_get_set ..
    refine ⟨_, hexec, ?_, ?_⟩
    · rw [htm]
    · rw [htm]

end Sys2Proof.Machine

/-! # O57: the phase of a timebase and the RTC (R427, R431, R432, R482) -/
namespace Sys2Proof.Machine
open Host Sys2Proof

variable {s t u : State} {m : Mast} {i k : Nat}

/-! ### The pending offset (R427) -/

theorem exec_phaseMarker {offset : Int} (hcap : s.captain = some m) (hk : k < 4) (href : (s.tb m k).ref = some i)
    (hst : (s.tb m k).st = .locked) (hre : (s.tb m k).realign = none)
    (hok : (1 ≤ i ∧ i ≤ 4) ∨ offset.natAbs ≤ (if i = 0 then 500000000 else familyPeriod (s.tbFamily k) / 6)) :
    exec (.phaseMarker k offset) s =
      .next (s.changeTb m k (fun y => { y with pendingNs := if candMarker i then clampSigned 64 offset else 0 })) := by
  have hgood : (decide (1 ≤ i ∧ i ≤ 4) ||
      decide (offset.natAbs ≤ (if i = 0 then 500000000 else familyPeriod (s.tbFamily k) / 6))) = true := by
    rw [Bool.or_eq_true, decide_eq_true_eq, decide_eq_true_eq]
    exact hok
  change execPhaseMarker k offset s = _
  unfold execPhaseMarker
  rw [hcap]
  dsimp only
  rw [href]
  dsimp only
  rw [if_neg (by rw [hst, hgood, hre, decide_eq_false (Nat.not_lt.mpr (Nat.le_of_lt_succ hk))]; decide)]

/-! ### REALIGN at its step (R431, R432, R475) -/

/-- What is due was asked for. -/
theorem firstDue_picked {pick : SchedCmd → Bool} {c : SchedCmd} (h : s.firstDue pick = some c) : pick c = true := by
  have hmem : ∀ (l : List SchedCmd) (best : Option SchedCmd), (∀ b, best = some b → pick b = true) → (∀ b ∈ l, pick b = true) →
      ∀ b, l.foldl (fun best c => match best with
        | none => some c
        | some b => if c.effStep < b.effStep || (c.effStep == b.effStep && decide (c.order < b.order)) then some c else some b)
        best = some b → pick b = true := by
    intro l
    induction l with
    | nil => exact fun best hb _ b h => hb b h
    | cons x l ih =>
      intro best hb hl b h
      refine ih _ (fun y hy => ?_) (fun y hy => hl y (List.mem_cons_of_mem _ hy)) b h
      have hx := hl x List.mem_cons_self
      dsimp only at hy
      split at hy
      · cases hy; exact hx
      · split at hy
        · cases hy; exact hx
        · cases hy; exact hb _ rfl
  refine hmem _ none (fun b hb => nomatch hb) (fun b hb => ?_) c h
  simpa using (Bool.and_eq_true_iff.mp (List.mem_filter.mp hb).2).1

theorem applyAction_realign {c : SchedCmd} (hc : c.code = 0x0805) (s : State) (ms : List Mast) :
    s.applyAction c ms = s.applyRealign c ms := by
  unfold State.applyAction
  simp only [hc, Nat.reduceDiv, Nat.reduceMod, Nat.reduceEqDiff, if_false, if_true]

/-- A REALIGN that has been applied leaves no pending offset and no refused jump of its timebase. -/
theorem realignDone_tb {d : Int} (hlead : s.lead = m) (hk : k < (s.tm m).tbs.length) :
    (s.realignDone k d).tb m k = { s.tb m k with pendingNs := 0, jumpRefused := false } := by
  unfold State.realignDone
  dsimp only
  rw [hlead]
  generalize hx : s.changeTb m k (fun x => { x with pendingNs := 0, jumpRefused := false }) = x
  have hxtb : x.tb m k = { s.tb m k with pendingNs := 0, jumpRefused := false } := by
    rw [← hx]
    exact tb_changeTb hk
  have hsticky (y : State) (hy : y.tim = x.tim) : (if y.primaryTb k then y.sticky k 5 else y).tim = x.tim := by
    split
    · exact hy
    · exact hy
  refine Eq.trans (tb_of_tim ((event_tim ..).trans (hsticky _ ?_))) hxtb
  split
  · rfl
  · rfl

/-- What a REALIGN of a timebase leaves at its step. -/
structure State.Realigned (s t : State) (m : Mast) (k : Nat) : Prop where
  shift : (t.tb m k).shift = (s.tb m k).shift + 3 * (s.tb m k).pendingNs
  other : k ≠ 0 → (t.tb m k).pendingNs = 0 ∧ (t.tb m k).jumpRefused = false
  audio : k = 0 → ∃ r, (t.tb m 0).realign = some r ∧ r.step = s.step ∧ r.offset = (s.tb m 0).pendingNs ∧ r.moved = false

theorem changeTb_lead (f : Timebase → Timebase) : (s.changeTb m k f).lead = s.lead :=
  lead_of_tan (Keeps_same (changeTb_keeps m k f (keeps_refl 262144 s) rfl) .tan rfl)

theorem applyRealign_realigns {c : SchedCmd} {ms : List Mast} (hlead : s.lead = m) (hc : fld c.payload 0 1 = k)
    (hk : k < (s.tm m).tbs.length) (hjump : (s.tb m k).jumpRefused = false ∨ 30 ≤ s.observed m k)
    (hset : s.pendingSet m k = true) (hst : (s.tb m k).st = .locked) :
    ∃ t, s.applyRealign c ms = (t, stOk) ∧ s.Realigned t m k := by
  have hgo : ¬ ((s.tb m k).jumpRefused && decide (s.observed m k < 30)) = true := by
    rcases hjump with h | h
    · rw [h, Bool.false_and]; exact Bool.false_ne_true
    · rw [decide_eq_false (Nat.not_lt.mpr h), Bool.and_false]; exact Bool.false_ne_true
  unfold State.applyRealign
  dsimp only
  rw [hc, hlead, if_neg hgo, if_neg (by rw [hset, hst]; decide)]
  generalize hx : s.changeTb m k (fun y => { y with shift := y.shift + 3 * (s.tb m k).pendingNs }) = x
  have hxtb : x.tb m k = { s.tb m k with shift := (s.tb m k).shift + 3 * (s.tb m k).pendingNs } := by
    rw [← hx]
    exact tb_changeTb hk
  have hxk : k < (x.tm m).tbs.length := by
    rw [← hx, ((changeTb_tbsOnly s m k _).each m).2]
    exact hk
  have hxlead : x.lead = m := by
    rw [← hx, changeTb_lead]
    exact hlead
  by_cases h0 : k = 0
  · rw [if_pos h0]
    subst h0
    generalize hr : ({ step := s.step, offset := (s.tb m 0).pendingNs, resume := s.realignResume s.step (s.tb m 0).pendingNs,
                       moved := false } : Realign) = r
    have hreal : (x.changeTb m 0 (fun y => { y with realign := some r })).tb m 0 = { x.tb m 0 with realign := some r } := tb_changeTb hxk
    refine ⟨_, rfl, ⟨?_, fun h => absurd rfl h, fun _ => ⟨r, ?_, ?_⟩⟩⟩
    · rw [hreal, hxtb]
    · rw [hreal]
    · rw [← hr]
      exact ⟨rfl, rfl, rfl⟩
  · rw [if_neg h0]
    generalize hy : x.changeTb m k (fun y => { y with realignedAt := some s.step }) = y
    have hytb : y.tb m k = { x.tb m k with realignedAt := some s.step } := by
      rw [← hy]
      exact tb_changeTb hxk
    have hdone := realignDone_tb (s := y) (m := m) (k := k) (d := (s.tb m k).pendingNs) (by rw [← hy, changeTb_lead]; exact hxlead)
      (by rw [← hy, ((changeTb_tbsOnly x m k _).each m).2]; exact hxk)
    refine ⟨_, rfl, ⟨?_, fun _ => ?_, fun h => absurd h h0⟩⟩
    · rw [hdone, hytb, hxtb]
    · rw [hdone]
      exact ⟨rfl, rfl⟩

theorem exec_realignEffective {c : SchedCmd} (hcap : s.captain = some m)
    (hdue : s.firstDue (fun c => c.code == 0x0805 && fld c.payload 0 1 == k) = some c) :
    exec (.realignEffective k) s = .next (s.applySched c) := by
  change execRealignEffective k s = _
  unfold execRealignEffective
  rw [hcap, if_neg (by rw [Option.isNone_some]; exact Bool.false_ne_true), hdue]

/-! ### The RTC (R482) -/

/-- TB_0 of the Captain follows a PTP candidate whose parent gives its UTC offset. -/
structure State.GivesUtc (s : State) (m : Mast) (i : Nat) (a : Announce) (x : Int) : Prop where
  locked : (s.tb m 0).st = .locked
  ref : (s.tb m 0).ref = some i
  lo : 1 ≤ i
  hi : i ≤ 4
  parent : (if s.usesOther m (i - 1) then s.dom m.other (i - 1) else s.dom m (i - 1)).parent = some a
  utc : a.utc = some x

theorem rtcFromTb_sets {a : Announce} {x : Int} (hcap : s.captain = some m) (h : s.GivesUtc m i a x) : s.rtcFromTb = { s with
    md := { s.md with nest := { s.md.nest with rtc := (((stepToTime s.rate s.step).1 : Int) - x).toNat, rtcValid := true, rtcFrac := 0 } }
    tim := s.tim.set m { s.tm m with rtcAt := some s.now } } := by
  have hpar : (if s.usesOther m (i - 1) then (atD (s.ptp.get m.other).doms (i - 1) .reset).parent
      else (atD (s.ptp.get m).doms (i - 1) .reset).parent) = some a := by
    rw [← h.parent]
    split
    · rfl
    · rfl
  unfold State.rtcFromTb
  rw [hcap]
  dsimp only
  rw [h.ref, Option.getD_some, hpar]
  dsimp only
  rw [h.utc]
  dsimp only
  rw [if_neg (by rw [h.locked, decide_eq_false (Nat.not_lt.mpr h.lo), decide_eq_false (Nat.not_lt.mpr h.hi)]; decide)]

theorem exec_rtcUpdate (hcap : s.captain = some m)
    (hdue : (s.tm m).rtcAt = none ∨ ∃ x, (s.tm m).rtcAt = some x ∧ x + 3600 * Config.second ≤ s.now) :
    exec .rtcUpdate s = .next s.rtcFromTb := by
  change execRtcUpdate s = _
  unfold execRtcUpdate
  rw [hcap]
  dsimp only
  rcases hdue with h | ⟨x, h, hle⟩
  · rw [h]
  · rw [h]
    exact congrArg Outcome.next (if_neg (Nat.not_lt.mpr hle))

/-! ### The obligation -/

/-- Settles O57: one timebase at a time, and the RTC from TB_0. -/
theorem phasesAndRtc : Obligations.PhasesAndRtc := by
  unfold Obligations.PhasesAndRtc
  intro m k s hk hlen hcap
  have hin : k < (s.tm m).tbs.length := by rw [hlen]; exact hk
  refine ⟨fun i offset href hst hre hok => ?_, fun c hdue hre hjump hset hst => ?_, fun i a x hdue hst href hlo hhi hpar hutc => ?_⟩
  · refine ⟨_, exec_phaseMarker hcap hk href hst hre hok, ?_, fun hi => ?_, fun hi => ?_⟩
    · exact eq_pick_of_keeps (changeTb_keeps m k _ (keeps_refl 262144 s) rfl)
    · rw [tb_changeTb hin, candMarker, decide_eq_true hi]
      rfl
    · rw [tb_changeTb hin, candMarker, decide_eq_false (Nat.not_le.mpr hi)]
      rfl
  · obtain ⟨hcode, hpay⟩ : c.code = 0x0805 ∧ fld c.payload 0 1 = k := by simpa using firstDue_picked hdue
    generalize hd : s.dueState c = d
    have htim : d.tim = s.tim := by rw [← hd]; exact Keeps_same (takeSched_keeps_self (s := s) c) .tim rfl
    have hptp : d.ptp = s.ptp := by rw [← hd]; exact Keeps_same (takeSched_keeps_self (s := s) c) .ptp rfl
    have hsec : d.sec = s.sec := by rw [← hd]; exact Keeps_same (takeSched_keeps_self (s := s) c) .sec rfl
    have htb (j : Nat) : d.tb m j = s.tb m j := tb_of_tim htim
    have hlead : d.lead = m := lead_of_captain (by rw [← hd, dueState_captain]; exact hcap)
    have hstep : d.step = s.step + 1 := by rw [← hd]; rfl
    have htm : d.tm m = s.tm m := by rw [State.tm, htim]; rfl
    have hobs : d.observed m k = s.observed m k := by unfold State.observed; rw [hptp]
    have hpend : d.pendingSet m k = s.pendingSet m k := by
      unfold State.pendingSet State.realignTol State.tbItem
      rw [htb, hsec]
    obtain ⟨r, happly, hdone⟩ := applyRealign_realigns (s := d) (ms := d.appliers c.stokerHolds) hlead hpay (by rw [htm]; exact hin)
      (by rw [htb, hobs]; exact hjump) (hpend.trans hset) (by rw [htb]; exact hst)
    have hdre : (s.dueState c).recheck c = none := hre
    have hact := applySched_acts (r := r) hdre (by rw [hcode]; decide) (by rw [hd, applyAction_realign hcode]; exact happly)
    refine ⟨_, (exec_realignEffective hcap hdue).trans (congrArg Outcome.next hact), rfl, ?_, hdone.other, fun h0 => ?_⟩
    · rw [← htb]
      exact hdone.shift
    · obtain ⟨x, hx, hxs, hxo, hxm⟩ := hdone.audio h0
      exact ⟨x, hx, hxs.trans hstep, by rw [hxo, htb], hxm⟩
  · have hrtc := rtcFromTb_sets (x := x) hcap ⟨hst, href, hlo, hhi, hpar, hutc⟩
    refine ⟨_, (exec_rtcUpdate hcap hdue).trans (congrArg Outcome.next hrtc), rfl, rfl, rfl, ?_⟩
    rw [State.tm, Both_get_set]

end Sys2Proof.Machine

/-! # O58: network time (R464 to R475) -/
namespace Sys2Proof.Machine
open Host Sys2Proof

variable {s t u : State} {m n : Mast} {i j k : Nat}

/-! ### A domain of a mast -/

/-- A state whose network time differs in its domains alone, of which there are as many. -/
structure State.DomsOnly (s t : State) : Prop where
  each : ∀ n, t.ptp.get n = { s.ptp.get n with doms := (t.ptp.get n).doms } ∧
    (t.ptp.get n).doms.length = (s.ptp.get n).doms.length

theorem DomsOnly_of_ptp (h : t.ptp = s.ptp) : s.DomsOnly t := ⟨fun n => by rw [h]; exact ⟨rfl, rfl⟩⟩

theorem DomsOnly_refl (s : State) : s.DomsOnly s := DomsOnly_of_ptp rfl

theorem DomsOnly_trans (h : s.DomsOnly t) (h' : t.DomsOnly u) : s.DomsOnly u := ⟨fun n => by
  obtain ⟨ht, hlt⟩ := h.each n
  obtain ⟨hu, hlu⟩ := h'.each n
  exact ⟨by rw [hu, ht], hlu.trans hlt⟩⟩

theorem DomsOnly_ite {p : Prop} [Decidable p] (h : s.DomsOnly t) (h' : s.DomsOnly u) : s.DomsOnly (if p then t else u) := by
  split
  · exact h
  · exact h'

theorem DomsOnly_relayed (h : s.DomsOnly t) (n : Mast) : (t.ptp.get n).relayed = (s.ptp.get n).relayed := by rw [(h.each n).1]

theorem dom_of_ptp (h : t.ptp = s.ptp) : t.dom m i = s.dom m i := by
  unfold State.dom
  rw [h]

theorem setDom_domsOnly (s : State) (m : Mast) (i : Nat) (d : PtpDom) : s.DomsOnly (s.setDom m i d) := ⟨fun n => by
  by_cases h : n = m
  · subst h
    rw [State.setDom, Both_get_set]
    exact ⟨rfl, List.length_set⟩
  · rw [State.setDom, Both_get_set_ne _ _ h]
    exact ⟨rfl, rfl⟩⟩

theorem dom_setDom {d : PtpDom} (h : i < (s.ptp.get m).doms.length) : (s.setDom m i d).dom m i = d := by
  rw [State.dom, State.setDom, Both_get_set]
  exact atD_setAt _ _ h

theorem dom_setDom_ne (s : State) (i : Nat) (d : PtpDom) (h : n ≠ m) : (s.setDom m i d).dom n j = s.dom n j := by
  rw [State.dom, State.setDom, Both_get_set_ne _ _ h]
  rfl

theorem dom_setDom_beside (s : State) (d : PtpDom) (h : j ≠ i) : (s.setDom m i d).dom m j = s.dom m j := by
  rw [State.dom, State.setDom, Both_get_set]
  exact atD_setAt_ne _ _ h

theorem bump_ptp (s : State) (m : Mast) (i n : Nat) : (s.bump m i n).ptp = s.ptp :=
  Keeps_same (bump_keeps m i n (keeps_refl 1024 s) rfl) .ptp rfl

/-! ### Master changes (R473) -/

/-- What a master change does not touch in a domain. -/
def PtpDom.Same (d e : PtpDom) : Prop :=
  e = { d with absent := e.absent, upset := e.upset, change := e.change, sum := e.sum, count := e.count }

theorem Same_refl (d : PtpDom) : d.Same d := rfl

theorem Same_trans {d e f : PtpDom} (h : d.Same e) (h' : e.Same f) : d.Same f := by
  unfold PtpDom.Same at h h' ⊢
  rw [h', h]

/-- A domain replaced by one that is the same in that sense. -/
theorem setDom_same {d : PtpDom} (h : (s.dom n i).Same d) : (s.dom m j).Same ((s.setDom n i d).dom m j) := by
  by_cases hm : m = n
  · subst hm
    by_cases hj : j = i
    · subst hj
      by_cases hlen : j < (s.ptp.get m).doms.length
      · rw [dom_setDom hlen]
        exact h
      · have hout : (s.setDom m j d).dom m j = s.dom m j := by
          unfold State.setDom State.dom
          dsimp only
          rw [Both_get_set, setAt, List.set_eq_of_length_le (Nat.not_lt.mp hlen)]
        rw [hout]
        exact Same_refl _
    · rw [dom_setDom_beside _ _ hj]
      exact Same_refl _
  · rw [dom_setDom_ne _ _ _ hm]
    exact Same_refl _

theorem masterChange_leaves (s : State) (n : Mast) (i : Nat) (old : Int) :
    s.DomsOnly (s.masterChange n i old) ∧ (s.dom m j).Same ((s.masterChange n i old).dom m j) := by
  unfold State.masterChange
  dsimp only
  split
  · exact ⟨DomsOnly_refl s, Same_refl _⟩
  · split
    · exact ⟨setDom_domsOnly .., setDom_same rfl⟩
    · split
      · exact ⟨DomsOnly_refl s, Same_refl _⟩
      · exact ⟨setDom_domsOnly .., setDom_same rfl⟩

theorem ptpReturns_leaves (s : State) (n : Mast) (i : Nat) :
    s.DomsOnly (s.ptpReturns n i) ∧ (s.dom m j).Same ((s.ptpReturns n i).dom m j) := by
  unfold State.ptpReturns
  dsimp only
  split
  · split
    · obtain ⟨honly, hsame⟩ := masterChange_leaves (m := m) (j := j) (s.setDom n i { s.dom n i with absent := false }) n i
        ((s.dom n i).mean.getD 0)
      exact ⟨DomsOnly_trans (setDom_domsOnly ..) honly, Same_trans (setDom_same (d := { s.dom n i with absent := false }) rfl) hsame⟩
    · exact ⟨setDom_domsOnly .., setDom_same rfl⟩
  · exact ⟨DomsOnly_refl s, Same_refl _⟩

/-- The domain with its parent and its path chosen. -/
def State.chosenDom (s : State) (m : Mast) (t : Nat) : PtpDom :=
  let d := s.dom m t
  let o := s.dom m.other t
  let p := bestParent s.now d.announces
  let other := p.isNone && s.inTandem && (bestParent s.now o.announces).isSome
  let same := p.map (fun a => a.source) = d.parent.map (fun a => a.source)
  { d with parent := p, otherPath := other, announces := d.announces.filter (fun a => a.fresh s.now),
           path := if same then d.path else none
           reqs := if same then d.reqs else [], reqLog := if same then d.reqLog else 0 }

theorem ite_one_of {α : Type} (c : Prop) [Decidable c] (a b : α) : (if c then a else b) = a ∨ (if c then a else b) = b := by
  split
  · exact .inl rfl
  · exact .inr rfl

theorem choosePath_cases (s : State) (n : Mast) (i : Nat) :
    s.choosePath n i = (s.setDom n i (s.chosenDom n i)).masterChange n i ((s.dom n i).mean.getD 0) ∨
    s.choosePath n i = s.setDom n i (s.chosenDom n i) := ite_one_of ..

theorem choosePath_leaves (s : State) (n : Mast) (i : Nat) : s.DomsOnly (s.choosePath n i) ∧
    ((s.setDom n i (s.chosenDom n i)).dom m j).Same ((s.choosePath n i).dom m j) := by
  obtain ⟨honly, hsame⟩ := masterChange_leaves (m := m) (j := j) (s.setDom n i (s.chosenDom n i)) n i ((s.dom n i).mean.getD 0)
  rcases choosePath_cases s n i with h | h
  · rw [h]
    exact ⟨DomsOnly_trans (setDom_domsOnly ..) honly, hsame⟩
  · rw [h]
    exact ⟨setDom_domsOnly .., Same_refl _⟩

theorem choosePath_domsOnly (s : State) (n : Mast) (i : Nat) : s.DomsOnly (s.choosePath n i) :=
  (choosePath_leaves (m := n) (j := i) s n i).1

/-- The path of another mast is chosen. -/
theorem dom_choosePath_ne (s : State) (i : Nat) (h : m ≠ n) : (s.dom m j).Same ((s.choosePath n i).dom m j) := by
  have hsame := (choosePath_leaves (m := m) (j := j) s n i).2
  rw [dom_setDom_ne _ _ _ h] at hsame
  exact hsame

/-- The Announces that are fresh outlast the choice of a path. -/
theorem announces_choosePath (hk : i < (s.ptp.get m).doms.length) : ((s.choosePath m i).dom m i).announces =
    (s.dom m i).announces.filter (fun a => a.fresh s.now) := by
  have hsame := (choosePath_leaves (m := m) (j := i) s m i).2
  rw [dom_setDom hk] at hsame
  exact congrArg PtpDom.announces hsame

/-! ### Pairing (R468, R469) -/

/-- A domain with a paired Sync. -/
def PtpDom.synced (d : PtpDom) (origin t2 : Int) (now : Nat) : PtpDom :=
  { d with sync := some (origin, t2), syncAt := some now, held := none }

/-- A sample for a timebase of a mast, where the path delay is known. -/
def State.noted (acc : State) (c : Mast) (t : Nat) (path : Option Int) (origin t2 : Int) : State :=
  match path with
  | none => acc
  | some path =>
    let e := acc.dom c t
    acc.setDom c t { e with sum := e.sum + (origin + path - t2), count := e.count + 1 }

theorem paired_leaves (s : State) (m : Mast) (i : Nat) (origin t2 : Int) :
    s.DomsOnly (s.paired m i origin t2) ∧ (i < (s.ptp.get m).doms.length →
      ((s.dom m i).synced origin t2 s.now).Same ((s.paired m i origin t2).dom m i)) := by
  generalize hx : s.setDom m i ((s.dom m i).synced origin t2 s.now) = x
  have hxdoms : s.DomsOnly x := hx ▸ setDom_domsOnly ..
  have hxdom (h : i < (s.ptp.get m).doms.length) :
      ((s.dom m i).synced origin t2 s.now).Same (x.dom m i) := by
    rw [← hx, dom_setDom h]
    exact Same_refl _
  have hnote (c : Mast) (v : Int) :
      s.DomsOnly (x.setDom c i { x.dom c i with sum := (x.dom c i).sum + v, count := (x.dom c i).count + 1 }) ∧
      (i < (s.ptp.get m).doms.length → ((s.dom m i).synced origin t2 s.now).Same
        ((x.setDom c i { x.dom c i with sum := (x.dom c i).sum + v, count := (x.dom c i).count + 1 }).dom m i)) :=
    ⟨DomsOnly_trans hxdoms (setDom_domsOnly ..), fun h => Same_trans (hxdom h) (setDom_same rfl)⟩
  have hpaired : s.paired m i origin t2 = if s.isCaptain m.other then
        (if s.usesOther m.other i then x.noted m.other i (s.dom m i).path origin t2 else x)
      else if s.usesOther m i then x else x.noted m i (s.dom m i).path origin t2 := by
    subst hx
    rfl
  rw [hpaired]
  unfold State.noted
  cases (s.dom m i).path with
  | none =>
    dsimp only
    simp only [ite_self]
    exact ⟨hxdoms, hxdom⟩
  | some path =>
    dsimp only
    split
    · split
      · exact hnote m.other _
      · exact ⟨hxdoms, hxdom⟩
    · split
      · exact ⟨hxdoms, hxdom⟩
      · exact hnote m _

/-! ### One message on one domain (R466 to R469) -/

theorem ptpOn_domsOnly (s : State) (m : Mast) (x : PtpMsg) (i : Nat) : s.DomsOnly (s.ptpOn m x i) := by
  have hbump (u : State) (j : Nat) (h : s.DomsOnly u) : s.DomsOnly (u.bump m j 1) :=
    DomsOnly_trans h (DomsOnly_of_ptp (bump_ptp ..))
  unfold State.ptpOn
  dsimp only
  split
  · split
    · exact hbump _ _ (DomsOnly_refl s)
    · split
      · exact DomsOnly_refl s
      · exact DomsOnly_trans (setDom_domsOnly ..) (DomsOnly_trans (choosePath_domsOnly ..) (choosePath_domsOnly ..))
  · have hheld : s.DomsOnly (if (s.dom m i).held.isSome then
        (s.setDom m i { s.dom m i with held := none }).bump m 0x6003 1 else s) :=
      DomsOnly_ite (hbump _ _ (setDom_domsOnly ..)) (DomsOnly_refl s)
    exact DomsOnly_ite (hbump _ _ (DomsOnly_refl s)) (DomsOnly_ite (DomsOnly_refl s) (DomsOnly_ite
      (DomsOnly_trans hheld (setDom_domsOnly ..)) (DomsOnly_trans hheld (paired_leaves ..).1)))
  · split
    · split
      · exact (paired_leaves ..).1
      · exact hbump _ _ (DomsOnly_refl s)
    · exact hbump _ _ (DomsOnly_refl s)
  · split
    · exact DomsOnly_refl s
    · split
      · exact DomsOnly_refl s
      · split
        · exact hbump _ _ (setDom_domsOnly ..)
        · exact setDom_domsOnly ..
  · exact DomsOnly_refl s
  · exact DomsOnly_refl s
  · exact DomsOnly_refl s

/-- The entry of an Announce. -/
def State.announced (s : State) (x : PtpMsg) (a : AnnounceBody) : Announce :=
  { source := x.source, port := x.port, gmId := a.gmId, priority1 := a.priority1, clockClass := a.clockClass,
    accuracy := a.accuracy, variance := a.variance, priority2 := a.priority2, steps := a.steps,
    logInterval := x.logInterval, at' := s.now, utc := a.utc }

theorem ptpOn_announce {x : PtpMsg} {a : AnnounceBody} (hk : i < (s.ptp.get m).doms.length) (hx : x.body = .announce a)
    (hint : s.intervalOk i false x.logInterval = true) (hex : s.announceExcluded i a = false) :
    s.announced x a ∈ ((s.ptpOn m x i).dom m i).announces := by
  unfold State.ptpOn
  rw [hx]
  dsimp only
  rw [if_neg (by rw [hint]; decide), if_neg (by rw [hex]; decide)]
  change s.announced x a ∈ ((((s.setDom m i { s.dom m i with
    announces := (s.dom m i).announces.filter (fun b => b.source != x.source) ++ [s.announced x a] }).choosePath m i).choosePath
    m.other i).dom m i).announces
  generalize hy : s.setDom m i { s.dom m i with
    announces := (s.dom m i).announces.filter (fun b => b.source != x.source) ++ [s.announced x a] } = y
  have hnow : y.now = s.now := by rw [← hy]; rfl
  have hin : s.announced x a ∈ (y.dom m i).announces := by
    rw [← hy, dom_setDom hk]
    exact List.mem_append_right _ List.mem_cons_self
  have hylen : i < (y.ptp.get m).doms.length := by
    rw [← hy, ((setDom_domsOnly s m i _).each m).2]
    exact hk
  rw [congrArg PtpDom.announces (dom_choosePath_ne (y.choosePath m i) i (other_ne m).symm)]
  change s.announced x a ∈ ((y.choosePath m i).dom m i).announces
  rw [announces_choosePath hylen, hnow]
  exact List.mem_filter.mpr ⟨hin, decide_eq_true (Nat.le_add_right _ _)⟩

theorem ptpOn_followUp {x : PtpMsg} {t1 : Int} {hs : HeldSync} (hx : x.body = .followUp t1) (hheld : (s.dom m i).held = some hs)
    (hseq : hs.seq = x.seq) (hsrc : hs.source = x.source) :
    s.ptpOn m x i = s.paired m i (t1 + hs.c1 + x.correction) hs.t2 := by
  unfold State.ptpOn
  rw [hx]
  dsimp only
  rw [hheld]
  exact if_pos (by simp [hseq, hsrc])

theorem ptpOn_delayResp {x : PtpMsg} {t4 : Int} {r : DelayReq} {origin t2 : Int} (hx : x.body = .delayResp t4 (ownPortId m x.port))
    (hr : (s.dom m i).reqs.find? (fun q => q.seq == x.seq) = some r) (hin : s.now ≤ r.at' + Config.second)
    (hsync : (s.dom m i).sync = some (origin, t2)) : s.ptpOn m x i = s.setDom m i { s.dom m i with
      reqs := (s.dom m i).reqs.filter (fun q => q.seq != x.seq)
      path := some ((t2 - origin + (t4 - r.t3 - x.correction)).fdiv 2), unanswered := 0, reqLog := x.logInterval } := by
  unfold State.ptpOn
  rw [hx]
  dsimp only
  rw [hr]
  dsimp only
  rw [if_neg (by simp), if_neg (Nat.not_lt.mpr hin), hsync]

/-! ### The transparent clock (R472) -/

/-- Messages whose residence time is added. -/
def PtpMsg.timed (x : PtpMsg) : Bool :=
  match x.body with
  | .sync _ _ => true
  | .delayReq => true
  | _ => false

/-- A message sent on at one port. -/
def State.relayOn (m : Mast) (x : PtpMsg) (timed : Bool) (acc : State) (l : Nat) : State :=
  let r := if timed then acc.residence else (0, acc)
  let z := r.2.ptp.get m
  let e : Relay := { port := l, source := x.source, seq := x.seq, correction := x.correction + r.1 }
  ({ r.2 with ptp := r.2.ptp.set m { z with relayed := z.relayed ++ [e] } } : State).offer m (some l) 0 (udpFrame false false 64)

theorem relayOn_leaves (m : Mast) (x : PtpMsg) (timed : Bool) (s : State) (l : Nat) :
    (∀ n, ((s.relayOn m x timed l).ptp.get n).doms = (s.ptp.get n).doms) ∧
    ∃ e : Relay, ((s.relayOn m x timed l).ptp.get m).relayed = (s.ptp.get m).relayed ++ [e] ∧ e.port = l ∧ e.source = x.source ∧
      e.seq = x.seq ∧ (timed = false → e.correction = x.correction) := by
  have hptp : (if timed then s.residence else (0, s)).2.ptp = s.ptp := by
    split
    · exact Keeps_same (residence_keeps (keeps_refl 8 s) rfl) .ptp rfl
    · rfl
  generalize hr : (if timed then s.residence else ((0 : Int), s)) = r at hptp
  generalize he : ({ port := l, source := x.source, seq := x.seq, correction := x.correction + r.1 } : Relay) = e
  have hset : (s.relayOn m x timed l).ptp = s.ptp.set m { s.ptp.get m with relayed := (s.ptp.get m).relayed ++ [e] } := by
    unfold State.relayOn
    dsimp only
    rw [hr, he, Keeps_same (offer_keeps m (some l) 0 (udpFrame false false 64) (keeps_refl 131072 _) rfl) .ptp rfl, hptp]
  rw [hset]
  refine ⟨fun n => ?_, e, ?_, ?_⟩
  · by_cases h : n = m
    · subst h
      rw [Both_get_set]
    · rw [Both_get_set_ne _ _ h]
  · rw [Both_get_set]
  · rw [← he]
    refine ⟨rfl, rfl, rfl, fun ht => ?_⟩
    rw [ht, if_neg Bool.false_ne_true] at hr
    rw [← hr]
    exact Int.add_zero _

theorem foldl_relayOn (m : Mast) (x : PtpMsg) (timed : Bool) (l : List Nat) (s : State) :
    (∀ n, ((l.foldl (State.relayOn m x timed) s).ptp.get n).doms = (s.ptp.get n).doms) ∧
    ∃ es : List Relay, ((l.foldl (State.relayOn m x timed) s).ptp.get m).relayed = (s.ptp.get m).relayed ++ es ∧
      es.map (fun r => r.port) = l ∧
      ∀ e ∈ es, e.source = x.source ∧ e.seq = x.seq ∧ (timed = false → e.correction = x.correction) := by
  induction l generalizing s with
  | nil => exact ⟨fun _ => rfl, [], (List.append_nil _).symm, rfl, fun e h => nomatch h⟩
  | cons p l ih =>
    obtain ⟨hdoms, e, he, hport, hfacts⟩ := relayOn_leaves m x timed s p
    obtain ⟨hdoms', es, hes, hports, heach⟩ := ih (s.relayOn m x timed p)
    refine ⟨fun n => (hdoms' n).trans (hdoms n), e :: es, ?_, ?_, fun y hy => ?_⟩
    · refine hes.trans ?_
      rw [he, List.append_assoc]
      rfl
    · rw [List.map_cons, hport, hports]
    · rcases List.mem_cons.mp hy with rfl | h
      · exact hfacts
      · exact heach y h

theorem relay_leaves (s : State) (m : Mast) (x : PtpMsg) : (∀ n i, (s.relay m x).dom n i = s.dom n i) ∧
    (∀ n, ((s.relay m x).ptp.get n).doms.length = (s.ptp.get n).doms.length) ∧
    (x.body ≠ .management → ((s.relay m x).ptp.get m).relayed.map (fun r => r.port) = s.tcMembers m x.port) ∧
    ∀ r ∈ ((s.relay m x).ptp.get m).relayed, r.source = x.source ∧ r.seq = x.seq ∧ (x.timed = false → r.correction = x.correction) := by
  generalize hon : (if x.body = .management then [] else s.tcMembers m x.port) = on
  generalize hy : ({ s with ptp := s.ptp.set m { s.ptp.get m with
    forwarded := (s.ptp.get m).forwarded + on.length, relayed := [] } } : State) = y
  have hrelay : s.relay m x = on.foldl (State.relayOn m x x.timed) y := by
    subst hy hon
    rfl
  have hydoms (n : Mast) : (y.ptp.get n).doms = (s.ptp.get n).doms := by
    rw [← hy]
    by_cases h : n = m
    · subst h
      dsimp only
      rw [Both_get_set]
    · exact congrArg PtpMast.doms (Both_get_set_ne _ _ h)
  have hynone : (y.ptp.get m).relayed = [] := by
    rw [← hy]
    dsimp only
    rw [Both_get_set]
  obtain ⟨hdoms, es, hes, hports, heach⟩ := foldl_relayOn m x x.timed on y
  have hall (n : Mast) : ((s.relay m x).ptp.get n).doms = (s.ptp.get n).doms := by
    rw [hrelay]
    exact (hdoms n).trans (hydoms n)
  rw [hynone, List.nil_append, ← hrelay] at hes
  refine ⟨fun n i => ?_, fun n => by rw [hall], fun hbody => ?_, fun r hr => ?_⟩
  · unfold State.dom
    rw [hall]
  · rw [hes, hports, ← hon, if_neg hbody]
  · rw [hes] at hr
    exact heach r hr

/-! ### A message (R464 to R472) -/

/-- A message on the domain of one timebase, and what it brings back from an absence. -/
def State.ptpTaken (s : State) (m : Mast) (x : PtpMsg) (i : Nat) : State :=
  (((s.relay m x).ptpOn m x i).ptpReturns m i).ptpReturns m.other i

theorem exec_ptpMessageRx {x : PtpMsg} (hrun : s.telltalesRun m = true) (hport : x.port < 128) (hup : s.portUp m x.port = true) :
    ((x.version ≠ 2 ∨ 1 < x.minor ∨ s.listed m x.port x.domain = [] ∨ s.ptpReaches m x = false ∨ x.body = .pdelay) →
      exec (.ptpMessageRx m x) s = .next (s.bump m (0x0400 + 8 * x.port + 5) 1)) ∧
    (x.version = 2 → x.minor ≤ 1 → s.ptpReaches m x = true → s.listed m x.port x.domain = [k] → x.body ≠ .pdelay →
      exec (.ptpMessageRx m x) s = .next (s.ptpTaken m x k)) := by
  have hgo : ¬ (!s.telltalesRun m || decide (x.port ≥ 128) || !s.portUp m x.port) = true := by
    rw [hrun, hup, decide_eq_false (Nat.not_le.mpr hport)]
    decide
  refine ⟨fun hbad => ?_, fun hv hm hreach hlist hbody => ?_⟩
  · refine congrArg Outcome.next ((if_neg hgo).trans (if_pos ?_))
    simp only [Bool.or_eq_true, decide_eq_true_eq, Bool.not_eq_true', List.isEmpty_iff, beq_iff_eq]
    rcases hbad with h | h | h | h | h
    · exact .inl (.inl (.inl (.inl h)))
    · exact .inl (.inl (.inl (.inr h)))
    · exact .inl (.inl (.inr h))
    · exact .inl (.inr h)
    · exact .inr h
  · refine congrArg Outcome.next ((if_neg hgo).trans ((if_neg ?_).trans ?_))
    · simp [hv, Nat.not_lt.mpr hm, hreach, hlist, hbody]
    · rw [hlist]
      rfl

theorem ptpTaken_relayed (s : State) (m : Mast) (x : PtpMsg) (i : Nat) :
    ((s.ptpTaken m x i).ptp.get m).relayed = ((s.relay m x).ptp.get m).relayed :=
  DomsOnly_relayed (DomsOnly_trans (ptpOn_domsOnly ..) (DomsOnly_trans (ptpReturns_leaves (m := m) (j := i) ..).1
    (ptpReturns_leaves (m := m) (j := i) ..).1)) m

theorem ptpTaken_dom (s : State) (m : Mast) (x : PtpMsg) (i : Nat) :
    (((s.relay m x).ptpOn m x i).dom m i).Same ((s.ptpTaken m x i).dom m i) :=
  Same_trans (ptpReturns_leaves ..).2 (ptpReturns_leaves ..).2

/-! ### Syncs that wait, and Delay_Reqs (R468, R469) -/

theorem exec_syncPairTimeout {hs : HeldSync} (hheld : (s.dom m k).held = some hs) (hlate : hs.at' + Config.second ≤ s.now) :
    exec (.syncPairTimeout m k) s = .next ((s.setDom m k { s.dom m k with held := none }).bump m 0x6003 1) := by
  change execSyncPairTimeout m k s = _
  unfold execSyncPairTimeout
  dsimp only
  rw [hheld]
  exact congrArg Outcome.next (if_neg (Nat.not_lt.mpr hlate))

/-- The domain once a Delay_Req has been sent. -/
def PtpDom.asked (d : PtpDom) (dest : Option Nat) (t3 : Int) (now : Nat) : PtpDom :=
  { d with reqs := keepLast 16 (d.reqs ++ [{ dest := dest, seq := d.reqSeq, t3 := t3, at' := now }]), reqSeq := (d.reqSeq + 1) % 65536,
           unanswered := d.unanswered + 1, reqAt := some now }

theorem exec_delayReqSend {t3 : Int} (hk : k < 4) (hlen : k < (s.ptp.get m).doms.length) (hp : (s.dom m k).parent.isSome = true)
    (hrun : s.telltalesRun m = true)
    (hdue : (s.dom m k).reqAt = none ∨ ∃ x, (s.dom m k).reqAt = some x ∧ x + logTime (s.dom m k).reqLog ≤ s.now) :
    ∃ t dest, exec (.delayReqSend m k t3) s = .next t ∧ t = { s with ptp := t.ptp, lan := t.lan } ∧
      t.dom m k = (s.dom m k).asked dest t3 s.now := by
  generalize hdest : (if (s.tbItem k).elim false (fun x => x.delayMode == 1) then
    (s.dom m k).parent.map (fun a => a.source) else none) = dest
  generalize hy : s.setDom m k ((s.dom m k).asked dest t3 s.now) = y
  generalize hz : ({ y with ptp := y.ptp.set m { y.ptp.get m with delayReqs := (y.ptp.get m).delayReqs + 1 } } : State) = z
  have hexec : exec (.delayReqSend m k t3) s =
      .next (z.offer m ((s.dom m k).parent.map (fun a => a.port)) 0 (udpFrame false false 44)) := by
    subst hz hy hdest
    refine congrArg Outcome.next (if_neg ?_)
    rw [← Option.not_isSome, hp, hrun, decide_eq_false (Nat.not_lt.mpr (Nat.le_of_lt_succ hk))]
    rcases hdue with h | ⟨x, h, hle⟩
    · rw [h]
      exact Bool.false_ne_true
    · rw [h]
      simpa using hle
  have hkeep := offer_keeps m ((s.dom m k).parent.map (fun a => a.port)) 0 (udpFrame false false 44) (keeps_refl 131072 z) rfl
  refine ⟨_, dest, hexec, ?_, ?_⟩
  · have hptp : Keeps 1048576 s z := by
      have hyz : Keeps 1048576 y z := by
        rw [← hz]
        simp (maxDischargeDepth := 99)
      exact keeps_trans (hy ▸ setDom_keeps m k _ (keeps_refl 1048576 s) rfl) hyz
    exact eq_pick_of_keeps (w := 1179648) (keeps_trans (keeps_mono hptp rfl) (keeps_mono hkeep rfl))
  · refine (dom_of_ptp (Keeps_same hkeep .ptp rfl)).trans ?_
    have hdoms : z.dom m k = y.dom m k := by
      rw [← hz]
      unfold State.dom
      dsimp only
      rw [Both_get_set]
    rw [hdoms, ← hy]
    exact dom_setDom hlen

/-! ### The mean of a second (R469, R470, R473, R475) -/

/-- The mean of a second enters a domain. -/
def PtpDom.meant (d : PtpDom) (mean : Int) (now : Nat) (follows : Bool) : PtpDom :=
  { d with mean := some mean, sum := 0, count := 0, upset := false, secondAt := some now, followed := d.followed || follows }

/-- Whether a mean lies within the threshold of a time. -/
def State.nearTo (s : State) (t : Nat) (mean v : Int) : Bool := decide (((mean - v).natAbs : Int) ≤ s.jumpThreshold t)

/-- What the mean of a second leads to. -/
def State.secondMean (s : State) (m : Mast) (t : Nat) (mean : Int) : State :=
  let d := s.dom m t
  let e := d.meant mean s.now ((s.tb m t).ref == some (1 + t))
  if (s.tb m t).jumpRefused then
    if s.nearTo t mean d.oldMean then (s.setDom m t e).jumpEnds m t
    else if !d.upset && (d.mean.elim false (s.nearTo t mean)) then s.setDom m t { e with observed := d.observed + 1 }
    else s.setDom m t { e with observed := 0, refusedJump := mean - d.oldMean }
  else match d.mean with
    | some old => if s.nearTo t mean old then s.setDom m t e else (s.setDom m t e).masterChange m t old
    | none => s.setDom m t e

theorem exec_ptpOffsetSecond {mean : Int} (hcap : s.captain = some m) (hk : k < 4)
    (hlast : ∀ a, (s.dom m k).secondAt = some a → a + Config.second ≤ s.now)
    (hchange : ((s.pathsChosen m k).dom m k).change = none) (hmean : ((s.pathsChosen m k).dom m k).newMean = some mean) :
    exec (.ptpOffsetSecond k) s = .next ((s.pathsChosen m k).secondMean m k mean) := by
  have hdue : (s.dom m k).secondAt.elim false (fun a => decide (s.now < a + Config.second)) = false := by
    cases h : (s.dom m k).secondAt with
    | none => rfl
    | some a =>
      rw [Option.elim_some]
      exact decide_eq_false (Nat.not_lt.mpr (hlast a h))
  change execPtpOffsetSecond k s = _
  unfold execPtpOffsetSecond
  rw [hcap]
  dsimp only
  rw [if_neg (by rw [hdue, decide_eq_false (Nat.not_lt.mpr (Nat.le_of_lt_succ hk))]; decide)]
  change Outcome.next (if ((s.pathsChosen m k).dom m k).change.isSome then _ else _) = _
  rw [if_neg (by rw [hchange]; decide), show ((s.choosePath m k).choosePath m.other k).dom m k = (s.pathsChosen m k).dom m k from rfl,
    hmean]
  rfl

section SecondMean
variable {mean : Int} (hlen : k < (s.ptp.get m).doms.length)
include hlen

/-- In every case the mean is the domain's, and a new second begins. -/
theorem secondMean_meant : ((s.secondMean m k mean).dom m k).mean = some mean ∧ ((s.secondMean m k mean).dom m k).count = 0 ∧
    ((s.secondMean m k mean).dom m k).sum = 0 ∧ ((s.secondMean m k mean).dom m k).secondAt = some s.now := by
  generalize he : (s.dom m k).meant mean s.now ((s.tb m k).ref == some (1 + k)) = e
  have hmeant : e.mean = some mean ∧ e.count = 0 ∧ e.sum = 0 ∧ e.secondAt = some s.now := by
    rw [← he]
    exact ⟨rfl, rfl, rfl, rfl⟩
  have hset (f : PtpDom) : (s.setDom m k f).dom m k = f := dom_setDom hlen
  have hlen' : k < ((s.setDom m k e).ptp.get m).doms.length := by
    rw [((setDom_domsOnly s m k e).each m).2]
    exact hlen
  unfold State.secondMean
  dsimp only
  rw [he]
  split
  · split
    · have hends : ((s.setDom m k e).jumpEnds m k).dom m k = { e with refusedJump := 0, observed := 0 } := by
        unfold State.jumpEnds
        rw [dom_of_ptp (Keeps_same (changeTb_keeps m k _ (keeps_refl 262144 _) rfl) .ptp rfl), dom_setDom hlen', hset]
      rw [hends]
      exact hmeant
    · split
      · rw [hset]
        exact hmeant
      · rw [hset]
        exact hmeant
  · split
    · split
      · rw [hset]
        exact hmeant
      · next old _ _ =>
        unfold State.masterChange
        dsimp only
        split
        · rw [hset]
          exact hmeant
        · split
          · rw [dom_setDom hlen', hset]
            exact hmeant
          · split
            · rw [hset]
              exact hmeant
            · rw [dom_setDom hlen', hset]
              exact ⟨hmeant.1, rfl, rfl, hmeant.2.2.2⟩
    · rw [hset]
      exact hmeant

/-- A mean that lies beyond the threshold of the last is a master change of the candidate that is followed (R473). -/
theorem secondMean_changes {old : Int} (hcap : s.isCaptain m = true) (href : (s.tb m k).ref = some (1 + k))
    (hrefused : (s.tb m k).jumpRefused = false) (hchange : (s.dom m k).change = none) (hold : (s.dom m k).mean = some old)
    (hfar : s.nearTo k mean old = false) :
    ((s.secondMean m k mean).dom m k).change = some { at' := s.now, oldMean := old } := by
  generalize he : (s.dom m k).meant mean s.now ((s.tb m k).ref == some (1 + k)) = e
  have hec : e.change = none := by
    rw [← he]
    exact hchange
  have hset : (s.setDom m k e).dom m k = e := dom_setDom hlen
  have hfollows : (s.setDom m k e).followsPtp m k = true := by
    have hcap' : (s.setDom m k e).isCaptain m = true := hcap
    have href' : ((s.setDom m k e).tb m k).ref = some (1 + k) := href
    unfold State.followsPtp
    rw [hcap', href']
    simp
  have hrefused' : ((s.setDom m k e).tb m k).jumpRefused = false := hrefused
  unfold State.secondMean
  dsimp only
  rw [he, hrefused, if_neg Bool.false_ne_true, hold]
  dsimp only
  rw [hfar, if_neg Bool.false_ne_true]
  unfold State.masterChange
  dsimp only
  rw [hfollows, hrefused', hset, if_neg (by decide), if_neg Bool.false_ne_true, hec]
  dsimp only
  rw [dom_setDom (by rw [((setDom_domsOnly s m k e).each m).2]; exact hlen)]
  rfl

/-- A jump stands refused: it ends, it is observed, or it is observed from the start again (R475). -/
theorem secondMean_refused (hrefused : (s.tb m k).jumpRefused = true) :
    ((s.tm m).tbs.length = 4 → k < 4 → s.nearTo k mean (s.dom m k).oldMean = true →
      ((s.secondMean m k mean).tb m k).jumpRefused = false ∧ ((s.secondMean m k mean).dom m k).refusedJump = 0 ∧
      ((s.secondMean m k mean).dom m k).observed = 0) ∧
    (s.nearTo k mean (s.dom m k).oldMean = false →
      (∀ old, (s.dom m k).mean = some old → (s.dom m k).upset = false → s.nearTo k mean old = true →
        ((s.secondMean m k mean).dom m k).observed = (s.dom m k).observed + 1) ∧
      (((s.dom m k).upset = true ∨ ∀ old, (s.dom m k).mean = some old → s.nearTo k mean old = false) →
        ((s.secondMean m k mean).dom m k).observed = 0 ∧
        ((s.secondMean m k mean).dom m k).refusedJump = mean - (s.dom m k).oldMean)) := by
  generalize he : (s.dom m k).meant mean s.now ((s.tb m k).ref == some (1 + k)) = e
  have hset (f : PtpDom) : (s.setDom m k f).dom m k = f := dom_setDom hlen
  unfold State.secondMean
  dsimp only
  rw [he, if_pos hrefused]
  refine ⟨fun htbs hk hnear => ?_, fun hfar => ⟨fun old hold hup hnear => ?_, fun hagain => ?_⟩⟩
  · have hlen' : k < ((s.setDom m k e).ptp.get m).doms.length := by
      rw [((setDom_domsOnly s m k e).each m).2]
      exact hlen
    have htb (f : PtpDom) : k < (((s.setDom m k e).setDom m k f).tm m).tbs.length := by
      change k < (s.tm m).tbs.length
      rw [htbs]
      exact hk
    rw [if_pos hnear]
    unfold State.jumpEnds
    rw [dom_of_ptp (Keeps_same (changeTb_keeps m k _ (keeps_refl 262144 _) rfl) .ptp rfl), dom_setDom hlen', tb_changeTb (htb _)]
    exact ⟨rfl, rfl, rfl⟩
  · rw [if_neg (by rw [hfar]; decide), if_pos (by rw [hup, hold, Option.elim_some, hnear]; decide), hset]
  · have hno : ¬ (!(s.dom m k).upset && (s.dom m k).mean.elim false (s.nearTo k mean)) = true := by
      rcases hagain with h | h
      · rw [h]
        exact Bool.false_ne_true
      · cases hm : (s.dom m k).mean with
        | none => simp
        | some old => simp [h old hm]
    rw [if_neg (by rw [hfar]; decide), if_neg hno, hset]
    exact ⟨rfl, rfl⟩

end SecondMean

/-! ### What an evaluation leaves of a refused jump (R474, R475) -/

/-- A state with the same network time, whose timebases on a mast have the same jumps refused and candidates barred. -/
structure State.KeepsRefusals (s t : State) (m : Mast) : Prop where
  ptp : t.ptp = s.ptp
  each : ∀ j, (t.tb m j).jumpRefused = (s.tb m j).jumpRefused ∧ (t.tb m j).barred = (s.tb m j).barred
  cands : (t.tm m).cands = (s.tm m).cands

theorem KeepsRefusals_of_parts (hp : t.ptp = s.ptp) (ht : t.tim = s.tim) : s.KeepsRefusals t m :=
  ⟨hp, fun _ => by rw [tb_of_tim ht]; exact ⟨rfl, rfl⟩, by unfold State.tm; rw [ht]⟩

theorem KeepsRefusals_refl (s : State) (m : Mast) : s.KeepsRefusals s m := KeepsRefusals_of_parts rfl rfl

theorem KeepsRefusals_trans (h : s.KeepsRefusals t m) (h' : t.KeepsRefusals u m) : s.KeepsRefusals u m :=
  ⟨h'.ptp.trans h.ptp, fun j => ⟨(h'.each j).1.trans (h.each j).1, (h'.each j).2.trans (h.each j).2⟩, h'.cands.trans h.cands⟩

theorem KeepsRefusals_of_keeps {w : Nat} (hk : Keeps w s t) (hp : w.testBit Part.ptp.place = false) (ht : w.testBit Part.tim.place = false) : s.KeepsRefusals t m :=
  KeepsRefusals_of_parts (Keeps_same hk .ptp hp) (Keeps_same hk .tim ht)

theorem KeepsRefusals_foldl {α : Type} {f : State → α → State} (hf : ∀ x a, State.KeepsRefusals x (f x a) m) (l : List α) (s : State) :
    s.KeepsRefusals (l.foldl f s) m := by
  induction l generalizing s with
  | nil => exact KeepsRefusals_refl s m
  | cons a l ih => exact KeepsRefusals_trans (hf s a) (ih _)

theorem putTb_keepsRefusals {x : Timebase} (hr : x.jumpRefused = (s.tb m i).jumpRefused) (hb : x.barred = (s.tb m i).barred) :
    s.KeepsRefusals (s.putTb m i x) m := by
  refine ⟨rfl, fun j => ?_, by rw [tm_putTb]⟩
  by_cases hj : j = i
  · subst hj
    by_cases hlen : j < (s.tm m).tbs.length
    · rw [tb_putTb hlen]
      exact ⟨hr, hb⟩
    · have hout : (s.putTb m j x).tb m j = s.tb m j := by
        unfold State.tb
        rw [tm_putTb]
        dsimp only
        rw [setAt, List.set_eq_of_length_le (Nat.not_lt.mp hlen)]
      rw [hout]
      exact ⟨rfl, rfl⟩
  · rw [tb_putTb_beside _ hj]
    exact ⟨rfl, rfl⟩

theorem changeTb_keepsRefusals {f : Timebase → Timebase} (hr : ∀ y, (f y).jumpRefused = y.jumpRefused)
    (hb : ∀ y, (f y).barred = y.barred) : s.KeepsRefusals (s.changeTb m i f) m := by
  have hput := putTb_keepsRefusals (hr (s.tb m i)) (hb (s.tb m i))
  have hptp : (s.changeTb m i f).ptp = s.ptp := Keeps_same (changeTb_keeps m i f (keeps_refl 262144 s) rfl) .ptp rfl
  have htm : (s.changeTb m i f).tm m = (s.putTb m i (f (s.tb m i))).tm m := tm_mirrorTb ..
  refine ⟨hptp, fun j => ?_, by rw [htm]; exact hput.cands⟩
  unfold State.tb
  rw [htm]
  exact hput.each j

theorem enterTb_keepsRefusals (s : State) (m : Mast) (i : Nat) (st : TbSt) : s.KeepsRefusals (s.enterTb m i st) m := by
  have hptp : (s.enterTb m i st).ptp = s.ptp := Keeps_same (enterTb_keeps m i st (keeps_refl 262240 s) rfl) .ptp rfl
  rcases enterTb_tim s m i st with ⟨h, -⟩ | ⟨-, h⟩
  · rw [h]
    exact KeepsRefusals_refl s m
  · generalize hx : s.changeTb m i _ = x at h
    have hchange : s.KeepsRefusals x m := by
      rw [← hx]
      exact changeTb_keepsRefusals (fun _ => rfl) (fun _ => rfl)
    exact KeepsRefusals_trans hchange (KeepsRefusals_of_parts (hptp.trans hchange.ptp.symm) h)

theorem refChanged_keepsRefusals (h : s.KeepsRefusals t m) (i : Nat) (x y : Option Nat) (c : Nat) :
    s.KeepsRefusals (t.refChanged m i x y c) m :=
  KeepsRefusals_trans h (KeepsRefusals_of_keeps (refChanged_keeps m i x y c (keeps_refl 96 t) rfl) rfl rfl)

theorem sticky_keepsRefusals (s : State) (i j : Nat) (m : Mast) : s.KeepsRefusals (s.sticky i j) m :=
  KeepsRefusals_of_keeps (sticky_keeps i j (keeps_refl 32 s) rfl) rfl rfl

theorem acquire_keepsRefusals (s : State) (m : Mast) (i j : Nat) : s.KeepsRefusals (s.acquire m i j) m :=
  KeepsRefusals_trans (t := s.changeTb m i (fun x => { x with ref := some j }))
    (changeTb_keepsRefusals (fun _ => rfl) (fun _ => rfl)) (enterTb_keepsRefusals ..)

theorem loseRef_keepsRefusals (s : State) (m : Mast) (i skip : Nat) (lost : Option Nat) :
    s.KeepsRefusals (s.loseRef m i skip lost) m := by
  have henter (st : TbSt) : s.KeepsRefusals ((s.changeTb m i (fun y =>
      { y with ref := none, holdFreq := y.holdMean skip, freq := y.holdMean skip, hist := [] })).enterTb m i st) m :=
    KeepsRefusals_trans (t := s.changeTb m i (fun y =>
        { y with ref := none, holdFreq := y.holdMean skip, freq := y.holdMean skip, hist := [] }))
      (changeTb_keepsRefusals (fun _ => rfl) (fun _ => rfl)) (enterTb_keepsRefusals ..)
  unfold State.loseRef
  dsimp only
  split
  · split
    · exact KeepsRefusals_trans (henter .holdover) (KeepsRefusals_trans (sticky_keepsRefusals _ i 0 m)
        (KeepsRefusals_of_keeps (tbFault_keeps_self i _) rfl rfl))
    · exact henter .holdover
  · exact henter .freeRun

theorem evaluate_keepsRefusals (s : State) (m : Mast) (skip i : Nat) : s.KeepsRefusals (s.evaluate m skip i) m := by
  unfold State.evaluate
  dsimp only
  split
  · exact KeepsRefusals_refl s m
  · split
    · split
      · split
        · split
          · exact refChanged_keepsRefusals (acquire_keepsRefusals ..) ..
          · exact KeepsRefusals_refl s m
        · exact KeepsRefusals_refl s m
      · split
        · exact refChanged_keepsRefusals (KeepsRefusals_trans (t := s.changeTb m i (fun y =>
              { y with freq := y.holdMean skip, holdFreq := y.holdMean skip, hist := [] }))
            (changeTb_keepsRefusals (fun _ => rfl) (fun _ => rfl)) (acquire_keepsRefusals ..)) ..
        · exact refChanged_keepsRefusals (loseRef_keepsRefusals ..) ..
    · split
      · exact refChanged_keepsRefusals (acquire_keepsRefusals ..) ..
      · exact KeepsRefusals_refl s m

theorem evaluateAll_keepsRefusals (s : State) (m : Mast) (skip : Nat) : s.KeepsRefusals (s.evaluateAll m skip) m :=
  KeepsRefusals_foldl (fun x n => by
    split
    · exact evaluate_keepsRefusals ..
    · exact putTb_keepsRefusals rfl rfl) _ s

/-! ### The decision on a jump (R473, R474) -/

/-- The domain of a jump that has been decided. -/
def PtpDom.settled (d : PtpDom) (mean : Int) (now : Nat) : PtpDom :=
  { d with change := none, mean := some mean, secondAt := some now, sum := 0, count := 0 }

/-- A jump is refused: the domain keeps it, and the timebase bars its candidate. -/
def State.refuseJump (s : State) (m : Mast) (t : Nat) (e : PtpDom) (j old : Int) : State :=
  let s1 := s.setDom m t { e with refusedJump := j, oldMean := old, observed := 0, upset := false, followed := true }
  let s2 := s1.changeTb m t (fun x => { x with jumpRefused := true })
  let s3 := if s2.primaryTb t then
      ((s2.sticky t 3).event m.code evJumpRefused (be 1 t ++ be 1 (s2.ptpDomain t) ++ zeros 2 ++ beSigned 8 (j.fdiv 65536)))
    else s2
  let cand : Cand := { (s3.tm m).cand (1 + t) with st := .disqualified, since := none, good := 0 }
  let s4 := s3.changeTb m t (fun x => { x with barred := some (1 + t, cand) })
  let s5 := s4.evaluateAll m 0
  if s5.primaryTb t then s5.report m 0x6E (candSite t (1 + t)) else s5

theorem exec_jumpDecision {c : MasterChange} {mean : Int} (hcap : s.captain = some m) (hc : (s.dom m k).change = some c)
    (hlate : c.at' + Config.second ≤ s.now) (hmean : (s.dom m k).newMean = some mean) :
    exec (.jumpDecision k) s = .next (if ((mean - c.oldMean).natAbs : Int) ≤ s.jumpThreshold k then
      s.setDom m k ((s.dom m k).settled mean s.now)
      else s.refuseJump m k ((s.dom m k).settled mean s.now) (mean - c.oldMean) c.oldMean) := by
  change execJumpDecision k s = _
  unfold execJumpDecision
  rw [hcap]
  dsimp only
  rw [hc]
  dsimp only
  rw [if_neg (Nat.not_lt.mpr hlate), hmean]
  rfl

theorem refuseJump_leaves {e : PtpDom} {j old : Int} (hlen : k < (s.ptp.get m).doms.length) (htbs : k < (s.tm m).tbs.length) :
    (s.refuseJump m k e j old).dom m k =
      { e with refusedJump := j, oldMean := old, observed := 0, upset := false, followed := true } ∧
    ((s.refuseJump m k e j old).tb m k).jumpRefused = true ∧
    ((s.refuseJump m k e j old).candOf m k (1 + k)).st = .disqualified := by
  generalize hx : s.setDom m k { e with refusedJump := j, oldMean := old, observed := 0, upset := false, followed := true } = x
  generalize hy : x.changeTb m k (fun x => { x with jumpRefused := true }) = y
  generalize hz : (if y.primaryTb k then ((y.sticky k 3).event m.code evJumpRefused
    (be 1 k ++ be 1 (y.ptpDomain k) ++ zeros 2 ++ beSigned 8 (j.fdiv 65536))) else y) = z
  generalize hc : ({ (z.tm m).cand (1 + k) with st := .disqualified, since := none, good := 0 } : Cand) = c
  generalize hv : z.changeTb m k (fun x => { x with barred := some (1 + k, c) }) = v
  have hrefuse : s.refuseJump m k e j old =
      if (v.evaluateAll m 0).primaryTb k then (v.evaluateAll m 0).report m 0x6E (candSite k (1 + k)) else v.evaluateAll m 0 := by
    subst hv hc hz hy hx
    rfl
  have hxtbs : k < (x.tm m).tbs.length := by
    rw [← hx]
    exact htbs
  have hytb : (y.tb m k).jumpRefused = true := by
    rw [← hy, tb_changeTb hxtbs]
  have hyz : y.KeepsRefusals z m := by
    rw [← hz]
    split
    · exact KeepsRefusals_trans (sticky_keepsRefusals y k 3 m)
        (KeepsRefusals_of_keeps (w := 96) (event_keeps _ _ _ (keeps_refl 96 (y.sticky k 3)) rfl) rfl rfl)
    · exact KeepsRefusals_refl y m
  have hztbs : k < (z.tm m).tbs.length := by
    have hlenz : (z.tm m).tbs.length = (y.tm m).tbs.length := by
      rw [← hz]
      split
      · exact congrArg (fun q : Both TimingMast => (q.get m).tbs.length) (event_tim ..)
      · rfl
    rw [hlenz, ← hy, ((changeTb_tbsOnly x m k _).each m).2]
    exact hxtbs
  have hvtb : v.tb m k = { z.tb m k with barred := some (1 + k, c) } := by
    rw [← hv]
    exact tb_changeTb hztbs
  have hvptp : v.ptp = x.ptp := by
    have hvz : v.ptp = z.ptp := by
      rw [← hv]
      exact Keeps_same (changeTb_keeps m k _ (keeps_refl 262144 z) rfl) .ptp rfl
    have hyx : y.ptp = x.ptp := by
      rw [← hy]
      exact Keeps_same (changeTb_keeps m k _ (keeps_refl 262144 x) rfl) .ptp rfl
    exact hvz.trans (hyz.ptp.trans hyx)
  have hend : v.KeepsRefusals (s.refuseJump m k e j old) m := by
    rw [hrefuse]
    split
    · exact KeepsRefusals_trans (evaluateAll_keepsRefusals ..)
        (KeepsRefusals_of_keeps (report_reef1 rfl rfl rfl rfl) rfl rfl)
    · exact evaluateAll_keepsRefusals ..
  refine ⟨?_, ?_, ?_⟩
  · rw [dom_of_ptp (hend.ptp.trans hvptp), ← hx]
    exact dom_setDom hlen
  · rw [(hend.each k).1, hvtb, (hyz.each k).1]
    exact hytb
  · have hbarred : ((s.refuseJump m k e j old).tb m k).barred = some (1 + k, c) := by
      rw [(hend.each k).2, hvtb]
    unfold State.candOf
    rw [hbarred]
    dsimp only
    rw [if_pos rfl, ← hc]

/-! ### The obligation -/

/-- Settles O58: message by message, and then the mean of a second against its threshold. -/
theorem networkTimeServes : Obligations.NetworkTimeServes := by
  unfold Obligations.NetworkTimeServes
  intro m k s hk hlen d
  have hin : k < (s.ptp.get m).doms.length := by rw [hlen]; exact hk
  refine ⟨fun x hrun hport hup => ⟨(exec_ptpMessageRx (k := k) hrun hport hup).1, fun hv hm hreach hlist => ?_⟩,
    fun hs hheld hlate => exec_syncPairTimeout hheld hlate, fun t3 hp hrun hdue => ?_, fun hcap => ⟨fun mean hlast => ?_,
    fun c mean hc hlate hmean => ⟨fun hnear => ?_, fun hfar htbs => ?_⟩⟩⟩
  · have hexec := (exec_ptpMessageRx (k := k) hrun hport hup).2 hv hm hreach hlist
    obtain ⟨hdoms, hlens, hports, heach⟩ := relay_leaves s m x
    have hkeep := relay_keeps m x (keeps_refl 1179656 s) rfl
    have hnow : (s.relay m x).now = s.now := Keeps_same hkeep .now rfl
    have hsec : (s.relay m x).sec = s.sec := Keeps_same hkeep .sec rfl
    have hin' : k < ((s.relay m x).ptp.get m).doms.length := by rw [hlens]; exact hin
    have hdom : (s.relay m x).dom m k = d := hdoms m k
    refine ⟨fun hpd hmg => ?_, fun a ha hint hex => ?_, fun t1 hs hbody hheld hseq hsrc => ?_,
      fun t4 req r origin t2 hbody hr hreq hin2 hsync => ?_⟩
    · refine ⟨_, hexec hpd, ?_⟩
      rw [ptpTaken_relayed]
      refine ⟨hports hmg, fun r hr => ⟨(heach r hr).1, (heach r hr).2.1⟩, fun hsync hdr r hr => (heach r hr).2.2 ?_⟩
      unfold PtpMsg.timed
      split
      · next two t1 h => exact absurd h (hsync two t1)
      · next h => exact absurd h hdr
      · rfl
    · have hitem : (s.relay m x).tbItem k = s.tbItem k := by
        unfold State.tbItem
        rw [hsec]
      refine ⟨_, (s.relay m x).announced x a, hexec (by rw [ha]; exact fun h => nomatch h), ?_, rfl, rfl, rfl, hnow⟩
      rw [congrArg PtpDom.announces (ptpTaken_dom s m x k)]
      refine ptpOn_announce hin' ha ?_ ?_
      · unfold State.intervalOk
        rw [hitem]
        exact hint
      · unfold State.announceExcluded
        rw [hitem]
        exact hex
    · have hon := ptpOn_followUp (s := s.relay m x) (m := m) (i := k) hbody (by rw [hdom]; exact hheld) hseq hsrc
      have hpaired := (paired_leaves (s.relay m x) m k (t1 + hs.c1 + x.correction) hs.t2).2 hin'
      have hall := Same_trans hpaired (hon ▸ ptpTaken_dom s m x k)
      refine ⟨_, hexec (by rw [hbody]; exact fun h => nomatch h), congrArg PtpDom.sync hall, congrArg PtpDom.held hall, ?_⟩
      exact (congrArg PtpDom.syncAt hall).trans (congrArg some hnow)
    · subst hreq
      have hon := ptpOn_delayResp (s := s.relay m x) (m := m) (i := k) hbody (by rw [hdom]; exact hr) (by rw [hnow]; exact hin2)
        (by rw [hdom]; exact hsync)
      have hsame := ptpTaken_dom s m x k
      rw [hon, dom_setDom hin'] at hsame
      exact ⟨_, hexec (by rw [hbody]; exact fun h => nomatch h), congrArg PtpDom.unanswered hsame, congrArg PtpDom.path hsame⟩
  · obtain ⟨t, dest, hexec, hrest, hdom⟩ := exec_delayReqSend (t3 := t3) hk hin hp hrun hdue
    refine ⟨t, hexec, hrest, ?_⟩
    rw [hdom]
    exact ⟨rfl, rfl, rfl, _, mem_keepLast_append (by decide) _ _, rfl, rfl, rfl⟩
  · intro u hchange hmean near
    have hkeep := choosePath_keeps m.other k (choosePath_keeps m k (keeps_refl 1048576 s) rfl) rfl
    have hu : u = s.pathsChosen m k := rfl
    have htim : u.tim = s.tim := Keeps_same hkeep .tim rfl
    have htan : u.tan = s.tan := Keeps_same hkeep .tan rfl
    have hnow : u.now = s.now := Keeps_same hkeep .now rfl
    have hsec : u.sec = s.sec := Keeps_same hkeep .sec rfl
    have htb : u.tb m k = s.tb m k := tb_of_tim htim
    have hulen : k < (u.ptp.get m).doms.length := by
      rw [((DomsOnly_trans (choosePath_domsOnly s m k) (choosePath_domsOnly _ m.other k)).each m).2]
      exact hin
    have hthr : u.jumpThreshold k = s.jumpThreshold k := by
      unfold State.jumpThreshold State.tbItem
      rw [hsec]
    have hnearTo (v : Int) : u.nearTo k mean v = decide (near v) := by
      unfold State.nearTo
      rw [hthr]
    obtain ⟨hm, hcount, hsum, hsecond⟩ := secondMean_meant (mean := mean) hulen
    refine ⟨_, exec_ptpOffsetSecond hcap hk hlast hchange hmean, hm, hcount, hsum, hsecond.trans (congrArg some hnow),
      fun hrefused old hold hfar href => ?_, fun hrefused htbs hnear => ?_, fun hrefused hfar => ?_⟩
    · have hucap : u.isCaptain m = true := by
        unfold State.isCaptain State.tst State.mt
        rw [htan]
        exact decide_eq_true (captain_tst hcap)
      have hdone := secondMean_changes (mean := mean) hulen hucap (by rw [htb]; exact href) (by rw [htb]; exact hrefused) hchange hold
        ((hnearTo old).trans (decide_eq_false hfar))
      rw [hnow] at hdone
      exact hdone
    · refine (secondMean_refused (mean := mean) hulen (by rw [htb]; exact hrefused)).1 ?_ hk ((hnearTo _).trans (decide_eq_true hnear))
      unfold State.tm
      rw [htim]
      exact htbs
    · obtain ⟨hobs, hagain⟩ := (secondMean_refused (mean := mean) hulen (by rw [htb]; exact hrefused)).2
        ((hnearTo _).trans (decide_eq_false hfar))
      refine ⟨fun old hold hup hnear => hobs old hold hup ((hnearTo _).trans (decide_eq_true hnear)), fun h => hagain ?_⟩
      exact h.imp_right fun h old hold => (hnearTo _).trans (decide_eq_false (h old hold))
  · rw [exec_jumpDecision hcap hc hlate hmean, if_pos hnear]
    rfl
  · obtain ⟨hdom, hrefused, hcand⟩ := refuseJump_leaves (e := d.settled mean s.now) (j := mean - c.oldMean) (old := c.oldMean) hin
      (by rw [htbs]; exact hk)
    refine ⟨_, (exec_jumpDecision hcap hc hlate hmean).trans (congrArg Outcome.next (if_neg (Int.not_le.mpr hfar))), ?_⟩
    change ((s.refuseJump m k (d.settled mean s.now) (mean - c.oldMean) c.oldMean).dom m k).change = none ∧ _
    rw [hdom]
    exact ⟨rfl, rfl, rfl, rfl, hrefused, hcand⟩

end Sys2Proof.Machine

/-! # O59: PLLs, chain drops, gates and the frequency counter (R445 to R457) -/
namespace Sys2Proof.Machine
open Host Sys2Proof

variable {s t u : State} {m : Mast} {b d p q : Nat}

/-! ### The clocks of a mast -/

theorem getElem?_setAt {α : Type} {l : List α} {i : Nat} {x v : α} (h : l[i]? = some x) : (setAt l i v)[i]? = some v :=
  List.getElem?_set_self (List.getElem?_eq_some_iff.mp h).1

theorem clk_setClk (s : State) (m : Mast) (c : ClockMast) : (s.setClk m c).clk.get m = c := Both_get_set ..

theorem bump_clk (s : State) (m : Mast) (i n : Nat) : (s.bump m i n).clk = s.clk :=
  Keeps_same (bump_keeps m i n (keeps_refl 1024 s) rfl) .clk rfl

/-! ### PLLs (R445, R447, R448) -/

/-- The sources of the domains once a PLL is lost. -/
def ClockMast.lostDomains (c : ClockMast) (p : Nat) : List ClockSrc :=
  (List.range 8).map (fun d =>
    let cur := atD c.domains d ClockSrc.primary
    if (pllDomains p).contains d && hasFallback d && cur == .primary then ClockSrc.fallback else cur)

/-- A mast whose PLL has lost its lock, before the report. -/
def State.pllUnlocked (s : State) (m : Mast) (p : Nat) (x : Pll) : State :=
  let c := s.clk.get m
  let s1 := (s.setClk m { c with
    plls := setAt c.plls p { x with locked := false, lostAt := s.now, grace := true }, domains := c.lostDomains p }).bump m (0x0388 + p) 1
  if p ≥ 3 then s1.regionLanesDown m (p - 3) else s1

theorem exec_pllLoss {x : Pll} (hx : s.pll m p = some x) (hl : x.locked = true) :
    exec (.pllLoss m p false) s = .next ((s.pllUnlocked m p x).report m (pllSource p) (0x70000010 + p)) := by
  change Outcome.next (s.pllLost m p false) = _
  unfold State.pllLost
  rw [hx]
  dsimp only
  rw [if_neg (by rw [hl]; decide), if_neg Bool.false_ne_true]
  rfl

theorem regionLanesDown_lanes (s : State) (m : Mast) (r : Nat) : ∀ l ∈ ((s.regionLanesDown m r).lan.get m).lanes,
    laneRegion l.1 = r → l.2.st ≠ .up ∧ l.2.st ≠ .bringUp := by
  unfold State.regionLanesDown
  dsimp only
  rw [Both_get_set]
  intro l hl hr
  obtain ⟨y, -, rfl⟩ := List.mem_map.mp hl
  by_cases h : (decide (laneRegion y.1 = r) && (y.2.st == .up || y.2.st == .bringUp || y.2.st == .down)) = true
  · rw [if_pos h]
    exact ⟨(fun h => nomatch h), (fun h => nomatch h)⟩
  · rw [if_neg h] at hr ⊢
    rw [decide_eq_true hr, Bool.true_and] at h
    exact ⟨fun hu => h (by rw [hu]; rfl), fun hb => h (by rw [hb]; rfl)⟩

theorem pllUnlocked_leaves {x : Pll} (hx : s.pll m p = some x) :
    (s.pllUnlocked m p x).pll m p = some { x with locked := false, lostAt := s.now, grace := true } ∧
    ((s.pllUnlocked m p x).ct m).read (0x0388 + p) = satAdd64 ((s.ct m).read (0x0388 + p)) 1 ∧
    ((s.pllUnlocked m p x).clk.get m).domains = (s.clk.get m).lostDomains p ∧
    (3 ≤ p → ∀ l ∈ ((s.pllUnlocked m p x).lan.get m).lanes, laneRegion l.1 = p - 3 → l.2.st ≠ .up ∧ l.2.st ≠ .bringUp) := by
  generalize hy : ({ x with locked := false, lostAt := s.now, grace := true } : Pll) = y
  generalize hz : s.setClk m { s.clk.get m with plls := setAt (s.clk.get m).plls p y, domains := (s.clk.get m).lostDomains p } = z
  have hzclk : z.clk.get m = { s.clk.get m with plls := setAt (s.clk.get m).plls p y, domains := (s.clk.get m).lostDomains p } := by
    rw [← hz, clk_setClk]
  have hzct : z.ct m = s.ct m := by
    rw [← hz]
    rfl
  have hshape : s.pllUnlocked m p x = (if p ≥ 3 then (z.bump m (0x0388 + p) 1).regionLanesDown m (p - 3) else z.bump m (0x0388 + p) 1) := by
    subst hz hy
    rfl
  have hclk : (s.pllUnlocked m p x).clk = z.clk := by
    rw [hshape]
    split
    · exact bump_clk ..
    · exact bump_clk ..
  have hct : (s.pllUnlocked m p x).ct m = (z.bump m (0x0388 + p) 1).ct m := by
    rw [hshape]
    split
    · rfl
    · rfl
  refine ⟨?_, ?_, ?_, fun h3 => ?_⟩
  · rw [State.pll, hclk, hzclk]
    exact getElem?_setAt hx
  · rw [hct, ct_bump_same, hzct]
  · rw [hclk, hzclk]
  · rw [hshape, if_pos h3]
    exact regionLanesDown_lanes _ m (p - 3)

/-- The outputs of a lost PLL are gated, and DSP and FABRIC stop with PLL_SYS. -/
def ClockMast.graced (c : ClockMast) (p : Nat) (x : Pll) : ClockMast :=
  { c with
    plls := setAt c.plls p { x with grace := false, gated := true }
    domains := (List.range 8).map (fun d =>
      let cur := atD c.domains d ClockSrc.primary
      if (pllDomains p).contains d && cur == .primary then ClockSrc.stopped else cur) }

/-- One PLL put in its place. -/
def ClockMast.putPll (c : ClockMast) (p : Nat) (x : Pll) : ClockMast := { c with plls := setAt c.plls p x }

/-- A PLL that has locked again: a lane PLL that has not failed opens its outputs (R447). -/
def Pll.relocked (p : Nat) (x : Pll) : Pll :=
  { x with locked := true, grace := false, gated := if p ≥ 3 && !x.failed then false else x.gated }

theorem exec_pllGraceEnd {x : Pll} (hx : s.pll m p = some x) (hg : x.grace = true) (hlate : x.lostAt + 25 * Config.xoCycle ≤ s.now) :
    exec (.pllGraceEnd m p) s = .next (s.setClk m ((s.clk.get m).graced p x)) := by
  change execPllGraceEnd m p s = _
  unfold execPllGraceEnd
  rw [hx]
  exact congrArg Outcome.next (if_neg (by rw [hg, decide_eq_false (Nat.not_lt.mpr hlate)]; decide))

theorem exec_pllRelock {x : Pll} (hx : s.pll m p = some x) (hl : x.locked = false) :
    exec (.pllRelock m p) s = .next (s.setClk m ((s.clk.get m).putPll p (Pll.relocked p x))) := by
  change execPllRelock m p s = _
  unfold execPllRelock
  rw [hx]
  exact congrArg Outcome.next (if_neg (by rw [hl]; decide))

theorem exec_pllLaneRelockTimeout {x : Pll} {r : Nat} (hx : s.pll m (3 + r) = some x) (hr : r ≤ 3) (hl : x.locked = false)
    (hf : x.failed = false) (hlate : x.lostAt + 10 * Config.msec ≤ s.now) : exec (.pllLaneRelockTimeout m r) s =
      .next ((s.setClk m ((s.clk.get m).putPll (3 + r) { x with failed := true })).reportInfo
        m 0x63 (0x70000013 + r) { ReportInfo.plain s.step with late := true, capacity := true }) := by
  change execPllLaneRelockTimeout m r s = _
  unfold execPllLaneRelockTimeout
  rw [hx]
  exact congrArg Outcome.next (if_neg (by
    rw [hl, hf, decide_eq_false (Nat.not_lt.mpr hr), decide_eq_false (Nat.not_lt.mpr hlate)]; decide))

/-! ### Chain drops and SYNC_DIV (R449, R451) -/

/-- The PLL that feeds a domain was lost within the last 10 µs. -/
def State.feedJustLost (s : State) (m : Mast) (d : Nat) : Bool :=
  match domainPll d with
  | some p => match s.pll m p with
    | some x => !x.locked && decide (s.now ≤ x.lostAt + 10 * Config.usec)
    | none => false
  | none => false

theorem feedJustLost_of_locked (h : ∀ q x, domainPll d = some q → (s.clk.get m).plls[q]? = some x → x.locked = true) :
    s.feedJustLost m d = false := by
  unfold State.feedJustLost
  split
  · next q hq =>
    split
    · next x hx =>
      rw [h q x hq hx]
      rfl
    · rfl
  · rfl

/-- The source of a domain after a chain drop. -/
def dropSource (toFallback newEdge oldEdge : Bool) : ClockSrc :=
  let new := if toFallback then ClockSrc.fallback else .primary
  let old := if toFallback then ClockSrc.primary else .fallback
  if newEdge then new else if oldEdge then old else .stopped

/-- A chain drop, counted. -/
def State.chainDropped (s : State) (m : Mast) (d : Nat) (got : ClockSrc) : State :=
  (s.setClk m { s.clk.get m with domains := setAt (s.clk.get m).domains d got }).bump m (0x0380 + d) 1

theorem exec_derailleurHang {toFallback newEdge oldEdge : Bool} (hlo : 2 ≤ d) (hhi : d ≤ 6) (hruns : s.domainRuns m d = true)
    (hfeed : s.feedJustLost m d = false) : exec (.derailleurHang m d toFallback newEdge oldEdge) s =
      .next (if newEdge || oldEdge then
          (s.chainDropped m d (dropSource toFallback newEdge oldEdge)).report m 0x65 (0x70000000 + d)
        else ((s.chainDropped m d (dropSource toFallback newEdge oldEdge)).report m 0x65 (0x70000000 + d)).report m 0x64
          (0x70000010 + (if d = 5 then 8 else if d = 6 then 9 else 7))) := by
  have hin : [2, 3, 4, 5, 6].contains d = true := by
    simp only [List.contains_eq_mem, List.mem_cons, List.not_mem_nil, or_false, decide_eq_true_eq]
    omega
  have hreport (y : State) : (if s.feedJustLost m d then y else y.report m 0x65 (0x70000000 + d)) = y.report m 0x65 (0x70000000 + d) :=
    if_neg (by rw [hfeed]; decide)
  change execDerailleurHang m d toFallback newEdge oldEdge s = _
  unfold execDerailleurHang
  dsimp only
  rw [if_neg (by rw [hin, hruns]; decide)]
  exact congrArg (fun y : State => Outcome.next (if newEdge || oldEdge then y else
    y.report m 0x64 (0x70000010 + (if d = 5 then 8 else if d = 6 then 9 else 7))))
    (hreport (s.chainDropped m d (dropSource toFallback newEdge oldEdge)))

theorem chainDropped_leaves {got : ClockSrc} (h : d < (s.clk.get m).domains.length) :
    atD ((s.chainDropped m d got).clk.get m).domains d .primary = got ∧
    ((s.chainDropped m d got).ct m).read (0x0380 + d) = satAdd64 ((s.ct m).read (0x0380 + d)) 1 := by
  refine ⟨?_, ct_bump_same ..⟩
  unfold State.chainDropped
  rw [bump_clk, clk_setClk]
  exact atD_setAt _ _ h

/-! ### Gates (R453 to R455) -/

/-- A gate that has failed to close, with its next try. -/
def Gate.failedClosure (now tries : Nat) : Gate :=
  { open' := true, forced := some { tries := tries, retryAt := now + Config.msec } }

/-- One gate put in its place. -/
def ClockMast.putGate (c : ClockMast) (b : Nat) (g : Gate) : ClockMast := { c with gates := setAt c.gates b g }

section Gates
variable {g : Gate} (hg : (s.clk.get m).gates[b]? = some g)
include hg

theorem exec_freewheelClose (hforced : g.forced = none) : exec (.freewheelClose m b) s = .next (if b < 4 then s
    else s.setClk m { s.clk.get m with gates := setAt (s.clk.get m).gates b { g with open' := false } }) := by
  change execFreewheelClose m b s = _
  unfold execFreewheelClose
  dsimp only
  rw [hg]
  dsimp only
  rw [hforced]

theorem exec_forcedClosureTimeout (hforced : g.forced = none) : exec (.forcedClosureTimeout m b) s = .next
    ((s.setClk m ((s.clk.get m).putGate b (Gate.failedClosure s.now 1))).gateTimeout m b false) := by
  change execForcedClosureTimeout m b s = _
  unfold execForcedClosureTimeout
  dsimp only
  rw [hg]
  dsimp only
  rw [hforced]
  rfl

/-- A retry of a forced closure that is due. -/
theorem exec_forcedClosureRetry {f : Closure} {idle : Bool} (hforced : g.forced = some f) (hdue : f.retryAt ≤ s.now) (htries : f.tries < 8) :
    exec (.forcedClosureRetry m b idle) s = .next (
      if s.blockWanted m b then s.setClk m { s.clk.get m with gates := setAt (s.clk.get m).gates b { g with forced := none } }
      else if idle then s.setClk m { s.clk.get m with gates := setAt (s.clk.get m).gates b { open' := false, forced := none } }
      else (s.setClk m ((s.clk.get m).putGate b (Gate.failedClosure s.now (f.tries + 1)))).gateTimeout m b
            (decide (f.tries + 1 = 8))) := by
  change execForcedClosureRetry m b idle s = _
  unfold execForcedClosureRetry
  dsimp only
  rw [hg]
  dsimp only
  rw [hforced]
  exact congrArg Outcome.next (if_neg (by
    rw [decide_eq_false (Nat.not_lt.mpr hdue), decide_eq_false (Nat.not_le.mpr htries)]; decide))

end Gates

/-! ### The frequency counter (R456, R457) -/

/-- A measurement in its gauge. -/
def State.gaugeTap (s : State) (m : Mast) (tap against sel : Nat) (value : Int) : State :=
  if tap = 14 then (if sel < 12 then s.gauge m (0x7410 + sel) value else s)
  else if tap = 15 then (if sel ≤ 232 then s.gauge m (0x6100 + 4 * sel + 2) value else s)
  else if against = 0 then s.gauge m (0x7400 + tap) value else s

/-- What a measurement leads to. -/
def State.judgeTap (s : State) (m : Mast) : Option Nat → State
  | none => s
  | some p => if p = 7 then s.report m 0x64 0x70000017 else (s.bump m (0x0390 + p) 1).pllLost m p false

theorem exec_frequencyMeasurement {tap against sel : Nat} {value : Int} (hv : s.md.mode ≠ .vault) (htap : tap ≤ 15)
    (hagainst : against ≤ 15) (hruns : s.tapRuns m tap = true) (hruns' : s.tapRuns m against = true) :
    exec (.frequencyMeasurement m tap against sel value) s = .next ((s.gaugeTap m tap against sel value).judgeTap m
      ((s.gaugeTap m tap against sel value).frequencyFails m tap against value)) := by
  have hgo : ¬ (decide (s.md.mode = .vault) || decide (tap > 15) || decide (against > 15) || !s.tapRuns m tap ||
      !s.tapRuns m against) = true := by
    rw [decide_eq_false hv, decide_eq_false (Nat.not_lt.mpr htap), decide_eq_false (Nat.not_lt.mpr hagainst), hruns, hruns']
    decide
  refine congrArg Outcome.next ((if_neg hgo).trans ?_)
  change (match (s.gaugeTap m tap against sel value).frequencyFails m tap against value with
    | none => s.gaugeTap m tap against sel value
    | some p => if p = 7 then (s.gaugeTap m tap against sel value).report m 0x64 0x70000017
        else ((s.gaugeTap m tap against sel value).bump m (0x0390 + p) 1).pllLost m p false) = _
  cases (s.gaugeTap m tap against sel value).frequencyFails m tap against value with
  | none => rfl
  | some p => rfl

/-- A tap that is measured against no other runs by itself. -/
theorem tapRuns_reference {against : Nat} (h : against = 0 ∨ (7 ≤ against ∧ against ≤ 9)) : s.tapRuns m against = true := by
  unfold State.tapRuns
  rw [if_neg (by omega), if_neg (by omega)]

/-- Against no other tap, DPLL_SYS alone can fail. -/
theorem frequencyFails_alone {tap : Nat} {value : Int} (h : tap = 7 → value.natAbs ≤ 2000) :
    s.frequencyFails m tap 0 value = none := by
  unfold State.frequencyFails
  dsimp only
  rw [if_neg (by omega)]
  by_cases h7 : tap = 7
  · rw [if_pos ⟨h7, rfl⟩, if_neg (by simpa using h h7)]
  · rw [if_neg (fun hn => h7 hn.1), if_neg (by omega), if_neg (by omega), if_neg (by omega)]

theorem frequencyFails_system {value : Int} (h : 2000 < value.natAbs) : s.frequencyFails m 7 0 value = some 7 := by
  unfold State.frequencyFails
  dsimp only
  rw [if_neg (by omega), if_pos ⟨rfl, rfl⟩, if_pos (by simpa using h)]

/-- The taps that fail a PLL, with the reference each is measured against (R457). -/
def State.TapOfPll (s : State) (m : Mast) (tap against q : Nat) : Prop :=
  (2 ≤ tap ∧ tap ≤ 4 ∧ against = 7 ∧ q = 0) ∨ (10 ≤ tap ∧ tap ≤ 13 ∧ against = 7 ∧ q = tap - 7) ∨
    (tap = 5 ∧ against = 8 ∧ q = 1 ∧ atD (s.clk.get m).domains 5 .primary = .primary) ∨
    (tap = 6 ∧ against = 9 ∧ q = 2 ∧ atD (s.clk.get m).domains 6 .primary = .primary)

theorem frequencyFails_pll {tap against : Nat} {value : Int} (hv : 100 < value.natAbs) (h : s.TapOfPll m tap against q) :
    s.frequencyFails m tap against value = some q := by
  unfold State.frequencyFails
  dsimp only
  rcases h with ⟨hlo, hhi, ha, rfl⟩ | ⟨hlo, hhi, ha, rfl⟩ | ⟨rfl, rfl, rfl, hdom⟩ | ⟨rfl, rfl, rfl, hdom⟩
  · rw [if_pos ⟨by omega, ha⟩, if_pos (by simpa using hv)]
  · rw [if_neg (by omega), if_neg (by omega), if_neg (by omega), if_neg (by omega), if_pos ⟨hlo, hhi, ha⟩,
      if_pos (by simpa using hv)]
  · rw [if_neg (by omega), if_neg (by omega), if_pos ⟨rfl, rfl⟩, if_pos (by rw [hdom]; simpa using hv)]
  · rw [if_neg (by omega), if_neg (by omega), if_neg (by omega), if_pos ⟨rfl, rfl⟩, if_pos (by rw [hdom]; simpa using hv)]

/-- A measurement against another tap shows in no gauge. -/
theorem gaugeTap_against {tap against sel : Nat} {value : Int} (ht : tap < 14) (ha : against ≠ 0) :
    s.gaugeTap m tap against sel value = s :=
  (if_neg (by omega)).trans ((if_neg (by omega)).trans (if_neg ha))

theorem gaugeTap_alone {tap sel : Nat} {value : Int} (ht : tap < 14) : s.gaugeTap m tap 0 sel value = s.gauge m (0x7400 + tap) value :=
  (if_neg (by omega)).trans ((if_neg (by omega)).trans (if_pos rfl))

/-! ### The obligation -/

/-- Settles O59: PLLs, domains and gates are lists of which each event sets one place. -/
theorem clocksAct : Obligations.ClocksAct := by
  unfold Obligations.ClocksAct
  rintro m p s c rfl hlen
  refine ⟨fun x hx => ⟨fun hl => ?_, fun hg hlate => ?_, exec_pllRelock hx, fun r hp hr hl hf hlate => ?_⟩,
    fun d toFallback oldEdge hlo hhi hruns hfeed => ?_, fun hv => ⟨fun h1 h7 hmix => ?_, fun h => ?_⟩,
    fun b g hg => ⟨fun h4 => ?_, fun h4 hf => ?_, exec_forcedClosureTimeout hg, fun f idle hf hdue ht hw => ?_,
      fun f hf hdue ht hw => ⟨?_, ?_⟩⟩,
    fun tap sel value hv hruns => ⟨fun ht h7 => ?_, fun ht hs => ?_, fun ht hs => ?_, fun against q hfar htap => ?_, fun ht hfar => ?_⟩⟩
  · obtain ⟨hpll, hct, hdom, hlanes⟩ := pllUnlocked_leaves hx
    refine ⟨_, exec_pllLoss hx hl, hpll, hct, fun d hd hprim => ?_, hlanes⟩
    rw [hdom]
    refine (atD_map_range _ _ (by omega)).trans (if_pos ?_)
    rw [hprim]
    rcases hd with ⟨rfl, rfl⟩ | ⟨rfl, rfl⟩ | ⟨rfl, rfl⟩
    · decide
    · decide
    · decide
  · refine ⟨_, exec_pllGraceEnd hx hg hlate, rfl, ?_, fun hp d hd hprim => ?_⟩
    · rw [State.pll, clk_setClk]
      exact getElem?_setAt hx
    · rw [clk_setClk]
      refine (atD_map_range _ _ (by omega)).trans (if_pos ?_)
      rw [hprim]
      subst hp
      rcases hd with rfl | rfl
      · decide
      · decide
  · subst hp
    exact exec_pllLaneRelockTimeout hx hr hl hf hlate
  · have hexec (newEdge oldEdge : Bool) := exec_derailleurHang (toFallback := toFallback) (newEdge := newEdge) (oldEdge := oldEdge)
      hlo hhi hruns (feedJustLost_of_locked hfeed)
    have hd : d < (s.clk.get m).domains.length := by omega
    refine ⟨⟨_, hexec true oldEdge, ?_, ?_⟩, ⟨_, hexec false true, ?_⟩, ⟨_, _, hexec false false, ?_⟩⟩
    · exact (chainDropped_leaves hd).1
    · exact (chainDropped_leaves hd).2
    · exact (chainDropped_leaves hd).1
    · exact (chainDropped_leaves hd).1
  · exact congrArg Outcome.next ((if_neg hv).trans (if_pos ⟨h1, h7, hmix⟩))
  · refine congrArg Outcome.next ((if_neg hv).trans (if_neg ?_))
    rintro ⟨h1, h7, hmix⟩
    rcases h with h | h | h
    · omega
    · omega
    · rw [hmix] at h
      cases h
  · exact congrArg Outcome.next (if_pos h4)
  · rw [exec_freewheelClose hg hf, if_neg (Nat.not_lt.mpr h4)]
  · rw [exec_forcedClosureRetry hg hf hdue ht, if_pos hw]
  · rw [exec_forcedClosureRetry hg hf hdue ht, if_neg (by rw [hw]; decide), if_pos rfl]
  · have hlast : decide (f.tries + 1 = 8) = decide (f.tries = 7) := by simp
    rw [exec_forcedClosureRetry hg hf hdue ht, if_neg (by rw [hw]; decide), if_neg Bool.false_ne_true, hlast]
    rfl
  · rw [exec_frequencyMeasurement hv (by omega) (Nat.zero_le _) hruns (tapRuns_reference (Or.inl rfl)), gaugeTap_alone ht,
      frequencyFails_alone h7]
    rfl
  · subst ht
    rw [exec_frequencyMeasurement hv (by omega) (Nat.zero_le _) hruns (tapRuns_reference (Or.inl rfl)),
      frequencyFails_alone (fun h => absurd h (by decide)), State.gaugeTap, if_pos rfl, if_pos hs]
    rfl
  · subst ht
    rw [exec_frequencyMeasurement hv (by omega) (Nat.zero_le _) hruns (tapRuns_reference (Or.inl rfl)),
      frequencyFails_alone (fun h => absurd h (by decide)), State.gaugeTap, if_neg (by decide), if_pos rfl, if_pos hs]
    rfl
  · have ht : tap < 14 ∧ 7 ≤ against ∧ against ≤ 9 ∧ q ≠ 7 := by omega
    obtain ⟨ht14, ha7, ha9, hq⟩ := ht
    rw [exec_frequencyMeasurement hv (by omega) (by omega) hruns (tapRuns_reference (Or.inr ⟨ha7, ha9⟩)),
      gaugeTap_against ht14 (by omega), frequencyFails_pll hfar htap]
    exact congrArg Outcome.next (if_neg hq)
  · subst ht
    rw [exec_frequencyMeasurement hv (by omega) (Nat.zero_le _) hruns (tapRuns_reference (Or.inl rfl)), gaugeTap_alone (by decide),
      frequencyFails_system hfar]
    rfl

end Sys2Proof.Machine

/-! # Supplies (R26, R458 to R460, R501, R503, R594, R596 to R600, R607; O60) -/

namespace Sys2Proof.Machine
open Host

variable {s : State} {m : Mast}

/-! ### The supplies of a mast -/

theorem sup_setSup (s : State) (m : Mast) (x : SupplyMast) : (s.setSup m x).sup.get m = x := Both_get_set ..

theorem setSup_self (s : State) (m : Mast) (x : SupplyMast) : s.setSup m x = s.setSup m ((s.setSup m x).sup.get m) := by
  rw [sup_setSup]

theorem changeRail_eq {rail : Nat} {r : RailSt} {f : RailSt → RailSt} (hr : (s.sup.get m).rails[rail]? = some r) :
    s.changeRail m rail f = s.setSup m { s.sup.get m with rails := setAt (s.sup.get m).rails rail (f r) } := by
  unfold State.changeRail
  dsimp only
  rw [hr]

theorem rails_changeRail {rail : Nat} {r : RailSt} {f : RailSt → RailSt} (hr : (s.sup.get m).rails[rail]? = some r) :
    ((s.changeRail m rail f).sup.get m).rails = setAt (s.sup.get m).rails rail (f r) := by
  rw [changeRail_eq hr, sup_setSup]

theorem rail_changeRail {rail : Nat} {r : RailSt} {f : RailSt → RailSt} (hr : (s.sup.get m).rails[rail]? = some r) :
    ((s.changeRail m rail f).sup.get m).rails[rail]? = some (f r) := by
  rw [rails_changeRail hr]
  exact getElem?_setAt hr

theorem railOf_eq {rail : Nat} {r : RailSt} (hr : (s.sup.get m).rails[rail]? = some r) : s.railOf m rail = r :=
  atD_of_getElem? hr

/-! ### Droop and stretching (R458 to R460) -/

theorem droopTrip_stretches {g : Nat} {r : RegionClock} (hg : g < 12) (hr : (s.clk.get m).regions[g]? = some r)
    (hs : r.since = none) (hon : s.regionOn m g = true) : ∃ t, exec (.droopTrip m g) s = .next t ∧
      (t.clk.get m).regions[g]? = some { r with since := some s.now } ∧
      (t.ct m).read (0x0300 + 8 * g + 1) = satAdd64 ((s.ct m).read (0x0300 + 8 * g + 1)) 1 := by
  refine ⟨(s.bump m (0x0300 + 8 * g + 1) 1).setClk m { s.clk.get m with regions := setAt (s.clk.get m).regions g { r with since := some s.now } },
    ?_, ?_, ct_bump_same ..⟩
  · change execDroopTrip m g s = _
    unfold execDroopTrip
    dsimp only
    rw [if_neg (by omega), hon, hr]
    dsimp only
    rw [hs]
    rfl
  · rw [clk_setClk]
    exact getElem?_setAt hr

/-- A region that runs at full rate is left by its resume. -/
theorem resumeRegion_of_full {g : Nat} (h : ∀ r, (s.clk.get m).regions[g]? = some r → r.since = none) : s.resumeRegion m g = s := by
  unfold State.resumeRegion
  dsimp only
  split
  · next r hr =>
    rw [h r hr]
  · rfl

theorem resumeRegion_eq {g t0 : Nat} {r : RegionClock} (hr : (s.clk.get m).regions[g]? = some r) (hs : r.since = some t0) :
    s.resumeRegion m g = (s.setClk m { s.clk.get m with regions := setAt (s.clk.get m).regions g { r with since := none } }).bump m
      (0x0300 + 8 * g + 2) ((s.now - t0) / Config.xoCycle) := by
  unfold State.resumeRegion
  dsimp only
  rw [hr]
  dsimp only
  rw [hs]
  rfl

/-- A region at full rate. -/
def RegionClock.full (r : RegionClock) : RegionClock := { r with since := none }

theorem region_resumeRegion (s : State) (m : Mast) (g i : Nat) : ((s.resumeRegion m g).clk.get m).regions[i]? =
    if i = g then ((s.clk.get m).regions[i]?).map RegionClock.full else (s.clk.get m).regions[i]? := by
  by_cases hfull : ∀ r, (s.clk.get m).regions[g]? = some r → r.since = none
  · rw [resumeRegion_of_full hfull]
    split
    · next hi =>
      subst hi
      cases hr : (s.clk.get m).regions[i]? with
      | none => rfl
      | some r => exact congrArg some (congrArg (fun t => ({ r with since := t } : RegionClock)) (hfull r hr))
    · rfl
  · obtain ⟨r, hr⟩ := Classical.not_forall.mp hfull
    obtain ⟨hr, hs⟩ := Classical.not_imp.mp hr
    obtain ⟨t0, ht⟩ := Option.ne_none_iff_exists'.mp hs
    rw [resumeRegion_eq hr ht, bump_clk, clk_setClk]
    split
    · next hi =>
      subst hi
      rw [hr]
      exact getElem?_setAt hr
    · next hi => exact List.getElem?_set_ne (Ne.symm hi)

theorem regions_length_resumeRegion (s : State) (m : Mast) (g : Nat) :
    ((s.resumeRegion m g).clk.get m).regions.length = (s.clk.get m).regions.length := by
  unfold State.resumeRegion
  dsimp only
  split
  · split
    · rw [bump_clk]
      dsimp only
      rw [Both_get_set]
      exact List.length_set
    · rfl
  · rfl

/-- The first regions resumed are at full rate, however the others run. -/
theorem resumed_regions (s : State) (m : Mast) (n : Nat) :
    (((List.range n).foldl (fun acc g => acc.resumeRegion m g) s).clk.get m).regions.length = (s.clk.get m).regions.length ∧
    ∀ i r, i < n → (((List.range n).foldl (fun acc g => acc.resumeRegion m g) s).clk.get m).regions[i]? = some r →
      r.since = none := by
  induction n with
  | zero => exact ⟨rfl, fun i r hi => absurd hi (Nat.not_lt_zero i)⟩
  | succ n ih =>
    obtain ⟨hlen, hfull⟩ := ih
    rw [List.range_succ, List.foldl_append, List.foldl_cons, List.foldl_nil]
    refine ⟨(regions_length_resumeRegion _ m n).trans hlen, fun i r hi hr => ?_⟩
    rw [region_resumeRegion] at hr
    split at hr
    · obtain ⟨q, -, rfl⟩ := Option.map_eq_some_iff.mp hr
      rfl
    · exact hfull i r (by omega) hr

theorem resumed_read (s : State) (m : Mast) {i : Nat} (hi : i < 0x0300) (l : List Nat) :
    ((l.foldl (fun acc g => acc.resumeRegion m g) s).ct m).read i = (s.ct m).read i := by
  refine foldl_fixed (part := fun z : State => (z.ct m).read i) (fun z g => ?_) l s
  by_cases hfull : ∀ r, (z.clk.get m).regions[g]? = some r → r.since = none
  · rw [resumeRegion_of_full hfull]
  · obtain ⟨r, hr⟩ := Classical.not_forall.mp hfull
    obtain ⟨hr, hs⟩ := Classical.not_imp.mp hr
    obtain ⟨t0, ht⟩ := Option.ne_none_iff_exists'.mp hs
    rw [resumeRegion_eq hr ht]
    exact ct_bump_ne _ _ _ _ (by omega)

theorem droopStretchEnd_resumes {g t0 : Nat} {r : RegionClock} (hr : (s.clk.get m).regions[g]? = some r) (hs : r.since = some t0)
    (hlate : t0 + 250 * Config.xoCycle ≤ s.now) (hfree : s.railStretches m = false) :
    exec (.droopStretchEnd m g) s = .next (s.resumeRegion m g) := by
  change execDroopStretchEnd m g s = _
  unfold execDroopStretchEnd
  dsimp only
  rw [hr, Option.bind_some, hs, Option.elim_some, hfree, Bool.false_or, decide_eq_false (Nat.not_lt.mpr hlate)]
  exact congrArg Outcome.next (if_neg Bool.false_ne_true)

theorem droopStretchEnd_waits {g t0 : Nat} {r : RegionClock} (hr : (s.clk.get m).regions[g]? = some r) (hs : r.since = some t0)
    (h : s.now < t0 + 250 * Config.xoCycle ∨ s.railStretches m = true) :
    exec (.droopStretchEnd m g) s = .next s := by
  change execDroopStretchEnd m g s = _
  unfold execDroopStretchEnd
  dsimp only
  rw [hr, Option.bind_some, hs, Option.elim_some]
  refine congrArg Outcome.next (if_pos ?_)
  rcases h with h | h
  · rw [decide_eq_true h, Bool.or_true]
  · rw [h, Bool.true_or]

/-! ### Dips and sags (R460, R501 to R503) -/

theorem stretchAll_regions (s : State) (m : Mast) : ∀ g ∈ ((s.stretchAll m).clk.get m).regions, g.since.isSome = true := by
  unfold State.stretchAll
  dsimp only
  rw [Both_get_set]
  intro g hg
  obtain ⟨y, -, rfl⟩ := List.mem_map.mp hg
  cases h : y.since with
  | some t =>
    change y.since.isSome = true
    rw [h]
    rfl
  | none => rfl

/-- A rail that dips for the first time. -/
def RailSt.dipped (r : RailSt) (now depth : Nat) : RailSt := { r with low := true, dipAt := now, depthMv := depth }

theorem railWarningDip_dips {rail depth : Nat} {r : RailSt} (hrail : rail ≤ 8) (hr : (s.sup.get m).rails[rail]? = some r)
    (hmask : s.railMasked m rail = false) (hlow : r.low = false) : ∃ t, exec (.railWarningDip m rail depth) s = .next t ∧
      (t.sup.get m).rails[rail]? = some (r.dipped s.now depth) ∧
      (rail < 3 → ∀ g ∈ (t.clk.get m).regions, g.since.isSome = true) := by
  generalize hz : s.changeRail m rail (fun r => if r.low then { r with depthMv := Nat.max r.depthMv depth }
    else { r with low := true, dipAt := s.now, depthMv := depth }) = z
  have hrail' : (z.sup.get m).rails[rail]? = some (r.dipped s.now depth) := by
    rw [← hz, rail_changeRail hr, hlow]
    rfl
  refine ⟨if rail < 3 then z.stretchAll m else z, ?_, ?_, fun h3 => ?_⟩
  · rw [← hz]
    refine congrArg Outcome.next (if_neg ?_)
    rw [hmask, decide_eq_false (Nat.not_lt.mpr hrail)]
    decide
  · split
    · exact hrail'
    · exact hrail'
  · rw [if_pos h3]
    exact stretchAll_regions z m

/-- The report of a sag moves no part but the logs and the counters of its source. -/
theorem reportInfo_sag (s : State) (m : Mast) (site : Nat) (i : ReportInfo) {j : Nat} (hj : 0x0110 ≤ j) :
    Keeps 1536 s (s.reportInfo m 0x80 site i) ∧ ((s.reportInfo m 0x80 site i).ct m).read j = (s.ct m).read j := by
  have hshape := reportInfo_plain (s := s) (m := m) (src := 0x80) (site := site) (cls := 1) (i := i) rfl rfl (by decide) rfl
  rw [hshape]
  refine ⟨startTest_keeps _ _ _ (collect_keeps _ _ _ _ _ _ (bump_keeps _ _ _ (keeps_refl 1536 s) rfl) rfl) rfl, ?_⟩
  obtain ⟨-, -, htest⟩ := startTest_leaves ((s.bump m 0x80 1).collect m 0x80 site 1 false i) m m 0x80 site
  exact (htest j (by omega)).trans ((collect_reads_beside _ m m 0x80 site 1 i (by omega) (by omega)).trans (ct_bump_ne _ _ _ _ (by omega)))

/-- A rail whose sag is complete. -/
def RailSt.recovered (r : RailSt) (now : Nat) : RailSt :=
  { r with low := false, recoveredAt := some now, sags := r.sags.filter (fun t => decide (now < t + 60 * Config.second)) ++ [now] }

/-- A complete sag, counted and reported. -/
def State.sagLogged (s : State) (m : Mast) (rail : Nat) (r : RailSt) : State :=
  let s1 := s.changeRail m rail (fun x => { x with
    low := false, recoveredAt := some s.now, sags := (r.recovered s.now).sags })
  (s1.bump m (0x0110 + rail) 1).reportInfo m 0x80 (0x80000000 + rail)
    { ReportInfo.plain s1.step with depthMv := r.depthMv, durationNs := (s.now - r.dipAt) / 3 }

/-- The regions resume where the core rails are all up. -/
def State.resumeAll (s : State) (m : Mast) (rail : Nat) : State :=
  if rail < 3 && !s.railStretches m then (List.range 12).foldl (fun acc g => acc.resumeRegion m g) s else s

theorem exec_sagRecovery {rail : Nat} {r : RailSt} (hr : (s.sup.get m).rails[rail]? = some r) (hlow : r.low = true)
    (hreset : r.inReset = false) :
    exec (.sagRecovery m rail) s = .next (((s.sagLogged m rail r).sagRate m rail).resumeAll m rail) := by
  change execSagRecovery m rail s = _
  unfold execSagRecovery
  dsimp only
  rw [railOf_eq hr, hlow, hreset]
  exact congrArg Outcome.next (if_neg Bool.false_ne_true)

theorem sagLogged_leaves {rail : Nat} {r : RailSt} (hr : (s.sup.get m).rails[rail]? = some r) :
    ((s.sagLogged m rail r).sup.get m).rails = setAt (s.sup.get m).rails rail (r.recovered s.now) ∧
    (s.sagLogged m rail r).clk = s.clk ∧
    ((s.sagLogged m rail r).ct m).read (0x0110 + rail) = satAdd64 ((s.ct m).read (0x0110 + rail)) 1 := by
  unfold State.sagLogged
  dsimp only
  generalize hz : s.changeRail m rail (fun x => { x with
    low := false, recoveredAt := some s.now, sags := (r.recovered s.now).sags }) = z
  obtain ⟨hkeeps, hread⟩ := reportInfo_sag (z.bump m (0x0110 + rail) 1) m (0x80000000 + rail)
    { ReportInfo.plain z.step with depthMv := r.depthMv, durationNs := (s.now - r.dipAt) / 3 } (j := 0x0110 + rail) (by omega)
  have hkeeps' : Keeps 1536 z _ := keeps_trans (bump_keeps m (0x0110 + rail) 1 (keeps_refl 1536 z) rfl) hkeeps
  refine ⟨?_, ?_, ?_⟩
  · rw [Keeps_same hkeeps' .sup rfl, ← hz, rails_changeRail hr]
    rfl
  · rw [Keeps_same hkeeps' .clk rfl, ← hz, changeRail_eq hr]
    rfl
  · rw [hread, ct_bump_same, ← hz, changeRail_eq hr]
    rfl

/-- A rail with 16 sags or fewer in the last 60 s is no report of source 0x81. -/
theorem sagRate_quiet {rail : Nat} {r : RailSt} (hr : (s.sup.get m).rails[rail]? = some r) (hrate : r.rateAt = none)
    (hfew : r.sags.length ≤ 16) : s.sagRate m rail = s := by
  unfold State.sagRate
  dsimp only
  rw [railOf_eq hr, hrate]
  dsimp only
  rw [decide_eq_false (by omega)]
  exact if_neg Bool.false_ne_true

/-- No core rail stretches the regions once the last low one is back. -/
theorem railStretches_recovered {rail : Nat} {x : List RailSt} {r : RailSt} (hx : (s.sup.get m).rails = setAt x rail r)
    (hlow : r.low = false) (hothers : ∀ i q, i < 3 → i ≠ rail → x[i]? = some q → q.low = false) : s.railStretches m = false := by
  unfold State.railStretches
  rw [hx, List.any_eq_false]
  intro q hq
  obtain ⟨i, hi⟩ := List.mem_iff_getElem?.mp hq
  rw [List.getElem?_take] at hi
  split at hi
  · next h3 =>
    by_cases he : i = rail
    · subst he
      unfold setAt at hi
      rw [List.getElem?_set_self'] at hi
      obtain ⟨y, -, rfl⟩ := Option.map_eq_some_iff.mp hi
      exact fun h => Bool.false_ne_true (hlow.symm.trans h)
    · rw [setAt, List.getElem?_set_ne (Ne.symm he)] at hi
      exact fun h => Bool.false_ne_true ((hothers i q h3 he hi).symm.trans h)
  · cases hi

theorem resumeAll_sup (s : State) (m : Mast) (rail : Nat) : (s.resumeAll m rail).sup = s.sup := by
  unfold State.resumeAll
  split
  · exact foldl_fixed (part := State.sup) (fun z g => Keeps_same (resumeRegion_keeps m g (keeps_refl 525312 z) rfl) .sup rfl) _ s
  · rfl

theorem sagRecovery_recovers {rail : Nat} {r : RailSt} (hrail : rail ≤ 8) (hr : (s.sup.get m).rails[rail]? = some r)
    (hlow : r.low = true) (hreset : r.inReset = false) (hrate : r.rateAt = none)
    (hfew : (r.sags.filter (fun t => decide (s.now < t + 60 * Config.second))).length < 16) :
    ∃ t, exec (.sagRecovery m rail) s = .next t ∧ (t.sup.get m).rails[rail]? = some (r.recovered s.now) ∧
      (t.ct m).read (0x0110 + rail) = satAdd64 ((s.ct m).read (0x0110 + rail)) 1 ∧
      (rail < 3 → (s.clk.get m).regions.length = 12 →
        (∀ i q, i < 3 → i ≠ rail → (s.sup.get m).rails[i]? = some q → q.low = false) →
        ∀ g ∈ (t.clk.get m).regions, g.since = none) := by
  obtain ⟨hrails, hclk, hread⟩ := sagLogged_leaves hr
  refine ⟨_, exec_sagRecovery hr hlow hreset, ?_⟩
  generalize s.sagLogged m rail r = z at hrails hclk hread
  have hz : (z.sup.get m).rails[rail]? = some (r.recovered s.now) := by
    rw [hrails]
    exact getElem?_setAt hr
  have hlen : (r.recovered s.now).sags.length ≤ 16 := by
    unfold RailSt.recovered
    rw [List.length_append, List.length_singleton]
    omega
  rw [sagRate_quiet hz hrate hlen, resumeAll_sup]
  refine ⟨hz, ?_, fun h3 h12 hothers => ?_⟩
  · unfold State.resumeAll
    split
    · exact (resumed_read z m (by omega) _).trans hread
    · exact hread
  · have hup : z.railStretches m = false := railStretches_recovered hrails rfl hothers
    obtain ⟨hcount, hfull⟩ := resumed_regions z m 12
    unfold State.resumeAll
    rw [hup, decide_eq_true h3]
    intro g hg
    obtain ⟨i, hi⟩ := List.mem_iff_getElem?.mp hg
    refine hfull i g ?_ hi
    have hb := (List.getElem?_eq_some_iff.mp hi).1
    change i < (((List.range 12).foldl (fun acc g => acc.resumeRegion m g) z).clk.get m).regions.length at hb
    rw [hcount, hclk, h12] at hb
    exact hb

/-! ### Reset levels (R105, R130, R131, R594, R596) -/

/-- A rail at its reset level takes the mast's presence lines where it is VNEST. -/
def State.railFallen (s : State) (m : Mast) (rail : Nat) : State :=
  let s1 := s.changeRail m rail (fun r => { r with low := true, inReset := true })
  let s2 : State := if rail = 6 then { s1 with md := { s1.md with vnestLow := s1.md.vnestLow.set m (some s1.now) } } else s1
  if rail = 6 then s2.setAlive m false else s2

theorem exec_railResetLevel {rail : Nat} {r : RailSt} (hrail : rail ≤ 8) (hr : (s.sup.get m).rails[rail]? = some r)
    (hmask : s.railMasked m rail = false) (hreset : r.inReset = false) (hv : s.md.mode ≠ .vault) :
    exec (.railResetLevel m rail) s = .next ((if s.tst m = .out ∧ s.bootRuns m = false ∧ (s.md.boot.get m).powerGood = true ∧
      s.md.mode ≠ .lockout then ((s.railFallen m rail).report m 0x82 (0x80000000 + rail)).mastReset m 7
      else (s.railFallen m rail).report m 0x82 (0x80000000 + rail)).holdUnpowered m) := by
  have hgo : ¬ (decide (rail > 8) || s.railMasked m rail || (s.railOf m rail).inReset || decide (s.md.mode = .vault)) = true := by
    rw [railOf_eq hr, hmask, hreset, decide_eq_false hv, decide_eq_false (Nat.not_lt.mpr hrail)]
    decide
  refine congrArg Outcome.next ((if_neg hgo).trans (congrArg (fun z => State.holdUnpowered z m) ?_))
  exact ite_congr (by simp [and_assoc]) (fun _ => rfl) (fun _ => rfl)

theorem railFallen_rail {rail : Nat} {r : RailSt} (hr : (s.sup.get m).rails[rail]? = some r) :
    ((s.railFallen m rail).sup.get m).rails[rail]? = some { r with low := true, inReset := true } := by
  have h := rail_changeRail (f := fun r => { r with low := true, inReset := true }) hr
  unfold State.railFallen
  dsimp only
  split
  · exact h
  · exact h

theorem railFallen_vnest (s : State) (m : Mast) : (s.railFallen m 6).md.vnestLow.get m = some s.now := by
  unfold State.railFallen
  rw [if_pos rfl, if_pos rfl]
  refine (Both_get_set _ _ _).trans (congrArg some ?_)
  exact Keeps_same (changeRail_keeps m 6 _ (keeps_refl 2097152 s) rfl) .now rfl

theorem holdUnpowered_boot (s : State) (m : Mast) :
    ((s.holdUnpowered m).md.boot.get m).powerGood = false ∧ ((s.holdUnpowered m).md.boot.get m).phase = 0 := by
  unfold State.holdUnpowered
  dsimp only
  rw [Both_get_set]
  exact ⟨rfl, rfl⟩

/-! ### Regulators (R26, R597 to R600) -/

theorem pmbusAlert_answers (words : List (Option Nat)) (hv : s.md.mode ≠ .vault) (hp : (s.md.boot.get m).powerGood = true) :
    ∃ y : SupplyMast, exec (.pmbusAlert m words) s = .next (s.setSup m y) ∧ y.alerts = (s.sup.get m).alerts + 1 ∧
      ∀ (i : Nat) (r : Regulator), (s.sup.get m).regs[i]? = some r →
        (∀ w, words[i]? = some (some w) → y.regs[i]? = some { r with status := w % 65536, failed := false }) ∧
        (words[i]? = some none → y.regs[i]? = some r) := by
  refine ⟨_, congrArg Outcome.next (if_neg ?_), rfl, fun i r hr => ?_⟩
  · rw [hp, decide_eq_false hv]
    decide
  · dsimp only
    rw [getElem?_map_range _ (List.getElem?_eq_some_iff.mp hr).1, atD_of_getElem? hr]
    refine ⟨fun w hw => ?_, fun hw => ?_⟩
    · rw [hw]
      rfl
    · rw [hw]
      rfl

/-- The highest demand on one core rail. -/
def topDemand (l : List Nat) (i : Nat) : Nat := ((l.drop (4 * i)).take 4).foldl Nat.max 0

/-- The demands of the regions that run. -/
def State.regionDemands (s : State) (m : Mast) (demands : List Nat) : List Nat :=
  (List.range 12).map (fun g => if s.regionOn m g then clampDemand (atD demands g 0) else 0)

/-- What one regulator becomes at an update. -/
def State.regulated (s : State) (m : Mast) (demands : List Nat) (i : Nat) (r : Regulator) : Regulator :=
  if (s.sup.get m).avsHeld s.now then r
  else (r.noteRise s.now (topDemand (s.sup.get m).demand i) (topDemand (s.regionDemands m demands) i)).follow s.now
    (topDemand (s.regionDemands m demands) i)

theorem avsUpdate_regulates (demands : List Nat) (hv : s.md.mode ≠ .vault) (hp : (s.md.boot.get m).powerGood = true) :
    ∃ y : SupplyMast, exec (.avsUpdate m demands) s = .next (s.setSup m y) ∧ y.demand = s.regionDemands m demands ∧
      y.kept = (List.range 12).map (fun g =>
        if s.regionOn m g then atD (s.regionDemands m demands) g 0 else atD (s.sup.get m).kept g 0) ∧
      ∀ (i : Nat) (r : Regulator), (s.sup.get m).regs[i]? = some r → y.regs[i]? = some (s.regulated m demands i r) := by
  refine ⟨_, congrArg Outcome.next (if_neg ?_), rfl, rfl, fun i r hr => ?_⟩
  · rw [hp, decide_eq_false hv]
    decide
  · dsimp only
    rw [getElem?_map_range _ (List.getElem?_eq_some_iff.mp hr).1, atD_of_getElem? hr]
    rfl

theorem follow_rises {r : Regulator} {now demand : Nat} (hon : r.on = true) (hf : r.failed = false) (h : r.setMv < demand) :
    r.follow now demand = { r with setMv := demand, raisedAt := some now } := by
  unfold Regulator.follow
  rw [hon, hf, decide_eq_false (by omega), if_neg (by decide), if_pos h]

theorem follow_falls {r : Regulator} {now demand : Nat} (hon : r.on = true) (hf : r.failed = false) (h0 : demand ≠ 0)
    (h : demand < r.setMv) (hr : ∀ a, r.raisedAt = some a → a + Config.second ≤ now)
    (hl : ∀ a, r.loweredAt = some a → a + Config.msec ≤ now) :
    r.follow now demand = { r with setMv := Nat.max demand (r.setMv - 5), loweredAt := some now } := by
  unfold Regulator.follow
  rw [hon, hf, decide_eq_false h0, if_neg (by decide), if_neg (by omega), if_pos h]
  refine if_neg ?_
  cases ha : r.raisedAt with
  | none =>
    cases hb : r.loweredAt with
    | none => exact Bool.false_ne_true
    | some b =>
      dsimp only
      rw [decide_eq_false (Nat.not_lt.mpr (hl b hb))]
      exact Bool.false_ne_true
  | some a =>
    dsimp only
    rw [decide_eq_false (Nat.not_lt.mpr (hr a ha))]
    cases hb : r.loweredAt with
    | none => exact Bool.false_ne_true
    | some b =>
      dsimp only
      rw [decide_eq_false (Nat.not_lt.mpr (hl b hb))]
      exact Bool.false_ne_true

/-- A rise of the demand dates a regulator that follows it in any case. -/
theorem follow_noteRise {r : Regulator} {now before after : Nat} (hon : r.on = true) (hf : r.failed = false)
    (h : r.setMv < after) : (r.noteRise now before after).follow now after = { r with setMv := after, raisedAt := some now } := by
  unfold Regulator.noteRise
  split
  · exact follow_rises hon hf h
  · exact follow_rises hon hf h

/-! ### Temperatures (R607) -/

/-- A reading of a die: hot readings in a row count, and a warning stands until the die is below +95 °C. -/
def DieTemp.after (d : DieTemp) (v : Int) : DieTemp :=
  { value := some v
    warned := if v < 950 then false else d.warned || (decide (1000 ≤ v) && !d.warned)
    hot := if 1150 ≤ v then d.hot + 1 else 0 }

/-- A reading of a die, noted. -/
def State.temperatureNoted (s : State) (m : Mast) (die : Nat) (d : DieTemp) (v : Int) : State :=
  s.setSup m { s.sup.get m with temps := setAt (s.sup.get m).temps die (d.after v) }

/-- A first warning is a report. -/
def State.temperatureWarned (s : State) (m : Mast) (die : Nat) (warn : Bool) : State :=
  if warn then s.report m (tempSources die).1 (0xC0000000 + die) else s

/-- A reading out of range is a tamper. -/
def State.temperatureRanged (s : State) (m : Mast) (v : Int) : State :=
  if v > 1250 ∨ v < -550 then s.tamper m 0xF2 else s

/-- The second hot reading in a row shuts the mast down. -/
def State.temperatureJudged (s : State) (m : Mast) (die hot : Nat) : State :=
  if hot = 2 then s.overheat m (tempSources die).2 die else s

theorem exec_temperatureReading {die : Nat} {d : DieTemp} {v : Int} (hd : (s.sup.get m).temps[die]? = some d) (hv : s.md.mode ≠ .vault) :
    exec (.temperatureReading m die v) s = .next (((((s.temperatureNoted m die d v).temperatureWarned m die
      (decide (1000 ≤ v) && !d.warned)).temperatureRanged m v).temperatureJudged m die (d.after v).hot).cooled m) := by
  change execTemperatureReading m die v s = _
  unfold execTemperatureReading
  dsimp only
  rw [hd]
  exact congrArg Outcome.next (if_neg hv)

/-- A mast that waits for nothing to cool stays as it is. -/
theorem cooled_of_not_hot (h : (s.sup.get m).hot = false) : s.cooled m = s := by
  unfold State.cooled
  dsimp only
  rw [h, Bool.false_and]
  exact if_neg Bool.false_ne_true

theorem temperatureRanged_within {v : Int} (hlo : -550 ≤ v) (hhi : v ≤ 1250) : s.temperatureRanged m v = s := if_neg (by omega)

theorem temperatureJudged_ne {die hot : Nat} (h : hot ≠ 2) : s.temperatureJudged m die hot = s := if_neg h

/-! ### The obligation -/

/-- Settles O60: each event sets one place of the supplies or the clocks, and the report of a sag moves neither. -/
theorem suppliesAct : Obligations.SuppliesAct := by
  unfold Obligations.SuppliesAct
  rintro m s x rfl
  refine ⟨rfl, fun g r hg hr => ⟨droopTrip_stretches hg hr, fun t0 hs h => droopStretchEnd_waits hr hs h, fun t0 hs hlate hfree => ?_⟩,
    fun rail r hrail hr => ⟨fun depth hmask hlow => railWarningDip_dips hrail hr hmask hlow, fun hlow hreset hrate hfew =>
      sagRecovery_recovers hrail hr hlow hreset hrate hfew, fun hmask hreset hv => ?_⟩,
    fun i r hr => ⟨fun words hv hp => ?_, fun demands hv hp => ?_, fun mv => ?_⟩,
    fun die d v hd hv => ⟨fun hlo hhi hcool => ?_, fun hlo hhi hw => ?_, fun h => ?_, fun hlo hhi hw hhot => ?_⟩⟩
  · refine ⟨_, droopStretchEnd_resumes hr hs hlate hfree, ?_, fun hn => ?_⟩
    · rw [region_resumeRegion, if_pos rfl, hr]
      rfl
    · rw [resumeRegion_eq hr hs, bump_ct _ _ _ _ hn, Counters_read_bump]
      rfl
  · refine ⟨s.railFallen m rail, _, exec_railResetLevel hrail hr hmask hreset hv, railFallen_rail hr, fun h6 => ?_,
      (holdUnpowered_boot _ m).1, (holdUnpowered_boot _ m).2, rfl⟩
    rw [h6]
    exact railFallen_vnest s m
  · obtain ⟨y, hexec, halerts, hregs⟩ := pmbusAlert_answers words hv hp
    refine ⟨_, hexec, setSup_self s m y, ?_⟩
    rw [sup_setSup]
    exact ⟨halerts, hregs i r hr⟩
  · obtain ⟨y, hexec, hdemand, hkept, hregs⟩ := avsUpdate_regulates demands hv hp
    refine ⟨_, hexec, setSup_self s m y, ?_⟩
    rw [sup_setSup, hregs i r hr]
    refine ⟨hdemand, hkept, fun hheld => ?_, fun hfree hon hf hup => ?_, fun hfree hon hf h0 hdown hrise ha hb => ?_⟩
    · exact congrArg some (if_pos hheld)
    · refine congrArg some ((if_neg ?_).trans (follow_noteRise hon hf hup))
      rw [hfree]
      exact Bool.false_ne_true
    · refine congrArg some ((if_neg ?_).trans ?_)
      · rw [hfree]
        exact Bool.false_ne_true
      · have hnote : r.noteRise s.now (topDemand (s.sup.get m).demand i) (topDemand (s.regionDemands m demands) i) = r :=
          if_neg (Nat.not_lt.mpr hrise)
        rw [hnote]
        exact follow_falls hon hf h0 hdown ha hb
  · change execPmbusFailure m i mv s = _
    unfold execPmbusFailure
    dsimp only
    rw [hr]
  · have hafter : d.after v = { value := some v, warned := if v < 950 then false else d.warned, hot := 0 } := by
      unfold DieTemp.after
      rw [decide_eq_false (show ¬ 1000 ≤ v by omega), if_neg (show ¬ 1150 ≤ v by omega), Bool.false_and, Bool.or_false]
    refine ⟨s.temperatureNoted m die d v, ?_, setSup_self .., ?_⟩
    · rw [exec_temperatureReading hd hv, hafter, temperatureJudged_ne (show 0 ≠ 2 by decide), temperatureRanged_within hlo (by omega),
        decide_eq_false (by omega), Bool.false_and]
      refine congrArg Outcome.next (cooled_of_not_hot ?_)
      change ((s.temperatureNoted m die d v).sup.get m).hot = false
      rw [State.temperatureNoted, sup_setSup]
      exact hcool
    · rw [State.temperatureNoted, sup_setSup, ← hafter]
      exact getElem?_setAt hd
  · have hafter : d.after v = { value := some v, warned := true, hot := 0 } := by
      unfold DieTemp.after
      rw [decide_eq_true (by omega), if_neg (by omega), if_neg (by omega), hw]
      rfl
    rw [exec_temperatureReading hd hv, State.temperatureNoted, hafter, temperatureJudged_ne (show 0 ≠ 2 by decide), temperatureRanged_within (by omega) (by omega),
      decide_eq_true hlo, hw]
    rfl
  · have hafter : d.after v =
        { value := some v, warned := if v < 950 then false else d.warned, hot := if 1150 ≤ v then 1 else 0 } := by
      unfold DieTemp.after
      rcases h with h | ⟨h, hw, hhot⟩
      · rw [if_pos (show v < 950 by omega), if_pos (show v < 950 by omega), if_neg (show ¬ 1150 ≤ v by omega),
          if_neg (show ¬ 1150 ≤ v by omega)]
      · rw [hw, hhot, Bool.true_or]
    have hwarn : (decide (1000 ≤ v) && !d.warned) = false := by
      rcases h with h | ⟨h, hw, -⟩
      · rw [decide_eq_false (show ¬ 1000 ≤ v by omega), Bool.false_and]
      · rw [hw, Bool.not_true, Bool.and_false]
    have hjudge : (if 1150 ≤ v then 1 else 0) ≠ 2 := by
      split
      · decide
      · decide
    rw [exec_temperatureReading hd hv, State.temperatureNoted, hafter, hwarn, temperatureJudged_ne hjudge]
    exact congrArg Outcome.next (congrArg (fun z => State.cooled z m) (if_pos (by omega)))
  · have hafter : d.after v = { value := some v, warned := true, hot := 2 } := by
      unfold DieTemp.after
      rw [if_neg (by omega), if_pos hlo, hw, hhot]
      rfl
    rw [exec_temperatureReading hd hv, State.temperatureNoted, hafter, hw, Bool.not_true, Bool.and_false]
    refine congrArg Outcome.next (congrArg (fun z => State.cooled z m) ?_)
    refine (if_pos rfl).trans (congrArg (fun z => State.overheat z m (tempSources die).2 die) ?_)
    exact temperatureRanged_within (by omega) hhi

end Sys2Proof.Machine

/-! # BOOT (R47, R97, R99, R106 to R109, R428, R527, R539, R573 to R575, R580; O30) -/

namespace Sys2Proof.Machine
open Host

variable {s t : State} {m : Mast} {b : BootState} {f : BootFacts}

/-! ### The frame of a phase -/

/-- What every phase needs of its mast. -/
structure State.Boots (s : State) (m : Mast) (b : BootState) : Prop where
  eq : s.md.boot.get m = b
  power : b.powerGood = true
  free : b.held = false
  sound : b.failed = false
  waiting : b.ready = false
  mode : s.md.mode ≠ .lockout

/-- The next phase of a mast, unless its phase has moved meanwhile. -/
def State.bootGo (x : State) (m : Mast) (n : Nat) : State :=
  let c := x.md.boot.get m
  if c.phase = n then x.setBoot m { c with phase := c.phase + 1 } else x

/-- The end of a phase that can fail. -/
def State.bootTried (r : State × Bool) (m : Mast) (n : Nat) : State := if r.2 then r.1.bootFail m else r.1.bootGo m n

/-- The work of a phase. -/
def State.bootWork (s : State) (m : Mast) (f : BootFacts) (n : Nat) : State :=
  match n with
  | 1 => (s.phaseA m f).phaseTamper.bootGo m n
  | 2 => (s.phaseB m).bootGo m n
  | 3 => State.bootTried (s.bootRepair m f) m n
  | 4 => ((s.phaseD m f).bootGo m n).followFallback m
  | 5 => State.bootTried ((s.phaseE m f).1.powerDies m, (s.phaseE m f).2) m n
  | 6 => State.bootTried ((s.bootUnits m f).bootRepair m f) m n
  | 7 => s.bootGo m n
  | 8 => ((s.phaseH m).bootGo m n).phaseHOther m
  | 9 => (((s.startCheck m).bootGo m n).reloadVideoPll m).settle
  | _ => s.phaseJ m

theorem exec_bootPhaseComplete (h : s.Boots m b) {n : Nat} (hn : b.phase = n) (hp : n ≠ 0) :
    exec (.bootPhaseComplete m f) s = .next ((s.bootWork m f n).phaseShown s m) := by
  subst hn
  obtain ⟨rfl, hpower, hfree, hsound, hwaiting, hmode⟩ := h
  have hgo : ¬ (!(s.md.boot.get m).powerGood || (s.md.boot.get m).held || (s.md.boot.get m).failed ||
      decide ((s.md.boot.get m).phase = 0) || (s.md.boot.get m).ready || decide (s.md.mode = .lockout)) = true := by
    rw [hpower, hfree, hsound, hwaiting, decide_eq_false hp, decide_eq_false hmode]
    decide
  exact congrArg (fun z => Outcome.next (State.phaseShown z s m)) (if_neg hgo)

theorem phaseShown_eq (s old : State) (m : Mast) : ∃ p, s.phaseShown old m = { s with port := p } := by
  unfold State.phaseShown
  split
  · exact ⟨s.port, rfl⟩
  · exact ⟨_, rfl⟩

/-- A phase's work is what it leaves, but for the host ports. -/
theorem bootPhase_runs (h : s.Boots m b) {n : Nat} (hn : b.phase = n) (hp : n ≠ 0) :
    ∃ p, exec (.bootPhaseComplete m f) s = .next { s.bootWork m f n with port := p } := by
  obtain ⟨p, hshown⟩ := phaseShown_eq (s.bootWork m f n) s m
  refine ⟨p, ?_⟩
  rw [exec_bootPhaseComplete h hn hp, hshown]

theorem bootGo_eq {x : State} {n : Nat} {c : BootState} (hx : x.md.boot.get m = c) (hn : c.phase = n) :
    x.bootGo m n = x.setBoot m { c with phase := n + 1 } := by
  subst hx
  subst hn
  exact if_pos rfl

/-! ### Phases A to C and F (R106, R107, R109, R135, R527, R529) -/

/-- A blank crow's nest is a held report (R106, R107, R135). -/
theorem phaseA_blank (hpower : (s.md.boot.get m).powerOn = true) (hblank : f.nestBlank = true) :
    ∃ x : State, s.phaseA m f = x.holdReport m 0x96 := by
  refine ⟨_, if_neg ?_⟩
  rw [hpower, hblank, Bool.true_or]
  decide

theorem holdReport_held (s : State) (m : Mast) (src : Nat) : (src, 0) ∈ ((s.holdReport m src).fl m).held := by
  unfold State.holdReport State.setFl
  dsimp only
  rw [State.fl, Both_get_set]
  exact List.mem_append_right _ (List.mem_singleton.mpr rfl)

theorem phaseA_leaves (s : State) (m : Mast) (f : BootFacts) :
    (s.phaseA m f).md.boot = s.md.boot ∧ (s.phaseA m f).tan = s.tan ∧ (s.phaseA m f).sec = s.sec ∧
    ((s.md.boot.get m).powerOn = true → f.nestBlank = true → (0x96, 0) ∈ ((s.phaseA m f).fl m).held) := by
  have hkeep := phaseA_keeps m f (keeps_refl 4194944 s) rfl
  refine ⟨?_, Keeps_same hkeep .tan rfl, Keeps_same hkeep .sec rfl, fun hpower hblank => ?_⟩
  · unfold State.phaseA
    dsimp only
    split
    · rfl
    · split
      · rfl
      · rfl
  · obtain ⟨x, hx⟩ := phaseA_blank hpower hblank
    rw [hx]
    exact holdReport_held x m 0x96

theorem phaseTamper_leaves (s : State) :
    s.phaseTamper.md.boot = s.md.boot ∧ s.phaseTamper.tan = s.tan ∧ s.phaseTamper.sec = s.sec ∧ s.phaseTamper.flt = s.flt ∧
    s.phaseTamper.md.nest.tamper = false := by
  unfold State.phaseTamper
  split
  · exact ⟨rfl, rfl, rfl, rfl, rfl⟩
  · next h => exact ⟨rfl, rfl, rfl, rfl, Bool.eq_false_iff.mpr h⟩

theorem phaseB_leaves (s : State) (m : Mast) :
    (s.phaseB m).md = s.md ∧ (s.phaseB m).tan = s.tan ∧ (s.phaseB m).sec = s.sec ∧
    (s.phaseB m).mem = s.mem.set m (s.mem.get m).unionMaps ∧
    ((s.mem.get m).mapsDisagree = true → (0x95, 0) ∈ ((s.phaseB m).fl m).held) := by
  unfold State.phaseB
  dsimp only
  split
  · exact ⟨rfl, rfl, rfl, rfl, fun _ => holdReport_held _ m 0x95⟩
  · next h => exact ⟨rfl, rfl, rfl, rfl, fun hd => absurd hd h⟩

/-- A march that stands still in no block and finds a spare for each fault passes. -/
theorem bootRepair_passes (hstill : f.still = false) (hspares : (assignSpares true f.fails (s.mem.get m)).2.2 = []) :
    s.bootRepair m f = (s.setMem m (assignSpares true f.fails (s.mem.get m)).1, false) := by
  unfold State.bootRepair
  dsimp only
  rw [hstill, hspares]
  rfl

theorem bootRepair_fails (hstill : f.still = true) :
    s.bootRepair m f = (s.setMem m (assignSpares true f.fails (s.mem.get m)).1, true) := by
  unfold State.bootRepair
  dsimp only
  rw [hstill]
  rfl

/-! ### A failed phase (R109) -/

/-- What a mast's one retry leaves. -/
theorem bootFail_retries (h : s.Boots m b) (hr : b.retried = false) (hot : (s.sup.get m).hot = false) :
    (s.bootFail m).tst m = .out ∧ ((s.bootFail m).md.boot.get m).retried = true ∧ ((s.bootFail m).md.boot.get m).phase = 1 ∧
    (s.bootFail m).md.nest.resets.head? = some { cause := 9, mast := m.code, bootCount := s.md.bootCount, rtc := s.md.nest.rtc } := by
  obtain ⟨rfl, hpower, hfree, hsound, -, -⟩ := h
  have hshape : s.bootFail m = s.resetMast m 9 := by
    refine (if_pos ?_).trans (if_neg ?_)
    · rw [hr]
      rfl
    · rw [hot]
      exact Bool.false_ne_true
  have hreset := resetMast_rebooted s m 9
  rw [hshape, hreset.boot, Both_get_set, hpower, hfree, hsound]
  exact ⟨hreset.out, rfl, rfl, hreset.resets⟩

/-- The mast that has failed BOOT for good. -/
def State.bootOut (s : State) (m : Mast) (b : BootState) : State :=
  let s1 := (s.setBoot m { b with phase := 0, failed := true, ready := false }).gateDies m
  { s1 with md := { s1.md with elect := s.reelect m } }

theorem bootFail_gives_up (hb : s.md.boot.get m = b) (hr : b.retried = true) : s.bootFail m =
    if (((s.md.boot.get m.other).failed || s.tan.barred.get m.other) && decide (s.md.mode = .boot)) = true then
      (s.bootOut m b).report m 0xA3 0 else s.bootOut m b := by
  subst hb
  refine if_neg ?_
  rw [hr]
  decide

/-- Two masts that have failed BOOT are bare poles (R109, R128). -/
theorem report_bootFailed (s : State) (m : Mast) : ∃ u : State, s.report m 0xA3 0 = u.lockout 0xFFFF false ∧ Keeps 1536 s u := by
  obtain ⟨u, hu, hkeep⟩ := reportInfo_reacts (s := s) (m := m) (src := 0xA3) (site := 0) (cls := 4) (i := .plain s.step) rfl rfl
    (by decide) (.inr (by decide)) (.inl rfl)
  refine ⟨u, hu.trans ?_, hkeep⟩
  rw [State.react, if_pos rfl, if_pos (by decide), decide_eq_false (by decide)]

theorem lockout_boot (s : State) (source : Nat) (tamper : Bool) : (s.lockout source tamper).md.boot = s.md.boot := by
  have hmd := endedForLockout_md (s := s) tamper
  unfold State.lockout
  split
  · rfl
  · unfold State.endedForLockout at hmd
    dsimp only at hmd ⊢
    generalize (State.closeWhere _ _ 4) = c at hmd ⊢
    rw [enterMode_md]
    have hboot := congrArg ModeState.boot hmd
    exact hboot

theorem bootOut_leaves (s : State) (m : Mast) (b : BootState) :
    (s.bootOut m b).md.boot = s.md.boot.set m { b with phase := 0, failed := true, ready := false } ∧
    (s.bootOut m b).md.mixOn.get m = false ∧ (s.bootOut m b).md.routeOn.get m = false ∧ (s.bootOut m b).tan = s.tan ∧
    (s.bootOut m b).md.mode = s.md.mode :=
  ⟨rfl, Both_get_set .., Both_get_set .., rfl, rfl⟩

/-! ### Phase D (R106, R573, R580) -/

/-- The profile copy of phase D: none once the lifecycle has ended. -/
def State.profileChoice (s : State) (m : Mast) (f : BootFacts) : Nat × Option Profile :=
  if s.sec.lifecycle = 4 then (2, none) else s.chooseProfile m f

/-- The profile copy of phase D, noted. -/
def State.profileNoted (s : State) (m : Mast) (c : Nat × Option Profile) : State :=
  let s1 := s.setFlash m { s.sec.flash.get m with profileUsed := c.1 }
  if s1.unsettled then { s1 with sec := { s1.sec with profile := c.2 } } else s1

/-- The alert signal of phase D. -/
def State.alertLoaded (s3 : State) (m : Mast) (b : BootState) : Option Profile → State
  | none => s3.setMem m { s3.mem.get m with alert := none }
  | some p =>
    let cur := (s3.mem.get m).alert
    let kept := !b.powerOn && (!b.package || cur.elim false (fun d => decide (fit 48 (Config.sha384 d) = p.alertHash)))
    let a := if kept then cur else s3.alertFor m p.alertHash
    let y := s3.sec.flash.get m
    let used := if a == some y.alert0 then 0 else if a == some y.alert1 then 1 else y.alertUsed
    let s4 := (s3.setMem m { s3.mem.get m with alert := a }).setFlash m { y with alertUsed := used }
    if a.isNone && !kept then s4.report m 0x98 0x32E00000 else s4

/-- Phase D up to the alert signal. -/
def State.playerReady (s : State) (m : Mast) (c : Nat × Option Profile) : State :=
  (s.profileNoted m c).setBoot m { (s.profileNoted m c).md.boot.get m with fallbackReady := true }

theorem phaseD_eq (s : State) (m : Mast) (f : BootFacts) : s.phaseD m f =
    (s.playerReady m (s.profileChoice m f)).alertLoaded m ((s.profileNoted m (s.profileChoice m f)).md.boot.get m)
      (s.profileChoice m f).2 := by
  unfold State.phaseD State.playerReady
  dsimp only
  unfold State.profileChoice
  generalize (if s.sec.lifecycle = 4 then ((2, none) : Nat × Option Profile) else s.chooseProfile m f) = c
  obtain ⟨i, o⟩ := c
  cases o with
  | none => rfl
  | some p => rfl

theorem profileNoted_leaves (s : State) (m : Mast) (c : Nat × Option Profile) :
    (s.profileNoted m c).md = s.md ∧ (s.profileNoted m c).mem = s.mem ∧
    (s.profileNoted m c).sec.flash.get m = { s.sec.flash.get m with profileUsed := c.1 } := by
  unfold State.profileNoted
  dsimp only
  split
  · exact ⟨rfl, rfl, Both_get_set ..⟩
  · exact ⟨rfl, rfl, Both_get_set ..⟩

theorem playerReady_leaves (hb : s.md.boot.get m = b) (c : Nat × Option Profile) :
    (s.playerReady m c).md.boot = s.md.boot.set m { b with fallbackReady := true } ∧ (s.playerReady m c).mem = s.mem ∧
    (s.playerReady m c).sec.flash.get m = { s.sec.flash.get m with profileUsed := c.1 } := by
  obtain ⟨hmd, hmem, hflash⟩ := profileNoted_leaves s m c
  subst hb
  refine ⟨?_, hmem, hflash⟩
  unfold State.playerReady State.setBoot
  rw [hmd]

/-- What phase D leaves with a signal that it keeps or finds. -/
theorem alertLoaded_some {p : Profile} {a : Option (List Byte)}
    (ha : (if (!b.powerOn && (!b.package || (s.mem.get m).alert.elim false
      (fun d => decide (fit 48 (Config.sha384 d) = p.alertHash)))) = true then (s.mem.get m).alert else s.alertFor m p.alertHash) = a)
    (hgood : a.isSome = true ∨ (!b.powerOn && (!b.package || (s.mem.get m).alert.elim false
      (fun d => decide (fit 48 (Config.sha384 d) = p.alertHash)))) = true) :
    (s.alertLoaded m b (some p)).md = s.md ∧ ((s.alertLoaded m b (some p)).mem.get m).alert = a := by
  have hquiet : ¬ (a.isNone && !(!b.powerOn && (!b.package || (s.mem.get m).alert.elim false
      (fun d => decide (fit 48 (Config.sha384 d) = p.alertHash))))) = true := by
    rcases hgood with h | h
    · rw [Option.isNone_eq_false_iff.mpr h, Bool.false_and]
      exact Bool.false_ne_true
    · rw [h, Bool.not_true, Bool.and_false]
      exact Bool.false_ne_true
  unfold State.alertLoaded
  dsimp only
  rw [ha, if_neg hquiet]
  refine ⟨rfl, ?_⟩
  unfold State.setFlash State.setMem
  dsimp only
  rw [Both_get_set]

theorem followFallback_leaves (s : State) (m : Mast) :
    (s.followFallback m).md = s.md ∧ (s.followFallback m).mem = s.mem ∧ (s.followFallback m).sec = s.sec ∧
    (s.followFallback m).tan = s.tan := by
  rw [followFallback_eq]
  exact ⟨rfl, rfl, rfl, rfl⟩

/-- Phase D ends in phase E. -/
theorem phaseD_goes {x : State} (hx : x.md.boot = s.md.boot.set m { b with fallbackReady := true }) (hp : b.phase = 4) :
    ((x.bootGo m 4).followFallback m).md.boot = s.md.boot.set m { b with phase := 5, fallbackReady := true } ∧
    ((x.bootGo m 4).followFallback m).mem = x.mem ∧ ((x.bootGo m 4).followFallback m).sec = x.sec := by
  have hget : x.md.boot.get m = { b with fallbackReady := true } := by rw [hx, Both_get_set]
  rw [bootGo_eq hget hp]
  obtain ⟨hmd, hmem, hsec, -⟩ := followFallback_leaves (x.setBoot m { b with fallbackReady := true, phase := 4 + 1 }) m
  refine ⟨?_, hmem, hsec⟩
  rw [hmd]
  unfold State.setBoot
  dsimp only
  rw [hx, Both_set_set]

/-! ### Phase E (R106, R539, R575) -/

theorem phaseE_takes {i : Nat} {w : FwImage} (hb : s.md.boot.get m = b) (h : s.chooseFirmware m f = some (i, w)) :
    (s.phaseE m f).2 = false ∧ (s.phaseE m f).1.md.boot = s.md.boot.set m { b with firmwareOk := true, remap := true } ∧
    ((s.phaseE m f).1.sec.flash.get m).fwBooted = i ∧ (s.phaseE m f).1.sec.rollback = Nat.max s.sec.rollback w.rollback := by
  subst hb
  unfold State.phaseE
  rw [h]
  refine ⟨rfl, rfl, ?_, rfl⟩
  unfold State.setBoot State.setFlash
  dsimp only
  rw [Both_get_set]

theorem phaseE_fails (h : s.chooseFirmware m f = none) : s.phaseE m f = (s, true) := by
  unfold State.phaseE
  rw [h]

/-! ### Phase H (R47, R106, R428) -/

theorem phaseH_settles (hb : s.md.boot.get m = b) (hmode : s.md.mode = .boot) (hopen : s.md.elect = none) :
    s.phaseH m = (s.setBoot m { b with completedAt := s.now }).electMast m := by
  subst hb
  have hnone : (s.setBoot m { s.md.boot.get m with completedAt := s.now }).bootCaptain = none := (if_pos hmode).trans hopen
  unfold State.phaseH
  dsimp only
  rw [hnone]
  exact if_pos hmode

theorem phaseHOther_eq (hp : (s.md.boot.get m.other).phase < 9) : s.phaseHOther m = s := by
  refine if_neg ?_
  rw [decide_eq_false (Nat.not_le.mpr hp), Bool.and_false, Bool.false_and]
  exact Bool.false_ne_true

/-! ### The end of BOOT (R47, R97, R99, R108) -/

theorem bootOver_boot (s : State) (m : Mast) : ((s.bootOver m).md.boot.get m).phase = 0 := by
  unfold State.bootOver State.setBoot
  dsimp only
  rw [Both_get_set]

theorem modeAfterBoot_one_of (s : State) (m : Mast) :
    s.modeAfterBoot m = .alarm ∨ s.modeAfterBoot m = .quiet ∨ s.modeAfterBoot m = .watch := by
  unfold State.modeAfterBoot
  split
  · exact .inl rfl
  · refine .inr ?_
    unfold State.endMode
    split
    · exact .inr rfl
    · split
      · split
        · exact .inr rfl
        · exact .inl rfl
      · exact .inl rfl

theorem firstDies_leaves (s : State) (m : Mast) (mode : Mode) :
    (s.firstDies m mode).tan = s.tan ∧ (s.firstDies m mode).md.boot = s.md.boot := by
  unfold State.firstDies
  dsimp only
  generalize hz : ({ s with md := { s.md with base := .quiet, mode := mode } } : State) = z
  have htan : z.tan = s.tan := by rw [← hz]
  have hboot : z.md.boot = s.md.boot := by rw [← hz]
  rw [← htan, ← hboot]
  split
  · exact ⟨rfl, rfl⟩
  · have hkeep := restartOverlay_keeps m (startDies_keeps m s.step (keeps_refl 2213600 z) rfl) rfl
    refine ⟨Keeps_same hkeep .tan rfl, ?_⟩
    rw [Keeps_same (restartOverlay_keeps m (keeps_refl 16384 _) rfl) .md rfl, startDies_md]

theorem runFrom_leaves (s : State) (mode : Mode) :
    (s.runFrom mode).tan = s.tan ∧ (s.runFrom mode).md.boot = s.md.boot ∧ (s.runFrom mode).md.mode = mode := by
  have henter := enterMode_md (s := s) mode .quiet 3
  have htan := Keeps_same (enterMode_keeps mode .quiet 3 (keeps_refl 224 s) rfl) .tan rfl
  unfold State.runFrom
  generalize s.enterMode mode .quiet 3 = u at henter htan
  have hoverlay := followOverlay_keeps (keeps_refl 16480 u) rfl
  have hmd : u.followOverlay.md = u.md := Keeps_same hoverlay .md rfl
  have htan' : u.followOverlay.tan = s.tan := (Keeps_same hoverlay .tan rfl).trans htan
  generalize u.followOverlay = v at hmd htan'
  obtain ⟨x, hshed, -⟩ := planShed_leaves v
  rw [hshed]
  have hrest := settle_keeps (followFallback_keeps .b (followFallback_keeps .a
    (keeps_refl (656384 + 8388608) ({ v with md := { v.md with shed := x } } : State)) rfl) rfl) rfl
  rw [Keeps_same hrest .tan rfl, Keeps_same hrest .md rfl]
  dsimp only
  rw [hmd, henter]
  exact ⟨htan', rfl, rfl⟩

theorem endDies_leaves (s : State) (m : Mast) :
    (s.endDies m).tan = s.tan ∧ (s.endDies m).md.boot = s.md.boot ∧ (s.endDies m).md.mode = s.md.mode := by
  unfold State.endDies
  dsimp only
  split
  · exact ⟨rfl, rfl, rfl⟩
  · exact ⟨rfl, rfl, rfl⟩

theorem beginJoin_leaves (s : State) (m : Mast) (p : Bool) (n : Nat) :
    (s.beginJoin m p n).tst m.other = s.tst m.other ∧ (s.beginJoin m p n).md = s.md := by
  have hother := congrArg MastTandem.st (setTst_mt_ne s .joining (other_ne m))
  have hmd := Keeps_same (setTst_keeps m .joining (keeps_refl 352 s) rfl) .md rfl
  unfold State.beginJoin
  generalize s.setTst m .joining = u at hother hmd
  dsimp only
  generalize hz : ({ u with tan := _, aud := _, hal := _ } : State) = z
  have hkeep := settle_keeps (keeps_refl 656384 z) rfl
  rw [State.tst, State.mt, Keeps_same hkeep .tan rfl, Keeps_same hkeep .md rfl, ← hz]
  exact ⟨hother, hmd⟩

theorem enterJoining_leaves (s : State) (m : Mast) (p : Bool) :
    (s.enterJoining m p).tst m.other = s.tst m.other ∧ (s.enterJoining m p).md = s.md := by
  unfold State.enterJoining
  dsimp only
  split
  · generalize hz : ({ s with tan := _ } : State) = z
    have hput := congrArg MastTandem.st (setTst_mt_ne z .out (other_ne m))
    have hmd := Keeps_same (setTst_keeps m .out (keeps_refl 352 z) rfl) .md rfl
    have hreport := report_below_reef3 (s := z.setTst m .out) (m := m) (src := 0xA1) (site := 0) (cls := 2) rfl rfl (by decide) rfl rfl
    rw [State.tst, State.mt, Keeps_same hreport .tan rfl, Keeps_same hreport .md rfl, hmd, ← hz]
    refine ⟨?_, rfl⟩
    rw [← hz] at hput
    exact hput
  · exact beginJoin_leaves _ m p 0

theorem joinIfAble_leaves (s : State) (m : Mast) (p : Bool) :
    (s.joinIfAble m p).tst m.other = s.tst m.other ∧ (s.joinIfAble m p).md = s.md := by
  unfold State.joinIfAble
  extract_lets held
  split
  · exact ⟨rfl, rfl⟩
  · split
    · exact enterJoining_leaves _ m p
    · exact ⟨rfl, rfl⟩

/-- The seats of the profile move no part but Halyard. -/
theorem installSeats_leaves (s : State) (p : Option Profile) : (s.installSeats p).tan = s.tan ∧ (s.installSeats p).md = s.md :=
  have hkeep := installSeats_keeps p (keeps_refl 96 s) rfl
  ⟨Keeps_same hkeep .tan rfl, Keeps_same hkeep .md rfl⟩

/-- The settled mast becomes CAPTAIN with its BOOT over, in the mode that the profile and its zones give (R47, R108). -/
theorem endBoot_leaves (s : State) (m : Mast) :
    (s.endBoot m).tst m = .captain ∧ ((s.endBoot m).md.boot.get m).phase = 0 ∧
    ((s.endBoot m).md.mode = .alarm ∨ (s.endBoot m).md.mode = .quiet ∨ (s.endBoot m).md.mode = .watch) := by
  unfold State.endBoot
  extract_lets other s1 s2 mode s3 alm s4
  have hover : (s1.md.boot.get m).phase = 0 := by
    simp only [s1]
    split
    · refine Eq.trans ?_ (bootOver_boot s m)
      unfold State.bootOver State.setBoot
      dsimp only
      rw [Both_get_set_ne _ _ (other_ne m).symm]
    · exact bootOver_boot s m
  obtain ⟨-, hseats⟩ := installSeats_leaves s1 s1.sec.profile
  have hput := setTst_keeps m .captain (keeps_refl 352 (s1.installSeats s1.sec.profile).profilePair) rfl
  have hboot2 : s2.md.boot = s1.md.boot := by
    simp only [s2]
    rw [Keeps_same hput .md rfl]
    exact congrArg ModeState.boot hseats
  have hst2 : s2.tst m = .captain := congrArg MastTandem.st (setTst_mt (s1.installSeats s1.sec.profile).profilePair m .captain)
  obtain ⟨htan3, hboot3⟩ := firstDies_leaves s2 m mode
  have hs3 : s3 = (s2.firstDies m mode).runFrom mode := rfl
  clear_value s3
  obtain ⟨htan4, hboot4, hmode4⟩ := runFrom_leaves (s2.firstDies m mode) mode
  rw [← hs3] at htan4 hboot4 hmode4
  have hst3 : s3.tst m = .captain := (tst_of_tan (htan4.trans htan3) m).trans hst2
  have hst : s4.tst m = .captain := hst3
  have hphase : (s4.md.boot.get m).phase = 0 := by
    change ((s3.md.boot).get m).phase = 0
    rw [hboot4, hboot3, hboot2]
    exact hover
  have hmode : s4.md.mode = mode := hmode4
  have hcase := modeAfterBoot_one_of s2 m
  split
  · obtain ⟨htan5, hboot5, hmode5⟩ := endDies_leaves s4 m.other
    obtain ⟨hjoin, hmd⟩ := joinIfAble_leaves (s4.endDies m.other) m.other true
    rw [other_other] at hjoin
    rw [hjoin, hmd, hboot5, hmode5, tst_of_tan htan5, hmode]
    exact ⟨hst, hphase, hcase⟩
  · rw [hmode]
    exact ⟨hst, hphase, hcase⟩

/-! ### The obligation -/

theorem exec_bootFailure (h : s.Boots m b) (hp : b.phase ≠ 0) : exec (.bootFailure m) s = .next (s.bootFail m) := by
  obtain ⟨rfl, -, hfree, hsound, hwaiting, -⟩ := h
  refine congrArg Outcome.next (if_neg ?_)
  rw [hfree, hsound, hwaiting, decide_eq_false hp]
  decide

theorem chooseProfile_none (h : (s.chooseProfile m f).2 = none) : s.chooseProfile m f = (2, none) := by
  unfold State.chooseProfile at h ⊢
  dsimp only at h ⊢
  split at h
  · split at h
    · cases h
    · cases h
  · cases h
  · cases h
  · rfl

section Phases

variable (h : s.Boots m b)
include h

theorem bootPhaseA (hp : b.phase = 1) : ∃ t, exec (.bootPhaseComplete m f) s = .next t ∧
    t.md.boot = s.md.boot.set m { b with phase := 2 } ∧ t.md.nest.tamper = false ∧ t.tan = s.tan ∧ t.sec = s.sec ∧
    (b.powerOn = true → f.nestBlank = true → (0x96, 0) ∈ (t.fl m).held) := by
  obtain ⟨q, hexec⟩ := bootPhase_runs (f := f) h hp (by decide)
  refine ⟨_, hexec, ?_⟩
  obtain ⟨hboot, htan, hsec, hheld⟩ := phaseA_leaves s m f
  obtain ⟨hboot', htan', hsec', hflt', htamper⟩ := phaseTamper_leaves (s.phaseA m f)
  have hwork : s.bootWork m f 1 = (s.phaseA m f).phaseTamper.setBoot m { b with phase := 2 } :=
    bootGo_eq (by rw [hboot', hboot, h.eq]) hp
  rw [hwork]
  refine ⟨congrArg (fun z : Both BootState => z.set m _) (hboot'.trans hboot), htamper, htan'.trans htan, hsec'.trans hsec,
    fun hon hblank => ?_⟩
  have hin := hheld (by rw [h.eq]; exact hon) hblank
  rw [State.fl, ← hflt'] at hin
  exact hin

theorem bootPhaseB (hp : b.phase = 2) : ∃ t, exec (.bootPhaseComplete m f) s = .next t ∧
    t.md.boot = s.md.boot.set m { b with phase := 3 } ∧ t.tan = s.tan ∧ t.mem = s.mem.set m (s.mem.get m).unionMaps ∧
    t.sec = s.sec ∧ ((s.mem.get m).mapsDisagree = true → (0x95, 0) ∈ (t.fl m).held) := by
  obtain ⟨q, hexec⟩ := bootPhase_runs (f := f) h hp (by decide)
  refine ⟨_, hexec, ?_⟩
  obtain ⟨hmd, htan, hsec, hmem, hheld⟩ := phaseB_leaves s m
  have hwork : s.bootWork m f 2 = (s.phaseB m).setBoot m { b with phase := 3 } := bootGo_eq (by rw [hmd, h.eq]) hp
  rw [hwork]
  exact ⟨congrArg (fun z : ModeState => z.boot.set m _) hmd, htan, hmem, hsec, hheld⟩

/-- The work of phases C and F where every fault has a spare. -/
theorem bootWork_passes {n : Nat} (hp : b.phase = n) (hn : n = 3 ∨ (n = 6 ∧ f.units = [])) (hstill : f.still = false)
    (hspares : (assignSpares true f.fails (s.mem.get m)).2.2 = []) : s.bootWork m f n =
      (s.setMem m (assignSpares true f.fails (s.mem.get m)).1).setBoot m { b with phase := n + 1 } := by
  have hgo : State.bootTried (s.bootRepair m f) m n =
      (s.setMem m (assignSpares true f.fails (s.mem.get m)).1).setBoot m { b with phase := n + 1 } := by
    rw [bootRepair_passes hstill hspares]
    exact bootGo_eq h.eq hp
  rcases hn with rfl | ⟨rfl, hunits⟩
  · exact hgo
  · have hnone : s.bootUnits m f = s := by
      unfold State.bootUnits
      rw [hunits, List.foldl_nil]
    change State.bootTried ((s.bootUnits m f).bootRepair m f) m 6 = _
    rw [hnone]
    exact hgo

theorem bootPhaseCF (hp : b.phase = 3 ∨ (b.phase = 6 ∧ f.units = [])) (hstill : f.still = false)
    (hspares : (assignSpares true f.fails (s.mem.get m)).2.2 = []) : ∃ t, exec (.bootPhaseComplete m f) s = .next t ∧
      t.md.boot = s.md.boot.set m { b with phase := b.phase + 1 } ∧
      t.mem = s.mem.set m (assignSpares true f.fails (s.mem.get m)).1 ∧ t.tan = s.tan ∧ t.hal = s.hal ∧ t.sec = s.sec := by
  obtain ⟨q, hexec⟩ := bootPhase_runs (f := f) h rfl (by omega)
  refine ⟨_, hexec, ?_⟩
  rw [bootWork_passes h rfl hp hstill hspares]
  exact ⟨rfl, rfl, rfl, rfl, rfl⟩

/-- The first failure of a mast's BOOT, whatever its phase. -/
theorem bootPhase_retries {n : Nat} {x : State} (hp : b.phase = n) (hn : n ≠ 0) (hx : x.Boots m b)
    (hwork : s.bootWork m f n = x.bootFail m) (hr : b.retried = false) (hot : (x.sup.get m).hot = false) :
    ∃ t, exec (.bootPhaseComplete m f) s = .next t ∧ t.tst m = .out ∧ (t.md.boot.get m).retried = true ∧ (t.md.boot.get m).phase = 1 := by
  obtain ⟨q, hexec⟩ := bootPhase_runs (f := f) h hp hn
  refine ⟨_, hexec, ?_⟩
  rw [hwork]
  obtain ⟨hout, hretried, hphase, -⟩ := bootFail_retries hx hr hot
  exact ⟨hout, hretried, hphase⟩

theorem bootPhaseC_fails (hp : b.phase = 3) (hstill : f.still = true) (hr : b.retried = false) (hot : (s.sup.get m).hot = false) :
    ∃ t, exec (.bootPhaseComplete m f) s = .next t ∧ t.tst m = .out ∧ (t.md.boot.get m).retried = true ∧ (t.md.boot.get m).phase = 1 := by
  refine bootPhase_retries h hp (by decide) (x := s.setMem m (assignSpares true f.fails (s.mem.get m)).1)
    ⟨h.eq, h.power, h.free, h.sound, h.waiting, h.mode⟩ ?_ hr hot
  exact congrArg (fun r => State.bootTried r m 3) (bootRepair_fails hstill)

theorem bootPhaseE_fails (hp : b.phase = 5) (hfw : s.chooseFirmware m f = none) (hr : b.retried = false)
    (hot : (s.sup.get m).hot = false) :
    ∃ t, exec (.bootPhaseComplete m f) s = .next t ∧ t.tst m = .out ∧ (t.md.boot.get m).retried = true ∧ (t.md.boot.get m).phase = 1 := by
  refine bootPhase_retries h hp (by decide) (x := s.powerDies m) ⟨h.eq, h.power, h.free, h.sound, h.waiting, h.mode⟩ ?_ hr ?_
  · exact congrArg (fun r : State × Bool => State.bootTried (r.1.powerDies m, r.2) m 5) (phaseE_fails hfw)
  · unfold State.powerDies
    dsimp only
    rw [Both_get_set]
    exact hot

/-- Phase D, up to the alert signal, which its own lemmas give. -/
theorem bootPhaseD (hp : b.phase = 4) {c : Nat × Option Profile} (hc : s.profileChoice m f = c)
    (hboot : ((s.playerReady m c).alertLoaded m b c.2).md = (s.playerReady m c).md) :
    ∃ t, exec (.bootPhaseComplete m f) s = .next t ∧ t.md.boot = s.md.boot.set m { b with phase := 5, fallbackReady := true } ∧
      t.mem = ((s.playerReady m c).alertLoaded m b c.2).mem ∧ t.sec = ((s.playerReady m c).alertLoaded m b c.2).sec := by
  obtain ⟨q, hexec⟩ := bootPhase_runs (f := f) h hp (by decide)
  refine ⟨_, hexec, ?_⟩
  obtain ⟨hready, -, -⟩ := playerReady_leaves h.eq c
  have hmd := (profileNoted_leaves s m c).1
  have hwork : s.bootWork m f 4 = ((((s.playerReady m c).alertLoaded m b c.2)).bootGo m 4).followFallback m := by
    have hD : s.phaseD m f = (s.playerReady m c).alertLoaded m b c.2 := by
      rw [phaseD_eq, hc, hmd, h.eq]
    exact congrArg (fun z => (State.bootGo z m 4).followFallback m) hD
  rw [hwork]
  exact phaseD_goes ((congrArg ModeState.boot hboot).trans hready) hp

theorem bootPhaseD_none (hp : b.phase = 4) (hnone : (s.chooseProfile m f).2 = none) : ∃ t, exec (.bootPhaseComplete m f) s = .next t ∧
    t.md.boot = s.md.boot.set m { b with phase := 5, fallbackReady := true } ∧ (t.mem.get m).alert = none ∧
    (t.sec.flash.get m).profileUsed = 2 := by
  have hc : s.profileChoice m f = (2, none) := by
    unfold State.profileChoice
    split
    · rfl
    · exact chooseProfile_none hnone
  obtain ⟨t, hexec, hboot, hmem, hsec⟩ := bootPhaseD h hp hc rfl
  obtain ⟨-, -, hflash⟩ := playerReady_leaves h.eq (2, none)
  refine ⟨t, hexec, hboot, ?_, ?_⟩
  · rw [hmem]
    exact congrArg MemMast.alert (Both_get_set _ _ _)
  · rw [hsec]
    exact congrArg FlashState.profileUsed hflash

theorem bootPhaseD_keeps {p : Profile} (hp : b.phase = 4) (hlife : s.sec.lifecycle ≠ 4) (hsome : (s.chooseProfile m f).2 = some p)
    (hon : b.powerOn = false) (hpkg : b.package = false) : ∃ t, exec (.bootPhaseComplete m f) s = .next t ∧
      t.md.boot = s.md.boot.set m { b with phase := 5, fallbackReady := true } ∧ (t.mem.get m).alert = (s.mem.get m).alert := by
  obtain ⟨-, hmem', -⟩ := playerReady_leaves h.eq (s.chooseProfile m f)
  have hkept : (!b.powerOn && (!b.package || ((s.playerReady m (s.chooseProfile m f)).mem.get m).alert.elim false
      (fun d => decide (fit 48 (Config.sha384 d) = p.alertHash)))) = true := by
    rw [hon, hpkg]
    rfl
  obtain ⟨hmd, halert⟩ := alertLoaded_some (if_pos hkept) (.inr hkept)
  rw [← hsome] at hmd halert
  obtain ⟨t, hexec, hboot, hmem, -⟩ := bootPhaseD h hp (if_neg hlife) hmd
  refine ⟨t, hexec, hboot, ?_⟩
  rw [hmem, halert, hmem']

theorem bootPhaseD_loads {p : Profile} {d : List Byte} (hp : b.phase = 4) (hlife : s.sec.lifecycle ≠ 4)
    (hsome : (s.chooseProfile m f).2 = some p) (hon : b.powerOn = true) (hd : s.alertFor m p.alertHash = some d) :
    ∃ t, exec (.bootPhaseComplete m f) s = .next t ∧
      t.md.boot = s.md.boot.set m { b with phase := 5, fallbackReady := true } ∧ (t.mem.get m).alert = some d := by
  obtain ⟨-, -, hflash⟩ := playerReady_leaves h.eq (s.chooseProfile m f)
  have hfound : (s.playerReady m (s.chooseProfile m f)).alertFor m p.alertHash = some d := by
    rw [← hd]
    unfold State.alertFor
    rw [hflash]
  obtain ⟨hmd, halert⟩ := alertLoaded_some (b := b) ((if_neg (by rw [hon]; exact Bool.false_ne_true)).trans hfound) (.inl rfl)
  rw [← hsome] at hmd halert
  obtain ⟨t, hexec, hboot, hmem, -⟩ := bootPhaseD h hp (if_neg hlife) hmd
  refine ⟨t, hexec, hboot, ?_⟩
  rw [hmem, halert]

theorem bootPhaseE {i : Nat} {w : FwImage} (hp : b.phase = 5) (hfw : s.chooseFirmware m f = some (i, w)) :
    ∃ t, exec (.bootPhaseComplete m f) s = .next t ∧
      t.md.boot = s.md.boot.set m { b with phase := 6, firmwareOk := true, remap := true } ∧ t.md.mixOn.get m = true ∧
      t.md.routeOn.get m = true ∧ (t.sec.flash.get m).fwBooted = i ∧ t.sec.rollback = Nat.max s.sec.rollback w.rollback := by
  obtain ⟨q, hexec⟩ := bootPhase_runs (f := f) h hp (by decide)
  refine ⟨_, hexec, ?_⟩
  obtain ⟨hgood, hboot, hslot, hroll⟩ := phaseE_takes h.eq hfw
  have hwork : s.bootWork m f 5 = ((s.phaseE m f).1.powerDies m).setBoot m { b with firmwareOk := true, remap := true, phase := 6 } := by
    change State.bootTried ((s.phaseE m f).1.powerDies m, (s.phaseE m f).2) m 5 = _
    rw [hgood]
    refine bootGo_eq (c := { b with firmwareOk := true, remap := true }) ?_ hp
    exact (congrArg (fun z : Both BootState => z.get m) hboot).trans (Both_get_set _ _ _)
  rw [hwork]
  refine ⟨?_, Both_get_set .., Both_get_set .., hslot, hroll⟩
  exact (congrArg (fun z : Both BootState => z.set m _) hboot).trans (Both_set_set ..)

theorem bootPhaseG (hp : b.phase = 7) : ∃ t, exec (.bootPhaseComplete m f) s = .next t ∧
    t.md = { s.md with boot := s.md.boot.set m { b with phase := 8 } } ∧ t = { s with md := t.md, port := t.port } := by
  obtain ⟨q, hexec⟩ := bootPhase_runs (f := f) h hp (by decide)
  refine ⟨_, hexec, ?_⟩
  have hwork : s.bootWork m f 7 = s.setBoot m { b with phase := 8 } := bootGo_eq h.eq hp
  rw [hwork]
  exact ⟨rfl, rfl⟩

theorem bootPhaseH (hp : b.phase = 8) (hmode : s.md.mode = .boot) (hopen : s.md.elect = none) (hother : (s.md.boot.get m.other).phase < 9) :
    ∃ t, exec (.bootPhaseComplete m f) s = .next t ∧ t.md.elect = some m ∧
      t.md.boot = s.md.boot.set m { b with phase := 9, completedAt := s.now } ∧ t.sec.profile = (s.sec.flash.get m).profile := by
  obtain ⟨q, hexec⟩ := bootPhase_runs (f := f) h hp (by decide)
  refine ⟨_, hexec, ?_⟩
  have hgo : (s.phaseH m).bootGo m 8 =
      ((s.setBoot m { b with completedAt := s.now }).electMast m).setBoot m { b with completedAt := s.now, phase := 9 } := by
    rw [phaseH_settles h.eq hmode hopen]
    exact bootGo_eq (c := { b with completedAt := s.now }) (Both_get_set _ _ _) hp
  have hwork : s.bootWork m f 8 =
      ((s.setBoot m { b with completedAt := s.now }).electMast m).setBoot m { b with completedAt := s.now, phase := 9 } := by
    refine (congrArg (fun z => State.phaseHOther z m) hgo).trans (phaseHOther_eq ?_)
    change ((((s.md.boot.set m _).set m _) : Both BootState).get m.other).phase < 9
    rw [Both_get_set_other, Both_get_set_other]
    exact hother
  rw [hwork]
  exact ⟨rfl, Both_set_set .., rfl⟩

theorem bootPhaseI (hp : b.phase = 9) : ∃ t, exec (.bootPhaseComplete m f) s = .next t ∧
    t.md = { s.md with boot := s.md.boot.set m { b with phase := 10 } } ∧ t.tan = s.tan ∧ t.sec = s.sec ∧
    (t.alm.get m).checking = true := by
  obtain ⟨q, hexec⟩ := bootPhase_runs (f := f) h hp (by decide)
  refine ⟨_, hexec, ?_⟩
  have hgo : (s.startCheck m).bootGo m 9 = (s.startCheck m).setBoot m { b with phase := 10 } := bootGo_eq h.eq hp
  have hwork : s.bootWork m f 9 = (((s.startCheck m).setBoot m { b with phase := 10 }).reloadVideoPll m).settle := by
    change (((s.startCheck m).bootGo m 9).reloadVideoPll m).settle = _
    rw [hgo]
  have hkeep : Keeps 656384 ((s.startCheck m).setBoot m { b with phase := 10 })
      (((s.startCheck m).setBoot m { b with phase := 10 }).reloadVideoPll m).settle :=
    settle_keeps (reloadPll_keeps m 2 _ (keeps_refl 656384 _) rfl) rfl
  rw [hwork]
  generalize (((s.startCheck m).setBoot m { b with phase := 10 }).reloadVideoPll m).settle = u at hkeep
  refine ⟨Keeps_same hkeep .md rfl, Keeps_same hkeep .tan rfl, Keeps_same hkeep .sec rfl, ?_⟩
  refine (congrArg (fun z : Both AlarmMast => (z.get m).checking) (Keeps_same hkeep .alm rfl)).trans ?_
  change ((s.alm.set m _).get m).checking = true
  rw [Both_get_set]

theorem bootPhaseJ (hp : b.phase = 10) (hmode : s.md.mode = .boot) :
    exec (.bootPhaseComplete m f) s = .next (s.setBoot m { b with ready := true }) := by
  have hJ : s.bootWork m f 10 = s.setBoot m { b with ready := true } := by
    refine (if_pos hmode).trans ?_
    rw [h.eq]
  rw [exec_bootPhaseComplete h hp (by decide), hJ]
  refine congrArg Outcome.next (if_pos ?_)
  change ((s.md.boot.set m { b with ready := true }).get m).phase = (s.md.boot.get m).phase
  rw [Both_get_set, h.eq]

theorem bootFailure_gives_up (hp : b.phase ≠ 0) (hr : b.retried = true) (hsingle : (s.md.boot.get m.other).failed = false)
    (hbar : s.tan.barred.get m.other = false) : ∃ t, exec (.bootFailure m) s = .next t ∧
      t.md.boot = s.md.boot.set m { b with phase := 0, failed := true } ∧ t.md.mixOn.get m = false ∧ t.md.routeOn.get m = false ∧
      t.tan = s.tan ∧ t.md.mode = s.md.mode := by
  have hrec : ({ b with phase := 0, failed := true, ready := false } : BootState) = { b with phase := 0, failed := true } := by
    rw [← h.waiting]
  have hleaves := bootOut_leaves s m b
  refine ⟨_, exec_bootFailure h hp, ?_⟩
  rw [bootFail_gives_up h.eq hr, hsingle, hbar, if_neg (by rw [Bool.or_self, Bool.false_and]; exact Bool.false_ne_true), ← hrec]
  exact hleaves

theorem bootFailure_locks_out (hp : b.phase ≠ 0) (hr : b.retried = true) (hboth : (s.md.boot.get m.other).failed = true)
    (hmode : s.md.mode = .boot) : ∃ t, exec (.bootFailure m) s = .next t ∧ (t.md.boot.get m).failed = true ∧ t.md.mode = .lockout ∧
      t.md.nest.lockout.source = 0xFFFF := by
  refine ⟨_, exec_bootFailure h hp, ?_⟩
  obtain ⟨u, hreport, hkeep⟩ := report_bootFailed (s.bootOut m b) m
  rw [bootFail_gives_up h.eq hr, hboth, if_pos (by rw [Bool.true_or, decide_eq_true hmode]; rfl), hreport]
  obtain ⟨hboot, -, -, -, hmode'⟩ := bootOut_leaves s m b
  have hmd : u.md = (s.bootOut m b).md := Keeps_same hkeep .md rfl
  have hlock := lockout_leaves (s := u) 0xFFFF false (by rw [hmd, hmode', hmode]; decide)
  obtain ⟨r, hnest, hsource, -, -⟩ := hlock.record
  refine ⟨?_, hlock.mode, ?_⟩
  · rw [lockout_boot, hmd, hboot, Both_get_set]
  · rw [hnest]
    exact hsource

end Phases

/-- Settles O30: phase by phase through the work of each, and the end step through its stages. -/
theorem bootRunsToItsEnd : Obligations.BootRunsToItsEnd := by
  unfold Obligations.BootRunsToItsEnd
  refine ⟨fun m s b f hb hpower hfree hsound hwaiting hmode => ?_, fun m s helect hmode hready => ?_⟩
  · have h : s.Boots m b := ⟨hb.symm, hpower, hfree, hsound, hwaiting, hmode⟩
    refine ⟨bootPhaseA h, bootPhaseB h, bootPhaseCF h, bootPhaseC_fails h, bootPhaseD_none h, fun p => bootPhaseD_keeps h,
      fun p d => bootPhaseD_loads h, fun i w => bootPhaseE h, bootPhaseE_fails h, bootPhaseG h, bootPhaseH h, bootPhaseI h,
      bootPhaseJ h, fun hp hr hot => ?_, bootFailure_gives_up h, bootFailure_locks_out h⟩
    exact ⟨_, exec_bootFailure h hp, bootFail_retries h hr hot⟩
  · obtain ⟨hcaptain, hphase, hcase⟩ := endBoot_leaves ({ s with step := s.step + 1 } : State) m
    refine ⟨s.atStep (s.step + 1) (fun x => x.endBoot m), ?_, hcaptain, hphase, rfl, hcase⟩
    change execBootEnd s = _
    unfold execBootEnd
    rw [helect]
    refine congrArg Outcome.next (if_neg ?_)
    rw [hmode, hready]
    decide

end Sys2Proof.Machine
